-- ==== Sys2Proof/Word.lean ====
section
/-! DEFINITION. The plain words of the module: bytes, 64-bit words, sparse tables, times and the common
status byte (spec/00_scope.md R6, R7, R11; spec/04_nalpex_device_ops.md R121). -/

namespace Sys2Proof

/-- A byte. -/
abbrev Byte := BitVec 8

/-- A 64-bit word: a general register, a descriptor word, a status word. -/
abbrev Word := BitVec 64

/-- Sparse data by number: keys strictly rising; an unlisted key holds the table's default. -/
abbrev Table (α : Type) := List (Nat × α)

/-- R7: 48 bits of TAI seconds and 32 bits of nanoseconds. -/
structure Time80 where
  sec : Nat
  ns : Nat
deriving DecidableEq, Repr

/-- R11: the class in bits [7:5] of the common status byte. -/
inductive StatusClass where
  | done | delayed | refused | withdrawn | resetDiscarded | poisoned | partialDone | fault
deriving DecidableEq, Repr

/-- R121: the reason in bits [4:0] of the common status byte, in code order. -/
inductive Reason where
  | none | credit | engine | overlap | power | pending | mirror | owner
  | lock | threshold | address | range | state | budget | pace | unfenced
  | check | rollback | size | binding | link | timeout | retries | guard
  | wake | reset | error | illegal | align | stack | arith | internal
deriving DecidableEq, Repr

/-- R11: the common status byte. -/
structure Status where
  cls : StatusClass
  reason : Reason
deriving DecidableEq, Repr

/-- A part of the module (R40): its class code 1-7 and its instance. -/
structure Part where
  cls : Nat
  inst : Nat
deriving DecidableEq, Repr

/-- A Gwynty unit (R40, R441): the module itself, its twin pair, the group at a level, or a part. -/
inductive UnitId where
  | module
  | pair
  | group (level : Nat)
  | part (p : Part)
deriving DecidableEq, Repr

end Sys2Proof
end

