-- ==== Sys2Proof/Syntax.lean ====
section
/-! DEFINITION. The commands of the block: the 357 rows of spec/opcode_table.json, and the data that the outside
world gives with them. Instruction fields are those of spec/03_nalpex_core.md R65. -/

namespace Sys2Proof

/-- R65 format A without fn[7:0]: rd, rs1, rs2 and fn[9:8]. -/
structure FmtA where
  rd : BitVec 5
  rs1 : BitVec 5
  rs2 : BitVec 5
  hi : BitVec 2 := 0
deriving DecidableEq, Repr

/-- R65 format I without fn3. -/
structure FmtI where
  rd : BitVec 5
  rs1 : BitVec 5
  imm : BitVec 12
deriving DecidableEq, Repr

/-- R65 format U. -/
structure FmtU where
  rd : BitVec 5
  imm : BitVec 20
deriving DecidableEq, Repr

/-- R65 format M. -/
structure FmtM where
  rt : BitVec 5
  base : BitVec 5
  size : BitVec 3
  imm : BitVec 12
deriving DecidableEq, Repr

/-- R65 format B without cond. -/
structure FmtB where
  rs1 : BitVec 5
  rs2 : BitVec 5
  disp : BitVec 12
deriving DecidableEq, Repr

/-- R65 format J. -/
structure FmtJ where
  disp : BitVec 25
deriving DecidableEq, Repr

/-- R65 format T; `lo` is the unused field [7:0]. -/
structure FmtT where
  rs1 : BitVec 5
  count : BitVec 12
  lo : BitVec 8 := 0
deriving DecidableEq, Repr

/-- R65 format L. -/
structure FmtL where
  rs : BitVec 5
  bound : BitVec 12
  len : BitVec 8
deriving DecidableEq, Repr

/-- R65 format Q without fn. -/
structure FmtQ where
  acc : BitVec 2
  rd : BitVec 5
  rs1 : BitVec 5
  rs2 : BitVec 5
deriving DecidableEq, Repr

/-- R65 format S without fn. -/
structure FmtS where
  rt : BitVec 5
  sr : BitVec 12
deriving DecidableEq, Repr

/-- The queue a unit command is taken from (R204): 0x0010 for unit commands, 0x0011 for pair commands
forwarded by the twin, 0x0012 for group commands passed to a member. -/
inductive CmdQueue where
  | unit | pair | group
deriving DecidableEq, Repr

/-- The engine or firmware that puts an item (R185, R188, R444). -/
inductive EngineSrc where
  /-- the management firmware for a host's session, by suite, host and the session's number (R167, R175); host 0 for no session -/
  | session (suite host number : Nat)
  /-- an engine unit of the module -/
  | engine (p : Part)
deriving DecidableEq, Repr

/-- An error that the Larder meets (R199, R200): in a queue's control state; in the first or the second stored header of the item at a
place in the queue, in entry order; or in a 32-bit word of that item's payload. -/
inductive QueueError where
  | control
  | header (place : Nat) (second : Bool)
  | payload (place word : Nat)
deriving DecidableEq, Repr

/-- A queue and the error that the Larder meets in it. -/
structure LarderError where
  queue : Nat
  error : QueueError
deriving DecidableEq, Repr

/-- R14: a token on die link `link` with `bits` wrong bits. -/
structure TokenError where
  link : Nat
  bits : Nat
deriving DecidableEq, Repr

/-- R52: a group command under way: the level of its group and its TAG. -/
structure GroupTag where
  level : Nat
  tag : Nat
deriving DecidableEq, Repr

/-- R51, R52: a member's answer to a group command, and whether its declaration of the group is the speaker's. -/
structure MemberAnswer where
  status : Status
  same : Bool
deriving DecidableEq, Repr

/-- An item as its producer writes it: priority, the producer's poison tag, whether the writing ends in
LENGTH (R185; false: the producer discards the packet, such as a frame whose FCS fails). -/
structure ItemIn where
  prio : Nat
  ptag : Bool
  written : Bool
  data : List Byte
deriving DecidableEq, Repr

/-- An Ethernet frame, destination MAC to payload; `tag` is the TCI of a VLAN tag. -/
structure Frame where
  dst : Nat
  src : Nat
  tag : Option Nat
  ethertype : Nat
  payload : List Byte
deriving DecidableEq, Repr

/-- What a port's MAC sees (R247): a frame, its length from DA to FCS, whether the FCS is correct, PCS errors
met, the PAUSE quanta when it is a PAUSE frame, and the ns that have passed since its start-of-frame delimiter crossed the
reference plane (R281). -/
structure MacRx where
  frame : Frame
  len : Nat
  fcsOk : Bool
  symbolErrors : Nat
  pause : Option Nat
  sfdAgo : Nat
deriving DecidableEq, Repr

/-- What link training or negotiation settled (R251, R278). -/
structure LinkChange where
  up : Bool
  level2v4 : Bool
  master : Bool
  seed : Bool
  eee : Bool
  rate : Nat
  lpAdv : BitVec 4
  lpFec : BitVec 2
deriving DecidableEq, Repr

/-- A CAN frame of a Hallway bus (R290, R295). -/
structure HallFrame where
  format : Nat
  id : Nat
  ide : Bool
  rtr : Bool
  brs : Bool
  esi : Bool
  xlSec : Bool
  dlc : Nat
  sdt : Nat
  vcid : Nat
  af : Nat
  data : List Byte
  sofAgo : Nat
deriving DecidableEq, Repr

/-- How a transmit attempt ended on the bus (R298, R299, R303); the error kinds are those of LAST_ERROR. -/
inductive AttemptEnd where
  | success
  | arbitrationLost
  | error (kind : Nat) (spared : Bool) (dominant : Nat)
deriving DecidableEq, Repr

/-- An error of another node's frame: LAST_ERROR's kind, whether it was a bit error in the port's own flag, and the runs of eight dominant
bits after the flag (R303). -/
structure RxError where
  kind : Nat
  inFlag : Bool
  dominant : Nat
deriving DecidableEq, Repr

/-- A point's value: 64 bits, and seconds [47:32] for TIME80 (R106, R142). -/
structure PointVal where
  v : BitVec 64
  hi : BitVec 16 := 0
deriving DecidableEq, Repr

/-- One decimated sample of the 28 metering channels (R322), in counts of 24 bits: V0-V3, and I0-I23 through the path of unity gain and
through that of 32 times the gain. -/
structure MeterSample where
  volts : List Int
  unity : List Int
  high : List Int
deriving DecidableEq, Repr

/-- A metering window (R326), which ends at the present house time: its samples, and the sample before the first and the one after the
last, between which and those the zero crossings lie that bound it. -/
structure MeterWindow where
  before : MeterSample
  samples : List MeterSample
  after : MeterSample
deriving DecidableEq, Repr

/-- R225: a heartbeat token (`strobe` false) or a strobe word as received, with its CRC check's outcome. -/
structure Heartbeat where
  strobe : Bool
  crcOk : Bool
  role : Nat
  inStep : Bool
  healthy : Bool
  epoch : Nat
  dseq : Nat
  /-- R239 step 1: the switch instant, with which the active's token answers the member that asked -/
  tsw : Option Time80 := none
deriving DecidableEq, Repr

/-- R222, R351: what a SEEKING member learns of its partner on meeting it. -/
structure PartnerInfo where
  digest : BitVec 64
  mirrorVer : Nat
  serial : Nat
  role : Nat
  transcriptOk : Bool
deriving DecidableEq, Repr

/-- A word on the Landing link, with the poison tags of its two 32-bit halves in the side band (R224). -/
structure LinkWord where
  w : BitVec 64
  poison : BitVec 2
deriving DecidableEq, Repr

/-- R230, R233: the items of a delta as they arrive, and whether every one of them is there and intact. -/
structure DeltaItems where
  items : List (List LinkWord)
  intact : Bool
deriving DecidableEq, Repr

/-- R372, R374: an error in one byte of the line the scrubber reads: its offset in the line, and whether two or
more bits are wrong. -/
structure Upset where
  offset : Nat
  uncorrectable : Bool
deriving DecidableEq, Repr

/-- R353: the whole Fusebox read at the low-margin and at the high-margin reference: the bits of each word that
the low-margin read sees as 1 although the high-margin read sees 0. -/
structure FuseReads where
  marginal : List (Nat × BitVec 32)
deriving DecidableEq, Repr

/-- R412: what the built-in tests find, and the pins sampled at a start (R219, R405). -/
structure BootEnv where
  coreFail : BitVec 32
  m0Fail : Bool
  m1Fail : Bool
  memFail : Bool
  laneFail : List Nat
  linkFail : List Nat
  paceFail : List Nat
  refclkOk : Bool
  twinRole : Bool
  bootMs : Nat
  reads : FuseReads
deriving DecidableEq, Repr

/-- R417: the counts of a loopback test. -/
structure LoopResult where
  sent : Nat
  received : Nat
  bad : Nat
  maxLatNs : Nat
deriving DecidableEq, Repr

/-- R30: who made a Stairwell request that stalls: an instruction of a context, the sequencer for the oldest request of a context, the
Cellar for the oldest request of a suite, the unit command at the head of its queue, or an engine on its own account. -/
inductive Requester where
  | context (c : Nat)
  | cfg (c : Nat)
  | key (suite : Nat)
  | command (q : CmdQueue)
  | engine
deriving DecidableEq, Repr

/-- A register that takes a plain write (R8, R9): a status word of a unit, the status word 0 of a Hearth slot,
or the room pace word. -/
inductive RegRef where
  | status (u : UnitId) (word : Nat)
  | slot (n : Nat)
deriving DecidableEq, Repr

/-- R175: an authenticated host session, under a number that no open session has: the port it runs over (192, 193 or 194), the queues it puts into and
the queues it consumes. -/
structure SessionOpen where
  number : Nat
  host : Nat
  suite : Nat
  rank : Nat
  port : Nat
  puts : List Nat
  takes : List Nat
deriving DecidableEq, Repr

/-- The commands of the block: one constructor per row of spec/opcode_table.json. -/
inductive Instr where
  /-- R67 ADD. -/
  | addR (k : Nat) (f : FmtA)
  /-- R67 SUB. -/
  | subR (k : Nat) (f : FmtA)
  /-- R67 AND. -/
  | andR (k : Nat) (f : FmtA)
  /-- R67 OR. -/
  | orR (k : Nat) (f : FmtA)
  /-- R67 XOR. -/
  | xorR (k : Nat) (f : FmtA)
  /-- R67 ANDN. -/
  | andn (k : Nat) (f : FmtA)
  /-- R67 SHL. -/
  | shl (k : Nat) (f : FmtA)
  /-- R67 SHR. -/
  | shr (k : Nat) (f : FmtA)
  /-- R67 SAR. -/
  | sar (k : Nat) (f : FmtA)
  /-- R67 ROR. -/
  | ror (k : Nat) (f : FmtA)
  /-- R67 SLT. -/
  | slt (k : Nat) (f : FmtA)
  /-- R67 SLTU. -/
  | sltu (k : Nat) (f : FmtA)
  /-- R67 MIN. -/
  | minR (k : Nat) (f : FmtA)
  /-- R67 MAX. -/
  | maxR (k : Nat) (f : FmtA)
  /-- R67 MINU. -/
  | minu (k : Nat) (f : FmtA)
  /-- R67 MAXU. -/
  | maxu (k : Nat) (f : FmtA)
  /-- R67 ADDS. -/
  | adds (k : Nat) (f : FmtA)
  /-- R67 SUBS. -/
  | subs (k : Nat) (f : FmtA)
  /-- R67 CLZ. -/
  | clz (k : Nat) (f : FmtA)
  /-- R67 POPC. -/
  | popc (k : Nat) (f : FmtA)
  /-- R67 MUL. -/
  | mul (k : Nat) (f : FmtA)
  /-- R67 MULH. -/
  | mulh (k : Nat) (f : FmtA)
  /-- R67 MULHU. -/
  | mulhu (k : Nat) (f : FmtA)
  /-- R68 DIV. -/
  | divR (k : Nat) (f : FmtA)
  /-- R68 DIVU. -/
  | divu (k : Nat) (f : FmtA)
  /-- R68 REM. -/
  | rem (k : Nat) (f : FmtA)
  /-- R68 REMU. -/
  | remu (k : Nat) (f : FmtA)
  /-- R67 SEL. -/
  | selR (k : Nat) (f : FmtA)
  /-- R69 ADDK. -/
  | addk (k : Nat) (f : FmtI)
  /-- R69 ADDKW. -/
  | addkw (k : Nat) (f : FmtI)
  /-- R69 ANDK. -/
  | andk (k : Nat) (f : FmtI)
  /-- R69 ORK. -/
  | ork (k : Nat) (f : FmtI)
  /-- R69 XORK. -/
  | xork (k : Nat) (f : FmtI)
  /-- R69 CMPK. -/
  | cmpk (k : Nat) (f : FmtI)
  /-- R69 SHK. -/
  | shk (k : Nat) (f : FmtI)
  /-- R69 BITK. -/
  | bitk (k : Nat) (f : FmtI)
  /-- R70 LUI. -/
  | lui (k : Nat) (f : FmtU)
  /-- R70 LUH. -/
  | luh (k : Nat) (f : FmtU)
  /-- R70 ADPC. -/
  | adpc (k : Nat) (f : FmtU)
  /-- R75 LD. -/
  | ld (k : Nat) (f : FmtM)
  /-- R75 ST. -/
  | st (k : Nat) (f : FmtM)
  /-- R76 SWAP. -/
  | swap (k : Nat) (f : FmtA)
  /-- R76 AADD. -/
  | aadd (k : Nat) (f : FmtA)
  /-- R76 AAND. -/
  | aand (k : Nat) (f : FmtA)
  /-- R76 AOR. -/
  | aor (k : Nat) (f : FmtA)
  /-- R76 AMAX. -/
  | amax (k : Nat) (f : FmtA)
  /-- R76 AMIN. -/
  | amin (k : Nat) (f : FmtA)
  /-- R78 BEQ. -/
  | beq (k : Nat) (f : FmtB)
  /-- R78 BNE. -/
  | bne (k : Nat) (f : FmtB)
  /-- R78 BLT. -/
  | blt (k : Nat) (f : FmtB)
  /-- R78 BGE. -/
  | bge (k : Nat) (f : FmtB)
  /-- R78 BLTU. -/
  | bltu (k : Nat) (f : FmtB)
  /-- R78 BGEU. -/
  | bgeu (k : Nat) (f : FmtB)
  /-- R78 JMP. -/
  | jmp (k : Nat) (f : FmtJ)
  /-- R79 CALL. -/
  | call (k : Nat) (f : FmtJ)
  /-- R80 NOP. -/
  | nop (k : Nat) (f : FmtA)
  /-- R80 RET. -/
  | ret (k : Nat) (f : FmtA)
  /-- R63 FENCE. -/
  | fence (k : Nat) (f : FmtA)
  /-- R80 END. -/
  | endCycle (k : Nat) (f : FmtA)
  /-- R82 JT. -/
  | jt (k : Nat) (f : FmtT)
  /-- R83 LOOP. -/
  | loopN (k : Nat) (f : FmtL)
  /-- R85 SRR. -/
  | srr (k : Nat) (f : FmtS)
  /-- R85 SRW. -/
  | srw (k : Nat) (f : FmtS)
  /-- R72 QMUL. -/
  | qmul (k : Nat) (f : FmtQ)
  /-- R72 MAC. -/
  | mac (k : Nat) (f : FmtQ)
  /-- R72 MSU. -/
  | msu (k : Nat) (f : FmtQ)
  /-- R72 ACLR. -/
  | aclr (k : Nat) (f : FmtQ)
  /-- R72 ALD. -/
  | ald (k : Nat) (f : FmtQ)
  /-- R72 AMOV. -/
  | amov (k : Nat) (f : FmtQ)
  /-- R72 ARND. -/
  | arnd (k : Nat) (f : FmtQ)
  /-- R72 ASH. -/
  | ash (k : Nat) (f : FmtQ)
  /-- R72 QADD. -/
  | qadd (k : Nat) (f : FmtQ)
  /-- R72 QSUB. -/
  | qsub (k : Nat) (f : FmtQ)
  /-- R72 QMULR. -/
  | qmulr (k : Nat) (f : FmtQ)
  /-- R72 QNEG. -/
  | qneg (k : Nat) (f : FmtQ)
  /-- R72 QABS. -/
  | qabs (k : Nat) (f : FmtQ)
  /-- R74 FADD. -/
  | fadd (k : Nat) (f : FmtA)
  /-- R74 FSUB. -/
  | fsub (k : Nat) (f : FmtA)
  /-- R74 FMUL. -/
  | fmul (k : Nat) (f : FmtA)
  /-- R74 FDIV. -/
  | fdiv (k : Nat) (f : FmtA)
  /-- R74 FSQRT. -/
  | fsqrt (k : Nat) (f : FmtA)
  /-- R74 FMA. -/
  | fma (k : Nat) (f : FmtA)
  /-- R74 FMIN. -/
  | fmin (k : Nat) (f : FmtA)
  /-- R74 FMAX. -/
  | fmax (k : Nat) (f : FmtA)
  /-- R74 FNEG. -/
  | fneg (k : Nat) (f : FmtA)
  /-- R74 FABS. -/
  | fabs (k : Nat) (f : FmtA)
  /-- R74 FCMP. -/
  | fcmp (k : Nat) (f : FmtA)
  /-- R74 FCMPS. -/
  | fcmps (k : Nat) (f : FmtA)
  /-- R74 FKIND. -/
  | fkind (k : Nat) (f : FmtA)
  /-- R74 FMINN. -/
  | fminn (k : Nat) (f : FmtA)
  /-- R74 FMAXN. -/
  | fmaxn (k : Nat) (f : FmtA)
  /-- R74 FCVTF. -/
  | fcvtf (k : Nat) (f : FmtA)
  /-- R74 FCVTI. -/
  | fcvti (k : Nat) (f : FmtA)
  /-- R74 FCVTP. -/
  | fcvtp (k : Nat) (f : FmtA)
  /-- R74 FTOQ. -/
  | ftoq (k : Nat) (f : FmtA)
  /-- R74 QTOF. -/
  | qtof (k : Nat) (f : FmtA)
  /-- R98 CFG. -/
  | cfg (k : Nat) (code : BitVec 8) (f : FmtA)
  /-- R102 CFG_UNIT. -/
  | cfgUnit (c : Nat)
  /-- R103 CFG_GROUP. -/
  | cfgGroup (c : Nat)
  /-- R160 CFG_SUITE. -/
  | cfgSuite (c : Nat)
  /-- R186 CFG_QUEUE_SET. -/
  | cfgQueueSet (c : Nat)
  /-- R186 CFG_QUEUE_LIMIT. -/
  | cfgQueueLimit (c : Nat)
  /-- R163 CFG_POINT. -/
  | cfgPoint (c : Nat)
  /-- R123 CFG_TASK. -/
  | cfgTask (c : Nat)
  /-- R123 CFG_TASK_REMOVE. -/
  | cfgTaskRemove (c : Nat)
  /-- R245 CFG_PORT. -/
  | cfgPort (c : Nat)
  /-- R256 CFG_FWD_WRITE. -/
  | cfgFwdWrite (c : Nat)
  /-- R256 CFG_FWD_INVALIDATE. -/
  | cfgFwdInvalidate (c : Nat)
  /-- R273 CFG_UPLINK. -/
  | cfgUplink (c : Nat)
  /-- R283 CFG_CLOCK_SET. -/
  | cfgClockSet (c : Nat)
  /-- R283 CFG_CLOCK_STEP. -/
  | cfgClockStep (c : Nat)
  /-- R283 CFG_CLOCK_THRESHOLD. -/
  | cfgClockThreshold (c : Nat)
  /-- R283 CFG_CLOCK_INCREMENT. -/
  | cfgClockIncrement (c : Nat)
  /-- R292 CFG_HALLWAY_PORT. -/
  | cfgHallwayPort (c : Nat)
  /-- R292 CFG_HALLWAY_FILTER. -/
  | cfgHallwayFilter (c : Nat)
  /-- R292 CFG_HALLWAY_SLOT. -/
  | cfgHallwaySlot (c : Nat)
  /-- R310 CFG_INPUT. -/
  | cfgInput (c : Nat)
  /-- R318 CFG_BANK. -/
  | cfgBank (c : Nat)
  /-- R324 CFG_METER_CIRCUIT. -/
  | cfgMeterCircuit (c : Nat)
  /-- R324 CFG_METER_PULSE_OUT. -/
  | cfgMeterPulseOut (c : Nat)
  /-- R324 CFG_METER_REGISTER. -/
  | cfgMeterRegister (c : Nat)
  /-- R207 CFG_HEARTH_SET. -/
  | cfgHearthSet (c : Nat)
  /-- R211 CFG_HEARTH_COEF. -/
  | cfgHearthCoef (c : Nat)
  /-- R207 CFG_HEARTH_REMOVE. -/
  | cfgHearthRemove (c : Nat)
  /-- R207 CFG_HEARTH_CLEAR. -/
  | cfgHearthClear (c : Nat)
  /-- R349 CFG_CELLAR. -/
  | cfgCellar (c : Nat)
  /-- R369 CFG_ATTIC. -/
  | cfgAttic (c : Nat)
  /-- R373 CFG_SCRUB. -/
  | cfgScrub (c : Nat)
  /-- R380 CFG_MANTEL_SETUP. -/
  | cfgMantelSetup (c : Nat)
  /-- R381 CFG_MANTEL_HALT. -/
  | cfgMantelHalt (c : Nat)
  /-- R381 CFG_MANTEL_SET_RUN. -/
  | cfgMantelSetRun (c : Nat)
  /-- R228 CFG_TWIN. -/
  | cfgTwin (c : Nat)
  /-- R104 CFG_PACE. -/
  | cfgPace (c : Nat)
  /-- R182 CFG_LOCK. -/
  | cfgLock (c : Nat)
  /-- R101 CFG_END. -/
  | cfgEnd (c : Nat)
  /-- R105 PRD. -/
  | prd (k : Nat) (f : FmtI)
  /-- R105 PRDH. -/
  | prdh (k : Nat) (f : FmtI)
  /-- R107 PWR. -/
  | pwr (k : Nat) (f : FmtI)
  /-- R105 PWRH. -/
  | pwrh (k : Nat) (f : FmtI)
  /-- R108 QOPEN. -/
  | qopen (k : Nat) (f : FmtA)
  /-- R108 QPW. -/
  | qpw (k : Nat) (f : FmtA)
  /-- R108 QPB. -/
  | qpb (k : Nat) (f : FmtA)
  /-- R108 QMARK. -/
  | qmark (k : Nat) (f : FmtA)
  /-- R108 QRWND. -/
  | qrwnd (k : Nat) (f : FmtA)
  /-- R108 QREL. -/
  | qrel (k : Nat) (f : FmtA)
  /-- R108 QDROP. -/
  | qdrop (k : Nat) (f : FmtA)
  /-- R108 QTAKE. -/
  | qtake (k : Nat) (f : FmtA)
  /-- R108 QRD. -/
  | qrd (k : Nat) (f : FmtA)
  /-- R108 QACK. -/
  | qack (k : Nat) (f : FmtA)
  /-- R113 TDIF. -/
  | tdif (k : Nat) (f : FmtA)
  /-- R113 TADD. -/
  | tadd (k : Nat) (f : FmtA)
  /-- R112 TSET. -/
  | tset (k : Nat) (f : FmtA)
  /-- R114 TTST. -/
  | ttst (k : Nat) (f : FmtA)
  /-- R112 TCLR. -/
  | tclr (k : Nat) (f : FmtA)
  /-- R115 EMIT. -/
  | emit (k : Nat) (f : FmtA)
  /-- R116 KEY. -/
  | key (k : Nat) (op : BitVec 8) (f : FmtA)
  /-- R117 KGEN. -/
  | kgen (suite : Nat)
  /-- R117 KDERIVE. -/
  | kderive (suite : Nat)
  /-- R117 KSEAL. -/
  | kseal (suite : Nat)
  /-- R117 KOPEN. -/
  | kopen (suite : Nat)
  /-- R117 KSIGN. -/
  | ksign (suite : Nat)
  /-- R117 KVERIFY. -/
  | kverify (suite : Nat)
  /-- R117 KAGREE. -/
  | kagree (suite : Nat)
  /-- R344 KEXPORT. -/
  | kexport (suite : Nat)
  /-- R117 KIMPORT. -/
  | kimport (suite : Nat)
  /-- R347 KDESTROY. -/
  | kdestroy (suite : Nat)
  /-- R356 KINFO. -/
  | kinfo (suite : Nat)
  /-- R119 HSUB. -/
  | hsub (k : Nat) (f : FmtA)
  /-- R120 BRK. -/
  | brk (k : Nat) (n : BitVec 4) (lo : BitVec 4) (f : FmtA)
  /-- R205 HEARTH_EVALUATION. -/
  | hearthEvaluation
  /-- R212 HEARTH_TIMER_TRIGGER. -/
  | hearthTimerTrigger (slot : Nat)
  /-- R44 DESCRIBE. -/
  | describe (q : CmdQueue)
  /-- R44 STATUS. -/
  | status (q : CmdQueue)
  /-- R441 MEMBERS. -/
  | members (q : CmdQueue)
  /-- R407 UNIT_RESET. -/
  | unitReset (q : CmdQueue)
  /-- R44 CLEAR_WORST. -/
  | clearWorst (q : CmdQueue)
  /-- R42 CLR_WORST. -/
  | clrWorst (u : UnitId)
  /-- R50 POINT_READ. -/
  | pointRead (host suite : Nat) (target : BitVec 64) (tag replyQueue : Nat)
  /-- R52 GROUP_MEMBER_REPLY. -/
  | groupMemberReply (g : GroupTag) (member : Nat) (a : MemberAnswer)
  /-- R52 GROUP_MEMBER_TIMEOUT. -/
  | groupMemberTimeout (g : GroupTag)
  /-- R147 TASK_MODE_RUN. -/
  | taskModeRun (q : CmdQueue)
  /-- R147 TASK_MODE_STOP. -/
  | taskModeStop (q : CmdQueue)
  /-- R147 TASK_MODE_HOLD. -/
  | taskModeHold (q : CmdQueue)
  /-- R148 TASK_MODE_STEP. -/
  | taskModeStep (q : CmdQueue)
  /-- R147 MODE_TRANSITION. -/
  | modeTransition (c : Nat)
  /-- R157 SET_VALUE. -/
  | setValue (q : CmdQueue)
  /-- R157 SET_CONST. -/
  | setConst (q : CmdQueue)
  /-- R157 ONLINE_CHANGE_APPLY. -/
  | onlineChangeApply (c : Nat)
  /-- R151 BRK_ARM. -/
  | brkArm (q : CmdQueue)
  /-- R152 TASK_STATUS. -/
  | taskStatus (q : CmdQueue)
  /-- R179 OWNER_CLAIM. -/
  | ownerClaim (q : CmdQueue)
  /-- R179 OWNER_CLAIM_FORCE. -/
  | ownerClaimForce (q : CmdQueue)
  /-- R179 ELECTION_CLOSE. -/
  | electionClose (suite : Nat)
  /-- R180 OWNER_RENEW. -/
  | ownerRenew (q : CmdQueue)
  /-- R180 LEASE_EXPIRY. -/
  | leaseExpiry (suite : Nat)
  /-- R180 OWNER_RELEASE. -/
  | ownerRelease (q : CmdQueue)
  /-- R181 OWNER_HANDOVER. -/
  | ownerHandover (q : CmdQueue)
  /-- R181 OWNER_ACCEPT. -/
  | ownerAccept (q : CmdQueue)
  /-- R181 HANDOVER_LAPSE. -/
  | handoverLapse (suite : Nat)
  /-- R171 SUITE_RESET. -/
  | suiteReset (q : CmdQueue)
  /-- R171 SUITE_FENCE_LIFT. -/
  | suiteFenceLift (suite : Nat)
  /-- R183 SUITE_STATUS. -/
  | suiteStatus (q : CmdQueue)
  /-- R182 OWNER_UNLOCK. -/
  | ownerUnlock (q : CmdQueue)
  /-- R202 QUEUE_STATUS. -/
  | queueStatus (q : CmdQueue)
  /-- R202 QUEUE_CLEAR. -/
  | queueClear (q : CmdQueue)
  /-- R218 SLOT_STATUS. -/
  | slotStatus (q : CmdQueue)
  /-- R242 PAIR_SWITCH. -/
  | pairSwitch (q : CmdQueue)
  /-- R242 PAIR_RESYNC. -/
  | pairResync (q : CmdQueue)
  /-- R253 PORT_COUNTERS. -/
  | portCounters (q : CmdQueue)
  /-- R263 FLOOR_QUIET. -/
  | floorQuiet (q : CmdQueue)
  /-- R263 QUIET_ANSWER. -/
  | quietAnswer (port : Nat) (cycle : Nat) (agree : Bool)
  /-- R263 QUIET_ENTRY. -/
  | quietEntry
  /-- R265 FLOOR_WAKE. -/
  | floorWake (q : CmdQueue)
  /-- R283 CLOCK_TRIM_INCREMENT. -/
  | clockTrimIncrement (q : CmdQueue)
  /-- R283 CLOCK_TRIM_SLEW. -/
  | clockTrimSlew (q : CmdQueue)
  /-- R283 CLOCK_TRIM_STEP. -/
  | clockTrimStep (q : CmdQueue)
  /-- R285 CLOCK_CHANGE_TICK. -/
  | clockChangeTick
  /-- R283 SLEW_END. -/
  | slewEnd
  /-- R302 HB_CANCEL. -/
  | hbCancel (q : CmdQueue)
  /-- R312 DI_COUNTS. -/
  | diCounts (q : CmdQueue)
  /-- R336 METER_READ. -/
  | meterRead (q : CmdQueue)
  /-- R355 IDENTITY. -/
  | identity (q : CmdQueue)
  /-- R354 LIFECYCLE_ADVANCE. -/
  | lifecycleAdvance (q : CmdQueue) (rb : FuseReads)
  /-- R355 TAMPER_CLEAR. -/
  | tamperClear (q : CmdQueue)
  /-- R366 ATTIC_READ. -/
  | atticRead (q : CmdQueue)
  /-- R368 ATTIC_CLEAR. -/
  | atticClear (q : CmdQueue)
  /-- R393 UPDATE_BEGIN. -/
  | updateBegin (q : CmdQueue)
  /-- R393 UPDATE_STAGE. -/
  | updateStage (q : CmdQueue)
  /-- R395 UPDATE_CHECK. -/
  | updateCheck (q : CmdQueue)
  /-- R392 UPDATE_ACTIVATE. -/
  | updateActivate (q : CmdQueue)
  /-- R399 UPDATE_CONFIRM. -/
  | updateConfirm (q : CmdQueue) (rb : FuseReads)
  /-- R399 UPDATE_ABORT. -/
  | updateAbort (q : CmdQueue)
  /-- R402 UPDATE_STATUS. -/
  | updateStatus (q : CmdQueue)
  /-- R397 UPDATE_ACTIVATION. -/
  | updateActivation (kind suite : Nat)
  /-- R394 UPDATE_RECHECK. -/
  | updateRecheck (kind suite : Nat)
  /-- R399 TRIAL_EXPIRY. -/
  | trialExpiry (kind suite : Nat)
  /-- R416 LOOP_TEST. -/
  | loopTest (q : CmdQueue)
  /-- R417 LOOP_TEST_END. -/
  | loopTestEnd (u : UnitId) (r : LoopResult)
  /-- R9 REGISTER_WRITE. -/
  | registerWrite (r : RegRef) (value : BitVec 64)
  /-- R132 CYCLE_START. -/
  | cycleStart (c : Nat)
  /-- R136 CYCLE_ACCEPT. -/
  | cycleAccept
  /-- R143 WITHDRAW_FRAME_SENT. -/
  | withdrawFrameSent (port : Nat)
  /-- R135 COMMIT. -/
  | commit (c : Nat)
  /-- R149 HOLD_RERELEASE. -/
  | holdRerelease (c : Nat)
  /-- R150 STOP_SAFE_STATE. -/
  | stopSafeState (c : Nat)
  /-- R148 HOLD_MAX_TIMEOUT. -/
  | holdMaxTimeout (c : Nat)
  /-- R127 FOUNDATION_TIMEOUT. -/
  | foundationTimeout
  /-- R154 JOURNAL_WRITE. -/
  | journalWrite
  /-- R96 CREDIT_RESERVATION_EXPIRY. -/
  | creditReservationExpiry (c : Nat)
  /-- R185 ITEM_ENTER. -/
  | itemEnter (queue : Nat) (src : EngineSrc) (it : ItemIn)
  /-- R200 QUEUE_CONTROL_ERROR. -/
  | queueControlError (e : LarderError)
  /-- R26 PACE_WINDOW. -/
  | paceWindow (room : Nat) (steps : Nat) (tj : Int)
  /-- R14 LINK_TOKEN_ERROR. -/
  | linkTokenError (e : TokenError)
  /-- R21 HOUSE_TIME_ALIGNMENT. -/
  | houseTimeAlignment (die : Nat)
  /-- R21 ALIGNMENT_TIMEOUT. -/
  | alignmentTimeout (die : Nat)
  /-- R30 REFCLK_FAILURE. -/
  | refclkFailure
  /-- R30 STALL_TIMEOUT. -/
  | stallTimeout (station lane : Nat) (requester : Requester)
  /-- R247 MAC_RECEIVE. -/
  | macReceive (port : Nat) (r : MacRx)
  /-- R250 PAUSE_END. -/
  | pauseEnd (port : Nat)
  /-- R255 PORT_SWITCH_INGRESS. -/
  | portSwitchIngress
  /-- R248 EGRESS_FRAME_SENT. -/
  | egressFrameSent (port : Nat)
  /-- R250 PAUSE_REPEAT. -/
  | pauseRepeat (port : Nat)
  /-- R251 PORT_LINK_CHANGE. -/
  | portLinkChange (port : Nat) (l : LinkChange)
  /-- R252 HALF_RANGE_ITEM. -/
  | halfRangeItem (port : Nat)
  /-- R258 EPOCH_INSTALL. -/
  | epochInstall
  /-- R258 EPOCH_DRAINED. -/
  | epochDrained
  /-- R261 TRANSMIT_ITEM. -/
  | transmitItem (suite : Nat)
  /-- R266 PSE_DETECTION. -/
  | pseDetection (port : Nat) (valid : Bool)
  /-- R266 PSE_DETECTION_RETRY. -/
  | pseDetectionRetry (port : Nat)
  /-- R266 PSE_CLASSIFICATION. -/
  | pseClassification (port : Nat) (cls : Nat)
  /-- R266 PSE_POWERED. -/
  | psePowered (port : Nat)
  /-- R266 PSE_PD_LOST. -/
  | psePdLost (port : Nat)
  /-- R269 PSE_OVERLOAD. -/
  | pseOverload (port : Nat)
  /-- R269 PSE_BACKOFF_EXPIRY. -/
  | pseBackoffExpiry (port : Nat)
  /-- R275 UPLINK_EGRESS. -/
  | uplinkEgress (port : Nat)
  /-- R279 GOVERNOR_WINDOW. -/
  | governorWindow (port : Nat) (short : Bool)
  /-- R280 RATE_STEP_DONE. -/
  | rateStepDone (port : Nat)
  /-- R280 RATE_STEP_ABANDON. -/
  | rateStepAbandon (port : Nat)
  /-- R280 GOVERNOR_RESUME. -/
  | governorResume (port : Nat)
  /-- R288 LAUNCH_ITEM. -/
  | launchItem (port : Nat)
  /-- R288 LAUNCH_SEND. -/
  | launchSend (port : Nat) (error : Int)
  /-- R294 HALLWAY_FRAME_RECEIVED. -/
  | hallwayFrameReceived (hb : Nat) (fr : HallFrame)
  /-- R297 HALLWAY_TAKE_ITEM. -/
  | hallwayTakeItem (hb slot : Nat)
  /-- R298 HALLWAY_ATTEMPT_START. -/
  | hallwayAttemptStart (hb ago : Nat)
  /-- R299 HALLWAY_ATTEMPT_END. -/
  | hallwayAttemptEnd (hb : Nat) (e : AttemptEnd)
  /-- R299 HALLWAY_LIFETIME_EXPIRY. -/
  | hallwayLifetimeExpiry (hb slot : Nat)
  /-- R303 BUS_OFF_RECOVERY. -/
  | busOffRecovery (hb : Nat)
  /-- R305 HALLWAY_TIME_PAIR. -/
  | hallwayTimePair (group count : Nat)
  /-- R309 DI_CHANGE. -/
  | diChange (n : Nat) (mv : Nat)
  /-- R313 DI_SELF_TEST. -/
  | diSelfTest (n : Nat) (pass : Bool)
  /-- R316 SERIALISE_TURN_ON. -/
  | serialiseTurnOn (bank : Nat)
  /-- R317 BANK_TRIP. -/
  | bankTrip (bank : Nat)
  /-- R317 BANK_RETRY. -/
  | bankRetry (bank : Nat)
  /-- R317 BANK_RETRY_COUNT_CLEAR. -/
  | bankRetryCountClear (bank : Nat)
  /-- R317 OUTPUT_SHUTDOWN. -/
  | outputShutdown (out : Nat)
  /-- R320 SHUTTER_TIMEOUT. -/
  | shutterTimeout (out : Nat)
  /-- R321 OUTPUT_SENSE_FLAG. -/
  | outputSenseFlag (out : Nat) (isOpen rise : Bool)
  /-- R326 METER_WINDOW_END. -/
  | meterWindowEnd (w : MeterWindow)
  /-- R335 METER_QUANTITIES_ARRIVE. -/
  | meterQuantitiesArrive (circuit : Nat) (vals : List PointVal)
  /-- R331 METER_FLASH_WRITE. -/
  | meterFlashWrite
  /-- R333 PULSE_START. -/
  | pulseStart (out : Nat)
  /-- R333 PULSE_END. -/
  | pulseEnd (out : Nat)
  /-- R225 HEARTBEAT_SEND. -/
  | heartbeatSend
  /-- R225 HEARTBEAT_RECEIVED. -/
  | heartbeatReceived (hb : Heartbeat)
  /-- R226 PATH_DEAD. -/
  | pathDead (strobe : Bool)
  /-- R222 PARTNER_MET. -/
  | partnerMet (p : PartnerInfo)
  /-- R223 SEEKING_TIMEOUT. -/
  | seekingTimeout
  /-- R230 DELTA_SHIP. -/
  | deltaShip
  /-- R233 DELTA_APPLY. -/
  | deltaApply (d : DeltaItems)
  /-- R234 DELTA_CONFIRMATION. -/
  | deltaConfirmation (dseq : Nat)
  /-- R234 CONFIRMATION_TIMEOUT. -/
  | confirmationTimeout (dseq : Nat)
  /-- R235 PREPARED_CYCLE_COMMIT. -/
  | preparedCycleCommit (suite task : Nat)
  /-- R227 TWIN_CLOCK_EXCHANGE. -/
  | twinClockExchange (activeTime : Time80)
  /-- R224 LANDING_FRAME_ERROR. -/
  | landingFrameError (lane : Nat)
  /-- R238 RECLAIM. -/
  | reclaim
  /-- R239 SWITCH_INSTANT. -/
  | switchInstant
  /-- R239 SWITCH_HANDOVER. -/
  | switchHandover
  /-- R348 TAMPER. -/
  | tamper
  /-- R361 ATTIC_RECORD_WRITE. -/
  | atticRecordWrite
  /-- R370 ATTIC_FLUSH. -/
  | atticFlush (fails : List Nat)
  /-- R373 SCRUB_LINE. -/
  | scrubLine (found : List Upset)
  /-- R377 BACKUP_SWITCH. -/
  | backupSwitch (toBackup : Bool)
  /-- R378 VBAK_MEASURE. -/
  | vbakMeasure (millivolts : Nat)
  /-- R379 OSC_STOP. -/
  | oscStop
  /-- R381 SET_RUN_RELEASE. -/
  | setRunRelease
  /-- R384 TRIM_WINDOW_END. -/
  | trimWindowEnd (counted : Nat)
  /-- R386 MANTEL_WAKE. -/
  | mantelWake
  /-- R411 PFAIL. -/
  | pfail
  /-- R406 POWER_ON_RESET. -/
  | powerOnReset
  /-- R406 RESET_N_LOW. -/
  | resetNLow (nanoseconds : Nat)
  /-- R406 MANAGEMENT_WATCHDOG. -/
  | managementWatchdog
  /-- R408 START_SEQUENCE. -/
  | startSequence (b : BootEnv)
  /-- R418 TAP_RESET. -/
  | tapReset
  /-- R418 EXTEST. -/
  | extest
  /-- R418 SAMPLE_PRELOAD. -/
  | samplePreload (capture : List Bool) (update : List Bool)
  /-- R419 IDCODE. -/
  | idcode
  /-- R418 CLAMP. -/
  | clamp
  /-- R418 HIGHZ. -/
  | highz
  /-- R418 EXTEST_PULSE. -/
  | extestPulse
  /-- R418 EXTEST_TRAIN. -/
  | extestTrain
  /-- R419 IDENT. -/
  | ident
  /-- R418 BYPASS. -/
  | bypass
  /-- R418 HOLDING_EXIT. -/
  | holdingExit
  /-- R405 PFAIL_N_RISE. -/
  | pfailNRise
  /-- R404 VFIELD_LOSS. -/
  | vfieldLoss
  /-- R404 VFIELD_RETURN. -/
  | vfieldReturn
  /-- R264 LINK_PARTNER_LEAVING_LPI. -/
  | linkPartnerLeavingLpi (port : Nat)
  /-- R251 EEE_LPI_ENTRY. -/
  | eeeLpiEntry (port : Nat)
  /-- R293 HALLWAY_BUS_INTEGRATION. -/
  | hallwayBusIntegration (hb : Nat)
  /-- R303 HALLWAY_RECEIVE_ERROR. -/
  | hallwayReceiveError (hb : Nat) (e : RxError)
  /-- R290 PROTOCOL_EXCEPTION_EVENT. -/
  | protocolExceptionEvent (hb : Nat)
  /-- R175 HOST_SESSION_OPEN. -/
  | hostSessionOpen (h : SessionOpen)
  /-- R196 HOST_SESSION_CLOSE. -/
  | hostSessionClose (host number : Nat)
  /-- R196 HOST_ACKNOWLEDGEMENT. -/
  | hostAcknowledgement (host number queue seq : Nat)
  /-- R401 PAIR_UPDATE_SWITCHOVER. -/
  | pairUpdateSwitchover
  /-- R401 PAIR_UPDATE_TIMEOUT. -/
  | pairUpdateTimeout
  /-- R386 MWAKE_N_RELEASE. -/
  | mwakeNRelease
deriving DecidableEq, Repr

end Sys2Proof
end

