-- ==== Sys2Proof/Decode.lean ====
section
/-! DEFINITION. The commands that a word spells. No row of spec/opcode_table.json gives bits (the block takes
commands, not words), so no word spells a command. The instruction words of R65 are read in Machine/Words.lean. -/

namespace Sys2Proof

/-- The command of a table word of `nbits` bits: none, for the table gives no row any bits. -/
def decodeTableWord (_nbits _w : Nat) : Option Instr := none

end Sys2Proof
end

