-- ==== Sys2Proof/Config.lean ====
section
/-! DEFINITION. What an implementation fixes, and the free values: constants without a body, so that no proof can
see what they are. Each is named in a log entry of notes/assumptions. -/

namespace Sys2Proof.Config

/-- R161: windows must end at or below this data SRAM address. Log 23 (DESIGN CHOICE). -/
def windowTop : Nat := 0x09800000

/-- R370, R389: records of 64 bytes that the 16 MiB Attic area of the flash holds. -/
def atticFlashRecords : Nat := 262144

/-- R222: the mirror format version of the running firmware is the running image's; this is the one of a module
whose firmware slot gives none. -/
def mirrorVer : Nat := 0

/-- R161, R154: what the top 8 MiB of data SRAM holds at an address: 0 management firmware, 1 journal staging, 2 mirror
buffers. The spec names the three and gives no boundaries. Log 23 (DESIGN CHOICE). -/
opaque topRegion : Nat → Nat

/-- R376: whether the crystal gives an edge at REFCLK tick `n`. Free: the two oscillators are independent. Log 80 (DESIGN CHOICE). -/
opaque crystalEdge : Nat → Bool

/-- A value the spec leaves open, by the model's counter; truncated to the width needed. Log 4 (DESIGN CHOICE). -/
opaque freeWord : Nat → BitVec 64

/-- Byte `i` of the random string drawn at counter `n` (R340, R341: random secrets; R344: nonces). Log 4 (DESIGN CHOICE). -/
opaque randomByte : Nat → Nat → Byte

/-- Byte `i` of SHA-384 of a message. Log 34 (DESIGN CHOICE). -/
opaque sha384Byte : List Byte → Nat → Byte

/-- Byte `i` of the AES-256-GCM key stream for a key and a nonce. Log 34 (DESIGN CHOICE). -/
opaque gcmStreamByte : List Byte → List Byte → Nat → Byte

/-- Byte `i` of the AES-256-GCM tag for key, nonce, additional data and ciphertext. Log 34 (DESIGN CHOICE). -/
opaque gcmTagByte : List Byte → List Byte → List Byte → List Byte → Nat → Byte

/-- Byte `i` of HKDF-SHA-384 output for input key, salt and info. Log 34 (DESIGN CHOICE). -/
opaque hkdfByte : List Byte → List Byte → List Byte → Nat → Byte

/-- Byte `i` of the public key of a private key of a key type (R342). Log 34 (DESIGN CHOICE). -/
opaque publicByte : Nat → List Byte → Nat → Byte

/-- Byte `i` of a signature of a message under a private key of a key type; the counter stands for the
signature's randomness. Log 34 (DESIGN CHOICE). -/
opaque signByte : Nat → Nat → List Byte → List Byte → Nat → Byte

/-- Whether a signature verifies: key type, public key, message, signature. Log 34 (DESIGN CHOICE). -/
opaque verifies : Nat → List Byte → List Byte → List Byte → Bool

/-- The shared secret of an agreement (key type, private key, peer's public key or ciphertext); none when the peer's
value is not a valid one. Log 34 (DESIGN CHOICE). -/
opaque agree : Nat → List Byte → List Byte → Option (List Byte)

/-- R339: byte `i` of the private identity key of a kind (0 ECDSA P-384, 1 ML-DSA-65) under a lifecycle root; the derivation is
not stated. Log 35 (DESIGN CHOICE). -/
opaque identityByte : List Byte → Nat → Nat → Byte

/-- R343: byte `i` of the AES-256 key taken from an ECDH P-384 shared secret; the spec states no derivation. Log 35 (DESIGN CHOICE). -/
opaque agreedByte : List Byte → Nat → Byte

/-- R352: the word that SECRET_ECC's 7 check bits correct a fuse word to; none where the error is uncorrectable. The code is
not stated. Log 39 (DESIGN CHOICE). -/
opaque secretCorrect : BitVec 32 → BitVec 7 → Option (BitVec 32)

/-- R354: whether a return authorisation (the words of the command) is signed by both keys of the settled VENDOR_HASH. Log 39 (DESIGN CHOICE). -/
opaque returnAuthorised : List (BitVec 32) → List Byte → Bool

/-- R355: whether TAMPER_N is low at REFCLK tick `n`. Free: the pin belongs to the outside. Log 40 (DESIGN CHOICE). -/
opaque tamperPin : Nat → Bool

/-- R401: whether the standby completes update command number `n` that the active hands to it: the partner's answer reaches no command.
Log 106 (DEDUCED). Log 106 (DEDUCED). -/
opaque partnerCompletes : Nat → Bool

/-- R379: whether VBAK has fallen below 1.8 V at an OSC_STOP on backup, when nothing of the module observes it. Log 79 (DEDUCED). -/
opaque vbakCollapsed : Nat → Bool

/-- R356: attributes of the fixed keys that the spec does not state, as they stand in KINFO's words 0 to 3. Log 36 (DESIGN CHOICE). -/
opaque fixedKeyInfo : Nat → Nat → BitVec 64

/-- R74: whether FMA of zero, infinity and a quiet NaN raises FI: IEEE 754-2019 leaves it to the implementation, and the
spec does not say. Log 21 (DESIGN CHOICE). -/
opaque fmaQuietInvalid : Bool

/-- R327: which of the roundings of R58 takes a quantity `num / den`, or its root, that no REAL32 equals to one: the rounding is not stated.
Log 77 (DESIGN CHOICE). -/
opaque meterRounding : Int → Nat → BitVec 2

/-- R327: the REAL32 of atan2 of two REAL32 values, in degrees, off the axes. Log 77 (DESIGN CHOICE). -/
opaque real32Atan2 : BitVec 32 → BitVec 32 → BitVec 32

/-- R327: sample `i` of a channel delayed by a quarter of a cycle of so many samples, a ratio, where that is between samples or before the
window; the interpolation is not stated. Numerator over 2^32. Log 77 (DESIGN CHOICE). -/
opaque quarterDelay : List Int → Int × Nat → Nat → Int

/-- R324 PHC: sample `i` of a channel delayed by a number of 0.001 degree steps of a cycle of so many samples. Numerator over 2^32. Log 77
(DESIGN CHOICE). Log 77 (DESIGN CHOICE). -/
opaque phaseDelay : List Int → Int → Int × Nat → Nat → Int

/-- R327: the lag of the fundamental of one channel behind another, in 0.001 degree steps. Log 77 (DESIGN CHOICE). -/
opaque lag : List Int → List Int → Nat

/-- R46, R44: FN of the reply to a point read, for which the spec gives no command code. Log 95 (DESIGN CHOICE). -/
opaque pointReadFn : BitVec 8

end Sys2Proof.Config
end

