-- ==== Sys2Proof/Machine/TypesCore.lean ====
section
/-! DEFINITION. State of the cores, tasks, suites, queues, memory and the configuration sequencer
(spec/01 to 07). A structure's field defaults are its values after a reset of class P. -/

namespace Sys2Proof.Machine
open Sys2Proof

/-- House-time zero (R282). -/
abbrev t0 : Time80 := { sec := 0, ns := 0 }

/-! ### House clock, fabric, rooms and units -/

/-- R283, R285: a change of the house clock that waits for its announced tick. -/
inductive ClockChange where
  | jump (target : Time80) (initial forced : Bool)
  | step (offset : Int) (forced : Bool)
  | increment (inc : Nat)
  | slew (inc ticks : Nat)
deriving DecidableEq, Repr

/-- R282 to R286: the house clock. `frac` holds the 16-bit fraction and the 8 residue bits together. -/
structure HouseClock where
  time : Time80 := t0
  frac : Nat := 0
  increment : Nat := 0x08000000
  slewInc : Nat := 0
  slewLeft : Nat := 0
  isSet : Bool := false
  jumpRefused : Bool := false
  forcedSeen : Bool := false
  clkFault : Bool := false
  threshold : Nat := 1000000
  refusedJumps : Nat := 0
  jumps : Nat := 0
  lastJump : Int := 0
  waiting : List ClockChange := []
deriving DecidableEq, Repr

/-- R21: the house-time copy of one outer die, in step with the house clock but where it missed a change: `offset` is its signed
difference in 2^-24 ns, `rate` the increment it goes on with; it is stale when it has taken no alignment token for 4 ms. -/
structure DieCopy where
  alignedAt : Nat := 0
  stale : Bool := false
  offset : Int := 0
  rate : Option Nat := none
deriving DecidableEq, Repr

/-- R26, R27, R104: the room pace word, the thresholds in force and the guard's runs of good windows. -/
structure Room where
  paceNow : Nat := 0
  paceMin : Nat := 0xFFFF
  warn : Bool := false
  fault : Bool := false
  warnSeen : Bool := false
  faultSeen : Bool := false
  tj : Nat := 0
  slowWindows : Nat := 0
  warnSet : Nat := 1650
  warnClear : Nat := 1700
  warnRun : Nat := 0
  faultRun : Nat := 0
deriving DecidableEq, Repr

/-- R14, R30: a die link (0-3 wings, 4 utility): failed replays of the token at the head, and its counts. Log 82 (DEDUCED). -/
structure DieLink where
  failedReplays : Nat := 0
  down : Bool := false
  corrected : Nat := 0
  framesLost : Nat := 0
deriving DecidableEq, Repr

/-- R41, R42: the parts of a unit's descriptor and status word 0 that change. -/
structure UnitStat where
  state : Nat := 1
  lastStatus : Status := { cls := .done, reason := .none }
  worstSev : Nat := 0
  warn : Bool := false
  fault : Bool := false
  faultCount : Nat := 0
  descEpoch : Nat := 0
deriving DecidableEq, Repr

/-- R103, R51: one enclosing group; the speaker excludes the members found to hold a differing declaration. -/
structure GroupDecl where
  addr : BitVec 64
  speaker : Nat
  members : List (BitVec 64)
  excluded : List Nat := []
deriving DecidableEq, Repr

/-- R440, R102: the module's own address and pairing. -/
structure Address where
  self : BitVec 64 := 0x2000000000000070
  paired : Bool := false
  groups : Table GroupDecl := []
deriving DecidableEq, Repr

/-! ### Items and queues (spec/07) -/

/-- Who put an item and spent its credit (R188, R444). -/
inductive Producer where
  | task (c binding : Nat)
  /-- the management firmware for the host session of that number; number 0 for no session -/
  | session (suite host number : Nat)
  | engine (p : Part)
  /-- credits held for completion items of take binding `binding` of task `c` (R191) -/
  | reply (c binding : Nat)
deriving DecidableEq, Repr

/-- Who a queue's delivered items belong to (R192). -/
inductive Consumer where
  | task (c binding : Nat)
  | session (suite host number : Nat)
  | engine (p : Part)
deriving DecidableEq, Repr

/-- The credit that an item spent (R188): of its producer's attachment, by that attachment's number; taken from the pool; or none, for a
completion that found no credit in hand and is never refused for want of one (R97). -/
inductive Credit where
  | attachment (id : Nat)
  | pool
  | none
deriving DecidableEq, Repr

/-- R184: a stored item. `seq` is the queue's whole entry count when the item entered, of which the header shows the low 16 bits;
`hdrABad` and `hdrBBad` are failing parity in the two stored headers, `parity` and `poison` the numbers of the 32-bit words of the payload
whose parity fails and whose poison tag is set (R199, R200); `deliveredTo` is the consumer that owns it, `again` the REPEAT mark of R111. -/
structure Item where
  prio : Nat
  ptag : Bool
  srcSuite : Nat
  hostId : Nat
  seq : Nat
  entered : Time80
  producer : Producer
  data : List Byte
  credit : Credit := .none
  hdrABad : Bool := false
  hdrBBad : Bool := false
  parity : List Nat := []
  poison : List Nat := []
  deliveredTo : Option Consumer := none
  again : Bool := false
deriving DecidableEq, Repr

/-- A producer's attachment to a queue (R188, R189), numbered within the queue: credits in hand and spent, whether it waits
(DELAYED(CREDIT), R96), and until when a freed credit is reserved for it. -/
structure Attach where
  who : Producer
  hand : Nat
  spent : Nat
  id : Nat
  waiting : Bool := false
  reservedUntil : Option Time80 := none
deriving DecidableEq, Repr

/-- R186, R203: a queue. Items stand in entry order; attachments in the order they attached, `attaches` of them so far. `unjudged` marks a
queue whose occupancy has changed at the present instant and is judged at its end (R197). -/
structure Queue where
  depth : Nat := 0
  itemMax : Nat := 0
  grant : Nat := 0
  order : Bool := false
  hdrVis : Bool := false
  wmEvent : Bool := false
  fcSel : Nat := 0
  highWm : Nat := 0
  lowWm : Nat := 0
  takeSuite : Nat := 0
  takeGrant : Bool := false
  putMap : BitVec 64 := 0
  high : Bool := false
  unjudged : Bool := false
  fenced : Bool := false
  qfault : Bool := false
  poolFree : Nat := 0
  noCreditDrops : Nat := 0
  poisonedOut : Nat := 0
  lostItems : Nat := 0
  highRises : Nat := 0
  entries : Nat := 0
  items : List Item := []
  attached : List Attach := []
  attaches : Nat := 0
  consumer : Option Consumer := none
  held : List Item := []
deriving DecidableEq, Repr

/-- The Larder: its queues and each suite's limit of item memory (R186). -/
structure Larder where
  queues : Table Queue := []
  limits : Table Nat := []
deriving DecidableEq, Repr

/-! ### Tasks and contexts (spec/03 to 05) -/

inductive Overrun where
  | skip | stretch | fault
deriving DecidableEq, Repr

inductive Mode where
  | stop | run | hold | notLoaded
deriving DecidableEq, Repr

/-- R152 STOP_CAUSE, in code order. -/
inductive StopCause where
  | command | fault | overrun | hold | reset | load
deriving DecidableEq, Repr

/-- R123: the task descriptor as loaded, with its lists (R124) and W, N of R128 and R130. -/
structure TaskDesc where
  suite : Nat := 0
  task : Nat := 0
  core : Nat := 0
  overrun : Overrun := .skip
  cam : Bool := false
  autorun : Bool := false
  warmRun : Bool := false
  faultLimit : Nat := 1
  replyMap : BitVec 8 := 0
  entry : Nat := 0
  period : Nat := 0
  phase : Nat := 0
  commitOffset : Nat := 0
  deadline : Nat := 0
  budgetNs : Nat := 0
  holdMax : Nat := 0
  inList : List Nat := []
  outList : List Nat := []
  slotList : List Nat := []
  putQ : List Nat := []
  takeQ : List Nat := []
  takeItems : List Nat := []
  takeCache : List Nat := []
  worst : Nat := 0
deriving DecidableEq, Repr

/-- R83: one entry of the loop stack. -/
structure LoopEntry where
  start : BitVec 32
  last : BitVec 32
  left : Nat
deriving DecidableEq, Repr

/-- R79: one entry of the call stack, with the loop depth at the call. -/
structure CallEntry where
  ret : BitVec 32
  depth : Nat
deriving DecidableEq, Repr

/-- R108: the packet open in a context's put buffer. -/
structure OpenPacket where
  binding : Nat
  queue : Nat
  prio : Nat
  credit : Credit := .none
  data : List Byte := []
  mark : Option Nat := none
deriving DecidableEq, Repr

/-- R134: a packet released by QREL, staged for the commit. -/
structure Released where
  binding : Nat
  queue : Nat
  prio : Nat
  credit : Credit
  data : List Byte
deriving DecidableEq, Repr

/-- R108, R110: the take cache of a binding during a cycle: copies, as delivered, of the items not yet taken and of the
current one, and whether the current one is acknowledged. -/
structure TakeState where
  next : List Item := []
  current : Option Item := none
  acked : Bool := false
deriving DecidableEq, Repr

/-- The context state of R56, its timers (R114; `expired` marks those that a TTST has found expired), with the special registers of R58 that an instruction or a cycle changes. Log 2 (DESIGN CHOICE). -/
structure Ctx where
  w : Vector (BitVec 64) 32 := Vector.replicate 32 0
  a : Vector (BitVec 40) 4 := Vector.replicate 4 0
  pc : BitVec 32 := 0
  calls : List CallEntry := []
  loops : List LoopEntry := []
  cycle : Nat := 0
  nowHi : Nat := 0
  tsnap : Time80 := t0
  tcommit : Time80 := t0
  steps : Nat := 0
  flags : BitVec 9 := 0
  trap : BitVec 9 := 0
  fmode : BitVec 2 := 0
  fd : Vector (BitVec 64) 4 := Vector.replicate 4 0
  timers : Vector (Option Time80) 4 := Vector.replicate 4 none
  expired : BitVec 4 := 0
  ticket : Nat := 0
  outstanding : Nat := 0
  eventCredits : Nat := 8
  packet : Option OpenPacket := none
deriving DecidableEq, Repr

/-- The effects a cycle has staged (R134). -/
structure Staged where
  points : Table PointVal := []
  highs : Table (BitVec 16) := []
  packets : List Released := []
  acks : List (Nat × Nat) := []
deriving DecidableEq, Repr

/-- Where a cycle stands. -/
inductive Phase where
  /-- its instructions may issue -/
  | executing
  /-- END has ended it; its token waits at the collector (R136) -/
  | ended
  /-- accepted; it commits at its commit time (R135) -/
  | accepted
deriving DecidableEq, Repr

/-- R143, R145: a timed frame queued for the cycle, the points it carries, and its outcome once decided. -/
structure CycleFrame where
  port : Nat
  id : Nat
  vals : List (Nat × PointVal) := []
  outcome : Option Status := none
deriving DecidableEq, Repr

/-- One cycle from its start to its commit or cancellation (R125, R132). `order` is the REFCLK tick of its END, and from its
acceptance on its place among the accepted cycles (R135). -/
structure Cycle where
  number : Nat
  start : Time80
  commit : Time80
  phase : Phase := .executing
  staged : Staged := {}
  frames : List CycleFrame := []
  confirmed : Bool := false
  order : Nat := 0
  lines : List (Nat × List Byte) := []
deriving DecidableEq, Repr

/-- R145: an outcome item waiting for the successor's snapshot. -/
structure Outcome where
  status : Status
  cyc : Nat
  frames : Nat
  words : List (BitVec 64)
deriving DecidableEq, Repr

/-- A cancelled cycle whose timed frames have not all been decided (R143). -/
structure Cancelled where
  number : Nat
  commit : Time80
  frames : List CycleFrame
  override : Option Status
deriving DecidableEq, Repr

/-- R147: a RUN or STEP accepted and not yet in effect. -/
structure PendingMode where
  step : Bool
  at80 : Time80
deriving DecidableEq, Repr

/-- R157: a SET_VALUE or SET_CONST waiting for its task's END. -/
structure OnlineWrite where
  addr : Nat
  data : List Byte
  target : BitVec 64
  via : CmdQueue
  replyQueue : Nat
  tag : Nat
  code : Nat
  suite : Nat
deriving DecidableEq, Repr

/-- R150: the outputs of a stopped task, which go to their safe states at a grid commit time. -/
structure SafeDrive where
  ctx : Nat
  at80 : Time80
  outs : List Nat
deriving DecidableEq, Repr

/-- A loaded task, its context and its status words (R152). `autoRun`: it enters RUN when CFG_END completes (R148). -/
structure Task where
  desc : TaskDesc := {}
  ctx : Ctx := {}
  mode : Mode := .notLoaded
  stopCause : StopCause := .load
  lastStatus : Status := { cls := .done, reason := .none }
  consecFaults : Nat := 0
  overruns : Nat := 0
  skipped : Nat := 0
  dlMiss : Nat := 0
  faults : Nat := 0
  maxAccept : Nat := 0
  maxSteps : Nat := 0
  pending : Option PendingMode := none
  stopPending : Option Mode := none
  stepping : Bool := false
  brkHold : Bool := false
  autoRun : Bool := false
  holdUntil : Option Nat := none
  lastStart : Option Time80 := none
  nextStart : Option Time80 := none
  rereleased : Option Time80 := none
  brkArm : BitVec 16 := 0
  brkHoldMap : BitVec 16 := 0
  brkArmNext : Option (BitVec 16 × BitVec 16) := none
  snapshot : Table PointVal := []
  takes : Vector TakeState 8 := Vector.replicate 8 {}
  cycle : Option Cycle := none
  cancelled : List Cancelled := []
  outcomes : List Outcome := []
  online : List OnlineWrite := []
  committed : Bool := false
deriving DecidableEq, Repr

/-- R127: the foundation program's run on M1. Its context is that of task key 0. -/
structure Foundation where
  running : Bool := false
  startedTick : Nat := 0
deriving DecidableEq, Repr

/-! ### The configuration sequencer (R95 to R101) -/

/-- A posted CFG request: the context that issued it, its ticket and its descriptor words. -/
structure CfgReq where
  ctx : Nat
  ticket : Nat
  words : List (BitVec 64)
deriving DecidableEq, Repr

/-- A CFG whose completion waits: a fenced table write (R258) or a SET_RUN at the house second (R381). -/
structure CfgWait where
  req : CfgReq
  epoch : Option Nat
deriving DecidableEq, Repr

/-- The sequencer on station 14 and the configuration pass. Log 28 (DESIGN CHOICE). -/
structure Sequencer where
  reqs : List CfgReq := []
  passOpen : Bool := false
  passFailed : Option Nat := none
  passDone : Bool := false
  digestWords : List (BitVec 64) := []
  waiting : List CfgWait := []
deriving DecidableEq, Repr

/-- R136: the commit collector. -/
structure Collector where
  n : Nat := 0
  index : Nat := 0
  accepted : Nat := 0
deriving DecidableEq, Repr

/-! ### Journal (R154 to R156) -/

/-- R154: one journal record. -/
structure JournalRec where
  suite : Nat
  task : Nat
  cyc : Nat
  commit : Time80
  lines : List (Nat × List Byte)
  points : Table PointVal
deriving DecidableEq, Repr

/-- The staging area, the journal in flash and the last complete checkpoint. -/
structure Journal where
  staging : List JournalRec := []
  written : List JournalRec := []
  broken : Bool := false
  checkpoint : List JournalRec := []
  rebuilding : Bool := false
  restoredBroken : Bool := false
  dirty : Table (List Nat) := []
deriving DecidableEq, Repr

/-! ### Data SRAM (spec/16) -/

/-- The data SRAM: bytes with a listed value (an unlisted byte is zero), the words whose valid bit is set, and
the bytes that hold an error (1: one bit, 2: uncorrectable). -/
structure Sram where
  cells : List Host.Cell := []
  valid : List Nat := []
  errors : Table Nat := []
deriving DecidableEq, Repr

/-! ### Suites, sessions and points (spec/06) -/

/-- R179: a claim in an open election window. -/
structure Claim where
  host : Nat
  rank : Nat
  via : CmdQueue
  target : BitVec 64
  replyQueue : Nat
  tag : Nat
deriving DecidableEq, Repr

/-- R160, R178 to R183: a suite. -/
structure Suite where
  enabled : Bool := false
  taskCmd : Bool := false
  faultAction : Nat := 0
  debugQueue : Nat := 0
  hostQueue : Nat := 0
  atticUnits : Nat := 0
  winBase : Nat := 0
  winSize : Nat := 0
  constAt : Nat := 0
  retainAt : Nat := 0
  dataAt : Nat := 0
  queueFirst : Nat := 0
  queueCount : Nat := 0
  keyQuota : Nat := 0
  hearthQuota : Nat := 0
  vlanFirst : Nat := 0
  vlanCount : Nat := 0
  lease : Nat := 30
  hostKey : BitVec 32 := 0
  state : Nat := 0
  locked : Bool := false
  owner : Option Nat := none
  ownerRank : Nat := 0
  handover : Option Nat := none
  handoverUntil : Nat := 0
  leaseEnd : Time80 := t0
  lastStatus : Status := { cls := .done, reason := .none }
  claims : List Claim := []
  claimOpen : Option Nat := none
  thresholdFaults : Nat := 0
  droppedReplies : Nat := 0
  suiteResets : Nat := 0
  discarded : Nat := 0
  lastDrainNs : Nat := 0
  lastResetSec : Nat := 0
  resetCold : Option Bool := none
deriving DecidableEq, Repr

/-- R175: an open host session. -/
structure Session where
  number : Nat
  host : Nat
  suite : Nat
  rank : Nat
  port : Nat
  puts : List Nat
  takes : List Nat
deriving DecidableEq, Repr

/-- R163: a point's configuration. -/
structure PointCfg where
  owner : Nat := 0
  type : Nat := 0
  retained : Bool := false
  exportMap : BitVec 64 := 0
deriving DecidableEq, Repr

/-- R46, R49: the recorded reply of a unit command that a unit has completed. `code` is none where the record came in the mirror
delta, which names no code; `mirrored` says so. -/
structure CmdRecord where
  unit : UnitId
  target : BitVec 64
  tag : Nat
  replyQueue : Nat
  atTick : Nat
  status : Status
  payload : List (BitVec 64)
  code : Option Nat
  mirrored : Bool := false
deriving DecidableEq, Repr

/-- R52: a group command under way at the speaker, with the members' answers: the level of the group, the queue it came from, and the
words of the command as they are passed on whole to the members. -/
structure GroupCmd where
  level : Nat
  via : CmdQueue
  target : BitVec 64
  tag : Nat
  replyQueue : Nat
  code : Nat
  suite : Nat
  words : List Byte
  members : List Nat
  answers : List (Nat × Status)
  sinceTick : Nat
deriving DecidableEq, Repr

end Sys2Proof.Machine
end

