-- ==== Sys2Proof/Machine/TypesUnits.lean ====
section
/-! DEFINITION. State of the engines, ports and units outside the cores (spec/08 to 19). A structure's field
defaults are its values after a reset of class P. -/

namespace Sys2Proof.Machine
open Sys2Proof

/-! ### Hearth (spec/08) -/

/-- R208: a coefficient set; every value is the signed Q15 integer, SHIFT 0-7. -/
structure CoefSet where
  b : List Int := [0, 0, 0, 0]
  a : List Int := [0, 0, 0]
  shift : Nat := 0
  outMin : Int := -32768
  outMax : Int := 32767
  upper : Int := 32767
deriving DecidableEq, Repr

/-- R213: a pending sample: its value, its acceptance time, its place in the evaluation order (the REFCLK tick of the
acceptance that took the place), and whether it was
accepted with a backlog of 800 or more. -/
structure Sample where
  u : Int
  accepted : Time80
  order : Nat
  delayed : Bool
deriving DecidableEq, Repr

/-- R207, R218: a Hearth slot: configuration, state and status. -/
structure Slot where
  inUse : Bool := false
  suite : Nat := 0
  order3 : Bool := false
  regions : Nat := 0
  timer : Bool := false
  errMode : Bool := false
  schedSrc : Bool := false
  srcPoint : Nat := 0
  schedPoint : Nat := 0
  setpoint : Int := 0
  hyst : Int := 0
  destPoint : Nat := 0
  toPoint : Bool := false
  toQueue : Bool := false
  destQueue : Nat := 0
  yInit : Int := 0
  timerPeriod : Nat := 0
  timerPhase : Nat := 0
  sets : List CoefSet := List.replicate 8 {}
  x : List Int := [0, 0, 0]
  y : List Int := [0, 0, 0]
  region : Nat := 0
  pending : Option Sample := none
  asSeen : Bool := false
  qsSeen : Bool := false
  clamped : Bool := false
  evals : Nat := 0
  delayed : Nat := 0
  replaced : Nat := 0
  drops : Nat := 0
  swaps : Nat := 0
  lastTrigger : Option Nat := none
deriving DecidableEq, Repr

/-- Log 28 (DESIGN CHOICE). -/
structure Hearth where
  slots : Table Slot := []
deriving DecidableEq, Repr

/-! ### Cellar and Fusebox (spec/15) -/

/-- A slot of the Cellar (R338 to R346). `gen` is the slot's present generation. -/
structure Key where
  present : Bool := false
  gen : Nat := 1
  suite : Nat := 0
  attr : BitVec 16 := 0
  secret : List Byte := []
  parent : BitVec 32 := 0
  depth : Nat := 0
  usesLeft : Nat := 0
  created : Time80 := t0
deriving DecidableEq, Repr

/-- A posted KEY request (R116): its issuing context, ticket, operation and the 8 words of its block. -/
structure KeyReq where
  ctx : Nat
  suite : Nat
  ticket : Nat
  op : Nat
  words : List (BitVec 64)
  order : Nat
deriving DecidableEq, Repr

/-- Log 2 (DESIGN CHOICE), 28 (DESIGN CHOICE). -/
structure Cellar where
  keys : Table Key := []
  freed : List Nat := []
  fresh : Nat := 0x40
  reqs : List KeyReq := []
  accepts : Nat := 0
  served : Table Nat := []
  tamperMode : Nat := 2
  tamperParent : BitVec 32 := 0
  pairAuth : BitVec 32 := 0
  lifecycle : Nat := 0
  hasRoot : Bool := false
  secretValid : Bool := false
  fuseMarginal : Bool := false
  antiroll : Nat := 0
  vendorHash : Option (List (BitVec 32)) := none
  ident : List (BitVec 32) := [0, 0, 0, 0]
  deviceSecret : List (BitVec 32) := []
  wiped : Bool := false
  flashKeys : Table Key := []
deriving DecidableEq, Repr

/-- R352: the 256 fuse words (an unlisted word is unprogrammed) and, per word, the bits that read differently at
the two margins. Log 3 (DESIGN CHOICE). -/
structure Fusebox where
  words : Table (BitVec 32) := []
  marginal : Table (BitVec 32) := []
deriving DecidableEq, Repr

/-! ### Attic and scrubber (spec/16) -/

/-- R359: an event on its way to the Attic. -/
structure Event where
  suite : Nat
  sev : Nat
  code : Nat
  time : Time80
  clamped : Bool := false
  fromTask : Option Nat := none
  ctx : Option Nat := none
  source : BitVec 64
  payload : List (BitVec 64)
deriving DecidableEq, Repr

/-- R359: a record of a partition and its slot there; records stand in ascending SEQ. -/
structure Record where
  seq : Nat
  slot : Nat
  ev : Event
  restored : Bool := false
  copied : Bool := false
deriving DecidableEq, Repr

structure Partition where
  records : List Record := []
  nextSeq : Nat := 1
  dropped : Nat := 0
deriving DecidableEq, Repr

/-- Log 28 (DESIGN CHOICE). -/
structure Attic where
  parts : Table Partition := []
  flight : List Event := []
  taskEvents : List Event := []
  lostSince : Nat := 0
  persistSev : Nat := 4
  persistEn : Bool := true
  flushMs : Nat := 100
  flushDue : Nat := 0
  flash : List Record := []
  records : Nat := 0
  inFlightLost : Nat := 0
  flushFails : Nat := 0
  sbe : Nat := 0
  uncorrectable : Nat := 0
  overwritten : Nat := 0
  lastUeAddr : Nat := 0
  lastUeKind : Nat := 0
  scrubInterval : Nat := 20
  scrubStop : Bool := false
  scrubLine : Nat := 0
  scrubDue : Nat := 0
  cycleTick : Nat := 0
  lastCycleS : Nat := 0
deriving DecidableEq, Repr

/-! ### Field ports and the port switch (spec/10) -/

/-- R245: the configuration of a field port. -/
structure PortCfg where
  mode : Nat := 0
  allow2v4 : Bool := false
  master : Bool := false
  eee : Bool := false
  pauseTx : Bool := false
  pauseRx : Bool := false
  tagEgress : Bool := false
  pvid : Nat := 1
  maxFrame : Nat := 1522
  pauseQueue : Nat := 0
  pauseQuanta : Nat := 0xFFFF
  pseMode : Nat := 0
  classMax : Nat := 0
  classFixed : Nat := 0
  pwrPrio : Nat := 0
  rail : Bool := false
  senseMohm : Nat := 0
  statsQueue : Nat := 0
  endpointMac : Nat := 0
deriving DecidableEq, Repr

/-- R248: the class of a frame in an egress buffer. -/
inductive EgClass where
  | withdraw | timed | other
deriving DecidableEq, Repr

/-- A frame in an egress buffer. `cyc` names the task key, cycle and commit time of a timed or withdraw frame. -/
structure EgFrame where
  id : Nat
  cls : EgClass
  frame : Frame
  cyc : Option (Nat × Nat × Time80) := none
  started : Bool := false
deriving DecidableEq, Repr

/-- R251: a port's power sourcing state, in code order. -/
inductive PseState where
  | off | detecting | classifying | waitBudget | powered | backoff | noPd
deriving DecidableEq, Repr

/-- A port of the port switch, 0-191 field ports: configuration, status (R251), counters (R254), egress. -/
structure Port where
  cfg : PortCfg := {}
  link : Nat := 0
  level2v4 : Bool := false
  isMaster : Bool := false
  eeeOn : Bool := false
  lpi : Bool := false
  pausedUntil : Option Nat := none
  pausing : Bool := false
  pauseDue : Nat := 0
  pse : PseState := .off
  pseClass : Nat := 0
  pseStatus : Status := { cls := .done, reason := .none }
  pseDue : Nat := 0
  granted : Bool := false
  denied : Bool := false
  currentMa : Nat := 0
  powerMw : Nat := 0
  sqi : Nat := 0
  halfRx : BitVec 32 := 0
  halfTx : BitVec 32 := 0
  rx : Table Nat := []
  tx : Table Nat := []
  halfDue : Nat := 0
  halfPending : Bool := false
  egress : List EgFrame := []
  lastFrameTick : Option Nat := none
  pauseSent : Option Nat := none
  gate : Bool := false
  fedRail : Bool := false
deriving DecidableEq, Repr

/-- R273: the configuration of an uplink or SVC. -/
structure UplinkCfg where
  mode : Nat := 0
  mediumCr : Bool := false
  adv : BitVec 4 := 0
  forcedRate : Nat := 0
  fecAllow : BitVec 2 := 0
  govEn : Bool := false
  govFloor : Nat := 1
  govCeil : Nat := 4
  svc1000x : Bool := false
  egressQueue : Nat := 0
  rxAdjPs : Int := 0
  txAdjPs : Int := 0
  launchQueue : Nat := 0
deriving DecidableEq, Repr

/-- R288: the launch being handled: its item's SEQ, time, tag and reply queue. -/
structure Launch where
  item : Nat
  at80 : Time80
  now : Bool
  tag : Nat
  replyQueue : Nat
  frame : List Byte
  suite : Nat
  delayed : Bool := false
deriving DecidableEq, Repr

/-- R278: the further state of UL0, UL1 and SVC (ports 192 to 194). -/
structure Uplink where
  cfg : UplinkCfg := {}
  rate : Nat := 0
  fec : Nat := 0
  gov : Nat := 0
  lpAdv : BitVec 4 := 0
  lpFec : BitVec 2 := 0
  govDowns : Nat := 0
  govUps : Nat := 0
  govAbandons : Nat := 0
  lastStepUs : Nat := 0
  lowRun : Nat := 0
  stepTo : Nat := 0
  stepUp : Bool := false
  stepTick : Nat := 0
  windowOctets : Nat × Nat := (0, 0)
  windowTick : Nat := 0
  shortOctets : Nat × Nat := (0, 0)
  shortTick : Nat := 0
  resumeDue : Nat := 0
  launch : Option Launch := none
deriving DecidableEq, Repr

/-- R256: the entries of the switch tables. -/
structure FwdEntry where
  dest : Nat
  mac : Nat
  vlan : Nat
deriving DecidableEq, Repr

inductive ClassAction where
  | drop | queue | points | forward
deriving DecidableEq, Repr

structure ClassEntry where
  action : ClassAction
  suite : Nat
  prio : Nat
  queue : Nat
  pmapCount : Nat
  port : Nat
  vlan : Nat
  ethertype : Nat
  srcLo : Nat
  srcMatch : Bool
deriving DecidableEq, Repr

inductive PmapEntry where
  | ingress (element offset : Nat) (big : Bool)
  | egress (element port endpoint : Nat)
deriving DecidableEq, Repr

/-- R256, R258: a table write that waits for its instant. -/
structure TableWrite where
  table : Nat
  index : Nat
  fwd : Option FwdEntry := none
  group : Option (BitVec 64) := none
  cls : Option ClassEntry := none
  pmap : Option PmapEntry := none
  req : CfgReq
  nofence : Bool
deriving DecidableEq, Repr

/-- A good frame on its way through the switch (R255). -/
structure RxFrame where
  port : Nat
  frame : Frame
  len : Nat
  sfd : Time80
  tsValid : Bool
deriving DecidableEq, Repr

/-- R263: a quiet-floor transaction. -/
structure Quiet where
  number : Nat
  asked : List Nat
  ports : List Nat
  agreed : List Nat
  tq : Time80
  entered : Nat := 0
  tag : Nat
  replyQueue : Nat
  suite : Nat
deriving DecidableEq, Repr

/-- R263, R270: the QUIET field, in code order. -/
inductive QuietState where
  | awake | proposing | entering | quiet
deriving DecidableEq, Repr

/-- Log 2 (DESIGN CHOICE). -/
structure PortSwitch where
  epoch : Nat := 0
  draining : Bool := false
  fwd : Table FwdEntry := []
  groups : Table (BitVec 64) := []
  classes : Table ClassEntry := []
  pmap : Table PmapEntry := []
  txq : Table Nat := []
  macBase : Nat := 0
  railA : Nat := 0
  railB : Nat := 0
  idleMin : Nat := 0
  agreeWait : Nat := 0
  quiet : QuietState := .awake
  transaction : Option Quiet := none
  transactions : Nat := 0
  quietAborts : Nat := 0
  waiting : List TableWrite := []
  drainReqs : List CfgReq := []
  ingress : List RxFrame := []
  frameIds : Nat := 0
deriving DecidableEq, Repr

/-! ### Hallway ports (spec/12) -/

/-- R292: the bit timing of one phase. -/
structure BitTiming where
  brp : Nat := 0
  seg1 : Nat := 0
  seg2 : Nat := 0
  sjw : Nat := 0
  tdco : Nat := 0
deriving DecidableEq, Repr

/-- R292 PORT body. -/
structure HallCfg where
  opmode : Nat := 0
  trunk : Bool := false
  fdEn : Bool := false
  xlEn : Bool := false
  pex : Bool := false
  xlEsOff : Bool := false
  tms : Bool := false
  retryMax : Nat := 0
  nominal : BitTiming := {}
  fd : BitTiming := {}
  xl : BitTiming := {}
  rxDefault : Nat := 0
  recoverDelay : Nat := 0
  tsAdj : Int := 0
deriving DecidableEq, Repr

/-- R292 FILTER body. -/
structure HallFilter where
  valid : Bool := false
  queueAction : Bool := false
  prio : Nat := 0
  suite : Nat := 0
  queue : Nat := 0
  fmt : BitVec 3 := 0
  ide : Bool := false
  id : BitVec 29 := 0
  idMask : BitVec 29 := 0
  vcid : BitVec 8 := 0
  vcidMask : BitVec 8 := 0
  sdt : BitVec 8 := 0
  sdtMask : BitVec 8 := 0
deriving DecidableEq, Repr

/-- R292 SLOT body. -/
structure HallSlotCfg where
  valid : Bool := false
  suite : Nat := 0
  queue : Nat := 0
  fmt : BitVec 3 := 0
  ide : Bool := false
  allowId : BitVec 29 := 0
  allowMask : BitVec 29 := 0
deriving DecidableEq, Repr

/-- R296 to R301: a frame offered on a slot. `cancel` holds why it is to be withdrawn after the attempt, `cancelReplies` the tag,
reply queue and suite of each HB_CANCEL that waits for that; `suiteReset` says that a suite reset has ended it. -/
structure Offered where
  item : Nat
  frame : HallFrame
  tag : Nat
  replyQueue : Nat
  lifetimeUs : Nat
  entered : Time80
  suite : Nat
  attempts : Nat := 0
  errors : Nat := 0
  attempting : Bool := false
  sof : Option Time80 := none
  cancel : Option Status := none
  byLifetime : Bool := false
  suiteReset : Bool := false
  cancelReplies : List (Nat × Nat × Nat) := []
deriving DecidableEq, Repr

/-- R307: a Hallway port. `integrated` is false until it has joined the bus (R293, R306). -/
structure Hall where
  cfg : HallCfg := {}
  filters : Table HallFilter := []
  slots : Table HallSlotCfg := []
  offered : Table Offered := []
  busState : Nat := 5
  integrated : Bool := false
  tec : Nat := 0
  recErr : Nat := 0
  lastError : Nat := 0
  busOffs : Nat := 0
  recoverDue : Nat := 0
  rxFrames : Nat := 0
  txFrames : Nat := 0
  rxDrops : Nat := 0
  rxStandby : Nat := 0
  arbLost : Nat := 0
  errors : Nat := 0
deriving DecidableEq, Repr

/-- R305: the latest counter and house-time pair of a group of four ports. -/
structure HallPair where
  count : Nat := 0
  time : Time80 := t0
  tick : Nat := 0
  recorded : Bool := false
deriving DecidableEq, Repr

/-! ### Utility I/O (spec/13) -/

/-- R310: the configuration of a block of eight inputs. -/
structure InputBlock where
  type3 : Bool := false
  enable : BitVec 8 := 0
  filterUs : Nat := 0
  invert : BitVec 8 := 0
  countEn : BitVec 8 := 0
  testPeriod : Nat := 0
deriving DecidableEq, Repr

/-- R308, R309: an input's pin: its voltage in mV, the level its comparator gives, the tick since which it gives it, and since when it gave the
level before. Log 74 (DEDUCED). -/
structure InputPin where
  mv : Nat := 0
  raw : Bool := false
  since : Nat := 0
  prior : Nat := 0
deriving DecidableEq, Repr

/-- The inputs: pins, blocks, last self-tests, filtered states, self-test failures and pulse counters (R309 to R313). -/
structure Inputs where
  pins : Table InputPin := []
  tested : Table Nat := []
  blocks : Table InputBlock := []
  state : BitVec 64 := 0
  testFail : BitVec 64 := 0
  counts : Table Nat := []
deriving DecidableEq, Repr

/-- R318: the configuration of an output bank. -/
structure BankCfg where
  policy : Nat := 0
  enable : Bool := false
  shutterMs : Nat := 0
  safeValue : BitVec 8 := 0
  openDetect : BitVec 8 := 0
  retryMs : Nat := 0
  maxRetries : Nat := 0
  deadUs : Nat := 0
deriving DecidableEq, Repr

/-- R314 BANK_STATE, in code order. -/
inductive BankState where
  | opened | closed | tripped | lockedOut
deriving DecidableEq, Repr

/-- R315, R320: one output: its committed value, whether a task has committed a value since it was last driven
safe, its low-side switch, and the Shutter's watch on it. -/
structure Output where
  committed : Bool := false
  touched : Bool := false
  conducting : Bool := false
  pendingAt : Option Nat := none
  live : Bool := false
  releasedTick : Nat := 0
  shutterSafe : Bool := false
  overload : Bool := false
  openLoad : Bool := false
  stuck : Bool := false
  switched : Option Nat := none
  openSince : Nat := 0
  stuckSince : Nat := 0
  status : Status := { cls := .done, reason := .none }
deriving DecidableEq, Repr

/-- R134, R135: the output values that a cycle has armed in the utility latches for its commit time; `committed` once the cycle has
committed. A re-release (R149) is armed as cycle 0 of its task. -/
structure Latch where
  ctx : Nat
  cyc : Nat
  at80 : Time80
  vals : List (Nat × Bool)
  committed : Bool := false
deriving DecidableEq, Repr

structure Bank where
  cfg : BankCfg := {}
  state : BankState := .opened
  retries : Nat := 0
  retryDue : Nat := 0
  closedTick : Nat := 0
  lastOffTick : Option Nat := none
  requests : Nat := 0
  bankMa : Nat := 0
  trips : Nat := 0
  shutterTrips : Nat := 0
deriving DecidableEq, Repr

/-! ### Meter cupboard (spec/14) -/

/-- R324 CIRCUIT body, with the scales as REAL32 bits. -/
structure CircuitCfg where
  owner : Nat := 0
  enable : Bool := false
  carrier : Bool := false
  hz60 : Bool := false
  single : Bool := false
  demandS : Nat := 900
  vScale : BitVec 32 := 0
  iScale : BitVec 32 := 0
  vGain : List Int := [0, 0, 0, 0]
  iGain : List Int := [0, 0, 0]
  phc : List Int := [0, 0, 0]
deriving DecidableEq, Repr

/-- A circuit: configuration in force and waiting, residues below one unit of its ten energies (R328), demand
interval, status (R337). Energies and quantities themselves are points (R327). -/
structure Circuit where
  cfg : CircuitCfg := {}
  next : Option CircuitCfg := none
  clear : Bool := false
  residues : List (Nat × Nat) := List.replicate 10 (0, 1)
  demandSum : Int × Nat := (0, 1)
  demandNs : Int × Nat := (0, 1)
  demandIndex : Nat := 0
  vPresent : BitVec 3 := 0
  seqReversed : Bool := false
  clipping : BitVec 3 := 0
  highPath : BitVec 3 := 0
  stale : Bool := false
  missed : Nat := 0
  clips : Nat := 0
  pulseLost : Nat := 0
deriving DecidableEq, Repr

/-- R333: a pulse output: its configuration, the energy not yet pulsed, the backlog and the pulse in progress. -/
structure PulseOut where
  circuit : Nat := 0
  enable : Bool := false
  source : Nat := 0
  widthMs : Nat := 0
  weight : Nat := 0
  residue : Int × Nat := (0, 1)
  due : List Nat := []
  lastDue : Option Nat := none
  active : Bool := false
  endTick : Nat := 0
  inGap : Bool := false
  width : Nat := 0
deriving DecidableEq, Repr

/-- R334: a register from a pulse input. -/
structure MeterReg where
  enable : Bool := false
  owner : Nat := 0
  weight : Nat := 0
  base : Nat := 0
  count0 : Nat := 0
deriving DecidableEq, Repr

/-- R336: a METER_READ that waits for the next window end. -/
structure MeterWait where
  circuit : Nat
  suite : Nat
  tag : Nat
  replyQueue : Nat
deriving DecidableEq, Repr

/-- The meter: `pulseNext` and `regNext` wait for the end of the window in progress (R325), the latter with the value of a SET;
`sent` holds the quantities on their way from a standby carrier to the active (R335). -/
structure Meter where
  circuits : Table Circuit := []
  pulses : Table PulseOut := []
  pulseNext : Table PulseOut := []
  regs : Table MeterReg := []
  regNext : Table (MeterReg × Option Nat) := []
  sent : List (Nat × List PointVal) := []
  waits : List MeterWait := []
  flash : Table PointVal := []
  flashDue : Nat := 0
deriving DecidableEq, Repr

/-! ### Mantel clock and always-on domain (spec/17) -/

/-- R384: a trim window in progress: the house time and the Mantel count at its start, and the mains cycles counted in it. -/
structure TrimWindow where
  start : Time80
  count : Nat
  cycles : Nat := 0
deriving DecidableEq, Repr

/-- R376 to R387: the always-on domain. `trimAcc` spreads the trim over crystal ticks, `wakes` holds the instants, in 1/64 s, at or
beyond the present count at which a wake has occurred, `loadAt` the house second at which a load is due, `loadIsReload` that it is
a phase reload, `window` the trim window in progress, `trimDone` the ticks counted in one that has ended, `lastEdge` the REFCLK tick of the
crystal's last edge, `vbakDue` that of the next measurement of VBAK. `scratch` is the backup scratch area (R12). Log 2 (DESIGN CHOICE), 79 (DEDUCED). -/
structure Mantel where
  seconds : Nat := 0
  fraction : Nat := 0
  trimAcc : Int := 0
  onBackup : Bool := false
  batLow : Bool := false
  oscStop : Bool := true
  halt : Bool := true
  chgV : Nat := 0
  chgR : Nat := 0
  trimSrc : Nat := 0
  trim : Int := 0
  wakeTicks : Nat := 0
  phaseSteps : Nat := 0
  windows : Nat := 0
  bakFirst : Nat := 0
  bakLatched : Bool := false
  bakSwitches : Nat := 0
  wakeCount : Nat := 0
  wakes : List Nat := []
  mwakeN : Bool := true
  wakeEnd : Nat := 0
  loadAt : Option Nat := none
  loadIsReload : Bool := false
  window : Option TrimWindow := none
  trimDone : Option Nat := none
  lastEdge : Nat := 0
  vbakDue : Nat := 0
  tamperLatched : Bool := false
  tamperSec : Nat := 0
  backupReported : Bool := true
  scratch : List Byte := []
deriving DecidableEq, Repr

/-! ### Twin pairing (spec/09) -/

/-- R220: a paired member's role. -/
inductive Role where
  | none | seeking | active | standby | updating
deriving DecidableEq, Repr

/-- A path to the partner (R226): alive, and when its last valid heartbeat came. -/
structure Path where
  alive : Bool := false
  lastTick : Nat := 0
deriving DecidableEq, Repr

/-- The header and data of an item inside a delta (R231 QENTER). -/
structure DeltaItem where
  prio : Nat
  ptag : Bool
  srcSuite : Nat
  hostId : Nat
  seq : Nat
  entered : Time80
  poison : List Nat
  data : List Byte
deriving DecidableEq, Repr

/-- R231: the entries of a mirror delta. -/
inductive DeltaEntry where
  | cycle (suite task : Nat) (status : Status) (cyc : Nat) (timers : List (Option Time80)) (expired : BitVec 4) (lines : List (Nat × List Byte))
  | points (vals : List (Nat × PointVal))
  | qenter (queue : Nat) (item : DeltaItem)
  | qack (queue : Nat) (seqs : List Nat)
  | command (target : BitVec 64) (tag replyQueue : Nat) (st : Status) (payload : List (BitVec 64))
  | outcome (suite task : Nat) (st : Status) (cyc frames : Nat) (words : List (BitVec 64))
  | hearth (slot : Nat) (x y : List Int) (k : Nat)
  | key (slot : Nat) (wrapped : List Byte)
  | config (suite : Nat) (words : List (BitVec 64))
  | suiteReset (suite : Nat) (cold : Bool)
  | ownership (suite : Nat) (owner : Option Nat) (rank : Nat) (leaseEnd : Time80) (locked : Bool)
  | taskMode (suite task mode : Nat)
  | onlineChange (suite task addr : Nat) (data : List Byte)
  | cancel (suite task : Nat) (cyc : Nat)
  | unknown (etype : Nat)
deriving DecidableEq, Repr

/-- R230: one delta. -/
structure Delta where
  dseq : Nat
  prepared : Bool
  snapshot : Bool
  at80 : Time80
  epoch : Nat
  entries : List DeltaEntry
deriving DecidableEq, Repr

/-- A prepared CAM cycle held by the standby (R235). -/
structure Prepared where
  suite : Nat
  task : Nat
  cyc : Nat
  commit : Time80
  entries : List DeltaEntry
deriving DecidableEq, Repr

/-- A delta shipped, as its items in service queue 0x0020, and not yet confirmed (R230, R234). -/
structure Shipped where
  dseq : Nat
  tick : Nat
  items : List (List LinkWord)
  snapshot : Bool := false
  prepared : Option (Nat × Nat × Nat) := none
deriving DecidableEq, Repr

/-- The Twin. `metSerial` is the serial of the partner last met, `mismatch` that what the members compare differs (R222); `token` is the
heartbeat token last sent, `strobeWord` the strobe word, whose CRC over the reset values is 0x07, `partnerDseq` the DSEQ that the partner's
token tells (R225); `commitAt` is the commit instant that the entries waiting for a delta belong to (R230); `confirmation` is the DSEQ
last confirmed to the active (R233), `snapshotAt` the instant of the snapshot last applied, `syncTick` when the synchronisation under way
began (R234); `exchange` is the last timestamp exchange (R227), `wasHealthy` the health that the last heartbeat told (R238); `pairReset` holds
this member's half of a reset of the pair that its partner takes first: whether it is cold, and since when it waits (R407). -/
structure Twin where
  mirrorWindow : Nat := 0
  hbMiss : Nat := 0
  noReclaim : Bool := false
  staleOk : Bool := false
  partnerSerial : Nat := 0
  mUs : Nat := 15
  member : Bool := false
  role : Role := .none
  partnerRole : Nat := 7
  landing : Path := {}
  strobe : Path := {}
  lanesUp : BitVec 4 := 0
  laneFails : Table Nat := []
  inStep : Bool := false
  syncing : Bool := false
  inStepCount : Nat := 0
  inStepTick : Nat := 0
  epoch : Nat := 0
  dseqNext : Nat := 1
  dseqLast : Nat := 0
  mirrorLate : Nat := 0
  takeovers : Nat := 0
  reclaims : Nat := 0
  confirmMax : Nat := 0
  resyncs : Nat := 0
  seekTick : Nat := 0
  transferKey : Option (List Byte) := none
  forwarded : List Item := []
  shipped : List Shipped := []
  waiting : List DeltaEntry := []
  prepared : List Prepared := []
  snapshotSeen : Bool := false
  lastApplied : Time80 := t0
  lastShipTick : Nat := 0
  commitAt : Option Time80 := none
  confirmation : Option Nat := none
  snapshotAt : Option Time80 := none
  syncTick : Nat := 0
  exchange : Option (Time80 × Nat) := none
  mismatch : Bool := false
  wasHealthy : Bool := false
  token : Option Heartbeat := none
  partnerDseq : Nat := 0
  strobeWord : BitVec 32 := 0x07000001
  tsw : Option Time80 := none
  tx : Option Time80 := none
  hbSentTick : Nat := 0
  partnerInStep : Bool := false
  partnerHealthy : Bool := false
  failed : Bool := false
  mirrorBad : Bool := false
  metSerial : Nat := 0
  pairReset : Option (Bool × Nat) := none
deriving DecidableEq, Repr

/-! ### Field update and flash (spec/18) -/

/-- R402 PHASE, in code order; 7, recovery, is the module's (R398). -/
inductive UpPhase where
  | idle | staging | checked | scheduled | waiting | activating | trial
deriving DecidableEq, Repr

/-- An image in flash: its length and its bytes; a byte that is not listed is erased and reads 0xFF. -/
structure FlashImage where
  length : Nat
  bytes : Table Byte
deriving DecidableEq, Repr

/-- An update selector's state: the staging bytes, the images and the schedule (R392 to R402). `spare` is a KIND 1 image left in the
slot that does not run, `version` that of the image being activated, `pairHeld` that the activation is held for the pair, `report`
that an outcome is to be recorded at the next start, `pairHalf` that the second half of a pair's activation or reversion waits, since
`pairTick`. -/
structure Update where
  phase : UpPhase := .idle
  lastStatus : Status := { cls := .done, reason := .none }
  runSlot : Bool := false
  stagedLen : Nat := 0
  staged : Table Byte := []
  stagedBytes : Nat := 0
  current : Option FlashImage := none
  fallback : Option FlashImage := none
  spare : Option FlashImage := none
  checkedImg : Bool := false
  activateAt : Time80 := t0
  together : Bool := false
  pairHeld : Bool := false
  holdS : Nat := 0
  trialS : Nat := 600
  trialEnd : Time80 := t0
  interlocks : List Nat := []
  recheckDue : Nat := 0
  version : BitVec 64 := 0
  report : Bool := false
  pairHalf : Bool := false
  pairTick : Nat := 0
deriving DecidableEq, Repr

/-! ### Start-up, reset and test (spec/19) -/

/-- The reset or start under way (R407, R408). -/
inductive BootPhase where
  /-- reset has been taken; the start sequence has not run -/
  | held
  /-- step 1 waits for PFAIL_N (R405) -/
  | waitPfail
  /-- the boot ROM stays in recovery (R398, R413) -/
  | recovery
  /-- step 7 has been reached -/
  | running
deriving DecidableEq, Repr

inductive ResetClass where
  | p | c | w
deriving DecidableEq, Repr

/-- R407: a UNIT_RESET of the module that waits for a switchover: whether it is cold, and what its reply needs. -/
structure HeldReset where
  cold : Bool
  via : CmdQueue
  target : BitVec 64
  tag : Nat
  replyQueue : Nat
  suite : Nat
deriving DecidableEq, Repr

/-- The start and its results (R415). `warm` holds while the pass of a warm restart is under way, `pendingReset` a reset that is to
begin at a REFCLK tick, with its class and cause. -/
structure Boot where
  phase : BootPhase := .held
  lastClass : ResetClass := .p
  warm : Bool := false
  restartWarm : Bool := false
  cause : Nat := 1
  bootMs : Nat := 0
  warmResets : Nat := 0
  coldResets : Nat := 0
  coreFail : BitVec 32 := 0
  m0Fail : Bool := false
  m1Fail : Bool := false
  memFail : Bool := false
  laneFail : Bool := false
  linkFail : Bool := false
  cleanStop : Bool := false
  pfailLow : Bool := false
  vfield : Bool := true
  pendingReset : Option (ResetClass × Nat × Nat) := none
  heldReset : Option HeldReset := none
deriving DecidableEq, Repr

/-- R418: the instructions of the TAP. -/
inductive TapInstr where
  | extest | samplePreload | idcode | clamp | highz | extestPulse | extestTrain | ident | bypass
deriving DecidableEq, Repr

/-- R418, R419: the TAP: its instruction, the boundary register as captured and as updated, whether a holding instruction stands,
and the data register selected, its width and the value captured. Log 2 (DESIGN CHOICE). -/
structure Tap where
  instr : TapInstr := .idcode
  boundary : List Bool := []
  preload : List Bool := []
  holding : Bool := false
  width : Nat := 32
  data : Nat := 0x0F1925AB
deriving DecidableEq, Repr

/-- R416: a loopback test on a unit. -/
structure LoopTest where
  depth : Nat
  count : Nat
  length : Nat
  durationS : Nat
  testId : Nat
  startTick : Nat
  tag : Nat
  replyQueue : Nat
  suite : Nat
deriving DecidableEq, Repr

end Sys2Proof.Machine
end

