-- ==== Sys2Proof/Machine/State.lean ====
section
/-! DEFINITION. The state of the UTM-F192 as one block, its state after a reset of class P, and the reasons a
step can stop. -/

namespace Sys2Proof.Machine
open Sys2Proof

/-- Why a step faults. No command of this block stops the machine: a failing instruction takes the instruction
fault that R88 to R90 describe, which is a next state. The type is therefore empty. -/
inductive Fault : Type
deriving DecidableEq, Repr

/-- Why a step is refused. -/
inductive Refusal where
  /-- raised by a dispatch arm of a command that has no meaning yet; safe -/
  | notModelled (mnemonic : String)
deriving DecidableEq, Repr

/-- The block. -/
structure State where
  /-- the commands that wait, first in, first out -/
  pending : List Instr := []
  /-- the model's own counter, which picks the next free value of Config -/
  free : Nat := 0
  /-- REFCLK ticks of 8 ns since power-on: real time, by which durations are judged -/
  tick : Nat := 0
  clock : HouseClock := {}
  copies : Table DieCopy := []
  rooms : Table Room := []
  links : Table DieLink := []
  lanesOut : List (Nat × Nat) := []
  units : Table UnitStat := []
  addr : Address := {}
  records : List CmdRecord := []
  groupCmds : List GroupCmd := []
  /-- answers of this member to group commands, on their way to the speaker: tag, reply queue, status -/
  groupOut : List (Nat × Nat × Status) := []
  tasks : Table Task := []
  foundation : Foundation := {}
  sram : Sram := {}
  seq : Sequencer := {}
  collector : Collector := {}
  journal : Journal := {}
  suites : Table Suite := []
  sessions : List Session := []
  points : Table PointCfg := []
  values : Table PointVal := []
  larder : Larder := {}
  hearth : Hearth := {}
  cellar : Cellar := {}
  fuses : Fusebox := {}
  attic : Attic := {}
  sw : PortSwitch := {}
  ports : Table Port := []
  uplinks : Table Uplink := []
  halls : Table Hall := []
  hallPairs : Table (List HallPair) := []
  inputs : Inputs := {}
  banks : Table Bank := []
  outputs : Table Output := []
  latches : List Latch := []
  safeDrives : List SafeDrive := []
  meter : Meter := {}
  mantel : Mantel := {}
  twin : Twin := {}
  updates : Table Update := []
  boot : Boot := {}
  tap : Tap := {}
  tests : Table LoopTest := []
deriving DecidableEq, Repr

/-- The machine right after a power-on reset (class P), before the start sequence of R408: every field at the
default its structure gives. -/
def State.reset : State := {}

end Sys2Proof.Machine
end

