-- ==== Sys2Proof/Machine/Bits.lean ====
section
/-! DEFINITION. Fields of words, byte order, sparse tables, times and status bytes. -/

namespace Sys2Proof.Machine
open Sys2Proof

/-! ### Fields of words -/

/-- The field of `len` bits from bit `lo` of a word. -/
def fld (w : BitVec 64) (lo len : Nat) : Nat := w.toNat / 2 ^ lo % 2 ^ len

/-- A number of `n` bits read as two's complement. -/
def signed (n v : Nat) : Int := if v % 2 ^ n < 2 ^ (n - 1) then (v % 2 ^ n : Nat) else (v % 2 ^ n : Nat) - (2 ^ n : Nat)

/-- The signed field of `len` bits from bit `lo`. -/
def sfld (w : BitVec 64) (lo len : Nat) : Int := signed len (fld w lo len)

/-- One bit of a word. -/
def bitAt (w : BitVec 64) (i : Nat) : Bool := w.getLsbD i

/-- A word made of fields (lowest bit, width, value). -/
def pack (fs : List (Nat × Nat × Nat)) : BitVec 64 :=
  BitVec.ofNat 64 (fs.foldl (fun acc f => acc + f.2.2 % 2 ^ f.2.1 * 2 ^ f.1) 0)

/-- An integer as a 64-bit two's complement word. -/
def ofInt64 (i : Int) : BitVec 64 := BitVec.ofInt 64 i

/-- A value limited to `n` bits, saturating (the "saturating" counters of the maps). -/
def satN (n v : Nat) : Nat := min v (2 ^ n - 1)

/-- Adds 1 to a counter of `n` bits that saturates. -/
def bump (n v : Nat) : Nat := satN n (v + 1)

/-- A Bool as a field value. -/
def b2n (b : Bool) : Nat := if b then 1 else 0

/-- Clamps an integer to the range of `n` signed bits. -/
def clampS (n : Nat) (x : Int) : Int := max (-(2 ^ (n - 1) : Nat)) (min x ((2 ^ (n - 1) : Nat) - 1))

/-! ### Byte order (R6: little-endian) -/

/-- The `n` bytes of a number, lowest first. -/
def bytesOf : Nat → Nat → List Byte
  | 0, _ => []
  | n + 1, v => BitVec.ofNat 8 v :: bytesOf n (v / 256)

/-- The number that bytes spell, lowest first. -/
def natOf : List Byte → Nat
  | [] => 0
  | b :: bs => b.toNat + 256 * natOf bs

/-- The bytes of a list of words. -/
def wordBytes (ws : List (BitVec 64)) : List Byte := ws.flatMap (fun w => bytesOf 8 w.toNat)

/-- Word `i` of a byte string; bytes beyond its end read as zero. -/
def wordAt (bs : List Byte) (i : Nat) : BitVec 64 := BitVec.ofNat 64 (natOf ((bs.drop (8 * i)).take 8))

/-! ### Sparse tables: keys strictly rising, no entry equal to the default -/

/-- The value at a key. -/
def tget {α : Type} (d : α) : Table α → Nat → α
  | [], _ => d
  | (k, v) :: t, i => if i = k then v else if i < k then d else tget d t i

/-- The table with a value set at a key; setting the default removes the entry. -/
def tset {α : Type} [DecidableEq α] (d : α) : Table α → Nat → α → Table α
  | [], i, x => if x = d then [] else [(i, x)]
  | (k, v) :: t, i, x =>
    if i < k then (if x = d then (k, v) :: t else (i, x) :: (k, v) :: t)
    else if i = k then (if x = d then t else (i, x) :: t)
    else (k, v) :: tset d t i x

/-- Sets an entry to the result of a function of it. -/
def tmod {α : Type} [DecidableEq α] (d : α) (t : Table α) (i : Nat) (f : α → α) : Table α := tset d t i (f (tget d t i))

/-- The entry at a key of a table in which every entry counts, whatever its value. -/
def tlook {α : Type} : Table α → Nat → Option α
  | [], _ => none
  | (k, v) :: t, i => if i = k then some v else if i < k then none else tlook t i

/-- Sets the entry at a key of a table in which every entry counts. -/
def tput {α : Type} : Table α → Nat → α → Table α
  | [], i, x => [(i, x)]
  | (k, v) :: t, i, x => if i < k then (i, x) :: (k, v) :: t else if i = k then (i, x) :: t else (k, v) :: tput t i x

/-- Removes the entry at a key. -/
def tdel {α : Type} (t : Table α) (i : Nat) : Table α := t.filter (fun e => e.1 != i)

/-- The canonical form of a table, above a lower bound on its keys; the default may depend on the key. -/
def tableOk {α : Type} [DecidableEq α] (d : Nat → α) : Nat → Table α → Bool
  | _, [] => true
  | lo, (k, v) :: t => decide (lo ≤ k) && decide (v ≠ d k) && tableOk d (k + 1) t

/-- A set of numbers as a strictly rising list: insertion. -/
def sinsert (i : Nat) : List Nat → List Nat
  | [] => [i]
  | k :: t => if i < k then i :: k :: t else if i = k then k :: t else k :: sinsert i t

/-! ### Times (R7, R113, R289) -/

/-- One second in ns. -/
def giga : Nat := 1000000000

/-- R113, R289: the signed difference a - b in ns, over the low 32 bits of seconds. -/
def tdiff (a b : Time80) : Int := signed 32 ((a.sec + 2 ^ 48 - b.sec % 2 ^ 48) % 2 ^ 32) * giga + ((a.ns : Int) - b.ns)

/-- R289: a time counts as reached when its difference from the present is zero or more. -/
def reached (now t : Time80) : Bool := decide (0 ≤ tdiff now t)

/-- A time advanced by signed ns, wrapping at 48 bits of seconds. -/
def taddNs (t : Time80) (d : Int) : Time80 :=
  let n := (t.ns : Int) + d
  { sec := (((t.sec : Int) + n / giga) % (2 ^ 48 : Nat)).toNat, ns := (n % giga).toNat }

/-- A time advanced by µs. -/
def taddUs (t : Time80) (us : Nat) : Time80 := taddNs t (us * 1000 : Nat)

/-- Whole µs since house-time zero (R125, R212). -/
def wholeUs (t : Time80) : Nat := t.sec * 1000000 + t.ns / 1000

/-- The time of a count of µs since house-time zero. -/
def ofUs (us : Nat) : Time80 := { sec := us / 1000000, ns := us % 1000000 * 1000 }

/-- A time in the form of `sr.now` (R58): ns in [31:0], low seconds in [63:32]. -/
def nowForm (t : Time80) : BitVec 64 := pack [(0, 32, t.ns), (32, 32, t.sec)]

/-- Seconds [47:32] (R58). -/
def secHi (t : Time80) : Nat := t.sec / 2 ^ 32 % 2 ^ 16

/-- A time from its `sr.now` form and seconds [47:32]. -/
def ofNowForm (w : BitVec 64) (hi : Nat) : Time80 := { sec := fld w 32 32 + hi % 2 ^ 16 * 2 ^ 32, ns := fld w 0 32 }

/-- REFCLK ticks of 8 ns in a number of µs (R12, R13: REFCLK is 125 MHz). -/
def ticksUs (us : Nat) : Nat := us * 125

/-- REFCLK ticks in a number of ms. -/
def ticksMs (ms : Nat) : Nat := ms * 125000

/-! ### Status bytes (R11, R121) -/

def StatusClass.code (c : StatusClass) : Nat := c.ctorIdx

def Reason.code (r : Reason) : Nat := r.ctorIdx

/-- R11: class in [7:5], reason in [4:0]. -/
def Status.byte (st : Status) : Nat := StatusClass.code st.cls * 32 + Reason.code st.reason

def stDone : Status := { cls := .done, reason := .none }
def stDelayed (r : Reason) : Status := { cls := .delayed, reason := r }
def stRefused (r : Reason) : Status := { cls := .refused, reason := r }
def stFault (r : Reason) : Status := { cls := .fault, reason := r }
def stWithdrawn : Status := { cls := .withdrawn, reason := .none }
def stResetDiscarded : Status := { cls := .resetDiscarded, reason := .reset }
def stPartial : Status := { cls := .partialDone, reason := .none }

/-! ### Small list operations -/

/-- Removes the first element that satisfies a test. -/
def eraseFirst {α : Type} (p : α → Bool) : List α → List α
  | [] => []
  | x :: xs => if p x then xs else x :: eraseFirst p xs

/-- Applies a function to the elements that satisfy a test. -/
def mapWhere {α : Type} (p : α → Bool) (f : α → α) (l : List α) : List α := l.map (fun x => if p x then f x else x)

/-- The numbers from `a`, `n` of them. -/
def rangeFrom (a n : Nat) : List Nat := (List.range n).map (a + ·)

end Sys2Proof.Machine
end

