-- ==== Sys2Proof/Machine/Units.lean ====
section
/-! DEFINITION. Gwynty addresses, the parts of the module, suites and their windows (spec/02, spec/06). -/

namespace Sys2Proof.Machine
open Sys2Proof

/-! ### Addresses (R35 to R40, R54, R440) -/

/-- R35: the lowest bit of level `k`. -/
def levelLo (k : Nat) : Nat := [53, 45, 37, 29, 23, 17, 14].getD (k - 1) 0

/-- R35: the width of level `k`. -/
def levelLen (k : Nat) : Nat := [8, 8, 8, 8, 6, 6, 3].getD (k - 1) 0

/-- R35 DEPTH. -/
def addrDepth (a : BitVec 64) : Nat := fld a 61 3

/-- R35: the number of level `k`. -/
def addrLevel (a : BitVec 64) (k : Nat) : Nat := fld a (levelLo k) (levelLen k)

/-- R35 ELEMENT. -/
def addrElement (a : BitVec 64) : Nat := fld a 0 14

/-- R39: the self element. -/
def selfElement : Nat := 0x70

/-- Two addresses have the same first `d` levels. -/
def samePath (a b : BitVec 64) (d : Nat) : Bool := (rangeFrom 1 d).all (fun k => addrLevel a k == addrLevel b k)

/-- R54: DEPTH is not 0 and every level beyond it is zero. -/
def addrWellFormed (a : BitVec 64) : Bool :=
  addrDepth a != 0 && (rangeFrom (addrDepth a + 1) (7 - addrDepth a)).all (fun k => addrLevel a k == 0)

/-- The address at depth `d` with the first `n` levels of `a` and the further levels given. -/
def addrAt (a : BitVec 64) (d n : Nat) (more : List Nat) (el : Nat) : BitVec 64 :=
  pack ((61, 3, d) :: (0, 14, el) ::
    ((rangeFrom 1 n).map (fun k => (levelLo k, levelLen k, addrLevel a k)) ++
     more.mapIdx (fun i v => (levelLo (n + 1 + i), levelLen (n + 1 + i), v))))

/-- R40: the instances of a part class. -/
def partInstances : Nat → List Nat
  | 1 => List.range 192
  | 2 => List.range 3
  | 3 => List.range 16
  | 4 => List.range 9
  | 5 => List.range 11
  | 6 => List.range 7
  | 7 => [0, 1, 2, 3, 4, 5, 8, 9, 10, 11, 12, 13, 14, 15, 16]
  | _ => []

/-- R40, R441: every part, in ascending address order. -/
def allParts : List Part := (rangeFrom 1 7).flatMap (fun c => (partInstances c).map (fun i => { cls := c, inst := i }))

/-- R440, R39, R40, R103: a unit's own address. -/
def unitAddr (s : State) : UnitId → BitVec 64
  | .module => s.addr.self
  | .pair => addrAt s.addr.self (addrDepth s.addr.self - 1) (addrDepth s.addr.self - 1) [] selfElement
  | .group l => match s.addr.groups.find? (fun g => g.1 == l) with
    | some g => g.2.addr
    | none => addrAt s.addr.self l l [] selfElement
  | .part p => addrAt s.addr.self (addrDepth s.addr.self + 1) (addrDepth s.addr.self) [p.cls] p.inst

/-- R40, R41: the KIND of a unit. -/
def unitKind : UnitId → Nat
  | .module => 0x01
  | .pair => 0x02
  | .group _ => 0x03
  | .part p => 0x0F + p.cls

/-- What a Gwynty address names: a unit, or a point of this module, directly or through its pair (R50). -/
inductive Target where
  | unit (u : UnitId)
  | point (element : Nat) (viaPair : Bool)
deriving DecidableEq, Repr

/-- R38, R54: the unit or point that an ELEMENT names under a module or a pair. -/
def elementTarget (u : UnitId) (viaPair : Bool) (el : Nat) : Option Target :=
  if el = selfElement then some (.unit u)
  else if 0x71 ≤ el && el ≤ 0x7F then none
  else some (.point el viaPair)

/-- R54, R440: the target an address names; none where it is refused with REFUSED(ADDRESS). Log 88 (DEDUCED). -/
def resolve (s : State) (a : BitVec 64) : Option Target :=
  let self := s.addr.self
  let sd := addrDepth self
  let d := addrDepth a
  let el := addrElement a
  if !addrWellFormed a then none
  else if d = sd && samePath a self sd then elementTarget .module false el
  else if d = sd + 1 && samePath a self sd then
    if (partInstances (addrLevel a d)).contains el then some (.unit (.part { cls := addrLevel a d, inst := el })) else none
  else if s.addr.paired && d + 1 = sd && samePath a self d then elementTarget .pair true el
  else match s.addr.groups.find? (fun g => addrDepth g.2.addr == d && samePath a g.2.addr d) with
    | some g => if el = selfElement then some (.unit (.group g.1)) else none
    | none => none

/-- The key of a unit in the table of unit states. -/
def unitKey : UnitId → Nat
  | .module => 0
  | .pair => 1
  | .group l => 2 + l
  | .part p => 0x1000 * p.cls + p.inst

def unitStat (s : State) (u : UnitId) : UnitStat := tget {} s.units (unitKey u)

def setUnitStat (s : State) (u : UnitId) (f : UnitStat → UnitStat) : State := { s with units := tmod {} s.units (unitKey u) f }

/-- R41 OWNER_SUITE: a circuit belongs to the suite that its configuration names, every other unit to suite 0. Log 88 (DEDUCED). -/
def unitOwner (s : State) : UnitId → Nat
  | .part p => if p.cls = 7 && 8 ≤ p.inst && p.inst < 16 then (tget {} s.meter.circuits (p.inst - 8)).cfg.owner else 0
  | _ => 0

/-- R41, R352: the module's own serial. -/
def ownSerial (s : State) : Nat := (s.cellar.ident.getD 2 0).toNat

/-- R41: the serial of member 0 of the pair: the partner's as it was met, or as CFG_TWIN names it. Log 94 (DEDUCED). -/
def pairSerial (s : State) : Nat :=
  if !s.twin.member then ownSerial s else if s.twin.metSerial = 0 then s.twin.partnerSerial else s.twin.metSerial

/-- R41 SERIAL: a group's is that of its speaker, which this module or its pair is. Log 94 (DEDUCED). -/
def unitSerial (s : State) : UnitId → Nat
  | .module => ownSerial s
  | .pair => pairSerial s
  | .group l => if s.addr.paired && l + 2 = addrDepth s.addr.self then pairSerial s else ownSerial s
  | .part _ => 0

/-- R103: a declared group. -/
def groupAt (s : State) (l : Nat) : Option GroupDecl := tlook s.addr.groups l

/-- R41: the fields of a pair's or a group's descriptor that can change while it exists. -/
def aggregateFields (s : State) (u : UnitId) : BitVec 64 × Nat × List (BitVec 64) :=
  (unitAddr s u, unitSerial s u, match u with | .group l => ((groupAt s l).map (·.members)).getD [] | _ => [])

/-- R41: a descriptor field of a unit changes. Log 88 (DEDUCED). -/
def bumpEpoch (s : State) (u : UnitId) : State := setUnitStat s u (fun x => { x with descEpoch := (x.descEpoch + 1) % 2 ^ 32 })

/-- R41: DESC_EPOCH of the pair and of each group rises where a field of its descriptor has changed from `old`. Log 88 (DEDUCED). -/
def settleEpochs (old s : State) : State :=
  let units := (if old.addr.paired && s.addr.paired then [UnitId.pair] else []) ++ s.addr.groups.map (fun g => UnitId.group g.1)
  (units.filter (fun u => aggregateFields old u != aggregateFields s u)).foldl bumpEpoch s

/-- The units of a tenant suite. Log 88 (DEDUCED). -/
def ownedUnits (s : State) (suite : Nat) : List UnitId :=
  ((rangeFrom 8 8).map (fun n => UnitId.part { cls := 7, inst := n })).filter (fun u => unitOwner s u == suite)

/-! ### Named parts -/

abbrev fieldPort (p : Nat) : UnitId := .part { cls := 1, inst := p }
abbrev uplinkUnit (p : Nat) : UnitId := .part { cls := 2, inst := p }
abbrev hallUnit (h : Nat) : UnitId := .part { cls := 3, inst := h }
abbrev roomUnit (r : Nat) : UnitId := .part { cls := 4, inst := r }
abbrev engineUnit (e : Nat) : UnitId := .part { cls := 5, inst := e }
abbrev linkUnit (l : Nat) : UnitId := .part { cls := 6, inst := l }
abbrev utilUnit (g : Nat) : UnitId := .part { cls := 7, inst := g }
abbrev larderPart : Part := { cls := 5, inst := 0 }
abbrev hearthPart : Part := { cls := 5, inst := 1 }
abbrev cellarPart : Part := { cls := 5, inst := 2 }
abbrev switchPart : Part := { cls := 5, inst := 6 }

/-- Ports of the port switch: 0-191 field ports, 192-194 UL0, UL1 and SVC. -/
def portUnit (p : Nat) : UnitId := if p < 192 then fieldPort p else uplinkUnit (p - 192)

/-- The part of a port of the port switch. -/
def portPart (p : Nat) : Part := if p < 192 then { cls := 1, inst := p } else { cls := 2, inst := p - 192 }

/-- R417: a loopback test runs on the unit. -/
def testing (s : State) (u : UnitId) : Bool := (tlook s.tests (unitKey u)).isSome

/-- R14, R30: a die link has been declared down. -/
def dieLinkDown (s : State) (l : Nat) : Bool := (tget {} s.links l).down

/-- R30: no output value or commit release reaches the utility die. Log 83 (DEDUCED). -/
def utilDown (s : State) : Bool := dieLinkDown s 4

/-- R30, R417: a port whose link cannot come up: its wing link is down, or a loopback test runs on it. -/
def portHeldDown (s : State) (p : Nat) : Bool := (p < 192 && dieLinkDown s (p / 48)) || testing s (portUnit p)

/-! ### Suites (R159 to R162) -/

/-- R159: a suite as it stands before any CFG_SUITE names it. -/
def suiteDefault (n : Nat) : Suite :=
  { queueFirst := n * 1024
    queueCount := 1024
    enabled := n == 0
    atticUnits := if n = 0 then 1024 else 0
    vlanFirst := if n = 0 then 1 else 0
    vlanCount := if n = 0 then 4094 else 0 }

def suiteAt (s : State) (n : Nat) : Suite := tget (suiteDefault n) s.suites n

def setSuite (s : State) (n : Nat) (f : Suite → Suite) : State := { s with suites := tmod (suiteDefault n) s.suites n f }

/-- R160: the enabled suites. -/
def enabledSuites (s : State) : List Nat := (List.range 64).filter (fun n => (suiteAt s n).enabled)

/-- R60: the segments of a suite's window, in ascending address order. -/
inductive Segment where
  | code | const | retain | data
deriving DecidableEq, Repr

/-- R60, R160: the segment that holds a window address; none beyond the window. -/
def segmentOf (u : Suite) (a : Nat) : Option Segment :=
  if u.winSize ≤ a then none
  else if a < u.constAt * 4096 then some .code
  else if a < u.retainAt * 4096 then some .const
  else if a < u.dataAt * 4096 then some .retain
  else some .data

/-- STATE codes of R42 and R183. -/
def stOff : Nat := 0
def stStarting : Nat := 1
def stRun : Nat := 2
def stDegraded : Nat := 3
def stQuiet : Nat := 4
def stResetting : Nat := 5
def stStandby : Nat := 6
def stFaulty : Nat := 7

/-- R171: the suite is RESETTING. -/
def resetting (s : State) (n : Nat) : Bool := (suiteAt s n).state == stResetting

/-! ### Contexts -/

/-- The key of a task or context: suite and task number. -/
def ctxKey (suite task : Nat) : Nat := suite * 32 + task

/-- The key of the management firmware's context on core `k` (32 or 33). Log 111 (DEDUCED). -/
def firmwareKey (k : Nat) : Nat := 4096 + k

def taskAt (s : State) (c : Nat) : Task := tget {} s.tasks c

def setTask (s : State) (c : Nat) (f : Task → Task) : State := { s with tasks := tmod {} s.tasks c f }

def setCtx (s : State) (c : Nat) (f : Ctx → Ctx) : State := setTask s c (fun t => { t with ctx := f t.ctx })

/-- The suite of a context: the firmware's is suite 0. -/
def ctxSuite (c : Nat) : Nat := if c < 2048 then c / 32 else 0

/-- The task number of a context. -/
def ctxTask (c : Nat) : Nat := if c < 2048 then c % 32 else 0

/-- R127: the context is the foundation program's. -/
def isFoundation (c : Nat) : Bool := c == 0

/-- The core of a context: a task's is its descriptor's, the foundation program's M1 (M0 where M1 has failed its test, R412), the
firmware's its own. -/
def ctxCore (s : State) (c : Nat) : Nat :=
  if c = 0 then (if s.boot.m1Fail then 32 else 33) else if c < 2048 then (taskAt s c).desc.core else c - 4096

/-- The loaded tasks of a suite. -/
def suiteTasks (s : State) (n : Nat) : List (Nat × Task) :=
  s.tasks.filter (fun e => e.1 / 32 == n && e.1 != 0 && e.1 < 2048 && e.2.mode != .notLoaded)

/-- Every loaded task of the module. -/
def loadedTasks (s : State) : List (Nat × Task) :=
  s.tasks.filter (fun e => e.1 != 0 && e.1 < 2048 && e.2.mode != .notLoaded)

/-- The house time now. -/
def now (s : State) : Time80 := s.clock.time

/-- R21: the copy of house time on an outer die: wings 0 to 3, utility die 4. -/
def copyAt (s : State) (d : Nat) : DieCopy := tget {} s.copies d

/-- R21: the house time that an outer die goes by. -/
def dieTime (s : State) (d : Nat) : Time80 := taddNs (now s) ((copyAt s d).offset / 2 ^ 24)

/-- R21: the house time by which a port releases its timed frames: its wing's copy, or the house clock itself. -/
def portTime (s : State) (p : Nat) : Time80 := if p < 192 then dieTime s (p / 48) else now s

/-- R19, R30: REFCLK has failed, and the synchronous islands stand still: what an event of an island would do does not happen. Log 6 (DESIGN CHOICE), 84 (DEDUCED). -/
def clocked (s t : State) : State := if s.clock.clkFault then s else t

end Sys2Proof.Machine
end

