-- ==== Sys2Proof/Machine/Ops.lean ====
section
/-! DEFINITION. The shared operations over data SRAM, events, points and the registers of a context. -/

namespace Sys2Proof.Machine
open Sys2Proof

/-! ### Data SRAM (R64, R371, R372) -/

/-- The stored byte at a data SRAM address; a byte of a word whose valid bit is clear reads zero (R371): such a word
has no listed byte. -/
def readByte (m : Sram) (a : Nat) : Byte := tget 0 m.cells a

/-- The bytes of an access. -/
def readBytes (m : Sram) (a n : Nat) : List Byte := (List.range n).map (fun i => readByte m (a + i))

/-- Writes one byte: its check bits are written with it (R371), so any error in it is gone. -/
def writeByte (m : Sram) (a : Nat) (b : Byte) : Sram :=
  { cells := tset 0 m.cells a b, valid := sinsert (a / 4) m.valid, errors := tset 0 m.errors a 0 }

/-- Writes bytes from an address on. The other bytes of a touched word whose valid bit was clear read zero, as
R371 says, for no byte of such a word is listed. -/
def writeBytes (m : Sram) (a : Nat) : List Byte → Sram
  | [] => m
  | b :: bs => writeBytes (writeByte m a b) (a + 1) bs

/-- Clears the valid bits of the words that lie in a range (R171, R371): their bytes read zero. -/
def invalidate (m : Sram) (a n : Nat) : Sram :=
  let kept := fun (w : Nat) => 4 * w < a || a + n ≤ 4 * w
  { cells := m.cells.filter (fun c => kept (c.1 / 4))
    valid := m.valid.filter kept
    errors := m.errors.filter (fun c => kept (c.1 / 4)) }

/-- The bytes of an access that hold an error of a kind (1: one bit, 2: uncorrectable), in words that are valid. -/
def errorsIn (m : Sram) (a n kind : Nat) : List Nat :=
  ((List.range n).map (a + ·)).filter (fun x => tget 0 m.errors x == kind && m.valid.contains (x / 4))

/-- The canonical form of the data SRAM. -/
def Sram.wf (m : Sram) : Bool :=
  tableOk (fun _ => (0 : Byte)) 0 m.cells && tableOk (fun _ => 0) 0 m.errors && m.cells.all (fun c => m.valid.contains (c.1 / 4))

/-! ### Events (R359, R361) -/

/-- R361: the events in flight of a severity. -/
def inFlight (s : State) (sev : Nat) : Nat := (s.attic.flight.filter (fun x => x.sev == sev)).length

/-- Sends one event to the queue of its severity, 0x0018 + SEV; one that finds it without a credit is lost (R361). Log 28 (DESIGN CHOICE). -/
def postEvent (s : State) (e : Event) : State :=
  if inFlight s e.sev < 256 then
    { s with attic := { s.attic with flight := s.attic.flight ++ [e] } }
  else { s with attic := { s.attic with inFlightLost := bump 16 s.attic.inFlightLost, lostSince := s.attic.lostSince + 1 } }

/-- R42: a unit raises an event: its WORST_SEV and FAULT_COUNT follow. -/
def noteSeverity (s : State) (u : UnitId) (sev : Nat) (st : Status) : State :=
  setUnitStat s u (fun x => { x with
    worstSev := max x.worstSev sev
    faultCount := if st.cls = .fault then bump 16 x.faultCount else x.faultCount })

/-- Records an event of the module against suites: one record in the partition of each (R359). Log 44 (DEDUCED). -/
def raiseEvent (s : State) (suites : List Nat) (sev : Nat) (u : UnitId) (st : Status) (payload : List (BitVec 64)) : State :=
  let s := noteSeverity s u sev st
  suites.eraseDups.foldl (fun s n => postEvent s
    { suite := n, sev := sev, code := unitKind u * 256 + Status.byte st, time := now s,
      source := unitAddr s u, payload := payload }) s

/-- R18, R166: counts a failed run-time Threshold check of a suite. Log 60 (DEDUCED). -/
def countThreshold (s : State) (suite : Nat) : State :=
  setSuite s suite (fun u => { u with thresholdFaults := bump 16 u.thresholdFaults })

/-! ### Points (R106, R107, R142, R163, R164) -/

/-- The kinds of element of R38. -/
def isDi (e : Nat) : Bool := e < 0x40
def isDo (e : Nat) : Bool := 0x40 ≤ e && e < 0x70
def isMeterPoint (e : Nat) : Bool := 0x80 ≤ e && e < 0x200
def isGeneral (e : Nat) : Bool := 0x200 ≤ e && e < 0x4000
def isPoint (e : Nat) : Bool := isDi e || isDo e || isMeterPoint e || isGeneral e

/-- Point types in the code order of R142. -/
def tyBool : Nat := 0
def tyInt32 : Nat := 1
def tyUint32 : Nat := 2
def tyReal32 : Nat := 3
def tyReal64 : Nat := 4
def tyQ15 : Nat := 5
def tyEnergy64 : Nat := 6
def tyTime80 : Nat := 7

/-- R327, R334: the type of a meter point: a circuit has 46 quantities, the registers follow from 0x01F0. -/
def meterType (e : Nat) : Nat :=
  let i := (e - 0x80) % 46
  if 0x1F0 ≤ e then tyEnergy64
  else if i < 32 then tyReal32
  else if i < 42 then tyEnergy64
  else if i < 44 then tyReal32
  else if i = 44 then tyUint32
  else tyTime80

/-- R163: a point's configuration before any CFG_POINT names it. -/
def pointDefault (e : Nat) : PointCfg :=
  { owner := 0, type := if isGeneral e then tyUint32 else if isMeterPoint e then meterType e else tyBool }

def pointCfg (s : State) (e : Nat) : PointCfg := tget (pointDefault e) s.points e

/-- R164: whether a suite may read a point. -/
def mayRead (s : State) (suite e : Nat) : Bool :=
  suite == 0 || (pointCfg s e).owner == suite || (pointCfg s e).exportMap.getLsbD suite

def pointVal (s : State) (e : Nat) : PointVal := tget { v := 0 } s.values e

/-- R106: sign extension of the low `n` bits to 64. -/
def sext (n : Nat) (v : BitVec 64) : BitVec 64 := ofInt64 (signed n v.toNat)

/-- R106: zero extension of the low `n` bits to 64. -/
def zext (n : Nat) (v : BitVec 64) : BitVec 64 := BitVec.ofNat 64 (v.toNat % 2 ^ n)

/-- R106, R107: a source value in the form that a point of a type holds and PRD returns. -/
def canonValue (ty : Nat) (v : BitVec 64) : BitVec 64 :=
  if ty = tyBool then (if v = 0 then 0 else 1)
  else if ty = tyInt32 then sext 32 v
  else if ty = tyUint32 || ty = tyReal32 then zext 32 v
  else if ty = tyQ15 then sext 16 v
  else v

/-- Writes a point's committed value. -/
def setPoint (s : State) (e : Nat) (v : PointVal) : State := { s with values := tset { v := 0 } s.values e v }

/-- R107: the value a point takes at the commit: the staged half or halves, and its committed value for the other. -/
def mergedValue (s : State) (e : Nat) (p : Option PointVal) (hi : Option (BitVec 16)) : PointVal :=
  let old := pointVal s e
  { v := match p with | some x => x.v | none => old.v, hi := match hi with | some h => h | none => old.hi }

/-! ### Room pace word (R26) -/

def roomAt (s : State) (r : Nat) : Room := tget {} s.rooms r

/-- R26: the room pace word. -/
def paceWord (s : State) (r : Nat) : BitVec 64 :=
  let x := roomAt s r
  pack [(0, 16, x.paceNow), (16, 16, x.paceMin), (32, 1, b2n x.warn), (33, 1, b2n x.fault), (34, 1, b2n x.warnSeen),
    (35, 1, b2n x.faultSeen), (40, 8, x.tj), (48, 16, x.slowWindows)]

/-! ### Registers of a context (R56) -/

/-- Reads a general register: w0 reads as zero. -/
def rget (x : Ctx) (r : BitVec 5) : BitVec 64 := if r = 0 then 0 else x.w[r.toNat]

/-- Writes a general register: a write to w0 is discarded. -/
def rset (x : Ctx) (r : BitVec 5) (v : BitVec 64) : Ctx := if r = 0 then x else { x with w := x.w.set r.toNat v }

/-- Reads an accumulator, signed (R56). -/
def aget (x : Ctx) (a : BitVec 2) : Int := x.a[a.toNat].toInt

/-- Writes an accumulator. -/
def aset (x : Ctx) (a : BitVec 2) (v : Int) : Ctx := { x with a := x.a.set a.toNat (BitVec.ofInt 40 v) }

end Sys2Proof.Machine
end

