-- ==== Sys2Proof/Machine/Entries.lean ====
section
/-! DEFINITION. The words of items, of completions, and of the mirror delta with its entries, written and read (R97, R142, R184, R230,
R231). Every word is little-endian (R6). -/

namespace Sys2Proof.Machine
open Sys2Proof

/-! ### Items (R184) -/

/-- R184: word 0 of an item header. -/
def itemHeader (len prio : Nat) (ptag : Bool) (suite host seq : Nat) : BitVec 64 :=
  pack [(0, 16, len), (16, 3, prio), (19, 1, b2n ptag), (20, 6, suite), (32, 16, host), (48, 16, seq)]

/-! ### Completions (R97) -/

/-- R97: a completion. -/
structure Completion where
  st : Status
  major : Nat := 0
  fn : Nat := 0
  ticket : Nat := 0
  tag : Nat := 0
  suite : Nat := 0
  result : BitVec 64 := 0
  payload : List (BitVec 64) := []
deriving DecidableEq, Repr

/-- The words of a completion item. Log 10 (DESIGN CHOICE). -/
def Completion.words (c : Completion) (t : Time80) : List (BitVec 64) :=
  pack [(0, 8, Status.byte c.st), (8, 7, c.major), (16, 8, c.fn), (24, 16, c.ticket), (40, 16, c.tag), (56, 6, c.suite)] ::
    c.result :: nowForm t :: c.payload

/-- The status that a status byte spells (R11). -/
def statusOf (b : Nat) : Status :=
  let classes : List StatusClass := [.done, .delayed, .refused, .withdrawn, .resetDiscarded, .poisoned, .partialDone, .fault]
  let reasons : List Reason := [.none, .credit, .engine, .overlap, .power, .pending, .mirror, .owner, .lock, .threshold, .address, .range,
    .state, .budget, .pace, .unfenced, .check, .rollback, .size, .binding, .link, .timeout, .retries, .guard, .wake, .reset, .error,
    .illegal, .align, .stack, .arith, .internal]
  { cls := classes.getD (b / 32 % 8) .done, reason := reasons.getD (b % 32) .none }

/-! ### Words on the Landing link (R224, R231) -/

/-- A word without a poison tag. -/
def clean (w : BitVec 64) : LinkWord := { w, poison := 0 }

/-- The words of a byte string, zero-filled to whole words; `poison` numbers its 32-bit words whose poison tag is set (R200). -/
def linkBytes (poison : List Nat) (bs : List Byte) : List LinkWord :=
  (List.range ((bs.length + 7) / 8)).map (fun i =>
    { w := wordAt bs i, poison := BitVec.ofNat 2 (b2n (poison.contains (2 * i)) + 2 * b2n (poison.contains (2 * i + 1))) })

/-- The bytes that words spell. -/
def linkData (ws : List LinkWord) : List Byte := wordBytes (ws.map (·.w))

/-- The numbers of the 32-bit words whose poison tag is set. -/
def linkPoison (ws : List LinkWord) : List Nat :=
  (ws.mapIdx (fun i x => (if x.poison.getLsbD 0 then [2 * i] else []) ++ (if x.poison.getLsbD 1 then [2 * i + 1] else []))).flatten

/-! ### Entries (R231) -/

/-- R231: the expiry time and the state of a timer: bit 31 for an armed one, bit 30 for one that has expired, which no time has set.
Log 56 (DEDUCED). Log 56 (DEDUCED). -/
def timerWord (t : Option Time80) (expired : Bool) : BitVec 64 :=
  let x := t.getD t0
  pack [(0, 30, x.ns), (30, 1, b2n expired), (31, 1, b2n t.isSome), (32, 32, x.sec)]

/-- R231, R142: a committed value as a value entry. -/
def pointEntry (s : State) (v : Nat × PointVal) : List (BitVec 64) :=
  let ty := (pointCfg s v.1).type
  [pack [(0, 14, v.1), (16, 8, ty), (48, 16, if ty = tyTime80 then v.2.hi.toNat else 0)], v.2.v]

/-- Four 16-bit numbers in each word; the last is repeated to fill its word. Log 56 (DEDUCED). -/
def packSeqs (l : List Nat) : List (BitVec 64) :=
  let at' := fun i => l.getD i (l.getLastD 0)
  (List.range ((l.length + 3) / 4)).map (fun i =>
    pack [(0, 16, at' (4 * i)), (16, 16, at' (4 * i + 1)), (32, 16, at' (4 * i + 2)), (48, 16, at' (4 * i + 3))])

/-- R231 HEARTH: x[1..3], y[1..3] and k in two words. Log 56 (DEDUCED). -/
def slotStateWords (x y : List Int) (k : Nat) : List (BitVec 64) :=
  let q := fun (v : Int) => (ofInt64 v).toNat
  [pack [(0, 16, q (x.getD 0 0)), (16, 16, q (x.getD 1 0)), (32, 16, q (x.getD 2 0)), (48, 16, q (y.getD 0 0))],
   pack [(0, 16, q (y.getD 1 0)), (16, 16, q (y.getD 2 0)), (32, 3, k)]]

/-- R145, R231: an outcome item in the delta of an instant. -/
def outcomeWords (suite : Nat) (st : Status) (cyc frames : Nat) (words : List (BitVec 64)) (at80 : Time80) : List (BitVec 64) :=
  ({ st, major := 0x13, fn := 0x03, tag := cyc % 2 ^ 16, suite, result := BitVec.ofNat 64 frames, payload := words } : Completion).words at80

/-- The body of a SUITE entry's ownership. Log 56 (DEDUCED). -/
def ownershipWords (owner : Option Nat) (rank : Nat) (leaseEnd : Time80) (locked : Bool) : List (BitVec 64) :=
  [pack [(0, 16, owner.getD 0), (16, 1, b2n owner.isSome), (17, 3, rank), (20, 1, b2n locked), (32, 16, secHi leaseEnd)], nowForm leaseEnd]

/-- R231: ETYPE, SUITE, ARG and body of an entry in the delta of an instant. Log 56 (DEDUCED). -/
def entryParts (s : State) (at80 : Time80) : DeltaEntry → Nat × Nat × Nat × List LinkWord
  | .cycle n t st k timers expired lines => (0x01, n, t + Status.byte st * 256,
      (BitVec.ofNat 64 k :: (List.range 4).map (fun i => timerWord (timers.getD i none) (expired.getLsbD i))).map clean ++
        lines.flatMap (fun l => clean (BitVec.ofNat 64 (64 * l.1)) :: linkBytes [] l.2))
  | .points vals => (0x02, 0, 0, (vals.flatMap (pointEntry s)).map clean)
  | .qenter q it => (0x03, 0, q,
      clean (itemHeader it.data.length it.prio it.ptag it.srcSuite it.hostId it.seq) :: clean (nowForm it.entered) :: linkBytes it.poison it.data)
  | .qack q seqs => (0x04, 0, q, (packSeqs seqs).map clean)
  | .command target tag rq st payload => (0x05, 0, 0, (target :: pack [(0, 16, tag), (16, 16, rq), (32, 8, Status.byte st)] :: payload).map clean)
  | .outcome n t st k frames words => (0x06, n, t, (outcomeWords n st k frames words at80).map clean)
  | .hearth slot x y k => (0x07, 0, slot, (slotStateWords x y k).map clean)
  | .key slot wrapped => (0x08, 0, slot, linkBytes [] wrapped)
  | .config n words => (0x09, n, 0, words.map clean)
  | .suiteReset n cold => (0x0A, n, if cold then 2 else 1, [])
  | .ownership n owner rank leaseEnd locked => (0x0A, n, 3, (ownershipWords owner rank leaseEnd locked).map clean)
  | .taskMode n t m => (0x0A, n, 4, [clean (pack [(0, 5, t), (8, 2, m)])])
  | .onlineChange n t a data => (0x0A, n, 5, clean (pack [(0, 5, t), (16, 16, data.length), (32, 32, a)]) :: linkBytes [] data)
  | .cancel n t k => (0x0B, n, t, [clean (BitVec.ofNat 64 k)])
  | .unknown e => (e, 0, 0, [])

/-- R231: an entry as its words: the first word, then the body. -/
def spellEntry (s : State) (at80 : Time80) (e : DeltaEntry) : List LinkWord :=
  let p := entryParts s at80 e
  clean (pack [(0, 8, p.1), (8, 6, p.2.1), (16, 16, p.2.2.2.length), (32, 32, p.2.2.1)]) :: p.2.2.2

/-- Cuts a list into pieces of `n`, at most `fuel` of them. -/
def pieces {α : Type} (n : Nat) : List α → Nat → List (List α)
  | [], _ => []
  | _, 0 => []
  | l, fuel + 1 => l.take n :: pieces n (l.drop n) fuel

/-- R231: the RETAIN lines of a CYCLE body. -/
def readLines (ws : List LinkWord) : List (Nat × List Byte) :=
  (pieces 9 ws ws.length).map (fun p => ((p.headD (clean 0)).w.toNat / 64, linkData (p.drop 1)))

/-- R231: the state of a timer as its word tells it; a time's seconds above 32 bits are those of the delta. -/
def readTimer (at80 : Time80) (w : BitVec 64) : Option Time80 :=
  if bitAt w 31 then some { sec := fld w 32 32 + secHi at80 * 2 ^ 32, ns := fld w 0 30 } else none

/-- R231: an entry of the delta of an instant, from its first word and its body; one with an ETYPE, or a form of the SUITE entry, that is
not in the table is unknown. -/
def readEntry (at80 : Time80) (head : BitVec 64) (body : List LinkWord) : DeltaEntry :=
  let w := fun i => (body.getD i (clean 0)).w
  let n := fld head 8 6
  let arg := fld head 32 32
  let words := fun i => (body.drop i).map (·.w)
  match fld head 0 8 with
  | 0x01 => .cycle n (arg % 32) (statusOf (arg / 256)) (w 0).toNat ((List.range 4).map (fun i => readTimer at80 (w (1 + i))))
      (BitVec.ofNat 4 ((List.range 4).foldl (fun a i => a + b2n (bitAt (w (1 + i)) 30) * 2 ^ i) 0)) (readLines (body.drop 5))
  | 0x02 => .points ((pieces 2 (words 0) body.length).map (fun p =>
      (fld (p.getD 0 0) 0 14, { v := p.getD 1 0, hi := BitVec.ofNat 16 (fld (p.getD 0 0) 48 16) })))
  | 0x03 => .qenter arg { prio := fld (w 0) 16 3, ptag := bitAt (w 0) 19, srcSuite := fld (w 0) 20 6, hostId := fld (w 0) 32 16
                          seq := fld (w 0) 48 16, entered := ofNowForm (w 1) (secHi at80), poison := linkPoison (body.drop 2)
                          data := (linkData (body.drop 2)).take (fld (w 0) 0 16) }
  | 0x04 => .qack arg ((words 0).flatMap (fun x => [fld x 0 16, fld x 16 16, fld x 32 16, fld x 48 16])).eraseDups
  | 0x05 => .command (w 0) (fld (w 1) 0 16) (fld (w 1) 16 16) (statusOf (fld (w 1) 32 8)) (words 2)
  | 0x06 => .outcome n (arg % 32) (statusOf (fld (w 0) 0 8)) (fld (w 0) 40 16) (w 1).toNat (words 3)
  | 0x07 => .hearth arg [sfld (w 0) 0 16, sfld (w 0) 16 16, sfld (w 0) 32 16] [sfld (w 0) 48 16, sfld (w 1) 0 16, sfld (w 1) 16 16] (fld (w 1) 32 3)
  | 0x08 => .key arg (linkData body)
  | 0x09 => .config n (words 0)
  | 0x0A => match arg with
    | 1 => .suiteReset n false
    | 2 => .suiteReset n true
    | 3 => .ownership n (if bitAt (w 0) 16 then some (fld (w 0) 0 16) else none) (fld (w 0) 17 3) (ofNowForm (w 1) (fld (w 0) 32 16)) (bitAt (w 0) 20)
    | 4 => .taskMode n (fld (w 0) 0 5) (fld (w 0) 8 2)
    | 5 => .onlineChange n (fld (w 0) 0 5) (fld (w 0) 32 32) ((linkData (body.drop 1)).take (fld (w 0) 16 16))
    | _ => .unknown 0x0A
  | 0x0B => .cancel n (arg % 32) (w 0).toNat
  | e => .unknown e

/-- R231: the entries that a delta's words spell; none where the words end inside an entry. -/
def readEntries (at80 : Time80) : Nat → List LinkWord → Option (List DeltaEntry)
  | _, [] => some []
  | 0, _ => none
  | fuel + 1, h :: rest =>
    let n := fld h.w 16 16
    if rest.length < n then none
    else (readEntries at80 fuel (rest.drop n)).map (readEntry at80 h.w (rest.take n) :: ·)

/-! ### Deltas as items (R230) -/

/-- R230: the words of a delta's entries that one item holds after its header of three: 4,064 bytes in all (R204). -/
def wordsPerItem : Nat := 505

/-- R230: the header of a delta item. -/
def deltaHeader (d : Delta) (part : Nat) (last : Bool) (entries : Nat) : List LinkWord :=
  [pack [(0, 32, d.dseq), (32, 16, part), (48, 1, b2n last), (49, 1, b2n d.prepared), (50, 1, b2n d.snapshot), (56, 8, 1)],
   nowForm d.at80, pack [(0, 16, secHi d.at80), (16, 16, entries), (32, 32, d.epoch)]].map clean

/-- Where each entry of a delta begins in its words. -/
def entryStarts : Nat → List (List LinkWord) → List Nat
  | _, [] => []
  | at', e :: es => at' :: entryStarts (at' + e.length) es

/-- R230: a delta as its items. Its words run on from item to item, and ENTRIES counts the entries that begin in an item. -/
def spellDelta (s : State) (d : Delta) : List (List LinkWord) :=
  let entries := d.entries.map (spellEntry s d.at80)
  let starts := entryStarts 0 entries
  let ws := entries.flatten
  let cuts := if ws.isEmpty then [[]] else pieces wordsPerItem ws ws.length
  cuts.mapIdx (fun i p =>
    deltaHeader d i (i + 1 == cuts.length) (starts.filter (fun a => wordsPerItem * i ≤ a && a < wordsPerItem * (i + 1))).length ++ p)

/-- R230, R233: an item of a delta is the one in its place: the header names its delta, its number and whether it is the last. -/
def itemInPlace (dseq count part : Nat) (item : List LinkWord) : Bool :=
  let w := (item.headD (clean 0)).w
  3 ≤ item.length && fld w 0 32 == dseq && fld w 32 16 == part && bitAt w 48 == (part + 1 == count) && fld w 56 8 == 1

/-- R230, R231: the delta that items spell, where every one of them is in its place and their entries are whole. -/
def readDelta (items : List (List LinkWord)) : Option Delta :=
  let w := fun i => ((items.headD []).getD i (clean 0)).w
  let at80 := ofNowForm (w 1) (fld (w 2) 0 16)
  let ws := items.flatMap (·.drop 3)
  let dseq := fld (w 0) 0 32
  if items.isEmpty || !(items.mapIdx (itemInPlace dseq items.length)).all id then none else
  match readEntries at80 ws.length ws with
  | none => none
  | some entries =>
    if (items.map (fun i => fld (i.getD 2 (clean 0)).w 16 16)).sum ≠ entries.length then none
    else some { dseq, prepared := bitAt (w 0) 49, snapshot := bitAt (w 0) 50, at80, epoch := fld (w 2) 32 32, entries }

end Sys2Proof.Machine
end

