-- ==== Sys2Proof/Machine/Mirror.lean ====
section
/-! DEFINITION. The mirror delta of an active member (R230 to R233). -/

namespace Sys2Proof.Machine
open Sys2Proof

/-- R232: a partner follows this active member, in step or synchronising. -/
def followed (s : State) : Bool := s.twin.role == .active && (s.twin.inStep || s.twin.syncing)

/-- A new entry of the next mirror delta (R231). Log 62 (DEDUCED). -/
def mirror (s : State) (e : DeltaEntry) : State :=
  if followed s then { s with twin := { s.twin with waiting := s.twin.waiting ++ [e] } } else s

/-- Ships one delta: it takes the next DSEQ, and its confirmation is awaited (R230, R234). Log 18 (DEDUCED). -/
def shipDelta (s : State) (isPrepared isSnapshot : Bool) (at80 : Time80) (entries : List DeltaEntry) (who : Option (Nat × Nat × Nat)) : State :=
  let d : Delta := { dseq := s.twin.dseqNext, prepared := isPrepared, snapshot := isSnapshot, at80, epoch := s.twin.epoch, entries }
  { s with twin := { s.twin with
      dseqNext := (s.twin.dseqNext + 1) % 2 ^ 32
      shipped := s.twin.shipped ++ [{ dseq := d.dseq, tick := s.tick, items := spellDelta s d, snapshot := isSnapshot, prepared := who }]
      lastShipTick := s.tick } }

/-- R230: the entries that wait leave as the delta of an instant. -/
def shipWaiting (s : State) (at80 : Time80) : State :=
  let s := shipDelta s false false at80 s.twin.waiting none
  { s with twin := { s.twin with waiting := [], commitAt := none } }

/-- R230: a cycle commits at an instant: what an earlier commit instant has left waiting is a delta of its own. -/
def openInstant (s : State) (at80 : Time80) : State :=
  if !followed s then s else
  let s := match s.twin.commitAt with | some t => if t = at80 then s else shipWaiting s t | none => s
  { s with twin := { s.twin with commitAt := some at80 } }

/-- The Landing link, as an engine unit that puts into queues. -/
def landingPart : Part := { cls := 6, inst := 5 }

/-- R220, R236: a module that is ACTIVE or unpaired: it runs tasks and drives outputs. -/
def runsTasks (s : State) : Bool := !s.addr.paired || s.twin.role == .active

end Sys2Proof.Machine
end

