-- ==== Sys2Proof/Machine/Larder.lean ====
section
/-! DEFINITION. The Larder's shared operations: queues, credits, entry, acknowledgement, watermarks, delivery order
(spec/07, R443, R444). -/

namespace Sys2Proof.Machine
open Sys2Proof

def queueAt (s : State) (q : Nat) : Queue := tget {} s.larder.queues q

def setQueue (s : State) (q : Nat) (f : Queue → Queue) : State :=
  { s with larder := { s.larder with queues := tmod {} s.larder.queues q f } }

/-- R159, R186: the suite whose range contains a queue. -/
def queueOwner (s : State) (q : Nat) : Option Nat :=
  (List.range 64).find? (fun n => let u := suiteAt s n; u.queueFirst ≤ q && q < u.queueFirst + u.queueCount)

/-- R184: the lines of item memory that one item of a queue occupies. -/
def linesPerItem (itemMax : Nat) : Nat := (itemMax + 32 + 63) / 64

/-- R187: the lines a queue reserves. -/
def queueLines (q : Queue) : Nat := if q.depth = 0 then 0 else q.depth * linesPerItem q.itemMax

/-- R186: a suite's limit of item memory. -/
def limitDefault (n : Nat) : Nat := if n = 0 then 137216 else 6144

def limitOf (s : State) (n : Nat) : Nat := tget (limitDefault n) s.larder.limits n

/-- The lines that the queues of a suite reserve. -/
def linesInUse (s : State) (n : Nat) : Nat :=
  ((s.larder.queues.filter (fun e => queueOwner s e.1 == some n)).map (fun e => queueLines e.2)).sum

/-! ### Credits (R188 to R190) -/

/-- Credits issued to a producer: in hand and spent. -/
def Attach.issued (a : Attach) : Nat := a.hand + a.spent

/-- R188: gives credits of the pool to attached producers that hold fewer than the grant, in order of attachment. -/
def topUp (q : Queue) : Queue :=
  let go := q.attached.foldl (fun (acc : List Attach × Nat) a =>
    let give := match a.who with
      | .reply _ _ => 0
      | _ => min (q.grant - a.issued) acc.2
    (acc.1 ++ [{ a with hand := a.hand + give, waiting := a.waiting && a.hand + give == 0 }], acc.2 - give)) ([], q.poolFree)
  { q with attached := go.1, poolFree := go.2 }

/-- The attachment of a producer to a queue. -/
def attachment (q : Queue) (who : Producer) : Option Attach := q.attached.find? (fun a => a.who == who)

/-- R188, R191: a new attachment, with credits of the pool in hand; an attached producer stays as it is. -/
def attachWith (q : Queue) (who : Producer) (credits : Nat) : Queue :=
  if (attachment q who).isSome then q else
  { q with
    attached := q.attached ++ [{ who, hand := credits, spent := 0, id := q.attaches }]
    attaches := q.attaches + 1, poolFree := q.poolFree - credits }

/-- R188: attaches a producer and issues min(CREDIT_GRANT, POOL_FREE) credits. -/
def attach (q : Queue) (who : Producer) : Queue := attachWith q who (min q.grant q.poolFree)

/-- R191: takes 8 credits of the pool for completion items of a reply binding. -/
def attachReply (q : Queue) (c binding : Nat) : Queue := attachWith q (.reply c binding) 8

/-- R189: detaches a producer: its credits in hand go to the pool at once. Its spent ones, which stay with their items, find its
attachment gone when they return, and go to the pool. -/
def detach (q : Queue) (who : Producer) : Queue :=
  match attachment q who with
  | none => q
  | some a => topUp { q with attached := q.attached.filter (fun a => a.who != who), poolFree := q.poolFree + a.hand }

/-- The credits a producer has in hand. -/
def creditsInHand (q : Queue) (who : Producer) : Nat := ((attachment q who).map (·.hand)).getD 0

/-- The credit that a producer spends. -/
def creditOf (q : Queue) (who : Producer) : Credit := ((attachment q who).map (fun a => Credit.attachment a.id)).getD .none

/-- R187: some credit of the queue is spent: one that is neither in the pool nor in a hand. -/
def creditSpent (q : Queue) : Bool := q.poolFree + (q.attached.map (·.hand)).sum < q.depth

/-- R188: spends one credit of a producer. -/
def spendCredit (q : Queue) (who : Producer) : Queue :=
  let pay := fun (a : Attach) => { a with hand := a.hand - 1, spent := a.spent + 1, waiting := false, reservedUntil := none }
  { q with attached := mapWhere (fun a => a.who == who) pay q.attached }

/-- R188, R189, R96: a spent credit returns to the hand of the producer that spent it, or to the pool where that
producer holds more than the grant or has detached since; a producer that waits has it reserved until `res`. -/
def returnCredit (q : Queue) (cr : Credit) (res : Option Time80) : Queue :=
  match cr with
  | .none => q
  | .pool => topUp { q with poolFree := q.poolFree + 1 }
  | .attachment id =>
    match q.attached.find? (fun a => a.id == id) with
    | none => topUp { q with poolFree := q.poolFree + 1 }
    | some a =>
      let cap := match a.who with | .reply _ _ => 8 | _ => q.grant
      let keep := a.issued ≤ cap
      let a' := { a with
        spent := a.spent - 1
        hand := if keep then a.hand + 1 else a.hand
        waiting := if keep then false else a.waiting
        reservedUntil := if keep && a.waiting then res else a.reservedUntil }
      let q := { q with attached := mapWhere (fun a => a.id == id) (fun _ => a') q.attached }
      if keep then q else topUp { q with poolFree := q.poolFree + 1 }

/-- R96: the end of the reservation of a credit that returns now to a producer: 2 periods of its context. -/
def reservationEnd (s : State) : Producer → Option Time80
  | .task c _ => some (taddUs (now s) (2 * (taskAt s c).desc.period))
  | _ => none

/-- R203 WAITERS. -/
def waiters (q : Queue) : Nat := (q.attached.filter (·.waiting)).length

/-- R203 OCCUPANCY: items that have entered and are not yet acknowledged, cleared or discarded. -/
def occupancy (q : Queue) : Nat := q.items.length

/-- R203 IN_DELIVERY. -/
def inDelivery (q : Queue) : Nat := (q.items.filter (·.deliveredTo.isSome)).length

/-! ### Watermarks, PAUSE and the FC pins (R197, R198, R250) -/

/-- The pause time that counts 25.6 µs for each quantum, in REFCLK ticks: half the pause time of R250. Log 64 (DEDUCED). -/
def pauseRepeatTicks (quanta : Nat) : Nat := quanta * 3200

/-- Adds to a 32-bit wrapping counter of a port (R252): its HALF bit is set when bit 31 changes, and an item is due where STATS_QUEUE names a queue. -/
def countPort (s : State) (port : Nat) (tx : Bool) (n amount : Nat) : State :=
  { s with ports := tmod {} s.ports port (fun p =>
      let old := tget 0 (if tx then p.tx else p.rx) n
      let new := (old + amount) % 2 ^ 32
      let crossed := old / 2 ^ 31 != new / 2 ^ 31
      let p := if tx then { p with tx := tset 0 p.tx n new } else { p with rx := tset 0 p.rx n new }
      if !crossed then p
      else if tx then { p with halfTx := p.halfTx ||| BitVec.ofNat 32 (2 ^ n), halfPending := p.halfPending || p.cfg.statsQueue != 0 }
      else { p with halfRx := p.halfRx ||| BitVec.ofNat 32 (2 ^ n), halfPending := p.halfPending || p.cfg.statsQueue != 0 }) }

/-- R250, R254: a PAUSE frame of 64 bytes with its quanta leaves a port whose link is up. Log 64 (DEDUCED). -/
def sendPause (s : State) (port quanta : Nat) : State :=
  if (tget {} s.ports port).link != 2 then s else
  let s := { s with ports := tmod {} s.ports port (fun p => { p with pauseSent := some quanta, lastFrameTick := some s.tick }) }
  countPort (countPort (countPort (countPort s port true 0 64) port true 1 1) port true 5 1) port true 7 1

/-- R250: the ports that watch a queue start sending PAUSE when its HIGH rises, and send quanta 0 when it falls. -/
def pauseOn (s : State) (q : Nat) (rises : Bool) : State :=
  s.ports.foldl (fun s e =>
    if e.2.cfg.pauseTx && e.2.cfg.pauseQueue == q && q != 0 then
      sendPause { s with ports := tmod {} s.ports e.1 (fun p => { p with
        pausing := rises, pauseDue := s.tick + pauseRepeatTicks p.cfg.pauseQuanta }) } e.1 (if rises then e.2.cfg.pauseQuanta else 0)
    else s) s

/-- R197: HIGH from its last value and the occupancy. -/
def highOf (q : Queue) : Bool :=
  if q.depth = 0 || q.highWm = 0 then false
  else if q.highWm ≤ occupancy q then true
  else if occupancy q ≤ q.lowWm then false
  else q.high

/-- R197: a queue whose occupancy changes is judged at the end of the present instant. -/
def judgeLater (s : State) (qn : Nat) : State := setQueue s qn (fun q => { q with unjudged := true })

/-- R197: judges a queue's occupancy. -/
def judgeHigh (s : State) (qn : Nat) : State :=
  let q := queueAt s qn
  let high := highOf q
  let s' := setQueue s qn (fun q => { q with
    high, unjudged := false, highRises := if high && !q.high then bump 16 q.highRises else q.highRises })
  if high && !q.high then
    let s' := pauseOn s' qn true
    if q.wmEvent then raiseEvent s' [(queueOwner s qn).getD 0] 1 (.part larderPart) stDone [] else s'
  else if !high && q.high then pauseOn s' qn false
  else s'

/-- R197: the instant ends: every queue whose occupancy has changed in it is judged once. Log 5 (DESIGN CHOICE). -/
def judgeQueues (s : State) : State :=
  ((s.larder.queues.filter (fun e => e.2.unjudged)).map (·.1)).foldl judgeHigh s

/-- R198: the level of FC pin `n`. -/
def fcPin (s : State) (n : Nat) : Bool := s.larder.queues.any (fun e => e.2.fcSel == 0x10 + n && e.2.high)

/-! ### Entry and acknowledgement (R185, R196) -/

/-- R232: the queues that are mirrored: every tenant's, and 0x0080 to 0x03FF of suite 0. -/
def mirroredQueue (s : State) (qn : Nat) : Bool :=
  match queueOwner s qn with
  | some 0 => 0x80 ≤ qn && qn ≤ 0x3FF
  | some _ => true
  | none => false

/-- R199, R200: a word whose parity the Larder finds failing has its poison tag set; a failing copy of a header is replaced from the other. -/
def readWords (it : Item) : Item := { it with poison := (it.poison ++ it.parity).eraseDups, hdrABad := false, hdrBBad := false }

/-- R231 QENTER: an item as a delta carries it: its words are read, and their poison tags travel with them (R199, R200). -/
def deltaItem (it : Item) : DeltaItem :=
  { prio := it.prio, ptag := it.ptag, srcSuite := it.srcSuite, hostId := it.hostId, seq := it.seq % 2 ^ 16, entered := it.entered
    poison := (readWords it).poison, data := it.data }

/-- The entry of a queue goes into the mirror delta. -/
def mirrorEntry (s : State) (qn : Nat) (it : Item) : State := if mirroredQueue s qn then mirror s (.qenter qn (deltaItem it)) else s

/-- R231 QACK: items that are acknowledged, cleared or discarded. -/
def mirrorAcks (s : State) (qn : Nat) (gone : List Item) : State :=
  if mirroredQueue s qn then mirror s (.qack qn (gone.map (fun it => it.seq % 2 ^ 16))) else s

/-- R196: the consumer that is handed an item as it enters: the management firmware, for its host. A task's binding is handed its
items at the snapshot, an engine takes the head itself. -/
def handedTo (q : Queue) : Option Consumer := match q.consumer with | some (.session n h k) => some (.session n h k) | _ => none

/-- An item enters a queue: it takes SEQ from the entry count and the present time (R184). A queue in QFAULT discards
it (R443); one that is fenced holds items of other suites (R171). -/
def enterItem (s : State) (qn : Nat) (it : Item) : State :=
  let q := queueAt s qn
  if q.qfault then s
  else if q.fenced then setQueue s qn (fun q => { q with held := q.held ++ [it] })
  else
    let it := { it with seq := q.entries, entered := now s, deliveredTo := handedTo q }
    judgeLater (mirrorEntry (setQueue s qn (fun q => { q with entries := q.entries + 1, items := q.items ++ [it] })) qn it) qn

/-- R185: an item that an engine or the firmware has put at the present instant, and that no consumer has yet. -/
def arrivedNow (s : State) (it : Item) : Bool :=
  it.entered == now s && it.deliveredTo.isNone && (match it.producer with | .task _ _ => false | _ => true)

/-- R185: the engine items of the present instant at the end of a queue. -/
def arrivals (s : State) (qn : Nat) : List Item := ((queueAt s qn).items.reverse.takeWhile (arrivedNow s)).reverse

/-- R185: an item that a commit enters: the engine items of the same instant follow it, in their order of arrival. -/
def enterCommitted (s : State) (qn : Nat) (it : Item) : State :=
  let late := arrivals s qn
  let q := queueAt s qn
  if late.isEmpty || q.qfault || q.fenced then enterItem s qn it else
  let told := late.map (fun x => DeltaEntry.qenter qn (deltaItem x))
  let s := { s with twin := { s.twin with waiting := s.twin.waiting.filter (fun e => !told.contains e) } }
  let s := setQueue s qn (fun q => { q with entries := q.entries - late.length, items := q.items.take (q.items.length - late.length) })
  let moved := late.map (fun x => { x with seq := x.seq + 1 })
  let s := moved.foldl (fun s x => mirrorEntry s qn x) (enterItem s qn it)
  setQueue s qn (fun q => { q with entries := q.entries + late.length, items := q.items ++ moved })

/-- Items leave a queue: each item's credit goes back to the producer that spent it. -/
def dropItems (s : State) (qn : Nat) (p : Item → Bool) : State :=
  let gone := (queueAt s qn).items.filter p
  if gone.isEmpty then s else
  let s := gone.foldl (fun s it => setQueue s qn (fun q => returnCredit q it.credit (reservationEnd s it.producer))) s
  judgeLater (setQueue (mirrorAcks s qn gone) qn (fun q => { q with items := q.items.filter (fun it => !p it) })) qn

/-- R196: an item is acknowledged: `seq` is its whole entry count, so that it alone is meant. A queue in QFAULT discards the acknowledgement (R443). -/
def ackItem (s : State) (qn seq : Nat) : State :=
  if (queueAt s qn).qfault then s else dropItems s qn (fun it => it.seq == seq)

/-- R188: an item spends a credit of its producer and enters. -/
def spendAndEnter (s : State) (qn : Nat) (it : Item) : State :=
  enterItem (setQueue s qn (fun q => spendCredit q it.producer)) qn { it with credit := creditOf (queueAt s qn) it.producer }

/-- R171 step 1: the Threshold refuses every new token that carries a suite that is RESETTING. Log 19 (DEDUCED). -/
def fencedOut (s : State) (suite : Nat) : Bool := suite != 0 && resetting s suite

/-- R185, R190: an engine or the firmware puts an item; false when the item is not put. An engine's item that finds no
credit is counted in NO_CREDIT_DROPS; one that is larger than ITEM_MAX is discarded. Log 27 (DEDUCED). -/
def putItem (s : State) (qn : Nat) (who : Producer) (suite host prio : Nat) (ptag : Bool) (data : List Byte) : State × Bool :=
  let q := queueAt s qn
  if qn = 0 || q.qfault || data.isEmpty || fencedOut s suite then (s, false)
  else if q.itemMax < data.length then (s, false)
  else if creditsInHand q who = 0 then
    (match who with
      | .engine _ => setQueue s qn (fun q => { q with noCreditDrops := bump 16 q.noCreditDrops })
      | _ => s, false)
  else
    (spendAndEnter s qn { prio, ptag, srcSuite := suite, hostId := host, seq := 0, entered := t0, producer := who, data }, true)

/-- Attaches an engine unit to a queue that a configuration directs it to (R444). Log 27 (DEDUCED). -/
def attachEngine (s : State) (qn : Nat) (p : Part) : State :=
  if qn = 0 then s else setQueue s qn (fun q => attach q (.engine p))

/-- R444: detaches an engine unit from a queue. -/
def detachEngine (s : State) (qn : Nat) (p : Part) : State :=
  if qn = 0 then s else setQueue s qn (fun q => detach q (.engine p))

/-- R196: the items that a consumer owns become undelivered and keep their places. -/
def undeliver (s : State) (qn : Nat) (who : Consumer) : State :=
  setQueue s qn (fun q => { q with items := q.items.map (fun it =>
    if it.deliveredTo == some who then { it with deliveredTo := none, again := true } else it) })

/-- R444: an engine that a configuration directed to the queue `old` is now directed to `new`; it leaves `old` unless another
configuration (`still`) directs it there. Log 27 (DEDUCED). -/
def redirect (s : State) (p : Part) (old new : Nat) (still : Bool) : State :=
  let s := if old = new || still then s else detachEngine s old p
  attachEngine s new p

/-! ### Reading order (R193) -/

/-- Whether item `a` is read before item `b`, given that `a` entered first. -/
def readBefore (order : Bool) (a b : Item) : Bool := order || b.prio ≤ a.prio

/-- Inserts an item that entered after every item of a list into reading order. -/
def insertReading (order : Bool) (it : Item) : List Item → List Item
  | [] => [it]
  | x :: xs => if readBefore order x it then x :: insertReading order it xs else it :: x :: xs

/-- R193: items in the queue's reading order. -/
def readingOrder (order : Bool) (items : List Item) : List Item := items.foldl (fun acc it => insertReading order it acc) []

/-- The first undelivered item in reading order, for an engine consumer (R193, R195). -/
def headItem (q : Queue) : Option Item := (readingOrder q.order (q.items.filter (·.deliveredTo.isNone))).head?

/-- R200: whether both stored copies of an item's header fail parity. -/
def headerLost (it : Item) : Bool := it.hdrABad && it.hdrBBad

/-- R200: discards the items whose header is lost: their credits go to the pool, LOST_ITEMS counts and an event of
severity 4 is recorded against the owner suite. -/
def dropLost (s : State) (qn : Nat) : State :=
  let lost := (queueAt s qn).items.filter headerLost
  let s := lost.foldl (fun s it =>
    let s := setQueue s qn (fun q => topUp { q with
      poolFree := if it.credit = .none then q.poolFree else q.poolFree + 1
      lostItems := bump 16 q.lostItems
      attached := (mapWhere (fun a => it.credit == .attachment a.id) (fun a => { a with spent := a.spent - 1 }) q.attached) })
    raiseEvent s [(queueOwner s qn).getD 0] 4 (.part larderPart) stDone []) s
  if lost.isEmpty then s else
  judgeLater (setQueue (mirrorAcks s qn lost) qn (fun q => { q with items := q.items.filter (fun it => !headerLost it) })) qn

/-- R199, R200: the item is reported as poisoned: parity fails, its producer set PTAG, or a word carries a poison tag. -/
def itemPoisoned (it : Item) : Bool := !it.parity.isEmpty || it.ptag || !it.poison.isEmpty

/-- R199: the Larder reads the items of a queue that a consumer is given: their words are checked, and poisoned deliveries counted. -/
def readItems (s : State) (qn : Nat) (given : Item → Bool) : State :=
  setQueue s qn (fun q => { q with
    poisonedOut := satN 16 (q.poisonedOut + (q.items.filter (fun it => given it && itemPoisoned it)).length)
    items := mapWhere given readWords q.items })

/-- R192, R196, R199: the undelivered items of a queue are handed to its consumer when that is a host session. -/
def handItems (s : State) (qn : Nat) : State :=
  match handedTo (queueAt s qn) with
  | none => s
  | some who =>
    setQueue (readItems (dropLost s qn) qn (·.deliveredTo.isNone)) qn
      (fun q => { q with items := mapWhere (·.deliveredTo.isNone) (fun it => { it with deliveredTo := some who }) q.items })

/-- R199, R200: an engine takes the item at the head of a queue. -/
def readHead (s : State) (qn : Nat) : State :=
  let s := dropLost s qn
  match headItem (queueAt s qn) with
  | some it => readItems s qn (fun x => x.seq == it.seq)
  | none => s

/-- R194: the payload as delivered: the header first when HDR_VIS is 1. Log 14 (DEDUCED). -/
def deliveredBytes (q : Queue) (it : Item) : List Byte :=
  if q.hdrVis then
    bytesOf 8 (itemHeader it.data.length it.prio it.ptag it.srcSuite it.hostId it.seq).toNat ++ bytesOf 8 (nowForm it.entered).toNat ++ it.data
  else it.data

end Sys2Proof.Machine
end

