-- ==== Sys2Proof/Machine/Replies.lean ====
section
/-! DEFINITION. Completion items (R97), and the way a unit takes a command from a command queue, checks it and
answers it (R43 to R49, R52, R54, R174, R177). -/

namespace Sys2Proof.Machine
open Sys2Proof

/-! ### Completion items -/

/-- R191: the completion as it fits the reply queue: three words with REFUSED(SIZE) where it would exceed ITEM_MAX. -/
def Completion.fit (c : Completion) (itemMax : Nat) : Completion :=
  if itemMax < 8 * (3 + c.payload.length) then { c with st := stRefused .size, payload := [] } else c

/-- R191, R97: the reply binding that keeps room for a completion: the issuing context's own; where only the issuing suite is known, one of
a task of that suite, with a credit in hand before one without. -/
def replyHolder (q : Queue) (ctx : Option Nat) (suite : Nat) : Option Attach :=
  match ctx with
  | some c => q.attached.find? (fun a => match a.who with | .reply c' _ => c' == c | _ => false)
  | none =>
    let ours := q.attached.filter (fun a => match a.who with | .reply c' _ => ctxSuite c' == suite | _ => false)
    match ours.find? (fun a => a.hand != 0) with
    | some a => some a
    | none => ours.head?

/-- R97: a completion enters the room that its reply binding keeps; it is never refused for lack of space. One that no reply binding awaits
is the firmware's to put, for a host; none is sent to a task that has gone. Log 10 (DESIGN CHOICE). -/
def enterCompletion (s : State) (qn : Nat) (ctx : Option Nat) (suite : Nat) (data : List Byte) : State :=
  match replyHolder (queueAt s qn) ctx suite, ctx with
  | some a, _ =>
    let it : Item := { prio := 0, ptag := false, srcSuite := 0, hostId := 0, seq := 0, entered := t0, producer := a.who, data }
    if (queueAt s qn).qfault then s else if a.hand = 0 then enterItem s qn it else spendAndEnter s qn it
  | none, some _ => s
  | none, none => (putItem (setQueue s qn (fun q => attach q (.session 0 0 0))) qn (.session 0 0 0) 0 0 0 false data).1

/-- R155: after a restart from a broken journal the foundation program's first completion reports PARTIAL(NONE). Log 100 (DEDUCED). -/
def reportBroken (s : State) (ctx : Option Nat) (c : Completion) : State × Completion :=
  if ctx = some 0 && s.journal.restoredBroken then
    ({ s with journal := { s.journal with restoredBroken := false } }, { c with st := stPartial })
  else (s, c)

/-- Sends a completion to a reply queue; 0 names none. One for a queue of a suite that is RESETTING is dropped and
counted (R171). Log 10 (DESIGN CHOICE). -/
def sendCompletion (s : State) (qn : Nat) (ctx : Option Nat) (c : Completion) : State :=
  if qn = 0 then s else
  let told := reportBroken s ctx c
  let s := told.1
  let c := told.2
  let owner := (queueOwner s qn).getD 0
  if resetting s owner then setSuite s owner (fun u => { u with droppedReplies := bump 16 u.droppedReplies }) else
  enterCompletion s qn ctx c.suite (wordBytes ((c.fit (queueAt s qn).itemMax).words (now s)))

/-! ### Taking a unit command -/

/-- A unit command as taken from its queue (R43). -/
structure Cmd where
  queue : CmdQueue
  item : Item
  target : BitVec 64
  code : Nat
  arg : Nat
  tag : Nat
  replyQueue : Nat
  suite : Nat
  host : Nat
deriving DecidableEq, Repr

/-- R204: the service queue of unit, pair or group commands. -/
def cmdQueueNo : CmdQueue → Nat
  | .unit => 0x10
  | .pair => 0x11
  | .group => 0x12

/-- The command at the head of a command queue, in reading order. -/
def headCommand (s : State) (q : CmdQueue) : Option Cmd :=
  (headItem (queueAt s (cmdQueueNo q))).map (fun it =>
    let w1 := wordAt it.data 1
    { queue := q, item := it, target := wordAt it.data 0, code := fld w1 0 8, arg := fld w1 8 8, tag := fld w1 16 16,
      replyQueue := fld w1 32 16, suite := it.srcSuite, host := it.hostId })

/-- Word `i` of a command; a word beyond the item reads as zero. -/
def Cmd.word (c : Cmd) (i : Nat) : BitVec 64 := wordAt c.item.data i

/-- What became of a command: its status and payload, or nothing yet (a reply that follows later). -/
structure CmdResult where
  s : State
  st : Status
  payload : List (BitVec 64) := []
  reply : Bool := true

/-- A refusal with no effect. -/
def refuse (s : State) (r : Reason) : CmdResult := { s, st := stRefused r }

/-- A refusal of a requester that is not the owner: the payload holds the owner's HOST_ID (R177). It is a failed check of
the Threshold, counted against the requester's suite (R166). Log 50 (DEDUCED). -/
def refuseOwner (s : State) (suite : Nat) (c : Cmd) : CmdResult :=
  { s := countThreshold s c.suite, st := stRefused .owner, payload := [BitVec.ofNat 64 ((suiteAt s suite).owner.getD 0)] }

/-- The command came from a task (R167). -/
def Cmd.fromTask (c : Cmd) : Bool := c.host == 0xFFFF

/-- R177: the requester is the owner of a suite, or a task of it whose TASK_CMD is set. -/
def commands (s : State) (suite : Nat) (c : Cmd) : Bool :=
  let u := suiteAt s suite
  if c.suite != suite then false
  else if c.fromTask then u.taskCmd
  else c.host != 0 && u.owner == some c.host

/-- R176, R178: the requester is the owner of suite 0, acting on a tenant suite. -/
def buildingOwner (s : State) (c : Cmd) : Bool :=
  c.suite == 0 && !c.fromTask && c.host != 0 && (suiteAt s 0).owner == some c.host

/-- R177: runs an owner command under the ownership rule. -/
def ownerOnly (s : State) (suite : Nat) (c : Cmd) (run : CmdResult) : CmdResult :=
  if commands s suite c then run else refuseOwner s suite c

/-- R46: how long a completed command's reply is recorded: 10 s of REFCLK ticks. Log 98 (DEDUCED). -/
def recordTicks : Nat := 1250000000

/-- R46: the record of a command completed by a unit with a TAG and REPLY_QUEUE, within 10 s. Log 98 (DEDUCED). -/
def findRecord (s : State) (u : UnitId) (tag replyQueue : Nat) : Option CmdRecord :=
  s.records.find? (fun r => r.unit == u && r.tag == tag && r.replyQueue == replyQueue && s.tick ≤ r.atTick + recordTicks)

/-- The reply of a command to its requester: on a member of a group, to the speaker (R52). What the active hands its standby is not
answered there (R401). -/
def sendReply (s : State) (c : Cmd) (st : Status) (payload : List (BitVec 64)) : State :=
  match c.queue with
  | .group => { s with groupOut := s.groupOut ++ [(c.tag, c.replyQueue, st)] }
  | .pair => if s.twin.role = .standby then s
    else sendCompletion s c.replyQueue none { st, fn := c.code, tag := c.tag, suite := c.suite, payload }
  | .unit => sendCompletion s c.replyQueue none { st, fn := c.code, tag := c.tag, suite := c.suite, payload }

/-- A new record takes the place of an old one of the same unit, TAG and REPLY_QUEUE, and of those that are past their 10 s. Log 98 (DEDUCED). -/
def keepRecord (s : State) (r : CmdRecord) : State :=
  { s with records := r :: s.records.filter (fun x =>
      s.tick ≤ x.atTick + recordTicks && !(x.unit == r.unit && x.tag == r.tag && x.replyQueue == r.replyQueue)) }

/-- R46, R49: records a command that a unit has completed; one through the pair goes into the mirror delta. Log 98 (DEDUCED). -/
def recordReply (s : State) (u : UnitId) (target : BitVec 64) (tag replyQueue code : Nat) (st : Status) (payload : List (BitVec 64)) : State :=
  let s := keepRecord s { unit := u, target, tag, replyQueue, atTick := s.tick, status := st, payload, code := some code }
  if u = .pair then mirror s (.command target tag replyQueue st payload) else s

/-- R42: a unit returns a status. -/
def noteStatus (s : State) (u : UnitId) (st : Status) : State := setUnitStat s u (fun x => { x with lastStatus := st })

/-- The unit a target belongs to. -/
def targetUnit : Target → UnitId
  | .unit u => u
  | .point _ viaPair => if viaPair then .pair else .module

/-- R42, R46: what a unit keeps of a reply: its last status and the record. An address that names nothing belongs to no unit. -/
def noteReply (s : State) (u : Option UnitId) (target : BitVec 64) (tag replyQueue code : Nat) (st : Status) (payload : List (BitVec 64)) : State :=
  match u with
  | some u => recordReply (noteStatus s u st) u target tag replyQueue code st payload
  | none => s

/-- The reply of a command that completes after it was taken. -/
def lateReply (s : State) (via : CmdQueue) (target : BitVec 64) (tag replyQueue code suite : Nat) (st : Status) (payload : List (BitVec 64)) : State :=
  let s := noteReply s ((resolve s target).map targetUnit) target tag replyQueue code st payload
  match via with
  | .group => { s with groupOut := s.groupOut ++ [(tag, replyQueue, st)] }
  | _ => sendCompletion s replyQueue none { st, fn := code, tag, suite, payload }

/-- Ends a command: recorded, answered, and LAST_STATUS of the unit set (R42). -/
def finishCommand (c : Cmd) (u : Option UnitId) (r : CmdResult) : State :=
  if !r.reply then r.s else sendReply (noteReply r.s u c.target c.tag c.replyQueue c.code r.st r.payload) c r.st r.payload

/-- R46: the recorded reply is returned. A record from the mirror delta names no code: the repeat's stands for it. Log 98 (DEDUCED). -/
def repeatReply (s : State) (c : Cmd) (r : CmdRecord) : State :=
  sendReply (noteStatus s r.unit r.status) { c with code := r.code.getD c.code } r.status r.payload

/-- R51: this module or its pair speaks for a group. Log 93 (DEDUCED). -/
def speaks (s : State) (l : Nat) : Bool :=
  match s.addr.groups.find? (fun g => g.1 == l) with
  | some g => g.2.speaker == addrLevel s.addr.self (addrDepth g.2.addr + 1)
  | none => false

/-- The level numbers of a group's members, in ascending order. -/
def groupMembers (g : GroupDecl) : List Nat := (List.range 256).filter (fun n => bitAt (g.members.getD (n / 64) 0) (n % 64))

/-- The level number of the member that encloses this module, or is it, in the group of a level. -/
def ownMember (s : State) (l : Nat) : Nat := addrLevel s.addr.self (l + 1)

/-- R52: what a command to the group of a level is for on the member that encloses this module: the group one level further in, where
one is declared; its pair, where the members are pairs; else the module. Log 93 (DEDUCED). -/
def memberUnit (s : State) (l : Nat) : UnitId :=
  if (groupAt s (l + 1)).isSome then .group (l + 1) else if s.addr.paired && l + 2 = addrDepth s.addr.self then .pair else .module

/-- R52: a member has been served: it answered DONE, and it is not excluded (R51). -/
def served (g : GroupCmd) (n : Nat) : Bool := g.answers.any (fun a => a.1 == n && a.2.cls == .done)

/-- R52: one bit for each member that has been served, in MEMBERS order. Log 93 (DEDUCED). -/
def servedBits (g : GroupCmd) : List (BitVec 64) :=
  let bits := g.members.map (served g)
  (List.range ((bits.length + 63) / 64)).map (fun w => pack (((bits.drop (64 * w)).take 64).mapIdx (fun i b => (i, 1, b2n b))))

/-- R52: the speaker's answer: its status and payload. Log 93 (DEDUCED). -/
def groupAnswer (g : GroupCmd) (late : Bool) : Status × List (BitVec 64) :=
  if g.members.all (served g) then (stDone, [])
  else ({ cls := .partialDone, reason := if late then .timeout else .none }, servedBits g)

/-- R52: every member of the list has answered. -/
def allAnswered (g : GroupCmd) : Bool := g.members.all (fun n => g.answers.any (fun a => a.1 == n))

/-- R52: the speaker answers once. Log 93 (DEDUCED). -/
def answerGroup (s : State) (g : GroupCmd) (late : Bool) : State :=
  let a := groupAnswer g late
  lateReply { s with groupCmds := eraseFirst (· == g) s.groupCmds } g.via g.target g.tag g.replyQueue g.code g.suite a.1 a.2

/-- R52: the speaker passes a group command on whole to every member that its list names, and carries it out on its own member, which may
be a group one level further in. It answers when all have, or 50 ms later. A module that is not the speaker refuses. Log 93 (DEDUCED). -/
def passGroup (run : Cmd → Target → State → CmdResult) : Nat → State → Cmd → Nat → CmdResult
  | 0, s, _, _ => refuse s .address
  | fuel + 1, s, c, l =>
    match groupAt s l with
    | none => refuse s .address
    | some d =>
      if !speaks s l then refuse s .state else
      let members := groupMembers d
      let own := ownMember s l
      let mine := { c with queue := .group }
      let r := if !members.contains own then { s, st := stDone, reply := false }
        else match memberUnit s l with
          | .group k => passGroup run fuel s mine k
          | u => let r := run mine (.unit u) s
                 if r.reply then { r with s := noteStatus r.s u r.st } else r
      let g : GroupCmd := { level := l, via := c.queue, target := c.target, tag := c.tag, replyQueue := c.replyQueue, code := c.code
                            suite := c.suite, words := c.item.data, members, answers := if r.reply then [(own, r.st)] else [], sinceTick := s.tick }
      if allAnswered g then let a := groupAnswer g false
        { s := r.s, st := a.1, payload := a.2 }
      else { s := { r.s with groupCmds := r.s.groupCmds ++ [g] }, st := stDone, reply := false }

/-- R45, R177: the commands that any host and suite may give: DESCRIBE, STATUS, MEMBERS, SUITE_STATUS, PORT_COUNTERS, DI_COUNTS, IDENTITY
and UPDATE_STATUS; and those whose own rule names the requesters: TASK_STATUS, METER_READ and ATTIC_READ. -/
def Cmd.reads (c : Cmd) : Bool := [0x01, 0x02, 0x03, 0x24, 0x36, 0x70, 0xA0, 0xB0, 0xC0, 0xD0, 0xE6].contains c.code

/-- R45, R52: a command to a group: the speaker passes it on, a command other than a read when it comes from the owner of suite 0, to which
a group belongs (R41), or from the speaker of the group around it. Log 93 (DEDUCED). -/
def groupCommand (run : Cmd → Target → State → CmdResult) (s : State) (c : Cmd) (l : Nat) : CmdResult :=
  if c.reads || c.queue = .group then passGroup run 7 s c l else ownerOnly s 0 c (passGroup run 7 s c l)

/-- The command leaves its queue: its item is acknowledged (R196). -/
def takeCommand (s : State) (c : Cmd) : State := ackItem s (cmdQueueNo c.queue) c.item.seq

/-- R392: an update command other than UPDATE_STATUS. -/
def Cmd.isUpdate (c : Cmd) : Bool := 0xE0 ≤ c.code && c.code ≤ 0xE5

/-- R45: DESCRIBE, STATUS and MEMBERS. -/
def Cmd.isRead (c : Cmd) : Bool := 1 ≤ c.code && c.code ≤ 3

/-- R401, R407: a pair command of which each member carries out its own part: an update command or a UNIT_RESET. -/
def Cmd.bothMembers (c : Cmd) : Bool := c.isUpdate || c.code == 4

/-- R47: the active member is the other one: this member is in STANDBY, or is not in the pair yet and has an active partner. -/
def activeElsewhere (s : State) : Bool :=
  s.twin.role == .standby || ((s.twin.role == .seeking || s.twin.role == .updating) && s.twin.partnerRole == 2)

/-- R47: where a command addressed to the pair is carried out: a member that is not the active one forwards it; one that comes from the
active is this member's own part of it (R401, R407). A standby whose partner has failed reports so itself (R237). Log 106 (DEDUCED). -/
def forwards (s : State) (c : Cmd) : Target → Bool
  | .unit .pair | .point _ true =>
    activeElsewhere s && !(c.queue == .pair && c.bothMembers) && !(s.twin.failed && c.isRead)
  | _ => false

/-- R52: the target of a command; a group command that has come from the speaker is for the member itself. Log 93 (DEDUCED). -/
def memberTarget (s : State) (c : Cmd) : Target → Target
  | .unit (.group l) => if c.queue = .group then .unit (memberUnit s l) else .unit (.group l)
  | t => t

/-- R398: in recovery only the update commands for KIND 1, from a session of RANK 7 over SVC, are accepted. Log 48 (DEDUCED), 102 (DEDUCED). -/
def recoveryAllows (s : State) (c : Cmd) : Bool :=
  0xE0 ≤ c.code && c.code ≤ 0xE6 && fld (c.word 2) 8 2 == 1 &&
    s.sessions.any (fun x => x.host == c.host && x.suite == c.suite && x.rank == 7 && x.port == 194)

/-- A unit takes the command at the head of a command queue, when `pick` says that it is this row's; otherwise nothing
happens. A repeated command gets the recorded reply (R46); an address that names nothing is refused (R54); a command to a
pair goes to the active member (R47); one to a group goes to the members, unless `local'` says that the speaker answers it
itself (R52). Log 6 (DESIGN CHOICE). -/
def unitCommand (q : CmdQueue) (pick : Cmd → Bool) (local' : Bool) (run : Cmd → Target → State → CmdResult) (s : State) : State :=
  let read := readHead s (cmdQueueNo q)
  match headCommand read q with
  | none => s
  | some c =>
    if !pick c then s else
    let s := takeCommand read c
    match (resolve s c.target).map (memberTarget s c) with
    | none => finishCommand c none (refuse s .address)
    | some t =>
      if s.boot.phase = .recovery && !recoveryAllows s c then finishCommand c (some (targetUnit t)) (refuse s .state)
      else if forwards s c t then { s with twin := { s.twin with forwarded := s.twin.forwarded ++ [c.item] } }
      else match findRecord s (targetUnit t) c.tag c.replyQueue with
        | some r => repeatReply s c r
        | none => match t with
          | .unit (.group l) =>
            finishCommand c (some (.group l)) (if local' && speaks s l then run c t s else groupCommand run s c l)
          | _ => finishCommand c (some (targetUnit t)) (run c t s)

/-- Picks the commands with a code. -/
def withCode (code : Nat) (c : Cmd) : Bool := c.code == code

/-- A command that only one kind of unit takes: any other unit refuses it, for it knows no such code. Log 9 (DEDUCED). -/
def onUnit (t : Target) (ok : UnitId → Bool) (s : State) (run : CmdResult) : CmdResult :=
  match t with
  | .unit u => if ok u then run else refuse s .range
  | .point _ _ => refuse s .range

/-- The self unit of the module, or of the pair that the module is active for. -/
def isSelf : UnitId → Bool
  | .module | .pair => true
  | _ => false

end Sys2Proof.Machine
end

