-- ==== Sys2Proof/Machine/Frames.lean ====
section
/-! DEFINITION. Egress buffers of the ports, the wake of the quiet floor, timed value frames and their withdrawal
(R142, R143, R248, R249, R260, R264). -/

namespace Sys2Proof.Machine
open Sys2Proof

def portAt (s : State) (p : Nat) : Port := tget {} s.ports p

def setPort (s : State) (p : Nat) (f : Port → Port) : State := { s with ports := tmod {} s.ports p f }

/-- The length of a frame from DA to FCS, padded to the minimum of 64 bytes. Log 64 (DEDUCED). -/
def frameLen (f : Frame) : Nat := max 64 (18 + (if f.tag.isSome then 4 else 0) + f.payload.length)

/-- R249: bytes of every frame in the buffer not yet sent. -/
def egressBytes (p : Port) : Nat := (p.egress.map (fun f => frameLen f.frame)).sum

/-- R249: the occupancy up to which a class may fill the buffer. -/
def classLimit : EgClass → Nat
  | .other => 6144
  | .timed => 8192 - 256
  | .withdraw => 8192

/-- R248: the frame to start next: withdraw frames, then timed frames, then others, each in arrival order. -/
def nextFrame (p : Port) : Option EgFrame :=
  match p.egress.find? (fun f => f.cls == .withdraw) with
  | some f => some f
  | none => match p.egress.find? (fun f => f.cls == .timed) with
    | some f => some f
    | none => p.egress.head?

/-- Starts the next frame of a port that is up, awake, not paused and sending nothing. -/
def startNext (p : Port) : Port :=
  if p.link != 2 || p.lpi || p.pausedUntil.isSome || p.egress.any (·.started) then p else
  match nextFrame p with
  | none => p
  | some f => { p with egress := mapWhere (fun g => g.id == f.id && g.cls == f.cls) (fun g => { g with started := true }) p.egress }

/-! ### The wake of the quiet floor (R264) -/

/-- A port leaves LPI: LPI_WAKES counts, and its unit is no longer QUIET. -/
def wakePort (s : State) (p : Nat) : State :=
  if !(portAt s p).lpi then s else
  let s := countPort (setPort s p (fun x => { x with lpi := false })) p true 22 1
  let s := setUnitStat s (portUnit p) (fun u => if u.state == stQuiet then { u with state := stRun } else u)
  setPort s p startNext

/-- The ports in LPI, in ascending order. -/
def lpiPorts (s : State) : List Nat := (s.ports.filter (fun e => e.2.lpi)).map (·.1)

/-- R264: a wake: it aborts a quiet-floor transaction in progress, whose command completes with WITHDRAWN(WAKE), or ends
the quiet floor; every port in LPI is woken in ascending order. Log 63 (DEDUCED). -/
def wakeFloor (s : State) : State :=
  match s.sw.quiet with
  | .awake => s
  | .quiet => (lpiPorts s).foldl wakePort { s with sw := { s.sw with quiet := .awake, transaction := none } }
  | _ =>
    let n := (lpiPorts s).length
    let tr := s.sw.transaction
    let s := { s with sw := { s.sw with quiet := .awake, transaction := none, quietAborts := bump 16 s.sw.quietAborts } }
    let s := raiseEvent s [0] 2 (.part switchPart) { cls := .withdrawn, reason := .wake } [BitVec.ofNat 64 n]
    let s := match tr with
      | some q =>
        let st : Status := { cls := .withdrawn, reason := .wake }
        let s := setUnitStat s (.part switchPart) (fun u => { u with lastStatus := st })
        let s := recordReply s (.part switchPart) (unitAddr s (.part switchPart)) q.tag q.replyQueue 0x71 st []
        sendCompletion s q.replyQueue none { st, fn := 0x71, tag := q.tag, suite := q.suite }
      | none => s
    (lpiPorts s).foldl wakePort s

/-- R264: a quiet port: one that a transaction has put into LPI. Log 63 (DEDUCED). -/
def quietPort (s : State) (p : Nat) : Bool :=
  (unitStat s (portUnit p)).state == stQuiet || (match s.sw.transaction with
    | some x => s.sw.quiet == .entering && x.agreed.contains p && !x.ports.contains p
    | none => false)

/-! ### Egress -/

/-- R249: discards unstarted class-3 frames, the newest first, until a withdraw frame fits; answers how many. -/
def displace (need : Nat) : List EgFrame → Nat → List EgFrame × Nat
  | frames, 0 => (frames, 0)
  | frames, fuel + 1 =>
    if (frames.map (fun f => frameLen f.frame)).sum + need ≤ 8192 then (frames, 0) else
    match (frames.reverse.find? (fun f => f.cls == .other && !f.started)) with
    | none => (frames, 0)
    | some f =>
      let r := displace need (frames.filter (fun g => !(g.id == f.id && g.cls == .other))) fuel
      (r.1, r.2 + 1)

/-- R248, R249: a frame enters a port's egress buffer, and a frame that enters the buffer of a port in LPI wakes it;
false where the link is down or the buffer lacks room for its class. -/
def enterEgress (s : State) (p : Nat) (f : EgFrame) : State × Bool :=
  let x := portAt s p
  if x.link != 2 then (countPort s p true 18 1, false) else
  let d := if f.cls = .withdraw then displace (frameLen f.frame) x.egress x.egress.length else (x.egress, 0)
  let s := if d.2 = 0 then s else countPort (setPort s p (fun x => { x with egress := d.1 })) p true 29 d.2
  if egressBytes (portAt s p) + frameLen f.frame ≤ classLimit f.cls then
    let s := setPort s p (fun x => { x with egress := x.egress ++ [f] })
    let s := if quietPort s p then wakeFloor s else wakePort s p
    (setPort s p startNext, true)
  else (s, false)

/-- R262: whether a port can take a class-3 frame at this moment. -/
def canTake (s : State) (p : Nat) (f : Frame) : Bool :=
  (portAt s p).link == 2 && s.twin.role != .standby && egressBytes (portAt s p) + frameLen f ≤ classLimit .other

/-- A fresh frame number of the switch. -/
def newFrameId (s : State) : State × Nat := ({ s with sw := { s.sw with frameIds := s.sw.frameIds + 1 } }, s.sw.frameIds)

/-- A frame as it leaves a port: tagged when TAG_EGRESS is 1 (R245), with the port's own source address (R256). -/
def portFrame (s : State) (p : Nat) (dst ethertype : Nat) (payload : List Byte) : Frame :=
  let cfg := (portAt s p).cfg
  { dst, src := s.sw.macBase + p, tag := if cfg.tagEgress then some cfg.pvid else none, ethertype, payload }

/-- R245: the destination of timed and quiet-floor frames of a port. -/
def endpointMac (s : State) (p : Nat) : Nat :=
  let m := (portAt s p).cfg.endpointMac
  if m = 0 then 2 ^ 48 - 1 else m

/-! ### Timed frames (R142, R260) -/

/-- R142: the header of a timed value, withdraw or quiet-floor frame. -/
def timedHeader (kind suite task cyc : Nat) (tc : Time80) (count : Nat) : List (BitVec 64) :=
  [pack [(0, 8, kind), (8, 8, 1), (16, 6, suite), (22, 5, task), (32, 32, cyc)],
   pack [(0, 32, tc.ns), (32, 32, tc.sec)],
   pack [(0, 16, secHi tc), (16, 16, count)]]

/-- R256: the egress PMAP entry of an element: its port and endpoint element. -/
def egressOf (s : State) (e : Nat) : Option (Nat × Nat) :=
  s.sw.pmap.findSome? (fun m => match m.2 with
    | .egress el port ep => if el = e then some (port, ep) else none
    | .ingress _ _ _ => none)

/-- R142: a value entry. -/
def valueEntry (s : State) (v : Nat × PointVal) : List (BitVec 64) :=
  let ep := ((egressOf s v.1).map (·.2)).getD 0
  let ty := (pointCfg s v.1).type
  [pack [(0, 14, ep), (16, 8, ty), (48, 16, if ty = tyTime80 then v.2.hi.toNat else 0)], v.2.v]

/-- R249, R260: builds and queues the timed frame of one port for up to 92 values. A port whose link is down sends
nothing and counts TX_DROP_LINK; one without room counts TX_TIMED_DROP and records an event of severity 4. -/
def queueTimed (s : State) (c cyc : Nat) (tc : Time80) (port : Nat) (vals : List (Nat × PointVal)) : State × List CycleFrame :=
  let words := timedHeader 1 (ctxSuite c) (ctxTask c) cyc tc vals.length ++ vals.flatMap (valueEntry s)
  let nf := newFrameId s
  let f := portFrame s port (endpointMac s port) 0x88B5 (wordBytes words)
  let r := enterEgress nf.1 port { id := nf.2, cls := .timed, frame := f, cyc := some (c, cyc, tc) }
  if r.2 then (r.1, [{ port, id := nf.2, vals }])
  else if (portAt s port).link != 2 then (r.1, [])
  else (raiseEvent (countPort r.1 port true 28 1) [ctxSuite c] 4 (fieldPort port) stDone [], [])

/-- R260: the timed frames of a cycle, for each port in ascending order, from its staged endpoint values in ascending
order of element. A module in STANDBY sends none (R236). -/
def buildTimed (s : State) (c cyc : Nat) (tc : Time80) (vals : List (Nat × PointVal)) : State × List CycleFrame :=
  if s.twin.role = .standby then (s, []) else
  let ports := (vals.filterMap (fun v => (egressOf s v.1).map (·.1))).foldl (fun acc p => sinsert p acc) []
  ports.foldl (fun acc port =>
    let mine := vals.filter (fun v => (egressOf s v.1).map (·.1) == some port)
    (pieces 92 mine mine.length).foldl (fun acc vs =>
      let r := queueTimed acc.1 c cyc tc port vs
      (r.1, acc.2 ++ r.2)) acc) (s, [])

/-- R143: handles the timed frames of a cancelled cycle: one not started is removed, its outcome WITHDRAWN; one started
or sent has a withdraw frame queued, its outcome open; one that a falling link discarded was never sent. -/
def withdrawFrames (s : State) (c cyc : Nat) (tc : Time80) (frames : List CycleFrame) : State × List CycleFrame :=
  frames.foldl (fun acc f =>
    let x := portAt acc.1 f.port
    if f.outcome.isSome then (acc.1, acc.2 ++ [f])
    else if x.egress.any (fun g => g.id == f.id && g.cls == .timed && !g.started) then
      (setPort acc.1 f.port (fun x => { x with egress := x.egress.filter (fun g => !(g.id == f.id && g.cls == .timed)) }),
       acc.2 ++ [{ f with outcome := some stWithdrawn }])
    else
      let w := portFrame acc.1 f.port (endpointMac acc.1 f.port) 0x88B5 (wordBytes (timedHeader 2 (ctxSuite c) (ctxTask c) cyc tc 0))
      let r := enterEgress acc.1 f.port { id := f.id, cls := .withdraw, frame := w, cyc := some (c, cyc, tc) }
      (r.1, acc.2 ++ [f])) (s, [])

end Sys2Proof.Machine
end

