-- ==== Sys2Proof/Machine/Outputs.lean ====
section
/-! DEFINITION. Output banks and the Shutter's safe states (R314 to R320). -/

namespace Sys2Proof.Machine
open Sys2Proof

def bankAt (s : State) (b : Nat) : Bank := tget {} s.banks b

def setBank (s : State) (b : Nat) (f : Bank → Bank) : State := { s with banks := tmod {} s.banks b f }

def outputAt (s : State) (n : Nat) : Output := tget {} s.outputs n

def setOutput (s : State) (n : Nat) (f : Output → Output) : State := { s with outputs := tmod {} s.outputs n f }

/-- Bank DOB`k` holds DO8`k` to DO8`k`+7. -/
def bankOutputs (b : Nat) : List Nat := rangeFrom (8 * b) 8

/-- A point's value as a snapshot or a point read finds it: a DO reads 1 while its low-side switch conducts (R321). -/
def imageValue (s : State) (e : Nat) : PointVal :=
  if isDo e then { v := if (outputAt s (e - 0x40)).conducting then 1 else 0 } else pointVal s e

/-- R318: the SAFE_VALUE bit of an output. -/
def safeOn (s : State) (n : Nat) : Bool := (bankAt s (n / 8)).cfg.safeValue.getLsbD (n % 8)

/-- R316, R333: the Meter cupboard drives the output as an energy pulse output. Log 76 (DEDUCED). -/
def isPulseOut (s : State) (n : Nat) : Bool := 44 ≤ n && (tget {} s.meter.pulses (n - 44)).enable

/-- R325: a PULSE_OUT drives the output, or an accepted one waits to. Log 76 (DEDUCED). -/
def pulseClaims (s : State) (n : Nat) : Bool := isPulseOut s n || (44 ≤ n && (tget {} s.meter.pulseNext (n - 44)).enable)

/-- R314: the bank switch is closed. -/
def bankClosed (s : State) (b : Nat) : Bool := (bankAt s b).state == .closed

/-- R314, R236, R404: the module is ACTIVE or unpaired, and VFIELD is present. -/
def drivesOutputs (s : State) : Bool := runsTasks s && s.boot.vfield

/-- The output's low-side switch conducts or not; R321 tells its drain by the instant of the change. -/
def conduct (s : State) (n : Nat) (on : Bool) : State :=
  setOutput s n (fun o => if o.conducting = on then o else { o with conducting := on, switched := some s.tick })

/-- The output's low-side switch stops conducting; an energy pulse output blocks no other (R316). -/
def turnOff (s : State) (n : Nat) : State :=
  let s := if (outputAt s n).conducting && !isPulseOut s n then setBank s (n / 8) (fun b => { b with lastOffTick := some s.tick }) else s
  setOutput (conduct s n false) n (fun o => { o with pendingAt := none })

/-- The output's low-side switch conducts; its status becomes DONE. -/
def turnOn (s : State) (n : Nat) : State :=
  setOutput (conduct s n true) n (fun o => { o with pendingAt := none, status := stDone, overload := false })

/-- R318, R320: drives an output to its safe state: no task's value stands any longer, and it conducts when its bank is
closed and SAFE_VALUE says on. -/
def driveSafe (s : State) (n : Nat) : State :=
  let on := safeOn s n && bankClosed s (n / 8)
  let s := if on then setOutput (conduct s n true) n (fun o => { o with pendingAt := none }) else turnOff s n
  setOutput s n (fun o => { o with committed := false, touched := false, live := false })

/-- R315: an output stands at 1. -/
def standsOn (s : State) (n : Nat) : Bool :=
  let o := outputAt s n
  if o.touched then o.committed else safeOn s n

/-- R316: another output of the bank, not an energy pulse output, is on or pending. Log 76 (DEDUCED). -/
def othersBusy (s : State) (n : Nat) : Bool :=
  (bankOutputs (n / 8)).any (fun m => m != n && !isPulseOut s m && ((outputAt s m).conducting || (outputAt s m).pendingAt.isSome))

/-- R316: the present instant lies within DEAD_US of the bank's latest turn-off. -/
def inDeadTime (s : State) (b : Nat) : Bool :=
  match (bankAt s b).lastOffTick with
  | none => false
  | some t => s.tick < t + ticksUs (bankAt s b).cfg.deadUs

/-- R316: a request, judged by the bank's policy. In a bank whose switch is open it ends with REFUSED(POWER). -/
def requestOutput (s : State) (n : Nat) : State :=
  let b := bankAt s (n / 8)
  if b.state != .closed then setOutput s n (fun o => { o with status := stRefused .power })
  else if isPulseOut s n || b.cfg.policy = 0 then turnOn s n
  else if b.cfg.policy = 1 then
    if othersBusy s n || inDeadTime s (n / 8) then
      let s := setOutput s n (fun o => { o with pendingAt := some b.requests, status := stDelayed .overlap })
      setBank s (n / 8) (fun b => { b with requests := b.requests + 1 })
    else turnOn s n
  else if othersBusy s n then
    raiseEvent (setOutput s n (fun o => { o with status := stRefused .overlap })) [(pointCfg s (0x40 + n)).owner] 2 (utilUnit (n / 8)) (stRefused .overlap) []
  else turnOn s n

/-- R315, R320: a value is released to an output: 1 to one that stands on at its safe state completes with DONE; 0 turns it off and ends a pending request with DONE; 1 is a request
unless the output stands at 1. The output is live and its Shutter timer restarts. The second field says whether the
release makes a request that is still to be judged. -/
def releaseOne (s : State) (n : Nat) (v : Bool) : State × Bool :=
  let stood := standsOn s n
  let s := if v then s else setOutput (turnOff s n) n (fun o => { o with status := stDone })
  let s := setOutput s n (fun o => { o with
    committed := v, touched := true, live := true, releasedTick := s.tick, shutterSafe := false
    status := if v && stood then (if o.touched && (o.pendingAt.isSome || o.status.cls = .refused) then o.status else stDone) else o.status })
  (s, v && !stood)

/-- R315: the values released at one instant: every turn-off first, then the requests in ascending DO number. None reaches the
utility die while its link is down (R30). -/
def releaseOutputs (s : State) (vals : List (Nat × Bool)) : State :=
  if utilDown s then s else
  let s := (vals.filter (fun v => !v.2)).foldl (fun s v => (releaseOne s v.1 false).1) s
  let go := (vals.filter (fun v => v.2)).foldl (fun (acc : State × List Nat) v =>
    let r := releaseOne acc.1 v.1 true
    (r.1, if r.2 then sinsert v.1 acc.2 else acc.2)) (s, [])
  go.2.foldl requestOutput go.1

/-- R317, R318: the bank switch closes: outputs that stand at their safe state take it together; every output whose
committed value is 1 makes a request, in ascending order. -/
def closeBank (s : State) (b : Nat) : State :=
  let s := setBank s b (fun x => { x with state := .closed, closedTick := s.tick })
  let s := (bankOutputs b).foldl (fun s n =>
    if (outputAt s n).touched || isPulseOut s n then s
    else conduct s n (safeOn s n)) s
  ((bankOutputs b).filter (fun n => (outputAt s n).touched && (outputAt s n).committed)).foldl requestOutput s

/-- The bank switch opens into a state: every output of the bank turns off. -/
def openBank (s : State) (b : Nat) (st : BankState) : State :=
  (bankOutputs b).foldl turnOff (setBank s b (fun x => { x with state := st }))

/-- R314: brings the bank switch to what the configuration and the module's role ask, unless a trip holds it open. -/
def settleBank (s : State) (b : Nat) : State :=
  let x := bankAt s b
  if x.cfg.enable && drivesOutputs s then (if x.state = .opened then closeBank s b else s)
  else if x.state = .closed then openBank s b .opened else s

/-- Every bank, on a change of role (R314, R236). -/
def settleBanks (s : State) : State := (List.range 6).foldl settleBank s

/-- R170: the outputs of a suite go to their safe states. -/
def suiteOutputs (s : State) (suite : Nat) : List Nat := (List.range 48).filter (fun n => (pointCfg s (0x40 + n)).owner == suite)

end Sys2Proof.Machine
end

