-- ==== Sys2Proof/Machine/KeyOps.lean ====
section
/-! DEFINITION. Slots of the Cellar: handles, descendants, destruction, and the end of a key request (R116 to R118,
R338 to R347). -/

namespace Sys2Proof.Machine
open Sys2Proof

def keyAt (s : State) (slot : Nat) : Key := tget {} s.cellar.keys slot

def setKey (s : State) (slot : Nat) (f : Key → Key) : State :=
  { s with cellar := { s.cellar with keys := tmod {} s.cellar.keys slot f } }

/-- R116: a handle: slot [12:0], suite [18:13], generation [31:19]. -/
def mkHandle (slot suite gen : Nat) : BitVec 32 := BitVec.ofNat 32 (slot % 8192 + suite % 64 * 8192 + gen % 8192 * 524288)

def handleSlot (h : BitVec 32) : Nat := h.toNat % 8192
def handleSuite (h : BitVec 32) : Nat := h.toNat / 8192 % 64
def handleGen (h : BitVec 32) : Nat := h.toNat / 524288

/-- The handle of the key in a slot. -/
def slotHandle (s : State) (slot : Nat) : BitVec 32 := mkHandle slot (keyAt s slot).suite (keyAt s slot).gen

/-- R116: the slot of a live handle; none for a stale one. -/
def liveSlot (s : State) (h : BitVec 32) : Option Nat :=
  let k := keyAt s (handleSlot h)
  if k.present && k.suite == handleSuite h && k.gen % 8192 == handleGen h then some (handleSlot h) else none

/-- The slots whose parent is one of a list of slots. -/
def childrenOf (s : State) (slots : List Nat) : List Nat :=
  (s.cellar.keys.filter (fun e => e.2.present && slots.any (fun p => p != e.1 && slotHandle s p == e.2.parent))).map (·.1)

/-- R347: the descendants of slots, generation by generation; no key is deeper than 6 (R338). -/
def descendants (s : State) : Nat → List Nat → List Nat
  | 0, _ => []
  | fuel + 1, slots =>
    let kids := childrenOf s slots
    if kids.isEmpty then [] else kids ++ descendants s fuel kids

/-- R341, R347: a destroyed slot is zeroised and its generation advances, from 0x1FFE to 1; the slot joins the free slots
as the one destroyed last. Log 41 (DEDUCED). -/
def wipeSlot (s : State) (slot : Nat) : State :=
  let g := (keyAt s slot).gen
  { s with cellar := { s.cellar with
      keys := tset {} s.cellar.keys slot { gen := if g = 0x1FFE then 1 else g + 1 }
      flashKeys := tdel s.cellar.flashKeys slot
      freed := s.cellar.freed.filter (· != slot) ++ [slot] } }

/-- R347: destroys keys and every descendant of theirs. -/
def destroyKeys (s : State) (slots : List Nat) : State :=
  let all := (slots ++ descendants s 6 slots).eraseDups
  all.foldl wipeSlot s

/-- R97, R117: a key request completes; one of its context's 8 outstanding places frees (R95). -/
def completeKey (s : State) (r : KeyReq) (st : Status) (result : BitVec 64) : State :=
  let w1 := r.words.getD 1 0
  let s := setCtx s r.ctx (fun x => { x with outstanding := x.outstanding - 1 })
  sendCompletion s (fld w1 16 16) (some r.ctx) { st, major := 0x45, fn := r.op, ticket := r.ticket, tag := fld w1 0 16, suite := r.suite, result }

/-- R97, R99: a CFG request completes; NOREPLY sends no completion item. Log 13 (DEDUCED). -/
def completeCfg (s : State) (r : CfgReq) (st : Status) (result : BitVec 64) (payload : List (BitVec 64)) : State :=
  let w1 := r.words.getD 1 0
  let s := setCtx s r.ctx (fun x => { x with outstanding := x.outstanding - 1 })
  if bitAt w1 49 then s else
  sendCompletion s (fld w1 32 16) (some r.ctx)
    { st, major := 0x40, fn := fld w1 0 8, ticket := r.ticket, tag := fld w1 16 16, suite := ctxSuite r.ctx, result, payload }

end Sys2Proof.Machine
end

