-- ==== Sys2Proof/Machine/Waiting.lean ====
section
/-! DEFINITION. Requests of the configuration sequencer that wait, the queues that engines consume, and the transmit slots of the
Hallway ports (R192, R196, R258, R292, R293). -/

namespace Sys2Proof.Machine
open Sys2Proof

/-! ### Requests -/

/-- How a configuration request ends: its status, RESULT and payload. -/
structure CfgEnd where
  s : State
  st : Status
  result : BitVec 64 := 0
  payload : List (BitVec 64) := []

/-- Word `i` of a request's descriptor. -/
def CfgReq.word (r : CfgReq) (i : Nat) : BitVec 64 := r.words.getD i 0

def CfgReq.code (r : CfgReq) : Nat := fld (r.word 1) 0 8

def CfgReq.suite (r : CfgReq) : Nat := ctxSuite r.ctx

/-- R42: the unit that a descriptor's TARGET names returns a status. -/
def noteTarget (s : State) (target : BitVec 64) (st : Status) : State :=
  match resolve s target with
  | some t => noteStatus s (targetUnit t) st
  | none => s

/-- R101: a request of the configuration pass. -/
def inPass (s : State) (r : CfgReq) : Bool := isFoundation r.ctx && s.seq.passOpen && !s.seq.passDone

/-- R155: the status that a request returns: after a restart from a broken journal the foundation program's first completion reports
PARTIAL(NONE). Log 100 (DEDUCED). -/
def returned (r : CfgReq) (e : CfgEnd) : Status :=
  if isFoundation r.ctx && e.s.journal.restoredBroken && !bitAt (r.word 1) 49 && fld (r.word 1) 32 16 != 0 then stPartial else e.st

/-- R97, R101: a request ends; the first of the pass that ends in a class other than DONE stops it. -/
def finishCfg (r : CfgReq) (e : CfgEnd) : State :=
  let st := returned r e
  let stops := inPass e.s r && st.cls != .done && e.s.seq.passFailed.isNone
  let s := if stops then { e.s with seq := { e.s.seq with passFailed := some r.ticket } } else e.s
  completeCfg (noteTarget s (r.word 0) st) r st e.result e.payload

/-- R97: a request that has waited completes. Log 58 (DESIGN CHOICE). -/
def endWaiting (r : CfgReq) (st : Status) (s : State) : State :=
  finishCfg r { s := { s with seq := { s.seq with waiting := s.seq.waiting.filter (fun w => w.req != r) } }, st }

/-! ### Queues that engines consume (R192, R196) -/

/-- R192: an engine becomes the consumer of a queue that no task or host consumes. -/
def engineConsumes (s : State) (q : Nat) (p : Part) : State :=
  if q = 0 then s else setQueue s q (fun x => match x.consumer with
    | some (.task _ _) | some (.session _ _ _) => x
    | _ => { x with consumer := some (.engine p) })

/-- R196: an engine consumes a queue no longer. -/
def engineLeaves (s : State) (q : Nat) (p : Part) : State :=
  if (queueAt s q).consumer = some (.engine p) then
    undeliver (setQueue s q (fun x => { x with consumer := none })) q (.engine p)
  else s

/-- An engine moves from consuming one queue to another. -/
def moveConsumer (s : State) (old new : Nat) (p : Part) : State :=
  engineConsumes (if old = new then s else engineLeaves s old p) new p

/-! ### Transmit slots of a Hallway port (R292, R293) -/

def hallAt (s : State) (h : Nat) : Hall := tget {} s.halls h

def setHall (s : State) (h : Nat) (f : Hall → Hall) : State := { s with halls := tmod {} s.halls h f }

/-- A Hallway port as an engine. -/
def hallPart (h : Nat) : Part := { cls := 3, inst := h }

/-- R292: the SLOT body. -/
def hallSlotFields (r : CfgReq) : HallSlotCfg :=
  let a := r.word 2
  { valid := bitAt a 6, suite := fld a 7 6, queue := fld a 13 16, fmt := BitVec.ofNat 3 (fld a 29 3), ide := bitAt a 32
    allowId := BitVec.ofNat 29 (fld (r.word 3) 0 29), allowMask := BitVec.ofNat 29 (fld (r.word 3) 32 29) }

/-- The queue that a slot consumes. -/
def slotQueue (c : HallSlotCfg) : Nat := if c.valid then c.queue else 0

/-- R293: a SLOT body is applied: the port consumes the queue of each valid slot. -/
def applyHallSlot (s : State) (h n : Nat) (new : HallSlotCfg) : State :=
  let old := slotQueue (tget {} (hallAt s h).slots n)
  let s := setHall s h (fun x => { x with slots := tset {} x.slots n new })
  if (hallAt s h).slots.any (fun e => slotQueue e.2 == old) then engineConsumes s (slotQueue new) (hallPart h)
  else moveConsumer s old (slotQueue new) (hallPart h)

/-- The slot that a SLOT body names. -/
def hallSlotOf (r : CfgReq) : Nat := fld (r.word 2) 2 4

/-- A CFG_HALLWAY that waits: for the attempt in progress of its port, or for the offered frame of its slot (R293). -/
def hallWaits (s : State) (h op : Nat) : List CfgReq :=
  (s.seq.waiting.filter (fun w => w.req.code == 0x0B && fld (w.req.word 2) 0 2 == op && resolve s (w.req.word 0) == some (.unit (hallUnit h)))).map (·.req)

/-- R293: SLOT bodies that waited are applied to the slots that offer no frame. Log 73 (DEDUCED). -/
def settleSlots (s : State) (h : Nat) : State :=
  (hallWaits s h 2).foldl (fun s r =>
    if (tlook (hallAt s h).offered (hallSlotOf r)).isSome then s
    else endWaiting r stDone (applyHallSlot s h (hallSlotOf r) (hallSlotFields r))) s

end Sys2Proof.Machine
end

