-- ==== Sys2Proof/Machine/Tasks.lean ====
section
/-! DEFINITION. Cycles that end, are cancelled or fault; the journal; modes; a suite's fault and reset
(spec/05, spec/06). -/

namespace Sys2Proof.Machine
open Sys2Proof

/-! ### The grid (R125) -/

/-- The first grid instant, in whole µs, at or after a count of µs. -/
def gridUs (period phase us : Nat) : Nat :=
  let p := max period 1
  let r := (us + (p - phase % p)) % p
  if r = 0 then us else us + (p - r)

/-- Whole µs of a time, rounded up. -/
def ceilUs (t : Time80) : Nat := wholeUs t + (if t.ns % 1000 = 0 then 0 else 1)

/-- R125: the first grid start at or after a time. Log 17 (DEDUCED). -/
def gridAt (d : TaskDesc) (t : Time80) : Time80 := ofUs (gridUs d.period d.phase (ceilUs t))

/-- R125: the first grid start later than a time. -/
def gridAfter (d : TaskDesc) (t : Time80) : Time80 := ofUs (gridUs d.period d.phase (wholeUs t + 1))

/-- Cycle starts from `a` up to but not including `b`. -/
def gridCount (d : TaskDesc) (a b : Time80) : Nat := if wholeUs b ≤ wholeUs a then 0 else (wholeUs b - wholeUs a) / max d.period 1

/-! ### The journal (R154, R155) -/

/-- The bytes of a record that the staging area counts: its lines and point values. -/
def recordBytes (r : JournalRec) : Nat := 64 * r.lines.length + 8 * r.points.length

/-- R155: the journal is marked broken; a checkpoint follows in the background (JOURNAL_WRITE). Log 100 (DEDUCED). -/
def breakJournal (s : State) : State :=
  if s.journal.broken then s else
  raiseEvent { s with journal := { s.journal with broken := true, rebuilding := true } } [0] 5 .module stDone []

/-- R154, R155: cuts a record into the staging area; while the journal is broken none is cut, for the checkpoint will hold
what it would; with more than 64 KiB there not yet written, the journal breaks. -/
def cutRecord (s : State) (r : JournalRec) : State :=
  if s.journal.broken then s
  else if 65536 < (s.journal.staging.map recordBytes).sum + recordBytes r then breakJournal s
  else { s with journal := { s.journal with staging := s.journal.staging ++ [r] } }

/-- R154: the RETAIN lines that a context has written in its cycle, as they stand now. -/
def retainLines (s : State) (c : Nat) : List (Nat × List Byte) :=
  let base := (suiteAt s (ctxSuite c)).winBase
  (tget [] s.journal.dirty c).map (fun l => (l, readBytes s.sram (base + 64 * l) 64))

/-- Takes the written lines of a context's cycle, clearing the note of them. -/
def takeLines (s : State) (c : Nat) : State × List (Nat × List Byte) :=
  ({ s with journal := { s.journal with dirty := tset [] s.journal.dirty c [] } }, retainLines s c)

/-! ### Packets, outcomes and cancellation (R109, R134, R143, R145) -/

/-- R109: the open packet of a context is discarded and its credit returned. -/
def dropPacket (s : State) (c : Nat) : State :=
  match (taskAt s c).ctx.packet with
  | none => s
  | some p =>
    let s := setCtx s c (fun x => { x with packet := none })
    setQueue s p.queue (fun q => returnCredit q p.credit (reservationEnd s (.task c p.binding)))

/-- R145: the status of a cancelled cycle's outcome. -/
def outcomeStatus (frames : List CycleFrame) : Status :=
  let applied := frames.filter (fun f => f.outcome != some stWithdrawn)
  if frames.isEmpty || applied.isEmpty then stWithdrawn
  else if applied.length = frames.length then { cls := .done, reason := .guard }
  else stPartial

/-- R145: the lowest take binding that REPLY_MAP marks. -/
def replyBinding (d : TaskDesc) : Option Nat :=
  (List.range 8).find? (fun n => d.replyMap.getLsbD n && d.takeQ.getD n 0 != 0)

/-- R145: one word of an outcome item for a frame. -/
def frameWord (f : CycleFrame) : BitVec 64 :=
  pack [(0, 8, f.port % 256), (8, 1, f.port / 256), (16, 8, Status.byte (f.outcome.getD { cls := .done, reason := .guard }))]

/-- R145: the event of severity 3 that tells an outcome with its counts: the frames, those withdrawn and those applied. -/
def outcomeEvent (s : State) (c : Nat) (o : Outcome) : State :=
  let w := (o.words.filter (fun x => fld x 16 8 == Status.byte stWithdrawn)).length
  raiseEvent s [ctxSuite c] 3 (roomUnit ((taskAt s c).desc.core / 4)) o.status
    [BitVec.ofNat 64 o.frames, BitVec.ofNat 64 w, BitVec.ofNat 64 (o.frames - w)]

/-- R145: an outcome waits for the successor's snapshot; without a reply binding it is an event. -/
def tellCycleOutcome (s : State) (c : Nat) (o : Outcome) : State :=
  match replyBinding (taskAt s c).desc with
  | some _ => setTask s c (fun t => { t with outcomes := t.outcomes ++ [o] })
  | none => outcomeEvent s c o

/-- R240: a member that has stepped down tells an outcome to the winner while the Landing link is alive, otherwise as an event. Log 87 (DEDUCED). -/
def tellWinner (s : State) (c : Nat) (o : Outcome) : State :=
  if s.twin.landing.alive then shipDelta s false false (now s) [.outcome (ctxSuite c) (ctxTask c) o.status o.cyc o.frames o.words] none
  else outcomeEvent s c o

/-- R145: the outcome of a cancelled cycle. -/
def makeOutcome (s : State) (c number : Nat) (frames : List CycleFrame) (override : Option Status) : State :=
  let st := override.getD (outcomeStatus frames)
  let s := setTask s c (fun t => { t with lastStatus := st })
  let o : Outcome := { status := st, cyc := number, frames := frames.length, words := frames.map frameWord }
  if s.twin.role = .standby then tellWinner s c o
  else tellCycleOutcome (if (replyBinding (taskAt s c).desc).isSome then mirror s (.outcome (ctxSuite c) (ctxTask c) st number o.frames o.words) else s) c o

/-- R143: cancelled cycles whose frames are all decided give their outcome; once the commit time is reached, an
undecided frame has been applied, and the endpoint points of the applied frames are committed. -/
def settleCancelled (s : State) (c : Nat) : State :=
  let due := fun (x : Cancelled) => reached (now s) x.commit
  let ready := fun (x : Cancelled) => due x || x.frames.all (fun f => f.outcome == some stWithdrawn)
  let list := (taskAt s c).cancelled.filter ready
  let s := setTask s c (fun t => { t with cancelled := t.cancelled.filter (fun x => !ready x) })
  list.foldl (fun s x =>
    let frames := x.frames.map (fun f => if f.outcome.isNone then { f with outcome := some { cls := .done, reason := .guard } } else f)
    let applied := (frames.filter (fun f => f.outcome != some stWithdrawn)).flatMap (·.vals)
    let s := applied.foldl (fun s v => setPoint s v.1 v.2) s
    makeOutcome s c x.number frames x.override) s

/-- R135: some cycle's commit is due and has not taken place: at one instant every commit precedes every snapshot and every sample of a
TIMER slot. The values that a cancelled cycle's applied frames commit (R143) are settled by the snapshot and the sample themselves. -/
def commitsDue (s : State) : Bool :=
  (loadedTasks s).any (fun e => match e.2.cycle with | some y => y.phase == .accepted && reached (now s) y.commit | none => false)

/-- R143: the cancelled cycles of every task, as their commit times and withdrawals decide them. -/
def settleAll (s : State) : State := (loadedTasks s).foldl (fun s e => settleCancelled s e.1) s

/-- R231 CYCLE, R154: a cycle's number, status, timers and written RETAIN lines go into the mirror delta. -/
def mirrorCycle (s : State) (c number : Nat) (st : Status) (lines : List (Nat × List Byte)) : State :=
  mirror s (.cycle (ctxSuite c) (ctxTask c) st number (taskAt s c).ctx.timers.toList (taskAt s c).ctx.expired lines)

/-- R134, R143: cancels a cycle: its staged packets give their credits back, its timed frames are removed or withdrawn,
and its outcome is told to the successor. Its armed output values are dropped. Its stores stand, and the RETAIN lines that its END has taken
go into the mirror delta (R154). -/
def cancelCycle (s : State) (c : Nat) (y : Cycle) (override : Option Status) : State :=
  let s := y.staged.packets.foldl (fun s p =>
    setQueue s p.queue (fun q => returnCredit q p.credit (reservationEnd s (.task c p.binding)))) s
  let s := setTask s c (fun t => { t with cycle := none })
  let s := { s with latches := s.latches.filter (fun l => !(l.ctx == c && l.cyc == y.number)) }
  let s := if y.phase = .executing then s else mirrorCycle s c y.number (override.getD stWithdrawn) y.lines
  let r := withdrawFrames s c y.number y.commit y.frames
  let s := setTask r.1 c (fun t => { t with cancelled := t.cancelled ++ [{ number := y.number, commit := y.commit, frames := r.2, override }] })
  settleCancelled (if (taskAt s c).desc.cam then mirror s (.cancel (ctxSuite c) (ctxTask c) y.number) else s) c

/-- Cancels the cycle of a context, where one is under way. -/
def cancelOpen (s : State) (c : Nat) : State :=
  match (taskAt s c).cycle with
  | some y => cancelCycle s c y none
  | none => s

/-! ### A suite's fault and reset (R168 to R172) -/

/-- R216: the pending samples of slots that a test picks are discarded; `clear` clears the compensator state and its marks as well (R218). -/
def clearSlots (s : State) (p : Slot → Bool) (clear : Bool) : State :=
  { s with hearth := { s.hearth with slots := s.hearth.slots.map (fun e =>
      if p e.2 then (e.1, { e.2 with
        pending := none
        x := if clear then [0, 0, 0] else e.2.x
        y := if clear then List.replicate 3 e.2.yInit else e.2.y
        region := if clear then 0 else e.2.region
        asSeen := !clear && e.2.asSeen
        qsSeen := !clear && e.2.qsSeen
        clamped := !clear && e.2.clamped }) else e) } }

/-- R301: an offered frame ends: its item is acknowledged, its completion sent, and each HB_CANCEL that waits for it answered. One that a
suite reset ends after its attempt counts in the suite's DISCARDED (R171). -/
def completeOffered (s : State) (h slot : Nat) (o : Offered) (st : Status) : State :=
  let q := (tget {} (tget {} s.halls h).slots slot).queue
  let s := ackItem { s with halls := tmod {} s.halls h (fun x => { x with offered := tdel x.offered slot }) } q o.item
  let result := pack [(0, 8, satN 8 o.attempts), (8, 8, satN 8 o.errors), (16, 1, b2n (o.byLifetime && st.cls == .withdrawn))]
  let sof := match st.cls, o.sof with | .done, some t => [nowForm t, pack [(0, 16, secHi t)]] | _, _ => [0, 0]
  let s := if o.suiteReset && st == stResetDiscarded then setSuite s o.suite (fun u => { u with discarded := bump 16 u.discarded }) else s
  let done : Completion := { st, major := 0x42, fn := 0x07, tag := o.tag, suite := o.suite }
  let s := sendCompletion s o.replyQueue none { done with result, payload := sof }
  o.cancelReplies.foldl (fun s r => lateReply s .unit (unitAddr s (hallUnit h)) r.1 r.2.1 0x90 r.2.2
    (if st.cls = .withdrawn then stDone else stRefused .state) []) s

/-- R288: a launch ends: its item is acknowledged and its completion sent. -/
def completeLaunch (s : State) (i : Nat) (l : Launch) (st : Status) (result : BitVec 64) (words : List (BitVec 64)) : State :=
  let q := (tget {} s.uplinks i).cfg.launchQueue
  let s := ackItem { s with uplinks := tmod {} s.uplinks i (fun u => { u with launch := none }) } q l.item
  let done : Completion := { st, major := 0x42, fn := 0x06, tag := l.tag, suite := l.suite }
  sendCompletion s l.replyQueue none { done with result, payload := words }

/-- R171 step 4: every outstanding request of the suite completes with RESET-DISCARDED(RESET); answers how many. Log 57 (DEDUCED). -/
def discardRequests (s : State) (n : Nat) : State × Nat :=
  let samples := (s.hearth.slots.filter (fun e => e.2.suite == n && e.2.inUse && e.2.pending.isSome)).length
  let s := clearSlots s (fun x => x.suite == n && x.inUse) false
  let keys := s.cellar.reqs.filter (fun r => r.suite == n)
  let s := keys.foldl (fun s r => completeKey s r stResetDiscarded 0)
    { s with cellar := { s.cellar with reqs := s.cellar.reqs.filter (fun r => r.suite != n) } }
  let cfgs := s.seq.reqs.filter (fun r => ctxSuite r.ctx == n)
  let s := cfgs.foldl (fun s r => completeCfg s r stResetDiscarded 0 [])
    { s with seq := { s.seq with reqs := s.seq.reqs.filter (fun r => ctxSuite r.ctx != n) } }
  let waits := (s.seq.waiting.filter (fun w => ctxSuite w.req.ctx == n)).map (·.req)
  let s := waits.foldl (fun s r => completeCfg s r stResetDiscarded 0 []) { s with
    seq := { s.seq with waiting := s.seq.waiting.filter (fun w => ctxSuite w.req.ctx != n) }
    sw := { s.sw with
      waiting := s.sw.waiting.filter (fun w => ctxSuite w.req.ctx != n), drainReqs := s.sw.drainReqs.filter (fun r => ctxSuite r.ctx != n) } }
  let meters := s.meter.waits.filter (fun w => w.suite == n)
  let s := meters.foldl (fun s w => sendCompletion s w.replyQueue none { st := stResetDiscarded, fn := 0xB0, tag := w.tag, suite := n })
    { s with meter := { s.meter with waits := s.meter.waits.filter (fun w => w.suite != n) } }
  let online := (suiteTasks s n).flatMap (fun e => e.2.online)
  let s := online.foldl (fun s o => lateReply s o.via o.target o.tag o.replyQueue o.code o.suite stResetDiscarded []) s
  let s := (suiteTasks s n).foldl (fun s e => setTask s e.1 (fun t => { t with online := [] })) s
  let offers := s.halls.flatMap (fun h => (h.2.offered.filter (fun o => o.2.suite == n && !o.2.attempting)).map (fun o => (h.1, o.1, o.2)))
  let s := offers.foldl (fun s o =>
    settleSlots (completeOffered s o.1 o.2.1 o.2.2 stResetDiscarded) o.1) s
  let s := { s with halls := s.halls.map (fun h => (h.1, { h.2 with offered := h.2.offered.map (fun o =>
    if o.2.suite == n && o.2.attempting then (o.1, { o.2 with cancel := some stResetDiscarded, suiteReset := true }) else o) })) }
  let launches := (List.range 3).filter (fun i => match (tget {} s.uplinks i).launch with | some l => l.suite == n | none => false)
  let s := launches.foldl (fun s i => match (tget {} s.uplinks i).launch with
    | some l => completeLaunch s i l stResetDiscarded 0 [0, 0]
    | none => s) s
  (s, samples + keys.length + cfgs.length + waits.length + meters.length + online.length + offers.length + launches.length)

/-- R110, R172, R196: items delivered to a context become undelivered and keep their places. -/
def undeliverTask (s : State) (c : Nat) : State :=
  { s with larder := { s.larder with queues := s.larder.queues.map (fun e => (e.1, { e.2 with
      items := e.2.items.map (fun it => match it.deliveredTo with
        | some (.task c' _) => if c' = c then { it with deliveredTo := none, again := true } else it
        | _ => it) })) } }

/-- R172: a suite's queues at a reset: warm, delivered items become undelivered; cold, every item is discarded and its
credit returned, and HIGH falls. -/
def resetQueues (s : State) (n : Nat) (cold : Bool) : State :=
  let qs := (s.larder.queues.filter (fun e => queueOwner s e.1 == some n)).map (·.1)
  qs.foldl (fun s q =>
    let s := setQueue s q (fun q => { q with items := q.items.map (fun it =>
      if it.deliveredTo.isSome then { it with deliveredTo := none, again := true } else it) })
    if cold then
      let high := (queueAt s q).high
      let s := setQueue (dropItems s q (fun _ => true)) q (fun q => { q with high := false })
      if high then pauseOn s q false else s
    else s) s

/-- R153, R371: cleans a suite's window through the valid bits: cold all of it, warm DATA alone. Log 19 (DEDUCED). -/
def cleanWindow (s : State) (n : Nat) (cold : Bool) : State :=
  let u := suiteAt s n
  let lo := if cold then 0 else u.dataAt * 4096
  { s with sram := invalidate s.sram (u.winBase + lo) (u.winSize - lo) }

/-- R152, R171 step 5: a task after a reset of its suite. -/
def resetTask (t : Task) : Task :=
  { desc := t.desc, mode := .stop, stopCause := .reset, outcomes := t.outcomes, cancelled := t.cancelled
    ctx := { ticket := t.ctx.ticket, outstanding := t.ctx.outstanding, eventCredits := t.ctx.eventCredits } }

/-- R171: a suite reset, steps 1 to 6; a request that finds the suite already resetting merges with it (R169), and is told
to the standby too where it turns a warm reset cold (R174). The fence
lifts with SUITE_FENCE_LIFT. LAST_DRAIN_NS is a free value of at most 20,000. Log 11 (DESIGN CHOICE), 89 (DEDUCED). -/
def resetSuite (s : State) (n : Nat) (cold : Bool) : State :=
  if n = 0 || !(suiteAt s n).enabled then s
  else if resetting s n then
    if cold && (suiteAt s n).resetCold != some true then
      let s := cleanWindow (clearSlots (resetQueues s n true) (fun x => x.suite == n && x.inUse) true) n true
      mirror (setSuite s n (fun u => { u with resetCold := some true })) (.suiteReset n true)
    else s
  else
    let drain := (Config.freeWord s.free).toNat % 20001
    let s := { s with free := s.free + 1 }
    let s := setSuite s n (fun u => { u with
      state := stResetting, lastStatus := stDone, resetCold := some cold, discarded := 0, lastDrainNs := drain
      lastResetSec := (now s).sec % 2 ^ 32 })
    let tasks := suiteTasks s n
    let s := tasks.foldl (fun s e => dropPacket s e.1) s
    let s := { s with larder := { s.larder with queues := s.larder.queues.map (fun e =>
      if queueOwner s e.1 == some n then (e.1, { e.2 with fenced := true, attached := e.2.attached.map (fun a => { a with waiting := false }) })
      else e) } }
    let s := tasks.foldl (fun s e => cancelOpen s e.1) s
    let s := tasks.foldl (fun s e => undeliverTask s e.1) s
    let r := discardRequests s n
    let s := setSuite r.1 n (fun u => { u with discarded := satN 16 r.2 })
    let s := (suiteOutputs s n).foldl driveSafe s
    let s := tasks.foldl (fun s e => setTask s e.1 resetTask) s
    let s := cleanWindow s n cold
    let s := { s with journal := { s.journal with dirty := s.journal.dirty.filter (fun d => d.1 / 32 != n || 2048 ≤ d.1) } }
    let s := resetQueues s n cold
    let s := destroyKeys s ((s.cellar.keys.filter (fun e => e.2.present && e.2.suite == n && e.2.attr.getLsbD 8)).map (·.1))
    let s := if cold then clearSlots s (fun x => x.suite == n && x.inUse) true else s
    let s := (ownedUnits s n).foldl (fun s u => setUnitStat s u (fun x => { x with state := stStarting, lastStatus := stDone })) s
    mirror s (.suiteReset n cold)

/-- R168: a suite enters FAULT: an event of severity 5 against it and suite 0, then its FAULT_ACTION. A suite already in
FAULT or resetting does not enter it again. -/
def faultSuite (s : State) (n : Nat) (st : Status) : State :=
  let u := suiteAt s n
  if u.state = stFaulty || u.state = stResetting then s else
  let s := setSuite s n (fun u => { u with state := stFaulty })
  let s := raiseEvent s [n, 0] 5 .module st []
  if u.faultAction = 1 then resetSuite s n false
  else if u.faultAction = 2 then resetSuite s n true
  else s

/-! ### Modes (R148 to R150) -/

/-- The first grid commit time of a task later than now (R150). -/
def nextCommit (s : State) (d : TaskDesc) : Time80 :=
  taddUs (gridAfter d (taddNs (now s) (-(d.commitOffset * 1000 : Nat)))) d.commitOffset

/-- R231 SUITE: a task's mode goes into the mirror delta. -/
def mirrorMode (s : State) (c : Nat) : State := mirror s (.taskMode (ctxSuite c) (ctxTask c) (taskAt s c).mode.ctorIdx)

/-- The outputs of a task: the DO numbers of its output list. -/
def taskOutputs (d : TaskDesc) : List Nat := (d.outList.filter isDo).map (· - 0x40)

/-- R148, R150: a task enters STOP: its outputs go safe at the first grid commit time (STOP_SAFE_STATE). A STOP by FAULT or
OVERRUN puts the suite into FAULT (R168). -/
def enterStop (s : State) (c : Nat) (cause : StopCause) (st : Status) : State :=
  let s := setTask s c (fun t => { t with
    mode := .stop, stopCause := cause, pending := none, stopPending := none, stepping := false, brkHold := false
    holdUntil := none, nextStart := none, rereleased := none, autoRun := false })
  let d := (taskAt s c).desc
  let s := { s with safeDrives := s.safeDrives ++ [{ ctx := c, at80 := nextCommit s d, outs := taskOutputs d }] }
  let s := mirrorMode s c
  match cause with
  | .fault | .overrun => faultSuite s (ctxSuite c) st
  | _ => s

/-- R148: a task enters HOLD; HOLD_MAX runs from now (0 means 60,000 ms). -/
def enterHold (s : State) (c : Nat) : State :=
  mirrorMode (setTask s c (fun t => { t with
    mode := .hold, stopPending := none, stepping := false, brkHold := false, nextStart := none
    rereleased := some (ofUs (wholeUs (now s)))
    holdUntil := some (s.tick + ticksMs (if t.desc.holdMax = 0 then 60000 else t.desc.holdMax)) })) c

/-- R147, R148: after a cycle has committed or been cancelled: a STOP or HOLD that waited for it takes effect, and so does
an armed BRK with HOLD, and the end of a step cycle. -/
def afterCycle (s : State) (c : Nat) : State :=
  let t := taskAt s c
  if t.cycle.isSome then s else
  match t.stopPending with
  | some .stop => enterStop s c .command stDone
  | some .hold => enterHold s c
  | _ => if t.brkHold || t.stepping then enterHold s c else s

/-! ### Faults of an instruction (R88 to R90, R140) -/

/-- R89: the fault classes in code order, from 1. -/
inductive FClass where
  | steps | bounds | memory | illegal | align | stack | arith | fabric | device
deriving DecidableEq, Repr

/-- R122: the reason of a fault class; DEVICE carries the reason found at issue. -/
def FClass.reason (device : Reason) : FClass → Reason
  | .steps => .budget
  | .bounds => .threshold
  | .memory => .error
  | .illegal => .illegal
  | .align => .align
  | .stack => .stack
  | .arith => .arith
  | .fabric => .link
  | .device => device

/-- R90: the fault descriptor. -/
def faultWords (s : State) (c core : Nat) (x : Ctx) (cls : FClass) (st : Status) (addr : BitVec 64) (insn : BitVec 32) : Vector (BitVec 64) 4 :=
  #v[pack [(0, 8, Status.byte st), (8, 4, cls.ctorIdx + 1), (16, 6, ctxSuite c), (22, 5, ctxTask c), (32, 32, x.pc.toNat)],
     addr,
     pack [(0, 32, insn.toNat), (32, 6, core), (40, 24, satN 24 x.steps)],
     nowForm (now s)]

/-- R127: the foundation program ends; an end that is a fault or comes before CFG_END has completed stops the pass, with an
event of severity 6 against suite 0. -/
def endFoundation (s : State) (bad : Bool) : State :=
  let s := { dropPacket s 0 with foundation := { s.foundation with running := false } }
  let s := { s with seq := { s.seq with passFailed := if bad && s.seq.passFailed.isNone then some 0 else s.seq.passFailed } }
  if bad then raiseEvent s [0] 6 (roomUnit 8) (stFault .state) [] else s

/-- R88, R140: what follows a fault of a task's context: the cycle is cancelled, its journal record is cut, and the task stops
when its consecutive faulted cycles reach FAULT_LIMIT. -/
def faultCycle (s : State) (c : Nat) (st : Status) : State :=
  match (taskAt s c).cycle with
  | none => s
  | some y =>
    let s := dropPacket s c
    let l := takeLines s c
    let s := mirrorCycle l.1 c y.number st l.2
    let s := cutRecord s { suite := ctxSuite c, task := ctxTask c, cyc := y.number, commit := y.commit, lines := l.2, points := [] }
    let s := setTask s c (fun t => { t with
      consecFaults := min 31 (t.consecFaults + 1), faults := bump 16 t.faults, maxSteps := max t.maxSteps t.ctx.steps })
    let s := cancelCycle s c y none
    let s := setTask s c (fun t => { t with lastStatus := st })
    if resetting s (ctxSuite c) then s
    else if (taskAt s c).desc.faultLimit ≤ (taskAt s c).consecFaults then enterStop s c .fault st
    else afterCycle s c

/-- R88 to R90: an instruction of context `c` on core `k` takes a fault: the descriptor is written, an event of severity 4 is
recorded, and the cycle ends. On a management core the fault is reported against unit class 4, instance 8; it ends the
foundation program (R127). Log 85 (DEDUCED), 111 (DEDUCED). -/
def takeFault (s : State) (c core : Nat) (cls : FClass) (device : Reason) (addr : BitVec 64) (insn : BitVec 32) : State :=
  let st := stFault (cls.reason device)
  let x := (taskAt s c).ctx
  let s := setCtx s c (fun x' => { x' with fd := faultWords s c core x cls st addr insn })
  let s := if cls = .bounds then countThreshold s (ctxSuite c) else s
  let s := raiseEvent s [ctxSuite c] 4 (roomUnit (core / 4)) st []
  if isFoundation c then endFoundation s true
  else if c < 2048 then faultCycle s c st
  else dropPacket s c

end Sys2Proof.Machine
end

