-- ==== Sys2Proof/Machine/Hearth.lean ====
section
/-! DEFINITION. The Hearth: samples, evaluation and slot status (spec/08_hearth_loops.md). -/

namespace Sys2Proof.Machine
open Sys2Proof

def slotAt (s : State) (n : Nat) : Slot := tget {} s.hearth.slots n

def setSlot (s : State) (n : Nat) (f : Slot → Slot) : State :=
  { s with hearth := { s.hearth with slots := tmod {} s.hearth.slots n f } }

/-! ### Samples (R212, R213) -/

/-- R213: the slots other than `n` with a pending sample. -/
def backlog (s : State) (n : Nat) : Nat := (s.hearth.slots.filter (fun e => e.1 != n && e.2.pending.isSome)).length

/-- What became of a sample: whether it was delayed, and whether it replaced one. -/
structure Accepted where
  s : State
  delayed : Bool
  replaced : Bool

/-- R119, R213: a slot accepts a sample; it takes over the place of a pending one that it replaces. -/
def acceptSample (s : State) (n : Nat) (u : Int) : Accepted :=
  let delayed := decide (800 ≤ backlog s n)
  let old := (slotAt s n).pending
  let order := match old with | some p => p.order | none => s.tick
  { s := setSlot s n (fun x => { x with
      pending := some { u, accepted := now s, order, delayed }
      delayed := if delayed then bump 16 x.delayed else x.delayed
      replaced := if old.isSome then bump 16 x.replaced else x.replaced })
    delayed
    replaced := old.isSome }

/-- R212: a TIMER slot at its instant, after every commit of the instant: its sample is the committed value of SRC_POINT. A slot of a suite that is RESETTING
does not trigger (R216), nor does a standby's (R216). The instant counts once. -/
def timerTrigger (s : State) (n : Nat) : State :=
  let s := settleAll s
  let x := slotAt s n
  let us := wholeUs (now s)
  if x.inUse && x.timer && x.timerPeriod != 0 && (us + x.timerPeriod - x.timerPhase % x.timerPeriod) % x.timerPeriod == 0 &&
      x.lastTrigger != some us && !commitsDue s && !resetting s x.suite && s.twin.role != .standby then
    (acceptSample (setSlot s n (fun x => { x with lastTrigger := some us })) n (signed 16 (pointVal s x.srcPoint).v.toNat)).s
  else s

/-- R212: a TIMER slot triggers at its house-time instant. -/
def execHearthTimerTrigger (slot : Nat) (s : State) : Host.Outcome State Fault Refusal := .next (timerTrigger s slot)

/-! ### Evaluation (R205, R206, R210, R214) -/

/-- R210: the region for `v`, upwards: at most as many steps as regions. -/
def regionUp (sets : List CoefSet) (regions : Nat) (hyst v : Int) : Nat → Nat → Nat
  | 0, k => k
  | fuel + 1, k =>
    if k < regions && decide ((sets.getD k {}).upper + hyst ≤ v) then regionUp sets regions hyst v fuel (k + 1) else k

/-- R210: the region for `v`, downwards. -/
def regionDown (sets : List CoefSet) (hyst v : Int) : Nat → Nat → Nat
  | 0, k => k
  | fuel + 1, k =>
    if 0 < k && decide (v < (sets.getD (k - 1) {}).upper - hyst) then regionDown sets hyst v fuel (k - 1) else k

/-- R210: the region chosen from `v` and the present region. -/
def chooseRegion (x : Slot) (v : Int) : Nat := regionDown x.sets x.hyst v 8 (regionUp x.sets x.regions x.hyst v 8 x.region)

/-- A saturation to `n` bits that notes whether it changed the value. -/
def satNote (n : Nat) (v : Int) (seen : Bool) : Int × Bool := (clampS n v, seen || clampS n v != v)

/-- R205: sums products of two lists into a 40-bit accumulator, in order, saturating after each. -/
def accumulate (sign : Int) : List Int → List Int → Int × Bool → Int × Bool
  | c :: cs, v :: vs, acc => accumulate sign cs vs (satNote 40 (acc.1 + sign * (c * v)) acc.2)
  | _, _, acc => acc

/-- What an evaluation gives: the slot's new state, y0, and its marks. -/
structure Evaluation where
  x : List Int
  y : List Int
  region : Nat
  y0 : Int
  asSeen : Bool
  qsSeen : Bool
  clamped : Bool
deriving DecidableEq, Repr

/-- R205, R206: one evaluation of a slot with sample `u` and scheduling variable `v`. -/
def evaluate (x : Slot) (u v : Int) : Evaluation :=
  let n := if x.order3 then 3 else 2
  let x0 := if x.errMode then satNote 16 (x.setpoint - u) false else (u, false)
  let k := chooseRegion x v
  let c := x.sets.getD k {}
  let acc := accumulate 1 (c.b.take (n + 1)) (x0.1 :: x.x.take n) (0, false)
  let acc := accumulate (-1) (c.a.take n) (x.y.take n) acc
  let acc := satNote 40 (acc.1 * (2 ^ c.shift : Nat)) acc.2
  let r := satNote 16 ((acc.1 + 0x4000) / 0x8000) x0.2
  let y0 := min (max r.1 c.outMin) c.outMax
  { x := (x0.1 :: x.x.take (n - 1)) ++ x.x.drop n
    y := (y0 :: x.y.take (n - 1)) ++ x.y.drop n
    region := k, y0, asSeen := acc.2, qsSeen := r.2, clamped := r.1 != y0 }

/-- R214: the result item. -/
def resultItem (n : Nat) (ev : Evaluation) (p : Sample) : List (BitVec 64) :=
  [pack [(0, 16, (ofInt64 ev.y0).toNat), (16, 12, n), (28, 3, ev.region), (31, 1, b2n ev.clamped), (32, 1, b2n (ev.asSeen || ev.qsSeen)),
    (33, 1, b2n p.delayed)], nowForm p.accepted]

/-- R214: writes y0 to the slot's destinations. An item for a queue of a suite that is RESETTING waits in it (R171). -/
def writeDestinations (s : State) (n : Nat) (ev : Evaluation) (p : Sample) : State :=
  let x := slotAt s n
  let s := if x.toPoint then setPoint s x.destPoint { v := canonValue tyQ15 (ofInt64 ev.y0) } else s
  if x.toQueue then
    let r := putItem s x.destQueue (.engine hearthPart) x.suite 0 0 false (wordBytes (resultItem n ev p))
    if r.2 then r.1 else setSlot r.1 n (fun x => { x with drops := bump 16 x.drops })
  else s

/-- Evaluates the pending sample of a slot. -/
def evaluateSlot (s : State) (n : Nat) (p : Sample) : State :=
  let x := slotAt s n
  let v := if x.schedSrc then signed 16 (pointVal s x.schedPoint).v.toNat else p.u
  let ev := evaluate x p.u v
  let s := setSlot s n (fun x => { x with
    x := ev.x, y := ev.y, region := ev.region, pending := none
    asSeen := x.asSeen || ev.asSeen, qsSeen := x.qsSeen || ev.qsSeen, clamped := ev.clamped
    evals := (x.evals + 1) % 2 ^ 32
    swaps := if ev.region = x.region then x.swaps else bump 16 x.swaps })
  writeDestinations s n ev p

/-- R213: of two slots with pending samples, the one accepted first; samples of one instant in slot order. -/
def earlierSample (best : Option (Nat × Sample)) (e : Nat × Slot) : Option (Nat × Sample) :=
  match e.2.pending, best with
  | none, b => b
  | some p, none => some (e.1, p)
  | some p, some b =>
    if p.order < b.2.order || (p.order == b.2.order && e.1 < b.1) then some (e.1, p) else some b

/-- R213: the pending sample to be evaluated next. A standby evaluates none (R216). -/
def nextSample (s : State) : Option (Nat × Sample) :=
  if s.twin.role = .standby then none else s.hearth.slots.foldl earlierSample none

/-- R205: evaluates the pending sample accepted first. -/
def execHearthEvaluation (s : State) : Host.Outcome State Fault Refusal :=
  .next (match nextSample s with
    | some e => evaluateSlot s e.1 e.2
    | none => s)

/-! ### Slot status (R218) -/

/-- The two words of a slot's status. -/
def slotStatus (s : State) (n : Nat) : List (BitVec 64) :=
  let x := slotAt s n
  [pack [(0, 16, (ofInt64 (x.y.headD 0)).toNat), (16, 3, x.region), (19, 1, b2n x.pending.isSome), (20, 1, b2n x.asSeen),
     (21, 1, b2n x.qsSeen), (22, 1, b2n x.clamped), (23, 1, b2n x.inUse), (24, 6, x.suite), (32, 32, x.evals)],
   pack [(0, 16, x.delayed), (16, 16, x.replaced), (32, 16, x.drops), (48, 16, x.swaps)]]

/-- R218: a slot's status, for the suite that owns it. -/
def execSlotStatus (q : CmdQueue) (s : State) : Host.Outcome State Fault Refusal :=
  .next (unitCommand q (withCode 0x50) false (fun c t s => onUnit t (· == engineUnit 1) s
    (let n := fld (c.word 2) 0 12
     ownerOnly s (slotAt s n).suite c { s, st := stDone, payload := slotStatus s n })) s)

end Sys2Proof.Machine
end

