-- ==== Sys2Proof/Machine/Words.lean ====
section
/-! DEFINITION. Instruction words: their fields, encodings, legality, step costs and control flow (R65, R66, R77 to R87,
R92; the tables of spec/03 and spec/04). -/

namespace Sys2Proof.Machine
open Sys2Proof

/-! ### Encoding (R65) -/

/-- A word made of fields (lowest bit, width, value). -/
def packW (fs : List (Nat × Nat × Nat)) : BitVec 32 := BitVec.ofNat 32 (fs.foldl (fun acc f => acc + f.2.2 % 2 ^ f.2.1 * 2 ^ f.1) 0)

/-- Format A: fn[7:0] is given, fn[9:8] stands in the operands. -/
def encA (op fn : Nat) (f : FmtA) : BitVec 32 :=
  packW [(25, 7, op), (20, 5, f.rd.toNat), (15, 5, f.rs1.toNat), (10, 5, f.rs2.toNat), (8, 2, f.hi.toNat), (0, 8, fn)]

def encI (op fn3 : Nat) (f : FmtI) : BitVec 32 :=
  packW [(25, 7, op), (20, 5, f.rd.toNat), (15, 5, f.rs1.toNat), (12, 3, fn3), (0, 12, f.imm.toNat)]

def encU (op : Nat) (f : FmtU) : BitVec 32 := packW [(25, 7, op), (20, 5, f.rd.toNat), (0, 20, f.imm.toNat)]

def encM (op : Nat) (f : FmtM) : BitVec 32 :=
  packW [(25, 7, op), (20, 5, f.rt.toNat), (15, 5, f.base.toNat), (12, 3, f.size.toNat), (0, 12, f.imm.toNat)]

def encB (cond : Nat) (f : FmtB) : BitVec 32 :=
  packW [(25, 7, 0x10), (22, 3, cond), (17, 5, f.rs1.toNat), (12, 5, f.rs2.toNat), (0, 12, f.disp.toNat)]

def encJ (op : Nat) (f : FmtJ) : BitVec 32 := packW [(25, 7, op), (0, 25, f.disp.toNat)]

def encT (f : FmtT) : BitVec 32 := packW [(25, 7, 0x14), (20, 5, f.rs1.toNat), (8, 12, f.count.toNat), (0, 8, f.lo.toNat)]

def encL (f : FmtL) : BitVec 32 := packW [(25, 7, 0x15), (20, 5, f.rs.toNat), (8, 12, f.bound.toNat), (0, 8, f.len.toNat)]

def encQ (fn : Nat) (f : FmtQ) : BitVec 32 :=
  packW [(25, 7, 0x18), (23, 2, f.acc.toNat), (18, 5, f.rd.toNat), (13, 5, f.rs1.toNat), (8, 5, f.rs2.toNat), (0, 8, fn)]

def encS (fn : Nat) (f : FmtS) : BitVec 32 := packW [(25, 7, 0x16), (20, 5, f.rt.toNat), (8, 12, f.sr.toNat), (0, 8, fn)]

/-! ### Reading a word -/

/-- A field of a word. -/
def wfld (w : BitVec 32) (lo len : Nat) : Nat := w.toNat / 2 ^ lo % 2 ^ len

/-- How a word moves control. -/
inductive Kind where
  | plain
  | branch (disp : Int)
  | jump (disp : Int)
  | call (disp : Int)
  | ret
  | endCycle
  | table (count : Nat)
  | loop (bound len : Nat)
deriving DecidableEq, Repr

/-- A legal word: its step cost and how it moves control. -/
structure WordInfo where
  cost : Nat
  kind : Kind := .plain
deriving DecidableEq, Repr

/-- Legal when a condition on its fields holds (R66). -/
def legalIf (ok : Bool) (cost : Nat) (kind : Kind := .plain) : Option WordInfo := if ok then some { cost, kind } else none

/-- R67: OPA. -/
def opaInfo (rs2 fn : Nat) : Option WordInfo :=
  let f := fn % 256
  let noBit8 := fn / 256 % 2 == 0
  if f ≤ 0x11 || (0x18 ≤ f && f ≤ 0x1A) || f = 0x20 then legalIf noBit8 1
  else if f = 0x12 || f = 0x13 then legalIf (noBit8 && rs2 == 0) 1
  else if 0x1C ≤ f && f ≤ 0x1F then legalIf noBit8 20
  else none

/-- R72: QOP: the fields that each operation does not use must be zero. -/
def qopInfo (acc rd rs1 rs2 fn : Nat) : Option WordInfo :=
  if fn ≤ 0x02 then legalIf (rd == 0) 1
  else if fn = 0x03 then legalIf (rd == 0 && rs1 == 0 && rs2 == 0) 1
  else if fn = 0x04 then legalIf (rd == 0 && rs2 == 0) 1
  else if fn = 0x05 || fn = 0x06 then legalIf (rs1 == 0 && rs2 == 0) 1
  else if fn = 0x07 then legalIf (rd == 0 && rs1 == 0) 1
  else if fn ≤ 0x0A then legalIf (acc == 0) 1
  else if fn = 0x0B || fn = 0x0C then legalIf (acc == 0 && rs2 == 0) 1
  else none

/-- R74: FOP, with its step costs for binary32 and binary64. -/
def fopInfo (rs2 fn : Nat) : Option WordInfo :=
  let f := fn % 256
  let ok := fn / 256 % 2 == 0
  let d := fn / 512 % 2 == 1
  let un := ok && rs2 == 0
  match f with
  | 0x00 | 0x01 => legalIf ok (if d then 2 else 1)
  | 0x02 => legalIf ok (if d then 3 else 1)
  | 0x03 => legalIf ok 20
  | 0x04 => legalIf un (if d then 28 else 24)
  | 0x05 => legalIf ok (if d then 4 else 2)
  | 0x06 | 0x07 | 0x0A | 0x0B | 0x0E | 0x0F => legalIf ok 1
  | 0x08 | 0x09 | 0x0C => legalIf un 1
  | 0x10 | 0x11 | 0x12 | 0x13 => legalIf un 2
  | 0x14 => legalIf un 1
  | _ => none

/-- R58: the special registers, and whether `SRW` may write them. -/
def srListed (n : Nat) : Bool :=
  n ≤ 0x00C || (0x010 ≤ n && n ≤ 0x014) || n == 0x018 || (0x020 ≤ n && n ≤ 0x023) || n == 0x030

def srWritable (n : Nat) : Bool := n == 0x010 || n == 0x011 || n == 0x012

/-- R100: the LEN of a configuration code; 0 for an unlisted code. -/
def cfgLen (code : Nat) : Nat :=
  [0, 4, 8, 8, 6, 4, 16, 6, 4, 6, 4, 8, 4, 6, 8, 32, 4, 4, 4, 4, 4, 3, 2, 2].getD code 0

/-- R108: the step costs of the queue operations; 0 for a reserved function. -/
def queCost (fn : Nat) : Nat := [12, 8, 24, 8, 8, 16, 8, 0, 12, 8, 12].getD fn 0

/-- The bits fn[9:8] of a device instruction: fn[8] may be set on M0 and M1 where a resource may be waited for (R96). -/
def waitBits (m mayWait : Bool) (hi : Nat) : Bool := hi == 0 || (hi == 1 && m && mayWait)

/-- R92 to R120: device instructions. -/
def deviceInfo (m : Bool) (op rd rs1 rs2 fn : Nat) : Option WordInfo :=
  let f := fn % 256
  let hi := fn / 256
  match op with
  | 0x40 => legalIf (cfgLen f != 0 && hi == 0 && rs2 == 0) (8 + cfgLen f)
  | 0x42 => legalIf (queCost f != 0 && waitBits m (f == 0) hi &&
      (if f = 0x01 || f = 0x08 || f = 0x0A then rs2 == 0
       else if 0x03 ≤ f && f ≤ 0x06 then rs1 == 0 && rs2 == 0 else true)) (queCost f)
  | 0x43 => if f ≤ 0x02 then legalIf (hi == 0) 4
      else if f = 0x03 then legalIf (hi == 0 && rs2 == 0) 2
      else if f = 0x04 then legalIf (hi == 0 && rs2 == 0 && rd == 0) 2 else none
  | 0x44 => legalIf (f == 0 && waitBits m true hi) 16
  | 0x45 => legalIf (1 ≤ f && f ≤ 0x0B && waitBits m true hi && rs2 == 0) 16
  | 0x46 => legalIf (f == 0 && hi == 0) 12
  | 0x47 => legalIf (f % 16 == 0 && hi == 0 && rd == 0 && rs1 == 0 && rs2 == 0) 24
  | _ => none

/-- R66, R86: what a word is on a management core (`m`) or a scan core; none for one that raises ILLEGAL by its
encoding. Log 7 (DESIGN CHOICE). -/
def readWord (m : Bool) (w : BitVec 32) : Option WordInfo :=
  let op := wfld w 25 7
  let rd := wfld w 20 5
  let rs1 := wfld w 15 5
  let rs2 := wfld w 10 5
  let fn := wfld w 0 10
  match op with
  | 0x00 => opaInfo rs2 fn
  | 0x01 => legalIf (wfld w 12 3 < 6 || wfld w 6 4 == 0) 1
  | 0x02 | 0x03 | 0x04 => some { cost := 1 }
  | 0x08 => legalIf (wfld w 12 3 < 7) 3
  | 0x09 => legalIf (wfld w 12 3 < 4) 2
  | 0x0A => legalIf (fn % 256 ≤ 5 && fn / 256 % 2 == 0) 6
  | 0x10 => legalIf (wfld w 22 3 < 6) 2 (.branch (signed 12 (wfld w 0 12)))
  | 0x11 => some { cost := 2, kind := .jump (signed 25 (wfld w 0 25)) }
  | 0x12 => some { cost := 2, kind := .call (signed 25 (wfld w 0 25)) }
  | 0x13 =>
    let z := rd == 0 && rs1 == 0 && rs2 == 0
    if fn = 0 then legalIf z 1
    else if fn = 1 then legalIf z 2 .ret
    else if fn = 2 then legalIf z 4
    else if fn = 3 then legalIf z 2 .endCycle else none
  | 0x14 => legalIf (wfld w 8 12 != 0 && wfld w 0 8 == 0) 4 (.table (wfld w 8 12))
  | 0x15 => legalIf (wfld w 8 12 != 0 && wfld w 0 8 != 0) 1 (.loop (wfld w 8 12) (wfld w 0 8))
  | 0x16 =>
    let sr := wfld w 8 12
    if wfld w 0 8 = 0 then legalIf (srListed sr) (if sr = 4 then 2 else 1)
    else if wfld w 0 8 = 1 then legalIf (srListed sr && srWritable sr) 1 else none
  | 0x18 => qopInfo (wfld w 23 2) (wfld w 18 5) (wfld w 13 5) (wfld w 8 5) (wfld w 0 8)
  | 0x1C => fopInfo rs2 fn
  | 0x41 => legalIf (wfld w 12 3 < 4) 2
  | _ => deviceInfo m op rd rs1 rs2 fn

end Sys2Proof.Machine
end

