-- ==== Sys2Proof/Machine/Access.lean ====
section
/-! DEFINITION. Accesses of a context to its suite's window: the Threshold's check (R60), errors (R64, R372, R374), loads,
stores and the journal's note of written lines. -/

namespace Sys2Proof.Machine
open Sys2Proof

/-- The kinds of access of R60. -/
inductive Access where
  | fetch | load | store
deriving DecidableEq, Repr

/-- R60: whether a segment allows an access. -/
def segmentAllows : Access → Segment → Bool
  | .fetch, .code => true
  | .fetch, _ => false
  | .load, _ => true
  | .store, .retain | .store, .data => true
  | .store, _ => false

/-- R60: the Threshold allows an access of `n` bytes at a window address: it lies inside the window, in segments that allow
its kind. -/
def windowAllows (u : Suite) (kind : Access) (a n : Nat) : Bool :=
  a + n ≤ u.winSize &&
    (match segmentOf u a with | some g => segmentAllows kind g | none => false) &&
    (match segmentOf u (a + n - 1) with | some g => segmentAllows kind g | none => false)

/-! ### Errors -/

/-- R374: the regions of the data SRAM. -/
inductive Region where
  | suite (n : Nat) (g : Segment)
  | journal | mirrorBuffers | firmware | unused
deriving DecidableEq, Repr

/-- R161, R374: the region that holds a data SRAM address. Log 23 (DESIGN CHOICE). -/
def regionOf (s : State) (a : Nat) : Region :=
  if Config.windowTop ≤ a then
    (if Config.topRegion a = 1 then .journal else if Config.topRegion a = 2 then .mirrorBuffers else .firmware)
  else match (enabledSuites s).find? (fun n => let u := suiteAt s n; u.winBase ≤ a && a < u.winBase + u.winSize) with
    | some n => match segmentOf (suiteAt s n) (a - (suiteAt s n).winBase) with
      | some g => .suite n g
      | none => .unused
    | none => .unused

/-- R234, R374: the standby falls out of step. -/
def fallOutOfStep (s : State) : State := { s with twin := { s.twin with inStep := false, mirrorBad := true } }

/-- R374: the effect of an uncorrectable error at a data SRAM address, found by an access (`kind` 2) or the scrubber (1).
Where the suite enters FAULT, the event of R168 is the record. Log 23 (DESIGN CHOICE). -/
def meetError (s : State) (a kind : Nat) : State :=
  let s := { s with attic := { s.attic with uncorrectable := bump 16 s.attic.uncorrectable, lastUeAddr := a, lastUeKind := kind } }
  let st := stFault .error
  let ev := fun (s : State) (suites : List Nat) (sev : Nat) => raiseEvent s suites sev (engineUnit 3) st []
  match regionOf s a with
  | .suite n .data => ev s [n] 4
  | .suite n _ => if (suiteAt s n).state = stFaulty || resetting s n then ev s [n, 0] 5 else faultSuite s n st
  | .journal => breakJournal (ev s [0] 5)
  | .mirrorBuffers => fallOutOfStep (ev s [0] 5)
  | .firmware => ev s [0] 6
  | .unused => s

/-- R372: the single-bit errors that an access meets are corrected, written back and counted. -/
def correctErrors (s : State) (a n : Nat) : State :=
  let bad := errorsIn s.sram a n 1
  if bad.isEmpty then s else
  { s with
    sram := { s.sram with errors := bad.foldl (fun e x => tset 0 e x 0) s.sram.errors }
    attic := { s.attic with sbe := (s.attic.sbe + bad.length) % 2 ^ 32 } }

/-- R64: the first byte of an access that holds an uncorrectable error. -/
def uncorrectableIn (s : State) (a n : Nat) : Option Nat := (errorsIn s.sram a n 2).head?

/-! ### Loads and stores -/

/-- The value of `n` bytes of a window. -/
def loadNat (s : State) (u : Suite) (a n : Nat) : Nat := natOf (readBytes s.sram (u.winBase + a) n)

/-- R154: notes the RETAIN lines that a store of `n` bytes touches for the context's journal record. -/
def noteLines (s : State) (c : Nat) (u : Suite) (a n : Nat) : State :=
  if segmentOf u a = some .retain then
    let lines := (rangeFrom (a / 64) ((a + n - 1) / 64 + 1 - a / 64)).foldl (fun l x => sinsert x l) (tget [] s.journal.dirty c)
    { s with journal := { s.journal with dirty := tset [] s.journal.dirty c lines } }
  else s

/-- Stores bytes into a suite's window on behalf of a context. -/
def storeBytes (s : State) (c : Nat) (u : Suite) (a : Nat) (bs : List Byte) : State :=
  noteLines { s with sram := writeBytes s.sram (u.winBase + a) bs } c u a bs.length

/-- The words of a block read from a window. -/
def loadWords (s : State) (u : Suite) (a n : Nat) : List (BitVec 64) :=
  (List.range n).map (fun i => BitVec.ofNat 64 (loadNat s u (a + 8 * i) 8))

end Sys2Proof.Machine
end

