-- ==== Sys2Proof/Machine/Insn.lean ====
section
/-! DEFINITION. The frame of every Nalpex instruction: which context issues, the fetch and step checks, retiring, body
completion, faults (R60, R64, R77 to R90, R127, R133). -/

namespace Sys2Proof.Machine
open Sys2Proof

/-! ### The context that issues (R127, R132, R133) -/

/-- R132: a context of core `k` that may issue: its cycle is executing and 2 µs past its start. -/
def mayIssue (s : State) (k : Nat) (t : Task) : Bool :=
  t.desc.core == k && (match t.cycle with
    | some y => y.phase == .executing && reached (now s) (taddUs y.start 2)
    | none => false)

/-- R125: the deadline of a task's present cycle. -/
def cycleDeadline (t : Task) : Time80 :=
  match t.cycle with | some y => taddUs y.start t.desc.deadline | none => t0

/-- R133: of two ready contexts, the one with the earlier deadline; a tie keeps the first (lower suite, then task). -/
def earlier (best : Option (Nat × Task)) (e : Nat × Task) : Option (Nat × Task) :=
  match best with
  | none => some e
  | some b => if tdiff (cycleDeadline e.2) (cycleDeadline b.2) < 0 then some e else some b

/-- R412: whether a management core runs: it passed its test, and the start sequence has reached step 7 (R408). Log 111 (DEDUCED). -/
def mgmtRuns (s : State) (k : Nat) : Bool := s.boot.phase == .running && !(if k = 32 then s.boot.m0Fail else s.boot.m1Fail)

/-- R127, R133: the context whose instruction issues next on core `k`. Cores 32 and 33 are M0 and M1. Log 111 (DEDUCED). -/
def readyOn (s : State) (k : Nat) : Option Nat :=
  if k = 32 || k = 33 then
    if !mgmtRuns s k then none
    else some (if s.foundation.running && ctxCore s 0 == k then 0 else firmwareKey k)
  else (((loadedTasks s).filter (fun e => mayIssue s k e.2)).foldl earlier none).map (·.1)

/-- Management cores: no step ceiling, any displacement (R77, R87). Log 111 (DEDUCED). -/
def isMgmt (k : Nat) : Bool := 32 ≤ k

/-! ### Results of an instruction -/

/-- What an instruction did: a fault of a class, with its reason when it is a DEVICE fault and its ADDR; or its effect. -/
inductive Did where
  /-- a fault: nothing else happens -/
  | fault (cls : FClass) (r : Reason) (addr : BitVec 64)
  /-- a DEVICE fault that a failed check of the Threshold gives: it is counted against the suite as well (R166) -/
  | denied (r : Reason)
  /-- a fault met by an access to a byte with an uncorrectable error: the error acts by region as well (R374) -/
  | memory (addr : BitVec 64) (sramAddr : Nat)
  /-- completes; the next instruction follows, after a body completion where one is due -/
  | next (s : State) (x : Ctx)
  /-- sets the pc without a body completion -/
  | goto (s : State) (x : Ctx) (pc : BitVec 32)
  /-- ends the cycle -/
  | ends (s : State) (x : Ctx)
  /-- waits for a resource (R96): the instruction has not completed and no step is counted -/
  | waits (s : State)

/-- The issuing instruction: its core, context, suite, word and step cost. -/
structure Env where
  k : Nat
  c : Nat
  u : Suite
  word : BitVec 32
  cost : Nat

/-- The loop depth recorded with the top entry of the call stack (R83). -/
def loopBase (x : Ctx) : Nat := match x.calls with | e :: _ => e.depth | [] => 0

/-- R83: the current loop: the innermost loop that the executing function has opened. -/
def currentLoop (x : Ctx) : Option LoopEntry := if loopBase x < x.loops.length then x.loops.head? else none

/-- R83: the instruction at the pc is the last of the current loop's body. -/
def atBodyEnd (x : Ctx) : Bool := match currentLoop x with | some l => l.last == x.pc | none => false

/-- R83: control after an instruction that does not transfer it: the loop repeats or is popped at its body's end. -/
def advance (x : Ctx) : Ctx :=
  match currentLoop x with
  | some l =>
    if l.last = x.pc then
      if 1 < l.left then { x with pc := l.start, loops := { l with left := l.left - 1 } :: x.loops.tail, steps := x.steps + 1 }
      else { x with pc := l.last + 4, loops := x.loops.tail, steps := x.steps + 1 }
    else { x with pc := x.pc + 4 }
  | none => { x with pc := x.pc + 4 }

/-! ### Running one instruction -/

/-- R60, R64, R89: the fetch at the pc: the fault it meets, if any. Log 7 (DESIGN CHOICE). -/
def fetchFault (s : State) (u : Suite) (pc : BitVec 32) : Option Did :=
  if !windowAllows u .fetch pc.toNat 4 then some (.fault .bounds .none (BitVec.ofNat 64 pc.toNat))
  else match uncorrectableIn s (u.winBase + pc.toNat) 4 with
    | some a => some (.memory (BitVec.ofNat 64 pc.toNat) a)
    | none => none

/-- The instruction word at a context's pc. Log 7 (DESIGN CHOICE), 85 (DEDUCED). -/
def wordAtPc (s : State) (c : Nat) : BitVec 32 :=
  BitVec.ofNat 32 (natOf (readBytes s.sram ((suiteAt s (ctxSuite c)).winBase + (taskAt s c).ctx.pc.toNat) 4))

/-- R66, R89: the word that is fetched is no instruction: a reserved opcode, an unlisted function or a field out of its range. Log 7 (DESIGN CHOICE). -/
def fetchIllegal (s : State) (k c : Nat) : Bool := (readWord (isMgmt k) (wordAtPc s c)).isNone

/-- R87: the steps that an instruction would take `sr.steps` to. Log 109 (DESIGN CHOICE). -/
def charge (cost : Nat) (x : Ctx) : Nat := cost + (if atBodyEnd x then 1 else 0)

/-- R87: the step ceiling: only scan cores have one. -/
def overBudget (s : State) (k c cost : Nat) : Bool :=
  !isMgmt k && (taskAt s c).desc.worst < (taskAt s c).ctx.steps + charge cost (taskAt s c).ctx

/-- Writes the context back. -/
def putCtx (s : State) (c : Nat) (x : Ctx) : State := setCtx s c (fun _ => x)

/-- R88, R90: ends an instruction by what it did. -/
def settle (e : Env) (s : State) (ends : State → Nat → State) : Did → State
  | .fault cls r addr => takeFault s e.c e.k cls r addr e.word
  | .denied r => takeFault (countThreshold s (ctxSuite e.c)) e.c e.k .device r 0 e.word
  | .memory addr a => meetError (takeFault s e.c e.k .memory .none addr e.word) a 2
  | .next s' x => putCtx s' e.c (advance { x with steps := x.steps + e.cost })
  | .goto s' x pc => putCtx s' e.c { x with pc, steps := x.steps + e.cost }
  | .ends s' x => ends (putCtx s' e.c { x with steps := x.steps + e.cost }) e.c
  | .waits s' => s'

/-- R80, R136: an END retires: the cycle's token waits for the collector; the stacks are discarded, an open packet is dropped
with an event of severity 2 (R109), and the written RETAIN lines are taken as they stand (R154). The foundation program
ends (R127). -/
def endOf (s : State) (c : Nat) : State :=
  if isFoundation c then endFoundation s (!s.seq.passDone)
  else
    let open' := (taskAt s c).ctx.packet.isSome
    let s := dropPacket s c
    let s := if open' then raiseEvent s [ctxSuite c] 2 (roomUnit (ctxCore s c / 4)) stDone [] else s
    let l := takeLines s c
    setTask l.1 c (fun t => { t with
      ctx := { t.ctx with calls := [], loops := [] }
      consecFaults := 0
      maxSteps := max t.maxSteps t.ctx.steps
      cycle := t.cycle.map (fun y => { y with phase := .ended, lines := l.2, order := s.tick }) })

/-- The context that issues on core `k`, its registers, and what its instruction is run in. -/
def issueEnv (s : State) (k c : Nat) (word : BitVec 32) (cost : Nat) : Env :=
  { k, c, u := suiteAt s (ctxSuite c), word, cost }

/-- One instruction of core `k`, given as its word: the fetch is checked, a word that is ILLEGAL by its encoding faults, be it the one that
stands at the pc or the one given, the
step ceiling is checked, and `act` says what the instruction does. With no context ready, nothing issues. Log 6 (DESIGN CHOICE), 7 (DESIGN CHOICE). -/
def runInsn (k : Nat) (word : BitVec 32) (act : Env → State → Ctx → Did) (s : State) : State :=
  match readyOn s k with
  | none => s
  | some c =>
    let x := (taskAt s c).ctx
    let e := issueEnv s k c word 0
    match fetchFault s e.u x.pc with
    | some d => settle { e with word := 0 } s endOf d
    | none =>
      let s := correctErrors s (e.u.winBase + x.pc.toNat) 4
      if fetchIllegal s k c then settle { e with word := wordAtPc s c } s endOf (.fault .illegal .none 0) else
      match readWord (isMgmt k) word with
      | none => settle e s endOf (.fault .illegal .none 0)
      | some info =>
        if overBudget s k c info.cost then settle e s endOf (.fault .steps .none 0)
        else
          let e := { e with cost := info.cost }
          settle e s endOf (act e s x)

/-- An instruction that only writes a register. -/
def writes (rd : BitVec 5) (f : Ctx → BitVec 64) (_e : Env) (s : State) (x : Ctx) : Did := .next s (rset x rd (f x))

end Sys2Proof.Machine
end

