-- ==== Sys2Proof/Machine/Flags.lean ====
section
/-! DEFINITION. The arithmetic flags and their traps (R73). -/

namespace Sys2Proof.Machine
open Sys2Proof

/-- A set of arithmetic conditions, in the layout of `sr.flags`. -/
abbrev Conds := BitVec 9

def condIDZ : Conds := 0x001
def condIS : Conds := 0x002
def condQS : Conds := 0x004
def condAS : Conds := 0x008
def condFI : Conds := 0x010
def condFZ : Conds := 0x020
def condFO : Conds := 0x040
def condFU : Conds := 0x080
def condFX : Conds := 0x100

/-- A condition when it holds. -/
def condIf (b : Bool) (c : Conds) : Conds := if b then c else 0

/-- R73: an instruction that raises conditions: a trapped one makes it fault with all of them in ADDR and no effect; else it
completes and sets the flag of each. -/
def withConds (conds : Conds) (s : State) (x : Ctx) (x' : Ctx) : Did :=
  if conds &&& x.trap ≠ 0 then .fault .arith .none (conds.setWidth 64)
  else .next s { x' with flags := x.flags ||| conds }

end Sys2Proof.Machine
end

