-- ==== Sys2Proof/Machine/Operands.lean ====
section
/-! DEFINITION. The operand forms of the integer, Q15 and memory instructions: 64-bit and W forms (R67), constants (R69), Q15
operands and saturation (R71), sizes and effective addresses (R60, R62, R75). -/

namespace Sys2Proof.Machine
open Sys2Proof

/-! ### Integer forms (R67) -/

/-- R67: fn[9] selects a 32-bit operation. -/
def isW (f : FmtA) : Bool := f.hi.getLsbD 1

/-- R67: the result of a 32-bit operation, sign-extended. -/
def wide (v : BitVec 32) : BitVec 64 := v.signExtend 64

/-- The low 32 bits of an operand. -/
def lo32 (v : BitVec 64) : BitVec 32 := v.setWidth 32

/-- R67: a two-operand operation in its 64-bit or its W form. -/
def intForm (f : FmtA) (op : BitVec 64 → BitVec 64 → BitVec 64) (opW : BitVec 32 → BitVec 32 → BitVec 32) (x : Ctx) : BitVec 64 :=
  if isW f then wide (opW (lo32 (rget x f.rs1)) (lo32 (rget x f.rs2))) else op (rget x f.rs1) (rget x f.rs2)

/-- R67: a shift: the amount is the low 6 bits of rs2, or the low 5 in the W form. -/
def shiftForm (f : FmtA) (op : BitVec 64 → Nat → BitVec 64) (opW : BitVec 32 → Nat → BitVec 32) (x : Ctx) : BitVec 64 :=
  let n := (rget x f.rs2).toNat
  if isW f then wide (opW (lo32 (rget x f.rs1)) (n % 32)) else op (rget x f.rs1) (n % 64)

/-- A Bool as 0 or 1 in a register. -/
def boolWord (b : Bool) : BitVec 64 := if b then 1 else 0

/-- R67: a comparison in its 64-bit or its W form. -/
def compareForm (f : FmtA) (op : BitVec 64 → BitVec 64 → Bool) (opW : BitVec 32 → BitVec 32 → Bool) (x : Ctx) : BitVec 64 :=
  boolWord (if isW f then opW (lo32 (rget x f.rs1)) (lo32 (rget x f.rs2)) else op (rget x f.rs1) (rget x f.rs2))

/-- The width of an integer operation. -/
def intWidth (f : FmtA) : Nat := if isW f then 32 else 64

/-- The operands of an integer operation as signed numbers of its width. -/
def signedArgs (f : FmtA) (x : Ctx) : Int × Int :=
  (signed (intWidth f) (rget x f.rs1).toNat, signed (intWidth f) (rget x f.rs2).toNat)

/-- The operands of an integer operation as unsigned numbers of its width. -/
def unsignedArgs (f : FmtA) (x : Ctx) : Nat × Nat :=
  ((rget x f.rs1).toNat % 2 ^ intWidth f, (rget x f.rs2).toNat % 2 ^ intWidth f)

/-- R67: a signed result of the operation's width, written sign-extended. -/
def signedResult (f : FmtA) (v : Int) : BitVec 64 := ofInt64 (signed (intWidth f) (v % (2 ^ intWidth f : Nat)).toNat)

/-- The largest and the most negative value of an operation's width (R68). -/
def maxSigned (f : FmtA) : Int := (2 ^ (intWidth f - 1) : Nat) - 1
def minSigned (f : FmtA) : Int := -(2 ^ (intWidth f - 1) : Nat)

/-- Leading zeros of an `n`-bit number. -/
def leadingZeros (n v : Nat) : Nat := if v % 2 ^ n = 0 then n else n - 1 - (v % 2 ^ n).log2

/-- One bits among the low `n` bits of a number. -/
def onesIn : Nat → Nat → Nat
  | 0, _ => 0
  | n + 1, v => v % 2 + onesIn n (v / 2)

/-! ### Constants (R69) -/

/-- k sign-extended. -/
def immS (f : FmtI) : BitVec 64 := f.imm.signExtend 64

/-- k zero-extended. -/
def immZ (f : FmtI) : BitVec 64 := f.imm.setWidth 64

/-- imm12[11:10] and imm12[5:0]. -/
def immSel (f : FmtI) : Nat := f.imm.toNat / 1024
def immAmount (f : FmtI) : Nat := f.imm.toNat % 64

/-! ### Q15 and the accumulators (R71) -/

/-- A Q15 operand: the low 16 bits, signed. -/
def q15 (v : BitVec 64) : Int := signed 16 v.toNat

/-- R71: saturation to 16 bits, with QS. -/
def sat16 (v : Int) : Int × Conds := (clampS 16 v, condIf (clampS 16 v != v) condQS)

/-- R71: saturation to 40 bits, with AS. -/
def sat40 (v : Int) : Int × Conds := (clampS 40 v, condIf (clampS 40 v != v) condAS)

/-- R71: rounding to Q15: half added, then an arithmetic shift right by 15. -/
def roundQ15 (v : Int) : Int := (v + 0x4000) / 0x8000

/-! ### Memory operands (R60, R62, R75) -/

/-- R75: the effective address of format M, in 64 bits. -/
def memAddr (f : FmtM) (x : Ctx) : BitVec 64 := rget x f.base + f.imm.signExtend 64

/-- R75: the width of an access in bytes. -/
def sizeBytes (size : BitVec 3) : Nat := 2 ^ (size.toNat % 4)

/-- The checks of a data access in the precedence of R89: ALIGN, BOUNDS, MEMORY. -/
def dataFault (e : Env) (kind : Access) (a : BitVec 64) (n : Nat) : Option Did :=
  if a.toNat % n ≠ 0 then some (.fault .align .none a)
  else if !windowAllows e.u kind a.toNat n then some (.fault .bounds .none a)
  else none

/-- R64: the MEMORY fault of a load or atomic that meets an uncorrectable error. -/
def memoryFault (e : Env) (s : State) (a : BitVec 64) (n : Nat) : Option Did :=
  (uncorrectableIn s (e.u.winBase + a.toNat) n).map (fun b => .memory a b)

/-- R98, R115, R116: a block copied at issue, checked as a load: ALIGN, BOUNDS, MEMORY. -/
def blockFault (e : Env) (s : State) (a : BitVec 64) (bytes : Nat) : Option Did :=
  if a.toNat % 8 ≠ 0 then some (.fault .align .none a)
  else if !windowAllows e.u .load a.toNat bytes then some (.fault .bounds .none a)
  else memoryFault e s a bytes

end Sys2Proof.Machine
end

