-- ==== Sys2Proof/Machine/Device.lean ====
section
/-! DEFINITION. Device instructions (spec/04_nalpex_device_ops.md): points, queues, time, and the posted requests `CFG`, `EMIT`,
`KEY`, `HSUB` and `BRK`. -/

namespace Sys2Proof.Machine
open Sys2Proof

/-! ### Result words (R94) -/

/-- R94: the device result word. -/
def deviceWord (st : Status) (count info : Nat) : BitVec 64 := pack [(0, 8, Status.byte st), (16, 16, count), (32, 32, info)]

/-- The instruction completes with a result word in w[rd]. -/
def answer (rd : BitVec 5) (st : Status) (count info : Nat) (s : State) (x : Ctx) : Did := .next s (rset x rd (deviceWord st count info))

/-- R93: a DEVICE fault. -/
def deviceFault (r : Reason) : Did := .fault .device r 0

/-- R96: fn[8] makes the instruction wait for its resource; only M0 and M1 may set it. -/
def waitsFor (f : FmtA) : Bool := f.hi.getLsbD 0

/-! ### Points (R105 to R107) -/

/-- R105: the element that an instruction names. -/
def pointElement (f : FmtI) (x : Ctx) : Nat := (rget x f.rs1 + immS f).toNat

/-- R105: the checks of a point instruction: the element is in range, listed, readable, and of type TIME80 for the halves. -/
def pointFault (s : State) (e : Env) (list : List Nat) (el : Nat) (half read : Bool) : Option Did :=
  if 0x3FFF < el then some (deviceFault .range)
  else if !list.contains el || (read && !mayRead s (ctxSuite e.c) el) || (!read && (pointCfg s el).owner != ctxSuite e.c) then
    some (.denied .binding)
  else if half && (pointCfg s el).type != tyTime80 then some (deviceFault .range)
  else none

/-- R105, R106: a read of the snapshot. -/
def readPoint (f : FmtI) (half : Bool) (e : Env) (s : State) (x : Ctx) : Did :=
  let t := taskAt s e.c
  let el := pointElement f x
  match pointFault s e t.desc.inList el half true with
  | some d => d
  | none =>
    let v := tget { v := 0 } t.snapshot el
    .next s (rset x f.rd (if half then v.hi.setWidth 64 else canonValue (pointCfg s el).type v.v))

/-- R105: w[rd] := the snapshot value of the point. -/
def execPrd (k : Nat) (f : FmtI) (s : State) : Host.Outcome State Fault Refusal := .next (runInsn k (encI 0x41 0 f) (readPoint f false) s)

/-- R105: w[rd] := seconds [47:32] of a TIME80 point. -/
def execPrdh (k : Nat) (f : FmtI) (s : State) : Host.Outcome State Fault Refusal := .next (runInsn k (encI 0x41 1 f) (readPoint f true) s)

/-- Changes what a context's cycle has staged. -/
def stage (s : State) (c : Nat) (g : Staged → Staged) : State :=
  setTask s c (fun t => { t with cycle := t.cycle.map (fun y => { y with staged := g y.staged }) })

/-- R107: stages a value. -/
def writePoint (f : FmtI) (half : Bool) (e : Env) (s : State) (x : Ctx) : Did :=
  let el := pointElement f x
  let v := rget x f.rd
  match pointFault s e (taskAt s e.c).desc.outList el half false with
  | some d => d
  | none => .next (stage s e.c (fun g =>
      if half then { g with highs := tput g.highs el (v.setWidth 16) }
      else { g with points := tput g.points el { v := canonValue (pointCfg s el).type v } })) x

/-- R107: stages w[rd] as the point's new value. -/
def execPwr (k : Nat) (f : FmtI) (s : State) : Host.Outcome State Fault Refusal := .next (runInsn k (encI 0x41 2 f) (writePoint f false) s)

/-- R105: stages w[rd][15:0] as seconds [47:32] of a TIME80 point. -/
def execPwrh (k : Nat) (f : FmtI) (s : State) : Host.Outcome State Fault Refusal := .next (runInsn k (encI 0x41 3 f) (writePoint f true) s)

/-! ### Queues (R108 to R111, R443) -/

/-- R166: whether a suite may put into a queue: its own, one that grants it, or queue 0x0010; into no other service queue (R204). -/
def mayPut (s : State) (suite q : Nat) : Bool :=
  q == 0x10 || (0x80 ≤ q && (queueOwner s q == some suite || (queueAt s q).putMap.getLsbD suite))

/-- R166, R192: whether a suite may take from a queue: its own, or one that grants it; of the service queues suite 0 takes from
those of unclassified ingress (R204). -/
def mayTake (s : State) (suite q : Nat) : Bool :=
  if q < 0x80 then suite == 0 && ((0x40 ≤ q && q ≤ 0x46) || (0x50 ≤ q && q ≤ 0x5F))
  else queueOwner s q == some suite || ((queueAt s q).takeGrant && (queueAt s q).takeSuite == suite)

/-- R166, R204: whether a context may take from a queue: as its suite may, and the foundation program from its reply queue. -/
def ctxMayTake (s : State) (c q : Nat) : Bool := mayTake s (ctxSuite c) q || (isFoundation c && q == 0x13)

/-- R108: the queue of a put binding, 0 for none. -/
def putQueue (s : State) (c n : Nat) : Nat := if n < 16 then (taskAt s c).desc.putQ.getD n 0 else 0

/-- R108: the queue of a take binding, 0 for none. -/
def takeQueue (s : State) (c n : Nat) : Nat := if n < 8 then (taskAt s c).desc.takeQ.getD n 0 else 0

/-- A producer is told DELAYED(CREDIT): it waits for the first credit that returns to it (R96, R190). -/
def markWaiting (s : State) (q : Nat) (who : Producer) : State :=
  setQueue s q (fun x => { x with attached := mapWhere (fun a => a.who == who) (fun a => { a with waiting := true }) x.attached })

/-- R108: QOPEN. Log 12 (DEDUCED). -/
def openPacket (f : FmtA) (e : Env) (s : State) (x : Ctx) : Did :=
  let n := (rget x f.rs1).toNat
  let prio := (rget x f.rs2).toNat
  let qn := putQueue s e.c n
  let who := Producer.task e.c n
  if qn = 0 then deviceFault .binding
  else if 8 ≤ prio then deviceFault .range
  else if !mayPut s (ctxSuite e.c) qn then .denied .threshold
  else if (queueAt s qn).qfault then deviceFault .error
  else if x.packet.isSome then answer f.rd (stRefused .state) 0 0 s x
  else if creditsInHand (queueAt s qn) who = 0 then
    let s := markWaiting s qn who
    if waitsFor f then .waits s else answer f.rd (stDelayed .credit) 0 0 s x
  else
    let credit := creditOf (queueAt s qn) who
    let s := setQueue s qn (fun q => spendCredit q who)
    answer f.rd stDone (creditsInHand (queueAt s qn) who) 0 s { x with packet := some { binding := n, queue := qn, prio, credit } }

/-- R108: opens the context's packet. Log 12 (DEDUCED). -/
def execQopen (k : Nat) (f : FmtA) (s : State) : Host.Outcome State Fault Refusal := .next (runInsn k (encA 0x42 0x00 f) (openPacket f) s)

/-- R109: appends bytes to the open packet. -/
def appendBytes (rd : BitVec 5) (bs : List Byte) (s : State) (x : Ctx) : Did :=
  match x.packet with
  | none => answer rd (stRefused .state) 0 0 s x
  | some p =>
    if (queueAt s p.queue).itemMax < p.data.length + bs.length then answer rd (stRefused .size) 0 0 s x
    else answer rd stDone 0 0 s { x with packet := some { p with data := p.data ++ bs } }

/-- R108: appends the 8 bytes of w[rs1]. -/
def execQpw (k : Nat) (f : FmtA) (s : State) : Host.Outcome State Fault Refusal :=
  .next (runInsn k (encA 0x42 0x01 f) (fun _ s x => appendBytes f.rd (bytesOf 8 (rget x f.rs1).toNat) s x) s)

/-- R108: QPB: the bytes are read from the window, checked as a load. Log 12 (DEDUCED). -/
def appendBlock (f : FmtA) (e : Env) (s : State) (x : Ctx) : Did :=
  let a := rget x f.rs1
  let n := (rget x f.rs2).toNat
  if n = 0 || 64 < n then deviceFault .range
  else if !windowAllows e.u .load a.toNat n then .fault .bounds .none a
  else match memoryFault e s a n with
    | some d => d
    | none => appendBytes f.rd (readBytes s.sram (e.u.winBase + a.toNat) n) (correctErrors s (e.u.winBase + a.toNat) n) x

/-- R108: appends w[rs2] bytes, 1 to 64, from the window at w[rs1]. -/
def execQpb (k : Nat) (f : FmtA) (s : State) : Host.Outcome State Fault Refusal := .next (runInsn k (encA 0x42 0x02 f) (appendBlock f) s)

/-- An operation on the open packet; without one, REFUSED(STATE). -/
def onPacket (rd : BitVec 5) (g : OpenPacket → OpenPacket) (s : State) (x : Ctx) : Did :=
  match x.packet with
  | none => answer rd (stRefused .state) 0 0 s x
  | some p => answer rd stDone 0 0 s { x with packet := some (g p) }

/-- R108: mark := the present length. -/
def execQmark (k : Nat) (f : FmtA) (s : State) : Host.Outcome State Fault Refusal :=
  .next (runInsn k (encA 0x42 0x03 f) (fun _ s x => onPacket f.rd (fun p => { p with mark := some p.data.length }) s x) s)

/-- R108: length := mark, or 0 if no mark is set. -/
def execQrwnd (k : Nat) (f : FmtA) (s : State) : Host.Outcome State Fault Refusal :=
  .next (runInsn k (encA 0x42 0x04 f) (fun _ s x => onPacket f.rd (fun p => { p with data := p.data.take (p.mark.getD 0) }) s x) s)

/-- R184, R185: a packet of a task as an item: HOST_ID 0xFFFF (R167); a task cannot set PTAG (R200). -/
def packetItem (c : Nat) (p : Released) : Item :=
  { prio := p.prio, ptag := false, srcSuite := ctxSuite c, hostId := 0xFFFF, seq := 0, entered := t0
    producer := .task c p.binding, credit := p.credit, data := p.data }

/-- R108: QREL: the packet is staged; the foundation program's enters at once (R127). -/
def releasePacket (f : FmtA) (e : Env) (s : State) (x : Ctx) : Did :=
  match x.packet with
  | none => answer f.rd (stRefused .state) 0 0 s x
  | some p =>
    if (queueAt s p.queue).qfault then deviceFault .error
    else if p.data.isEmpty then answer f.rd (stRefused .size) 0 0 s x
    else
      let r : Released := { binding := p.binding, queue := p.queue, prio := p.prio, credit := p.credit, data := p.data }
      let s := if isFoundation e.c then enterItem s r.queue (packetItem e.c r)
        else stage s e.c (fun g => { g with packets := g.packets ++ [r] })
      answer f.rd stDone 0 0 s { x with packet := none }

/-- R108: posts the packet to the Larder. -/
def execQrel (k : Nat) (f : FmtA) (s : State) : Host.Outcome State Fault Refusal := .next (runInsn k (encA 0x42 0x05 f) (releasePacket f) s)

/-- R108: QDROP: the packet is discarded and its credit returned. -/
def discardPacket (f : FmtA) (e : Env) (s : State) (x : Ctx) : Did :=
  match x.packet with
  | none => answer f.rd (stRefused .state) 0 0 s x
  | some p =>
    answer f.rd stDone 0 0 (setQueue s p.queue (fun q => returnCredit q p.credit (reservationEnd s (.task e.c p.binding)))) { x with packet := none }

/-- R108: discards the open packet. -/
def execQdrop (k : Nat) (f : FmtA) (s : State) : Host.Outcome State Fault Refusal := .next (runInsn k (encA 0x42 0x06 f) (discardPacket f) s)

/-- The take cache of a binding. -/
def takeAt (t : Task) (b : Nat) : TakeState := if h : b < 8 then t.takes[b] else {}

def setTake (s : State) (c b : Nat) (g : TakeState → TakeState) : State :=
  setTask s c (fun t => if h : b < 8 then { t with takes := t.takes.set b (g t.takes[b]) } else t)

/-- R110: the items that one delivery hands over: at most `count`, within `room` bytes. Log 14 (DEDUCED). -/
def fitItems (q : Queue) : List Item → Nat → Nat → List Item
  | [], _, _ => []
  | it :: rest, count, room =>
    if count = 0 || room < (deliveredBytes q it).length then []
    else it :: fitItems q rest (count - 1) (room - (deliveredBytes q it).length)

/-- R110, R193, R199, R200: the Larder fills the take cache of a binding: items whose header is lost are discarded; the
items owned and not acknowledged come first, then undelivered ones, each in reading order. Log 14 (DEDUCED). -/
def deliver (s : State) (c b : Nat) : State :=
  let qn := takeQueue s c b
  if qn = 0 || (queueAt s qn).qfault then setTake s c b (fun _ => {}) else
  let s := dropLost s qn
  let q := queueAt s qn
  let me := Consumer.task c b
  let owned := readingOrder q.order (q.items.filter (fun it => it.deliveredTo == some me))
  let fresh := readingOrder q.order (q.items.filter (fun it => it.deliveredTo.isNone))
  let d := (taskAt s c).desc
  let got := fitItems q (owned.map (fun it => { it with again := true }) ++ fresh) (d.takeItems.getD b 0) (256 * d.takeCache.getD b 0)
  let given := fun (it : Item) => got.any (fun g => g.seq == it.seq)
  let s := setQueue (readItems s qn given) qn (fun q => { q with
    items := mapWhere given (fun it => { it with deliveredTo := some me, again := it.again || it.deliveredTo == some me }) q.items })
  setTake s c b (fun _ => { next := got.map (fun it => { it with data := deliveredBytes q it }) })

/-- R199: the status of a delivered item. -/
def takeStatus (it : Item) : Status :=
  if !it.parity.isEmpty then { cls := .poisoned, reason := .error }
  else if it.ptag || !it.poison.isEmpty then { cls := .poisoned, reason := .none }
  else stDone

/-- R111: INFO of a QTAKE. -/
def takeInfo (it : Item) (last : Bool) : Nat := it.prio % 8 + b2n it.again * 8 + b2n last * 16 + it.srcSuite % 64 * 65536

/-- R108: QTAKE; the foundation program's cache is delivered afresh when it is exhausted (R127). -/
def takeItem (f : FmtA) (e : Env) (s : State) (x : Ctx) : Did :=
  let b := (rget x f.rs1).toNat
  let qn := takeQueue s e.c b
  if qn = 0 then deviceFault .binding
  else if !ctxMayTake s e.c qn then .denied .threshold
  else if (queueAt s qn).qfault then deviceFault .error
  else
    let s := if isFoundation e.c && (takeAt (taskAt s e.c) b).next.isEmpty then deliver s e.c b else s
    match (takeAt (taskAt s e.c) b).next with
    | [] => answer f.rd stDone 0 0 (setTake s e.c b (fun _ => {})) x
    | it :: rest =>
      answer f.rd (takeStatus it) it.data.length (takeInfo it rest.isEmpty) (setTake s e.c b (fun _ => { next := rest, current := some it })) x

/-- R108: makes the next delivered item current. -/
def execQtake (k : Nat) (f : FmtA) (s : State) : Host.Outcome State Fault Refusal := .next (runInsn k (encA 0x42 0x08 f) (takeItem f) s)

/-- R108: QRD. Log 12 (DEDUCED). -/
def readItem (f : FmtA) (e : Env) (s : State) (x : Ctx) : Did :=
  let b := (rget x f.rs1).toNat
  let off := rget x f.rs2
  if off.toNat % 8 ≠ 0 then .fault .align .none off
  else if takeQueue s e.c b = 0 then deviceFault .binding
  else
    let v := match (takeAt (taskAt s e.c) b).current with
      | some it => if off.toNat < it.data.length then wordAt it.data (off.toNat / 8) else 0
      | none => 0
    .next s (rset x f.rd v)

/-- R108: w[rd] := 8 payload bytes of the current item. -/
def execQrd (k : Nat) (f : FmtA) (s : State) : Host.Outcome State Fault Refusal := .next (runInsn k (encA 0x42 0x09 f) (readItem f) s)

/-- R108: QACK: the acknowledgement is staged; the foundation program's acts at once (R127). -/
def ackCurrent (f : FmtA) (e : Env) (s : State) (x : Ctx) : Did :=
  let b := (rget x f.rs1).toNat
  let qn := takeQueue s e.c b
  let t := takeAt (taskAt s e.c) b
  if qn = 0 then deviceFault .binding
  else if !ctxMayTake s e.c qn then .denied .threshold
  else if (queueAt s qn).qfault then deviceFault .error
  else match t.current, t.acked with
    | some it, false =>
      let s := setTake s e.c b (fun t => { t with acked := true })
      let s := if isFoundation e.c then ackItem s qn it.seq else stage s e.c (fun g => { g with acks := g.acks ++ [(qn, it.seq)] })
      answer f.rd stDone 0 0 s x
    | _, _ => answer f.rd (stRefused .state) 0 0 s x

/-- R108: acknowledges the current item. -/
def execQack (k : Nat) (f : FmtA) (s : State) : Host.Outcome State Fault Refusal := .next (runInsn k (encA 0x42 0x0A f) (ackCurrent f) s)

/-! ### Time and timers (R112 to R114) -/

/-- R112: a time operand is valid. -/
def timeOk (v : BitVec 64) : Bool := fld v 0 32 < giga

/-- A time operand; its seconds are 32 bits. -/
def timeOf (v : BitVec 64) : Time80 := ofNowForm v 0

/-- R113: w[rd] := the signed difference in ns. -/
def execTdif (k : Nat) (f : FmtA) (s : State) : Host.Outcome State Fault Refusal :=
  .next (runInsn k (encA 0x43 0x00 f) (fun _ s x =>
    if !timeOk (rget x f.rs1) || !timeOk (rget x f.rs2) then deviceFault .range
    else .next s (rset x f.rd (ofInt64 (tdiff (timeOf (rget x f.rs1)) (timeOf (rget x f.rs2)))))) s)

/-- R113: w[rd] := a time advanced by signed ns. -/
def execTadd (k : Nat) (f : FmtA) (s : State) : Host.Outcome State Fault Refusal :=
  .next (runInsn k (encA 0x43 0x01 f) (fun _ s x =>
    if !timeOk (rget x f.rs1) then deviceFault .range
    else .next s (rset x f.rd (nowForm (taddNs (timeOf (rget x f.rs1)) (rget x f.rs2).toInt)))) s)

/-- Sets a timer, and clears the note that it has expired. -/
def setTimer (x : Ctx) (n : Nat) (v : Option Time80) : Ctx :=
  if h : n < 4 then { x with timers := x.timers.set n v, expired := x.expired &&& ~~~(BitVec.ofNat 4 (2 ^ n)) } else x

/-- The full time of an operand in the form of `sr.now`: the one nearest to the present (R289). -/
def nearTime (s : State) (v : BitVec 64) : Time80 := taddNs (now s) (tdiff (timeOf v) (now s))

/-- R114: arms a timer. -/
def execTset (k : Nat) (f : FmtA) (s : State) : Host.Outcome State Fault Refusal :=
  .next (runInsn k (encA 0x43 0x02 f) (fun _ s x =>
    let n := (rget x f.rs1).toNat
    if 4 ≤ n || !timeOk (rget x f.rs2) then deviceFault .range
    else answer f.rd stDone 0 0 s (setTimer x n (some (nearTime s (rget x f.rs2))))) s)

/-- R114: TTST: a timer found expired stays so until TSET or TCLR. -/
def testTimer (f : FmtA) (s : State) (x : Ctx) : Did :=
  let n := (rget x f.rs1).toNat
  if h : n < 4 then
    match x.timers[n] with
    | none => .next s (rset x f.rd 0)
    | some t =>
      if x.expired.getLsbD n || reached (now s) t then
        .next s (rset { x with expired := x.expired ||| BitVec.ofNat 4 (2 ^ n) } f.rd 2)
      else .next s (rset x f.rd 1)
  else deviceFault .range

/-- R112: w[rd] := 0 disarmed, 1 armed, 2 expired. -/
def execTtst (k : Nat) (f : FmtA) (s : State) : Host.Outcome State Fault Refusal :=
  .next (runInsn k (encA 0x43 0x03 f) (fun _ s x => testTimer f s x) s)

/-- R114: disarms a timer. -/
def execTclr (k : Nat) (f : FmtA) (s : State) : Host.Outcome State Fault Refusal :=
  .next (runInsn k (encA 0x43 0x04 f) (fun _ s x =>
    let n := (rget x f.rs1).toNat
    if 4 ≤ n then deviceFault .range else .next s (setTimer x n none)) s)

/-! ### Events (R115) -/

/-- R115, R359: EMIT: the event waits in the room's request port and holds a credit of the context until the Attic takes it. -/
def emitEvent (f : FmtA) (e : Env) (s : State) (x : Ctx) : Did :=
  let a := rget x f.rs1
  let v := rget x f.rs2
  match blockFault e s a 32 with
  | some d => d
  | none =>
    if fld v 3 13 ≠ 0 || fld v 32 32 ≠ 0 then deviceFault .range
    else if x.eventCredits = 0 then (if waitsFor f then .waits s else answer f.rd (stDelayed .credit) 0 0 s x)
    else
      let suite := ctxSuite e.c
      let clamped := suite != 0 && decide (5 < fld v 0 3)
      let ev : Event := { suite, sev := if clamped then 5 else fld v 0 3, code := fld v 16 16, time := now s, clamped
                          fromTask := some (ctxTask e.c), ctx := some e.c, source := unitAddr s .module
                          payload := loadWords s e.u a.toNat 4 }
      let s := correctErrors s (e.u.winBase + a.toNat) 32
      let s := { s with attic := { s.attic with taskEvents := s.attic.taskEvents ++ [ev] } }
      answer f.rd stDone 0 (b2n clamped) s { x with eventCredits := x.eventCredits - 1 }

/-- R115: records an Attic event. -/
def execEmit (k : Nat) (f : FmtA) (s : State) : Host.Outcome State Fault Refusal := .next (runInsn k (encA 0x44 0 f) (emitEvent f) s)

/-! ### Posted requests (R95, R98, R116) -/

/-- R95: the next ticket of a context: 1 to 0xFFFF, then 1 again. -/
def nextTicket (x : Ctx) : Nat := if x.ticket = 0xFFFF then 1 else x.ticket + 1

/-- R95: posts a request that returns a completion item: a ninth outstanding one finds no place. Log 13 (DEDUCED), 28 (DESIGN CHOICE). -/
def postRequest (f : FmtA) (post : State → Nat → State) (s : State) (x : Ctx) : Did :=
  if 8 ≤ x.outstanding then (if waitsFor f then .waits s else answer f.rd (stDelayed .credit) 0 0 s x)
  else
    let n := nextTicket x
    answer f.rd (stDelayed .pending) n 0 (post s n) { x with ticket := n, outstanding := x.outstanding + 1 }

/-- R100: the codes that a tenant may issue. -/
def tenantCode (code : Nat) : Bool := code == 0x04 || code == 0x05 || code == 0x06 || code == 0x0F || code == 0x16

/-- R100: whether a context may issue a configuration code. -/
def mayConfigure (c code : Nat) : Bool :=
  if code = 0x17 then isFoundation c else ctxSuite c == 0 || tenantCode code

/-- R97: the reply queue that a request names is a declared reply queue of the issuing task; 0 names none. One that is not bound is an error
in the program (R93). Log 10 (DESIGN CHOICE). -/
def replyDeclared (s : State) (c rq : Nat) : Bool :=
  rq == 0 || (queueAt s rq).attached.any (fun a => match a.who with | .reply c' _ => c' == c | _ => false)

/-- R98: CFG: the descriptor is copied at issue and posted to the sequencer. The foundation program's first CFG opens the
configuration pass (R101). -/
def configure (f : FmtA) (code : Nat) (e : Env) (s : State) (x : Ctx) : Did :=
  let a := rget x f.rs1
  match blockFault e s a (8 * cfgLen code) with
  | some d => d
  | none =>
    let ws := loadWords s e.u a.toNat (cfgLen code)
    let w1 := ws.getD 1 0
    if fld w1 0 8 ≠ code || fld w1 8 8 ≠ cfgLen code then deviceFault .range
    else if !mayConfigure e.c code then deviceFault .threshold
    else if !bitAt w1 49 && !replyDeclared s e.c (fld w1 32 16) then deviceFault .binding
    else postRequest f (fun s n => { s with seq := { s.seq with
        reqs := s.seq.reqs ++ [{ ctx := e.c, ticket := n, words := ws }]
        passOpen := s.seq.passOpen || (isFoundation e.c && !s.seq.passDone) } })
      (correctErrors s (e.u.winBase + a.toNat) (8 * cfgLen code)) x

/-- R98: posts a configuration request. -/
def execCfg (k : Nat) (code : BitVec 8) (f : FmtA) (s : State) : Host.Outcome State Fault Refusal :=
  .next (runInsn k (encA 0x40 code.toNat f) (configure f code.toNat) s)

/-- R116: whether a handle's suite may be named: it is the issuing suite's, but for suite 0's KGEN, KDESTROY and KINFO. -/
def handleAllowed (suite op : Nat) (h : Nat) : Bool :=
  h / 8192 % 64 == suite || (suite == 0 && (op == 1 || op == 10 || op == 11))

/-- R116: KEY: the request block is copied at issue and posted to the Cellar. -/
def postKey (f : FmtA) (op : Nat) (e : Env) (s : State) (x : Ctx) : Did :=
  let a := rget x f.rs1
  let suite := ctxSuite e.c
  match blockFault e s a 64 with
  | some d => d
  | none =>
    let ws := loadWords s e.u a.toNat 8
    let w0 := ws.getD 0 0
    if !handleAllowed suite op (fld w0 0 32) || ((op == 8 || op == 9) && fld w0 32 32 != 0 && !handleAllowed suite op (fld w0 32 32)) then .denied .threshold
    else if !replyDeclared s e.c (fld (ws.getD 1 0) 16 16) then deviceFault .binding
    else postRequest f (fun s n => { s with cellar := { s.cellar with
        reqs := s.cellar.reqs ++ [{ ctx := e.c, suite, ticket := n, op, words := ws, order := s.cellar.accepts }]
        accepts := s.cellar.accepts + 1 } })
      (correctErrors s (e.u.winBase + a.toNat) 64) x

/-- R116: posts a key request. -/
def execKey (k : Nat) (op : BitVec 8) (f : FmtA) (s : State) : Host.Outcome State Fault Refusal :=
  .next (runInsn k (encA 0x45 op.toNat f) (postKey f op.toNat) s)

/-! ### Hearth samples and breakpoints (R119, R120) -/

/-- R119, R212: HSUB; only a TASK slot takes it. -/
def submitSample (f : FmtA) (e : Env) (s : State) (x : Ctx) : Did :=
  let n := (rget x f.rs1).toNat
  if 4096 ≤ n then deviceFault .range
  else if !(taskAt s e.c).desc.slotList.contains n || (slotAt s n).suite != ctxSuite e.c || !(slotAt s n).inUse || (slotAt s n).timer then .denied .binding
  else
    let r := acceptSample s n (q15 (rget x f.rs2))
    answer f.rd (if r.delayed then stDelayed .engine else stDone) 0 (b2n r.replaced) r.s x

/-- R119: submits a sample to a Hearth slot. -/
def execHsub (k : Nat) (f : FmtA) (s : State) : Host.Outcome State Fault Refusal := .next (runInsn k (encA 0x46 0 f) (submitSample f) s)

/-- R120: the words of a TRACE item: w1 to w31, a0 to a3 sign-extended, PC and `sr.steps`. Log 15 (DEDUCED). -/
def traceWords (x : Ctx) : List (BitVec 64) :=
  x.w.toList.drop 1 ++ x.a.toList.map (fun a => a.signExtend 64) ++ [x.pc.setWidth 64, BitVec.ofNat 64 x.steps]

/-- The engine unit that puts TRACE items: the commit collector. -/
def tracePart : Part := { cls := 5, inst := 8 }

/-- R120, R151: an armed breakpoint posts the context to the debug queue; with HOLD the task holds after its commit. -/
def breakpoint (n : Nat) (e : Env) (s : State) (x : Ctx) : Did :=
  let t := taskAt s e.c
  if !t.brkArm.getLsbD n then .next s x
  else
    let s := (putItem s e.u.debugQueue (.engine tracePart) (ctxSuite e.c) 0 0 false (wordBytes (traceWords x))).1
    .next (if t.brkHoldMap.getLsbD n then setTask s e.c (fun t => { t with brkHold := true }) else s) x

/-- R120: a breakpoint. -/
def execBrk (k : Nat) (n lo : BitVec 4) (f : FmtA) (s : State) : Host.Outcome State Fault Refusal :=
  .next (runInsn k (encA 0x47 (16 * n.toNat + lo.toNat) f) (breakpoint n.toNat) s)

end Sys2Proof.Machine
end

