-- ==== Sys2Proof/Machine/Scan.lean ====
section
/-! DEFINITION. The scan cycle: start, acceptance, commit, overruns, modes and the journal (spec/05_scan_cycle.md). -/

namespace Sys2Proof.Machine
open Sys2Proof

/-! ### Cycle start (R57, R110, R132, R141) -/

/-- R397: an activation that concerns a suite's tasks has come due: no cycle of theirs begins. -/
def activationDue (s : State) (suite : Nat) : Bool :=
  s.updates.any (fun e => e.2.phase == .scheduled && !e.2.pairHalf && reached (now s) e.2.activateAt && (e.1 < 192 || e.1 == 192 + suite))

/-- R2, R148, R239, R397: whether a task may begin a cycle now: it is in RUN or has a step to do, has none under way, the module runs
tasks, and no switch instant and no activation has come. -/
def mayStart (s : State) (c : Nat) : Bool :=
  let t := taskAt s c
  (t.mode == .run || t.stepping) && t.cycle.isNone && runsTasks s && !resetting s (ctxSuite c) &&
    (ctxSuite c == 0 || s.seq.passDone) && !commitsDue s && !activationDue s (ctxSuite c) &&
    (match s.twin.tsw with | some x => !reached (now s) x | none => true)

/-- R157: one write of SET_VALUE or SET_CONST is applied, journalled and mirrored as a cycle's would be, and answered. -/
def applyOnline (s : State) (c : Nat) (o : OnlineWrite) : State :=
  let u := suiteAt s (ctxSuite c)
  let s := { s with sram := writeBytes s.sram (u.winBase + o.addr) o.data }
  let retain := segmentOf u o.addr == some .retain
  let line := o.addr / 64
  let s := if retain then cutRecord s
      { suite := ctxSuite c, task := ctxTask c, cyc := (taskAt s c).ctx.cycle, commit := now s
        lines := [(line, readBytes s.sram (u.winBase + 64 * line) 64)], points := [] }
    else s
  let s := mirror s (.onlineChange (ctxSuite c) (ctxTask c) o.addr o.data)
  lateReply s o.via o.target o.tag o.replyQueue o.code o.suite stDone []

/-- R157: whether the task is between an END and its next cycle start, or in STOP or HOLD. -/
def betweenCycles (t : Task) : Bool := match t.cycle with | some y => y.phase != .executing | none => true

/-- R157: every waiting write of a task is applied. -/
def applyAllOnline (s : State) (c : Nat) : State :=
  (taskAt s c).online.foldl (fun s o => applyOnline s c o) (setTask s c (fun t => { t with online := [] }))

/-- R145: an outcome item is put into the task's reply queue. -/
def sendOutcome (s : State) (c : Nat) (o : Outcome) : State :=
  match replyBinding (taskAt s c).desc with
  | none => s
  | some b => sendCompletion s (takeQueue s c b) (some c)
      { st := o.status, major := 0x13, fn := 0x03, tag := o.cyc % 2 ^ 16, suite := ctxSuite c, result := BitVec.ofNat 64 o.frames, payload := o.words }

/-- R145: the outcome items that wait for a task's successor cycle. -/
def sendOutcomes (s : State) (c : Nat) : State :=
  (taskAt s c).outcomes.foldl (fun s o => sendOutcome s c o) (setTask s c (fun t => { t with outcomes := [] }))

/-- R57, R132: the context at the start of a cycle. -/
def startCtx (d : TaskDesc) (start : Time80) (x : Ctx) : Ctx :=
  { x with
    w := Vector.replicate 32 0
    a := Vector.replicate 4 0
    pc := BitVec.ofNat 32 d.entry
    calls := []
    loops := []
    flags := 0
    cycle := (x.cycle + 1) % 2 ^ 64
    tsnap := start
    tcommit := taddUs start d.commitOffset
    steps := 0
    packet := none }

/-- R132: a cycle begins: waiting writes are applied, outcome items entered, items delivered, inputs frozen, the context
prepared, and breakpoints armed (R151). -/
def beginCycle (s : State) (c : Nat) (start : Time80) : State :=
  let s := sendOutcomes (applyAllOnline (settleAll s) c) c
  let s := (List.range 8).foldl (fun s b => deliver s c b) s
  let d := (taskAt s c).desc
  let snap := d.inList.foldl (fun acc e => tset { v := 0 } acc e (imageValue s e)) []
  setTask s c (fun t => { t with
    ctx := startCtx d start t.ctx
    snapshot := snap
    lastStart := some start
    nextStart := some (taddUs start d.period)
    brkArm := match t.brkArmNext with | some b => b.1 | none => t.brkArm
    brkHoldMap := match t.brkArmNext with | some b => b.2 | none => t.brkHoldMap
    brkArmNext := none
    brkHold := false
    cycle := some { number := (t.ctx.cycle + 1) % 2 ^ 64, start, commit := taddUs start d.commitOffset } })

/-- Adds to a task's SKIPPED. -/
def countSkipped (s : State) (c n : Nat) : State := setTask s c (fun t => { t with skipped := satN 16 (t.skipped + n) })

/-- R125, R132, R141: at its grid start a task's cycle begins. Grid starts passed over are skipped and counted; the next is
awaited. -/
def cycleStart (s : State) (c : Nat) : State :=
  if !mayStart s c then s else
  match (taskAt s c).nextStart with
  | none => s
  | some start =>
    let d := (taskAt s c).desc
    let us := wholeUs (now s)
    if !reached (now s) start then s
    else if us = wholeUs start then beginCycle s c start
    else
      let next := ofUs (gridUs d.period d.phase us)
      let s := countSkipped s c (gridCount d start next)
      if wholeUs next = us then beginCycle s c next
      else setTask s c (fun t => { t with nextStart := some next })

/-- R132: a cycle starts. -/
def execCycleStart (c : Nat) (s : State) : Host.Outcome State Fault Refusal := .next (cycleStart s c)

/-! ### The collector (R136 to R139) -/

/-- R136: the task of a core whose token waits: the one whose END came first. -/
def waitingOn (s : State) (core : Nat) : Option Nat :=
  ((loadedTasks s).foldl (fun (best : Option (Nat × Nat)) e => match e.2.cycle with
    | some y => if e.2.desc.core == core && y.phase == .ended then
        (match best with
         | none => some (e.1, y.order)
         | some b => if y.order < b.2 then some (e.1, y.order) else some b)
        else best
    | none => best) none).map (·.1)

/-- R136: the next token in the collector's order, from place `index` of collector cycle `n`: its place and its task. -/
def nextToken (s : State) (n index : Nat) : Option (Nat × Nat) :=
  (rangeFrom index (32 - index)).findSome? (fun i => (waitingOn s ((n + i) % 32)).map (fun c => (i, c)))

/-- R136: a collector cycle ends when none of its cores has a token waiting. -/
def endCollectorCycle (s : State) : State :=
  let k := s.collector
  if k.index != 0 && (nextToken s k.n k.index).isNone then { s with collector := { k with n := (k.n + 1) % 2 ^ 32, index := 0 } } else s

/-- R107, R134: the values a cycle has staged, by element. -/
def stagedValues (s : State) (g : Staged) : List (Nat × PointVal) :=
  let els := (g.points.map (·.1) ++ g.highs.map (·.1)).foldl (fun acc e => sinsert e acc) []
  els.map (fun e => (e, mergedValue s e (tlook g.points e) (tlook g.highs e)))

/-- R231: the entries of a cycle's commit: CYCLE and POINTS, with QENTER and QACK for a cycle shipped at acceptance. -/
def commitEntries (s : State) (c : Nat) (y : Cycle) : List DeltaEntry :=
  [.cycle (ctxSuite c) (ctxTask c) stDone y.number (taskAt s c).ctx.timers.toList (taskAt s c).ctx.expired y.lines, .points (stagedValues s y.staged)]

/-- R235: the queue entries of a prepared cycle; an item takes its SEQ when it enters. -/
def preparedQueues (s : State) (c : Nat) (y : Cycle) : List DeltaEntry :=
  (y.staged.packets.filter (fun p => mirroredQueue s p.queue)).map (fun p => .qenter p.queue (deltaItem (packetItem c p))) ++
    (y.staged.acks.filter (fun a => mirroredQueue s a.1)).map (fun a => .qack a.1 [a.2 % 2 ^ 16])

/-- R260: the staged values that go to endpoints. -/
def endpointValues (s : State) (g : Staged) : List (Nat × PointVal) := (stagedValues s g).filter (fun v => (egressOf s v.1).isSome)

/-- R135: an accepted cycle arms its output values in the utility latches for its commit time; none arrives while the utility link is
down (R30). -/
def armLatches (s : State) (c : Nat) (y : Cycle) (commit : Time80) : State :=
  let vals := ((stagedValues s y.staged).filter (fun v => isDo v.1)).map (fun v => (v.1 - 0x40, v.2.v != 0))
  if vals.isEmpty || utilDown s then s
  else { s with latches := s.latches ++ [{ ctx := c, cyc := y.number, at80 := commit, vals }] }

/-- R34, R138, R260: an accepted cycle awaits its commit time: its output values are armed, its timed frames leave, and a CAM cycle's
delta is shipped. An acceptance that staged an endpoint point wakes the floor (R264). Log 18 (DEDUCED). -/
def awaitCommit (s : State) (c : Nat) (y : Cycle) (commit : Time80) : State :=
  let s := armLatches s c y commit
  let vals := endpointValues s y.staged
  let r := buildTimed (if vals.isEmpty then s else wakeFloor s) c y.number commit vals
  let y := { y with phase := .accepted, commit, frames := r.2, order := s.collector.accepted }
  let s := { r.1 with collector := { r.1.collector with accepted := r.1.collector.accepted + 1 } }
  let cam := (taskAt s c).desc.cam
  let s := setTask s c (fun t => { t with cycle := some y, lastStatus := if cam then stDelayed .mirror else t.lastStatus })
  if cam then
    shipDelta s true false commit (commitEntries s c y ++ preparedQueues s c y) (some (ctxSuite c, ctxTask c, y.number))
  else s

/-- R139: an overrun is counted and reported. Log 16 (DEDUCED). -/
def reportOverrun (s : State) (c : Nat) (sev : Nat) : State :=
  raiseEvent (setTask s c (fun t => { t with overruns := bump 16 t.overruns })) [ctxSuite c] sev (roomUnit ((taskAt s c).desc.core / 4)) (stFault .timeout) []

/-- R139: SKIP, or STRETCH of a cycle without its mirror confirmation: the cycle is cancelled and the next begins at the first
grid start from now on. -/
def skipOverrun (s : State) (c : Nat) (y : Cycle) : State :=
  let d := (taskAt s c).desc
  let s := cancelCycle (reportOverrun s c 3) c y none
  let next := gridAt d (now s)
  let s := countSkipped s c (gridCount d (taddUs y.start d.period) next)
  afterCycle (setTask s c (fun t => { t with nextStart := some next })) c

/-- R139: FAULT: the cycle is cancelled and the task stops. -/
def faultOverrun (s : State) (c : Nat) (y : Cycle) : State :=
  let s := cancelCycle (reportOverrun s c 5) c y (some (stFault .timeout))
  enterStop s c .overrun (stFault .timeout)

/-- R139: the fewest periods by which STRETCH moves a commit so as to leave 10 µs. -/
def stretchPeriods (s : State) (d : TaskDesc) (y : Cycle) : Nat :=
  let late := (tdiff (now s) y.commit + 10000).toNat
  let p := max 1 (d.period * 1000)
  max 1 ((late + p - 1) / p)

/-- R139: STRETCH: the commit moves. -/
def stretchOverrun (s : State) (c : Nat) (y : Cycle) : State :=
  let d := (taskAt s c).desc
  let m := stretchPeriods s d y
  let s := countSkipped (reportOverrun s c 3) c m
  let s := awaitCommit s c y (taddUs y.commit (m * d.period))
  setTask s c (fun t => { t with nextStart := some (taddUs y.start ((m + 1) * d.period)) })

/-- R154: the journal record of an accepted cycle. -/
def cutCycle (s : State) (c : Nat) (y : Cycle) : State :=
  cutRecord s { suite := ctxSuite c, task := ctxTask c, cyc := y.number, commit := y.commit, lines := y.lines, points := [] }

/-- R139: what the task's overrun setting does with a cycle whose token came too late. -/
def settleOverrun (s : State) (c : Nat) (y : Cycle) : Overrun → State
  | .skip => skipOverrun s c y
  | .stretch => stretchOverrun s c y
  | .fault => faultOverrun s c y

/-- R154: what the collector notes of a token: the longest acceptance and the journal record. -/
def noteAccepted (s : State) (c : Nat) (y : Cycle) : State :=
  cutCycle (setTask s c (fun t => { t with maxAccept := max t.maxAccept (satN 32 (tdiff (now s) y.start).toNat) })) c y

/-- R137: a token after the deadline is a deadline miss. -/
def noteDeadline (s : State) (c : Nat) (y : Cycle) : State :=
  let d := (taskAt s c).desc
  if 0 < tdiff (now s) (taddUs y.start d.deadline) then
    raiseEvent (setTask s c (fun t => { t with dlMiss := bump 16 t.dlMiss })) [ctxSuite c] 2 (roomUnit (d.core / 4)) stDone []
  else s

/-- R139: a cycle is accepted by its late threshold. -/
def inTime (s : State) (y : Cycle) : Bool := tdiff (now s) (taddNs y.commit (-10000)) ≤ 0

/-- R139, R154: the commit time that a cycle's journal record holds: that of a late cycle under STRETCH is the one it moves to. -/
def recordedCommit (s : State) (d : TaskDesc) (y : Cycle) : Time80 :=
  if !inTime s y && d.overrun == .stretch then taddUs y.commit (stretchPeriods s d y * d.period) else y.commit

/-- R136 to R139: the collector accepts the token of a task's cycle. -/
def acceptCycle (s : State) (c : Nat) (y : Cycle) : State :=
  let d := (taskAt s c).desc
  let noted := noteAccepted s c { y with commit := recordedCommit s d y }
  if inTime s y then awaitCommit (noteDeadline noted c y) c y y.commit else settleOverrun noted c y d.overrun

/-- R136: the collector accepts the next token that waits. -/
def collect (s : State) : State :=
  let k := s.collector
  let k := if (nextToken s k.n k.index).isNone then { k with n := (if k.index = 0 then k.n else (k.n + 1) % 2 ^ 32), index := 0 } else k
  match nextToken s k.n k.index with
  | none => s
  | some (i, c) =>
    match (taskAt s c).cycle with
    | none => s
    | some y => endCollectorCycle (acceptCycle { s with collector := { k with index := i + 1 } } c y)

/-- R136: the commit collector accepts an end-of-cycle token. -/
def execCycleAccept (s : State) : Host.Outcome State Fault Refusal := .next (collect s)

/-! ### Commit (R134, R135, R138, R315) -/

/-- R150: at the first grid commit time after a STOP of a task, the outputs it had go to their safe states. -/
def stopSafe (s : State) (c : Nat) : State :=
  let due := fun (x : SafeDrive) => x.ctx == c && reached (dieTime s 4) x.at80
  ((s.safeDrives.filter due).flatMap (·.outs)).foldl driveSafe { s with safeDrives := s.safeDrives.filter (fun x => !due x) }

/-! ### The utility latches (R21, R22, R135, R315) -/

/-- R135: a commit that is due at or before an instant has not taken place yet. -/
def commitsBefore (s : State) (t : Time80) : Bool :=
  (loadedTasks s).any (fun e => match e.2.cycle with
    | some y => y.phase == .accepted && reached (now s) y.commit && decide (tdiff y.commit t ≤ 0)
    | none => false)

/-- R22, R21: armed values are released when the utility die's copy of house time reaches their instant: once their cycle has committed,
or ahead of the house clock where the copy runs ahead of it and nothing but that instant is awaited (R138). Log 83 (DEDUCED). -/
def latchDue (s : State) (l : Latch) : Bool :=
  reached (dieTime s 4) l.at80 && !commitsBefore s l.at80 &&
    (l.committed || (!reached (now s) l.at80 && (match (taskAt s l.ctx).cycle with
      | some y => y.number == l.cyc && (!(taskAt s l.ctx).desc.cam || y.confirmed)
      | none => false)))

/-- R150: an output that a task's value has reached is no longer to be driven safe. -/
def keepDriven (s : State) (outs : List Nat) : State :=
  { s with safeDrives := s.safeDrives.map (fun x => { x with outs := x.outs.filter (fun n => !outs.contains n) }) }

/-- R315: the armed values of one instant are released together. -/
def releaseAt (s : State) (due : List Latch) (t : Time80) : State :=
  let vals := (due.filter (fun l => l.at80 == t)).flatMap (·.vals)
  keepDriven (releaseOutputs s vals) (vals.map (·.1))

/-- The earliest of some armed instants comes first. -/
def sortTimes (l : List Time80) : List Time80 :=
  l.foldl (fun acc t => let before := acc.filter (fun x => decide (tdiff x t ≤ 0))
                        before ++ t :: acc.filter (fun x => decide (0 < tdiff x t))) []

/-- R33, R135, R315: the latches whose instant has come switch, instant by instant. No commit edge occurs without REFCLK (R30). Log 5 (DESIGN CHOICE), 84 (DEDUCED). -/
def switchLatches (s : State) : State :=
  if s.clock.clkFault then s else
  let due := s.latches.filter (latchDue s)
  let s := { s with latches := s.latches.filter (fun l => !latchDue s l) }
  (sortTimes (due.map (·.at80)).eraseDups).foldl (fun s t => releaseAt s due t) s

/-- R154: the values of retained general points go into the cycle's journal record. -/
def journalPoints (s : State) (c : Nat) (y : Cycle) (vals : List (Nat × PointVal)) : State :=
  let kept := vals.filter (fun v => isGeneral v.1 && (pointCfg s v.1).retained)
  let mine := fun (r : JournalRec) => r.suite == ctxSuite c && r.task == ctxTask c && r.cyc == y.number
  if kept.isEmpty then s
  else if s.journal.staging.any mine then
    { s with journal := { s.journal with staging := mapWhere mine (fun r => { r with points := kept }) s.journal.staging } }
  else cutRecord s { suite := ctxSuite c, task := ctxTask c, cyc := y.number, commit := y.commit, lines := [], points := kept }

/-- R134, R315: a cycle's points become visible, and its armed output values may be released. -/
def commitPoints (s : State) (c : Nat) (y : Cycle) (vals : List (Nat × PointVal)) : State :=
  let s := vals.foldl (fun s v => setPoint s v.1 v.2) s
  let s := { s with latches := mapWhere (fun l => l.ctx == c && l.cyc == y.number) (fun l => { l with committed := true }) s.latches }
  journalPoints s c y vals

/-- R134, R185, R196: a cycle's packets enter their queues and its acknowledgements act. -/
def commitQueues (s : State) (c : Nat) (g : Staged) : State :=
  let s := g.packets.foldl (fun s p => enterCommitted s p.queue (packetItem c p)) s
  g.acks.foldl (fun s a => ackItem s a.1 a.2) s

/-- R171 step 8: a DEGRADED suite is in RUN once every loaded task of it has committed. -/
def suiteCommitted (s : State) (n : Nat) : State :=
  if (suiteAt s n).state = stDegraded && (suiteTasks s n).all (fun e => e.2.committed) then setSuite s n (fun u => { u with state := stRun })
  else s

/-- R216, R231: the state, at a commit instant, of the slots that the cycle's task feeds and of every TIMER slot goes into the mirror delta. -/
def mirrorSlots (s : State) (c : Nat) : State :=
  let fed := (taskAt s c).desc.slotList
  (s.hearth.slots.filter (fun e => e.2.inUse && (e.2.timer || fed.contains e.1))).foldl (fun s e =>
    mirror s (.hearth e.1 e.2.x e.2.y e.2.region)) s

/-- R135: a cycle commits: its staged effects become visible together. A cycle shipped at acceptance is not shipped again. -/
def commitCycle (s : State) (c : Nat) (y : Cycle) : State :=
  let vals := stagedValues s y.staged
  let s := openInstant (stopSafe s c) y.commit
  let s := if (taskAt s c).desc.cam then s else (commitEntries s c y).foldl mirror s
  let waiting := s.twin.waiting
  let s := commitQueues (commitPoints s c y vals) c y.staged
  let s := if (taskAt s c).desc.cam then { s with twin := { s.twin with waiting } } else s
  let s := mirrorSlots s c
  let s := setTask s c (fun t => { t with cycle := none, lastStatus := stDone, committed := true })
  switchLatches (afterCycle (suiteCommitted s (ctxSuite c)) c)

/-- R138: a CAM cycle without its confirmation at the commit time is an overrun, and STRETCH acts as SKIP. Log 18 (DEDUCED). -/
def missingConfirmation (s : State) (c : Nat) (y : Cycle) : State :=
  match (taskAt s c).desc.overrun with
  | .fault => faultOverrun s c y
  | _ => skipOverrun s c y

/-- R135: an accepted cycle that was due before this one, or was accepted before it for the same instant. -/
def earlierCommit (s : State) (c : Nat) (y : Cycle) : Bool :=
  (loadedTasks s).any (fun e => e.1 != c && (match e.2.cycle with
    | some z => z.phase == .accepted && reached (now s) z.commit &&
        (decide (tdiff z.commit y.commit < 0) || (z.commit == y.commit && decide (z.order < y.order)))
    | none => false))

/-- R135, R138: what the commit time of a task's cycle brings; commits of one instant follow the collector's order. Without REFCLK
no commit edge occurs (R30). Log 18 (DEDUCED), 84 (DEDUCED). -/
def commitDue (s : State) (c : Nat) : State :=
  let s := switchLatches (settleAll s)
  match (taskAt s c).cycle with
  | none => s
  | some y =>
    if s.clock.clkFault || y.phase != .accepted || !reached (now s) y.commit || earlierCommit s c y then s
    else if (taskAt s c).desc.cam && !y.confirmed then missingConfirmation s c y
    else commitCycle s c y

/-- R135: at commit time C a cycle's staged effects become visible. -/
def execCommit (c : Nat) (s : State) : Host.Outcome State Fault Refusal := .next (commitDue s c)

/-! ### Modes (R147 to R150) -/

/-- R168: a suite in FAULT is clear of it when every loaded task is in RUN again. Log 19 (DEDUCED). -/
def recheckSuite (s : State) (n : Nat) : State :=
  let tasks := suiteTasks s n
  if (suiteAt s n).state = stFaulty && !tasks.isEmpty && tasks.all (fun e => e.2.mode == .run) then
    setSuite s n (fun u => { u with state := stRun })
  else s

/-- A task enters RUN; its cycles begin at a grid start. Log 17 (DEDUCED). -/
def enterRun (s : State) (c : Nat) (start : Time80) : State :=
  let s := setTask s c (fun t => { t with
    mode := .run, pending := none, stepping := false, autoRun := false, holdUntil := none, rereleased := none, nextStart := some start })
  recheckSuite (mirrorMode s c) (ctxSuite c)

/-- R147: a pending RUN or STEP takes effect at its grid start. -/
def modeTransition (s : State) (c : Nat) : State :=
  let t := taskAt s c
  match t.pending with
  | none => s
  | some p =>
    if !reached (now s) p.at80 || t.cycle.isSome || resetting s (ctxSuite c) || !(ctxSuite c == 0 || s.seq.passDone) then s
    else if p.step then
      mirrorMode (setTask s c (fun t => { t with mode := .hold, pending := none, stepping := true, holdUntil := none, nextStart := some p.at80 })) c
    else enterRun s c p.at80

/-- R147: a mode transition. -/
def execModeTransition (c : Nat) (s : State) : Host.Outcome State Fault Refusal := .next (modeTransition s c)

/-- A cycle's commit time has come and it has not committed: its own values are to be released at this instant. -/
def commitsNow (s : State) (t : Task) : Bool :=
  match t.cycle with | some y => y.phase == .accepted && reached (now s) y.commit | none => false

/-- R149: at each grid commit time a held task's last committed output values are released again, a step cycle that is under way or late
changing nothing in that; at its commit its own values are released. Log 84 (DEDUCED). -/
def holdRerelease (s : State) (c : Nat) : State :=
  let t := taskAt s c
  let us := wholeUs (now s)
  let here := ofUs us
  if t.mode != .hold || commitsNow s t || gridUs t.desc.period (t.desc.phase + t.desc.commitOffset) us != us || t.rereleased == some here || !runsTasks s || s.clock.clkFault then s
  else
    let vals := ((taskOutputs t.desc).filter (fun n => (outputAt s n).touched)).map (fun n => (n, (outputAt s n).committed))
    let s := setTask s c (fun t => { t with rereleased := some here })
    switchLatches (if utilDown s then s
      else { s with latches := s.latches ++ [{ ctx := c, cyc := 0, at80 := here, vals, committed := true }] })

/-- R149: a held task's outputs are released again. -/
def execHoldRerelease (c : Nat) (s : State) : Host.Outcome State Fault Refusal := .next (holdRerelease s c)

/-- R150: a stopped task's outputs go to their safe states. -/
def execStopSafeState (c : Nat) (s : State) : Host.Outcome State Fault Refusal := .next (stopSafe s c)

/-- R148: HOLD_MAX elapses. -/
def holdMaxTimeout (s : State) (c : Nat) : State :=
  let t := taskAt s c
  match t.holdUntil with
  | some due => if t.mode = .hold && !t.stepping && decide (due ≤ s.tick) then enterStop s c .hold stDone else s
  | none => s

/-- R148: a task left in HOLD for HOLD_MAX goes to STOP. -/
def execHoldMaxTimeout (c : Nat) (s : State) : Host.Outcome State Fault Refusal := .next (holdMaxTimeout s c)

/-- R127: 600 s of REFCLK ticks. -/
def foundationTicks : Nat := 600 * 125000000

/-- R127: the foundation program is abandoned 600 s after its start. -/
def execFoundationTimeout (s : State) : Host.Outcome State Fault Refusal :=
  .next (if s.foundation.running && decide (s.foundation.startedTick + foundationTicks ≤ s.tick) then endFoundation s true else s)

/-! ### The journal in flash (R154, R155) -/

/-- The RETAIN lines of a suite that hold a written byte. -/
def retainImage (s : State) (n : Nat) : List (Nat × List Byte) :=
  let u := suiteAt s n
  let lo := u.winBase + u.retainAt * 4096
  let hi := u.winBase + u.dataAt * 4096
  let lines := ((s.sram.cells.filter (fun x => lo ≤ x.1 && x.1 < hi)).map (fun x => (x.1 - u.winBase) / 64)).eraseDups
  lines.map (fun l => (l, readBytes s.sram (u.winBase + 64 * l) 64))

/-- R155: the full checkpoint: every RETAIN segment and every retained point. Log 100 (DEDUCED). -/
def checkpointImage (s : State) : List JournalRec :=
  (enabledSuites s).map (fun n => { suite := n, task := 0, cyc := 0, commit := now s, lines := retainImage s n
                                    points := s.values.filter (fun v => isGeneral v.1 && (pointCfg s v.1).retained && (pointCfg s v.1).owner == n) })

/-- R154, R155: writes the oldest staged record to the journal; a broken journal is made whole by a checkpoint, once a warm restart has
restored what the old one holds. Log 100 (DEDUCED). -/
def journalWrite (s : State) : State :=
  if s.journal.rebuilding && !s.boot.warm then
    { s with journal := { s.journal with checkpoint := checkpointImage s, written := [], staging := [], broken := false, rebuilding := false } }
  else match s.journal.staging with
    | [] => s
    | r :: rest => { s with journal := { s.journal with staging := rest, written := s.journal.written ++ [r] } }

/-- R154: staged journal records are written to flash in acceptance order. -/
def execJournalWrite (s : State) : Host.Outcome State Fault Refusal := .next (journalWrite s)

/-! ### Reservations (R96) -/

/-- R96: a credit reserved for a context is released after 2 of its periods. -/
def releaseReservation (s : State) (c : Nat) : State :=
  { s with larder := { s.larder with queues := s.larder.queues.map (fun e => (e.1, { e.2 with
      attached := e.2.attached.map (fun a => match a.who, a.reservedUntil with
        | .task c' _, some t => if c' = c && reached (now s) t then { a with reservedUntil := none } else a
        | _, _ => a) })) } }

/-- R96: a reservation lapses. -/
def execCreditReservationExpiry (c : Nat) (s : State) : Host.Outcome State Fault Refusal := .next (releaseReservation s c)

end Sys2Proof.Machine
end

