-- ==== Sys2Proof/Machine/Sequencer.lean ====
section
/-! DEFINITION. The configuration sequencer on station 14, and the codes whose bodies spec/04 maps: CFG_UNIT, CFG_GROUP,
CFG_PACE, CFG_LOCK, CFG_END (R99 to R104, R182). -/

namespace Sys2Proof.Machine
open Sys2Proof

/-! ### How a request is served (R99, R101) -/

/-- What serving a request comes to: it ends, or its completion waits for a later event. -/
inductive CfgOut where
  | ends (e : CfgEnd)
  | waits (s : State)

def cfgDone (s : State) : CfgOut := .ends { s, st := stDone }

/-- A refusal or fault with no effect. -/
def cfgDeny (s : State) (st : Status) : CfgOut := .ends { s, st }

/-- The oldest request of a context. -/
def headRequest (s : State) (c : Nat) : Option CfgReq := s.seq.reqs.find? (fun r => r.ctx == c)

/-- A request leaves the sequencer's queue; the words of one of the pass count for CONFIG_DIGEST (R222), and one issued after
the pass goes into the mirror delta (R231). -/
def takeRequest (s : State) (r : CfgReq) : State :=
  let words := if inPass s r then s.seq.digestWords ++ r.words else s.seq.digestWords
  let s' := { s with seq := { s.seq with reqs := eraseFirst (fun x => x.ctx == r.ctx) s.seq.reqs, digestWords := words } }
  if s.seq.passDone then mirror s' (.config r.suite r.words) else s'

/-- R101: the sequencer carries out the oldest request of context `c`, when `pick` says that it is this row's; otherwise
nothing happens. While a request of the context waits for its completion the next does not begin. Log 6 (DESIGN CHOICE). -/
def serveCfg (c : Nat) (pick : CfgReq → Bool) (run : CfgReq → State → CfgOut) (s : State) : State :=
  match headRequest s c with
  | none => s
  | some r =>
    if !pick r || s.seq.waiting.any (fun w => w.req.ctx == c) then s else
    let s := takeRequest s r
    if inPass s r && s.seq.passFailed.isSome && r.code != 0x17 then finishCfg r { s, st := stRefused .state }
    else match run r s with
      | .ends e => finishCfg r e
      | .waits s => s

/-- Requests with a code. -/
def cfgCode (code : Nat) (r : CfgReq) : Bool := r.code == code

/-- R54, R100: a request for a unit of one kind: an address that names nothing is refused, another unit faults. Log 25 (DEDUCED). -/
def cfgUnitOnly (r : CfgReq) (s : State) (ok : UnitId → Bool) (run : UnitId → CfgOut) : CfgOut :=
  match resolve s (r.word 0) with
  | none => cfgDeny s (stRefused .address)
  | some (.unit u) => if ok u then run u else cfgDeny s (stFault .range)
  | some (.point _ _) => cfgDeny s (stFault .range)

/-- R182: the codes that only suite 0 may issue are refused while its owner lock is set. Log 25 (DEDUCED). -/
def buildingCfg (s : State) (run : CfgOut) : CfgOut := if (suiteAt s 0).locked then cfgDeny s (stRefused .lock) else run

/-- R182: a code that the issuing suite's owner lock refuses. Log 25 (DEDUCED). -/
def issuerLocked (s : State) (r : CfgReq) : Bool := (suiteAt s r.suite).locked

/-! ### CFG_UNIT (R102, R36, R37, R55, R440) -/

/-- R41: the module's address changes, and with it that of every part. Log 88 (DEDUCED). -/
def bumpAllEpochs (s : State) : State := (UnitId.module :: allParts.map UnitId.part).foldl bumpEpoch s

/-- R37, R219: the module's own level number in its pair. -/
def ownNumber (s : State) : Nat := b2n s.twin.member

/-- R102: whether a module address may be configured. -/
def unitAddressOk (s : State) (a : BitVec 64) (paired : Bool) : Bool :=
  addrDepth a != 7 && addrElement a == selfElement && (!paired || addrLevel a (addrDepth a) == ownNumber s)

/-- R102, R440: the module takes its address: DESC_EPOCH of the module and of every part rises, and of the pair and the groups where
their descriptors change; the module, whose address is no longer the request's TARGET, has returned DONE (R42). -/
def takeAddress (s : State) (a : BitVec 64) (paired : Bool) : State :=
  let s' := settleEpochs s (bumpAllEpochs { s with addr := { s.addr with self := a, paired } })
  settleBanks (setUnitStat s' .module (fun x => { x with lastStatus := stDone }))

/-- R102: the module's own address. A pair above a module of depth 1 would have no path. Log 25 (DEDUCED). -/
def configureUnit (r : CfgReq) (s : State) : CfgOut :=
  buildingCfg s (cfgUnitOnly r s (· == .module) (fun _ =>
    let a := r.word 2
    let paired := bitAt (r.word 3) 0
    if !inPass s r then cfgDeny s (stRefused .state)
    else if !addrWellFormed a || (paired && addrDepth a == 1) then cfgDeny s (stRefused .address)
    else if !unitAddressOk s a paired then cfgDeny s (stFault .range)
    else cfgDone (takeAddress s a paired)))

/-- R102: CFG_UNIT. -/
def execCfgUnit (c : Nat) (s : State) : Host.Outcome State Fault Refusal := .next (serveCfg c (cfgCode 0x01) configureUnit s)

/-! ### CFG_GROUP (R103, R51, R55) -/

/-- Whether bit `n` of a MEMBER_MAP of four words is set. -/
def memberBit (map : List (BitVec 64)) (n : Nat) : Bool := bitAt (map.getD (n / 64) 0) (n % 64)

/-- R37: an address lies above the module on its own path. -/
def enclosesSelf (s : State) (a : BitVec 64) : Bool := addrDepth a < addrDepth s.addr.self && samePath a s.addr.self (addrDepth a)

/-- R54: an address that can name a group: well formed, with the self element. -/
def groupAddress (a : BitVec 64) : Bool := addrWellFormed a && addrElement a == selfElement

/-- R103: whether a group declaration is acceptable. -/
def groupOk (s : State) (a : BitVec 64) (speaker : Nat) (map : List (BitVec 64)) : Bool :=
  let d := addrDepth a
  let self := s.addr.self
  enclosesSelf s a && !(s.addr.paired && d + 1 == addrDepth self) &&
    (List.range 256).all (fun n => !memberBit map n || n < 2 ^ levelLen (d + 1)) &&
    memberBit map (addrLevel self (d + 1)) && memberBit map speaker

/-- R103: a group is declared. -/
def declareGroup (s : State) (a : BitVec 64) (speaker : Nat) (map : List (BitVec 64)) : State :=
  settleEpochs s { s with addr := { s.addr with groups := tput s.addr.groups (addrDepth a) { addr := a, speaker, members := map } } }

/-- R103, R440: an enclosing group. Its TARGET is the group, whose path the module knows when it lies on its own; a TARGET that names
this module or a part of it is another unit. Log 25 (DEDUCED). -/
def configureGroup (r : CfgReq) (s : State) : CfgOut :=
  buildingCfg s
    (let t := r.word 0
     let a := r.word 2
     let map := (rangeFrom 4 4).map r.word
     let speaker := fld (r.word 3) 0 8
     if (resolve s t).isNone && !(groupAddress t && enclosesSelf s t) then cfgDeny s (stRefused .address)
     else if !groupAddress a then cfgDeny s (stRefused .address)
     else if t != a || !groupOk s a speaker map then cfgDeny s (stFault .range)
     else cfgDone (declareGroup s a speaker map))

/-- R103: CFG_GROUP. -/
def execCfgGroup (c : Nat) (s : State) : Host.Outcome State Fault Refusal := .next (serveCfg c (cfgCode 0x02) configureGroup s)

/-! ### CFG_PACE (R104) -/

def setRoom (s : State) (n : Nat) (f : Room → Room) : State := { s with rooms := tmod {} s.rooms n f }

/-- R104: the thresholds and the clear bits for one room. -/
def paceRoom (w : BitVec 64) (x : Room) : Room :=
  let x := if bitAt w 40 then x else { x with warnSet := fld w 0 16, warnClear := fld w 16 16 }
  let x := if bitAt w 41 then { x with paceMin := 0xFFFF } else x
  let x := if bitAt w 42 then { x with warnSeen := false, faultSeen := false } else x
  if bitAt w 43 then { x with slowWindows := 0 } else x

/-- R104: pace warning thresholds and latched fields. Log 25 (DEDUCED). -/
def configurePace (r : CfgReq) (s : State) : CfgOut :=
  buildingCfg s (cfgUnitOnly r s (· == .module) (fun _ =>
    let w := r.word 2
    let set := fld w 0 16
    if (!bitAt w 40 && (set < 1650 || 2000 < set || fld w 16 16 < set + 50)) || fld w 32 8 = 0 then cfgDeny s (stFault .range)
    else cfgDone (((List.range 8).filter (fun n => bitAt w (32 + n))).foldl (fun s n => setRoom s n (paceRoom w)) s)))

/-- R104: CFG_PACE. -/
def execCfgPace (c : Nat) (s : State) : Host.Outcome State Fault Refusal := .next (serveCfg c (cfgCode 0x15) configurePace s)

/-! ### CFG_LOCK (R182) -/

/-- R182: the owner lock of the issuing suite. Log 25 (DEDUCED). -/
def configureLock (r : CfgReq) (s : State) : CfgOut :=
  cfgUnitOnly r s (· == .module) (fun _ =>
    cfgDone (mirror (setSuite s r.suite (fun u => { u with locked := true }))
      (.ownership r.suite (suiteAt s r.suite).owner (suiteAt s r.suite).ownerRank (suiteAt s r.suite).leaseEnd true)))

/-- R182: CFG_LOCK. -/
def execCfgLock (c : Nat) (s : State) : Host.Outcome State Fault Refusal := .next (serveCfg c (cfgCode 0x16) configureLock s)

/-! ### CFG_END (R101, R2, R148, R222) -/

/-- R148: the tasks loaded in the pass that enter RUN when it completes. Log 17 (DEDUCED). -/
def startLoaded (s : State) : State :=
  ((loadedTasks s).filter (fun e => e.2.autoRun)).foldl (fun s e => enterRun s e.1 (gridAt e.2.desc (now s))) s

/-- R222: a paired member whose pass completes with DONE enters SEEKING; its Landing lanes are powered (R219). -/
def seek (s : State) : State :=
  if s.addr.paired then setUnitStat { s with twin := { s.twin with role := .seeking, seekTick := s.tick, lanesUp := 0xF } } .module (fun x => { x with state := stStarting })
  else s

/-- R101: the end of the configuration pass; in a pass that has stopped, whatever its TARGET. -/
def endPass (r : CfgReq) (s : State) : CfgOut :=
  match inPass s r, s.seq.passFailed with
  | true, some t => .ends { s := raiseEvent s [0] 6 .module (stFault .state) [], st := stFault .state, result := BitVec.ofNat 64 t }
  | _, _ => cfgUnitOnly r s (· == .module) (fun _ =>
      if !inPass s r then cfgDeny s (stRefused .state)
      else
        let s := { s with seq := { s.seq with passDone := true }, boot := { s.boot with warm := false } }
        let s := setUnitStat s .module (fun x => { x with state := stRun })
        cfgDone (startLoaded (seek s)))

/-- R101: CFG_END. -/
def execCfgEnd (c : Nat) (s : State) : Host.Outcome State Fault Refusal := .next (serveCfg c (cfgCode 0x17) endPass s)

end Sys2Proof.Machine
end

