-- ==== Sys2Proof/Machine/Attic.lean ====
section
/-! DEFINITION. The Attic and the scrubber (spec/16). -/

namespace Sys2Proof.Machine
open Sys2Proof

abbrev atticUnit : UnitId := .part { cls := 5, inst := 3 }

def partitionAt (s : State) (n : Nat) : Partition := tget {} s.attic.parts n

def setPartition (s : State) (n : Nat) (f : Partition → Partition) : State :=
  { s with attic := { s.attic with parts := tmod {} s.attic.parts n f } }

/-- R362: the record slots of a suite's partition; a disabled suite has none. -/
def slotsOf (s : State) (n : Nat) : Nat := if (suiteAt s n).enabled then (suiteAt s n).atticUnits * 256 else 0

/-! ### Writing a record (R360 to R363) -/

/-- The lowest severity present among records; 8 where there is none. -/
def lowestSev (rs : List Record) : Nat := rs.foldl (fun m r => min m r.ev.sev) 8

/-- R363: the record that gives way: the oldest of the lowest severity. Log 42 (DEDUCED). -/
def givesWay (rs : List Record) : Option Record := rs.find? (fun r => r.ev.sev == lowestSev rs)

/-- The lowest slot that holds no record. Log 42 (DEDUCED). -/
def lowestFree (rs : List Record) (slots : Nat) : Nat := ((List.range slots).find? (fun k => !rs.any (fun r => r.slot == k))).getD 0

/-- R362: a record takes the next SEQ and a slot. Log 42 (DEDUCED). -/
def appendRecord (s : State) (n slot : Nat) (e : Event) : State :=
  let s := setPartition s n (fun p => { p with records := p.records ++ [{ seq := p.nextSeq, slot, ev := e }], nextSeq := p.nextSeq + 1 })
  { s with attic := { s.attic with records := (s.attic.records + 1) % 2 ^ 32 } }

/-- R363: a record is written into its suite's partition, overwrites one there, or is dropped. Log 42 (DEDUCED). -/
def writeRecord (s : State) (e : Event) : State :=
  let rs := (partitionAt s e.suite).records
  if rs.length < slotsOf s e.suite then appendRecord s e.suite (lowestFree rs (slotsOf s e.suite)) e
  else match givesWay rs with
    | some old =>
      if old.ev.sev ≤ e.sev then
        let s := setPartition s e.suite (fun p => { p with records := p.records.filter (fun r => r.seq != old.seq) })
        appendRecord { s with attic := { s.attic with overwritten := bump 16 s.attic.overwritten } } e.suite old.slot e
      else setPartition s e.suite (fun p => { p with dropped := (p.dropped + 1) % 2 ^ 32 })
    | none => setPartition s e.suite (fun p => { p with dropped := (p.dropped + 1) % 2 ^ 32 })

/-- The first event of the highest severity of a list. -/
def firstWorst (es : List Event) : Option Event :=
  let top := es.foldl (fun m e => max m e.sev) 0
  es.find? (fun e => e.sev == top)

/-- R361: the event that the Attic takes next, and whether it is a task's. -/
def nextEvent (s : State) : Option (Event × Bool) :=
  match firstWorst s.attic.flight, firstWorst s.attic.taskEvents with
  | some a, some b => if a.sev < b.sev then some (b, true) else some (a, false)
  | some a, none => some (a, false)
  | none, some b => some (b, true)
  | none, none => none

/-- An event that the Attic raises for itself, written at once. -/
def atticEvent (s : State) (n sev : Nat) (payload : List (BitVec 64)) : Event :=
  { suite := n, sev, code := 0x1400, time := now s, source := unitAddr s atticUnit, payload }

/-- R361: a queue of events in flight has no place left. -/
def flightFull (s : State) : Bool := (List.range 8).any (fun sev => decide (256 ≤ inFlight s sev))

/-- R361: once room has returned, the lost events are told in one record. -/
def tellLost (s : State) : State :=
  if s.attic.lostSince = 0 || flightFull s then s else
  let s := noteSeverity s atticUnit 4 stDone
  writeRecord { s with attic := { s.attic with lostSince := 0 } } (atticEvent s 0 4 [BitVec.ofNat 64 s.attic.lostSince])

/-- R115, R361: the Attic takes one event; a task's credit returns with it. -/
def takeEvent (s : State) : State :=
  match nextEvent s with
  | none => s
  | some (e, false) => tellLost (writeRecord { s with attic := { s.attic with flight := eraseFirst (· == e) s.attic.flight } } e)
  | some (e, true) =>
    let s := { s with attic := { s.attic with taskEvents := eraseFirst (· == e) s.attic.taskEvents } }
    let s := match e.ctx with | some c => setCtx s c (fun x => { x with eventCredits := min 8 (x.eventCredits + 1) }) | none => s
    writeRecord s e

/-- R361: the Attic writes one record. -/
def execAtticRecordWrite (s : State) : Host.Outcome State Fault Refusal := .next (takeEvent s)

/-! ### Laying the ring out (R364, R370) -/

/-- R364: records are discarded, the lowest severity first and the oldest within it, until the rest fit. -/
def shrinkTo (slots : Nat) : Nat → List Record → List Record
  | 0, rs => rs
  | fuel + 1, rs =>
    if rs.length ≤ slots then rs else
    match givesWay rs with
    | some old => shrinkTo slots fuel (rs.filter (fun r => r.seq != old.seq))
    | none => rs

/-- R364: a partition is brought to its slots. -/
def fitPartition (s : State) (n : Nat) : State :=
  let p := partitionAt s n
  let kept := shrinkTo (slotsOf s n) p.records.length p.records
  setPartition s n (fun p => { p with
    records := kept.mapIdx (fun i r => { r with slot := i }), dropped := (p.dropped + (p.records.length - kept.length)) % 2 ^ 32 })

/-- Inserts a record by its SEQ. -/
def insertRecord (r : Record) : List Record → List Record
  | [] => [r]
  | x :: xs => if r.seq < x.seq then r :: x :: xs else if r.seq = x.seq then x :: xs else x :: insertRecord r xs

/-- R370: a suite's records in flash are restored into its partition. Log 43 (DEDUCED). -/
def restorePartition (s : State) (n : Nat) : State :=
  let mine := s.attic.flash.filter (fun r => r.ev.suite == n)
  let s := setPartition s n (fun p =>
    let rs := mine.foldl (fun acc r => insertRecord { r with restored := true, copied := true } acc) p.records
    { p with records := rs, nextSeq := rs.foldl (fun m r => max m (r.seq + 1)) p.nextSeq })
  fitPartition s n

/-- R364: the ring after a CFG_SUITE of suite `n` that changes its partition or enables or disables it. -/
def relayout (s : State) (n : Nat) (wasEnabled : Bool) : State :=
  let on := (suiteAt s n).enabled
  let s := if !on then setPartition s n (fun _ => {}) else if !wasEnabled then restorePartition s n else s
  s.attic.parts.foldl (fun s e => if (suiteAt s e.1).enabled then fitPartition s e.1 else s) s

/-! ### Reading and clearing (R366 to R368) -/

/-- R359: the eight words of a record. -/
def recordWords (r : Record) : List (BitVec 64) :=
  let e := r.ev
  [pack [(0, 48, r.seq), (56, 8, 0xA5)], nowForm e.time,
   pack [(0, 16, secHi e.time), (16, 3, e.sev), (19, 1, b2n e.clamped), (20, 1, b2n e.fromTask.isSome), (21, 1, b2n r.restored),
     (22, 6, e.suite), (28, 5, e.fromTask.getD 0), (48, 16, e.code)],
   e.source] ++ (List.range 4).map (fun i => e.payload.getD i 0)

/-- R366: the reply of a read: FROM and TO, and the most records it may hold. -/
def readPayload (p : Partition) (from' target count : Nat) : List (BitVec 64) :=
  let high := p.nextSeq - 1
  let last := if target = 0 then high else min target high
  let got := (p.records.filter (fun r => from' ≤ r.seq && r.seq ≤ last)).take count
  let next := if count = 0 || last < from' then from'
    else if got.length = count then (got.foldl (fun m r => max m r.seq) 0) + 1 else last + 1
  [pack [(0, 48, next), (48, 8, got.length)], pack [(0, 48, high)], pack [(0, 32, next - from' - got.length), (32, 32, p.dropped)]] ++
    got.flatMap recordWords

/-- R366: ATTIC_READ. -/
def atticRead (c : Cmd) (t : Target) (s : State) : CmdResult :=
  onUnit t (· == atticUnit) s
    (let n := fld (c.word 2) 0 6
     let count := fld (c.word 2) 16 6
     if c.suite ≠ n && c.suite ≠ 0 then { s := countThreshold s c.suite, st := stRefused .threshold }
     else if c.arg ≠ 0 || count = 63 then refuse s .range
     else
       let room := ((queueAt s c.replyQueue).itemMax - 48) / 64
       { s, st := stDone, payload := readPayload (partitionAt s n) (max 1 (fld (c.word 3) 0 48)) (fld (c.word 4) 0 48) (min count room) })

/-- R366: reads records. -/
def execAtticRead (q : CmdQueue) (s : State) : Host.Outcome State Fault Refusal := .next (unitCommand q (withCode 0xD0) false atticRead s)

/-- R368: frees the records up to a SEQ and tells so in a record. -/
def clearRecords (s : State) (n upTo : Nat) : CmdResult :=
  let gone := ((partitionAt s n).records.filter (fun r => r.seq ≤ upTo)).length
  let s := setPartition s n (fun p => { p with records := p.records.filter (fun r => upTo < r.seq) })
  let s := { s with attic := { s.attic with flash := s.attic.flash.filter (fun r => r.ev.suite != n || upTo < r.seq) } }
  { s := writeRecord (noteSeverity s atticUnit 3 stDone) (atticEvent s n 3 [BitVec.ofNat 64 gone, BitVec.ofNat 64 upTo]), st := stDone, payload := [BitVec.ofNat 64 gone] }

/-- R368: ATTIC_CLEAR. -/
def execAtticClear (q : CmdQueue) (s : State) : Host.Outcome State Fault Refusal :=
  .next (unitCommand q (withCode 0xD1) false (fun c t s => onUnit t (· == atticUnit) s
    (let n := fld (c.word 2) 0 6
     ownerOnly s n c (if c.arg ≠ 0 then refuse s .range else clearRecords s n (fld (c.word 3) 0 48)))) s)

/-! ### Configuration (R369, R373) -/

/-- R369: CFG_ATTIC. -/
def configureAttic (r : CfgReq) (s : State) : CfgOut :=
  buildingCfg s (cfgUnitOnly r s (· == atticUnit) (fun _ =>
    let w := r.word 2
    let ms := fld w 16 14
    if ms < 10 || 10000 < ms then cfgDeny s (stFault .range)
    else cfgDone { s with attic := { s.attic with persistSev := fld w 0 3, persistEn := bitAt w 3, flushMs := ms } }))

/-- R369: CFG_ATTIC. -/
def execCfgAttic (c : Nat) (s : State) : Host.Outcome State Fault Refusal := .next (serveCfg c (cfgCode 0x11) configureAttic s)

/-- R373: CFG_SCRUB. -/
def configureScrub (r : CfgReq) (s : State) : CfgOut :=
  buildingCfg s (cfgUnitOnly r s (· == atticUnit) (fun _ =>
    let w := r.word 2
    let us := fld w 0 10
    if us < 5 || 1000 < us then cfgDeny s (stFault .range)
    else
      let restart := bitAt w 11
      cfgDone { s with attic := { s.attic with
        scrubInterval := us, scrubStop := bitAt w 10
        scrubLine := if restart then 0 else s.attic.scrubLine
        cycleTick := if restart then s.tick else s.attic.cycleTick } }))

/-- R373: CFG_SCRUB. -/
def execCfgScrub (c : Nat) (s : State) : Host.Outcome State Fault Refusal := .next (serveCfg c (cfgCode 0x12) configureScrub s)

/-! ### Copies in flash (R370) -/

/-- R370: the records to copy, the highest severity first. -/
def toCopy (s : State) : List Record :=
  let all := s.attic.parts.flatMap (fun e => e.2.records.filter (fun r => !r.copied && s.attic.persistSev ≤ r.ev.sev))
  ((List.range 8).reverse).flatMap (fun sev => all.filter (fun r => r.ev.sev == sev))

/-- R370: one record into the Attic area of the flash; when the area is full, R363 chooses over all of it. -/
def copyRecord (s : State) (r : Record) : State :=
  let flash := s.attic.flash
  let noted := setPartition s r.ev.suite (fun p => { p with records := mapWhere (fun x => x.seq == r.seq) (fun x => { x with copied := true }) p.records })
  if flash.length < Config.atticFlashRecords then { noted with attic := { noted.attic with flash := flash ++ [r] } }
  else match givesWay flash with
    | some old =>
      if old.ev.sev ≤ r.ev.sev then { noted with attic := { noted.attic with flash := eraseFirst (· == old) flash ++ [r] } } else noted
    | none => noted

/-- R370: copies records; those whose places are listed fail to program. -/
def copyRecords (s : State) (rs : List Record) (fails : List Nat) : State :=
  (rs.mapIdx (fun i r => (i, r))).foldl (fun s e =>
    if fails.contains e.1 then { s with attic := { s.attic with flushFails := bump 16 s.attic.flushFails } } else copyRecord s e.2) s

/-- R370: every FLUSH_MS the Attic copies records to flash. -/
def execAtticFlush (fails : List Nat) (s : State) : Host.Outcome State Fault Refusal :=
  .next (if s.tick < s.attic.flushDue then s else
    let s := { s with attic := { s.attic with flushDue := s.tick + ticksMs s.attic.flushMs } }
    if s.attic.persistEn then copyRecords s (toCopy s) fails else s)

/-! ### The scrubber (R372 to R374) -/

/-- R373: lines of data SRAM, and of the ring after them. -/
def sramLines : Nat := 2621440
def ringLines : Nat := 262144

/-- R372, R374: one byte of a data SRAM line that the scrubber finds wrong; a word whose valid bit is clear is not checked. -/
def scrubByte (s : State) (a : Nat) (uncorrectable : Bool) : State :=
  if !s.sram.valid.contains (a / 4) then s
  else if uncorrectable then meetError { s with sram := { s.sram with errors := tset 0 s.sram.errors a 2 } } a 1
  else { s with sram := { s.sram with errors := tset 0 s.sram.errors a 0 }, attic := { s.attic with sbe := (s.attic.sbe + 1) % 2 ^ 32 } }

/-- R374: the errors that stand in a line of data SRAM, and those newly found there. -/
def scrubSram (s : State) (line : Nat) (found : List Upset) : State :=
  let a := 64 * line
  let stands := (errorsIn s.sram a 64 1).map (fun x => (x, false)) ++ (errorsIn s.sram a 64 2).map (fun x => (x, true))
  let fresh := (found.filter (fun u => u.offset < 64 && !stands.any (fun e => e.1 == a + u.offset))).map (fun u => (a + u.offset, u.uncorrectable))
  (stands ++ fresh).foldl (fun s e => scrubByte s e.1 e.2) s

/-- R362: the partition and the slot of a line of the ring. -/
def ringSlot (s : State) (line : Nat) : Option (Nat × Nat) :=
  ((List.range 64).foldl (fun (acc : Option (Nat × Nat) × Nat) n =>
    let k := slotsOf s n
    (if acc.1.isNone && acc.2 ≤ line && line < acc.2 + k then some (n, line - acc.2) else acc.1, acc.2 + k)) (none, 0)).1

/-- R374: an uncorrectable error in a line of the ring frees its record. -/
def ringError (s : State) (line : Nat) : State :=
  let s := { s with attic := { s.attic with
    uncorrectable := bump 16 s.attic.uncorrectable, lastUeAddr := 64 * line, lastUeKind := 3 } }
  match ringSlot s line with
  | none => s
  | some (n, slot) =>
    raiseEvent (setPartition s n (fun p => { p with records := p.records.filter (fun r => r.slot != slot) })) [n] 4 atticUnit (stFault .error) []

/-- R372: a line of the ring. -/
def scrubRing (s : State) (line : Nat) (found : List Upset) : State :=
  let s := { s with attic := { s.attic with sbe := (s.attic.sbe + (found.filter (fun u => !u.uncorrectable)).length) % 2 ^ 32 } }
  if found.any (·.uncorrectable) then ringError s line else s

/-- R373: the scrubber goes on to the next line; after the last of the ring a cycle is complete. -/
def nextLine (s : State) : State :=
  let a := s.attic
  if a.scrubLine + 1 < sramLines + ringLines then { s with attic := { a with scrubLine := a.scrubLine + 1 } }
  else { s with attic := { a with scrubLine := 0, cycleTick := s.tick, lastCycleS := satN 16 ((s.tick - a.cycleTick) / 125000000) } }

/-- R373: the scrubber reads one line. -/
def scrub (s : State) (found : List Upset) : State :=
  if s.attic.scrubStop || s.tick < s.attic.scrubDue then s else
  let line := s.attic.scrubLine
  let s := { s with attic := { s.attic with scrubDue := s.tick + ticksUs s.attic.scrubInterval } }
  nextLine (if line < sramLines then scrubSram s line found else scrubRing s (line - sramLines) found)

/-- R373: the scrubber reads and corrects one line. -/
def execScrubLine (found : List Upset) (s : State) : Host.Outcome State Fault Refusal := .next (scrub s found)

/-- R375: status words 1 to 3 of the Attic. -/
def atticStatus (s : State) : List (BitVec 64) :=
  let a := s.attic
  [pack [(0, 32, a.records), (32, 16, a.inFlightLost), (48, 16, a.flushFails)],
   pack [(0, 32, a.sbe), (32, 16, a.uncorrectable), (48, 16, a.overwritten)],
   pack [(0, 32, a.lastUeAddr), (32, 2, a.lastUeKind), (34, 1, b2n (!a.scrubStop)), (48, 16, a.lastCycleS)]]

end Sys2Proof.Machine
end

