-- ==== Sys2Proof/Machine/Crypto.lean ====
section
/-! DEFINITION. Byte strings of the cryptographic primitives (free functions of Config) and the key store that the storage key
protects (R117, R339 to R346). -/

namespace Sys2Proof.Machine
open Sys2Proof

/-- `n` bytes of a byte function. -/
def takeBytes (n : Nat) (f : Nat → Byte) : List Byte := (List.range n).map f

/-- A fresh random string: the counter moves on. -/
def randomBytes (s : State) (n : Nat) : State × List Byte := ({ s with free := s.free + 1 }, takeBytes n (Config.randomByte s.free))

def sha384 (m : List Byte) : List Byte := takeBytes 48 (Config.sha384Byte m)

/-- AES-256-GCM: the text combined with the key stream; the inverse is the same. -/
def gcmText (key nonce text : List Byte) : List Byte := text.mapIdx (fun i b => b ^^^ Config.gcmStreamByte key nonce i)

def gcmTag (key nonce aad cipher : List Byte) : List Byte := takeBytes 16 (Config.gcmTagByte key nonce aad cipher)

/-- Ciphertext followed by the 16-byte tag. Log 34 (DESIGN CHOICE). -/
def gcmSeal (key nonce aad text : List Byte) : List Byte := gcmText key nonce text ++ gcmTag key nonce aad (gcmText key nonce text)

/-- The plaintext of a ciphertext and tag; none where the tag fails. Log 34 (DESIGN CHOICE). -/
def gcmOpen (key nonce aad sealed : List Byte) : Option (List Byte) :=
  let n := sealed.length - 16
  let cipher := sealed.take n
  if sealed.length < 16 || sealed.drop n != gcmTag key nonce aad cipher then none else some (gcmText key nonce cipher)

def hkdf (key salt info : List Byte) (n : Nat) : List Byte := takeBytes n (Config.hkdfByte key salt info)

/-! ### Key types (R341, R342) -/

/-- R342 TYPE. -/
def attrType (a : BitVec 16) : Nat := a.toNat % 16
/-- R342 CLASS. -/
def attrClass (a : BitVec 16) : Nat := a.toNat / 16 % 4
def attrExport (a : BitVec 16) : Bool := a.getLsbD 6
def attrPersist (a : BitVec 16) : Bool := a.getLsbD 7
def attrExpire (a : BitVec 16) : Bool := a.getLsbD 8
/-- R342 USES. -/
def attrUses (a : BitVec 16) : Nat := a.toNat / 1024

/-- R341: the bytes of secret, or of a public key, that a slot of a type holds. -/
def secretLen : Nat → Nat
  | 1 => 32 | 2 => 48 | 3 => 48 | 4 => 48 | 5 => 32 | 6 => 64 | 7 => 97 | 8 => 1952
  | _ => 0

/-- The length of the public key of a private key's type. -/
def publicLen : Nat → Nat
  | 3 => 97 | 4 => 97 | 5 => 1952 | 6 => 1184
  | _ => 0

/-- R391: the length of a signature of a type. -/
def signatureLen (t : Nat) : Nat := if t = 3 || t = 7 then 96 else 3309

/-- The public key that verifies for a key: its own bytes when it is a public key. -/
def publicOf (t : Nat) (secret : List Byte) : List Byte :=
  if t = 7 || t = 8 then secret else takeBytes (publicLen t) (Config.publicByte t secret)

/-! ### The lifecycle root (R339) -/

/-- The name of a lifecycle state, as bytes. -/
def lifecycleName (code : Nat) : List Byte :=
  let name : List Char := match code with
    | 1 => ['M', 'A', 'K', 'E', 'R']
    | 3 => ['F', 'I', 'E', 'L', 'D']
    | 7 => ['R', 'E', 'T', 'U', 'R', 'N']
    | 15 => ['S', 'C', 'R', 'A', 'P']
    | _ => ['B', 'L', 'A', 'N', 'K']
  name.map (fun c => BitVec.ofNat 8 c.toNat)

/-- R339: the lifecycle root. -/
def lifecycleRoot (s : State) : List Byte :=
  hkdf (s.cellar.deviceSecret.flatMap (fun w => bytesOf 4 w.toNat)) [] (lifecycleName s.cellar.lifecycle) 48

/-- R339, R341: the private half of fixed key `n`. Log 35 (DESIGN CHOICE). -/
def fixedSecret (s : State) (n : Nat) : List Byte := takeBytes (if n = 0 then 48 else 32) (Config.identityByte (lifecycleRoot s) n)

/-! ### Slots as byte strings (R231 KEY) -/

/-- A slot as the mirror carries it: with a nonce of 12 bytes and a tag of 16 around it, whole words. Log 56 (DEDUCED). -/
def keyBytes (k : Key) : List Byte :=
  bytesOf 1 (b2n k.present) ++ bytesOf 2 k.gen ++ bytesOf 1 k.suite ++ bytesOf 2 k.attr.toNat ++ bytesOf 4 k.parent.toNat ++
    bytesOf 1 k.depth ++ bytesOf 1 k.usesLeft ++ bytesOf 6 k.created.sec ++ bytesOf 4 k.created.ns ++
    bytesOf 2 k.secret.length ++ k.secret ++ bytesOf ((12 - k.secret.length % 8) % 8) 0

/-- The slot that a byte string of the mirror spells. -/
def keyOfBytes (b : List Byte) : Key :=
  let at' := fun (lo n : Nat) => natOf ((b.drop lo).take n)
  { present := at' 0 1 != 0, gen := at' 1 2, suite := at' 3 1, attr := BitVec.ofNat 16 (at' 4 2), parent := BitVec.ofNat 32 (at' 6 4)
    depth := at' 10 1, usesLeft := at' 11 1, created := { sec := at' 12 6, ns := at' 18 4 }, secret := (b.drop 24).take (at' 22 2) }

/-- R231, R232: a changed slot goes into the mirror delta, wrapped under the pair transfer key. Log 54 (DESIGN CHOICE). -/
def mirrorKey (s : State) (slot : Nat) : State :=
  match s.twin.transferKey with
  | none => s
  | some key =>
    if !followed s then s else
    let r := randomBytes s 12
    mirror r.1 (.key slot (r.2 ++ gcmSeal key r.2 [] (keyBytes (keyAt s slot))))

/-- The slots that differ between two states go into the mirror delta. -/
def mirrorChanges (old new : State) (slots : List Nat) : State :=
  slots.foldl (fun s n => if keyAt old n = keyAt new n then s else mirrorKey s n) new

/-! ### Creating keys (R338, R340, R341, R346) -/

/-- R338, R160: the slots that a suite holds, its root included. -/
def slotsHeld (s : State) (suite : Nat) : Nat := (s.cellar.keys.filter (fun e => e.2.present && e.2.suite == suite)).length

/-- R341: the free general slot that was destroyed longest ago; one never destroyed comes before any. Log 30 (DEDUCED). -/
def freeSlot (s : State) : Option Nat :=
  match (rangeFrom s.cellar.fresh (0x2000 - s.cellar.fresh)).find? (fun n => !(keyAt s n).present) with
  | some n => some n
  | none => s.cellar.freed.find? (fun n => !(keyAt s n).present)

/-- A key takes a slot; a persistent one is written to flash (R346). -/
def placeKey (s : State) (slot : Nat) (k : Key) : State :=
  let s := setKey s slot (fun _ => k)
  { s with cellar := { s.cellar with
    flashKeys := if attrPersist k.attr then tput s.cellar.flashKeys slot k else s.cellar.flashKeys
    freed := s.cellar.freed.filter (· != slot)
    fresh := if slot = s.cellar.fresh then slot + 1 else s.cellar.fresh } }

/-- R340: a suite root: a random HKDF secret, kept in flash. Log 29 (DEDUCED). -/
def createRoot (s : State) (n : Nat) : State :=
  if !s.cellar.hasRoot || s.cellar.wiped then s else
  let r := randomBytes s 48
  placeKey r.1 n { present := true, gen := 0, suite := n, attr := 0x82, secret := r.2, depth := 1, created := now s }

/-- R340: a suite root is created when its suite is first enabled. Log 29 (DEDUCED). -/
def ensureRoot (s : State) (n : Nat) : State := if (keyAt s n).present then s else mirrorChanges s (createRoot s n) [n]

end Sys2Proof.Machine
end

