-- ==== Sys2Proof/Machine/CellarOps.lean ====
section
/-! DEFINITION. The Cellar's key operations (R116 to R118, R341 to R347, R350, R356). -/

namespace Sys2Proof.Machine
open Sys2Proof

/-! ### Requests -/

/-- How a key request ends. -/
structure KeyEnd where
  s : State
  st : Status
  result : BitVec 64 := 0

def keyDone (s : State) (result : Nat) : KeyEnd := { s, st := stDone, result := BitVec.ofNat 64 result }
def keyStop (s : State) (st : Status) : KeyEnd := { s, st }

def KeyReq.word (r : KeyReq) (i : Nat) : BitVec 64 := r.words.getD i 0
def KeyReq.handle (r : KeyReq) : BitVec 32 := BitVec.ofNat 32 (fld (r.word 0) 0 32)
def KeyReq.handle2 (r : KeyReq) : BitVec 32 := BitVec.ofNat 32 (fld (r.word 0) 32 32)
def KeyReq.attr (r : KeyReq) : BitVec 16 := BitVec.ofNat 16 (fld (r.word 1) 32 16)

/-- R116: the length field of a buffer word. -/
def bufLen (w : BitVec 64) : Nat := fld w 32 32
def bufAddr (w : BitVec 64) : Nat := fld w 0 32

/-- R118: reads a buffer of the issuing suite's window under the Threshold; a refused access ends the request with
FAULT(THRESHOLD), an uncorrectable error with FAULT(ERROR). Log 32 (DEDUCED). -/
def withBuffer (r : KeyReq) (w : BitVec 64) (s : State) (go : List Byte → State → KeyEnd) : KeyEnd :=
  let u := suiteAt s r.suite
  let a := bufAddr w
  let n := bufLen w
  if n = 0 then go [] s
  else if !windowAllows u .load a n then keyStop (countThreshold s r.suite) (stFault .threshold)
  else match uncorrectableIn s (u.winBase + a) n with
    | some e => keyStop (meetError s e 2) (stFault .error)
    | none => go (readBytes s.sram (u.winBase + a) n) (correctErrors s (u.winBase + a) n)

/-- R117, R118: writes OUT: REFUSED(SIZE) where it is too short. Log 32 (DEDUCED). -/
def putOut (r : KeyReq) (bs : List Byte) (s : State) (go : State → KeyEnd) : KeyEnd :=
  let u := suiteAt s r.suite
  let a := bufAddr (r.word 3)
  if bufLen (r.word 3) < bs.length then keyStop s (stRefused .size)
  else if bs.isEmpty then go s
  else if !windowAllows u .store a bs.length then keyStop (countThreshold s r.suite) (stFault .threshold)
  else go (storeBytes s r.ctx u a bs)

/-- A key that a handle names: a slot, or one of the fixed keys (R341). -/
inductive KeyRef where
  | slot (n : Nat)
  | fixed (n : Nat)
deriving DecidableEq, Repr

/-- R116, R341: the key that a handle names; none for a stale handle. -/
def findKey (s : State) (h : BitVec 32) : Option KeyRef :=
  if handleGen h = 0x1FFF then (if handleSuite h = 0 && handleSlot h ≤ 1 then some (.fixed (handleSlot h)) else none)
  else (liveSlot s h).map .slot

/-- A suite root (R338). -/
def isRoot (n : Nat) : Bool := n < 0x40

def refType (s : State) : KeyRef → Nat
  | .slot n => attrType (keyAt s n).attr
  | .fixed n => if n = 0 then 3 else 5

def refSecret (s : State) : KeyRef → List Byte
  | .slot n => (keyAt s n).secret
  | .fixed n => fixedSecret s n

/-- Runs on the key of a handle; a stale one completes with FAULT(BINDING). -/
def onKey (s : State) (h : BitVec 32) (go : KeyRef → KeyEnd) : KeyEnd :=
  match findKey s h with
  | none => keyStop s (stFault .binding)
  | some k => go k

/-- Runs on a general key of one of some types: anything else completes with REFUSED(STATE) (R340, R343). -/
def onTyped (s : State) (h : BitVec 32) (types : List Nat) (go : Nat → KeyEnd) : KeyEnd :=
  onKey s h (fun k => match k with
    | .slot n => if !isRoot n && types.contains (attrType (keyAt s n).attr) then go n else keyStop s (stRefused .state)
    | .fixed _ => keyStop s (stRefused .state))

/-- R345: one use of a key: the use that reaches USES destroys it and its descendants. -/
def useKey (s : State) (slot : Nat) : State :=
  let k := keyAt s slot
  if attrClass k.attr = 1 && attrUses k.attr != 0 then
    if k.usesLeft ≤ 1 then destroyKeys s [slot] else placeKey s slot { k with usesLeft := k.usesLeft - 1 }
  else s

/-- R116, R345: the handles that a request names; 0 as HANDLE2 names none. -/
def namedHandles (r : KeyReq) : List (BitVec 32) := r.handle :: (if r.handle2 = 0 then [] else [r.handle2])

/-- R345: the slots of the keys that a request names, each once. -/
def namedSlots (s : State) (r : KeyReq) : List Nat :=
  ((namedHandles r).filterMap (fun h => match findKey s h with | some (.slot n) => some n | _ => none)).eraseDups

/-- R345: KDERIVE to KEXPORT, whose executions are uses. -/
def countsUse (op : Nat) : Bool := 2 ≤ op && op ≤ 8

/-- R345: counts the use of the keys named, when the request ends with DONE or REFUSED(CHECK). Log 41 (DEDUCED). -/
def countUses (slots : List Nat) (e : KeyEnd) : KeyEnd :=
  if e.st = stDone || e.st = stRefused .check then { e with s := slots.foldl useKey e.s } else e

/-! ### Creating (R338, R340 to R343) -/

/-- R342: the conditions that an ATTR must keep. -/
def attrOk (suite : Nat) (a : BitVec 16) (types : List Nat) : Bool :=
  let cls := attrClass a
  types.contains (attrType a) && cls != 3 && (cls != 2 || suite == 0) && (!attrExport a || cls == 0) && (!attrPersist a || cls != 1) &&
    (!attrExpire a || cls == 1) && (attrUses a == 0 || cls == 1)

/-- The slot of a parent: any key of a slot; a fixed key is none. Log 30 (DEDUCED). -/
def onParent (s : State) (h : BitVec 32) (go : Nat → KeyEnd) : KeyEnd :=
  onKey s h (fun k => match k with | .slot n => go n | .fixed _ => keyStop s (stRefused .state))

/-- R338, R341, R160: a new key as a child of a slot: no deeper than 6, within the suite's quota. Log 30 (DEDUCED). -/
def createKey (s : State) (parent : Nat) (attr : BitVec 16) (secret : List Byte) : KeyEnd :=
  let p := keyAt s parent
  match freeSlot s with
  | none => keyStop s (stRefused .state)
  | some slot =>
    if 6 ≤ p.depth || (suiteAt s p.suite).keyQuota ≤ slotsHeld s p.suite then keyStop s (stRefused .state)
    else
      let gen := (keyAt s slot).gen
      let k : Key := { present := true, gen, suite := p.suite, attr, secret, parent := slotHandle s parent, depth := p.depth + 1
                       usesLeft := attrUses attr, created := now s }
      keyDone (placeKey s slot k) (mkHandle slot p.suite gen).toNat

/-- R117: KGEN. Log 30 (DEDUCED). -/
def keyGen (r : KeyReq) (s : State) : KeyEnd :=
  onParent s r.handle (fun p =>
    if !attrOk (keyAt s p).suite r.attr [1, 2, 3, 4, 5, 6] then keyStop s (stFault .range)
    else let x := randomBytes s (secretLen (attrType r.attr))
      createKey x.1 p r.attr x.2)

/-- R117: KDERIVE: the parent is a suite root or an HKDF secret. -/
def keyDerive (r : KeyReq) (s : State) : KeyEnd :=
  onParent s r.handle (fun p =>
    if attrType (keyAt s p).attr ≠ 2 then keyStop s (stRefused .state)
    else if !attrOk (keyAt s p).suite r.attr [1, 2] then keyStop s (stFault .range)
    else if 64 < bufLen (r.word 4) || 48 < bufLen (r.word 5) then keyStop s (stRefused .size)
    else withBuffer r (r.word 4) s (fun info s => withBuffer r (r.word 5) s (fun salt s =>
      createKey s p r.attr (hkdf (keyAt s p).secret salt info (secretLen (attrType r.attr))))))

/-! ### Sealing and signing (R117) -/

/-- R117: IN is at most 65,536 bytes. -/
def inTooLong (r : KeyReq) : Bool := 65536 < bufLen (r.word 2)

/-- R117: KSEAL. -/
def keySeal (r : KeyReq) (s : State) : KeyEnd :=
  onTyped s r.handle [1] (fun k =>
    if inTooLong r || bufLen (r.word 4) ≠ 12 || bufLen (r.word 3) < bufLen (r.word 2) + 16 then keyStop s (stRefused .size)
    else withBuffer r (r.word 2) s (fun text s => withBuffer r (r.word 4) s (fun nonce s => withBuffer r (r.word 5) s (fun aad s =>
      let sealed := gcmSeal (keyAt s k).secret nonce aad text
      putOut r sealed s (fun s => keyDone s sealed.length)))))

/-- R117: KOPEN: a failed tag leaves OUT unwritten. -/
def keyOpen (r : KeyReq) (s : State) : KeyEnd :=
  onTyped s r.handle [1] (fun k =>
    if inTooLong r || bufLen (r.word 2) < 16 || bufLen (r.word 4) ≠ 12 || bufLen (r.word 3) + 16 < bufLen (r.word 2) then keyStop s (stRefused .size)
    else withBuffer r (r.word 2) s (fun sealed s => withBuffer r (r.word 4) s (fun nonce s => withBuffer r (r.word 5) s (fun aad s =>
      match gcmOpen (keyAt s k).secret nonce aad sealed with
      | none => keyStop s (stRefused .check)
      | some text => putOut r text s (fun s => keyDone s text.length)))))

/-- R117, R341: KSIGN, with a key of TYPE 3 or 5 or a fixed key. -/
def keySign (r : KeyReq) (s : State) : KeyEnd :=
  onKey s r.handle (fun k =>
    let t := refType s k
    if t ≠ 3 && t ≠ 5 then keyStop s (stRefused .state)
    else if inTooLong r || bufLen (r.word 3) < signatureLen t then keyStop s (stRefused .size)
    else withBuffer r (r.word 2) s (fun msg s =>
      let sig := takeBytes (signatureLen t) (Config.signByte s.free t (refSecret s k) msg)
      putOut r sig { s with free := s.free + 1 } (fun s => keyDone s sig.length)))

/-- R117: KVERIFY: the signature is in AUX. -/
def keyVerify (r : KeyReq) (s : State) : KeyEnd :=
  onTyped s r.handle [3, 5, 7, 8] (fun k =>
    let t := attrType (keyAt s k).attr
    if inTooLong r || bufLen (r.word 4) ≠ signatureLen t then keyStop s (stRefused .size)
    else withBuffer r (r.word 2) s (fun msg s => withBuffer r (r.word 4) s (fun sig s =>
      if Config.verifies t (publicOf t (keyAt s k).secret) msg sig then keyDone s 0 else keyStop s (stRefused .check))))

/-- R117, R343: KAGREE: the shared secret becomes a child of HANDLE. Log 31 (DEDUCED), 35 (DESIGN CHOICE). -/
def keyAgree (r : KeyReq) (s : State) : KeyEnd :=
  onTyped s r.handle [4, 6] (fun k =>
    let t := attrType (keyAt s k).attr
    if !attrOk (keyAt s k).suite r.attr [1, 2] then keyStop s (stFault .range)
    else if bufLen (r.word 2) ≠ (if t = 4 then 97 else 1088) then keyStop s (stRefused .size)
    else withBuffer r (r.word 2) s (fun peer s =>
      match Config.agree t (keyAt s k).secret peer with
      | none => keyStop s (stRefused .check)
      | some shared =>
        let secret := if t = 4 && attrType r.attr = 1 then takeBytes 32 (Config.agreedByte shared) else shared
        createKey s k r.attr secret))

/-! ### Export and import (R344) -/

/-- R344: the additional data of a wrapped form. Log 31 (DEDUCED). -/
def wrapAad (suite type : Nat) : List Byte := [BitVec.ofNat 8 suite, BitVec.ofNat 8 type]

/-- R344: the unwrapped public key of a private key, written to OUT. -/
def exportPublic (r : KeyReq) (k : KeyRef) (s : State) : KeyEnd :=
  let t := refType s k
  let pub := publicOf t (refSecret s k)
  putOut r pub s (fun s => keyDone s pub.length)

/-- R344: the wrapped form of a key under an AES-256 key of the same suite. Log 31 (DEDUCED). -/
def exportWrapped (r : KeyReq) (n : Nat) (s : State) : KeyEnd :=
  if isRoot n || !attrExport (keyAt s n).attr then keyStop s (stRefused .state)
  else onTyped s r.handle2 [1] (fun w =>
    let k := keyAt s n
    if (keyAt s w).suite ≠ k.suite then keyStop s (stRefused .state)
    else
      let x := randomBytes s 12
      let form := x.2 ++ gcmSeal (keyAt s w).secret x.2 (wrapAad k.suite (attrType k.attr)) (bytesOf 2 k.attr.toNat ++ k.secret)
      putOut r form x.1 (fun s => keyDone s form.length))

/-- R344: KEXPORT. Log 31 (DEDUCED). -/
def keyExport (r : KeyReq) (s : State) : KeyEnd :=
  onKey s r.handle (fun k =>
    let t := refType s k
    if r.handle2 = 0 && 3 ≤ t && t ≤ 6 then exportPublic r k s
    else match k with
      | .fixed _ => keyStop s (stRefused .state)
      | .slot n => exportWrapped r n s)

/-- R344: a wrapped form unwrapped: its tag, its suite and its TYPE must agree with the request. Log 31 (DEDUCED). -/
def importWrapped (r : KeyReq) (p w : Nat) (s : State) : KeyEnd :=
  let t := attrType r.attr
  if bufLen (r.word 2) ≠ 30 + secretLen t then keyStop s (stRefused .size)
  else withBuffer r (r.word 2) s (fun form s =>
    match gcmOpen (keyAt s w).secret (form.take 12) (wrapAad (keyAt s p).suite t) (form.drop 12) with
    | none => keyStop s (stRefused .check)
    | some text =>
      if attrType (BitVec.ofNat 16 (natOf (text.take 2))) ≠ t then keyStop s (stRefused .check)
      else createKey s p r.attr (text.drop 2))

/-- R117, R343: KIMPORT. A public key is imported as it stands when HANDLE2 is 0. Log 31 (DEDUCED). -/
def keyImport (r : KeyReq) (s : State) : KeyEnd :=
  onParent s r.handle (fun p =>
    let t := attrType r.attr
    if !attrOk (keyAt s p).suite r.attr [1, 2, 3, 4, 5, 6, 7, 8] then keyStop s (stFault .range)
    else if r.handle2 = 0 && (t = 7 || t = 8) then
      if bufLen (r.word 2) ≠ secretLen t then keyStop s (stRefused .size)
      else withBuffer r (r.word 2) s (fun pub s => createKey s p r.attr pub)
    else onTyped s r.handle2 [1] (fun w =>
      if (keyAt s w).suite ≠ (keyAt s p).suite then keyStop s (stRefused .state) else importWrapped r p w s))

/-! ### Destruction and attributes (R340, R347, R356) -/

/-- R340, R347: KDESTROY: a general key with its descendants; a suite root is rotated. Log 29 (DEDUCED). -/
def keyDestroy (r : KeyReq) (s : State) : KeyEnd :=
  onKey s r.handle (fun k => match k with
    | .fixed _ => keyStop s (stRefused .state)
    | .slot n =>
      if isRoot n then keyDone (createRoot (destroyKeys s (descendants s 6 [n])) n) 0
      else keyDone (destroyKeys s [n]) 0)

/-- R356: the 32 bytes that KINFO writes. Log 36 (DESIGN CHOICE). -/
def keyInfoWords (s : State) : KeyRef → List (BitVec 64)
  | .fixed n =>
    [pack [(0, 32, 0xFFF80000 + n), (32, 4, if n = 0 then 3 else 5), (36, 15, fld (Config.fixedKeyInfo n 0) 36 15)],
      pack [(0, 32, fld (Config.fixedKeyInfo n 1) 0 32)], Config.fixedKeyInfo n 2, pack [(0, 16, fld (Config.fixedKeyInfo n 3) 0 16)]]
  | .slot n =>
    let k := keyAt s n
    [pack [(0, 32, (slotHandle s n).toNat), (32, 16, k.attr.toNat), (48, 3, k.depth)],
      pack [(0, 32, k.parent.toNat), (32, 6, k.usesLeft)], nowForm k.created, pack [(0, 16, secHi k.created)]]

/-- R356: KINFO. -/
def keyInfo (r : KeyReq) (s : State) : KeyEnd :=
  onKey s r.handle (fun k => putOut r (wordBytes (keyInfoWords s k)) s (fun s => keyDone s 32))

/-! ### Service (R118, R345, R347, R350) -/

/-- The slot fields of the handles that a request names. -/
def slotFieldsOf (r : KeyReq) : List Nat := (namedHandles r).map handleSlot

/-- The slots that a KDESTROY would destroy. -/
def wouldDestroy (s : State) (r : KeyReq) : List Nat := handleSlot r.handle :: descendants s 6 [handleSlot r.handle]

/-- R118, R347: a request waits for one accepted before it, where one of the two is a KDESTROY that touches the other's keys. Log 33 (DESIGN CHOICE). -/
def heldBack (s : State) (r : KeyReq) : Bool :=
  s.cellar.reqs.any (fun x => x.order < r.order &&
    ((r.op == 10 && (slotFieldsOf x).any (wouldDestroy s r).contains) || (x.op == 10 && (slotFieldsOf r).any (wouldDestroy s x).contains)))

/-- The head request of each suite that has one which need not wait. -/
def keyHeads (s : State) : List KeyReq :=
  (List.range 64).filterMap (fun n => (s.cellar.reqs.find? (fun r => r.suite == n)).filter (fun r => !heldBack s r))

/-- R350: the Cellar runs up to four requests at once, taking the suites that were served longest ago. Log 33 (DESIGN CHOICE). -/
def keyTurn (s : State) (r : KeyReq) : Bool :=
  let stamp := fun (n : Nat) => tget 0 s.cellar.served n
  ((keyHeads s).filter (fun x => stamp x.suite < stamp r.suite || (stamp x.suite == stamp r.suite && x.suite < r.suite))).length < 4

/-- R339, R348: no key operation runs without a lifecycle root, or after a wipe. A device secret that has no value is reported as
FAULT(INTERNAL) (R353). Log 37 (DEDUCED). -/
def keyBarred (s : State) : Option Status :=
  if s.cellar.wiped || s.cellar.lifecycle = 0 || s.cellar.lifecycle = 15 then some (stRefused .state)
  else if !s.cellar.secretValid then some (stFault .internal)
  else if !s.cellar.hasRoot then some (stRefused .state)
  else none

/-- R116, R341, R345, R350: the Cellar serves the head request of a suite, when it is of this operation; otherwise nothing happens. A request
that names a stale handle completes with FAULT(BINDING). Log 6 (DESIGN CHOICE), 33 (DESIGN CHOICE). -/
def serveKey (suite op : Nat) (run : KeyReq → State → KeyEnd) (s : State) : State :=
  match s.cellar.reqs.find? (fun r => r.suite == suite) with
  | none => s
  | some r =>
    if r.op != op || heldBack s r || !keyTurn s r then s else
    let last := (s.cellar.served.map (·.2)).foldl max 0
    let s := { s with cellar := { s.cellar with
      reqs := eraseFirst (fun x => x.suite == suite) s.cellar.reqs, served := tset 0 s.cellar.served suite (last + 1) } }
    let e := match keyBarred s with
      | some st => keyStop s st
      | none => if (namedHandles r).any (fun h => (findKey s h).isNone) then keyStop s (stFault .binding) else run r s
    let e := if countsUse op then countUses (namedSlots s r) e else e
    let s' := mirrorChanges s e.s ((s.cellar.keys ++ e.s.cellar.keys).map (·.1)).eraseDups
    completeKey s' r e.st e.result

/-- R117: creates a random key under a parent. -/
def execKgen (suite : Nat) (s : State) : Host.Outcome State Fault Refusal := .next (serveKey suite 1 keyGen s)
/-- R117: derives a key with HKDF-SHA-384. -/
def execKderive (suite : Nat) (s : State) : Host.Outcome State Fault Refusal := .next (serveKey suite 2 keyDerive s)
/-- R117: encrypts with AES-256-GCM. -/
def execKseal (suite : Nat) (s : State) : Host.Outcome State Fault Refusal := .next (serveKey suite 3 keySeal s)
/-- R117: decrypts and checks with AES-256-GCM. -/
def execKopen (suite : Nat) (s : State) : Host.Outcome State Fault Refusal := .next (serveKey suite 4 keyOpen s)
/-- R117: signs. -/
def execKsign (suite : Nat) (s : State) : Host.Outcome State Fault Refusal := .next (serveKey suite 5 keySign s)
/-- R117: verifies a signature. -/
def execKverify (suite : Nat) (s : State) : Host.Outcome State Fault Refusal := .next (serveKey suite 6 keyVerify s)
/-- R117: agrees a shared secret. -/
def execKagree (suite : Nat) (s : State) : Host.Outcome State Fault Refusal := .next (serveKey suite 7 keyAgree s)
/-- R344: exports a key. -/
def execKexport (suite : Nat) (s : State) : Host.Outcome State Fault Refusal := .next (serveKey suite 8 keyExport s)
/-- R117: imports a key. -/
def execKimport (suite : Nat) (s : State) : Host.Outcome State Fault Refusal := .next (serveKey suite 9 keyImport s)
/-- R347: destroys a key. -/
def execKdestroy (suite : Nat) (s : State) : Host.Outcome State Fault Refusal := .next (serveKey suite 10 keyDestroy s)
/-- R356: tells a key's attributes. -/
def execKinfo (suite : Nat) (s : State) : Host.Outcome State Fault Refusal := .next (serveKey suite 11 keyInfo s)

end Sys2Proof.Machine
end

