-- ==== Sys2Proof/Machine/Clock.lean ====
section
/-! DEFINITION. The house clock: settings, jumps, slews and its status (R282 to R286). -/

namespace Sys2Proof.Machine
open Sys2Proof

/-- The house clock unit. -/
abbrev clockUnit : UnitId := engineUnit 7

def setClock (s : State) (f : HouseClock → HouseClock) : State := { s with clock := f s.clock }

/-- R282: an INCREMENT within 8 ns ± 0.05 %. -/
def incrementOk (inc : Nat) : Bool := 0x07FEF9DC ≤ inc && inc ≤ 0x08010624

/-- R285: a change waits for its announced tick. -/
def announce (s : State) (c : ClockChange) : State := setClock s (fun k => { k with waiting := k.waiting ++ [c] })

/-- R284: whether a jump of a size exceeds JUMP_THRESHOLD. -/
def exceeds (s : State) (size : Int) : Bool := (s.clock.threshold : Int) < size.natAbs

/-- R284: a jump above the threshold is refused; its size is taken against the present. -/
def refuseJump (s : State) (size : Int) : State :=
  let s := setClock s (fun k => { k with jumpRefused := true, refusedJumps := bump 16 k.refusedJumps })
  raiseEvent s [0] 4 clockUnit (stRefused .range) [ofInt64 size]

/-- R284, R289: a SET; one while SET is 0 is the initial setting. It is judged against the present time. Log 69 (DEDUCED). -/
def setJump (s : State) (target : Time80) (force : Bool) : State × Status :=
  let size := tdiff target (now s)
  if !s.clock.isSet then (announce s (.jump target true false), stDone)
  else if exceeds s size && !force then (refuseJump s size, stRefused .range)
  else (announce s (.jump target false (exceeds s size)), stDone)

/-- R284: a STEP. -/
def stepJump (s : State) (offset : Int) (force : Bool) : State × Status :=
  if exceeds s offset && !force then (refuseJump s offset, stRefused .range)
  else (announce s (.step offset (exceeds s offset)), stDone)

/-! ### CFG_CLOCK (R283) -/

/-- R283: CFG_CLOCK on the house clock; on a STANDBY only THRESHOLD is accepted. Log 69 (DEDUCED). -/
def configureClock (r : CfgReq) (s : State) (run : CfgOut) : CfgOut :=
  buildingCfg s (cfgUnitOnly r s (· == clockUnit) (fun _ =>
    if s.twin.role = .standby && fld (r.word 2) 0 2 != 2 then cfgDeny s (stRefused .state) else run))

/-- R283: OP 0. -/
def clockSet (r : CfgReq) (s : State) : CfgOut :=
  configureClock r s (
    let target := ofNowForm (r.word 3) (fld (r.word 2) 16 16)
    if giga ≤ target.ns then cfgDeny s (stFault .range) else
    let j := setJump s target (bitAt (r.word 2) 2)
    .ends { s := j.1, st := j.2 })

/-- R283: OP 1. -/
def clockStep (r : CfgReq) (s : State) : CfgOut :=
  configureClock r s (
    let j := stepJump s (sfld (r.word 3) 0 64) (bitAt (r.word 2) 2)
    .ends { s := j.1, st := j.2 })

/-- R283: OP 2. -/
def clockThreshold (r : CfgReq) (s : State) : CfgOut :=
  configureClock r s (
    let v := fld (r.word 3) 0 32
    if v < 1000 || 4000000000 < v then cfgDeny s (stFault .range) else cfgDone (setClock s (fun k => { k with threshold := v })))

/-- R283: OP 3. -/
def clockIncrement (r : CfgReq) (s : State) : CfgOut :=
  configureClock r s (
    let v := fld (r.word 2) 32 32
    if !incrementOk v then cfgDeny s (stFault .range) else cfgDone (announce s (.increment v)))

/-- CFG_CLOCK with an OP. -/
def clockOp (op : Nat) (r : CfgReq) : Bool := cfgCode 0x0A r && fld (r.word 2) 0 2 == op

/-- R283: CFG_CLOCK SET. -/
def execCfgClockSet (c : Nat) (s : State) : Host.Outcome State Fault Refusal := .next (serveCfg c (clockOp 0) clockSet s)

/-- R283: CFG_CLOCK STEP. -/
def execCfgClockStep (c : Nat) (s : State) : Host.Outcome State Fault Refusal := .next (serveCfg c (clockOp 1) clockStep s)

/-- R283: CFG_CLOCK THRESHOLD. -/
def execCfgClockThreshold (c : Nat) (s : State) : Host.Outcome State Fault Refusal := .next (serveCfg c (clockOp 2) clockThreshold s)

/-- R283: CFG_CLOCK INCREMENT. -/
def execCfgClockIncrement (c : Nat) (s : State) : Host.Outcome State Fault Refusal := .next (serveCfg c (clockOp 3) clockIncrement s)

/-! ### CLOCK_TRIM (R283) -/

/-- R283: CLOCK_TRIM, which the owner lock does not refuse and a STANDBY does. Log 69 (DEDUCED). -/
def trimCommand (c : Cmd) (t : Target) (s : State) (run : CmdResult) : CmdResult :=
  onUnit t (· == clockUnit) s (ownerOnly s 0 c (if s.twin.role = .standby then refuse s .state else run))

/-- R283: ARG 0; an ARG that no row lists is refused here. Log 9 (DEDUCED). -/
def trimIncrement (c : Cmd) (t : Target) (s : State) : CmdResult :=
  trimCommand c t s (
    let v := fld (c.word 3) 0 32
    if c.arg != 0 || !incrementOk v then refuse s .range else { s := announce s (.increment v), st := stDone })

/-- R283: ARG 1. -/
def trimSlew (c : Cmd) (t : Target) (s : State) : CmdResult :=
  trimCommand c t s (
    let v := fld (c.word 3) 0 32
    let n := fld (c.word 3) 32 32
    if !incrementOk v || n = 0 then refuse s .range else { s := announce s (.slew v n), st := stDone })

/-- R283: ARG 2. -/
def trimStep (c : Cmd) (t : Target) (s : State) : CmdResult :=
  trimCommand c t s (
    let j := stepJump s (sfld (c.word 3) 0 64) false
    { s := j.1, st := j.2 })

/-- R283: CLOCK_TRIM INCREMENT. -/
def execClockTrimIncrement (q : CmdQueue) (s : State) : Host.Outcome State Fault Refusal :=
  .next (unitCommand q (fun c => withCode 0x80 c && c.arg != 1 && c.arg != 2) false trimIncrement s)

/-- R283: CLOCK_TRIM SLEW. -/
def execClockTrimSlew (q : CmdQueue) (s : State) : Host.Outcome State Fault Refusal :=
  .next (unitCommand q (fun c => withCode 0x80 c && c.arg == 1) false trimSlew s)

/-- R283: CLOCK_TRIM STEP. -/
def execClockTrimStep (q : CmdQueue) (s : State) : Host.Outcome State Fault Refusal :=
  .next (unitCommand q (fun c => withCode 0x80 c && c.arg == 2) false trimStep s)

/-! ### The announced tick (R285) -/

/-- R284: what an accepted jump other than the initial setting counts in. Log 69 (DEDUCED). -/
def countJump (k : HouseClock) (size : Int) (forced : Bool) : HouseClock :=
  { k with jumps := bump 16 k.jumps, lastJump := size, forcedSeen := k.forcedSeen || forced }

/-- R284, R285: one change takes effect. Log 69 (DEDUCED). -/
def applyChange (k : HouseClock) : ClockChange → HouseClock
  | .jump target initial forced =>
    let k := if initial then k else countJump k (tdiff target k.time) forced
    { k with time := target, frac := 0, isSet := true }
  | .step offset forced => { countJump k offset forced with time := taddNs k.time offset }
  | .increment inc => { k with increment := inc }
  | .slew inc ticks => { k with slewInc := inc, slewLeft := ticks }

/-! ### Trim windows of the Mantel clock (R384) -/

/-- The Mantel count in crystal ticks. -/
def Mantel.count (m : Mantel) : Nat := m.seconds * 32768 + m.fraction

/-- R384: a trim window in progress is abandoned. -/
def Mantel.abandon (m : Mantel) : Mantel := { m with window := none }

/-- R384: what happens to a reference abandons the window that measures against it. Log 79 (DEDUCED). -/
def abandonTrim (s : State) (source : Nat) : State :=
  if s.mantel.trimSrc = source then { s with mantel := s.mantel.abandon } else s

/-- R384: a trim window begins. -/
def Mantel.beginWindow (m : Mantel) (t : Time80) : Mantel := { m with window := some { start := t, count := m.count } }

/-- R384: a trim window ends, and the next one begins. -/
def Mantel.closeWindow (m : Mantel) (w : TrimWindow) (t : Time80) : Mantel :=
  { m.beginWindow t with trimDone := some (m.count - w.count) }

/-- R384: the Mantel clock measures its rate against a source: it counts, on VIO33. -/
def measures (m : Mantel) (source : Nat) : Bool := m.trimSrc == source && !m.halt && !m.onBackup

/-- R384: windows of 1,024 s of house time follow one another while the house clock is SET. Log 5 (DESIGN CHOICE), 79 (DEDUCED). -/
def trimTick (s : State) : State :=
  if !measures s.mantel 1 then s
  else if !s.clock.isSet || s.clock.clkFault then { s with mantel := s.mantel.abandon }
  else { s with mantel := match s.mantel.window with
    | none => s.mantel.beginWindow s.clock.time
    | some w => if tdiff s.clock.time w.start < 1024 * giga then s.mantel else s.mantel.closeWindow w s.clock.time }

/-- R384: the mains cycles of a window: `n` more have passed, of which a window counts 51,200 at 50 Hz and 61,440 at 60 Hz. Log 79 (DEDUCED). -/
def trimMains (s : State) (hz60 : Bool) (n : Nat) : State :=
  if !measures s.mantel 2 then s
  else { s with mantel := match s.mantel.window with
    | none => s.mantel.beginWindow s.clock.time
    | some w => if (if hz60 then 61440 else 51200) ≤ w.cycles + n then s.mantel.closeWindow w s.clock.time
      else { s.mantel with window := some { w with cycles := w.cycles + n } } }

/-- A change that is a jump. -/
def isJump : ClockChange → Bool
  | .jump _ _ _ | .step _ _ => true
  | _ => false

/-- R283: the increment that a tick adds: the slew's while it lasts. -/
def HouseClock.rate (k : HouseClock) : Nat := if 0 < k.slewLeft then k.slewInc else k.increment

/-- The counter of the house clock as one number, in 2^-24 ns. -/
def HouseClock.total (k : HouseClock) : Int := (k.time.sec * giga + k.time.ns : Nat) * 2 ^ 24 + k.frac

/-- R21, R30: a copy that takes no alignment tokens: its die's link is down, or it is stale. -/
def outOfTouch (s : State) (d : Nat) : Bool := dieLinkDown s d || (copyAt s d).stale

/-- R21, R285: a copy that misses a change from the clock `k` keeps its own count and its own increment. Log 83 (DEDUCED). -/
def missChange (k k' : HouseClock) (x : DieCopy) : DieCopy :=
  { x with offset := x.offset - (k'.total - k.total), rate := if k.rate = k'.rate then x.rate else some (x.rate.getD k.rate) }

/-- R21, R285: the copies that are out of touch miss a change of the house clock from `k`. Log 83 (DEDUCED). -/
def strayCopies (s : State) (k : HouseClock) : State :=
  ((List.range 5).filter (outOfTouch s)).foldl (fun s d => { s with copies := tmod {} s.copies d (missChange k s.clock) }) s

/-- R284: a jump above the threshold is recorded as it takes effect, with its size. Log 69 (DEDUCED). -/
def recordJump (s : State) (c : ClockChange) : State := match c with
  | .jump _ _ true | .step _ true => raiseEvent s [0] 5 clockUnit stDone [ofInt64 s.clock.lastJump]
  | _ => s

/-- R285: the tick that an alignment token names: the oldest change takes effect, in the house clock and in every copy that hears of it. -/
def changeTick (s : State) : State :=
  match s.clock.waiting with
  | [] => s
  | c :: rest =>
    let s := strayCopies (setClock s (fun k => applyChange { k with waiting := rest } c)) s.clock
    if isJump c then abandonTrim (recordJump s c) 1 else s

/-- R285: an announced change of the house clock takes effect. -/
def execClockChangeTick (s : State) : Host.Outcome State Fault Refusal := .next (clocked s (changeTick s))

/-- R283: a slew has ended: INCREMENT applies again. -/
def execSlewEnd (s : State) : Host.Outcome State Fault Refusal :=
  .next (if s.clock.slewLeft = 0 then setClock s (fun k => { k with slewInc := 0 }) else s)

/-! ### Status (R286) -/

/-- R286: status words 1 to 3 of the house clock. -/
def clockStatus (s : State) : List (BitVec 64) :=
  let k := s.clock
  [pack [(0, 32, k.increment), (32, 1, b2n k.isSet), (33, 1, b2n (k.slewLeft != 0)), (34, 1, b2n k.jumpRefused), (35, 1, b2n k.forcedSeen),
     (36, 1, b2n k.clkFault)],
   pack [(0, 32, k.threshold), (32, 16, k.refusedJumps), (48, 16, k.jumps)],
   ofInt64 k.lastJump]

end Sys2Proof.Machine
end

