-- ==== Sys2Proof/Machine/Control.lean ====
section
/-! DEFINITION. Control flow and the special registers (R58, R59, R77 to R85). -/

namespace Sys2Proof.Machine
open Sys2Proof

/-! ### Transfers of control (R77, R84) -/

/-- The pc displaced by a number of bytes, in 32 bits. -/
def pcPlus (pc : BitVec 32) (d : Int) : BitVec 32 := BitVec.ofInt 32 ((pc.toNat : Int) + d)

/-- R84: whether a taken BR, JMP or JT may go to a target: within the current loop's body or just after it. -/
def loopAllows (x : Ctx) (t : BitVec 32) : Bool :=
  match currentLoop x with
  | none => true
  | some l => l.start.toNat ≤ t.toNat && t.toNat ≤ l.last.toNat + 4

/-- R84: a jump to the address after the body pops the loop. -/
def leaveLoop (x : Ctx) (t : BitVec 32) : Ctx :=
  match currentLoop x with
  | some l => if t = l.last + 4 then { x with loops := x.loops.tail } else x
  | none => x

/-- R77, R84: a taken BR or JMP by a displacement in words. -/
def transfer (e : Env) (s : State) (x : Ctx) (disp : Int) : Did :=
  let t := pcPlus x.pc (4 * disp)
  if !isMgmt e.k && disp < 1 then .fault .illegal .none 0
  else if !loopAllows x t then .fault .illegal .none 0
  else .goto s (leaveLoop x t) t

/-- R78: a BR: it transfers control when its condition holds. -/
def branch (k cond : Nat) (f : FmtB) (test : BitVec 64 → BitVec 64 → Bool) (s : State) : Host.Outcome State Fault Refusal :=
  .next (runInsn k (encB cond f) (fun e s x =>
    if test (rget x f.rs1) (rget x f.rs2) then transfer e s x f.disp.toInt else .next s x) s)

/-- R78: equal. -/
def execBeq (k : Nat) (f : FmtB) (s : State) : Host.Outcome State Fault Refusal := branch k 0 f (· == ·) s

/-- R78: not equal. -/
def execBne (k : Nat) (f : FmtB) (s : State) : Host.Outcome State Fault Refusal := branch k 1 f (· != ·) s

/-- R78: less, signed. -/
def execBlt (k : Nat) (f : FmtB) (s : State) : Host.Outcome State Fault Refusal := branch k 2 f BitVec.slt s

/-- R78: greater or equal, signed. -/
def execBge (k : Nat) (f : FmtB) (s : State) : Host.Outcome State Fault Refusal := branch k 3 f (fun a b => !BitVec.slt a b) s

/-- R78: less, unsigned. -/
def execBltu (k : Nat) (f : FmtB) (s : State) : Host.Outcome State Fault Refusal := branch k 4 f BitVec.ult s

/-- R78: greater or equal, unsigned. -/
def execBgeu (k : Nat) (f : FmtB) (s : State) : Host.Outcome State Fault Refusal := branch k 5 f (fun a b => !BitVec.ult a b) s

/-- R78: PC := PC + 4 × disp25. -/
def execJmp (k : Nat) (f : FmtJ) (s : State) : Host.Outcome State Fault Refusal :=
  .next (runInsn k (encJ 0x11 f) (fun e s x => transfer e s x f.disp.toInt) s)

/-- R79: pushes PC + 4 with the loop depth and jumps. -/
def execCall (k : Nat) (f : FmtJ) (s : State) : Host.Outcome State Fault Refusal :=
  .next (runInsn k (encJ 0x12 f) (fun _ s x =>
    if 16 ≤ x.calls.length then .fault .stack .none 0
    else .goto s { x with calls := { ret := x.pc + 4, depth := x.loops.length } :: x.calls } (pcPlus x.pc (4 * f.disp.toInt))) s)

/-- R80: no operation. -/
def execNop (k : Nat) (f : FmtA) (s : State) : Host.Outcome State Fault Refusal :=
  .next (runInsn k (encA 0x13 0 f) (fun _ s x => .next s x) s)

/-- R80: pops the call stack into the pc. -/
def execRet (k : Nat) (f : FmtA) (s : State) : Host.Outcome State Fault Refusal :=
  .next (runInsn k (encA 0x13 1 f) (fun _ s x =>
    match x.calls with
    | [] => .fault .stack .none 0
    | c :: cs => if c.depth < x.loops.length then .fault .illegal .none 0 else .goto s { x with calls := cs } c.ret) s)

/-- R63: completes when every earlier store is visible: here every store is visible at once. -/
def execFence (k : Nat) (f : FmtA) (s : State) : Host.Outcome State Fault Refusal :=
  .next (runInsn k (encA 0x13 2 f) (fun _ s x => .next s x) s)

/-- R80: ends the cycle. -/
def execEndCycle (k : Nat) (f : FmtA) (s : State) : Host.Outcome State Fault Refusal :=
  .next (runInsn k (encA 0x13 3 f) (fun _ s x => .ends s x) s)

/-- R82: the entry of the table that w[rs1] selects. -/
def tableIndex (f : FmtT) (x : Ctx) : Nat := min (rget x f.rs1).toNat (f.count.toNat - 1)

/-- R82: the table jump. The entry's read is checked as a fetch; a negative entry is ILLEGAL on a scan core, and so is a target
that R84 forbids; an entry that is no multiple of 4 raises ALIGN with the target it would give. -/
def tableJump (f : FmtT) (e : Env) (s : State) (x : Ctx) : Did :=
  let a := x.pc.toNat + 4 + 4 * tableIndex f x
  let aw : BitVec 64 := BitVec.ofNat 64 a
  if !windowAllows e.u .fetch a 4 then .fault .bounds .none aw
  else match uncorrectableIn s (e.u.winBase + a) 4 with
    | some b => .memory aw b
    | none =>
      let d := signed 32 (loadNat s e.u a 4)
      let t := pcPlus x.pc (4 + 4 * f.count.toNat + d)
      if !isMgmt e.k && d < 0 then .fault .illegal .none 0
      else if !loopAllows x t then .fault .illegal .none 0
      else if d % 4 ≠ 0 then .fault .align .none (BitVec.ofNat 64 t.toNat)
      else .goto (correctErrors s (e.u.winBase + a) 4) (leaveLoop x t) t

/-- R82: JT. -/
def execJt (k : Nat) (f : FmtT) (s : State) : Host.Outcome State Fault Refusal :=
  .next (runInsn k (encT f) (tableJump f) s)

/-- R83: LOOP. Log 8 (DEDUCED). -/
def openLoop (f : FmtL) (s : State) (x : Ctx) : Did :=
  let n := if f.rs = 0 then f.bound.toNat else min (rget x f.rs).toNat f.bound.toNat
  let last := x.pc + 4 * f.len.setWidth 32
  if n = 0 then .goto s x (last + 4)
  else if (match currentLoop x with | some l => decide (l.last.toNat ≤ last.toNat) | none => false) then .fault .illegal .none 0
  else if 4 ≤ x.loops.length then .fault .stack .none 0
  else .goto s { x with loops := { start := x.pc + 4, last, left := n } :: x.loops } (x.pc + 4)

/-- R83: runs the next len instructions n times. -/
def execLoopN (k : Nat) (f : FmtL) (s : State) : Host.Outcome State Fault Refusal :=
  .next (runInsn k (encL f) (fun _ s x => openLoop f s x) s)

/-! ### Special registers (R58, R85) -/

/-- R58: the value of a special register. The foundation program reads 0 for its period, budget, snapshot and commit times and 1
for its cycle (R127). -/
def srValue (s : State) (e : Env) (x : Ctx) (n : Nat) : BitVec 64 :=
  let d := (taskAt s e.c).desc
  let nat := fun (v : Nat) => BitVec.ofNat 64 v
  match n with
  | 0x000 => nat (ctxSuite e.c)
  | 0x001 => nat (ctxTask e.c)
  | 0x002 => nat e.k
  | 0x003 => nat (if isFoundation e.c then 1 else x.cycle)
  | 0x004 => nowForm (now s)
  | 0x005 => nat x.nowHi
  | 0x006 => nowForm x.tsnap
  | 0x007 => nat (secHi x.tsnap)
  | 0x008 => nowForm x.tcommit
  | 0x009 => nat (secHi x.tcommit)
  | 0x00A => nat d.period
  | 0x00B => nat x.steps
  | 0x00C => nat (if isMgmt e.k then 0 else d.worst)
  | 0x010 => x.flags.setWidth 64
  | 0x011 => x.trap.setWidth 64
  | 0x012 => x.fmode.setWidth 64
  | 0x013 => nat x.calls.length
  | 0x014 => nat x.loops.length
  | 0x018 => nat e.u.winSize
  | 0x020 => x.fd[0]
  | 0x021 => x.fd[1]
  | 0x022 => x.fd[2]
  | 0x023 => x.fd[3]
  | 0x030 => paceWord s (e.k / 4)
  | _ => 0

/-- R58, R59, R85: rt := the special register; a read of `sr.now` latches `sr.nowhi`. -/
def execSrr (k : Nat) (f : FmtS) (s : State) : Host.Outcome State Fault Refusal :=
  .next (runInsn k (encS 0 f) (fun e s x =>
    let x' := if f.sr = 4 then { x with nowHi := secHi (now s) } else x
    .next s (rset x' f.rt (srValue s e x f.sr.toNat))) s)

/-- R58, R73: an SRW of a writable special register; a 1 in a reserved bit is ILLEGAL. Log 24 (DEDUCED). -/
def writeSr (f : FmtS) (s : State) (x : Ctx) : Did :=
  let v := rget x f.rt
  if f.sr = 0x010 then (if v.toNat < 512 then .next s { x with flags := v.setWidth 9 } else .fault .illegal .none 0)
  else if f.sr = 0x011 then (if v.toNat < 512 then .next s { x with trap := v.setWidth 9 } else .fault .illegal .none 0)
  else if v.toNat < 4 then .next s { x with fmode := v.setWidth 2 } else .fault .illegal .none 0

/-- R85: the special register := rt. -/
def execSrw (k : Nat) (f : FmtS) (s : State) : Host.Outcome State Fault Refusal :=
  .next (runInsn k (encS 1 f) (fun _ s x => writeSr f s x) s)

end Sys2Proof.Machine
end

