-- ==== Sys2Proof/Machine/Images.lean ====
section
/-! DEFINITION. Images in flash: their headers, their verification, and their copy into a window (R388 to R391, R394, R398). -/

namespace Sys2Proof.Machine
open Sys2Proof

/-! ### Selectors -/

/-- The key of an update selector: KIND and SUITE. -/
def updateKey (kind suite : Nat) : Nat := kind * 64 + suite

def updateAt (s : State) (kind suite : Nat) : Update := tget {} s.updates (updateKey kind suite)

def setUpdate (s : State) (kind suite : Nat) (f : Update → Update) : State :=
  { s with updates := tmod {} s.updates (updateKey kind suite) f }

/-! ### Headers (R390) -/

/-- A byte of an image. Log 3 (DESIGN CHOICE). -/
def FlashImage.byte (g : FlashImage) (i : Nat) : Byte := tget 0xFF g.bytes i

/-- Bytes of an image. -/
def FlashImage.slice (g : FlashImage) (at' n : Nat) : List Byte := (rangeFrom at' n).map g.byte

/-- Word `i` of the header. -/
def FlashImage.word (g : FlashImage) (i : Nat) : BitVec 64 := BitVec.ofNat 64 (natOf (g.slice (8 * i) 8))

def FlashImage.kind (g : FlashImage) : Nat := fld (g.word 0) 32 8
def FlashImage.suite (g : FlashImage) : Nat := fld (g.word 0) 48 6
def FlashImage.rollback (g : FlashImage) : Nat := fld (g.word 1) 0 8
def FlashImage.mirrorVer (g : FlashImage) : Nat := fld (g.word 1) 16 8
def FlashImage.blocks (g : FlashImage) : Nat := fld (g.word 1) 32 9
def FlashImage.version (g : FlashImage) : BitVec 64 := g.word 2
def FlashImage.codeBytes (g : FlashImage) : Nat := fld (g.word 4) 0 32
def FlashImage.constBytes (g : FlashImage) : Nat := fld (g.word 4) 32 32
def FlashImage.winSize (g : FlashImage) : Nat := fld (g.word 5) 0 25
def FlashImage.constAt (g : FlashImage) : Nat := fld (g.word 5) 32 13
def FlashImage.retainAt (g : FlashImage) : Nat := fld (g.word 6) 0 13
def FlashImage.dataAt (g : FlashImage) : Nat := fld (g.word 6) 16 13
def FlashImage.winBase (g : FlashImage) : Nat := fld (g.word 6) 32 32

/-- R391: the bytes that D is the digest of. -/
def FlashImage.signed (g : FlashImage) : List Byte := g.slice 0 ((1 + g.blocks) * 65536)

/-- The signature area's ECDSA P-384 and ML-DSA-65 signatures. -/
def FlashImage.sigEc (g : FlashImage) : List Byte := g.slice ((1 + g.blocks) * 65536) 96
def FlashImage.sigMl (g : FlashImage) : List Byte := g.slice ((1 + g.blocks) * 65536 + 96) 3309

/-- CONST begins at CODE_BYTES rounded up to 4 KiB of the payload. -/
def FlashImage.constOff (g : FlashImage) : Nat := (g.codeBytes + 4095) / 4096 * 4096

/-! ### The checks of UPDATE_CHECK and of a copy (R394) -/

/-- R61, R160, R390: the window of suite 0 that a foundation image's header gives: a size in multiples of 64 KiB up to 16 MiB, at a multiple of
64 KiB below the top region, with its segments in order. Log 104 (DEDUCED). -/
def headerWindowOk (g : FlashImage) : Bool :=
  g.winSize % 65536 == 0 && g.winSize ≤ 16777216 && g.winBase % 65536 == 0 && g.winBase + g.winSize ≤ Config.windowTop &&
    g.constAt ≤ g.retainAt && g.retainAt ≤ g.dataAt

/-- R394: the header agrees with its selector and its own length, and the die supports it. -/
def headerOk (s : State) (kind suite : Nat) (g : FlashImage) : Bool :=
  let w0 := g.word 0
  let most := if kind = 1 then 48 else 256
  fld w0 0 32 == 0x50464855 && g.kind == kind && fld w0 40 8 == 1 && g.suite == suite &&
    1 ≤ g.blocks && g.blocks ≤ most && g.length == (1 + g.blocks) * 65536 + 4096 &&
    (kind != 2 || headerWindowOk g) &&
    (if kind = 1 then g.codeBytes ≤ 3145728 && g.codeBytes ≤ g.blocks * 65536 else g.constOff + g.constBytes ≤ g.blocks * 65536) &&
    fld (g.word 1) 8 8 ≤ (s.cellar.ident.getD 1 0).toNat / 65536 % 256

/-- R391: a signer: a present, persistent key of the image's suite and of a type. -/
def signerKey (s : State) (suite type : Nat) (h : BitVec 32) : Option (List Byte) :=
  match findKey s h with
  | some (.slot n) =>
    let k := keyAt s n
    if attrType k.attr = type && attrPersist k.attr && k.suite = suite then some k.secret else none
  | _ => none

/-- R391: both signatures verify over D. -/
def signaturesOk (g : FlashImage) (ec ml : List Byte) : Bool :=
  let d := sha384 g.signed
  Config.verifies 7 ec d g.sigEc && Config.verifies 8 ml d g.sigMl

/-- R390: every block's digest stands in the block table. -/
def blocksOk (g : FlashImage) : Bool :=
  (List.range g.blocks).all (fun b => sha384 (g.slice ((1 + b) * 65536) 65536) == g.slice (256 + 48 * b) 48)

/-- R391: the keys of a KIND 1 image, in its prologue, and VENDOR_HASH over them. -/
def vendorKeys (g : FlashImage) : List Byte × List Byte := (g.slice 0xC000 97, g.slice (0xC000 + 97) 1952)

/-- R391, R353: the settled VENDOR_HASH names the keys of the prologue. -/
def vendorOk (s : State) (g : FlashImage) : Bool :=
  match s.cellar.vendorHash with
  | none => false
  | some ws => sha384 ((vendorKeys g).1 ++ (vendorKeys g).2) == ws.flatMap (fun w => bytesOf 4 w.toNat)

/-- R394: the checks made at UPDATE_CHECK and at every copy, in order; none where all pass. -/
def imageFails (s : State) (kind suite : Nat) (g : FlashImage) : Option Reason :=
  if !headerOk s kind suite g then some .range
  else if kind = 1 then
    if g.rollback < s.cellar.antiroll then some .rollback
    else if !blocksOk g || !vendorOk s g || !signaturesOk g (vendorKeys g).1 (vendorKeys g).2 then some .check
    else none
  else
    match signerKey s suite 7 (BitVec.ofNat 32 (fld (g.word 3) 0 32)), signerKey s suite 8 (BitVec.ofNat 32 (fld (g.word 3) 32 32)) with
    | some ec, some ml => if !blocksOk g || !signaturesOk g ec ml then some .check else none
    | _, _ => some .binding

/-! ### Images in use, fallbacks and outcomes (R396 to R399) -/

/-- The staged image of a selector. -/
def stagedImage (u : Update) : FlashImage := { length := u.stagedLen, bytes := u.staged }

/-- R402: PHASE of a selector with no schedule and no trial. -/
def restPhase (u : Update) : UpPhase := if u.checkedImg then .checked else if u.stagedLen = 0 then .idle else .staging

/-- R399: the previous image becomes the current one again. Log 103 (DEDUCED). -/
def comeBack (u : Update) : Update :=
  { u with current := u.fallback, fallback := none, runSlot := !u.runSlot, pairHalf := false, phase := restPhase u }

/-- R396: the outcome of an activation, as an event and in LAST_STATUS. Log 105 (DEDUCED). -/
def tellOutcome (s : State) (kind suite : Nat) (st : Status) : State :=
  let u := updateAt s kind suite
  let s := setUpdate s kind suite (fun u => { u with lastStatus := st, report := false })
  raiseEvent s (if kind = 3 then [0, suite] else [0]) (if st.cls = .done then 3 else 4) .module st [u.version, nowForm u.activateAt]

/-! ### Copies (R397, R398) -/

/-- R390: suite 0's window follows the header of a foundation image. -/
def windowOfImage (s : State) (kind : Nat) (g : FlashImage) : State :=
  if kind ≠ 2 then s else setSuite s 0 (fun u => { u with
    winBase := g.winBase, winSize := g.winSize, constAt := g.constAt, retainAt := g.retainAt, dataAt := g.dataAt })

/-- R390, R398: CODE and CONST of an image are written into a suite's window; what a segment held before is invalid. -/
def placeImage (s : State) (kind suite : Nat) (g : FlashImage) : State :=
  let s := windowOfImage s kind g
  let u := suiteAt s suite
  let code := g.slice 65536 (min g.codeBytes (u.constAt * 4096))
  let const := g.slice (65536 + g.constOff) (min g.constBytes ((u.retainAt - u.constAt) * 4096))
  let m := invalidate s.sram u.winBase (u.retainAt * 4096)
  { s with sram := writeBytes (writeBytes m u.winBase code) (u.winBase + u.constAt * 4096) const }

/-- R398: why an image cannot be loaded; none where it verifies. -/
def loadFails (s : State) (kind suite : Nat) : Option FlashImage → Option Reason
  | none => some .check
  | some g => imageFails s kind suite g

/-- R398: copies the current image of a KIND 2 or 3 selector into its suite's window, or, where it fails, its fallback, which is then
the current one; answers the status of the check that failed first. Log 103 (DEDUCED). -/
def copyImage (s : State) (kind suite : Nat) : State × Status :=
  let u := updateAt s kind suite
  match loadFails s kind suite u.current, u.current with
  | none, some g => (placeImage s kind suite g, stDone)
  | some r, _ => match loadFails s kind suite u.fallback, u.fallback with
    | none, some g => (placeImage (setUpdate s kind suite comeBack) kind suite g, stRefused r)
    | _, _ => ({ s with sram := invalidate s.sram (suiteAt s suite).winBase ((suiteAt s suite).retainAt * 4096) }, stRefused r)
  | none, none => (s, stDone)

/-! ### The journal replayed (R153, R155) -/

/-- R155: the records that a restore replays, oldest first. -/
def replayRecords (s : State) : List JournalRec := s.journal.checkpoint ++ s.journal.written

/-- R153, R155: a suite's RETAIN lines from the journal. Log 46 (DEDUCED). -/
def replayRetain (s : State) (n : Nat) : State :=
  let u := suiteAt s n
  let lines := ((replayRecords s).filter (fun r => r.suite == n)).flatMap (·.lines)
  lines.foldl (fun s l => if segmentOf u (64 * l.1) = some .retain then { s with sram := writeBytes s.sram (u.winBase + 64 * l.1) l.2 } else s) s

/-- R153, R155: every retained point from the journal. -/
def replayPoints (s : State) : State := (replayRecords s).foldl (fun s r => r.points.foldl (fun s e => setPoint s e.1 e.2) s) s

end Sys2Proof.Machine
end

