-- ==== Sys2Proof/Machine/Loader.lean ====
section
/-! DEFINITION. The loader's analysis of a task's code: the worst-case step count W and the refusals of R129 (R128, R129). -/

namespace Sys2Proof.Machine
open Sys2Proof

/-- CODE as the loader reads it: its length in bytes, the word at an address, and whether that word holds an uncorrectable error. -/
structure CodeView where
  size : Nat
  word : Nat → BitVec 32
  bad : Nat → Bool

/-- CODE of a suite's window. -/
def codeView (s : State) (n : Nat) : CodeView :=
  let u := suiteAt s n
  { size := min (u.constAt * 4096) u.winSize, word := fun a => BitVec.ofNat 32 (loadNat s u a 4)
    bad := fun a => (uncorrectableIn s (u.winBase + a) 4).isSome }

/-- A loop body: its first and last instruction. -/
structure Body where
  first : Nat
  last : Nat
deriving DecidableEq, Repr

/-- Where a path of the analysis stands: the instruction, the bodies that the present function has opened, innermost first,
the entries of the functions under way, and the loops open in the callers. -/
structure Site where
  p : Nat
  bodies : List Body
  path : List Nat
  outer : Nat
deriving DecidableEq, Repr

/-- What a remembered result depends on. -/
structure SiteKey where
  p : Nat
  bodies : List Body
  depth : Nat
  outer : Nat
deriving DecidableEq, Repr

def Site.key (x : Site) : SiteKey := { p := x.p, bodies := x.bodies, depth := x.path.length, outer := x.outer }

abbrev Memo := List (SiteKey × Nat)

/-- The result of the analysis of a path: the address of an instruction that R129 refuses, or of a word that cannot be read, or the steps. -/
inductive Found where
  | bad (at' : Nat)
  | steps (memo : Memo) (n : Nat)
deriving Repr

/-- Goes on with the steps and the memory of a result. -/
def Found.bind (f : Found) (g : Memo → Nat → Found) : Found := match f with | .bad a => .bad a | .steps m n => g m n

/-- An address displaced by bytes. -/
def codeTarget (p : Nat) (d : Int) : Nat := (pcPlus (BitVec.ofNat 32 p) d).toNat

/-- R82: the addresses of a table's entries. -/
def tableWords (p count : Nat) : List Nat := (List.range count).map (fun k => p + 4 + 4 * k)

/-- R82: the entries of a table. -/
def tableEntries (c : CodeView) (p count : Nat) : List Int := (tableWords p count).map (fun a => signed 32 (c.word a).toNat)

/-- R84: whether a transfer from a site to a target stays in the current loop's body or goes just after it. -/
def staysInLoop (x : Site) (t : Nat) : Bool :=
  match x.bodies with
  | [] => true
  | b :: _ => b.first ≤ t && t ≤ b.last + 4

/-- The targets of the instruction at a site that transfers control by `BR`, `JMP` or `JT`; none where R129 refuses it. -/
def transferTargets (c : CodeView) (x : Site) (k : Kind) : Option (List Nat) :=
  match k with
  | .branch d | .jump d =>
    let t := codeTarget x.p (4 * d)
    if d < 1 || !staysInLoop x t then none else some [t]
  | .table count =>
    let base := x.p + 4 + 4 * count
    let ds := tableEntries c x.p count
    let ts := (ds.filter (fun d => d % 4 == 0)).map (fun d => codeTarget base d)
    if c.size < base || ds.any (· < 0) || !ts.all (staysInLoop x) then none else some ts
  | _ => some []

/-- R129: whether a LOOP may open its body at a site: it nests within the current body, and no more than 4 loops are open. -/
def mayOpen (x : Site) (last : Nat) : Bool :=
  x.bodies.length + x.outer < 4 && (match x.bodies with | [] => true | b :: _ => decide (last < b.last))

/-- The greatest of the results from several targets. -/
def worstOf (go : Nat → Memo → Found) : List Nat → Memo → Nat → Found
  | [], m, best => .steps m best
  | t :: ts, m, best => (go t m).bind (fun m n => worstOf go ts m (max best n))

/-- R128: the most steps from a site until control reaches the end of the body it stands in, or an END or RET; R129's refusals
are found on the way. `fuel` bounds the length of a path. -/
def worstFrom (c : CodeView) : Nat → Site → Memo → Found
  | 0, x, _ => .bad x.p
  | fuel + 1, x, memo =>
    if (match x.bodies with | [] => false | b :: _ => x.p == b.last + 4) then .steps memo 0
    else match memo.find? (fun e => e.1 == x.key) with
    | some e => .steps memo e.2
    | none =>
      if c.size < x.p + 4 || c.bad x.p then .bad x.p
      else match readWord false (c.word x.p) with
      | none => .bad x.p
      | some info =>
        let next := worstFrom c fuel { x with p := x.p + 4 }
        let done := fun (f : Found) => f.bind (fun m n => .steps ((x.key, n) :: m) n)
        match info.kind with
        | .endCycle => done (.steps memo 2)
        | .ret => if x.bodies.isEmpty || x.path.length ≤ 1 then done (.steps memo 2) else .bad x.p
        | .plain => done ((next memo).bind (fun m n => .steps m (info.cost + n)))
        | .call d =>
          let t := codeTarget x.p (4 * d)
          if x.path.contains t || 17 ≤ x.path.length then .bad x.p
          else done ((worstFrom c fuel { p := t, bodies := [], path := t :: x.path, outer := x.outer + x.bodies.length } memo).bind (fun m a =>
            (next m).bind (fun m b => .steps m (2 + a + b))))
        | .loop bound len =>
          let last := x.p + 4 * len
          if !mayOpen x last then .bad x.p
          else done ((worstFrom c fuel { x with p := x.p + 4, bodies := { first := x.p + 4, last } :: x.bodies } memo).bind (fun m a =>
            (worstFrom c fuel { x with p := last + 4 } m).bind (fun m b => .steps m (1 + bound * (a + 1) + b))))
        | .branch d => match transferTargets c x (.branch d) with
          | none => .bad x.p
          | some ts => done ((worstOf (fun t m => worstFrom c fuel { x with p := t } m) ((x.p + 4) :: ts) memo 0).bind (fun m n => .steps m (2 + n)))
        | .jump d => match transferTargets c x (.jump d) with
          | none => .bad x.p
          | some ts => done ((worstOf (fun t m => worstFrom c fuel { x with p := t } m) ts memo 0).bind (fun m n => .steps m (2 + n)))
        | .table count =>
          match (tableWords x.p count).find? c.bad with
          | some a => .bad a
          | none => match transferTargets c x (.table count) with
          | none => .bad x.p
          | some ts => done ((worstOf (fun t m => worstFrom c fuel { x with p := t } m) ts memo 0).bind (fun m n => .steps m (4 + n)))

/-- The bodies of the LOOPs among the instructions reached. -/
def reachedBodies (c : CodeView) (ps : List Nat) : List Body :=
  ps.filterMap (fun p => match readWord false (c.word p) with
    | some { kind := .loop _ len, .. } => some { first := p + 4, last := p + 4 * len }
    | _ => none)

/-- R129: the instruction at `p` jumps into a loop body from outside it. -/
def entersBody (c : CodeView) (bodies : List Body) (p : Nat) : Bool :=
  let ts := match readWord false (c.word p) with
    | some { kind := .call d, .. } => [codeTarget p (4 * d)]
    | some { kind := k, .. } => (transferTargets c { p, bodies := [], path := [], outer := 0 } k).getD []
    | none => []
  let inside := fun (b : Body) (a : Nat) => b.first ≤ a && a ≤ b.last
  ts.any (fun t => bodies.any (fun b => inside b t && !inside b p))

/-- What the loader finds: W, or the address of an offending instruction or of a word that cannot be read. -/
inductive Analysis where
  | refused (at' : Nat)
  | worst (w : Nat)
deriving DecidableEq, Repr

/-- R128, R129: the loader's analysis from ENTRY. -/
def analyse (c : CodeView) (entry : Nat) : Analysis :=
  match worstFrom c (19 * (c.size / 4 + 2)) { p := entry, bodies := [], path := [entry], outer := 0 } [] with
  | .bad a => .refused a
  | .steps m w =>
    let ps := (m.map (fun e => e.1.p)).reverse
    match ps.find? (entersBody c (reachedBodies c ps)) with
    | some p => .refused p
    | none => .worst w

end Sys2Proof.Machine
end

