-- ==== Sys2Proof/Machine/LoadTask.lean ====
section
/-! DEFINITION. CFG_TASK: loading, admitting and removing a task (R123 to R131, R148, R191, R192, R229). -/

namespace Sys2Proof.Machine
open Sys2Proof

/-! ### The descriptor (R123) -/

/-- The fields of a CFG_TASK body, lists not yet read. -/
def taskBody (r : CfgReq) (room : Nat) : TaskDesc :=
  let w := r.word
  { suite := fld (w 2) 5 6, task := fld (w 2) 0 5, core := 4 * room + fld (w 2) 11 2
    overrun := match fld (w 2) 13 2 with | 1 => .stretch | 2 => .fault | _ => .skip
    cam := bitAt (w 2) 15, autorun := bitAt (w 2) 16, warmRun := bitAt (w 2) 17
    faultLimit := fld (w 2) 19 5, replyMap := BitVec.ofNat 8 (fld (w 2) 24 8), entry := fld (w 2) 32 32
    period := fld (w 3) 0 26, phase := fld (w 3) 32 26, commitOffset := fld (w 4) 0 26, deadline := fld (w 4) 32 26
    budgetNs := fld (w 5) 0 40, holdMax := fld (w 5) 40 24
    putQ := (List.range 16).map (fun n => fld (w (9 + n / 4)) (16 * (n % 4)) 16)
    takeQ := (List.range 8).map (fun n => fld (w (13 + n / 4)) (16 * (n % 4)) 16)
    takeItems := (List.range 8).map (fun n => fld (w 15) (4 * n) 4)
    takeCache := (List.range 8).map (fun n => fld (w 15) (32 + 4 * n) 4) }

/-- R124: a list: its address and its number of entries. -/
structure ListRef where
  at' : Nat
  count : Nat

/-- R124: whether a list is aligned and lies within CODE and CONST; an empty list lies anywhere. Log 20 (DEDUCED). -/
def listPlaced (u : Suite) (l : ListRef) : Bool :=
  l.count == 0 || (l.at' % 2 == 0 && l.at' + 2 * l.count ≤ min (u.retainAt * 4096) u.winSize)

/-- R124: the entries of a list. -/
def listEntries (s : State) (u : Suite) (l : ListRef) : List Nat := (List.range l.count).map (fun i => loadNat s u (l.at' + 2 * i) 2)

/-- R123: the three lists that a body names. -/
def inListRef (r : CfgReq) : ListRef := { at' := fld (r.word 6) 0 32, count := fld (r.word 6) 32 13 }
def outListRef (r : CfgReq) : ListRef := { at' := fld (r.word 7) 0 32, count := fld (r.word 7) 32 12 }
def slotListRef (r : CfgReq) : ListRef := { at' := fld (r.word 8) 0 32, count := fld (r.word 8) 32 9 }

/-! ### The checks (R126, R131, R191, R192) -/

/-- R126: the timing fields. -/
def timingOk (d : TaskDesc) (m : Nat) : Bool :=
  100 ≤ d.period && d.period ≤ 60000000 && d.phase < d.period && 20 ≤ d.commitOffset && d.commitOffset ≤ d.period &&
    3 ≤ d.deadline && d.deadline + 10 + (if d.cam then m else 0) ≤ d.commitOffset

/-- R123: the take bindings: items and cache share of each, and the shares together. -/
def bindingsOk (d : TaskDesc) : Bool :=
  (List.range 8).all (fun n =>
    let bound := d.takeQ.getD n 0 != 0
    let items := d.takeItems.getD n 0
    let share := d.takeCache.getD n 0
    if bound then items != 0 && share != 0 else items == 0 && share == 0 && !d.replyMap.getLsbD n) && d.takeCache.sum ≤ 16

/-- R192: the smallest take share for a queue. -/
def shareNeeded (q : Queue) : Nat := (q.itemMax + 7) / 8 * 8 + (if q.hdrVis then 16 else 0)

def sharesOk (s : State) (d : TaskDesc) : Bool :=
  (List.range 8).all (fun n => let q := d.takeQ.getD n 0
    q == 0 || shareNeeded (queueAt s q) ≤ 256 * d.takeCache.getD n 0)

/-- R124: the entries of the lists name what such a list may name. Log 20 (DEDUCED). -/
def entriesOk (d : TaskDesc) : Bool :=
  d.inList.all isPoint && d.outList.all (fun e => isDo e || isGeneral e) && d.slotList.all (· < 4096)

/-- The bindings of a task that are bound. -/
def boundOf (l : List Nat) : List (Nat × Nat) := (l.mapIdx (fun n q => (n, q))).filter (fun e => e.2 != 0)

/-- R209: a Hearth slot writes to the point. -/
def slotDest (s : State) (e : Nat) : Bool := s.hearth.slots.any (fun x => x.2.inUse && x.2.toPoint && x.2.destPoint == e)

/-- R124, R131, R166, R192, R209: what the lists and bindings name is visible, owned, granted and free. Log 20 (DEDUCED). -/
def bindingFree (s : State) (c : Nat) (d : TaskDesc) : Bool :=
  d.inList.all (mayRead s d.suite) &&
    d.outList.all (fun e => (pointCfg s e).owner == d.suite && !(isDo e && pulseClaims s (e - 0x40)) && !(loadedTasks s).any (fun t => t.1 != c && t.2.desc.outList.contains e) && !slotDest s e) &&
    d.slotList.all (fun n => (slotAt s n).inUse && (slotAt s n).suite == d.suite && !(slotAt s n).timer) &&
    d.putQ.all (fun q => q == 0 || mayPut s d.suite q) &&
    (boundOf d.takeQ).all (fun b => mayTake s d.suite b.2 &&
      ((queueAt s b.2).consumer.isNone || (queueAt s b.2).consumer == some (.task c b.1))) &&
    (d.takeQ.filter (· != 0)).eraseDups.length == (d.takeQ.filter (· != 0)).length

/-- R130: the sum of test 2 over tasks, as a fraction. -/
def loadSum (ds : List TaskDesc) : Nat × Nat :=
  ds.foldl (fun acc d => let den := 1000 * (d.deadline - 2)
    (acc.1 * den + d.budgetNs * acc.2, acc.2 * den)) (0, 1)

/-- R131: N, and the sum of test 2 in units of 1/65,536. -/
def admissionResult (d : TaskDesc) (sum : Nat × Nat) : BitVec 64 :=
  let den := max sum.2 1
  pack [(0, 32, d.worst + 80), (32, 16, satN 16 ((sum.1 * 65536 + den - 1) / den))]

/-- R130: the tasks on a core other than one. -/
def coreTasks (s : State) (c core : Nat) : List TaskDesc := ((loadedTasks s).filter (fun e => e.1 != c && e.2.desc.core == core)).map (·.2.desc)

/-- R130: the two tests, and the numbers of contexts and tasks. Log 20 (DEDUCED). -/
def admits (s : State) (c : Nat) (d : TaskDesc) : Bool :=
  let sum := loadSum (d :: coreTasks s c d.core)
  (d.worst + 80) * 667 ≤ d.budgetNs * 1000 && d.budgetNs ≤ 1000 * (d.deadline - 2) && sum.1 ≤ sum.2 &&
    (coreTasks s c d.core).length < 32 && ((suiteTasks s d.suite).filter (fun e => e.1 != c)).length < 32

/-! ### Removing and placing -/

/-- R189, R191, R192, R196: the bindings of a task that a new descriptor does not keep on the same queue are given up. -/
def unbindTask (s : State) (c : Nat) (new : TaskDesc) : State :=
  let d := (taskAt s c).desc
  let s := ((boundOf d.putQ).filter (fun b => new.putQ.getD b.1 0 != b.2)).foldl (fun s b => setQueue s b.2 (fun q => detach q (.task c b.1))) s
  let s := ((boundOf d.takeQ).filter (fun b => new.takeQ.getD b.1 0 != b.2 || !new.replyMap.getLsbD b.1)).foldl
    (fun s b => setQueue s b.2 (fun q => detach q (.reply c b.1))) s
  ((boundOf d.takeQ).filter (fun b => new.takeQ.getD b.1 0 != b.2)).foldl (fun s b =>
    undeliver (setQueue s b.2 (fun q => { q with consumer := if q.consumer = some (.task c b.1) then none else q.consumer })) b.2 (.task c b.1)) s

/-- R191: a reply binding already holds its credits, or the pool has 8. -/
def replyRoom (q : Queue) (c b : Nat) : Bool := (attachment q (.reply c b)).isSome || 8 ≤ q.poolFree

/-- R188, R191, R192: a task's bindings are made; false where a reply binding finds fewer than 8 credits in its queue's pool. -/
def bindTask (s : State) (c : Nat) (d : TaskDesc) : State × Bool :=
  let r := (boundOf d.takeQ).foldl (fun (acc : State × Bool) b =>
    let s := setQueue acc.1 b.2 (fun q => { q with consumer := some (.task c b.1) })
    if !d.replyMap.getLsbD b.1 then (s, acc.2)
    else (setQueue s b.2 (fun q => attachReply q c b.1), acc.2 && replyRoom (queueAt s b.2) c b.1)) (s, true)
  ((boundOf d.putQ).foldl (fun s b => setQueue s b.2 (fun q => attach q (.task c b.1))) r.1, r.2)

/-- R229: the default mirror window. -/
def defaultWindow (s : State) : Nat :=
  match (loadedTasks s).map (·.2.desc.period) with
  | [] => 15
  | p :: ps => (15 * ps.foldl min p + 99) / 100

/-- R229: M after a load or a removal. -/
def settleWindow (s : State) : State :=
  if s.twin.mirrorWindow != 0 || (loadedTasks s).any (fun e => e.2.desc.cam) then s
  else { s with twin := { s.twin with mUs := defaultWindow s } }

/-- A context newly prepared: its tickets, outstanding requests, event credits and last fault descriptor go on. -/
def freshTask (t : Task) (d : TaskDesc) : Task :=
  { desc := d, mode := .stop, stopCause := .load, cancelled := t.cancelled
    ctx := { ticket := t.ctx.ticket, outstanding := t.ctx.outstanding, eventCredits := t.ctx.eventCredits, fd := t.ctx.fd } }

/-- R148: REMOVE. With it every loaded task left may be in RUN (R168). -/
def removeTask (s : State) (c : Nat) : State :=
  let s := setTask (unbindTask s c {}) c (fun t => { freshTask t {} with mode := .notLoaded })
  recheckSuite (settleWindow { s with journal := { s.journal with dirty := tset [] s.journal.dirty c [] } }) (ctxSuite c)

/-- R123, R148: whether a task enters RUN when loaded: by WARM_RUN in the pass of a warm restart, otherwise by AUTORUN. Log 17 (DEDUCED). -/
def runsOnLoad (s : State) (r : CfgReq) (d : TaskDesc) : Bool := if s.boot.warm && inPass s r then d.warmRun else d.autorun

/-- R123, R148: the task is placed; a tenant's enters RUN only after CFG_END (R2). Log 17 (DEDUCED). -/
def placeTask (s : State) (c : Nat) (d : TaskDesc) (runs : Bool) : State :=
  let s := settleWindow (setTask s c (fun t => freshTask t d))
  if !runs then s
  else if d.suite = 0 || s.seq.passDone then enterRun s c (gridAt d (now s))
  else setTask s c (fun t => { t with autoRun := true })

/-! ### CFG_TASK (R131) -/

/-- R131: the field ranges of a body. Log 20 (DEDUCED). -/
def bodyOk (s : State) (r : CfgReq) (u : Suite) (d : TaskDesc) : Bool :=
  fld (r.word 2) 13 2 != 3 && d.faultLimit != 0 && timingOk d s.twin.mUs && d.budgetNs != 0 &&
    d.entry % 4 == 0 && d.entry < min (u.constAt * 4096) u.winSize &&
    (inListRef r).count ≤ 4096 && (outListRef r).count ≤ 2048 && (slotListRef r).count ≤ 256 &&
    listPlaced u (inListRef r) && listPlaced u (outListRef r) && listPlaced u (slotListRef r) && bindingsOk d

/-- R123, R124: the lists as read. -/
def withLists (s : State) (u : Suite) (r : CfgReq) (d : TaskDesc) : TaskDesc :=
  { d with inList := listEntries s u (inListRef r), outList := listEntries s u (outListRef r), slotList := listEntries s u (slotListRef r) }

/-- R168: the first uncorrectable error that a load meets in the lists it reads. Log 20 (DEDUCED). -/
def listError (s : State) (u : Suite) (r : CfgReq) : Option Nat :=
  ([inListRef r, outListRef r, slotListRef r].filterMap (fun l => uncorrectableIn s (u.winBase + l.at') (2 * l.count))).head?

/-- R168, R372: a load meets an uncorrectable error in CODE or CONST. Log 20 (DEDUCED). -/
def brokenLoad (s : State) (bad : Nat) : CfgOut := cfgDeny (meetError s bad 2) (stFault .error)

/-- R128 to R131: the task's code is analysed and the task admitted or refused. Log 20 (DEDUCED). -/
def admitTask (r : CfgReq) (s : State) (c : Nat) (d : TaskDesc) (bound : State) : CfgOut :=
  match analyse (codeView s d.suite) d.entry with
  | .refused a =>
    match uncorrectableIn s ((suiteAt s d.suite).winBase + a) 4 with
    | some bad => brokenLoad s bad
    | none => .ends { s, st := stFault .illegal, result := BitVec.ofNat 64 a }
  | .worst w =>
    let d := { d with worst := w }
    let result := admissionResult d (loadSum (d :: coreTasks s c d.core))
    if !admits s c d then .ends { s, st := stRefused .budget, result }
    else .ends { s := placeTask bound c d (runsOnLoad s r d), st := stDone, result }

/-- R131: a load. The old task of the same name gives up its bindings first; it stays where the load is refused. -/
def loadTask (r : CfgReq) (s : State) (room : Nat) : CfgOut :=
  let d := taskBody r room
  let c := ctxKey d.suite d.task
  let u := suiteAt s d.suite
  if room = 8 || !bodyOk s r u d then cfgDeny s (stRefused .range)
  else match listError s u r with
  | some bad => brokenLoad s bad
  | none =>
    let d := withLists s u r d
    let free := unbindTask s c d
    if !entriesOk d then cfgDeny s (stRefused .range)
    else if !bindingFree free c d then cfgDeny s (stRefused .binding)
    else
      let bound := bindTask free c d
      if !sharesOk s d || !bound.2 then cfgDeny s (stRefused .range)
      else if s.boot.coreFail.getLsbD d.core then cfgDeny s (stRefused .state)
      else if (roomAt s room).fault then cfgDeny s (stRefused .pace)
      else admitTask r s c d bound.1

/-- R123, R131: what every CFG_TASK is refused for first. Log 20 (DEDUCED). -/
def onTask (r : CfgReq) (s : State) (run : Nat → CfgOut) : CfgOut :=
  cfgUnitOnly r s (fun u => match u with | .part p => p.cls == 4 | _ => false) (fun u =>
    let n := fld (r.word 2) 5 6
    let c := ctxKey n (fld (r.word 2) 0 5)
    let t := taskAt s c
    let remove := bitAt (r.word 2) 18
    if r.suite != 0 && n != r.suite then cfgDeny s (stRefused .threshold)
    else if issuerLocked s r then cfgDeny s (stRefused .lock)
    else if c = 0 || resetting s n || !(suiteAt s n).enabled || (t.mode != .stop && (remove || t.mode != .notLoaded)) then
      cfgDeny s (stRefused .state)
    else run (match u with | .part p => p.inst | _ => 8))

/-- R123: CFG_TASK without REMOVE. Log 20 (DEDUCED), 24 (DEDUCED). -/
def execCfgTask (c : Nat) (s : State) : Host.Outcome State Fault Refusal :=
  .next (serveCfg c (fun r => r.code == 0x06 && !bitAt (r.word 2) 18) (fun r s => onTask r s (fun room => loadTask r s room)) s)

/-- R123, R131, R148: CFG_TASK with REMOVE. -/
def execCfgTaskRemove (c : Nat) (s : State) : Host.Outcome State Fault Refusal :=
  .next (serveCfg c (fun r => r.code == 0x06 && bitAt (r.word 2) 18)
    (fun r s => onTask r s (fun room => if room = 8 then cfgDeny s (stRefused .range) else cfgDone (removeTask s (ctxKey (fld (r.word 2) 5 6) (fld (r.word 2) 0 5))))) s)

end Sys2Proof.Machine
end

