-- ==== Sys2Proof/Machine/TaskCommands.lean ====
section
/-! DEFINITION. The task commands of the module's self unit: modes, online change, breakpoints and status (R146 to R158). -/

namespace Sys2Proof.Machine
open Sys2Proof

/-! ### The task selector (R146) -/

structure Selector where
  suite : Nat
  task : Nat
  all : Bool
deriving DecidableEq, Repr

def selectorOf (c : Cmd) : Selector := { suite := fld (c.word 2) 0 6, task := fld (c.word 2) 8 5, all := bitAt (c.word 2) 13 }

/-- The loaded tasks that a selector names. -/
def selected (s : State) (x : Selector) : List Nat := ((suiteTasks s x.suite).filter (fun e => x.all || e.1 % 32 == x.task)).map (·.1)

/-- R146, R174: an owner command on tasks: refused to strangers, while the suite is RESETTING, and where no task is selected. -/
def onTasks (c : Cmd) (t : Target) (s : State) (run : Selector → List Nat → CmdResult) : CmdResult :=
  onUnit t isSelf s
    (let x := selectorOf c
     ownerOnly s x.suite c
      (if resetting s x.suite || (selected s x).isEmpty then refuse s .state else run x (selected s x)))

/-! ### Modes (R147, R148) -/

/-- R147: START_AT in full, as ns. -/
def fullNs (t : Time80) : Int := t.sec * giga + t.ns

/-- R147: whether START_AT may be judged: its ns are below one second and it lies within 2^31 s of now. 0 is no time. -/
def startAtOk (s : State) (w3 w4 : BitVec 64) : Bool :=
  fld w3 0 32 < giga && (fullNs (ofNowForm w3 (fld w4 0 16)) - fullNs (now s)).natAbs < 2 ^ 31 * giga

/-- R147: the first grid start at least 100 µs from now and not earlier than START_AT, nor one already begun (R141). -/
def effectTime (s : State) (c : Nat) (startAt : Option Time80) : Time80 :=
  let d := (taskAt s c).desc
  let lead := taddUs (now s) 100
  let from' := match startAt with | some t => if 0 < tdiff t lead then t else lead | none => lead
  match (taskAt s c).lastStart with
  | some b => if tdiff (gridAt d from') b ≤ 0 then gridAfter d b else gridAt d from'
  | none => gridAt d from'

/-- R147, R148: RUN or STEP from STOP or HOLD: it becomes pending, in the place of one that is. -/
def orderStart (step : Bool) (startAt : Option Time80) (s : State) (c : Nat) : State × Bool :=
  if (taskAt s c).mode = .run then (s, false)
  else (setTask s c (fun t => { t with pending := some { step, at80 := effectTime s c startAt }, stopPending := none }), true)

/-- R147, R148: STOP cancels a pending RUN or STEP; a task in RUN or stepping stops after its commit, one in HOLD at once. -/
def orderStop (s : State) (c : Nat) : State × Bool :=
  let t := taskAt s c
  let had := t.pending.isSome
  let s := setTask s c (fun t => { t with pending := none })
  match t.mode with
  | .stop | .notLoaded => (s, had)
  | .hold => if t.stepping then (setTask s c (fun t => { t with stopPending := some .stop }), true) else (enterStop s c .command stDone, true)
  | .run => (setTask s c (fun t => { t with stopPending := some .stop }), true)

/-- R148: HOLD from RUN, after the present commit. -/
def orderHold (s : State) (c : Nat) : State × Bool :=
  if (taskAt s c).mode = .run then (setTask s c (fun t => { t with stopPending := some .hold }), true) else (s, false)

/-- R146: a mode command acts on each selected task; it is DONE when it has an effect on one. -/
def modeCommand (s : State) (keys : List Nat) (one : State → Nat → State × Bool) : CmdResult :=
  let r := keys.foldl (fun (acc : State × Bool) c => let x := one acc.1 c; (x.1, acc.2 || x.2)) (s, false)
  if r.2 then { s := r.1, st := stDone } else refuse s .state

/-- TASK_MODE with an ARG: the words of START_AT are judged first. Log 9 (DEDUCED). -/
def taskMode (arg : Nat) (one : Option Time80 → State → Nat → State × Bool) (c : Cmd) (t : Target) (s : State) : CmdResult :=
  onTasks c t s (fun _ keys =>
    if c.arg ≠ arg then refuse s .range
    else if c.word 3 = 0 && fld (c.word 4) 0 16 = 0 then modeCommand s keys (one none)
    else if !startAtOk s (c.word 3) (c.word 4) then refuse s .range
    else modeCommand s keys (one (some (ofNowForm (c.word 3) (fld (c.word 4) 0 16)))))

/-- R146: RUN, and an ARG that the table does not list. -/
def execTaskModeRun (q : CmdQueue) (s : State) : Host.Outcome State Fault Refusal :=
  .next (unitCommand q (fun c => c.code == 0x20 && !(2 ≤ c.arg && c.arg ≤ 4)) false (taskMode 1 (orderStart false)) s)

/-- R146: STOP. -/
def execTaskModeStop (q : CmdQueue) (s : State) : Host.Outcome State Fault Refusal :=
  .next (unitCommand q (fun c => c.code == 0x20 && c.arg == 2) false (taskMode 2 (fun _ => orderStop)) s)

/-- R146: HOLD. -/
def execTaskModeHold (q : CmdQueue) (s : State) : Host.Outcome State Fault Refusal :=
  .next (unitCommand q (fun c => c.code == 0x20 && c.arg == 3) false (taskMode 3 (fun _ => orderHold)) s)

/-- R146: STEP. -/
def execTaskModeStep (q : CmdQueue) (s : State) : Host.Outcome State Fault Refusal :=
  .next (unitCommand q (fun c => c.code == 0x20 && c.arg == 4) false (taskMode 4 (orderStart true)) s)

/-! ### Online change (R157, R158) -/

/-- R158: whether an extent lies in segments that a test allows, both ends in one segment. -/
def extentIn (u : Suite) (a n : Nat) (ok : Segment → Bool) : Bool :=
  match segmentOf u a, segmentOf u (a + n - 1) with
  | some g, some h => g == h && ok g && decide (a + n ≤ u.winSize)
  | _, _ => false

/-- R157: a write waits for the task's END, or is applied at once. -/
def postOnline (s : State) (c : Cmd) (key addr : Nat) (data : List Byte) : CmdResult :=
  let o : OnlineWrite := { addr, data, target := c.target, via := c.queue, replyQueue := c.replyQueue, tag := c.tag, code := c.code, suite := c.suite }
  if betweenCycles (taskAt s key) then { s := applyOnline s key o, st := stDone, reply := false }
  else { s := setTask s key (fun t => { t with online := t.online ++ [o] }), st := stDelayed .pending, reply := false }

/-- R157, R158: SET_VALUE into RETAIN or DATA. -/
def setValue (c : Cmd) (t : Target) (s : State) : CmdResult :=
  onTasks c t s (fun x keys =>
    let a := (c.word 3).toNat
    let n := 2 ^ min c.arg 3
    if x.all || 3 < c.arg || a % n ≠ 0 || !extentIn (suiteAt s x.suite) a n (fun g => g == .retain || g == .data) then refuse s .range
    else postOnline s c (keys.headD 0) a (bytesOf n (c.word 4).toNat))

/-- R157: one value of RETAIN or DATA is written between the task's cycles. -/
def execSetValue (q : CmdQueue) (s : State) : Host.Outcome State Fault Refusal := .next (unitCommand q (withCode 0x21) false setValue s)

/-- R157, R158, R182: SET_CONST into CONST. -/
def setConst (c : Cmd) (t : Target) (s : State) : CmdResult :=
  onTasks c t s (fun x keys =>
    let a := (c.word 3).toNat
    let n := 8 * c.arg
    if x.all || c.arg = 0 || 32 < c.arg || c.item.data.length < 32 + n || a % 8 ≠ 0 || !extentIn (suiteAt s x.suite) a n (· == .const) then
      refuse s .range
    else if x.suite ≠ 0 && (suiteAt s x.suite).locked then refuse s .lock
    else postOnline s c (keys.headD 0) a ((c.item.data.drop 32).take n))

/-- R157: doublewords of CONST are written between the task's cycles. -/
def execSetConst (q : CmdQueue) (s : State) : Host.Outcome State Fault Refusal := .next (unitCommand q (withCode 0x22) false setConst s)

/-- R157: the writes that wait for a task's END are applied once its cycle has ended. -/
def execOnlineChangeApply (c : Nat) (s : State) : Host.Outcome State Fault Refusal :=
  .next (if betweenCycles (taskAt s c) then applyAllOnline s c else s)

/-! ### Breakpoints and status (R151, R152) -/

/-- R151: BRK_ARM: the masks take effect at the next cycle start. -/
def armBreakpoints (c : Cmd) (t : Target) (s : State) : CmdResult :=
  onTasks c t s (fun _ keys =>
    let arm := (c.word 3).setWidth 16
    let hold := ((c.word 3) >>> 16).setWidth 16
    if c.arg ≠ 0 || hold &&& ~~~arm ≠ 0 then refuse s .range
    else { s := keys.foldl (fun s k => setTask s k (fun t => { t with brkArmNext := some (arm, hold) })) s, st := stDone })

/-- R151: arms a task's breakpoints. -/
def execBrkArm (q : CmdQueue) (s : State) : Host.Outcome State Fault Refusal := .next (unitCommand q (withCode 0x23) false armBreakpoints s)

/-- R130: N of an admitted task. -/
def admitted (t : Task) : Nat := t.desc.worst + 80

/-- R152: the four status words of a task. -/
def taskStatusWords (t : Task) : List (BitVec 64) :=
  if t.mode = .notLoaded then [pack [(0, 2, 3)], 0, 0, 0] else
  [pack [(0, 2, t.mode.ctorIdx), (2, 3, t.stopCause.ctorIdx), (8, 8, Status.byte t.lastStatus), (16, 5, t.consecFaults), (32, 32, t.ctx.cycle)],
   pack [(0, 16, t.overruns), (16, 16, t.skipped), (32, 16, t.dlMiss), (48, 16, t.faults)],
   pack [(0, 32, t.maxAccept), (32, 32, satN 32 t.maxSteps)],
   pack [(0, 32, admitted t)]]

/-- R146, R152: TASK_STATUS, for the suite and for suite 0. -/
def taskStatus (c : Cmd) (t : Target) (s : State) : CmdResult :=
  onUnit t isSelf s
    (let x := selectorOf c
     if c.suite ≠ x.suite && c.suite ≠ 0 then refuseOwner s x.suite c
     else if x.all || 3 < c.arg then refuse s .range
     else { s, st := stDone, payload := [(taskStatusWords (taskAt s (ctxKey x.suite x.task))).getD c.arg 0] })

/-- R152: a task's status word. -/
def execTaskStatus (q : CmdQueue) (s : State) : Host.Outcome State Fault Refusal := .next (unitCommand q (withCode 0x24) false taskStatus s)

end Sys2Proof.Machine
end

