-- ==== Sys2Proof/Machine/Suites.lean ====
section
/-! DEFINITION. CFG_SUITE, CFG_POINT, host sessions, the owner of a suite, and suite resets by command (R159 to R165, R169 to R183). -/

namespace Sys2Proof.Machine
open Sys2Proof

/-! ### CFG_SUITE (R160 to R162) -/

/-- The suite record with the fields of a CFG_SUITE body. Log 24 (DEDUCED). -/
def suiteFields (r : CfgReq) (u : Suite) : Suite :=
  let w := r.word
  { u with
    enabled := bitAt (w 2) 6, taskCmd := bitAt (w 2) 7, faultAction := fld (w 2) 8 3, debugQueue := fld (w 2) 16 16
    hostQueue := fld (w 2) 32 16, atticUnits := fld (w 2) 48 16, winBase := fld (w 3) 0 32, winSize := fld (w 3) 32 25
    constAt := fld (w 4) 0 13, retainAt := fld (w 4) 16 13, dataAt := fld (w 4) 32 13
    queueFirst := fld (w 5) 0 16, queueCount := fld (w 5) 16 16, keyQuota := fld (w 5) 32 14, hearthQuota := fld (w 5) 48 13
    vlanFirst := fld (w 6) 0 12, vlanCount := fld (w 6) 12 12, lease := fld (w 6) 24 8, hostKey := BitVec.ofNat 32 (fld (w 6) 32 32) }

/-- Two ranges, each a first number and a count, have a number in common. -/
def overlaps (a n b m : Nat) : Bool := n != 0 && m != 0 && a < b + m && b < a + n

/-- R61, R160, R161: the fields of a body, each by itself. Log 45 (DEDUCED). -/
def suiteFieldsOk (u : Suite) : Bool :=
  u.faultAction ≤ 2 && 4 ≤ u.atticUnits && u.atticUnits ≤ 1024 && u.winBase % 65536 == 0 && u.winSize % 65536 == 0 &&
    u.winSize ≤ 16777216 && u.queueCount ≤ 16384 && u.queueFirst + u.queueCount ≤ 65536 && u.keyQuota ≤ 8192 &&
    u.hearthQuota ≤ 4096 && 1 ≤ u.vlanFirst && u.vlanFirst ≤ 4094 && u.vlanFirst + u.vlanCount ≤ 4095 &&
    u.constAt ≤ u.retainAt && u.retainAt ≤ u.dataAt && u.dataAt ≤ u.winSize / 4096 && u.winBase + u.winSize ≤ Config.windowTop

/-- The sum of a field over the enabled suites, with suite `n` as it is to be. -/
def suiteSum (s : State) (n : Nat) (new : Suite) (f : Suite → Nat) : Nat :=
  ((List.range 64).map (fun m => let u := if m = n then new else suiteAt s m; if u.enabled then f u else 0)).sum

/-- R161: what a suite's new record may not share with the other suites. Log 45 (DEDUCED). -/
def suiteApart (s : State) (n : Nat) (new : Suite) : Bool :=
  (List.range 64).all (fun m => m == n ||
    (let u := suiteAt s m
     !(u.enabled && overlaps new.winBase new.winSize u.winBase u.winSize) &&
     !overlaps new.queueFirst new.queueCount u.queueFirst u.queueCount &&
     !(m != 0 && n != 0 && overlaps new.vlanFirst new.vlanCount u.vlanFirst u.vlanCount))) &&
  (if n = 0 then new.queueFirst == 0 && 0x100 ≤ new.queueCount else new.queueCount == 0 || 0x100 ≤ new.queueFirst) &&
  suiteSum s n new (·.keyQuota) ≤ 8192 && suiteSum s n new (·.hearthQuota) ≤ 4096 && suiteSum s n new (·.atticUnits) ≤ 1024

/-- The window and segments of a suite. -/
def windowOf (u : Suite) : List Nat := [u.winBase, u.winSize, u.constAt, u.retainAt, u.dataAt]

/-- A queue that a task binds, or that holds an item. -/
def queueInUse (q : Queue) : Bool :=
  !q.items.isEmpty || !q.held.isEmpty || (match q.consumer with | some (.task _ _) => true | _ => false) ||
    q.attached.any (fun a => match a.who with | .task _ _ => true | _ => false)

/-- R162, R174: what the present use of a suite does not admit. Log 45 (DEDUCED). -/
def suiteBusy (s : State) (n : Nat) (old new : Suite) : Bool :=
  resetting s n ||
    (!(suiteTasks s n).isEmpty && (windowOf old != windowOf new || old.enabled != new.enabled)) ||
    (n == 0 && (windowOf old != windowOf new || !new.enabled)) ||
    s.larder.queues.any (fun e => old.queueFirst ≤ e.1 && e.1 < old.queueFirst + old.queueCount &&
      !(new.queueFirst ≤ e.1 && e.1 < new.queueFirst + new.queueCount) && queueInUse e.2) ||
    (new.keyQuota < old.keyQuota && new.keyQuota < slotsHeld s n) ||
    (new.hearthQuota < old.hearthQuota && new.hearthQuota < (s.hearth.slots.filter (fun e => e.2.inUse && e.2.suite == n)).length)

/-- R153, R160, R398: CODE and CONST of a tenant come from the program store when its suite is enabled or its window changes; in
the pass of a warm restart RETAIN comes from the journal. Log 46 (DEDUCED). -/
def loadProgram (s : State) (n : Nat) : State :=
  let s := (copyImage s 3 n).1
  if s.boot.warm then replayRetain s n else s

/-- R160: a suite's new record takes effect. Log 46 (DEDUCED). -/
def applySuite (s : State) (n : Nat) (new : Suite) : State :=
  let old := suiteAt s n
  let s := setSuite s n (fun _ => { new with state := if !new.enabled then stOff else if old.enabled then old.state else stRun })
  let s := redirect s tracePart (if old.enabled then old.debugQueue else 0) (if new.enabled then new.debugQueue else 0)
    ((enabledSuites s).any (fun m => (suiteAt s m).debugQueue == old.debugQueue))
  let s := if new.enabled && n != 0 && (!old.enabled || windowOf old != windowOf new) then loadProgram s n else s
  let s := if new.enabled then ensureRoot s n else s
  if old.enabled != new.enabled || old.atticUnits != new.atticUnits then relayout s n old.enabled else s

/-- R160 to R162: CFG_SUITE. Log 45 (DEDUCED). -/
def configureSuite (r : CfgReq) (s : State) : CfgOut :=
  buildingCfg s (cfgUnitOnly r s (· == .module) (fun _ =>
    let n := fld (r.word 2) 0 6
    let old := suiteAt s n
    let new := suiteFields r old
    if !suiteFieldsOk new || !suiteApart s n new then cfgDeny s (stFault .range)
    else if suiteBusy s n old new then cfgDeny s (stRefused .state)
    else cfgDone (applySuite s n new)))

/-- R160: CFG_SUITE. Log 24 (DEDUCED). -/
def execCfgSuite (c : Nat) (s : State) : Host.Outcome State Fault Refusal := .next (serveCfg c (cfgCode 0x03) configureSuite s)

/-! ### CFG_POINT (R163, R165) -/

/-- R163: the point that a TARGET names, by an address of this module or of its pair whose ELEMENT is left open. Log 47 (DEDUCED). -/
def pointTarget (s : State) (a : BitVec 64) : Option Nat :=
  match resolve s (pack [(0, 14, selfElement), (14, 50, fld a 14 50)]) with
  | some (.unit .module) | some (.unit .pair) => some (addrElement a)
  | _ => none

/-- The fields of a CFG_POINT body. -/
def pointFields (r : CfgReq) : PointCfg :=
  { owner := fld (r.word 2) 0 6, type := fld (r.word 2) 8 3, retained := bitAt (r.word 2) 11, exportMap := r.word 3 }

/-- The loaded tasks whose lists name a point, as suites. -/
def listingSuites (s : State) (e : Nat) : List Nat :=
  ((loadedTasks s).filter (fun t => t.2.desc.inList.contains e || t.2.desc.outList.contains e)).map (·.1 / 32)

/-- R165: the cases of the table, in its order. -/
def pointRefusal (r : CfgReq) (s : State) (e : Nat) (new : PointCfg) : Option Status :=
  let old := pointCfg s e
  let listed := listingSuites s e
  if !isPoint e then some (stFault .range)
  else if r.suite != 0 && (old.owner != r.suite || new.owner != old.owner || new.exportMap != old.exportMap) then some (stRefused .threshold)
  else if ((isDi e || isDo e) && new.type != tyBool) || (new.retained && !isGeneral e) then some (stFault .range)
  else if isMeterPoint e && (new.owner != old.owner || new.type != old.type) then some (stFault .range)
  else if !(suiteAt s new.owner).enabled || resetting s new.owner || resetting s old.owner then some (stRefused .state)
  else if !listed.isEmpty && (new.owner != old.owner || new.type != old.type) then some (stRefused .state)
  else if listed.any (fun n => old.exportMap.getLsbD n && !new.exportMap.getLsbD n) then some (stRefused .state)
  else if issuerLocked s r then some (stRefused .lock)
  else none

/-- R163: CFG_POINT. Log 47 (DEDUCED). -/
def configurePoint (r : CfgReq) (s : State) : CfgOut :=
  match pointTarget s (r.word 0) with
  | none => cfgDeny s (match resolve s (r.word 0) with | none => stRefused .address | some _ => stFault .range)
  | some e =>
    let new := pointFields r
    match pointRefusal r s e new with
    | some st => cfgDeny s st
    | none => cfgDone { s with points := tset (pointDefault e) s.points e new }

/-- R163: CFG_POINT. -/
def execCfgPoint (c : Nat) (s : State) : Host.Outcome State Fault Refusal := .next (serveCfg c (cfgCode 0x05) configurePoint s)

/-! ### Host sessions (R167, R175, R188, R192, R196) -/

/-- A session of a host with a suite. -/
def sessionOf (s : State) (suite host : Nat) : Option Session := s.sessions.find? (fun x => x.suite == suite && x.host == host)

/-- R188: the management firmware attaches to the queues that a session puts into. Log 27 (DEDUCED), 48 (DEDUCED). -/
def attachSession (s : State) (h : SessionOpen) : State :=
  (((suiteAt s h.suite).hostQueue :: h.puts).filter (fun q => q != 0 && mayPut s h.suite q)).foldl
    (fun s q => setQueue s q (fun x => attach x (.session h.suite h.host h.number))) s

/-- R192: it consumes the queues that the session takes from, where no other consumer does. Log 48 (DEDUCED). -/
def consumeFor (s : State) (h : SessionOpen) : State :=
  (h.takes.filter (fun q => q != 0 && mayTake s h.suite q && (queueAt s q).consumer.isNone)).foldl
    (fun s q => handItems (setQueue s q (fun x => { x with consumer := some (.session h.suite h.host h.number) })) q) s

/-- R175: an authenticated session opens; one to a disabled suite is refused. In recovery SVC alone is served, to RANK 7 (R398). Log 48 (DEDUCED), 110 (DESIGN CHOICE). -/
def openSession (h : SessionOpen) (s : State) : State :=
  let served := s.boot.phase == .running || (s.boot.phase == .recovery && h.port == 194 && h.rank == 7)
  if !served || !(suiteAt s h.suite).enabled || h.host = 0 || 0xFEFF < h.host || 7 < h.rank || h.port < 192 || 194 < h.port ||
      h.number = 0 || s.sessions.any (fun x => x.number == h.number) then s
  else
    let s := { s with sessions := s.sessions ++ [{ number := h.number, host := h.host, suite := h.suite, rank := h.rank, port := h.port, puts := h.puts, takes := h.takes }] }
    consumeFor (attachSession s h) h

/-- R175: a host session opens. -/
def execHostSessionOpen (h : SessionOpen) (s : State) : Host.Outcome State Fault Refusal := .next (openSession h s)

/-- R189, R196: a session closes: its queues are left, and its items become undelivered. The ownership stays (R175). Log 48 (DEDUCED). -/
def closeSession (number : Nat) (s : State) : State :=
  match s.sessions.find? (fun x => x.number == number) with
  | none => s
  | some x =>
    let s := { s with
      sessions := s.sessions.filter (fun y => y.number != number)
      larder := { s.larder with queues := s.larder.queues.map (fun e =>
        (e.1, if (attachment e.2 (.session x.suite x.host number)).isSome then detach e.2 (.session x.suite x.host number) else e.2)) } }
    x.takes.foldl (fun s q =>
      if (queueAt s q).consumer = some (.session x.suite x.host number) then
        undeliver (setQueue s q (fun x => { x with consumer := none })) q (.session x.suite x.host number)
      else s) s

/-- R196: a host session closes. -/
def execHostSessionClose (host number : Nat) (s : State) : Host.Outcome State Fault Refusal :=
  .next (if (s.sessions.find? (fun x => x.number == number)).any (fun x => x.host == host) then closeSession number s else s)

/-- R196: a host acknowledges an item that was delivered for it, which it names by its SEQ. -/
def acknowledge (host number queue seq : Nat) (s : State) : State :=
  match (queueAt s queue).items.find? (fun it => it.seq % 2 ^ 16 == seq &&
      (match it.deliveredTo with | some (.session _ h k) => h == host && k == number | _ => false)) with
  | some it => ackItem s queue it.seq
  | none => s

/-- R196: a host acknowledges an item. -/
def execHostAcknowledgement (host number queue seq : Nat) (s : State) : Host.Outcome State Fault Refusal :=
  .next (acknowledge host number queue seq s)

/-! ### The owner of a suite (R176 to R182) -/

/-- R178: the suite that word 2 of an owner command names. -/
def Cmd.suiteWord (c : Cmd) : Nat := fld (c.word 2) 0 6

/-- R183: LAST_STATUS of a suite follows every suite or owner command answered for it. -/
def noteSuite (n : Nat) (r : CmdResult) : CmdResult :=
  if r.reply then { r with s := setSuite r.s n (fun u => { u with lastStatus := r.st }) } else r

/-- A command of R178 with its ARG: the self unit takes it. -/
def onSuite (c : Cmd) (t : Target) (s : State) (run : Nat → CmdResult) : CmdResult :=
  onUnit t isSelf s (noteSuite c.suiteWord (run c.suiteWord))

/-- R160: LEASE in seconds. -/
def leaseNs (u : Suite) : Int := ((if u.lease = 0 then 30 else u.lease) * giga : Nat)

/-- R231 OWNER: an ownership or lock change goes into the mirror delta. -/
def mirrorOwner (s : State) (n : Nat) : State := mirror s (.ownership n (suiteAt s n).owner (suiteAt s n).ownerRank (suiteAt s n).leaseEnd (suiteAt s n).locked)

/-- R180: a host becomes owner at this instant; a handover lapses. -/
def becomeOwner (s : State) (n host rank : Nat) : State :=
  mirrorOwner (setSuite s n (fun u => { u with
    owner := some host, ownerRank := rank, leaseEnd := taddNs (now s) (leaseNs u), handover := none, handoverUntil := 0 })) n

/-- R180, R181: a suite has no owner any longer. -/
def endOwnership (s : State) (n : Nat) : State :=
  let s := mirrorOwner (setSuite s n (fun u => { u with owner := none, ownerRank := 0, handover := none, handoverUntil := 0 })) n
  raiseEvent s [n] 3 .module stDone []

/-- R179: the lease end as a reply's payload. Log 49 (DEDUCED). -/
def leaseWord (s : State) (n : Nat) : BitVec 64 := nowForm (suiteAt s n).leaseEnd

/-- R179: a claim is answered. Log 49 (DEDUCED). -/
def answerClaim (n host : Nat) (s : State) (x : Claim) : State :=
  let won := x.host == host
  let st := if won then stDone else stRefused .owner
  let s := setSuite s n (fun u => { u with lastStatus := st })
  lateReply s x.via x.target x.tag x.replyQueue 0x30 n st [if won then leaseWord s n else BitVec.ofNat 64 host]

/-- R179: of two claims, the one of higher RANK, then of lower HOST_ID. -/
def betterClaim (a b : Claim) : Claim := if a.rank < b.rank || (a.rank == b.rank && b.host < a.host) then b else a

/-- R179: the election window closes. -/
def closeElection (n : Nat) (s : State) : State :=
  let u := suiteAt s n
  match u.claimOpen, u.claims with
  | some due, x :: xs =>
    if s.tick < due then s else
    let w := xs.foldl betterClaim x
    let s := setSuite s n (fun u => { u with claims := [], claimOpen := none })
    u.claims.foldl (answerClaim n w.host) (becomeOwner s n w.host w.rank)
  | _, _ => s

/-- R179: the election window of a suite closes after 100 ms. -/
def execElectionClose (suite : Nat) (s : State) : Host.Outcome State Fault Refusal := .next (closeElection suite s)

/-- R178: a host of the suite. -/
def hostOf (n : Nat) (c : Cmd) : Bool := c.suite == n && !c.fromTask && c.host != 0

/-- R179: a normal claim: refused while there is an owner; the first one opens the window. -/
def claim (c : Cmd) (t : Target) (s : State) : CmdResult :=
  onSuite c t s (fun n =>
    let u := suiteAt s n
    match hostOf n c, sessionOf s n c.host with
    | true, some x =>
      if 1 < c.arg then refuse s .range
      else if u.owner.isSome then { s, st := stRefused .owner, payload := [BitVec.ofNat 64 (u.owner.getD 0)] }
      else
        let cl : Claim := { host := c.host, rank := x.rank, via := c.queue, target := c.target, replyQueue := c.replyQueue, tag := c.tag }
        { s := setSuite s n (fun u => { u with
            claims := u.claims ++ [cl]
            claimOpen := match u.claimOpen with | some d => some d | none => some (s.tick + ticksMs 100) })
          st := stDone, reply := false }
    | _, _ => refuseOwner s n c)

/-- R179: OWNER_CLAIM; an ARG that is not listed is refused here. Log 9 (DEDUCED). -/
def execOwnerClaim (q : CmdQueue) (s : State) : Host.Outcome State Fault Refusal :=
  .next (unitCommand q (fun c => c.code == 0x30 && c.arg != 1) false claim s)

/-- R179: a FORCE claim of a RANK 7 host over SVC takes the ownership at once and ends an open window. -/
def claimForce (c : Cmd) (t : Target) (s : State) : CmdResult :=
  onSuite c t s (fun n =>
    if hostOf n c && s.sessions.any (fun x => x.suite == n && x.host == c.host && x.rank == 7 && x.port == 194) then
      let others := (suiteAt s n).claims
      let s := becomeOwner (setSuite s n (fun u => { u with claims := [], claimOpen := none })) n c.host 7
      let s := others.foldl (answerClaim n c.host) s
      { s := raiseEvent s [n] 4 .module stDone [], st := stDone, payload := [leaseWord s n] }
    else refuseOwner s n c)

/-- R179: OWNER_CLAIM with FORCE. -/
def execOwnerClaimForce (q : CmdQueue) (s : State) : Host.Outcome State Fault Refusal :=
  .next (unitCommand q (fun c => c.code == 0x30 && c.arg == 1) false claimForce s)

/-- R178: an owner command whose ARG is 0. -/
def ownerCommand (c : Cmd) (t : Target) (s : State) (run : Nat → CmdResult) : CmdResult :=
  onSuite c t s (fun n => ownerOnly s n c (if c.arg ≠ 0 then refuse s .range else run n))

/-- R180: OWNER_RENEW: not later than LEASE_END. Log 49 (DEDUCED), 50 (DEDUCED). -/
def renew (c : Cmd) (t : Target) (s : State) : CmdResult :=
  ownerCommand c t s (fun n =>
    let u := suiteAt s n
    if u.owner.isNone || reached (now s) u.leaseEnd then refuseOwner s n c
    else { s := mirrorOwner (setSuite s n (fun u => { u with leaseEnd := taddNs (now s) (leaseNs u) })) n, st := stDone })

/-- R180: OWNER_RENEW. -/
def execOwnerRenew (q : CmdQueue) (s : State) : Host.Outcome State Fault Refusal := .next (unitCommand q (withCode 0x31) false renew s)

/-- R180: the lease of an ownership ends. -/
def execLeaseExpiry (suite : Nat) (s : State) : Host.Outcome State Fault Refusal :=
  .next (if (suiteAt s suite).owner.isSome && reached (now s) (suiteAt s suite).leaseEnd then endOwnership s suite else s)

/-- R176, R178: the owner, or for a tenant the owner of suite 0. -/
def ownerOrBuilding (s : State) (n : Nat) (c : Cmd) (run : CmdResult) : CmdResult :=
  if commands s n c || (n != 0 && buildingOwner s c) then run else refuseOwner s n c

/-- R180: OWNER_RELEASE. Log 50 (DEDUCED). -/
def release (c : Cmd) (t : Target) (s : State) : CmdResult :=
  onSuite c t s (fun n => ownerOrBuilding s n c (if c.arg ≠ 0 then refuse s .range else { s := endOwnership s n, st := stDone }))

/-- R180: OWNER_RELEASE. -/
def execOwnerRelease (q : CmdQueue) (s : State) : Host.Outcome State Fault Refusal := .next (unitCommand q (withCode 0x32) false release s)

/-- R181: OWNER_HANDOVER names a host of the suite; a second one replaces the first. Log 50 (DEDUCED). -/
def handOver (c : Cmd) (t : Target) (s : State) : CmdResult :=
  ownerCommand c t s (fun n =>
    let next := fld (c.word 3) 0 16
    if (suiteAt s n).owner.isNone then refuseOwner s n c
    else if (sessionOf s n next).isNone then refuse s .range
    else { s := setSuite s n (fun u => { u with handover := some next, handoverUntil := s.tick + ticksMs 5000 }), st := stDone })

/-- R181: OWNER_HANDOVER. -/
def execOwnerHandover (q : CmdQueue) (s : State) : Host.Outcome State Fault Refusal := .next (unitCommand q (withCode 0x33) false handOver s)

/-- R181: OWNER_ACCEPT by the named successor within the 5 s. -/
def acceptHandover (c : Cmd) (t : Target) (s : State) : CmdResult :=
  onSuite c t s (fun n =>
    let u := suiteAt s n
    if c.arg ≠ 0 then refuse s .range
    else if !hostOf n c || u.handover != some c.host || u.handoverUntil < s.tick then refuse s .state
    else
      let s := becomeOwner s n c.host (((sessionOf s n c.host).map (·.rank)).getD 0)
      { s := raiseEvent s [n] 3 .module stDone [], st := stDone, payload := [leaseWord s n] })

/-- R181: OWNER_ACCEPT. -/
def execOwnerAccept (q : CmdQueue) (s : State) : Host.Outcome State Fault Refusal := .next (unitCommand q (withCode 0x34) false acceptHandover s)

/-- R181: a handover that was not accepted lapses after 5 s. -/
def execHandoverLapse (suite : Nat) (s : State) : Host.Outcome State Fault Refusal :=
  .next (if (suiteAt s suite).handover.isSome && (suiteAt s suite).handoverUntil < s.tick then
    setSuite s suite (fun u => { u with handover := none, handoverUntil := 0 }) else s)

/-- R178, R182: OWNER_UNLOCK by an owner of RANK 6 or more. Log 50 (DEDUCED). -/
def unlock (c : Cmd) (t : Target) (s : State) : CmdResult :=
  onSuite c t s (fun n =>
    let u := suiteAt s n
    if hostOf n c && u.owner == some c.host && 6 ≤ u.ownerRank then
      (if c.arg ≠ 0 then refuse s .range else { s := mirrorOwner (setSuite s n (fun u => { u with locked := false })) n, st := stDone })
    else refuseOwner s n c)

/-- R182: OWNER_UNLOCK. -/
def execOwnerUnlock (q : CmdQueue) (s : State) : Host.Outcome State Fault Refusal := .next (unitCommand q (withCode 0x37) false unlock s)

/-! ### Suite reset and status (R169, R171, R183) -/

/-- R169, R178: SUITE_RESET. -/
def resetCommand (c : Cmd) (t : Target) (s : State) : CmdResult :=
  onSuite c t s (fun n => ownerOrBuilding s n c
    (if n = 0 || (c.arg ≠ 1 && c.arg ≠ 2) then refuse s .range
     else if !(suiteAt s n).enabled then refuse s .state
     else { s := resetSuite s n (c.arg == 2), st := stDone }))

/-- R169: SUITE_RESET. -/
def execSuiteReset (q : CmdQueue) (s : State) : Host.Outcome State Fault Refusal := .next (unitCommand q (withCode 0x35) false resetCommand s)

/-- R171 step 7: the packets that a fenced queue held enter it. -/
def liftQueue (s : State) (qn : Nat) : State :=
  let held := (queueAt s qn).held
  let s := setQueue s qn (fun q => { q with fenced := false, held := [] })
  held.foldl (fun s it => enterItem s qn it) (handItems s qn)

/-- R153: a cold suite restart sets the suite's general points to zero. Log 19 (DEDUCED). -/
def zeroPoints (s : State) (n : Nat) : State :=
  { s with values := s.values.filter (fun e => !(isGeneral e.1 && (pointCfg s e.1).owner == n)) }

/-- R171 step 7: a task enters RUN by WARM_RUN or AUTORUN, as a RUN command gives. -/
def restartTask (cold : Bool) (s : State) (c : Nat) : State :=
  let d := (taskAt s c).desc
  if (if cold then d.autorun else d.warmRun) then setTask s c (fun t => { t with pending := some { step := false, at80 := effectTime s c none } }) else s

/-- R128 to R130, R397: a task's code is analysed again; none where it passes, with W renewed. A word of it with an uncorrectable
error puts the suite into FAULT (R168). Log 105 (DEDUCED). -/
def reanalyseTask (s : State) (c : Nat) : State × Option Status :=
  let d := (taskAt s c).desc
  match analyse (codeView s d.suite) d.entry with
  | .refused a =>
    match uncorrectableIn s ((suiteAt s d.suite).winBase + a) 4 with
    | some bad => (meetError s bad 2, some (stFault .error))
    | none => (s, some (stFault .illegal))
  | .worst w =>
    let d := { d with worst := w }
    if !admits s c d then (s, some (stRefused .budget)) else (setTask s c (fun t => { t with desc := d }), none)

/-- R397: every loaded task of a suite again; the status of the first that fails. -/
def reanalyse (s : State) (n : Nat) : State × Option Status :=
  (suiteTasks s n).foldl (fun acc e => let r := reanalyseTask acc.1 e.1; (r.1, acc.2.or r.2)) (s, none)

/-- R171 step 7, R397: CODE and CONST of a tenant are loaded; where this activates an image whose tasks do not all load, the old one
is copied back. Log 19 (DEDUCED). -/
def reloadTenant (s : State) (n : Nat) : State :=
  let activating := (updateAt s 3 n).phase == .activating
  let r := copyImage s 3 n
  let again := reanalyse r.1 n
  if !activating then again.1
  else if r.2 ≠ stDone then tellOutcome again.1 3 n r.2
  else match again.2 with
    | some st => tellOutcome (reanalyse (copyImage (setUpdate r.1 3 n comeBack) 3 n).1 n).1 3 n st
    | none => tellOutcome (setUpdate again.1 3 n (fun u => { u with phase := .trial })) 3 n stDone

/-- R171 step 7: the fence of a suite that is RESETTING lifts. Log 19 (DEDUCED), 89 (DEDUCED). -/
def liftFence (n : Nat) (s : State) : State :=
  let u := suiteAt s n
  if u.state ≠ stResetting then s else
  let cold := u.resetCold == some true
  let s := if cold then zeroPoints (reloadTenant s n) n else s
  let tasks := (suiteTasks s n).map (·.1)
  let s := setSuite s n (fun u => { u with
    state := stDegraded, resetCold := none, suiteResets := bump 16 u.suiteResets })
  let s := ((s.larder.queues.filter (fun e => e.2.fenced && queueOwner s e.1 == some n)).map (·.1)).foldl liftQueue s
  let s := (ownedUnits s n).foldl (fun s u => setUnitStat s u (fun x => { x with state := stRun })) s
  tasks.foldl (restartTask cold) s

/-- R171: the fence lifts. -/
def execSuiteFenceLift (suite : Nat) (s : State) : Host.Outcome State Fault Refusal := .next (liftFence suite s)

/-- R183: the four status words of a suite. -/
def suiteWords (s : State) (n : Nat) : List (BitVec 64) :=
  let u := suiteAt s n
  [pack [(0, 4, u.state), (4, 1, b2n u.locked), (5, 1, b2n u.owner.isSome), (6, 1, b2n u.handover.isSome), (8, 8, Status.byte u.lastStatus),
     (16, 16, u.owner.getD 0), (32, 16, u.handover.getD 0), (48, 6, (suiteTasks s n).length)],
   nowForm u.leaseEnd,
   pack [(0, 16, u.thresholdFaults), (16, 16, u.droppedReplies), (32, 16, u.suiteResets), (48, 16, u.discarded)],
   pack [(0, 32, u.lastDrainNs), (32, 32, u.lastResetSec)]]

/-- R183: SUITE_STATUS: status word ARG. -/
def execSuiteStatus (q : CmdQueue) (s : State) : Host.Outcome State Fault Refusal :=
  .next (unitCommand q (withCode 0x36) false (fun c t s => onSuite c t s (fun n =>
    if 3 < c.arg then refuse s .range else { s, st := stDone, payload := [(suiteWords s n).getD c.arg 0] })) s)

end Sys2Proof.Machine
end

