-- ==== Sys2Proof/Machine/Ports.lean ====
section
/-! DEFINITION. Field ports: configuration, link, MAC, egress, counters and endpoint power (R244 to R254, R266 to R269). -/

namespace Sys2Proof.Machine
open Sys2Proof

/-! ### Counters (R252 to R254) -/

/-- R254: the counter of a frame's size, in either block. -/
def sizeCounter (n : Nat) : Nat :=
  if n ≤ 64 then 7 else if n ≤ 127 then 8 else if n ≤ 255 then 9 else if n ≤ 511 then 10 else if n ≤ 1023 then 11
  else if n ≤ 1518 then 12 else 13

/-- R254: the counter of a frame's destination: unicast, multicast or broadcast. The group bit is the lowest of the first octet. Log 64 (DEDUCED). -/
def kindCounter (dst : Nat) : Nat := if dst = 2 ^ 48 - 1 then 4 else if dst / 2 ^ 40 % 2 = 1 then 3 else 2

/-- Counts several counters of one block. -/
def countAll (s : State) (p : Nat) (tx : Bool) (l : List (Nat × Nat)) : State := l.foldl (fun s e => countPort s p tx e.1 e.2) s

/-- R254: the counts of a frame sent, from DA to FCS. -/
def countSent (s : State) (p : Nat) (f : Frame) : State :=
  let n := frameLen f
  countAll s p true ([(0, n), (1, 1), (kindCounter f.dst, 1), (sizeCounter n, 1)] ++ (if f.tag.isSome then [(6, 1)] else []))

/-- R253: the 16 words of a counter block. -/
def counterWords (s : State) (p : Nat) (block : Nat) : List (BitVec 64) :=
  let t := if block = 0 then (portAt s p).rx else (portAt s p).tx
  (List.range 16).map (fun w => pack [(0, 32, tget 0 t (2 * w)), (32, 32, tget 0 t (2 * w + 1))])

/-- The port of the switch that a unit is. -/
def unitPort : UnitId → Option Nat
  | .part p => if p.cls = 1 then some p.inst else if p.cls = 2 then some (192 + p.inst) else none
  | _ => none

/-- R253, R277: PORT_COUNTERS, from any host or suite. -/
def execPortCounters (q : CmdQueue) (s : State) : Host.Outcome State Fault Refusal :=
  .next (unitCommand q (withCode 0x70) false (fun c t s => match t with
    | .unit u => match unitPort u with
      | some p => if 1 < c.arg then refuse s .range else { s, st := stDone, payload := counterWords s p c.arg }
      | none => refuse s .range
    | .point _ _ => refuse s .range) s)

/-! ### Queues that the port switch and the ports serve (R192, R444) -/

/-- R444: a configuration directs the port switch to a queue as a producer. -/
def switchDirected (s : State) (q : Nat) : Bool :=
  (0x40 ≤ q && q ≤ 0x46) || s.sw.classes.any (fun e => e.2.action == .queue && e.2.queue == q) ||
    s.sw.txq.any (fun e => e.2 == q) || s.ports.any (fun e => e.2.cfg.statsQueue == q) || s.uplinks.any (fun e => e.2.cfg.egressQueue == q)

/-- R444: the port switch after a change that named `old` and names `new`. -/
def directSwitch (s : State) (old new : Nat) : State := redirect s switchPart old new (switchDirected s old)

/-! ### The link (R245, R248, R251) -/

/-- The timed frames of a cycle that a falling link discarded before they started were never sent. -/
def noteDiscarded (s : State) (port : Nat) (f : EgFrame) : State :=
  let mark := mapWhere (fun (x : CycleFrame) => x.port == port && x.id == f.id && x.outcome.isNone) (fun x => { x with outcome := some stWithdrawn })
  match f.cls, f.cyc with
  | .timed, some (c, _, _) => if f.started then s else setTask s c (fun t => { t with
      cycle := t.cycle.map (fun y => { y with frames := mark y.frames })
      cancelled := t.cancelled.map (fun x => { x with frames := mark x.frames }) })
  | _, _ => s

/-- R248, R251: a link goes to a state in which it is not up: the buffer is emptied, and what the link had settled is gone. A PAUSE that a
HIGH holds (R250) goes on with the next link. -/
def dropLink (s : State) (p target : Nat) : State :=
  let x := portAt s p
  let s := if x.link = 2 then countPort s p true 20 1 else s
  let s := if x.egress.isEmpty then s else countPort s p true 18 x.egress.length
  let s := x.egress.foldl (fun s f => noteDiscarded s p f) s
  let s := setUnitStat s (portUnit p) (fun u => if u.state == stQuiet then { u with state := stRun } else u)
  setPort s p (fun x => { x with
    link := target, egress := [], level2v4 := false, isMaster := false, eeeOn := false, lpi := false, pausedUntil := none, sqi := 0 })

/-- The link is retrained, or off with a disabled port. -/
def retrain (s : State) (p : Nat) (on : Bool) : State := dropLink s p (if on then 1 else 0)

/-- R245: the level that a link of a field port runs at: forced by MODE 2 or 3, else 2.4 Vpp where both ends advertise it. -/
def linkLevel (c : PortCfg) (partner : Bool) : Bool := if c.mode = 2 then true else if c.mode = 3 then false else c.allow2v4 && partner

/-- R245: whether a field port is the master of its link: as MASTER forces it in MODE 2 and 3; in MODE 1 the end that prefers it, and
where both or neither do, as the seeds of IEEE 802.3 fall out. Log 64 (DEDUCED). -/
def linkMaster (c : PortCfg) (partner seed : Bool) : Bool := if 2 ≤ c.mode || c.master != partner then c.master else seed

/-- R271: the rate that autonegotiation resolves: the highest that both ends advertise. Log 67 (DEDUCED). -/
def resolvedRate (u : UplinkCfg) (partner : BitVec 4) : Option Nat :=
  [4, 3, 2, 1].find? (fun c => u.adv.getLsbD (c - 1) && partner.getLsbD (c - 1))

/-- R271: the strongest FEC of a rate's PHY that both ends advertise. Log 67 (DEDUCED). -/
def resolvedFec (u : UplinkCfg) (rate : Nat) (partner : BitVec 2) : Nat :=
  if rate = 4 && u.fecAllow.getLsbD 1 && partner.getLsbD 1 then 2
  else if (rate = 3 || rate = 4) && u.fecAllow.getLsbD 0 && partner.getLsbD 0 then 1 else 0

/-- R271 to R273: the rate that a link of an uplink or SVC comes up at: FORCED_RATE, what autonegotiation resolves, 1,000 Mb/s on 1000BASE-X,
or the rate that the SGMII control exchange gives; none where there is none. Log 67 (DEDUCED). -/
def linkRate (i : Nat) (u : UplinkCfg) (l : LinkChange) : Option Nat :=
  if u.mode = 2 then (if u.svc1000x && u.forcedRate != 1 then none else some u.forcedRate)
  else if i ≠ 2 then resolvedRate u l.lpAdv
  else if u.svc1000x then some 1
  else if l.rate = 1 || l.rate = 5 || l.rate = 6 then some l.rate else none

/-- R288: LINK comes up after the launch time of a pending launch. Log 68 (DEDUCED). -/
def launchMissed (s : State) (i : Nat) : State := match (tget {} s.uplinks i).launch with
  | some l => if !l.now && 0 < tdiff (now s) l.at80 then completeLaunch s i l (stRefused .link) 0 [0, 0] else s
  | none => s

/-- R251, R278: what training or negotiation settled. A port whose MODE is 0, whose wing link is down (R30) or on which a loopback
test runs (R417) has no link. Log 110 (DESIGN CHOICE). -/
def linkChange (p : Nat) (l : LinkChange) (s : State) : State :=
  let x := portAt s p
  let up := tget {} s.uplinks (p - 192)
  if 195 ≤ p then s
  else if p < 192 then
    if !l.up then dropLink s p 0
    else if x.cfg.mode = 0 || x.link = 2 || portHeldDown s p then s
    else setPort s p (fun x => startNext { x with
      link := 2, level2v4 := linkLevel x.cfg l.level2v4, isMaster := linkMaster x.cfg l.master l.seed, eeeOn := l.eee && x.cfg.eee })
  else if up.gov = 2 then s
  else if !l.up then
    let s := dropLink s p 0
    { s with uplinks := tmod {} s.uplinks (p - 192) (fun u => { u with rate := 0, fec := 0, lpAdv := 0, lowRun := 0, gov := if u.gov = 3 then 3 else 0 }) }
  else if up.cfg.mode = 0 || x.link = 2 || portHeldDown s p then s
  else match linkRate (p - 192) up.cfg l with
  | none => s
  | some rate =>
    let s := setPort (launchMissed s (p - 192)) p (fun x => { x with link := 2 })
    { s with uplinks := tmod {} s.uplinks (p - 192) (fun u => { u with
        rate, fec := resolvedFec u.cfg rate l.lpFec, lpAdv := if u.cfg.mode = 1 && p != 194 then l.lpAdv else 0, lpFec := l.lpFec, lowRun := 0
        gov := if u.gov = 3 then 3 else if u.cfg.govEn && p != 194 then 1 else 0 }) }

/-- R251: a port's link goes up or down. -/
def execPortLinkChange (port : Nat) (l : LinkChange) (s : State) : Host.Outcome State Fault Refusal :=
  .next (clocked s (linkChange port l s))

/-! ### Endpoint power (R266 to R269) -/

/-- R267: the allocation of a class in mW. -/
def allocation (cls : Nat) : Nat := [1900, 4400, 11500, 9400, 24000, 64000].getD (cls - 10) 0

/-- R266: a class is of the port's rail. -/
def railOk (rail : Bool) (cls : Nat) : Bool := if rail then 13 ≤ cls && cls ≤ 15 else 10 ≤ cls && cls ≤ 12

/-- R270: the allocations granted on a rail. -/
def railUsed (s : State) (rail : Bool) : Nat :=
  ((s.ports.filter (fun e => e.2.granted && e.2.fedRail == rail)).map (fun e => allocation e.2.pseClass)).sum

def railBudget (s : State) (rail : Bool) : Nat := if rail then s.sw.railB else s.sw.railA

/-- R30: endpoint power of a port is held as it was last granted: its wing's link is down. Log 66 (DEDUCED), 84 (DEDUCED). -/
def powerHeld (s : State) (p : Nat) : Bool := dieLinkDown s (p / 48)

/-- R268: a waiting port is granted power where its allocation fits, and is otherwise passed over. It waits no longer once it is
granted; its FET follows (R266). Log 66 (DEDUCED). -/
def servePort (rail : Bool) (s : State) (p : Nat) : State :=
  let x := portAt s p
  if railUsed s rail + allocation x.pseClass ≤ railBudget s rail then
    countPort (setPort s p (fun x => { x with
      pse := .powered, granted := true, fedRail := rail, denied := false, pseStatus := stDone })) p true 23 1
  else
    let s := if x.denied then s else countPort s p true 24 1
    setPort s p (fun x => { x with denied := true, pseStatus := stRefused .power })

/-- R268: serves the waiting ports of a rail, the highest PWR_PRIO first, then in ascending port number. Log 66 (DEDUCED). -/
def serveRail (s : State) (rail : Bool) : State :=
  let waiting := s.ports.filter (fun e => e.2.pse == .waitBudget && e.2.cfg.rail == rail && !powerHeld s e.1)
  (((List.range 8).reverse).flatMap (fun k => (waiting.filter (fun e => e.2.cfg.pwrPrio == k)).map (·.1))).foldl (servePort rail) s

/-- R268: the port that is shed first: the lowest PWR_PRIO, then the highest port number. -/
def shedFirst (s : State) (rail : Bool) : Option Nat :=
  let on := s.ports.filter (fun e => e.2.granted && e.2.fedRail == rail && !powerHeld s e.1)
  (List.range 8).findSome? (fun k => ((on.filter (fun e => e.2.cfg.pwrPrio == k)).map (·.1)).getLast?)

/-- R268: ports are shed until the allocations fit a lowered budget. Log 66 (DEDUCED). -/
def shed (rail : Bool) : Nat → State → State
  | 0, s => s
  | fuel + 1, s =>
    if railUsed s rail ≤ railBudget s rail then s else
    match shedFirst s rail with
    | none => s
    | some p => shed rail fuel (setPort s p (fun x => { x with
        pse := .waitBudget, granted := false, gate := false, denied := false, pseStatus := stRefused .power, currentMa := 0, powerMw := 0 }))

/-- R268: a budget is written. Log 66 (DEDUCED). -/
def budgetWritten (s : State) (rail : Bool) : State := serveRail (shed rail 192 s) rail

/-- Power leaves a port, which goes to a state of R251; what is freed is served. Log 66 (DEDUCED). -/
def removePower (s : State) (p : Nat) (target : PseState) : State :=
  let was := portAt s p
  let s := setPort s p (fun x => { x with pse := target, granted := false, gate := false, denied := false, pseClass := 0, currentMa := 0, powerMw := 0 })
  if was.granted then serveRail s was.fedRail else s

/-- R266 steps 2 to 4: a port's class is known. -/
def classKnown (s : State) (p cls : Nat) : State :=
  let x := portAt s p
  if cls < 10 || x.cfg.classMax < cls || !railOk x.cfg.rail cls then
    setPort s p (fun x => { x with pse := .noPd, pseStatus := stRefused .range, pseDue := s.tick + ticksMs 2000 })
  else serveRail (setPort s p (fun x => { x with pse := .waitBudget, pseClass := cls, granted := false, denied := false })) x.cfg.rail

/-- R266 steps 1, 2: detection ends. -/
def detection (p : Nat) (valid : Bool) (s : State) : State :=
  let x := portAt s p
  if x.pse ≠ .detecting || powerHeld s p then s
  else if !valid then
    countPort (setPort s p (fun x => { x with pse := .noPd, pseDue := s.tick + ticksMs 500 })) p true 26 1
  else if x.cfg.pseMode = 2 then classKnown s p x.cfg.classFixed
  else setPort s p (fun x => { x with pse := .classifying })

/-- R266: detection on a port. -/
def execPseDetection (port : Nat) (valid : Bool) (s : State) : Host.Outcome State Fault Refusal := .next (clocked s (detection port valid s))

/-- R266: detection is repeated. -/
def execPseDetectionRetry (port : Nat) (s : State) : Host.Outcome State Fault Refusal :=
  .next (clocked s (if (portAt s port).pse = .noPd && (portAt s port).pseDue ≤ s.tick then setPort s port (fun x => { x with pse := .detecting }) else s))

/-- R266: SCCP classification ends. -/
def execPseClassification (port : Nat) (cls : Nat) (s : State) : Host.Outcome State Fault Refusal :=
  .next (clocked s (if (portAt s port).pse = .classifying && !powerHeld s port then classKnown s port cls else s))

/-- R266: the FET of a granted port turns on. -/
def execPsePowered (port : Nat) (s : State) : Host.Outcome State Fault Refusal :=
  .next (clocked s (if (portAt s port).pse = .powered then setPort s port (fun x => { x with gate := true }) else s))

/-- R266 step 5: the maintain signature is lost. -/
def execPsePdLost (port : Nat) (s : State) : Host.Outcome State Fault Refusal :=
  .next (clocked s (if (portAt s port).pse = .powered && !powerHeld s port then removePower (countPort s port true 27 1) port .detecting else s))

/-- R269: a port's overload removes its power. -/
def overload (p : Nat) (s : State) : State :=
  if (portAt s p).pse ≠ .powered || powerHeld s p then s else
  let s := raiseEvent (countPort s p true 25 1) [0] 3 (portUnit p) stDone []
  removePower (setPort s p (fun x => { x with pseDue := s.tick + ticksMs 2000 })) p .backoff

/-- R269: overcurrent. -/
def execPseOverload (port : Nat) (s : State) : Host.Outcome State Fault Refusal := .next (clocked s (overload port s))

/-- R269: after 2 s in BACKOFF the port detects again. -/
def execPseBackoffExpiry (port : Nat) (s : State) : Host.Outcome State Fault Refusal :=
  .next (clocked s (if (portAt s port).pse = .backoff && (portAt s port).pseDue ≤ s.tick then setPort s port (fun x => { x with pse := .detecting }) else s))

/-! ### CFG_PORT (R245, R246) -/

/-- The configuration that a CFG_PORT body gives. Log 24 (DEDUCED). -/
def portFields (r : CfgReq) : PortCfg :=
  let a := r.word 2
  let b := r.word 3
  { mode := fld a 0 2, allow2v4 := bitAt a 2, master := bitAt a 3, eee := bitAt a 4, pauseTx := bitAt a 5, pauseRx := bitAt a 6
    tagEgress := bitAt a 7, pvid := fld a 8 12, maxFrame := fld a 20 11, pauseQueue := fld a 32 16, pauseQuanta := fld a 48 16
    pseMode := fld b 0 2, classMax := fld b 2 4, classFixed := fld b 6 4, pwrPrio := fld b 10 3, rail := bitAt b 13
    senseMohm := fld b 16 16, statsQueue := fld (r.word 4) 0 16, endpointMac := fld (r.word 5) 0 48 }

/-- R246: the MAC fields of a port are within their ranges. -/
def macFieldsOk (c : PortCfg) : Bool :=
  1 ≤ c.pvid && c.pvid ≤ 4094 && 64 ≤ c.maxFrame && c.maxFrame ≤ 1536 && 1 ≤ c.pauseQuanta

/-- R246: the power fields, each where PSE_MODE puts it to use. -/
def powerFieldsOk (c : PortCfg) : Bool :=
  c.pseMode ≤ 2 && (c.pseMode == 0 || (railOk c.rail c.classMax && 50 ≤ c.senseMohm && c.senseMohm ≤ 2000)) &&
    (c.pseMode != 2 || railOk c.rail c.classFixed)

/-- R246: what a change of the power fields does. Log 66 (DEDUCED). -/
def repower (s : State) (p : Nat) (old new : PortCfg) : State :=
  let x := portAt s p
  if powerHeld s p then s
  else if new.pseMode = 0 then (if old.pseMode = 0 then s else removePower s p .off)
  else if old.pseMode = 0 then removePower s p .detecting
  else if old.rail != new.rail || (x.pseClass != 0 && new.classMax < x.pseClass) then
    removePower s p .detecting
  else s

/-- R245, R246: a port's configuration is applied. -/
def applyPort (s : State) (p : Nat) (new : PortCfg) : State :=
  let old := (portAt s p).cfg
  let s := setPort s p (fun x => { x with
    cfg := new, halfPending := x.halfPending && new.statsQueue != 0, pausing := x.pausing && new.pauseTx && new.pauseQueue == old.pauseQueue })
  let s := directSwitch s old.statsQueue new.statsQueue
  let s := if old.mode != new.mode || old.allow2v4 != new.allow2v4 || old.master != new.master || old.eee != new.eee then retrain s p (new.mode != 0) else s
  repower s p old new

/-- R245: CFG_PORT. -/
def configurePort (r : CfgReq) (s : State) : CfgOut :=
  buildingCfg s (cfgUnitOnly r s (fun u => match u with | .part p => p.cls == 1 | _ => false) (fun u =>
    let c := portFields r
    if !macFieldsOk c || !powerFieldsOk c then cfgDeny s (stFault .range)
    else cfgDone (applyPort s ((unitPort u).getD 0) c)))

/-- R245: CFG_PORT. -/
def execCfgPort (c : Nat) (s : State) : Host.Outcome State Fault Refusal := .next (serveCfg c (cfgCode 0x07) configurePort s)

/-! ### Receiving (R247, R250) -/

/-- The ns of one bit time of a port, times 1000: 10 Mb/s for field ports, by rate code for UL0, UL1 and SVC. -/
def bitPs (s : State) (p : Nat) : Nat :=
  if p < 192 then 100000 else
  match (tget {} s.uplinks (p - 192)).rate with
  | 4 => 40
  | 3 => 100
  | 2 => 400
  | 1 => 1000
  | 6 => 10000
  | _ => 100000

/-- R250: pause quanta of 512 bit times in REFCLK ticks, rounded up. -/
def quantaTicks (s : State) (p quanta : Nat) : Nat := (quanta * 512 * bitPs s p + 7999) / 8000

/-- R250, R288: a received PAUSE is over; a launch whose time has come meanwhile is late. -/
def pauseOver (s : State) (p : Nat) : State :=
  let s := setPort s p (fun x => startNext { x with pausedUntil := none })
  if p < 192 then s else
  { s with uplinks := tmod {} s.uplinks (p - 192) (fun u => { u with
      launch := u.launch.map (fun l => { l with delayed := l.delayed || (!l.now && 0 < tdiff (now s) l.at80) }) }) }

/-- R250: a received PAUSE holds egress after the frame in progress. Log 64 (DEDUCED). -/
def honourPause (s : State) (p quanta : Nat) : State :=
  if !(portAt s p).cfg.pauseRx then s
  else if quanta = 0 then pauseOver s p
  else countPort (setPort s p (fun x => { x with pausedUntil := some (s.tick + quantaTicks s p quanta) })) p true 19 quanta

/-- R254: the counter of a frame that is not good. -/
def badCounter (len max' : Nat) (fcsOk : Bool) : Nat :=
  if len < 64 then (if fcsOk then 15 else 16) else if max' < len then (if fcsOk then 17 else 18) else 14

/-- R263: a transaction still takes an answer of a port with a number in CYCLE: none later than Tq. -/
def takesAnswer (s : State) (p cyc : Nat) : Bool := match s.sw.transaction with
  | some x => s.sw.quiet == .proposing && x.number == cyc && x.ports.contains p && !decide (0 < tdiff (now s) x.tq)
  | none => false

/-- R263 step 2: an endpoint agrees or declines. Log 63 (DEDUCED). -/
def quietAnswer (port cycle : Nat) (agree : Bool) (s : State) : State :=
  if !takesAnswer s port cycle then s else
  { s with sw := { s.sw with transaction := s.sw.transaction.map (fun x =>
      if agree then { x with agreed := sinsert port x.agreed }
      else { x with ports := x.ports.filter (· != port), agreed := x.agreed.filter (· != port) }) } }

/-- R263: a frame is an endpoint's answer to a quiet proposal that awaits it: of KIND 0x05 or 0x06 of R142 and of that transaction. Log
63 (DEDUCED). Log 63 (DEDUCED). -/
def quietAnswerFrame (s : State) (p : Nat) (f : Frame) : Bool :=
  f.ethertype == 0x88B5 && (let w := wordAt f.payload 0
    (fld w 0 8 == 5 || fld w 0 8 == 6) && takesAnswer s p (fld w 32 32))

/-- R236, R255: a good frame goes on to the port switch, but from a field port of a STANDBY. It is stamped with the house time that its port
keeps (R281). Log 61 (DEDUCED). -/
def handOn (s : State) (p : Nat) (r : MacRx) : State :=
  if p < 192 && s.twin.role = .standby then countPort s p false 24 1
  else { s with sw := { s.sw with ingress := s.sw.ingress ++ [{
    port := p, frame := r.frame, len := r.len, sfd := taddNs (portTime s p) (-(r.sfdAgo : Int)), tsValid := !(unitStat s (engineUnit 7)).fault }] } }

/-- R247, R254: the MAC of a port receives a frame: it is checked and counted; a PAUSE frame is consumed, a good one handed on. Log 110 (DESIGN CHOICE). -/
def receive (p : Nat) (r : MacRx) (s : State) : State :=
  let x := portAt s p
  if x.link ≠ 2 then s else
  let s := countPort s p false 19 r.symbolErrors
  let good := r.fcsOk && 64 ≤ r.len && r.len ≤ x.cfg.maxFrame
  let answer := good && r.pause.isNone && quietAnswerFrame s p r.frame
  let s := if answer then s else wakeFloor s
  let s := setPort s p (fun x => { x with lastFrameTick := some s.tick })
  if good then
    let kind := if r.pause.isSome then 5 else kindCounter r.frame.dst
    let s := countAll s p false ([(0, r.len), (1, 1), (kind, 1), (sizeCounter r.len, 1)] ++ (if r.frame.tag.isSome then [(6, 1)] else []))
    match r.pause with
    | some q => honourPause s p q
    | none =>
      let w := wordAt r.frame.payload 0
      if answer then quietAnswer p (fld w 32 32) (fld w 0 8 == 5) s else handOn s p r
  else countPort s p false (badCounter r.len x.cfg.maxFrame r.fcsOk) 1

/-- R247: a MAC receives a frame. -/
def execMacReceive (port : Nat) (r : MacRx) (s : State) : Host.Outcome State Fault Refusal := .next (clocked s (receive port r s))

/-- R250: received pause quanta have passed. -/
def execPauseEnd (port : Nat) (s : State) : Host.Outcome State Fault Refusal :=
  .next (clocked s (match (portAt s port).pausedUntil with
    | some t => if t ≤ s.tick then pauseOver s port else s
    | none => s))

/-- R250: the PAUSE is repeated while HIGH stays set. -/
def execPauseRepeat (port : Nat) (s : State) : Host.Outcome State Fault Refusal :=
  .next (clocked s (let x := portAt s port
    if x.pausing && x.pauseDue ≤ s.tick then
      sendPause (setPort s port (fun x => { x with pauseDue := x.pauseDue + pauseRepeatTicks x.cfg.pauseQuanta })) port x.cfg.pauseQuanta
    else s))

/-! ### Sending (R143, R248) -/

/-- The frame in progress on a port. -/
def inProgress (s : State) (p : Nat) : Option EgFrame := (portAt s p).egress.find? (·.started)

/-- A frame's last octet has left: it is counted, and the next one starts. -/
def frameSent (s : State) (p : Nat) (f : EgFrame) : State :=
  let s := countSent s p f.frame
  setPort s p (fun x => startNext { x with egress := eraseFirst (fun g => g.started) x.egress, lastFrameTick := some s.tick })

/-- R144: a timed frame leaves after its commit time. -/
def isLate (s : State) (p : Nat) (f : EgFrame) : Bool := match f.cyc with | some (_, _, tc) => decide (0 < tdiff (portTime s p) tc) | none => false

/-- R248: the frame in progress, not a withdraw frame, has left. -/
def egressSent (p : Nat) (s : State) : State :=
  match inProgress s p with
  | none => setPort s p startNext
  | some f => match f.cls with
    | .withdraw => s
    | .timed => frameSent (countAll s p true (if isLate s p f then [(14, 1), (16, 1)] else [(14, 1)])) p f
    | .other => frameSent s p f

/-- R248: a port sends its next frame. -/
def execEgressFrameSent (port : Nat) (s : State) : Host.Outcome State Fault Refusal := .next (clocked s (egressSent port s))

/-- R143: the withdraw frame in progress has left: at or before C - 210 µs its value frame is withdrawn, afterwards it is applied. -/
def withdrawSent (p : Nat) (s : State) : State :=
  match inProgress s p with
  | none => s
  | some f =>
    if f.cls ≠ .withdraw then s else
    let s := frameSent (countPort s p true 15 1) p f
    match f.cyc with
    | none => s
    | some (c, _, tc) =>
      let out : Status := if 0 ≤ tdiff (taddNs tc (-210000)) (portTime s p) then stWithdrawn else { cls := .done, reason := .guard }
      let mark := mapWhere (fun (x : CycleFrame) => x.port == p && x.id == f.id && x.outcome.isNone) (fun x => { x with outcome := some out })
      settleCancelled (setTask s c (fun t => { t with cancelled := t.cancelled.map (fun x => { x with frames := mark x.frames }) })) c

/-- R143: a withdraw frame has left. -/
def execWithdrawFrameSent (port : Nat) (s : State) : Host.Outcome State Fault Refusal := .next (clocked s (withdrawSent port s))

/-! ### Half-range items and LPI (R251, R252, R264) -/

/-- R252: a half-range item, at most one in any 10 ms. -/
def halfItem (p : Nat) (s : State) : State :=
  let x := portAt s p
  if !x.halfPending || x.cfg.statsQueue = 0 || s.tick < x.halfDue then s else
  let s := setPort s p (fun x => { x with halfPending := false, halfDue := s.tick + ticksMs 10 })
  (putItem s x.cfg.statsQueue (.engine switchPart) 0 0 0 false
    (wordBytes [pack [(0, 8, p), (32, 32, (now s).sec)], pack [(0, 32, x.halfRx.toNat), (32, 32, x.halfTx.toNat)]])).1

/-- R252: a half-range item. -/
def execHalfRangeItem (port : Nat) (s : State) : Host.Outcome State Fault Refusal := .next (clocked s (halfItem port s))

/-- A port's transmitter enters LPI. -/
def enterLpi (s : State) (p : Nat) : State := countPort (setPort s p (fun x => { x with lpi := true })) p true 21 1

/-- R251: an idle field port with LPI negotiated enters it. -/
def execEeeLpiEntry (port : Nat) (s : State) : Host.Outcome State Fault Refusal :=
  .next (clocked s (let x := portAt s port
    if port < 192 && x.link == 2 && x.eeeOn && !x.lpi && x.egress.isEmpty then enterLpi s port else s))

/-- R264: a link partner leaving LPI wakes the floor, or the port alone where no floor is quiet. -/
def execLinkPartnerLeavingLpi (port : Nat) (s : State) : Host.Outcome State Fault Refusal :=
  .next (clocked s (if (portAt s port).link ≠ 2 then s else if s.sw.quiet = .awake then wakePort s port else wakeFloor s))

/-! ### Status (R251) -/

/-- R251: the measured current, power and signal quality are the outside's: free values, while the port's FET is on or its link up. Log 65 (DESIGN CHOICE). -/
def measurePort (s : State) (p : Nat) : State :=
  let w := Config.freeWord s.free
  let x := portAt s p
  let on := x.gate
  setPort { s with free := s.free + 1 } p (fun x => { x with
    currentMa := if on then fld w 0 16 else 0, powerMw := if on then fld w 16 16 else 0, sqi := if x.link = 2 then fld w 32 3 else 0 })

/-- R251: status words 1 and 2 of a field port. -/
def portStatus (s : State) (p : Nat) : List (BitVec 64) :=
  let x := portAt s p
  [pack [(0, 2, x.link), (2, 1, b2n x.level2v4), (3, 1, b2n x.isMaster), (4, 1, b2n x.eeeOn), (5, 1, b2n x.lpi), (6, 1, b2n x.pausedUntil.isSome),
     (7, 1, b2n (x.pausing && x.link == 2)), (8, 3, x.pse.ctorIdx), (12, 4, x.pseClass), (16, 8, Status.byte x.pseStatus), (24, 16, x.currentMa),
     (40, 16, x.powerMw), (56, 3, x.sqi)],
   pack [(0, 32, x.halfRx.toNat), (32, 32, x.halfTx.toNat)]]

end Sys2Proof.Machine
end

