-- ==== Sys2Proof/Machine/Twin.lean ====
section
/-! DEFINITION. Twin pairing: CFG_TWIN, heartbeats, the pairing decision, deltas as the active ships them, takeover and switchover
(R219 to R229, R234 to R243). -/

namespace Sys2Proof.Machine
open Sys2Proof

/-- The Landing link unit. -/
abbrev landingUnit : UnitId := linkUnit 5

def setTwin (s : State) (f : Twin → Twin) : State := { s with twin := f s.twin }

/-! ### CFG_TWIN (R228, R229) -/

/-- R229: M as a MIRROR_WINDOW gives it. -/
def windowFor (s : State) (w : Nat) : Nat :=
  if w != 0 then w else if (loadedTasks s).any (fun e => e.2.desc.cam) then s.twin.mUs else defaultWindow s

/-- R228: CFG_TWIN. -/
def configureTwin (r : CfgReq) (s : State) : CfgOut :=
  buildingCfg s (cfgUnitOnly r s (· == landingUnit) (fun _ =>
    let w := r.word 2
    let miss := fld w 16 8
    let m := windowFor s (fld w 0 16)
    if miss != 0 && miss < 4 then cfgDeny s (stFault .range)
    else if !s.addr.paired then cfgDeny s (stRefused .state)
    else if (loadedTasks s).any (fun e => e.2.desc.cam && !timingOk e.2.desc m) then cfgDeny s (stRefused .state)
    else cfgDone (settleEpochs s (setTwin s (fun t => { t with
      mirrorWindow := fld w 0 16, hbMiss := miss, noReclaim := bitAt w 24, staleOk := bitAt w 25, partnerSerial := fld (r.word 3) 0 32, mUs := m })))))

/-- R228: CFG_TWIN. -/
def execCfgTwin (c : Nat) (s : State) : Host.Outcome State Fault Refusal := .next (serveCfg c (cfgCode 0x14) configureTwin s)

/-! ### Roles -/

/-- R220, R225: the role codes. -/
def Role.code (r : Role) : Nat := r.ctorIdx

/-- R226: the interval after which a path without heartbeats is dead, in REFCLK ticks. -/
def deadTicks (s : State) : Nat := ticksUs (50 * (if s.twin.hbMiss = 0 then 20 else s.twin.hbMiss))

/-- R238: the health condition. -/
def healthy (s : State) : Bool :=
  !s.rooms.any (fun e => e.2.fault) && s.lanesOut.isEmpty && !s.links.any (fun e => e.2.down) && !s.clock.clkFault && !s.twin.mirrorBad

/-- R224, R417: the Landing link is down when no lane is in service, and while a loopback test runs on it. -/
def landingDown (s : State) : Bool := s.twin.lanesUp == 0 || testing s landingUnit

/-- R236: an output takes the last committed value again, and its Shutter timer restarts. -/
def rearmOutputs (s : State) : State :=
  { s with outputs := s.outputs.map (fun e => if e.2.touched then (e.1, { e.2 with live := true, releasedTick := s.tick, shutterSafe := false }) else (e.1, { e.2 with live := false })) }

/-- R236: an active member's inputs stand in its image. Log 74 (DEDUCED). -/
def sampleInputs (s : State) : State := (List.range 64).foldl (fun s n => setPoint s n { v := if s.inputs.state.getLsbD n then 1 else 0 }) s

/-- R333: a new active starts with an empty backlog. -/
def dropBacklog (s : State) : State :=
  { s with meter := { s.meter with pulses := s.meter.pulses.map (fun e => (e.1, { e.2 with due := [], lastDue := none })) } }

/-- R220, R221: a member becomes ACTIVE: the epoch rises, its bank switches close and its outputs take the last committed values. -/
def becomeActive (s : State) : State :=
  let s := setTwin s (fun t => { t with
    role := .active, epoch := (t.epoch + 1) % 2 ^ 32, inStep := false, inStepCount := 0, syncing := false
    tsw := none, tx := none, waiting := [], commitAt := none, prepared := [], shipped := [], exchange := none, mismatch := false
    wasHealthy := false, dseqNext := (t.dseqLast + 1) % 2 ^ 32 })
  settleBanks (rearmOutputs (sampleInputs (setUnitStat (dropBacklog s) .module (fun x => { x with state := stRun }))))

/-- R220, R236: a member becomes STANDBY: it runs no task, and its bank switches open. -/
def becomeStandby (s : State) : State :=
  let s := setTwin s (fun t => { t with
    role := .standby, inStep := false, inStepCount := 0, tsw := none, tx := none, waiting := [], commitAt := none, shipped := []
    mismatch := false })
  let s := { s with outputs := s.outputs.map (fun e => (e.1, { e.2 with live := false })) }
  settleBanks (setUnitStat s .module (fun x => { x with state := stStandby }))

/-- The tasks in RUN begin at their first grid start at or after a time. -/
def startTasksAt (s : State) (t : Time80) : State :=
  ((loadedTasks s).filter (fun e => e.2.mode == .run)).foldl (fun s e => setTask s e.1 (fun x => { x with nextStart := some (gridAt x.desc t) })) s

/-! ### Deltas of the active (R230 to R234) -/

/-- R232: the whole mirrored state, as entries. Log 44 (DEDUCED), 52 (DEDUCED). -/
def snapshotEntries (s : State) : State × List DeltaEntry :=
  let tasks := (loadedTasks s).flatMap (fun e =>
    [DeltaEntry.cycle (e.1 / 32) (e.1 % 32) e.2.lastStatus e.2.ctx.cycle e.2.ctx.timers.toList e.2.ctx.expired
      (if (suiteTasks s (e.1 / 32)).head?.map (·.1) = some e.1 then retainImage s (e.1 / 32) else []),
     .taskMode (e.1 / 32) (e.1 % 32) e.2.mode.ctorIdx])
  let outs := (s.outputs.filter (fun e => e.2.touched)).map (fun e => (0x40 + e.1, ({ v := if e.2.committed then 1 else 0 } : PointVal)))
  let vals := s.values.filter (fun v => isGeneral v.1)
  let items := (s.larder.queues.filter (fun e => mirroredQueue s e.1)).flatMap (fun e => e.2.items.map (fun it => DeltaEntry.qenter e.1 (deltaItem it)))
  let cmds := (s.records.filter (fun r => r.unit == .pair)).map (fun r => DeltaEntry.command r.target r.tag r.replyQueue r.status r.payload)
  let outcomes := (loadedTasks s).flatMap (fun e => e.2.outcomes.map (fun o => DeltaEntry.outcome (e.1 / 32) (e.1 % 32) o.status o.cyc o.frames o.words))
  let slots := (s.hearth.slots.filter (fun e => e.2.inUse)).map (fun e => DeltaEntry.hearth e.1 e.2.x e.2.y e.2.region)
  let owners := (enabledSuites s).map (fun n => let u := suiteAt s n; DeltaEntry.ownership n u.owner u.ownerRank u.leaseEnd u.locked)
  let keys := s.cellar.keys.foldl (fun (acc : State × List DeltaEntry) e =>
    match acc.1.twin.transferKey with
    | none => acc
    | some key =>
      let r := randomBytes acc.1 12
      (r.1, acc.2 ++ [.key e.1 (r.2 ++ gcmSeal key r.2 [] (keyBytes e.2))])) (s, [])
  (keys.1, tasks ++ [.points (vals ++ outs)] ++ items ++ cmds ++ outcomes ++ slots ++ owners ++ keys.2)

/-- R235: the CAM cycles that are accepted and not yet committed, which a snapshot does not hold, are shipped again. -/
def shipPrepared (s : State) : State :=
  (loadedTasks s).foldl (fun s e => match e.2.cycle with
    | some y => if e.2.desc.cam && y.phase == .accepted
        then shipDelta s true false y.commit (commitEntries s e.1 y ++ preparedQueues s e.1 y) (some (ctxSuite e.1, ctxTask e.1, y.number)) else s
    | none => s) s

/-- R234: the active ships a snapshot to a standby that is to synchronise. -/
def synchronise (s : State) : State :=
  let s := setTwin s (fun t => { t with
    inStep := false, inStepCount := 0, syncing := true, snapshotSeen := false, resyncs := bump 16 t.resyncs, waiting := [], commitAt := none
    syncTick := s.tick })
  let r := snapshotEntries s
  shipPrepared (shipDelta r.1 false true (now s) r.2 none)

/-- R234: the standby is no longer in step; the active synchronises it again at once. -/
def loseStep (s : State) : State := synchronise s

/-- R230: the active ships a delta for a commit instant, once every commit of it has taken place, or when a millisecond has passed since
the last one. -/
def shipDue (s : State) : State :=
  if !followed s then s else
  match s.twin.commitAt with
  | some t => if commitsDue s then s else shipWaiting s t
  | none => if s.twin.lastShipTick + ticksMs 1 ≤ s.tick then shipWaiting s (now s) else s

/-- R230: a delta is shipped. -/
def execDeltaShip (s : State) : Host.Outcome State Fault Refusal := .next (shipDue s)

/-- R234, R235: a prepared cycle's confirmation releases it for its commit. -/
def confirmCycle (s : State) : Option (Nat × Nat × Nat) → State
  | none => s
  | some (n, t, k) => setTask s (ctxKey n t) (fun x => { x with
      lastStatus := if (x.cycle.any (fun y => y.number == k)) && x.lastStatus == stDelayed .mirror then stDone else x.lastStatus
      cycle := x.cycle.map (fun y => if y.number = k then { y with confirmed := true } else y) })

/-- R234, R238, R241: the active receives a confirmation; one later than M ends IN_STEP, unless a snapshot's. -/
def confirmDelta (dseq : Nat) (s : State) : State :=
  match s.twin.shipped.find? (fun x => x.dseq == dseq) with
  | none => s
  | some x =>
    let us := (s.tick - x.tick) / 125
    let late := !x.snapshot && ticksUs s.twin.mUs < s.tick - x.tick
    let s := setTwin s (fun t => { t with
      shipped := t.shipped.filter (fun y => y.dseq != dseq)
      dseqLast := dseq, confirmMax := max t.confirmMax (satN 16 us) })
    let s := confirmCycle s x.prepared
    if late then
      let s := setTwin s (fun t => { t with mirrorLate := bump 16 t.mirrorLate })
      if s.twin.inStep then loseStep s else s
    else if s.twin.syncing && (x.snapshot || s.twin.snapshotSeen) then
      setTwin s (fun t => { t with syncing := false, inStep := true, inStepCount := 0, inStepTick := s.tick })
    else if s.twin.inStep then setTwin s (fun t => { t with inStepCount := bump 16 t.inStepCount })
    else s

/-- R234: a confirmation arrives. -/
def execDeltaConfirmation (dseq : Nat) (s : State) : Host.Outcome State Fault Refusal := .next (confirmDelta dseq s)

/-- R234: a confirmation that has not come within M ends IN_STEP. -/
def confirmationLate (dseq : Nat) (s : State) : State :=
  if s.twin.inStep && s.twin.shipped.any (fun x => x.dseq == dseq && !x.snapshot && ticksUs s.twin.mUs < s.tick - x.tick) then loseStep s else s

/-- R234: the time for a confirmation has passed. -/
def execConfirmationTimeout (dseq : Nat) (s : State) : Host.Outcome State Fault Refusal := .next (confirmationLate dseq s)

/-! ### Entries applied by the standby (R231, R233) -/

/-- A mirrored item takes one credit of its queue: of the pool, or of the first producer that has one in hand. Log 52 (DEDUCED). -/
def mirrorCredit (q : Queue) : Queue :=
  if q.poolFree != 0 then { q with poolFree := q.poolFree - 1 } else
  match q.attached.find? (fun a => a.hand != 0) with
  | none => q
  | some a => { q with attached := mapWhere (fun b => b.who == a.who) (fun b => { b with hand := b.hand - 1 }) q.attached }

/-- R231 QENTER: an item enters the standby's copy of a queue, under the SEQ it has on the active; an item of a prepared cycle takes
the next one. No delta names the producer whose credit it spent. Its poison tags come with it (R200). Log 52 (DEDUCED). -/
def mirrorEnter (s : State) (qn : Nat) (it : DeltaItem) (fresh : Bool) : State :=
  let q := queueAt s qn
  if q.qfault then s else
  let seq := if fresh then q.entries else q.entries + (it.seq + 2 ^ 16 - q.entries % 2 ^ 16) % 2 ^ 16
  let item : Item := { prio := it.prio, ptag := it.ptag, srcSuite := it.srcSuite, hostId := it.hostId, seq
                       entered := if fresh then now s else it.entered, producer := .engine landingPart, credit := .pool
                       poison := it.poison, data := it.data }
  judgeLater (setQueue s qn (fun q => mirrorCredit { q with entries := seq + 1, items := q.items ++ [item] })) qn

/-- R231 QACK: an item leaves the standby's copy: the oldest with that SEQ. Log 52 (DEDUCED). -/
def mirrorAck (s : State) (qn seq : Nat) : State :=
  match (queueAt s qn).items.find? (fun it => it.seq % 2 ^ 16 == seq) with
  | some it => dropItems s qn (fun x => x.seq == it.seq)
  | none => s

/-- R231 CYCLE: a committed cycle's number, status, timers and RETAIN lines. -/
def applyCycle (s : State) (at80 : Time80) (c : Nat) (st : Status) (k : Nat) (timers : List (Option Time80)) (expired : BitVec 4)
    (lines : List (Nat × List Byte)) : State :=
  let base := (suiteAt s (ctxSuite c)).winBase
  let s := { s with sram := lines.foldl (fun m l => writeBytes m (base + 64 * l.1) l.2) s.sram }
  setTask s c (fun t => { t with
    lastStatus := st, outcomes := [], lastStart := some (taddNs at80 (-(t.desc.commitOffset * 1000 : Nat)))
    ctx := { t.ctx with cycle := k, expired, timers := Vector.ofFn (fun i => timers.getD i.val none) } })

/-- R231 POINTS: a committed value; an output's stands ready for a takeover. -/
def applyPoint (s : State) (v : Nat × PointVal) : State :=
  if isDo v.1 then setOutput s (v.1 - 0x40) (fun o => { o with committed := v.2.v != 0, touched := true }) else setPoint s v.1 v.2

/-- R232: a slot of the active's Cellar; a persistent key is held in this member's own flash (R351). -/
def applyKey (s : State) (slot : Nat) (wrapped : List Byte) : Option State :=
  match s.twin.transferKey with
  | none => none
  | some key => (gcmOpen key (wrapped.take 12) [] (wrapped.drop 12)).map (fun b =>
      let k := keyOfBytes b
      let s := setKey s slot (fun _ => k)
      { s with cellar := { s.cellar with flashKeys := if k.present && attrPersist k.attr then tput s.cellar.flashKeys slot k else tdel s.cellar.flashKeys slot } })

/-- R148: a task mode from its code in the mirror. -/
def modeOf : Nat → Mode
  | 1 => .run
  | 2 => .hold
  | 3 => .notLoaded
  | _ => .stop

/-- One entry applied to the standby's image; none where it cannot be. `config` applies a CFG descriptor. -/
def applyEntry (config : Nat → List (BitVec 64) → State → State) (fresh : Bool) (at80 : Time80) (s : State) : DeltaEntry → Option State
  | .cycle n t st k timers expired lines => some (applyCycle s at80 (ctxKey n t) st k timers expired lines)
  | .points vals => some (vals.foldl applyPoint s)
  | .qenter q it => some (mirrorEnter s q it fresh)
  | .qack q seqs => some (seqs.foldl (fun s k => mirrorAck s q k) s)
  | .command target tag rq st payload =>
      some (keepRecord s { unit := ((resolve s target).map targetUnit).getD .pair, target, tag, replyQueue := rq, atTick := s.tick, status := st
                           payload, code := none, mirrored := true })
  | .outcome n t st k frames words => some (setTask s (ctxKey n t) (fun x => { x with
      outcomes := x.outcomes ++ [{ status := st, cyc := k, frames, words }] }))
  | .hearth slot x y k => some (setSlot s slot (fun z => { z with x, y, region := k }))
  | .key slot wrapped => applyKey s slot wrapped
  | .config n words => some (config n words s)
  | .suiteReset n cold => some (resetSuite s n cold)
  | .ownership n owner rank leaseEnd locked => some (setSuite s n (fun u => { u with owner, ownerRank := rank, leaseEnd, locked }))
  | .taskMode n t m => some (setTask s (ctxKey n t) (fun x => { x with mode := modeOf m }))
  | .onlineChange n _ a data => some { s with sram := writeBytes s.sram ((suiteAt s n).winBase + a) data }
  | .cancel n t k => some (setTwin s (fun w => { w with prepared := w.prepared.filter (fun p => !(p.suite == n && p.task == t && p.cyc == k)) }))
  | .unknown _ => none

/-- R233: a list of entries as one change; none where one cannot be applied. Log 52 (DEDUCED). -/
def applyEntries (config : Nat → List (BitVec 64) → State → State) (fresh : Bool) (at80 : Time80) : List DeltaEntry → State → Option State
  | [], s => some s
  | e :: es, s => match applyEntry config fresh at80 s e with
    | none => none
    | some s => applyEntries config fresh at80 es s

/-- R235: a prepared cycle is applied as committed. -/
def applyPrepared (config : Nat → List (BitVec 64) → State → State) (s : State) (p : Prepared) : State :=
  let s' := setTwin s (fun w => { w with prepared := w.prepared.filter (· != p) })
  (applyEntries config true p.commit p.entries s').getD s'

/-- R235: at its commit instant the standby applies a prepared cycle that no CANCEL has removed. A CFG descriptor is never part of
one. -/
def preparedDue (n t : Nat) (s : State) : State :=
  match s.twin.prepared.find? (fun p => p.suite == n && p.task == t && reached (now s) p.commit) with
  | some p => if s.twin.role = .standby then applyPrepared (fun _ _ s => s) s p else s
  | none => s

/-- R235: a prepared cycle's commit instant comes. -/
def execPreparedCycleCommit (suite task : Nat) (s : State) : Host.Outcome State Fault Refusal := .next (preparedDue suite task s)

/-! ### Takeover (R237) -/

/-- The house time of the last valid heartbeat on either path. -/
def lastHeard (s : State) : Time80 := taddNs (now s) (-((s.tick - max s.twin.landing.lastTick s.twin.strobe.lastTick) * 8 : Nat))

/-- R237 steps 4, 5: a task at the takeover: starts that no member began are counted, and the last cycle that began without a
delta has its outcome told. -/
def takeOverTask (heard : Time80) (s : State) (c : Nat) : State :=
  let t := taskAt s c
  let d := t.desc
  let start := gridAt d (taddUs (now s) 100)
  let first := match t.lastStart with | some b => gridAfter d b | none => gridAfter d heard
  let begun := t.lastStart.isSome && decide (0 ≤ tdiff heard first)
  let from' := if begun then gridAfter d heard else first
  let s := countSkipped s c (gridCount d from' start)
  let s := if begun then
    tellCycleOutcome s c { status := stFault .timeout, cyc := (t.ctx.cycle + gridCount d first from') % 2 ^ 64, frames := 0, words := [] } else s
  setTask s c (fun x => { x with nextStart := some start })

/-- R237: a stale takeover: the first outcome item of a task reports PARTIAL(NONE). -/
def markStale (s : State) (c : Nat) : State :=
  match (taskAt s c).outcomes with
  | [] => tellCycleOutcome s c { status := stPartial, cyc := (taskAt s c).ctx.cycle, frames := 0, words := [] }
  | o :: os => setTask s c (fun x => { x with outcomes := { o with status := stPartial } :: os })

/-- R237: the standby takes over. -/
def takeOver (s : State) : State :=
  let stale := !s.twin.inStep
  let heard := lastHeard s
  let s := s.twin.prepared.foldl (applyPrepared (fun _ _ s => s)) s
  let s := becomeActive (setTwin s (fun t => { t with takeovers := bump 8 t.takeovers, failed := false }))
  let s := ((loadedTasks s).filter (fun e => e.2.mode == .run)).foldl (fun s e => takeOverTask heard s e.1) s
  let s := if stale then (loadedTasks s).foldl (fun s e => markStale s e.1) s else s
  let s := (enabledSuites s).foldl (fun s n => cleanWindow s n false) s
  raiseEvent s [0] 6 landingUnit stDone []

/-- R226, R237: both paths are dead: the partner has failed, unless it is being updated (R243). -/
def partnerFailed (s : State) : State :=
  let updating := s.twin.partnerRole == 4
  let s := setTwin s (fun t => { t with partnerRole := 7, partnerInStep := false, partnerHealthy := false })
  match s.twin.role with
  | .standby =>
    if updating then s
    else if s.twin.inStep || s.twin.staleOk then takeOver s
    else raiseEvent (setTwin s (fun t => { t with failed := true })) [0] 7 landingUnit stDone []
  | .active => setTwin s (fun t => { t with inStep := false, inStepCount := 0, syncing := false, tsw := none, tx := none, waiting := [], commitAt := none, shipped := [] })
  | _ => s

def pathOf (s : State) (strobe : Bool) : Path := if strobe then s.twin.strobe else s.twin.landing

def setPath (s : State) (strobe : Bool) (p : Path) : State :=
  setTwin s (fun t => if strobe then { t with strobe := p } else { t with landing := p })

/-- R226: a path without a valid heartbeat for HB_MISS intervals is dead. -/
def killPath (strobe : Bool) (s : State) : State :=
  let p := pathOf s strobe
  if !p.alive || s.tick < p.lastTick + deadTicks s then s else
  let s := setPath s strobe { p with alive := false }
  if (pathOf s (!strobe)).alive then raiseEvent s [0] 5 landingUnit stDone [] else partnerFailed s

/-- R226: a path dies. -/
def execPathDead (strobe : Bool) (s : State) : Host.Outcome State Fault Refusal := .next (killPath strobe s)

/-! ### Two actives (R240) -/

/-- R240: the member with the lower epoch, or member 1 of equal ones, steps down. -/
def stepsDown (s : State) (hb : Heartbeat) : Bool :=
  let bits := if hb.strobe then 16 else 32
  let d := signed bits ((s.twin.epoch % 2 ^ bits + 2 ^ bits - hb.epoch % 2 ^ bits) % 2 ^ bits)
  decide (d < 0) || (d == 0 && s.twin.member)

/-- R240: the outcomes that wait in a member that steps down are told to the winner; those of cancelled cycles whose frames are not yet
decided follow as they settle. Log 87 (DEDUCED). -/
def tellOutcomes (s : State) : State :=
  let told := (loadedTasks s).flatMap (fun e => e.2.outcomes.map (fun o => (e.1, o)))
  let s := (loadedTasks s).foldl (fun s e => setTask s e.1 (fun t => { t with outcomes := [] })) s
  told.foldl (fun s e => tellWinner s e.1 e.2) s

/-- R240: an active steps down: its cycles are cancelled, its outputs turn off, and it enters STANDBY, out of step. Log 87 (DEDUCED). -/
def stepDown (s : State) : State :=
  let s := (loadedTasks s).foldl (fun s e => cancelOpen s e.1) s
  let s := tellOutcomes (becomeStandby s)
  raiseEvent (setTwin s (fun t => { t with syncing := true, snapshotSeen := false })) [0] 6 landingUnit stDone []

/-! ### Heartbeats (R225, R226) -/

/-- R225: CRC-8, polynomial 0x07, over the 24 bits of a strobe word, the most significant first. Log 38 (PRESUMED). -/
def crc8 (v : Nat) : Nat :=
  (List.range 24).foldl (fun c i => let top := c / 128 ^^^ (v / 2 ^ (23 - i) % 2); if top % 2 = 1 then (c * 2 % 256) ^^^ 0x07 else c * 2 % 256) 0

/-- R225: the heartbeat token that the member sends: the fields of the strobe word, the whole ACTIVE_EPOCH and the highest DSEQ applied or
confirmed. Log 53 (DEDUCED). -/
def heartbeatToken (s : State) : Heartbeat :=
  { strobe := false, crcOk := true, role := Role.code s.twin.role, inStep := s.twin.role == .standby && s.twin.inStep, healthy := healthy s
    epoch := s.twin.epoch, dseq := s.twin.dseqLast, tsw := if s.twin.role = .active then s.twin.tsw else none }

/-- R225: the strobe word that the member sends. Log 38 (PRESUMED). -/
def strobeWord (s : State) : BitVec 32 :=
  let t := s.twin
  let v := Role.code t.role + b2n (t.role == .standby && t.inStep) * 8 + b2n (healthy s) * 16 + t.epoch % 2 ^ 16 * 256
  BitVec.ofNat 32 (v + crc8 v * 2 ^ 24)

/-- R239 step 1: the first whole millisecond of house time at least 2 ms ahead. -/
def switchTime (s : State) : Time80 := ofUs (gridUs 1000 0 (ceilUs (taddUs (now s) 2000)))

/-- R239: a switchover begins. -/
def beginSwitch (s : State) : State := if s.twin.tsw.isSome then s else setTwin s (fun t => { t with tsw := some (switchTime s), tx := none })

/-- R225, R238: every 50 µs a paired member sends its heartbeat on both paths; an active that stops being healthy while its standby
is in step starts a switchover. -/
def sendHeartbeat (s : State) : State :=
  if s.twin.role = .none || !s.addr.paired || s.tick < s.twin.hbSentTick + ticksUs 50 then s else
  let stops := s.twin.wasHealthy && !healthy s
  let s := setTwin s (fun t => { t with
    hbSentTick := s.tick, strobeWord := strobeWord s, token := some (heartbeatToken s), wasHealthy := healthy s })
  if s.twin.role = .active && s.twin.inStep && stops then beginSwitch s else s

/-- R225: heartbeats are sent. -/
def execHeartbeatSend (s : State) : Host.Outcome State Fault Refusal := .next (sendHeartbeat s)

/-- R234: 300 ms of REFCLK ticks, within which a synchronisation completes. -/
def syncTicks : Nat := ticksMs 300

/-- R234: the partner is a standby out of step, and no snapshot of the last 300 ms is on its way to it. -/
def needsSnapshot (s : State) (hb : Heartbeat) : Bool :=
  s.twin.role == .active && !hb.strobe && hb.role == 3 && !hb.inStep && s.twin.transferKey.isSome && s.twin.tsw.isNone &&
    (!s.twin.syncing || s.twin.syncTick + syncTicks ≤ s.tick)

/-- R239 step 1: the incoming member learns the switch instant from the active's token. Log 53 (DEDUCED). -/
def learnSwitch (hb : Heartbeat) (s : State) : State :=
  if s.twin.role != .standby || s.twin.tsw.isSome || hb.strobe || hb.role != 2 || hb.tsw.isNone then s
  else setTwin s (fun t => { t with tsw := hb.tsw, tx := none })

/-- R224 to R226, R234, R240: a heartbeat that arrives intact keeps its path alive; one that tells of a second active is judged, one of a
standby out of step has it synchronised. -/
def hearPartner (hb : Heartbeat) (s : State) : State :=
  if s.twin.role = .none || !hb.crcOk || (!hb.strobe && landingDown s) || (hb.strobe && testing s (linkUnit 6)) then s else
  let s := setPath s hb.strobe { alive := true, lastTick := s.tick }
  let s := setTwin s (fun t => { t with
    partnerRole := hb.role % 8, partnerInStep := hb.inStep, partnerHealthy := hb.healthy, failed := false
    laneFails := if hb.strobe then t.laneFails else [], partnerDseq := if hb.strobe then t.partnerDseq else hb.dseq % 2 ^ 32
    epoch := if t.role != .active && hb.role == 2 && !hb.strobe then hb.epoch % 2 ^ 32 else t.epoch })
  if s.twin.role = .active && hb.role = 2 && stepsDown s hb then
    setTwin (stepDown s) (fun t => { t with epoch := if hb.strobe then t.epoch else hb.epoch % 2 ^ 32 })
  else if needsSnapshot s hb then synchronise s
  else learnSwitch hb s

/-- R225: a heartbeat token or a strobe word arrives. -/
def execHeartbeatReceived (hb : Heartbeat) (s : State) : Host.Outcome State Fault Refusal := .next (hearPartner hb s)

/-! ### Pairing (R222, R223, R351) -/

/-- R222: CONFIG_DIGEST. -/
def configDigest (s : State) : BitVec 64 := BitVec.ofNat 64 (natOf ((sha384 (wordBytes s.seq.digestWords)).take 8))

/-- R222: the mirror format version of the running firmware. -/
def ownMirrorVer (s : State) : Nat := match (updateAt s 1 0).current with | some g => g.mirrorVer | none => Config.mirrorVer

/-- R222, R351: what the members compare agrees, and the transcript of the key agreement verifies. Log 54 (DESIGN CHOICE). -/
def partnerOk (s : State) (p : PartnerInfo) : Bool :=
  p.digest == configDigest s && p.mirrorVer == ownMirrorVer s && (s.twin.partnerSerial == 0 || p.serial == s.twin.partnerSerial) && p.transcriptOk

/-- R351: the salt of the pair transfer key: both module serials in member order. Log 54 (DESIGN CHOICE). -/
def pairSalt (s : State) : List Byte :=
  let own := bytesOf 4 (s.cellar.ident.getD 2 0).toNat
  let partner := bytesOf 4 s.twin.metSerial
  if s.twin.member then partner ++ own else own ++ partner

/-- R351: the pair transfer key is agreed: HKDF-SHA-384 of the ECDH secret (48 bytes) followed by the ML-KEM secret (32 bytes). Both
members have drawn fresh keys, so the two secrets are fresh random strings. Log 54 (DESIGN CHOICE). -/
def agreeKey (s : State) : State :=
  let r := randomBytes s 80
  setTwin r.1 (fun t => { t with transferKey := some (hkdf r.2 (pairSalt s) [] 32) })

/-- R223: a SEEKING member becomes STANDBY and synchronises. -/
def followPartner (s : State) : State :=
  setTwin (becomeStandby s) (fun t => { t with syncing := true, snapshotSeen := false, resyncs := bump 16 t.resyncs })

/-- R222: what the members compare differs: the pair is DEGRADED; the member that is not ACTIVE raises the event. -/
def differ (s : State) : State :=
  let s := setTwin s (fun t => { t with mismatch := true })
  if s.twin.role = .active then s else raiseEvent s [0] 5 landingUnit stDone []

/-- R223 item 2: neither member is ACTIVE: member 0 becomes ACTIVE and member 1 STANDBY. -/
def decideRoles (s : State) : State := if s.twin.member then followPartner s else synchronise (startTasksAt (becomeActive s) (now s))

/-- R222, R223: the members meet. A STANDBY whose active is gone meets a SEEKING partner as one of two members of which neither is
ACTIVE. -/
def meetPartner (p : PartnerInfo) (s : State) : State :=
  match s.twin.role with
  | .seeking => if !partnerOk s p then differ s else if p.role = 2 then followPartner (agreeKey s) else decideRoles (agreeKey s)
  | .active => if p.role ≠ 1 then s else if partnerOk s p then synchronise (agreeKey s) else differ s
  | .standby => if p.role ≠ 1 || s.twin.inStep then s else if partnerOk s p then decideRoles (agreeKey s) else differ s
  | _ => s

/-- R222: the partner is met over the Landing link. -/
def execPartnerMet (p : PartnerInfo) (s : State) : Host.Outcome State Fault Refusal :=
  .next (if landingDown s then s else settleEpochs s (meetPartner p (setTwin s (fun t => { t with metSerial := p.serial }))))

/-- R223: a SEEKING member that has heard nothing on either path for 2 s becomes ACTIVE alone. -/
def seekAlone (s : State) : State :=
  let quiet := max s.twin.seekTick (max s.twin.landing.lastTick s.twin.strobe.lastTick)
  if s.twin.role = .seeking && quiet + ticksMs 2000 ≤ s.tick then startTasksAt (becomeActive s) (now s) else s

/-- R223: nothing is heard for 2 s. -/
def execSeekingTimeout (s : State) : Host.Outcome State Fault Refusal := .next (seekAlone s)

/-! ### The clock and the lanes (R224, R227) -/

/-- R227: the increment that the active's time since the last exchange shows, within the limits of R282. Log 55 (DESIGN CHOICE). -/
def disciplined (s : State) (activeTime : Time80) : Nat :=
  match s.twin.exchange with
  | none => s.clock.increment
  | some (t, tick) =>
    let n : Int := max 1 (s.tick - tick : Nat)
    (min 0x08010624 (max 0x07FEF9DC (tdiff activeTime t * 2 ^ 24 / n))).toNat

/-- R227: once per millisecond the standby takes over the active's house time, to within 10 ns: the difference is free. Its increment follows
the active's rate, and stays when the link is down and after a takeover. Log 55 (DESIGN CHOICE). -/
def followClock (activeTime : Time80) (s : State) : State :=
  let recent := match s.twin.exchange with | some (_, tick) => decide (s.tick < tick + ticksMs 1) | none => false
  if s.twin.role != .standby || landingDown s || recent then s else
  let d : Int := (Config.freeWord s.free).toNat % 21
  let increment := disciplined s activeTime
  setTwin { s with free := s.free + 1, clock := { s.clock with time := taddNs activeTime (d - 10), isSet := true, increment } }
    (fun t => { t with exchange := some (activeTime, s.tick) })

/-- R227: the members exchange timestamps. -/
def execTwinClockExchange (activeTime : Time80) (s : State) : Host.Outcome State Fault Refusal := .next (followClock activeTime s)

/-- R224: a Landing frame fails its check and is replayed; after three failed replays of it its lane leaves service. With the last
lane the link is down and its unit reports FAULT(LINK). Log 82 (DEDUCED). -/
def laneError (lane : Nat) (s : State) : State :=
  if 4 ≤ lane || !s.twin.lanesUp.getLsbD lane then s else
  let n := tget 0 s.twin.laneFails lane + 1
  if n ≤ 3 then setTwin s (fun t => { t with laneFails := tset 0 t.laneFails lane n })
  else
    let s := setTwin s (fun t => { t with laneFails := tset 0 t.laneFails lane 0, lanesUp := t.lanesUp &&& ~~~(BitVec.ofNat 4 (2 ^ lane)) })
    if !landingDown s then s else setUnitStat s landingUnit (fun u => { u with lastStatus := stFault .link, faultCount := bump 16 u.faultCount })

/-- R224: a Landing link frame fails its CRC. -/
def execLandingFrameError (lane : Nat) (s : State) : Host.Outcome State Fault Refusal := .next (laneError lane s)

/-! ### Reclaim and switchover (R238, R239, R242) -/

/-- R238: the conditions under which the designated primary reclaims, as the standby sees them, or as the active does when asked. -/
def reclaimDue (s : State) : Bool :=
  let t := s.twin
  let fresh := 64 ≤ t.inStepCount && t.inStepTick + ticksMs 10000 ≤ s.tick && t.inStep && !t.noReclaim
  match t.role with
  | .standby => !t.member && fresh && healthy s
  | .active => t.member && fresh && t.partnerHealthy
  | _ => false

/-- R238: the primary asks for control. -/
def execReclaim (s : State) : Host.Outcome State Fault Refusal :=
  .next (if reclaimDue s then beginSwitch s else s)

/-- The latest grid start of a task before a time. -/
def gridBefore (d : TaskDesc) (t : Time80) : Time80 := taddNs (gridAt d t) (-(d.period * 1000 : Nat))

/-- R239 step 3: Tx: the latest commit among the cycles begun, plus M; Tsw plus M where none is under way. Log 53 (DEDUCED). -/
def handoverTime (s : State) (tsw : Time80) : Time80 :=
  let commits := if s.twin.role = .active then (loadedTasks s).filterMap (fun e => e.2.cycle.map (·.commit))
    else ((loadedTasks s).filter (fun e => e.2.mode == .run)).map (fun e => taddUs (gridBefore e.2.desc tsw) e.2.desc.commitOffset)
  taddUs (commits.foldl (fun m c => if 0 < tdiff c m then c else m) tsw) s.twin.mUs

/-- R239: at Tsw the active begins no further cycle, and Tx is settled. Log 53 (DEDUCED). -/
def switchInstant (s : State) : State :=
  match s.twin.tsw, s.twin.tx with
  | some t, none => if reached (now s) t then setTwin s (fun x => { x with tx := some (handoverTime s t) }) else s
  | _, _ => s

/-- R239: Tsw comes. -/
def execSwitchInstant (s : State) : Host.Outcome State Fault Refusal := .next (switchInstant s)

/-- R239 step 4: the incoming member's tasks begin at or after Tx; the starts since Tsw are skipped. -/
def resumeTask (tsw tx : Time80) (s : State) (c : Nat) : State :=
  let d := (taskAt s c).desc
  setTask (countSkipped s c (gridCount d (gridAt d tsw) (gridAt d tx))) c (fun t => { t with nextStart := some (gridAt d tx) })

/-- R239: at Tx the members exchange roles. The incoming ships deltas from the first, which its partner can apply at once. Log 53 (DEDUCED). -/
def exchangeRoles (tsw tx : Time80) (s : State) : State :=
  let s := setTwin s (fun t => { t with reclaims := bump 8 t.reclaims })
  match s.twin.role with
  | .active =>
    let last := (s.twin.dseqNext + (2 ^ 32 - 1)) % 2 ^ 32
    setTwin (becomeStandby s) (fun t => { t with syncing := false, snapshotSeen := true, dseqLast := last })
  | .standby =>
    let s := setTwin (becomeActive s) (fun t => { t with syncing := true, snapshotSeen := true, syncTick := s.tick })
    ((loadedTasks s).filter (fun e => e.2.mode == .run)).foldl (fun s e => resumeTask tsw tx s e.1) s
  | _ => s

/-- R239: at Tx. -/
def switchHandover (s : State) : State :=
  match s.twin.tsw, s.twin.tx with
  | some a, some b => if reached (now s) b then exchangeRoles a b s else s
  | _, _ => s

/-- R239: Tx comes. -/
def execSwitchHandover (s : State) : Host.Outcome State Fault Refusal := .next (switchHandover s)

/-- R242: a pair command of the owner of suite 0, refused under the owner lock. -/
def pairCommand (c : Cmd) (t : Target) (s : State) (run : CmdResult) : CmdResult :=
  onUnit t (· == .pair) s (ownerOnly s 0 c
    (if c.arg ≠ 0 then refuse s .range else if (suiteAt s 0).locked then refuse s .lock else run))

/-- R242: PAIR_SWITCH. -/
def execPairSwitch (q : CmdQueue) (s : State) : Host.Outcome State Fault Refusal :=
  .next (unitCommand q (withCode 0x60) false (fun c t s => pairCommand c t s
    (if !s.twin.inStep || s.twin.inStepCount < 64 then refuse s .state else { s := beginSwitch s, st := stDone })) s)

/-- R242: PAIR_RESYNC. -/
def execPairResync (q : CmdQueue) (s : State) : Host.Outcome State Fault Refusal :=
  .next (unitCommand q (withCode 0x61) false (fun c t s => pairCommand c t s
    (if s.twin.partnerRole != 3 then refuse s .state else { s := loseStep s, st := stDone })) s)

/-- R241: status words 1 to 3 of the Landing link. -/
def landingStatus (s : State) : List (BitVec 64) :=
  let t := s.twin
  [pack [(0, 3, if s.addr.paired && t.role == .none then 1 else Role.code t.role), (3, 3, t.partnerRole), (6, 1, b2n t.inStep), (7, 1, b2n t.landing.alive), (8, 1, b2n t.strobe.alive),
     (9, 4, t.lanesUp.toNat), (13, 1, b2n t.syncing), (14, 1, b2n t.member), (16, 16, t.inStepCount), (32, 32, t.epoch)],
   pack [(0, 32, t.dseqLast), (32, 16, t.mirrorLate), (48, 8, t.takeovers), (56, 8, t.reclaims)],
   pack [(0, 16, t.mUs), (16, 16, t.confirmMax), (32, 16, t.resyncs)]]

end Sys2Proof.Machine
end

