-- ==== Sys2Proof/Machine/Fabric.lean ====
section
/-! DEFINITION. The house die's fabric: the pace monitor and guard, the die links, the copies of house time and the interior failures
(R14, R21, R26 to R30). -/

namespace Sys2Proof.Machine
open Sys2Proof

/-! ### The pace monitor and guard (R26 to R29) -/

/-- R26: replica steps of a window of 8,192 REFCLK ticks, in millions of steps per second; the fraction of a million is dropped. Log 81 (DESIGN CHOICE). -/
def paceOf (steps : Nat) : Nat := satN 16 (steps * 1000 / 65536)

/-- R26 TJ_ROOM: a temperature in °C, plus 64, from 0 to 255. -/
def tjCode (tj : Int) : Nat := (max 0 (min 255 (tj + 64))).toNat

/-- R26, R27: the room pace word and the guard after a window. Log 81 (DESIGN CHOICE). -/
def paceUpdate (steps : Nat) (tj : Int) (x : Room) : Room :=
  let p := paceOf steps
  let warnRun := if x.warnClear ≤ p then min 4 (x.warnRun + 1) else 0
  let faultRun := if 1550 ≤ p then min 16 (x.faultRun + 1) else 0
  let fault := p < 1500 || (x.fault && faultRun < 16)
  let warn := p < x.warnSet || p < 1500 || (x.warn && warnRun < 4)
  { x with
    paceNow := p, paceMin := min x.paceMin p, warn, fault, tj := tjCode tj, warnRun, faultRun
    warnSeen := x.warnSeen || (warn && !x.warn), faultSeen := x.faultSeen || (fault && !x.fault)
    slowWindows := if p < 1500 then bump 16 x.slowWindows else x.slowWindows }

/-- R29: the suites with a task on a room. -/
def roomSuites (s : State) (r : Nat) : List Nat := ((loadedTasks s).filter (fun e => e.2.desc.core / 4 == r)).map (fun e => e.1 / 32)

/-- R26 to R29: a window of a room ends. Log 81 (DESIGN CHOICE). -/
def paceWindow (r steps : Nat) (tj : Int) (s : State) : State :=
  if 8 < r then s else
  let old := roomAt s r
  let new := paceUpdate steps tj old
  let s := { s with rooms := tset {} s.rooms r new }
  let s := setUnitStat s (roomUnit r) (fun u => { u with warn := new.warn, fault := new.fault })
  let s := if new.warn && !old.warn then raiseEvent s [0] 3 (roomUnit r) stDone [] else s
  if new.fault && !old.fault then raiseEvent s (0 :: roomSuites s r) 5 (roomUnit r) (stFault .none) [] else s

/-- R26: a pace window ends. Log 65 (DESIGN CHOICE). -/
def execPaceWindow (room steps : Nat) (tj : Int) (s : State) : Host.Outcome State Fault Refusal := .next (clocked s (paceWindow room steps tj s))

/-! ### The die links (R14, R30) -/

def setDieLink (s : State) (l : Nat) (f : DieLink → DieLink) : State := { s with links := tmod {} s.links l f }

/-- R21, R30: a link unit reports FAULT. Log 83 (DEDUCED). -/
def linkFault (s : State) (l : Nat) : State :=
  setUnitStat s (linkUnit l) (fun u => { u with state := stFaulty, fault := true, lastStatus := stFault .link, faultCount := bump 16 u.faultCount })

/-- R30: the 48 ports of a wing report link down, and the frames on their way over its link are lost. Endpoint power stays. Log 83 (DEDUCED). -/
def wingDown (s : State) (l : Nat) : State :=
  let mine := fun (f : RxFrame) => decide (f.port / 48 = l)
  let lost := (s.sw.ingress.filter mine).length
  let s := setDieLink s l (fun x => { x with framesLost := x.framesLost + lost })
  let s := { s with sw := { s.sw with ingress := s.sw.ingress.filter (fun f => !mine f) } }
  (rangeFrom (48 * l) 48).foldl (fun s p => dropLink s p 0) s

/-- R14, R30: a die link is declared down. Log 83 (DEDUCED). -/
def declareDown (s : State) (l : Nat) : State :=
  let s := linkFault (setDieLink s l (fun x => { x with down := true, failedReplays := 0 })) l
  if l < 4 then wingDown s l else s

/-- R14: a token with `bits` wrong bits: one is corrected and counted; more are uncorrectable, and the token is replayed; after three
failed replays of it its link is down. Log 82 (DEDUCED). -/
def tokenError (l bits : Nat) (s : State) : State :=
  if 4 < l || dieLinkDown s l || bits = 0 then s
  else if bits = 1 then setDieLink s l (fun x => { x with corrected := x.corrected + 1, failedReplays := 0 })
  else if (tget {} s.links l).failedReplays < 3 then setDieLink s l (fun x => { x with failedReplays := x.failedReplays + 1 })
  else declareDown s l

/-- R14: a token with wrong bits. -/
def execLinkTokenError (e : TokenError) (s : State) : Host.Outcome State Fault Refusal := .next (tokenError e.link e.bits s)

/-! ### Copies of house time (R21) -/

/-- R21: a copy takes an alignment token, which has come over its die's link intact. Log 82 (DEDUCED). -/
def alignCopy (d : Nat) (s : State) : State :=
  if 4 < d || dieLinkDown s d then s else
  let was := (copyAt s d).stale
  let s := setDieLink { s with copies := tset {} s.copies d { alignedAt := s.tick } } d (fun x => { x with failedReplays := 0 })
  if was then setUnitStat s (linkUnit d) (fun u => { u with state := stRun, fault := false }) else s

/-- R21: a copy adopts an alignment token. -/
def execHouseTimeAlignment (die : Nat) (s : State) : Host.Outcome State Fault Refusal := .next (clocked s (alignCopy die s))

/-- R21: a copy that has taken no alignment token for 4 ms is stale, and its die's link unit reports FAULT. Log 83 (DEDUCED). -/
def loseAlignment (d : Nat) (s : State) : State :=
  if 4 < d || (copyAt s d).stale || s.boot.phase ≠ .running || s.tick < (copyAt s d).alignedAt + ticksMs 4 then s
  else linkFault { s with copies := tmod {} s.copies d (fun x => { x with stale := true }) } d

/-- R21: 4 ms pass without an alignment. -/
def execAlignmentTimeout (die : Nat) (s : State) : Host.Outcome State Fault Refusal := .next (loseAlignment die s)

/-! ### REFCLK and the Stairwell (R30) -/

/-- R30, R384: REFCLK fails: the house clock holds its value and reports FAULT, and a trim window that measures against it has no
effect. The outputs go safe by their Shutter timeouts, for nothing is released any more. Log 84 (DEDUCED). -/
def refclkFails (s : State) : State :=
  if s.clock.clkFault then s else
  let s := abandonTrim (setClock s (fun k => { k with clkFault := true })) 1
  setUnitStat s clockUnit (fun u => { u with state := stFaulty, fault := true, faultCount := bump 16 u.faultCount })

/-- R30: REFCLK fails. -/
def execRefclkFailure (s : State) : Host.Outcome State Fault Refusal := .next (refclkFails s)

/-- A context has an instruction that may be under way. -/
def inExecution (s : State) (c : Nat) : Bool :=
  if isFoundation c then s.foundation.running
  else if c < 2048 then (match (taskAt s c).cycle with | some y => y.phase == .executing | none => false)
  else mgmtRuns s (c - 4096)

/-- R30, R89, R95, R97: the requester of a request that is abandoned receives FAULT: an instruction takes a FABRIC fault; a posted request or a
unit command completes with FAULT(LINK) and has no effect; an engine on its own account has nobody to tell. Log 85 (DEDUCED). -/
def abandonRequest (s : State) : Requester → State
  | .context c => if inExecution s c then takeFault s c (ctxCore s c) .fabric .none 0 (wordAtPc s c) else s
  | .cfg c => (match headRequest s c with
    | some r => finishCfg r { s := takeRequest s r, st := stFault .link }
    | none => s)
  | .key n => (match s.cellar.reqs.find? (fun r => r.suite == n) with
    | some r => completeKey { s with cellar := { s.cellar with reqs := eraseFirst (· == r) s.cellar.reqs } } r (stFault .link) 0
    | none => s)
  | .command q => (match headCommand s q with
    | some c => finishCommand c ((resolve s c.target).map targetUnit) { s := takeCommand s c, st := stFault .link }
    | none => s)
  | .engine => s

/-- R30: a Stairwell request is not acknowledged: its lane leaves service, and its requester receives FAULT. Log 85 (DEDUCED). -/
def stallTimeout (station lane : Nat) (who : Requester) (s : State) : State :=
  if 15 < station then s else
  abandonRequest (if s.lanesOut.contains (station, lane) then s else { s with lanesOut := s.lanesOut ++ [(station, lane)] }) who

/-- R30: a Stairwell request stalls. -/
def execStallTimeout (station lane : Nat) (requester : Requester) (s : State) : Host.Outcome State Fault Refusal :=
  .next (clocked s (stallTimeout station lane requester s))

end Sys2Proof.Machine
end

