-- ==== Sys2Proof/Machine/Fixed.lean ====
section
/-! DEFINITION. Q15 and the accumulators (R71, R72). -/

namespace Sys2Proof.Machine
open Sys2Proof

/-- A QOP instruction that writes an accumulator. -/
def qAcc (k fn : Nat) (f : FmtQ) (val : Ctx → Int × Conds) (s : State) : Host.Outcome State Fault Refusal :=
  .next (runInsn k (encQ fn f) (fun _ s x => withConds (val x).2 s x (aset x f.acc (val x).1)) s)

/-- A QOP instruction that writes a general register, sign-extended (R71). -/
def qReg (k fn : Nat) (f : FmtQ) (val : Ctx → Int × Conds) (s : State) : Host.Outcome State Fault Refusal :=
  .next (runInsn k (encQ fn f) (fun _ s x => withConds (val x).2 s x (rset x f.rd (ofInt64 (val x).1))) s)

/-- R72: p, the exact product of the two Q15 operands. -/
def qProduct (f : FmtQ) (x : Ctx) : Int := q15 (rget x f.rs1) * q15 (rget x f.rs2)

/-- R72: A := p. -/
def execQmul (k : Nat) (f : FmtQ) (s : State) : Host.Outcome State Fault Refusal := qAcc k 0x00 f (fun x => (qProduct f x, 0)) s

/-- R72: A := sat40(A + p). -/
def execMac (k : Nat) (f : FmtQ) (s : State) : Host.Outcome State Fault Refusal :=
  qAcc k 0x01 f (fun x => sat40 (aget x f.acc + qProduct f x)) s

/-- R72: A := sat40(A - p). -/
def execMsu (k : Nat) (f : FmtQ) (s : State) : Host.Outcome State Fault Refusal :=
  qAcc k 0x02 f (fun x => sat40 (aget x f.acc - qProduct f x)) s

/-- R72: A := 0. -/
def execAclr (k : Nat) (f : FmtQ) (s : State) : Host.Outcome State Fault Refusal := qAcc k 0x03 f (fun _ => (0, 0)) s

/-- R72: A := sat40(w[rs1] as a signed 64-bit value). -/
def execAld (k : Nat) (f : FmtQ) (s : State) : Host.Outcome State Fault Refusal :=
  qAcc k 0x04 f (fun x => sat40 (rget x f.rs1).toInt) s

/-- R72: rd := A, sign-extended to 64 bits. -/
def execAmov (k : Nat) (f : FmtQ) (s : State) : Host.Outcome State Fault Refusal := qReg k 0x05 f (fun x => (aget x f.acc, 0)) s

/-- R72: rd := sat16(round(A)). -/
def execArnd (k : Nat) (f : FmtQ) (s : State) : Host.Outcome State Fault Refusal :=
  qReg k 0x06 f (fun x => sat16 (roundQ15 (aget x f.acc))) s

/-- R72: the accumulator shifted by a signed amount: left saturating, right truncating. -/
def shiftAcc (a sh : Int) : Int × Conds :=
  if 0 ≤ sh then sat40 (a * 2 ^ sh.toNat) else (a / 2 ^ (-sh).toNat, 0)

/-- R72: the rs2 field is a signed shift. -/
def execAsh (k : Nat) (f : FmtQ) (s : State) : Host.Outcome State Fault Refusal :=
  qAcc k 0x07 f (fun x => shiftAcc (aget x f.acc) f.rs2.toInt) s

/-- R72: rd := sat16(rs1 + rs2). -/
def execQadd (k : Nat) (f : FmtQ) (s : State) : Host.Outcome State Fault Refusal :=
  qReg k 0x08 f (fun x => sat16 (q15 (rget x f.rs1) + q15 (rget x f.rs2))) s

/-- R72: rd := sat16(rs1 - rs2). -/
def execQsub (k : Nat) (f : FmtQ) (s : State) : Host.Outcome State Fault Refusal :=
  qReg k 0x09 f (fun x => sat16 (q15 (rget x f.rs1) - q15 (rget x f.rs2))) s

/-- R72: rd := sat16(round(p)). -/
def execQmulr (k : Nat) (f : FmtQ) (s : State) : Host.Outcome State Fault Refusal :=
  qReg k 0x0A f (fun x => sat16 (roundQ15 (qProduct f x))) s

/-- R72: rd := sat16(-rs1). -/
def execQneg (k : Nat) (f : FmtQ) (s : State) : Host.Outcome State Fault Refusal :=
  qReg k 0x0B f (fun x => sat16 (-q15 (rget x f.rs1))) s

/-- R72: rd := sat16(abs rs1). -/
def execQabs (k : Nat) (f : FmtQ) (s : State) : Host.Outcome State Fault Refusal :=
  qReg k 0x0C f (fun x => sat16 (q15 (rget x f.rs1)).natAbs) s

end Sys2Proof.Machine
end

