-- ==== Sys2Proof/Machine/Float.lean ====
section
/-! DEFINITION. Floating point: binary32 and binary64 by exact arithmetic and one rounding (R73, R74). -/

namespace Sys2Proof.Machine
open Sys2Proof

/-- A format: fraction bits and exponent bias. -/
structure FFmt where
  frac : Nat
  bias : Nat
deriving DecidableEq, Repr

def fmt32 : FFmt := { frac := 23, bias := 127 }
def fmt64 : FFmt := { frac := 52, bias := 1023 }

/-- The bits below the sign. -/
def FFmt.signBit (t : FFmt) : Nat := if t.frac = 23 then 2 ^ 31 else 2 ^ 63

/-- The exponent field of infinities and NaNs. -/
def FFmt.expMax (t : FFmt) : Nat := 2 * t.bias + 1

/-- R74: the default NaN. -/
def FFmt.defaultNan (t : FFmt) : Nat := t.signBit - 1

/-- The quiet bit. -/
def FFmt.quiet (t : FFmt) : Nat := 2 ^ (t.frac - 1)

/-- A number read from its bits: a finite one is `m` × 2^`e`. -/
inductive FVal where
  | nan (bits : Nat) (signalling : Bool)
  | inf (neg : Bool)
  | fin (neg : Bool) (m : Nat) (e : Int)
deriving DecidableEq, Repr

/-- Reads the bits of a format. -/
def unpackF (t : FFmt) (b : Nat) : FVal :=
  let neg := b / t.signBit % 2 == 1
  let ex := b / 2 ^ t.frac % (t.expMax + 1)
  let fr := b % 2 ^ t.frac
  if ex = t.expMax then (if fr = 0 then .inf neg else .nan b (b / t.quiet % 2 == 0))
  else if ex = 0 then .fin neg fr (1 - (t.bias : Int) - t.frac)
  else .fin neg (fr + 2 ^ t.frac) ((ex : Int) - t.bias - t.frac)

/-- The sign bit of a result. -/
def signBits (t : FFmt) (neg : Bool) : Nat := if neg then t.signBit else 0

def infBits (t : FFmt) (neg : Bool) : Nat := signBits t neg + t.expMax * 2 ^ t.frac

def maxBits (t : FFmt) (neg : Bool) : Nat := signBits t neg + t.expMax * 2 ^ t.frac - 1

def zeroBits (t : FFmt) (neg : Bool) : Nat := signBits t neg

/-- R58 RMODE: whether a discarded remainder `r` of `half`×2 rounds the magnitude up. -/
def roundsUp (rm : BitVec 2) (neg odd : Bool) (r half : Nat) : Bool :=
  if rm = 0 then half < r || (r == half && odd)
  else if rm = 1 then !neg && 0 < r
  else if rm = 2 then neg && 0 < r
  else false

/-- R73, R74: the rounded magnitude of m × 2^e at quantum 2^q, and whether it is inexact. -/
def roundAt (rm : BitVec 2) (neg : Bool) (m : Nat) (e q : Int) : Nat × Bool :=
  if q ≤ e then (m * 2 ^ (e - q).toNat, false)
  else
    let n := (q - e).toNat
    let r := m % 2 ^ n
    (m / 2 ^ n + (if roundsUp rm neg (m / 2 ^ n % 2 == 1) r (2 ^ (n - 1)) then 1 else 0), r != 0)

/-- R74: the correctly rounded result m × 2^e of a sign, with its conditions: FX inexact, FU tiny before rounding and inexact, FO
overflow. -/
def roundF (t : FFmt) (rm : BitVec 2) (neg : Bool) (m : Nat) (e : Int) : Nat × Conds :=
  if m = 0 then (zeroBits t neg, 0) else
  let emin : Int := 1 - (t.bias : Int)
  let ev : Int := (m.log2 : Int) + e
  let q : Int := (if ev < emin then emin else ev) - t.frac
  let r := roundAt rm neg m e q
  let carry := r.1 = 2 ^ (t.frac + 1)
  let mant := if carry then 2 ^ t.frac else r.1
  let q := if carry then q + 1 else q
  let ex := q + t.frac
  if (t.bias : Int) < ex then
    let toInf := rm = 0 || (rm = 1 && !neg) || (rm = 2 && neg)
    (if toInf then infBits t neg else maxBits t neg, condFO ||| condFX)
  else
    let bits := if mant < 2 ^ t.frac then mant else (ex + t.bias).toNat * 2 ^ t.frac + (mant - 2 ^ t.frac)
    (signBits t neg + bits, condIf r.2 condFX ||| condIf (ev < emin && r.2) condFU)

/-- A signed exact value as sign and magnitude. -/
def roundSigned (t : FFmt) (rm : BitVec 2) (v : Int) (e : Int) : Nat × Conds := roundF t rm (v < 0) v.natAbs e

/-! ### NaN operands (R74) -/

/-- R74: the result when an operand is a NaN: the first NaN operand with its quiet bit set; FI where one is signalling. -/
def nanResult (t : FFmt) (ops : List FVal) : Option (Nat × Conds) :=
  let sig := ops.any (fun v => match v with | .nan _ s => s | _ => false)
  ops.findSome? (fun v => match v with
    | .nan b _ => some (b ||| t.quiet, condIf sig condFI)
    | _ => none)

/-- R74: an invalid operation without a NaN operand. -/
def invalidF (t : FFmt) : Nat × Conds := (t.defaultNan, condFI)

/-! ### Operations -/

/-- The finite value as an integer at exponent `e0`, at or below its own. -/
def atExp (neg : Bool) (m : Nat) (e e0 : Int) : Int :=
  let v : Int := (m * 2 ^ (e - e0).toNat : Nat)
  if neg then -v else v

/-- The sum of two finite values; an exact zero takes the sign that IEEE 754 gives. -/
def addFin (t : FFmt) (rm : BitVec 2) (n1 : Bool) (m1 : Nat) (e1 : Int) (n2 : Bool) (m2 : Nat) (e2 : Int) : Nat × Conds :=
  let e := min e1 e2
  let v := atExp n1 m1 e1 e + atExp n2 m2 e2 e
  if v = 0 then (zeroBits t (if n1 = n2 then n1 else rm == 2), 0) else roundSigned t rm v e

def addVal (t : FFmt) (rm : BitVec 2) (a b : FVal) : Nat × Conds :=
  match a, b with
  | .inf x, .inf y => if x = y then (infBits t x, 0) else invalidF t
  | .inf x, _ => (infBits t x, 0)
  | _, .inf y => (infBits t y, 0)
  | .fin n1 m1 e1, .fin n2 m2 e2 => addFin t rm n1 m1 e1 n2 m2 e2
  | _, _ => invalidF t

def negVal : FVal → FVal
  | .inf n => .inf (!n)
  | .fin n m e => .fin (!n) m e
  | v => v

def mulVal (t : FFmt) (rm : BitVec 2) (a b : FVal) : Nat × Conds :=
  match a, b with
  | .inf x, .inf y => (infBits t (x != y), 0)
  | .inf x, .fin y m _ | .fin y m _, .inf x => if m = 0 then invalidF t else (infBits t (x != y), 0)
  | .fin n1 m1 e1, .fin n2 m2 e2 => roundF t rm (n1 != n2) (m1 * m2) (e1 + e2)
  | _, _ => invalidF t

def divVal (t : FFmt) (rm : BitVec 2) (a b : FVal) : Nat × Conds :=
  match a, b with
  | .inf _, .inf _ => invalidF t
  | .inf x, .fin y _ _ => (infBits t (x != y), 0)
  | .fin x _ _, .inf y => (zeroBits t (x != y), 0)
  | .fin n1 m1 e1, .fin n2 m2 e2 =>
    if m2 = 0 then (if m1 = 0 then invalidF t else (infBits t (n1 != n2), condFZ))
    else
      let num := m1 * 2 ^ 120
      let q := 2 * (num / m2) + (if num % m2 = 0 then 0 else 1)
      roundF t rm (n1 != n2) q (e1 - e2 - 121)
  | _, _ => invalidF t

/-- The integer square root, from bit `k` down. -/
def isqrt (n : Nat) : Nat → Nat → Nat
  | 0, r => r
  | k + 1, r => isqrt n k (if (r + 2 ^ k) * (r + 2 ^ k) ≤ n then r + 2 ^ k else r)

def sqrtVal (t : FFmt) (rm : BitVec 2) (a : FVal) : Nat × Conds :=
  match a with
  | .inf n => if n then invalidF t else (infBits t false, 0)
  | .fin n m e =>
    if m = 0 then (zeroBits t n, 0)
    else if n then invalidF t
    else
      let odd := e % 2 ≠ 0
      let m' := (if odd then 2 * m else m) * 2 ^ 120
      let e' := (if odd then e - 1 else e) - 120
      let r := isqrt m' 90 0
      roundF t rm false (2 * r + (if r * r = m' then 0 else 1)) (e' / 2 - 1)
  | _ => invalidF t

/-- R74: rd + rs1 × rs2, rounded once. Log 21 (DESIGN CHOICE). -/
def fmaVal (t : FFmt) (rm : BitVec 2) (c a b : FVal) : Nat × Conds :=
  match a, b with
  | .fin n1 m1 e1, .fin n2 m2 e2 =>
    match c with
    | .inf y => (infBits t y, 0)
    | .fin n3 m3 e3 => addFin t rm (n1 != n2) (m1 * m2) (e1 + e2) n3 m3 e3
    | _ => invalidF t
  | .inf x, .fin y m _ | .fin y m _, .inf x =>
    if m = 0 then invalidF t else
    (match c with | .inf z => if z = (x != y) then (infBits t z, 0) else invalidF t | _ => (infBits t (x != y), 0))
  | .inf x, .inf y => (match c with | .inf z => if z = (x != y) then (infBits t z, 0) else invalidF t | _ => (infBits t (x != y), 0))
  | _, _ => invalidF t

/-- Zero times infinity. -/
def zeroTimesInf (a b : FVal) : Bool :=
  match a, b with
  | .inf _, .fin _ m _ | .fin _ m _, .inf _ => m == 0
  | _, _ => false

/-- The order of two numbers that are not NaN: -1, 0 or 1; -0 equals +0. -/
def orderVal (a b : FVal) : Int :=
  match a, b with
  | .inf x, .inf y => if x = y then 0 else if x then -1 else 1
  | .inf x, _ => if x then -1 else 1
  | _, .inf y => if y then 1 else -1
  | .fin n1 m1 e1, .fin n2 m2 e2 =>
    let e := min e1 e2
    let d := atExp n1 m1 e1 e - atExp n2 m2 e2 e
    if d < 0 then -1 else if d = 0 then 0 else 1
  | _, _ => 2

/-- R74: -0 counts as less than +0. -/
def lessTotal (a b : FVal) : Bool :=
  match orderVal a b with
  | -1 => true
  | 0 => (match a, b with | .fin n1 _ _, .fin n2 _ _ => n1 && !n2 | _, _ => false)
  | _ => false

/-- A NaN, and a signalling one. -/
def isNan : FVal → Bool | .nan _ _ => true | _ => false
def isSignalling : FVal → Bool | .nan _ s => s | _ => false

/-! ### Instructions -/

/-- R74: fn[9] selects binary64. -/
def fmtOf (f : FmtA) : FFmt := if f.hi.getLsbD 1 then fmt64 else fmt32

/-- The bits of an operand register in a format. -/
def fbits (t : FFmt) (x : Ctx) (r : BitVec 5) : Nat := (rget x r).toNat % (2 * t.signBit)

/-- An operand in the instruction's format. -/
def fget (f : FmtA) (x : Ctx) (r : BitVec 5) : FVal := unpackF (fmtOf f) (fbits (fmtOf f) x r)

/-- A FOP instruction whose result and conditions are given. -/
def fop (k fn : Nat) (f : FmtA) (val : Ctx → BitVec 64 × Conds) (s : State) : Host.Outcome State Fault Refusal :=
  .next (runInsn k (encA 0x1C fn f) (fun _ s x => withConds (val x).2 s x (rset x f.rd (val x).1)) s)

/-- A result in bits as a register value. -/
def fres (r : Nat × Conds) : BitVec 64 × Conds := (BitVec.ofNat 64 r.1, r.2)

/-- A two-operand operation with the NaN rule of R74. -/
def fop2 (k fn : Nat) (f : FmtA) (op : FFmt → BitVec 2 → FVal → FVal → Nat × Conds) (s : State) : Host.Outcome State Fault Refusal :=
  fop k fn f (fun x =>
    let a := fget f x f.rs1
    let b := fget f x f.rs2
    fres ((nanResult (fmtOf f) [a, b]).getD (op (fmtOf f) x.fmode a b))) s

/-- R74: rd := rs1 + rs2. -/
def execFadd (k : Nat) (f : FmtA) (s : State) : Host.Outcome State Fault Refusal := fop2 k 0x00 f addVal s

/-- R74: rd := rs1 - rs2. -/
def execFsub (k : Nat) (f : FmtA) (s : State) : Host.Outcome State Fault Refusal :=
  fop2 k 0x01 f (fun t rm a b => addVal t rm a (negVal b)) s

/-- R74: rd := rs1 × rs2. -/
def execFmul (k : Nat) (f : FmtA) (s : State) : Host.Outcome State Fault Refusal := fop2 k 0x02 f mulVal s

/-- R74: rd := rs1 / rs2. -/
def execFdiv (k : Nat) (f : FmtA) (s : State) : Host.Outcome State Fault Refusal := fop2 k 0x03 f divVal s

/-- R74: rd := the square root of rs1. -/
def execFsqrt (k : Nat) (f : FmtA) (s : State) : Host.Outcome State Fault Refusal :=
  fop k 0x04 f (fun x =>
    let a := fget f x f.rs1
    fres ((nanResult (fmtOf f) [a]).getD (sqrtVal (fmtOf f) x.fmode a))) s

/-- R74: rd := rd + rs1 × rs2, rounded once. Log 21 (DESIGN CHOICE). -/
def execFma (k : Nat) (f : FmtA) (s : State) : Host.Outcome State Fault Refusal :=
  fop k 0x05 f (fun x =>
    let a := fget f x f.rs1
    let b := fget f x f.rs2
    let c := fget f x f.rd
    fres (match nanResult (fmtOf f) [a, b, c] with
      | some r => (r.1, r.2 ||| condIf (zeroTimesInf a b && Config.fmaQuietInvalid) condFI)
      | none => fmaVal (fmtOf f) x.fmode c a b)) s

/-- The smaller or the larger of two numbers that are not NaN, as the bits of its register. -/
def pickMin (f : FmtA) (x : Ctx) (larger : Bool) : Nat :=
  let a := fget f x f.rs1
  let b := fget f x f.rs2
  let first := if larger then !lessTotal a b else !lessTotal b a
  fbits (fmtOf f) x (if first then f.rs1 else f.rs2)

/-- R74: minimum and maximum: a NaN operand gives a NaN. -/
def minMax (f : FmtA) (x : Ctx) (larger : Bool) : BitVec 64 × Conds :=
  fres ((nanResult (fmtOf f) [fget f x f.rs1, fget f x f.rs2]).getD (pickMin f x larger, 0))

/-- R74: minimumNumber and maximumNumber: the number where one operand is a NaN. -/
def minMaxNumber (f : FmtA) (x : Ctx) (larger : Bool) : BitVec 64 × Conds :=
  let a := fget f x f.rs1
  let b := fget f x f.rs2
  let fi := condIf (isSignalling a || isSignalling b) condFI
  if isNan a && !isNan b then fres (fbits (fmtOf f) x f.rs2, fi)
  else if isNan b && !isNan a then fres (fbits (fmtOf f) x f.rs1, fi)
  else minMax f x larger

/-- R74: IEEE 754-2019 minimum. -/
def execFmin (k : Nat) (f : FmtA) (s : State) : Host.Outcome State Fault Refusal := fop k 0x06 f (fun x => minMax f x false) s

/-- R74: IEEE 754-2019 maximum. -/
def execFmax (k : Nat) (f : FmtA) (s : State) : Host.Outcome State Fault Refusal := fop k 0x07 f (fun x => minMax f x true) s

/-- R74: the sign inverted. -/
def execFneg (k : Nat) (f : FmtA) (s : State) : Host.Outcome State Fault Refusal :=
  fop k 0x08 f (fun x => fres (fbits (fmtOf f) x f.rs1 ^^^ (fmtOf f).signBit, 0)) s

/-- R74: the sign cleared. -/
def execFabs (k : Nat) (f : FmtA) (s : State) : Host.Outcome State Fault Refusal :=
  fop k 0x09 f (fun x => fres (fbits (fmtOf f) x f.rs1 % (fmtOf f).signBit, 0)) s

/-- R74: the comparison: -1, 0, +1, or 2 where unordered. -/
def compareF (f : FmtA) (x : Ctx) (signalling : Bool) : BitVec 64 × Conds :=
  let a := fget f x f.rs1
  let b := fget f x f.rs2
  if isNan a || isNan b then (2, condIf (signalling || isSignalling a || isSignalling b) condFI)
  else (ofInt64 (orderVal a b), 0)

/-- R74: quiet comparison. -/
def execFcmp (k : Nat) (f : FmtA) (s : State) : Host.Outcome State Fault Refusal := fop k 0x0A f (fun x => compareF f x false) s

/-- R74: signalling comparison. -/
def execFcmps (k : Nat) (f : FmtA) (s : State) : Host.Outcome State Fault Refusal := fop k 0x0B f (fun x => compareF f x true) s

/-- R74: the kind of a number. -/
def kindF (t : FFmt) (b : Nat) : Nat :=
  match unpackF t b with
  | .nan _ sg => if sg then 5 else 4
  | .inf _ => 3
  | .fin _ m _ => if m = 0 then 0 else if m < 2 ^ t.frac then 1 else 2

/-- R74: rd[2:0] the kind of rs1, rd[3] its sign. -/
def execFkind (k : Nat) (f : FmtA) (s : State) : Host.Outcome State Fault Refusal :=
  fop k 0x0C f (fun x =>
    let b := fbits (fmtOf f) x f.rs1
    (BitVec.ofNat 64 (kindF (fmtOf f) b + 8 * (b / (fmtOf f).signBit)), 0)) s

/-- R74: IEEE 754-2019 minimumNumber. -/
def execFminn (k : Nat) (f : FmtA) (s : State) : Host.Outcome State Fault Refusal := fop k 0x0E f (fun x => minMaxNumber f x false) s

/-- R74: IEEE 754-2019 maximumNumber. -/
def execFmaxn (k : Nat) (f : FmtA) (s : State) : Host.Outcome State Fault Refusal := fop k 0x0F f (fun x => minMaxNumber f x true) s

/-- R74: a signed 64-bit integer converted to precision P. -/
def execFcvtf (k : Nat) (f : FmtA) (s : State) : Host.Outcome State Fault Refusal :=
  fop k 0x10 f (fun x => fres (roundSigned (fmtOf f) x.fmode (rget x f.rs1).toInt 0)) s

/-- R74: a number as a signed 64-bit integer. -/
def toInteger (rm : BitVec 2) (v : FVal) : BitVec 64 × Conds :=
  match v with
  | .nan _ _ => (0, condFI)
  | .inf n => (if n then 0x8000000000000000 else 0x7FFFFFFFFFFFFFFF, condFI)
  | .fin n m e =>
    let r := roundAt rm n m e 0
    let i : Int := if n then -(r.1 : Int) else r.1
    if i < -(2 ^ 63 : Nat) then (0x8000000000000000, condFI)
    else if ((2 ^ 63 : Nat) : Int) ≤ i then (0x7FFFFFFFFFFFFFFF, condFI)
    else (ofInt64 i, condIf r.2 condFX)

/-- R74: rs1 rounded by `sr.fmode` to a signed 64-bit integer. -/
def execFcvti (k : Nat) (f : FmtA) (s : State) : Host.Outcome State Fault Refusal :=
  fop k 0x11 f (fun x => toInteger x.fmode (fget f x f.rs1)) s

/-- The other precision. -/
def otherFmt (t : FFmt) : FFmt := if t.frac = 23 then fmt64 else fmt32

/-- R74: a NaN of one precision in the other: sign and the leading payload bits are kept, the quiet bit set. Log 22 (DEDUCED). -/
def convertNan (src dst : FFmt) (b : Nat) : Nat :=
  let neg := b / src.signBit % 2 == 1
  let fr := b % 2 ^ src.frac
  let fr' := if src.frac ≤ dst.frac then fr * 2 ^ (dst.frac - src.frac) else fr / 2 ^ (src.frac - dst.frac)
  infBits dst neg + (fr' ||| dst.quiet)

/-- R74: a number converted between the precisions. -/
def convertF (src dst : FFmt) (rm : BitVec 2) (b : Nat) : Nat × Conds :=
  match unpackF src b with
  | .nan n sg => (convertNan src dst n, condIf sg condFI)
  | .inf n => (infBits dst n, 0)
  | .fin n m e => roundF dst rm n m e

/-- R74: rs1 converted from the other precision to precision P. Log 22 (DEDUCED). -/
def execFcvtp (k : Nat) (f : FmtA) (s : State) : Host.Outcome State Fault Refusal :=
  fop k 0x12 f (fun x =>
    let src := otherFmt (fmtOf f)
    fres (convertF src (fmtOf f) x.fmode (fbits src x f.rs1))) s

/-- R74: a number × 2^15, rounded and saturated to 16 bits. -/
def toQ15 (rm : BitVec 2) (v : FVal) : BitVec 64 × Conds :=
  match v with
  | .nan _ _ => (0, condFI)
  | .inf n => (ofInt64 (if n then -32768 else 32767), condQS)
  | .fin n m e =>
    let r := roundAt rm n m (e + 15) 0
    let q := sat16 (if n then -(r.1 : Int) else r.1)
    (ofInt64 q.1, q.2 ||| condIf r.2 condFX)

/-- R74: rd := rs1 × 2^15 rounded by `sr.fmode`, sat16. -/
def execFtoq (k : Nat) (f : FmtA) (s : State) : Host.Outcome State Fault Refusal :=
  fop k 0x13 f (fun x => toQ15 x.fmode (fget f x f.rs1)) s

/-- R74: Q15 rs1 converted exactly to precision P. -/
def execQtof (k : Nat) (f : FmtA) (s : State) : Host.Outcome State Fault Refusal :=
  fop k 0x14 f (fun x => fres (roundSigned (fmtOf f) x.fmode (q15 (rget x f.rs1)) (-15))) s

end Sys2Proof.Machine
end

