-- ==== Sys2Proof/Machine/Fuses.lean ====
section
/-! DEFINITION. The Fusebox, identity, the tamper line and CFG_CELLAR (R348, R349, R352, R353, R355). -/

namespace Sys2Proof.Machine
open Sys2Proof

/-! ### Reading the Fusebox (R352, R353) -/

/-- The low-margin and the high-margin read of a number of fuse words, lowest word first, as two numbers. -/
def fuseRead (s : State) (at' n : Nat) : Nat × Nat :=
  let words := fun (f : BitVec 32 → BitVec 32 → BitVec 32) =>
    natOf ((rangeFrom at' n).flatMap (fun i => bytesOf 4 (f (tget 0 s.fuses.words i) (tget 0 s.fuses.marginal i)).toNat))
  (words (fun w m => w ||| m), words (fun w m => w &&& ~~~m))

/-- R353: a thermometer code. -/
def thermometer (v : Nat) : Bool := v &&& (v + 1) == 0

/-- R353: the value that more than half of the copies that are not marginal agree on. -/
def majority (ok : Nat → Bool) (copies : List (Nat × Nat)) : Option Nat :=
  let good := (copies.filter (fun c => c.1 == c.2 && ok c.1)).map (·.1)
  good.find? (fun v => good.length < 2 * (good.filter (· == v)).length)

/-- A settled field: its value, and whether it is marginal (R353). -/
structure Settled where
  value : Nat
  marginal : Bool
deriving DecidableEq, Repr

/-- R353: any bit of the copies is marginal. -/
def anyMarginal (copies : List (Nat × Nat)) : Bool := copies.any (fun c => c.1 != c.2)

/-- R353: a field held three times; the fallback is computed from every read of every copy. -/
def settleThree (ok : Nat → Bool) (fallback : List Nat → Nat) (copies : List (Nat × Nat)) : Settled :=
  match majority ok copies with
  | some v => { value := v, marginal := anyMarginal copies }
  | none => { value := fallback (copies.flatMap (fun c => [c.1, c.2])), marginal := true }

/-- R352: the number of bits set. -/
def bitCount (n v : Nat) : Nat := ((List.range n).filter (fun i => v / 2 ^ i % 2 == 1)).length

/-- R353: the most advanced lifecycle state among reads; reads that are no state count only when no other is there. -/
def mostAdvanced (reads : List Nat) : Nat :=
  match reads.filter thermometer with
  | [] => 15
  | codes => codes.foldl max 0

/-- R352, R353: the lifecycle code: three copies of 4 bits in word 20. -/
def settleLifecycle (s : State) : Settled :=
  let w := fuseRead s 20 1
  settleThree thermometer mostAdvanced ((List.range 3).map (fun i => (w.1 / 2 ^ (8 * i) % 16, w.2 / 2 ^ (8 * i) % 16)))

/-- R352, R353: the anti-rollback count: three copies of 128 bits. -/
def settleAntiroll (s : State) : Settled :=
  let r := settleThree thermometer (fun reads => (reads.map (fun v => 2 ^ bitCount 128 v - 1)).foldl max 0)
    ((List.range 3).map (fun i => fuseRead s (21 + 4 * i) 4))
  { r with value := bitCount 128 r.value }

/-- R352, R353: VENDOR_HASH; none is no valid hash. -/
def settleVendor (s : State) : Option (List (BitVec 32)) × Bool :=
  let copies := (List.range 3).map (fun i => fuseRead s (33 + 12 * i) 12)
  match majority (fun _ => true) copies with
  | some v => (some ((List.range 12).map (fun i => BitVec.ofNat 32 (v / 2 ^ (32 * i)))), anyMarginal copies)
  | none => (none, true)

/-! ### Checks (R352) -/

/-- CRC-16, polynomial 0x1021, initial value 0xFFFF, most significant bit first. Log 38 (PRESUMED). -/
def crc16 (bs : List Byte) : Nat :=
  bs.foldl (fun c b => (List.range 8).foldl (fun c _ => if 0x8000 ≤ c then (c * 2 % 0x10000) ^^^ 0x1021 else c * 2) (c ^^^ (b.toNat * 256))) 0xFFFF

/-- CRC-32 as Ethernet's FCS uses it. Log 38 (PRESUMED). -/
def crc32 (bs : List Byte) : Nat :=
  (bs.foldl (fun c b => (List.range 8).foldl (fun c _ => if c % 2 = 1 then (c / 2) ^^^ 0xEDB88320 else c / 2) (c ^^^ b.toNat)) 0xFFFFFFFF) ^^^ 0xFFFFFFFF

/-- R353: a field held once with a check: the read that passes; the high-margin read when both or neither does. -/
def settleOnce (passes : Nat → Bool) (r : Nat × Nat) : Settled :=
  let value := if passes r.1 && !passes r.2 then r.1 else r.2
  { value, marginal := r.1 != r.2 || !passes r.2 }

/-- R352: ID_CRC over words 0 to 2, held in word 3. Log 38 (PRESUMED). -/
def idPasses (v : Nat) : Bool := crc16 (bytesOf 12 v) == v / 2 ^ 96 % 2 ^ 16

/-- R352: CAL_CRC over words 69 to 99, held in word 100. Log 38 (PRESUMED). -/
def calPasses (v : Nat) : Bool := crc32 (bytesOf 124 v) == v / 2 ^ 992

/-- R352, R353: DEVICE_SECRET as one read gives it, corrected by SECRET_ECC; none where a word is beyond correction. Log 39 (DESIGN CHOICE). -/
def secretOf (v : Nat) : Option (List (BitVec 32)) :=
  (List.range 12).mapM (fun i => Config.secretCorrect (BitVec.ofNat 32 (v / 2 ^ (32 * i))) (BitVec.ofNat 7 (v / 2 ^ (384 + 7 * i))))

/-- R353: DEVICE_SECRET takes no value where neither read passes, or where both pass with different values. Log 37 (DEDUCED). -/
def settleSecret (s : State) : Option (List (BitVec 32)) × Bool :=
  let r := fuseRead s 4 16
  match secretOf r.1, secretOf r.2 with
  | some a, some b => (if a = b then some a else none, r.1 != r.2)
  | some a, none => (some a, true)
  | none, some b => (some b, true)
  | none, none => (none, true)

/-- R353: what is recorded when a field is marginal. -/
def noteMarginal (s : State) (m : Bool) : State :=
  if m then raiseEvent { s with cellar := { s.cellar with fuseMarginal := true } } [0] 6 (.part cellarPart) stDone [] else s

/-- R353: the whole Fusebox read and settled; the lifecycle root is derived again (R339). Log 3 (DESIGN CHOICE). -/
def settleFuses (s : State) (rd : FuseReads) : State :=
  let s := { s with fuses := { s.fuses with marginal := rd.marginal.foldl (fun t e => tset 0 t e.1 e.2) [] } }
  let life := settleLifecycle s
  let anti := settleAntiroll s
  let vendor := settleVendor s
  let id := settleOnce idPasses (fuseRead s 0 4)
  let cal := settleOnce calPasses (fuseRead s 69 32)
  let secret := settleSecret s
  let s := { s with cellar := { s.cellar with
    fuseMarginal := false, lifecycle := life.value, antiroll := anti.value, vendorHash := vendor.1
    ident := (List.range 4).map (fun i => BitVec.ofNat 32 (id.value / 2 ^ (32 * i)))
    deviceSecret := secret.1.getD [], secretValid := secret.1.isSome
    hasRoot := secret.1.isSome && life.value != 0 && life.value != 15 } }
  [life.marginal, anti.marginal, vendor.2, id.marginal, cal.marginal, secret.2].foldl noteMarginal s

/-- R355: the identity payload. -/
def identityWords (s : State) : List (BitVec 64) :=
  let w := fun (i : Nat) => (s.cellar.ident.getD i 0).toNat
  [pack [(0, 32, w 0), (32, 32, w 1)], pack [(0, 32, w 2), (32, 32, w 3)], pack [(0, 4, s.cellar.lifecycle), (8, 1, b2n s.cellar.fuseMarginal)]]

/-- R355: IDENTITY. -/
def execIdentity (q : CmdQueue) (s : State) : Host.Outcome State Fault Refusal :=
  .next (unitCommand q (withCode 0xC0) false (fun c t s => onUnit t (· == .part cellarPart) s
    (if c.arg ≠ 0 then refuse s .range else { s, st := stDone, payload := identityWords s })) s)

/-! ### Tamper (R348, R349) -/

/-- R348: wipes everything: every slot zeroised, the key area erased, every outstanding request refused. -/
def wipeCellar (s : State) : State :=
  let reqs := s.cellar.reqs
  let s := (s.cellar.keys.filter (fun e => e.2.present && !isRoot e.1)).foldl (fun s e => wipeSlot s e.1) s
  let s := (rangeFrom 0 0x40).foldl (fun s n => setKey s n (fun _ => {})) s
  let s := { s with cellar := { s.cellar with flashKeys := [], reqs := [], wiped := true } }
  reqs.foldl (fun s r => completeKey s r (stRefused .state) 0) s

/-- R348: the Cellar acts on the tamper latch as TAMPER_MODE selects. Log 40 (DESIGN CHOICE). -/
def actOnTamper (s : State) : State :=
  let s := if s.cellar.tamperMode = 1 then
      (match liveSlot s s.cellar.tamperParent with | some n => destroyKeys s [n] | none => s)
    else if s.cellar.tamperMode = 2 then wipeCellar s else s
  raiseEvent s [0] 7 (.part cellarPart) stDone []

/-- R348: TAMPER_N has been low for more than 1 ms: the latch keeps the time of the first fall; while the module runs the Cellar
acts on it, otherwise at the next start. Log 40 (DESIGN CHOICE). -/
def execTamper (s : State) : Host.Outcome State Fault Refusal :=
  .next (if s.mantel.tamperLatched then s else
    let s' := { s with mantel := { s.mantel with tamperLatched := true, tamperSec := s.mantel.seconds % 2 ^ 32 } }
    if s.boot.phase = .running then mirrorChanges s (actOnTamper s') (s.cellar.keys.map (·.1)) else s')

/-- R349: CFG_CELLAR. -/
def configureCellar (r : CfgReq) (s : State) : CfgOut :=
  buildingCfg s (cfgUnitOnly r s (· == .part cellarPart) (fun _ =>
    let mode := fld (r.word 2) 0 2
    let parent : BitVec 32 := BitVec.ofNat 32 (fld (r.word 2) 32 32)
    let general := match liveSlot s parent with | some n => !isRoot n | none => false
    if mode = 3 || (mode = 1 && !general) then cfgDeny s (stFault .range)
    else cfgDone { s with cellar := { s.cellar with
      tamperMode := mode, tamperParent := parent, pairAuth := BitVec.ofNat 32 (fld (r.word 3) 0 32) } }))

/-- R349: CFG_CELLAR. -/
def execCfgCellar (c : Nat) (s : State) : Host.Outcome State Fault Refusal := .next (serveCfg c (cfgCode 0x10) configureCellar s)

/-- R357: status word 1 of the Cellar. -/
def cellarStatus (s : State) : BitVec 64 :=
  pack [(0, 14, (s.cellar.keys.filter (·.2.present)).length), (14, 4, s.cellar.lifecycle), (18, 1, b2n s.cellar.fuseMarginal),
    (19, 1, b2n s.mantel.tamperLatched), (20, 1, b2n s.cellar.wiped), (24, 8, s.cellar.antiroll), (32, 32, s.mantel.tamperSec)]

end Sys2Proof.Machine
end

