-- ==== Sys2Proof/Machine/LarderCommands.lean ====
section
/-! DEFINITION. The Larder's configuration, its commands, and items put by engines and by the management firmware
(R185 to R190, R200, R202, R203). -/

namespace Sys2Proof.Machine
open Sys2Proof

/-! ### CFG_QUEUE (R186, R187) -/

/-- R204: a queue that no CFG_QUEUE may set: the null queue, a reserved one, or one that an engine keeps to itself. Log 26 (DEDUCED). -/
def fixedQueue (q : Nat) : Bool :=
  q < 0x80 && q != 0x10 && !(0x40 ≤ q && q ≤ 0x46) && !(0x50 ≤ q && q ≤ 0x5F)

/-- A queue with the fields of an OP 0 body; its credits not issued follow DEPTH. -/
def queueFields (r : CfgReq) (q : Queue) : Queue :=
  let w3 := r.word 3
  let w4 := r.word 4
  let depth := fld w3 0 16
  { q with
    depth, itemMax := fld w3 16 12, grant := fld w3 28 8, order := bitAt w3 36, hdrVis := bitAt w3 37, wmEvent := bitAt w3 38
    fcSel := fld w3 39 5, highWm := fld w4 0 16, lowWm := fld w4 16 16, takeSuite := fld w4 32 6, takeGrant := bitAt w4 38
    putMap := r.word 5, poolFree := q.poolFree + depth - q.depth }

/-- R187: the fields of an OP 0 body are within their ranges. Log 26 (DEDUCED). -/
def queueFieldsOk (q : Queue) : Bool :=
  24 ≤ q.itemMax && q.itemMax ≤ 4064 && q.grant != 0 && (q.fcSel == 0 || 0x10 ≤ q.fcSel) && q.lowWm < q.highWm &&
    (q.depth == 0 || q.highWm ≤ q.depth)

/-- The put bindings of loaded tasks on a queue, as suites. -/
def putSuites (s : State) (qn : Nat) : List Nat := ((loadedTasks s).filter (fun e => e.2.desc.putQ.contains qn)).map (·.1 / 32)

/-- R187: an OP 0 body that the present state of the queue does not admit. Log 26 (DEDUCED). -/
def queueBusy (s : State) (qn : Nat) (old new : Queue) : Bool :=
  let bound := match old.consumer with
    | some (.task c b) => some (256 * (taskAt s c).desc.takeCache.getD b 0)
    | _ => none
  new.depth < old.depth - old.poolFree ||
    (bound.isSome && (new.depth == 0 || new.takeSuite != old.takeSuite)) ||
    (new.itemMax != old.itemMax && creditSpent old) ||
    (match bound with | some share => share < shareNeeded new | none => false) ||
    (putSuites s qn).any (fun n => queueOwner s qn != some n && old.putMap.getLsbD n && !new.putMap.getLsbD n)

/-- R186, R187: OP 0. Log 26 (DEDUCED). -/
def setUpQueue (r : CfgReq) (s : State) : CfgOut :=
  let qn := fld (r.word 2) 0 16
  let old := queueAt s qn
  let new := queueFields r old
  let owner := queueOwner s qn
  if r.suite != 0 && (owner != some r.suite || new.fcSel != old.fcSel) then cfgDeny s (stRefused .threshold)
  else if !queueFieldsOk new || fixedQueue qn then cfgDeny s (stFault .range)
  else match owner with
    | none => cfgDeny s (stFault .range)
    | some n =>
      if old.qfault then cfgDeny s (stFault .error)
      else if resetting s n || queueBusy s qn old new then cfgDeny s (stRefused .state)
      else if limitOf s n < linesInUse s n - queueLines old + queueLines new then cfgDeny s (stRefused .size)
      else if issuerLocked s r then cfgDeny s (stRefused .lock)
      else cfgDone (judgeHigh (setQueue s qn (fun q => topUp (queueFields r q))) qn)

/-- R186: CFG_QUEUE with OP 0. -/
def execCfgQueueSet (c : Nat) (s : State) : Host.Outcome State Fault Refusal :=
  .next (serveCfg c (fun r => r.code == 0x04 && !bitAt (r.word 2) 16)
    (fun r s => cfgUnitOnly r s (· == .part larderPart) (fun _ => setUpQueue r s)) s)

/-- R186, R187: OP 1. -/
def setLimit (r : CfgReq) (s : State) : CfgOut :=
  let n := fld (r.word 3) 0 6
  let lines := fld (r.word 3) 8 20
  let others := (((List.range 64).filter (· != n)).map (limitOf s)).sum
  if r.suite != 0 then cfgDeny s (stRefused .threshold)
  else if fld (r.word 2) 0 16 ≠ 0 || r.word 4 ≠ 0 || r.word 5 ≠ 0 || 524288 < others + lines then cfgDeny s (stFault .range)
  else if resetting s n || lines < linesInUse s n then cfgDeny s (stRefused .state)
  else if issuerLocked s r then cfgDeny s (stRefused .lock)
  else cfgDone { s with larder := { s.larder with limits := tset (limitDefault n) s.larder.limits n lines } }

/-- R186: CFG_QUEUE with OP 1. -/
def execCfgQueueLimit (c : Nat) (s : State) : Host.Outcome State Fault Refusal :=
  .next (serveCfg c (fun r => r.code == 0x04 && bitAt (r.word 2) 16)
    (fun r s => cfgUnitOnly r s (· == .part larderPart) (fun _ => setLimit r s)) s)

/-! ### Items of engines and of the firmware (R185, R190, R200) -/

/-- R444, R188: the producer that an item's source stands for. Log 27 (DEDUCED). -/
def sourceProducer : EngineSrc → Producer
  | .session n h k => .session n h k
  | .engine p => .engine p

/-- R167, R184: the item that a source writes. -/
def sourceItem (src : EngineSrc) (it : ItemIn) : Item :=
  let suite := match src with | .session n _ _ => n | .engine _ => 0
  let host := match src with | .session _ h _ => h | .engine _ => 0
  { prio := it.prio, ptag := it.ptag, srcSuite := suite, hostId := host, seq := 0, entered := t0, producer := sourceProducer src
    data := it.data }

/-- R166: a put of the firmware for a suite without put rights on the queue. -/
def putDenied (s : State) (qn : Nat) : EngineSrc → Bool
  | .session n _ _ => qn != 0 && !mayPut s n qn
  | .engine _ => false

/-- R160: the queue that a source names: a host command that names none goes into its suite's HOST_QUEUE. Log 27 (DEDUCED). -/
def namedQueue (s : State) (qn : Nat) : EngineSrc → Nat
  | .session n _ _ => if qn = 0 then (suiteAt s n).hostQueue else qn
  | .engine _ => qn

/-- R185, R190: an item enters when its LENGTH is written. The firmware attaches where it puts for no session (R167); one that
finds no credit is told DELAYED(CREDIT), and an engine's item is dropped and counted. A put without rights has no effect but
the count of the failed check (R18, R166), and one for a suite that is RESETTING none at all (R171). An item larger than ITEM_MAX is discarded. Log 19 (DEDUCED), 27 (DEDUCED). -/
def enterFrom (s : State) (named : Nat) (src : EngineSrc) (it : ItemIn) : State :=
  let qn := namedQueue s named src
  if fencedOut s (sourceItem src it).srcSuite then s
  else if putDenied s qn src then (match src with | .session n _ _ => countThreshold s n | .engine _ => s) else
  let who := sourceProducer src
  let s := match src with
    | .session _ 0 _ => if qn = 0 then s else setQueue s qn (fun q => attach q who)
    | _ => s
  let q := queueAt s qn
  if qn = 0 || !it.written || it.data.isEmpty || q.qfault || q.itemMax < it.data.length then s
  else if creditsInHand q who = 0 then
    match src with
    | .engine _ => setQueue s qn (fun q => { q with noCreditDrops := bump 16 q.noCreditDrops })
    | .session _ _ _ => markWaiting s qn who
  else spendAndEnter s qn (sourceItem src it)

/-- R185: an item enters a queue. -/
def execItemEnter (queue : Nat) (src : EngineSrc) (it : ItemIn) (s : State) : Host.Outcome State Fault Refusal := .next (enterFrom s queue src it)

/-- R200: an uncorrectable error in a queue's control state puts it into FAULT. -/
def controlError (s : State) (qn : Nat) : State :=
  if (queueAt s qn).qfault || (queueAt s qn).depth = 0 then s else
  let s := setQueue s qn (fun q => { q with qfault := true })
  let s := setUnitStat s (.part larderPart) (fun u => { u with fault := true })
  raiseEvent s [(queueOwner s qn).getD 0] 6 (.part larderPart) (stFault .error) []

/-- R184, R199: an error in item memory: the item at a place of a queue has a word, or a copy of its header, whose parity fails. -/
def itemError (s : State) (qn place : Nat) (hurt : Item → Item) : State :=
  setQueue s qn (fun q => { q with items := q.items.mapIdx (fun i it => if i = place then hurt it else it) })

/-- R199, R200: an error in what the Larder holds. One in a word of an item or of its header is met when the item is read. Log 27 (DEDUCED). -/
def larderError (s : State) (qn : Nat) : QueueError → State
  | .control => controlError s qn
  | .header place second => itemError s qn place (fun it => if second then { it with hdrBBad := true } else { it with hdrABad := true })
  | .payload place word => itemError s qn place (fun it =>
      if 4 * word < it.data.length then { it with parity := (it.parity ++ [word]).eraseDups } else it)

/-- R200: an error in a queue. -/
def execQueueControlError (e : LarderError) (s : State) : Host.Outcome State Fault Refusal := .next (larderError s e.queue e.error)

/-! ### Commands (R202, R203) -/

/-- R203 FENCED: the suite that owns the queue is resetting. -/
def fencedNow (s : State) (qn : Nat) : Bool := (queueAt s qn).fenced || (match queueOwner s qn with | some n => resetting s n | none => false)

/-- R203 OCCUPANCY: the events in flight, key requests and configuration requests of a queue that its engine keeps to itself. Log 28 (DESIGN CHOICE). -/
def heldItems (s : State) (qn : Nat) : Nat :=
  if 0x18 ≤ qn && qn ≤ 0x1F then inFlight s (qn - 0x18)
  else if qn = 0x38 then s.cellar.reqs.length
  else if qn = 0x39 then s.seq.reqs.length
  else 0

/-- R203: the queue descriptor. -/
def queueWords (s : State) (qn : Nat) : List (BitVec 64) :=
  let q := queueAt s qn
  [pack [(0, 16, q.depth), (16, 12, q.itemMax), (28, 8, q.grant), (36, 1, b2n q.order), (37, 1, b2n q.hdrVis), (38, 1, b2n q.wmEvent),
      (39, 5, q.fcSel), (44, 6, (queueOwner s qn).getD 0), (50, 6, q.takeSuite), (56, 1, b2n q.takeGrant), (57, 1, b2n q.high),
      (58, 1, b2n (fencedNow s qn)), (59, 1, b2n q.qfault)],
   pack [(0, 16, q.highWm), (16, 16, q.lowWm), (32, 16, satN 16 (occupancy q + heldItems s qn)), (48, 16, satN 16 (inDelivery q))],
   q.putMap,
   pack [(0, 16, q.poolFree), (16, 16, satN 16 (waiters q)), (32, 20, queueLines q)],
   pack [(0, 16, q.noCreditDrops), (16, 16, q.poisonedOut), (32, 16, q.lostItems), (48, 16, q.highRises)]]

/-- R202: a command on a queue, from the owner of the suite that the queue belongs to. -/
def onQueue (c : Cmd) (t : Target) (s : State) (run : Nat → CmdResult) : CmdResult :=
  onUnit t (· == .part larderPart) s
    (let qn := fld (c.word 2) 0 16
     match queueOwner s qn with
     | none => refuse s .range
     | some n => ownerOnly s n c (if c.arg ≠ 0 then refuse s .range else run qn))

/-- R202: QUEUE_STATUS. -/
def execQueueStatus (q : CmdQueue) (s : State) : Host.Outcome State Fault Refusal :=
  .next (unitCommand q (withCode 0x40) false (fun c t s => onQueue c t s (fun qn => { s, st := stDone, payload := queueWords s qn })) s)

/-- R202: every item that is not delivered is discarded. -/
def clearQueue (s : State) (qn : Nat) : CmdResult :=
  if (queueAt s qn).qfault then { s, st := stFault .error }
  else
    let n := ((queueAt s qn).items.filter (·.deliveredTo.isNone)).length
    { s := dropItems s qn (·.deliveredTo.isNone), st := stDone, payload := [BitVec.ofNat 64 n] }

/-- R202: QUEUE_CLEAR. -/
def execQueueClear (q : CmdQueue) (s : State) : Host.Outcome State Fault Refusal :=
  .next (unitCommand q (withCode 0x41) false (fun c t s => onQueue c t s (clearQueue s)) s)

end Sys2Proof.Machine
end

