-- ==== Sys2Proof/Machine/Switch.lean ====
section
/-! DEFINITION. The port switch: its tables and their epochs, ingress, transmit queues and the quiet floor (R255 to R265, R270,
R276). -/

namespace Sys2Proof.Machine
open Sys2Proof

/-! ### CFG_FWD (R256, R257) -/

/-- R256: INDEX lies in its table. -/
def fwdIndexOk (table index : Nat) : Bool :=
  match table with
  | 0 | 3 => true
  | 1 => index < 1024
  | 2 => index < 4096
  | 4 => index < 64
  | 7 => index < 4
  | _ => false

/-- R257: a group of which a part has been written. -/
def groupWritten (sw : PortSwitch) (g : Nat) : Bool := sw.groups.any (fun e => e.1 / 4 == g)

/-- R256 DEST: a port, or a written group. -/
def destKnown (sw : PortSwitch) (d : Nat) : Bool := d ≤ 194 || (256 ≤ d && d ≤ 511 && groupWritten sw (d - 256))

/-- R160: a VLAN of a suite's set; suite 0 may use any. Log 60 (DEDUCED). -/
def vlanAllowed (s : State) (n v : Nat) : Bool :=
  n == 0 || (v != 0 && (suiteAt s n).vlanFirst ≤ v && v < (suiteAt s n).vlanFirst + (suiteAt s n).vlanCount)

/-- R256: the forwarding entry of a request. -/
def fwdEntryOf (r : CfgReq) : FwdEntry :=
  { dest := fld (r.word 2) 19 9, mac := fld (r.word 3) 0 48, vlan := fld (r.word 3) 48 12 }

/-- R256: the classification entry of a request. -/
def classOf (r : CfgReq) : ClassEntry :=
  let a := r.word 2
  let b := r.word 3
  { action := match fld a 19 2 with | 0 => .drop | 1 => .queue | 2 => .points | _ => .forward
    suite := fld a 21 6, prio := fld a 27 3, queue := fld a 30 16, pmapCount := fld a 46 8
    port := fld b 0 8, vlan := fld b 8 12, ethertype := fld b 20 16, srcLo := fld b 36 16, srcMatch := bitAt b 52 }

/-- R256: the point map entry of a request. -/
def pmapOf (r : CfgReq) : PmapEntry :=
  let el := fld (r.word 2) 20 14
  let b := r.word 3
  if bitAt (r.word 2) 19 then .egress el (fld b 0 8) (fld b 8 14) else .ingress el (fld b 0 11) (bitAt b 11)

def PmapEntry.element : PmapEntry → Nat
  | .ingress e _ _ => e
  | .egress e _ _ => e

def PmapEntry.isEgress : PmapEntry → Bool
  | .ingress _ _ _ => false
  | .egress _ _ _ => true

/-- R256: a field of a point map entry is in range. -/
def pmapFieldsOk : PmapEntry → Bool
  | .ingress e _ _ => isGeneral e
  | .egress e port _ => isGeneral e && port ≤ 191

/-- R257: an element may have several ingress entries, or one egress entry and no other. -/
def pmapClash (sw : PortSwitch) (index : Nat) (m : PmapEntry) : Bool :=
  sw.pmap.any (fun e => e.1 != index && e.2.element == m.element && (m.isEgress || e.2.isEgress))

/-- The ingress entries that a classification entry with action POINTS names (R259). Log 60 (DEDUCED). -/
def pmapRange (sw : PortSwitch) (c : ClassEntry) : List (Nat × Nat × Bool) :=
  (rangeFrom c.queue c.pmapCount).filterMap (fun i => match tlook sw.pmap i with
    | some (.ingress e off big) => some (e, off, big)
    | _ => none)

/-- R256, R257: a classification entry whose fields are in range. -/
def classFieldsOk (s : State) (c : ClassEntry) : Bool :=
  (c.port ≤ 194 || c.port == 0xFF) && (c.action != .points || (1 ≤ c.pmapCount && c.queue ≤ 16383)) && vlanAllowed s c.suite c.vlan

/-- R256: the bits of words 2 and 3 that a write's table does not name are zero. -/
def fwdUnnamedZero (table index : Nat) (r : CfgReq) : Bool :=
  let a := (r.word 2).toNat
  let b := (r.word 3).toNat
  match table with
  | 0 => a < 2 ^ 28 && b < 2 ^ 60
  | 1 => a < 2 ^ 19
  | 2 => a < 2 ^ 54 && b < 2 ^ 53
  | 3 => a < 2 ^ 34 && b < (if bitAt (r.word 2) 19 then 2 ^ 22 else 2 ^ 12)
  | 4 => a < 2 ^ 35 && b == 0
  | _ => a < 2 ^ 19 && b < (if index = 0 then 2 ^ 48 else 2 ^ 32)

/-- R257, the first case: whether a request is free of it; R256 has the unnamed bits zero. Log 24 (DEDUCED). -/
def fwdInRange (s : State) (sw : PortSwitch) (table index : Nat) (r : CfgReq) : Bool :=
  fwdUnnamedZero table index r && match table with
  | 0 => destKnown sw (fwdEntryOf r).dest
  | 1 => index % 4 != 3 || (r.word 3).toNat < 8
  | 2 => classFieldsOk s (classOf r)
  | 3 => pmapFieldsOk (pmapOf r) && !pmapClash sw index (pmapOf r)
  | 4 => let q := fld (r.word 2) 19 16
    q == 0 || ((suiteAt s index).queueFirst ≤ q && q < (suiteAt s index).queueFirst + (suiteAt s index).queueCount)
  | _ => index != 3 || (1 ≤ fld (r.word 3) 16 16 && fld (r.word 3) 16 16 ≤ 1000)

/-- R257, the second case: a queue or a point of another suite. -/
def fwdForeign (s : State) (sw : PortSwitch) (table : Nat) (r : CfgReq) : Bool :=
  table == 2 && (let c := classOf r
    match c.action with
    | .queue => queueOwner s c.queue != some c.suite
    | .points => (pmapRange sw c).any (fun m => (pointCfg s m.1).owner != c.suite)
    | _ => false)

/-- R257, the third case, of a write and of an invalidation. -/
def fwdBusy (s : State) (sw : PortSwitch) (clear : Bool) (table index : Nat) (r : CfgReq) : Bool :=
  match table with
  | 2 => !clear && resetting s (classOf r).suite
  | 3 => clear && (match tlook sw.pmap index with
    | some m => !(listingSuites s m.element).isEmpty
    | none => false)
  | 4 => resetting s index
  | _ => false

/-- The tables with a write installed. -/
def installTables (sw : PortSwitch) (w : TableWrite) : PortSwitch :=
  match w.table with
  | 0 => { sw with fwd := match w.fwd with | some e => tput sw.fwd w.index e | none => tdel sw.fwd w.index }
  | 1 => { sw with groups := match w.group with | some e => tput sw.groups w.index e | none => tdel sw.groups w.index }
  | 2 => { sw with classes := match w.cls with | some e => tput sw.classes w.index e | none => tdel sw.classes w.index }
  | _ => { sw with pmap := match w.pmap with | some e => tput sw.pmap w.index e | none => tdel sw.pmap w.index }

/-- The tables with every accepted write installed, against which a further request is checked. Log 57 (DEDUCED). -/
def acceptedTables (s : State) : PortSwitch := s.sw.waiting.foldl installTables s.sw

/-- The table write of a request. Log 57 (DEDUCED). -/
def tableWrite (clear : Bool) (table index : Nat) (r : CfgReq) : TableWrite :=
  { table, index, req := r, nofence := bitAt (r.word 1) 48
    fwd := if clear || table != 0 then none else some (fwdEntryOf r)
    group := if clear || table != 1 then none else some (r.word 3)
    cls := if clear || table != 2 then none else some (classOf r)
    pmap := if clear || table != 3 then none else some (pmapOf r) }

/-- R256, R444 TXQ: a suite's transmit queue, which the port switch consumes, and to which it attaches. Log 27 (DEDUCED). -/
def setTxq (s : State) (n q : Nat) : State :=
  let old := tget 0 s.sw.txq n
  directSwitch (moveConsumer { s with sw := { s.sw with txq := tset 0 s.sw.txq n q } } old q switchPart) old q

/-- R256 GLOBAL. -/
def setGlobal (s : State) (index : Nat) (v : BitVec 64) : State :=
  match index with
  | 0 => { s with sw := { s.sw with macBase := fld v 0 48 } }
  | 1 => budgetWritten { s with sw := { s.sw with railA := fld v 0 32 } } false
  | 2 => budgetWritten { s with sw := { s.sw with railB := fld v 0 32 } } true
  | _ => { s with sw := { s.sw with idleMin := fld v 0 16, agreeWait := fld v 16 16 } }

/-- R257, R258: an accepted request: TXQ and GLOBAL act at once, a write of the other tables waits to be installed. -/
def acceptFwd (clear : Bool) (table index : Nat) (r : CfgReq) (s : State) : CfgOut :=
  match table with
  | 4 => cfgDone (setTxq s index (if clear then 0 else fld (r.word 2) 19 16))
  | 7 => cfgDone (setGlobal s index (r.word 3))
  | _ => .waits { s with
      sw := { s.sw with waiting := s.sw.waiting ++ [tableWrite clear table index r] }
      seq := { s.seq with waiting := s.seq.waiting ++ [{ req := r, epoch := some s.sw.epoch }] } }

/-- R256, R257: CFG_FWD on the port switch: the first case of the table that applies decides. Log 57 (DEDUCED). -/
def configureFwd (clear : Bool) (r : CfgReq) (s : State) : CfgOut :=
  cfgUnitOnly r s (· == engineUnit 6) (fun _ =>
    let table := fld (r.word 2) 0 3
    let index := fld (r.word 2) 5 14
    let sw := acceptedTables s
    if 1 < fld (r.word 2) 3 2 || !fwdIndexOk table index || (clear && table == 7) then cfgDeny s (stFault .range)
    else if !clear && !fwdInRange s sw table index r then cfgDeny s (stFault .range)
    else if !clear && fwdForeign s sw table r then cfgDeny s (stRefused .threshold)
    else if fwdBusy s sw clear table index r then cfgDeny s (stRefused .state)
    else buildingCfg s (acceptFwd clear table index r s))

/-- R256: OP of a request. Log 9 (DEDUCED). -/
def fwdOp (r : CfgReq) : Nat := fld (r.word 2) 3 2

/-- R256: CFG_FWD with OP 0; one with a reserved OP is taken here and refused. -/
def execCfgFwdWrite (c : Nat) (s : State) : Host.Outcome State Fault Refusal :=
  .next (serveCfg c (fun r => cfgCode 0x08 r && fwdOp r != 1) (configureFwd false) s)

/-- R256: CFG_FWD with OP 1. -/
def execCfgFwdInvalidate (c : Nat) (s : State) : Host.Outcome State Fault Refusal :=
  .next (serveCfg c (fun r => cfgCode 0x08 r && fwdOp r == 1) (configureFwd true) s)

/-! ### Epochs (R258) -/

/-- R258: the oldest waiting write is installed, unless two epochs are live. Log 57 (DEDUCED). -/
def installNext (s : State) : State :=
  match s.sw.waiting with
  | [] => s
  | w :: rest =>
    if s.sw.draining then s else
    let old := match tlook s.sw.classes w.index with | some e => if w.table == 2 && e.action == .queue then e.queue else 0 | none => 0
    let new := match w.cls with | some e => if e.action == .queue then e.queue else 0 | none => 0
    let sw := installTables s.sw w
    let s := { s with sw := { sw with waiting := rest, epoch := (sw.epoch + 1) % 2 ^ 32, draining := true } }
    let s := directSwitch s old new
    if w.nofence then endWaiting w.req { cls := .done, reason := .unfenced } s
    else { s with sw := { s.sw with drainReqs := s.sw.drainReqs ++ [w.req] } }

/-- R258: a table write is installed at its instant. -/
def execEpochInstall (s : State) : Host.Outcome State Fault Refusal := .next (installNext s)

/-- R258: every frame of the old epoch has completed. Log 58 (DESIGN CHOICE). -/
def epochOver (s : State) : State :=
  if !s.sw.draining then s else
  let reqs := s.sw.drainReqs
  reqs.foldl (fun s r => endWaiting r stDone s) { s with sw := { s.sw with draining := false, drainReqs := [] } }

/-- R258: the old epoch has drained. -/
def execEpochDrained (s : State) : Host.Outcome State Fault Refusal := .next (epochOver s)

/-! ### Frames as bytes, copies -/

/-- The `n` bytes of a number, highest first, as Ethernet sends them. -/
def bytesBig (n v : Nat) : List Byte := (bytesOf n v).reverse

/-- A frame from its destination MAC, tag included, without FCS. Log 64 (DEDUCED). -/
def frameBytes (f : Frame) : List Byte :=
  bytesBig 6 f.dst ++ bytesBig 6 f.src ++ (match f.tag with | some t => bytesBig 2 0x8100 ++ bytesBig 2 t | none => []) ++
    bytesBig 2 f.ethertype ++ f.payload

/-- The number that `n` bytes from an offset spell, highest first; bytes beyond the end read as zero. -/
def bigAt (bs : List Byte) (off n : Nat) : Nat := (rangeFrom off n).foldl (fun acc i => acc * 256 + (bs.getD i 0).toNat) 0

/-- The frame that bytes spell. Log 59 (DEDUCED). -/
def frameOf (bs : List Byte) : Frame :=
  if bigAt bs 12 2 = 0x8100 then
    { dst := bigAt bs 0 6, src := bigAt bs 6 6, tag := some (bigAt bs 14 2), ethertype := bigAt bs 16 2, payload := bs.drop 18 }
  else { dst := bigAt bs 0 6, src := bigAt bs 6 6, tag := none, ethertype := bigAt bs 12 2, payload := bs.drop 14 }

/-- R245: the VLAN of a frame at a port: its tag's, or PVID of the port where it is untagged or priority-tagged. -/
def vlanAt (s : State) (p : Nat) (f : Frame) : Nat :=
  match f.tag with
  | some t => if t % 4096 = 0 then (portAt s p).cfg.pvid else t % 4096
  | none => (portAt s p).cfg.pvid

/-- R245: a copy of a frame as it leaves a port, tagged or not by TAG_EGRESS. Log 59 (DEDUCED). -/
def egressCopy (s : State) (p vlan : Nat) (f : Frame) : Frame :=
  { f with tag := if (portAt s p).cfg.tagEgress then some ((match f.tag with | some t => t / 4096 * 4096 | none => 0) + vlan) else none }

/-- R262, R275: a copy is offered to one port: a field port's buffer, or EGRESS_QUEUE of an uplink or SVC. Log 59 (DEDUCED). -/
def offerCopy (s : State) (p suite : Nat) (f : Frame) : State × Bool :=
  if s.twin.role = .standby then (s, false)
  else if p < 192 then
    if !canTake s p f then (s, false) else
    let nf := newFrameId s
    enterEgress nf.1 p { id := nf.2, cls := .other, frame := f }
  else putItem s (tget {} s.uplinks (p - 192)).cfg.egressQueue (.engine switchPart) suite 0 0 false (frameBytes f)

/-- R262: copies for several ports: those that were taken. A copy that was not counts in TX_MC_MISS; a frame for one field port
whose link is down is discarded there (R248). Log 59 (DEDUCED). -/
def sendCopies (s : State) (suite : Nat) (f : Frame) (targets : List (Nat × Nat)) : State × List Nat :=
  targets.foldl (fun acc t =>
    let r := offerCopy acc.1 t.1 suite (egressCopy acc.1 t.1 t.2 f)
    if r.2 then (r.1, acc.2 ++ [t.1])
    else if targets.length = 1 && t.1 < 192 && (portAt r.1 t.1).link != 2 then (countPort r.1 t.1 true 18 1, acc.2)
    else (countPort r.1 t.1 true 17 1, acc.2)) (s, [])

/-- Every port of the port switch. -/
def allPorts : List Nat := List.range 195

/-- R256: the ports that a DEST names. -/
def destPorts (s : State) (d : Nat) : List Nat :=
  if d ≤ 194 then [d] else allPorts.filter (fun p => bitAt (tget 0 s.sw.groups ((d - 256) * 4 + p / 64)) (p % 64))

/-- R255 step 2: the forwarding entry of a destination and a VLAN. -/
def forward (s : State) (mac vlan : Nat) : Option Nat :=
  (s.sw.fwd.find? (fun e => e.2.mac == mac && e.2.vlan == vlan)).map (·.2.dest)

/-! ### Ingress (R255, R259, R276) -/

/-- R255 step 1: an entry's key matches a frame. -/
def classMatches (e : ClassEntry) (f : RxFrame) (vlan : Nat) : Bool :=
  (e.port == 0xFF || e.port == f.port) && (e.vlan == 0 || e.vlan == vlan) && (e.ethertype == 0 || e.ethertype == f.frame.ethertype) &&
    (!e.srcMatch || e.srcLo == f.frame.src % 2 ^ 16)

/-- R255 step 1: the entry that decides. -/
def classify (s : State) (f : RxFrame) (vlan : Nat) : Option ClassEntry :=
  (s.sw.classes.find? (fun e => classMatches e.2 f vlan)).map (·.2)

/-- R281: the timestamp of a frame, with RX_ADJ_PS of an uplink or SVC in whole ns. Log 61 (DEDUCED). -/
def ingressTime (s : State) (f : RxFrame) : Time80 :=
  if f.port < 192 then f.sfd else taddNs f.sfd ((tget {} s.uplinks (f.port - 192)).cfg.rxAdjPs / 1000)

/-- R276: the receive prefix and the frame. -/
def receivedItem (s : State) (f : RxFrame) (vlan : Nat) : List Byte :=
  let t := ingressTime s f
  wordBytes [nowForm t, pack [(0, 16, secHi t), (16, 9, f.port), (25, 1, b2n f.tsValid), (26, 1, b2n f.frame.tag.isSome), (27, 12, vlan)]] ++
    frameBytes f.frame

/-- R255, R276: a frame is entered into a queue. -/
def queueFrame (s : State) (q suite prio : Nat) (f : RxFrame) (vlan : Nat) : State :=
  let r := putItem s q (.engine switchPart) suite 0 prio false (receivedItem s f vlan)
  countPort r.1 f.port false (if r.2 then 21 else 23) 1

/-- R204: the unclassified ingress queue of a source. -/
def unclassified (p : Nat) : Nat := if p < 192 then 0x40 + p / 48 else 0x44 + (p - 192)

/-- R259: the bytes of a value. -/
def valueBytes (ty : Nat) : Nat :=
  if ty = tyBool then 1 else if ty = tyInt32 || ty = tyUint32 || ty = tyReal32 then 4 else if ty = tyQ15 then 2 else if ty = tyTime80 then 10 else 8

/-- R259: the value at an offset of a payload; none where it is not written. -/
def ingressValue (ty off : Nat) (big : Bool) (payload : List Byte) : Option PointVal :=
  let n := valueBytes ty
  let bs := (payload.drop off).take n
  if bs.length < n then none else
  let v := natOf (if big then bs.reverse else bs)
  if ty = tyTime80 then
    (if giga ≤ v % 2 ^ 32 then none else some { v := BitVec.ofNat 64 v, hi := BitVec.ofNat 16 (v / 2 ^ 64) })
  else some { v := canonValue ty (BitVec.ofNat 64 v) }

/-- R259: one value of a frame; whether it was written. The Threshold refuses a point of another suite, and every write of a suite
that is RESETTING (R171). Log 19 (DEDUCED), 60 (DEDUCED), 62 (DEDUCED). -/
def writeIngress (s : State) (suite port : Nat) (payload : List Byte) (m : Nat × Nat × Bool) : State × Bool :=
  match ingressValue (pointCfg s m.1).type m.2.1 m.2.2 payload with
  | none => (s, false)
  | some v =>
    if (pointCfg s m.1).owner != suite || resetting s suite then (countThreshold (countPort s port false 25 1) suite, false)
    else (mirror (setPoint s m.1 v) (.points [(m.1, v)]), true)

/-- R259: a frame whose values go to the point image. Log 62 (DEDUCED). -/
def ingressPoints (s : State) (e : ClassEntry) (f : RxFrame) : State :=
  let r := (pmapRange s.sw e).foldl (fun acc m =>
    let w := writeIngress acc.1 e.suite f.port f.frame.payload m
    (w.1, acc.2 || w.2)) (s, false)
  if r.2 then countPort r.1 f.port false 20 1 else r.1

/-- R255 steps 2 and 3: a frame is forwarded, flooded, or goes to the unclassified queue. -/
def forwardFrame (s : State) (f : RxFrame) (vlan : Nat) : State :=
  let target := fun (l : List Nat) => (l.filter (· != f.port)).map (fun p => (p, vlan))
  match forward s f.frame.dst vlan with
  | some d => (sendCopies s 0 f.frame (target (destPorts s d))).1
  | none =>
    let s := if f.frame.dst / 2 ^ 40 % 2 = 1 then (sendCopies s 0 f.frame (target (allPorts.filter (fun p => (portAt s p).cfg.pvid == vlan)))).1 else s
    queueFrame s (unclassified f.port) 0 0 f vlan

/-- R255: the port switch handles one frame. -/
def handleFrame (s : State) (f : RxFrame) : State :=
  let vlan := vlanAt s f.port f.frame
  match classify s f vlan with
  | none => forwardFrame s f vlan
  | some e => match e.action with
    | .drop => countPort s f.port false 22 1
    | .queue => queueFrame s e.queue e.suite e.prio f vlan
    | .points => ingressPoints s e f
    | .forward => forwardFrame s f vlan

/-- R255: the oldest frame that reached the switch. Log 58 (DESIGN CHOICE). -/
def switchIngress (s : State) : State :=
  match s.sw.ingress with
  | [] => s
  | f :: rest => handleFrame { s with sw := { s.sw with ingress := rest } } f

/-- R255: the port switch handles an ingress frame. -/
def execPortSwitchIngress (s : State) : Host.Outcome State Fault Refusal := .next (clocked s (switchIngress s))

/-! ### Transmit queues (R261, R262) -/

/-- R195: the item that an engine takes next from a queue it consumes. -/
def engineHead (s : State) (qn : Nat) (p : Part) : Option Item :=
  if (queueAt s qn).consumer = some (.engine p) && !(queueAt s qn).qfault then headItem (queueAt s qn) else none

/-- R199, R200: an engine reads the head of a queue that it consumes. -/
def engineReads (s : State) (qn : Nat) (p : Part) : State := if (engineHead s qn p).isSome then readHead s qn else s

/-- R261: the VLAN that a frame's own tag gives it. -/
def taggedVlan (f : Frame) : Option Nat := match f.tag with
  | some t => if t % 4096 = 0 then none else some (t % 4096)
  | none => none

/-- R261: the FWD hit of a transmit item's frame. One without a VLAN of its own has the PVID of each target, so it hits an entry by a
target that has the entry's VLAN, and an entry without a target by its MAC alone. Log 59 (DEDUCED). -/
def transmitHit (s : State) (f : Frame) : Option Nat := match taggedVlan f with
  | some v => forward s f.dst v
  | none =>
    let own := s.sw.fwd.filter (fun e => e.2.mac == f.dst)
    let byTarget := own.find? (fun e => (destPorts s e.2.dest).any (fun p => (portAt s p).cfg.pvid == e.2.vlan))
    (byTarget.orElse (fun _ => own.find? (fun e => (destPorts s e.2.dest).isEmpty))).map (·.2.dest)

/-- R261: the ports that a transmit item's frame goes to; R255 step 3 where it is flooded. Log 59 (DEDUCED). -/
def transmitPorts (s : State) (dest : Nat) (f : Frame) : List Nat :=
  if dest ≠ 512 then destPorts s dest else
  match transmitHit s f, taggedVlan f with
  | some d, _ => destPorts s d
  | none, some v => allPorts.filter (fun p => (portAt s p).cfg.pvid == v)
  | none, none => allPorts

/-- R261: a frame's VLAN lies outside a suite's set: its tag's, or else that of a target. -/
def vlanForeign (s : State) (suite : Nat) (f : Frame) (ports : List Nat) : Bool := match taggedVlan f with
  | some v => !vlanAllowed s suite v
  | none => ports.any (fun p => !vlanAllowed s suite (portAt s p).cfg.pvid)

/-- R262: the delivery bitmap. Log 59 (DEDUCED). -/
def bitmapWords (n : Nat) (ports : List Nat) : List (BitVec 64) :=
  (List.range n).map (fun w => pack (((List.range 64).map (fun b => (b, 1, b2n (ports.contains (64 * w + b)))))))

/-- R262: the status of a frame for several ports. Log 59 (DEDUCED). -/
def copiesStatus (targets taken : Nat) : Status := if taken = 0 then stRefused .link else if taken = targets then stDone else stPartial

/-- R261: the frame of a transmit item: what became of it, and the ports that took it. Log 59 (DEDUCED). -/
def transmitFrame (s : State) (suite dest : Nat) (bs : List Byte) : State × Status × List Nat :=
  let f := frameOf bs
  let ports := transmitPorts s dest f
  if (195 ≤ dest && dest ≤ 255) || 513 ≤ dest then (s, stRefused .range, [])
  else if vlanForeign s suite f ports then (countThreshold s suite, stRefused .threshold, [])
  else if 1532 < bs.length then (s, stRefused .size, [])
  else if 256 ≤ dest && dest ≤ 511 && !destKnown s.sw dest then (s, stRefused .range, [])
  else
    let r := sendCopies s suite f (ports.map (fun p => (p, vlanAt s p f)))
    (r.1, copiesStatus ports.length r.2.length, r.2)

/-- R261, R262: the port switch takes an item of a suite's transmit queue. Log 58 (DESIGN CHOICE). -/
def transmit (suite : Nat) (s : State) : State :=
  let qn := tget 0 s.sw.txq suite
  if qn = 0 || resetting s suite then s else
  let s := engineReads s qn switchPart
  match engineHead s qn switchPart with
  | none => s
  | some it =>
    let w := wordAt it.data 0
    let r := transmitFrame s suite (fld w 0 10) (it.data.drop 8)
    let s := ackItem r.1 qn it.seq
    let done : Completion := { st := r.2.1, major := 0x42, fn := 0x05, tag := fld w 26 16, suite := it.srcSuite }
    sendCompletion s (fld w 10 16) none { done with result := BitVec.ofNat 64 r.2.2.length, payload := bitmapWords 4 r.2.2 }

/-- R261: a transmit item. -/
def execTransmitItem (suite : Nat) (s : State) : Host.Outcome State Fault Refusal := .next (clocked s (transmit suite s))

/-! ### The quiet floor (R263 to R265) -/

/-- R263 step 1: a port stays in the set. Log 63 (DEDUCED). -/
def mayQuiet (s : State) (p : Nat) : Bool :=
  let x := portAt s p
  x.link == 2 && x.eeeOn && !x.egress.any (·.started) && (match x.lastFrameTick with
    | some t => t + ticksMs s.sw.idleMin ≤ s.tick
    | none => true)

/-- R263: a quiet proposal leaves on a port. Log 63 (DEDUCED). -/
def propose (number : Nat) (tq : Time80) (s : State) (p : Nat) : State :=
  let nf := newFrameId s
  let f := portFrame s p (endpointMac s p) 0x88B5 (wordBytes (timedHeader 4 0 0 number tq 0))
  (enterEgress nf.1 p { id := nf.2, cls := .other, frame := f }).1

/-- R263: FLOOR_QUIET. Log 63 (DEDUCED). -/
def floorQuiet (c : Cmd) (t : Target) (s : State) : CmdResult :=
  onUnit t (· == engineUnit 6) s (ownerOnly s 0 c (
    if s.sw.quiet = .proposing || s.sw.quiet = .entering then refuse s .state else
    let asked := (List.range 192).filter (fun p => bitAt (c.word (2 + p / 64)) (p % 64))
    let ports := asked.filter (mayQuiet s)
    let tq := taddUs (now s) (1000 * s.sw.agreeWait)
    let number := (s.sw.transactions + 1) % 2 ^ 32
    let s := ports.foldl (propose number tq) s
    { s := { s with sw := { s.sw with
        quiet := .proposing, transactions := number
        transaction := some { number, asked, ports, agreed := [], tq, tag := c.tag, replyQueue := c.replyQueue, suite := c.suite } } }
      st := stDone, reply := false }))

/-- R263: FLOOR_QUIET. -/
def execFloorQuiet (q : CmdQueue) (s : State) : Host.Outcome State Fault Refusal := .next (unitCommand q (withCode 0x71) false floorQuiet s)

/-- R263: an endpoint answers a proposal. -/
def execQuietAnswer (port cycle : Nat) (agree : Bool) (s : State) : Host.Outcome State Fault Refusal := .next (clocked s (quietAnswer port cycle agree s))

/-- R263 step 3: the last port has entered: every port of the set is QUIET, and the command completes. -/
def quietComplete (x : Quiet) (s : State) : State :=
  let quiet := x.agreed.filter (fun p => (portAt s p).lpi)
  let stays := (lpiPorts s).any (fun p => (unitStat s (portUnit p)).state == stQuiet)
  let s := quiet.foldl (fun s p => setUnitStat s (portUnit p) (fun u => { u with state := stQuiet })) s
  let s := { s with sw := { s.sw with transaction := none, quiet := if quiet.isEmpty && !stays then .awake else .quiet } }
  let st := copiesStatus x.asked.length quiet.length
  let payload := if st = stPartial then bitmapWords 3 quiet else []
  let s := setUnitStat s (engineUnit 6) (fun u => { u with lastStatus := st })
  let s := recordReply s (engineUnit 6) (unitAddr s (engineUnit 6)) x.tag x.replyQueue 0x71 st payload
  sendCompletion s x.replyQueue none { st, fn := 0x71, tag := x.tag, suite := x.suite, payload }

/-- R263 step 3, R264: from Tq on, the next port of the set enters LPI. The transaction has completed once the instant of the last entry is
past, before which a wake still comes. -/
def quietEntry (s : State) : State :=
  match s.sw.transaction with
  | none => s
  | some x =>
    if !reached (now s) x.tq then s else
    let left := if s.sw.quiet = .entering then x.ports else x.agreed
    match left with
    | [] => if s.sw.quiet = .entering && s.tick = x.entered then s else quietComplete x s
    | p :: rest =>
      let s := if (portAt s p).link = 2 && (portAt s p).eeeOn && !(portAt s p).lpi then enterLpi s p else s
      { s with sw := { s.sw with quiet := .entering, transaction := some { x with ports := rest, entered := s.tick } } }

/-- R263: a port enters LPI. -/
def execQuietEntry (s : State) : Host.Outcome State Fault Refusal := .next (clocked s (quietEntry s))

/-- R265: FLOOR_WAKE. -/
def floorWake (c : Cmd) (t : Target) (s : State) : CmdResult :=
  onUnit t (· == engineUnit 6) s (
    if !(suiteAt s c.suite).enabled then refuseOwner s c.suite c else
    ownerOnly s c.suite c (if s.sw.quiet = .awake then refuse s .state else { s := wakeFloor s, st := stDone }))

/-- R265: FLOOR_WAKE. -/
def execFloorWake (q : CmdQueue) (s : State) : Host.Outcome State Fault Refusal := .next (unitCommand q (withCode 0x72) false floorWake s)

/-! ### Status (R270) -/

/-- R270: status words 1 to 3 of the port switch. -/
def switchStatus (s : State) : List (BitVec 64) :=
  let waiting := (s.ports.filter (fun e => e.2.pse == .waitBudget)).length
  [pack [(0, 32, s.sw.epoch), (32, 1, b2n s.sw.draining), (33, 2, s.sw.quiet.ctorIdx)],
   pack [(0, 32, railUsed s false), (32, 32, railUsed s true)],
   pack [(0, 16, waiting), (16, 16, s.sw.quietAborts)]]

end Sys2Proof.Machine
end

