-- ==== Sys2Proof/Machine/Uplinks.lean ====
section
/-! DEFINITION. Uplinks and SVC: configuration, egress, the rate governor and timed launch (R271 to R281, R287, R288). -/

namespace Sys2Proof.Machine
open Sys2Proof

/-- The further state of UL0, UL1 or SVC; `i` is the instance of part class 2. -/
def uplinkAt (s : State) (i : Nat) : Uplink := tget {} s.uplinks i

def setUplink (s : State) (i : Nat) (f : Uplink → Uplink) : State := { s with uplinks := tmod {} s.uplinks i f }

/-- The MAC of an uplink or SVC as an engine (R275). -/
def uplinkPart (i : Nat) : Part := { cls := 2, inst := i }

/-! ### CFG_UPLINK (R273, R274) -/

/-- R273: the uplink's own fields. Log 67 (DEDUCED). -/
def uplinkFields (r : CfgReq) : UplinkCfg :=
  let a := r.word 2
  { mode := fld a 0 2, mediumCr := bitAt a 2, adv := BitVec.ofNat 4 (fld a 3 4), forcedRate := fld a 7 3
    fecAllow := BitVec.ofNat 2 (fld a 10 2), govEn := bitAt a 12, govFloor := fld a 13 3, govCeil := fld a 16 3
    svc1000x := bitAt a 45, egressQueue := fld (r.word 3) 32 16, rxAdjPs := sfld (r.word 4) 0 32, txAdjPs := sfld (r.word 4) 32 32
    launchQueue := fld (r.word 5) 0 16 }

/-- R273: the fields that an uplink shares with a field port. -/
def uplinkPortFields (r : CfgReq) : PortCfg :=
  let a := r.word 2
  let b := r.word 3
  { mode := fld a 0 2, pauseTx := bitAt a 19, pauseRx := bitAt a 20, tagEgress := bitAt a 21, pvid := fld a 22 12, maxFrame := fld a 34 11
    pauseQueue := fld b 0 16, pauseQuanta := fld b 16 16, statsQueue := fld b 48 16 }

/-- R271, R272: a rate code is one of the port's. -/
def rateOf (i code : Nat) : Bool := if i = 2 then code == 5 || code == 6 || code == 1 else 1 ≤ code && code ≤ 4

/-- R273: an adjustment within ±1,000,000 ps. -/
def adjOk (x : Int) : Bool := decide (-1000000 ≤ x) && decide (x ≤ 1000000)

/-- R274: the cases that fault. Log 67 (DEDUCED). -/
def uplinkOk (i : Nat) (u : UplinkCfg) (c : PortCfg) : Bool :=
  u.mode ≤ 2 && macFieldsOk c && adjOk u.rxAdjPs && adjOk u.txAdjPs && u.govFloor ≤ u.govCeil &&
    (if i = 2 then !u.mediumCr && u.adv == 0 && !u.govEn
      else !u.svc1000x && (u.mode != 1 || u.adv != 0) && 1 ≤ u.govFloor && u.govCeil ≤ 4) &&
    ((u.mode != 2 && u.forcedRate == 0) || rateOf i u.forcedRate) && (u.mode == 0 || u.egressQueue != 0) &&
    (u.egressQueue == 0 || !fixedQueue u.egressQueue) && (u.launchQueue == 0 || !fixedQueue u.launchQueue)

/-- R274: a change that restarts negotiation. -/
def renegotiates (a b : UplinkCfg) : Bool :=
  a.mode != b.mode || a.mediumCr != b.mediumCr || a.adv != b.adv || a.forcedRate != b.forcedRate || a.fecAllow != b.fecAllow ||
    a.svc1000x != b.svc1000x

/-- The link of an uplink or SVC goes back to negotiation, or down with a disabled port; a rate step in progress ends. -/
def renegotiate (s : State) (i : Nat) : State :=
  let s := retrain s (192 + i) ((uplinkAt s i).cfg.mode != 0)
  setUplink s i (fun u => { u with rate := 0, fec := 0, lpAdv := 0, lowRun := 0, gov := if u.gov = 3 then 3 else 0 })

/-- GOV of a port whose step or suspension is not in progress. -/
def govNow (s : State) (i : Nat) (u : Uplink) : Nat :=
  if u.gov = 2 || u.gov = 3 then u.gov else if u.cfg.govEn && (portAt s (192 + i)).link == 2 then 1 else 0

/-- R273, R274: a configuration is applied. -/
def applyUplink (s : State) (i : Nat) (new : UplinkCfg) (c : PortCfg) : State :=
  let old := (uplinkAt s i).cfg
  let was := (portAt s (192 + i)).cfg
  let s := setPort s (192 + i) (fun x => { x with
    cfg := c, halfPending := x.halfPending && c.statsQueue != 0, pausing := x.pausing && c.pauseTx && c.pauseQueue == was.pauseQueue })
  let s := setUplink s i (fun u => { u with cfg := new, lowRun := 0 })
  let s := directSwitch (directSwitch s was.statsQueue c.statsQueue) old.egressQueue new.egressQueue
  let s := moveConsumer s old.egressQueue new.egressQueue (uplinkPart i)
  let s := moveConsumer s old.launchQueue new.launchQueue switchPart
  let s := if renegotiates old new then renegotiate s i else s
  setUplink s i (fun u => { u with gov := govNow s i u })

/-- R273: CFG_UPLINK. -/
def configureUplink (r : CfgReq) (s : State) : CfgOut :=
  buildingCfg s (cfgUnitOnly r s (fun u => match u with | .part p => p.cls == 2 | _ => false) (fun u =>
    let i := (unitPort u).getD 192 - 192
    if !uplinkOk i (uplinkFields r) (uplinkPortFields r) then cfgDeny s (stFault .range)
    else cfgDone (applyUplink s i (uplinkFields r) (uplinkPortFields r))))

/-- R273: CFG_UPLINK. -/
def execCfgUplink (c : Nat) (s : State) : Host.Outcome State Fault Refusal := .next (serveCfg c (cfgCode 0x09) configureUplink s)

/-! ### Egress (R275) -/

/-- The ps that a frame of `n` bytes, from its destination MAC without FCS, takes on a port with its inter-frame gap. -/
def framePs (s : State) (p n : Nat) : Nat := (8 + max 64 (n + 4) + 12) * 8 * bitPs s p

/-- R288: while a launch is pending, a frame that would not end before it does not start. -/
def launchBlocks (s : State) (i n : Nat) : Bool :=
  match (uplinkAt s i).launch with
  | some l => l.now || decide (tdiff l.at80 (now s) * 1000 < (framePs s (192 + i) n : Nat))
  | none => false

/-- R275: the MAC sends the next item of EGRESS_QUEUE, and acknowledges it. -/
def uplinkEgress (p : Nat) (s : State) : State :=
  let i := p - 192
  let qn := (uplinkAt s i).cfg.egressQueue
  if p < 192 || 194 < p || qn = 0 || (portAt s p).link ≠ 2 || (portAt s p).pausedUntil.isSome then s else
  let r := engineReads s qn (uplinkPart i)
  match engineHead r qn (uplinkPart i) with
  | none => s
  | some it => if launchBlocks s i it.data.length then s else ackItem (setPort (countSent r p (frameOf it.data)) p (fun x => { x with lastFrameTick := some s.tick })) qn it.seq

/-- R275: an uplink or SVC sends a frame. -/
def execUplinkEgress (port : Nat) (s : State) : Host.Outcome State Fault Refusal := .next (clocked s (uplinkEgress port s))

/-! ### The rate governor (R279, R280) -/

/-- R271: bits per second of a rate code. -/
def rateBps (code : Nat) : Nat := [0, 1000000000, 2500000000, 10000000000, 25000000000].getD code 0

/-- R279: the allowed rates, in ascending order. -/
def allowedRates (u : Uplink) : List Nat :=
  (rangeFrom 1 4).filter (fun c => u.cfg.adv.getLsbD (c - 1) && u.lpAdv.getLsbD (c - 1) && u.cfg.govFloor ≤ c && c ≤ u.cfg.govCeil)

/-- R280 steps 1, 2: a step begins. -/
def beginStep (s : State) (i target : Nat) (up : Bool) : State :=
  let s := dropLink s (192 + i) 1
  setUplink s i (fun u => { u with gov := 2, rate := 0, fec := 0, lowRun := 0, stepTo := target, stepUp := up, stepTick := s.tick })

/-- The octets of the larger direction since a reading of the two octet counters. -/
def octetsSince (s : State) (p : Nat) (from' : Nat × Nat) : Nat :=
  let x := portAt s p
  max ((tget 0 x.rx 0 + 2 ^ 32 - from'.1) % 2 ^ 32) ((tget 0 x.tx 0 + 2 ^ 32 - from'.2) % 2 ^ 32)

/-- R279: a window of 100 ms, or with `short` of 1 ms, has ended: the load is the bits counted in it over its length. -/
def governorWindow (p : Nat) (short : Bool) (s : State) : State :=
  let i := p - 192
  if p < 192 || 193 < p then s else
  let u := uplinkAt s i
  let x := portAt s p
  let ticks := s.tick - (if short then u.shortTick else u.windowTick)
  if ticks < ticksMs (if short then 1 else 100) then s else
  -- 8 bits an octet, over windows of 8 ns ticks
  let load := giga * octetsSince s p (if short then u.shortOctets else u.windowOctets)
  let here := (tget 0 x.rx 0, tget 0 x.tx 0)
  let s := setUplink s i (fun u => if short then { u with shortOctets := here, shortTick := s.tick } else { u with windowOctets := here, windowTick := s.tick })
  if u.gov ≠ 1 || x.link ≠ 2 then s else
  let allowed := allowedRates u
  if short then
    match allowed.getLast? with
    | some top => if u.rate < top && 60 * rateBps u.rate * ticks < 100 * load then beginStep s i top true else s
    | none => s
  else
    match (allowed.filter (· < u.rate)).getLast? with
    | some below =>
      if 100 * load < 4 * rateBps below * ticks then
        if u.lowRun + 1 = 600 then beginStep s i below false else setUplink s i (fun u => { u with lowRun := u.lowRun + 1 })
      else setUplink s i (fun u => { u with lowRun := 0 })
    | none => setUplink s i (fun u => { u with lowRun := 0 })

/-- R279: the governor judges a window. -/
def execGovernorWindow (port : Nat) (short : Bool) (s : State) : Host.Outcome State Fault Refusal := .next (clocked s (governorWindow port short s))

/-- R280 step 3: the link is up at the target rate, with the FEC that both ends advertise for it. Log 67 (DEDUCED). -/
def stepDone (p : Nat) (s : State) : State :=
  let i := p - 192
  let u := uplinkAt s i
  if p < 192 || 193 < p || u.gov ≠ 2 || u.stepTick + ticksMs 40 < s.tick then s else
  let s := setPort (launchMissed s i) p (fun x => { x with link := 2 })
  setUplink s i (fun u => { u with
    gov := if u.cfg.govEn then 1 else 0, rate := u.stepTo, fec := resolvedFec u.cfg u.stepTo u.lpFec, lowRun := 0, lastStepUs := satN 16 ((s.tick - u.stepTick) / 125)
    govDowns := if u.stepUp then u.govDowns else bump 16 u.govDowns, govUps := if u.stepUp then bump 16 u.govUps else u.govUps })

/-- R280: a rate step completes. -/
def execRateStepDone (port : Nat) (s : State) : Host.Outcome State Fault Refusal := .next (clocked s (stepDone port s))

/-- R280: a step that has not completed in 40 ms is abandoned. -/
def stepAbandoned (p : Nat) (s : State) : State :=
  let i := p - 192
  let u := uplinkAt s i
  if p < 192 || 193 < p || u.gov ≠ 2 || s.tick < u.stepTick + ticksMs 40 then s else
  let s := raiseEvent s [0] 3 (uplinkUnit i) stDone []
  setUplink s i (fun u => { u with gov := 3, lpAdv := 0, govAbandons := bump 16 u.govAbandons, resumeDue := s.tick + ticksMs 600000 })

/-- R280: a rate step is abandoned. -/
def execRateStepAbandon (port : Nat) (s : State) : Host.Outcome State Fault Refusal := .next (clocked s (stepAbandoned port s))

/-- R280: 600 s after an abandonment the governor runs again. -/
def governorResume (p : Nat) (s : State) : State :=
  let i := p - 192
  if p < 192 || 193 < p || (uplinkAt s i).gov ≠ 3 || s.tick < (uplinkAt s i).resumeDue then s
  else setUplink s i (fun u => { u with lowRun := 0, gov := govNow s i { u with gov := 0 } })

/-- R280: the governor resumes. -/
def execGovernorResume (port : Nat) (s : State) : Host.Outcome State Fault Refusal := .next (clocked s (governorResume port s))

/-! ### Timed launch (R287, R288) -/

/-- R287: the launch that an item spells. -/
def launchOf (it : Item) : Launch :=
  let w := wordAt it.data 1
  { item := it.seq, at80 := ofNowForm (wordAt it.data 0) (fld w 0 16), now := bitAt w 48, tag := fld w 16 16
    replyQueue := fld w 32 16, frame := it.data.drop 16, suite := it.srcSuite }

/-- R287, R288: what is refused when a launch item reaches the head of its queue. Log 60 (DEDUCED), 68 (DEDUCED). -/
def launchRefusal (s : State) (p : Nat) (l : Launch) : Option Status :=
  let d := tdiff l.at80 (now s)
  if 1532 < l.frame.length then some (stRefused .size)
  else if !vlanAllowed s l.suite (vlanAt s p (frameOf l.frame)) then some (stRefused .threshold)
  else if !l.now && (d > 10 * giga || d < -1000) then some (stRefused .range)
  else none

/-- R288: a launch item reaches the head of the queue. One of a suite that is RESETTING meets the fence (R171). Log 19 (DEDUCED), 68 (DEDUCED). -/
def launchItem (p : Nat) (s : State) : State :=
  let i := p - 192
  let qn := (uplinkAt s i).cfg.launchQueue
  if p < 192 || 194 < p || qn = 0 || (uplinkAt s i).launch.isSome then s else
  let s := engineReads s qn switchPart
  match engineHead s qn switchPart with
  | none => s
  | some it =>
    let l := launchOf it
    if fencedOut s l.suite then completeLaunch s i l stResetDiscarded 0 [0, 0] else
    match launchRefusal s p l with
    | some st => completeLaunch (if st = stRefused .threshold then countThreshold s l.suite else s) i l st 0 [0, 0]
    | none =>
      let s := setQueue s qn (fun q => { q with items := mapWhere (fun x => x.seq == it.seq) (fun x => { x with deliveredTo := some (.engine switchPart) }) q.items })
      setUplink s i (fun u => { u with launch := some l })

/-- R288: a launch item is taken. -/
def execLaunchItem (port : Nat) (s : State) : Host.Outcome State Fault Refusal := .next (clocked s (launchItem port s))

/-- R281: a stamp that errs from the present by `error` ns, held to the accuracy of its port's reference plane. -/
def stampOf (s : State) (p : Nat) (error : Int) : Time80 :=
  let a : Int := if p < 192 then 40 else if p < 194 then 4 else 8
  taddNs (portTime s p) (max (-a) (min a error))

/-- R288, R281: the launch is due, and its frame's timestamp point crosses the reference plane; TX_ADJ_PS is added to the stamp in whole ns.
A launch that a PAUSE has delayed counts in TX_LATE. Log 61 (DEDUCED), 68 (DEDUCED). -/
def launchSend (p : Nat) (error : Int) (s : State) : State :=
  let i := p - 192
  if p < 192 || 194 < p then s else
  match (uplinkAt s i).launch with
  | none => s
  | some l =>
    if !l.now && !reached (now s) l.at80 then s
    else if (portAt s p).link ≠ 2 then completeLaunch s i l (stRefused .link) 0 [0, 0]
    else if (portAt s p).pausedUntil.isSome then s
    else
      let t := taddNs (stampOf s p error) ((uplinkAt s i).cfg.txAdjPs / 1000)
      let late := tdiff t l.at80
      let s := if l.now then s else countAll s p true ([(14, 1), (15, 1)] ++ (if l.delayed then [(16, 1)] else []))
      let s := setPort (countSent s p (frameOf l.frame)) p (fun x => { x with lastFrameTick := some s.tick })
      completeLaunch s i l stDone (if l.now then 0 else ofInt64 late) [nowForm t, pack [(0, 16, secHi t)]]

/-- R288: a launched frame is sent. -/
def execLaunchSend (port : Nat) (error : Int) (s : State) : Host.Outcome State Fault Refusal := .next (clocked s (launchSend port error s))

/-! ### Status (R278) -/

/-- R278: status words 1 to 3 of an uplink or SVC. -/
def uplinkStatus (s : State) (i : Nat) : List (BitVec 64) :=
  let x := portAt s (192 + i)
  let u := uplinkAt s i
  [pack [(0, 2, x.link), (2, 3, u.rate), (5, 2, u.fec), (7, 2, u.gov), (9, 1, b2n x.pausedUntil.isSome), (10, 1, b2n (x.pausing && x.link == 2)), (11, 4, u.lpAdv.toNat)],
   pack [(0, 32, x.halfRx.toNat), (32, 32, x.halfTx.toNat)],
   pack [(0, 16, u.govDowns), (16, 16, u.govUps), (32, 16, u.govAbandons), (48, 16, u.lastStepUs)]]

end Sys2Proof.Machine
end

