-- ==== Sys2Proof/Machine/Hallway.lean ====
section
/-! DEFINITION. The Hallway ports: configuration, reception, transmission, errors and start-of-frame time (R290 to R307). -/

namespace Sys2Proof.Machine
open Sys2Proof

/-! ### CFG_HALLWAY (R290 to R293) -/

/-- R291: the time quanta of a bit. -/
def bitQuanta (t : BitTiming) : Nat := 1 + t.seg1 + t.seg2

/-- R292: a timing whose fields are in range, whether or not its format is enabled. Log 70 (DEDUCED). -/
def timingFieldsOk (t : BitTiming) : Bool :=
  1 ≤ t.brp && t.brp ≤ 256 && 1 ≤ t.seg1 && t.seg1 ≤ 256 && 1 ≤ t.seg2 && t.seg2 ≤ 128 && 1 ≤ t.sjw && t.sjw ≤ 128

/-- R291: SJW exceeds neither segment. -/
def jumpOk (t : BitTiming) : Bool := t.sjw ≤ t.seg1 && t.sjw ≤ t.seg2

/-- R290: a bit rate within limits, of the 80 MHz island clock. -/
def rateWithin (t : BitTiming) (lo hi : Nat) : Bool := lo * (t.brp * bitQuanta t) ≤ 80000000 && 80000000 ≤ hi * (t.brp * bitQuanta t)

/-- R290, R291: the nominal timing. -/
def nominalOk (t : BitTiming) : Bool := jumpOk t && 8 ≤ bitQuanta t && bitQuanta t ≤ 385 && rateWithin t 10000 1000000

/-- R290, R291: the timing of a data phase. Log 70 (DEDUCED). -/
def dataPhaseOk (t : BitTiming) (hi : Nat) : Bool := jumpOk t && 4 ≤ bitQuanta t && rateWithin t 0 hi

/-- R292: the timing of a word. -/
def timingOf (w : BitVec 64) : BitTiming := { brp := fld w 0 9, seg1 := fld w 9 9, seg2 := fld w 18 8, sjw := fld w 26 8, tdco := fld w 34 8 }

/-- R292: the PORT body. -/
def hallFields (r : CfgReq) : HallCfg :=
  let a := r.word 2
  { opmode := fld a 2 2, trunk := bitAt a 4, fdEn := bitAt a 5, xlEn := bitAt a 6, pex := bitAt a 7, xlEsOff := bitAt a 8, tms := bitAt a 9
    retryMax := fld a 10 4, nominal := timingOf (r.word 3), fd := timingOf (r.word 4), xl := timingOf (r.word 5)
    rxDefault := fld (r.word 6) 0 16, recoverDelay := fld (r.word 6) 16 16, tsAdj := sfld (r.word 6) 32 16 }

/-- R293: the cases of a PORT body that fault: a timing field out of its range in any word, and the timing of the formats that are enabled. Log 70 (DEDUCED). -/
def hallOk (c : HallCfg) : Bool :=
  c.opmode ≤ 2 && c.nominal.tdco == 0 && c.recoverDelay ≤ 1000 && decide (-2000 ≤ c.tsAdj) && decide (c.tsAdj ≤ 2000) &&
    (c.rxDefault == 0 || !fixedQueue c.rxDefault) &&
    timingFieldsOk c.nominal && timingFieldsOk c.fd && timingFieldsOk c.xl &&
    nominalOk c.nominal && (!c.fdEn || dataPhaseOk c.fd 8000000) && (!c.xlEn || dataPhaseOk c.xl 20000000)

/-- R293: a change of OPMODE, TRUNK, a format or timing. Log 73 (DEDUCED). -/
def hallRejoins (a b : HallCfg) : Bool :=
  a.opmode != b.opmode || a.trunk != b.trunk || a.fdEn != b.fdEn || a.xlEn != b.xlEn || a.nominal != b.nominal || a.fd != b.fd || a.xl != b.xl

/-- R292 RX_DEFAULT: the queue of frames that match no filter. -/
def hallDefault (h : Nat) (c : HallCfg) : Nat := if c.rxDefault = 0 then 0x50 + h else c.rxDefault

/-- R444: a configuration directs a port to a queue as a producer. -/
def hallDirected (s : State) (h q : Nat) : Bool :=
  hallDefault h (hallAt s h).cfg == q || (hallAt s h).filters.any (fun e => e.2.valid && e.2.queueAction && e.2.queue == q)

/-- The frame of a port whose attempt is in progress, with its slot. -/
def attempting (s : State) (h : Nat) : Option (Nat × Offered) := (hallAt s h).offered.find? (fun o => o.2.attempting)

/-- R293: every offered frame of a port that has no attempt in progress ends with a status; one that a suite reset has ended keeps
that end (R306). -/
def endOffered (s : State) (h : Nat) (st : Status) : State :=
  (hallAt s h).offered.foldl (fun s o =>
    completeOffered s h o.1 o.2 (if o.2.cancel = some stResetDiscarded then stResetDiscarded else st)) s

/-- R293: a PORT body is applied. Log 73 (DEDUCED). -/
def applyHall (s : State) (h : Nat) (new : HallCfg) : State :=
  let old := (hallAt s h).cfg
  let rejoins := hallRejoins old new
  let s := if rejoins then endOffered s h (stRefused .link) else s
  let s := setHall s h (fun x => { x with
    cfg := new, integrated := x.integrated && !rejoins, busState := if rejoins && x.busState != 2 then 5 else x.busState })
  redirect s (hallPart h) (hallDefault h old) (hallDefault h new) (hallDirected s h (hallDefault h old))

/-- A request waits. -/
def waitCfg (s : State) (r : CfgReq) : CfgOut := .waits { s with seq := { s.seq with waiting := s.seq.waiting ++ [{ req := r, epoch := none }] } }

/-- R293: CFG_HALLWAY PORT. -/
def configureHallPort (h : Nat) (r : CfgReq) (s : State) : CfgOut :=
  let c := hallFields r
  if fld (r.word 2) 0 2 = 3 || !hallOk c then cfgDeny s (stFault .range)
  else if hallRejoins (hallAt s h).cfg c && (attempting s h).isSome then waitCfg s r
  else cfgDone (applyHall s h c)

/-- The formats that a port enables, as FMT bits. -/
def enabledFormats (c : HallCfg) : BitVec 3 := BitVec.ofNat 3 (1 + 2 * b2n c.fdEn + 4 * b2n c.xlEn)

/-- R292: the FILTER body. -/
def filterFields (r : CfgReq) : HallFilter :=
  let a := r.word 2
  let b := r.word 3
  let d := r.word 4
  { valid := bitAt a 8, queueAction := bitAt a 9, prio := fld a 10 3, suite := fld a 13 6, queue := fld a 19 16
    fmt := BitVec.ofNat 3 (fld a 35 3), ide := bitAt a 38, id := BitVec.ofNat 29 (fld b 0 29), idMask := BitVec.ofNat 29 (fld b 32 29)
    vcid := BitVec.ofNat 8 (fld d 0 8), vcidMask := BitVec.ofNat 8 (fld d 8 8), sdt := BitVec.ofNat 8 (fld d 16 8), sdtMask := BitVec.ofNat 8 (fld d 24 8) }

/-- R293: CFG_HALLWAY FILTER. Log 70 (DEDUCED). -/
def configureFilter (h : Nat) (r : CfgReq) (s : State) : CfgOut :=
  let f := filterFields r
  let n := fld (r.word 2) 2 6
  let puts := f.valid && f.queueAction
  if (f.valid && f.fmt &&& ~~~ (enabledFormats (hallAt s h).cfg) != 0) || (puts && fixedQueue f.queue) then cfgDeny s (stFault .range)
  else if puts && !mayPut s f.suite f.queue then cfgDeny s (stRefused .threshold)
  else if resetting s f.suite then cfgDeny s (stRefused .state)
  else
    let old := tget {} (hallAt s h).filters n
    let oldQ := if old.valid && old.queueAction then old.queue else 0
    let s := setHall s h (fun x => { x with filters := tset {} x.filters n f })
    cfgDone (redirect s (hallPart h) oldQ (if puts then f.queue else 0) (hallDirected s h oldQ))

/-- R293: CFG_HALLWAY SLOT. Log 70 (DEDUCED). -/
def configureHallSlot (h : Nat) (r : CfgReq) (s : State) : CfgOut :=
  let c := hallSlotFields r
  let n := hallSlotOf r
  let u := suiteAt s c.suite
  if c.valid && (c.fmt &&& ~~~ (enabledFormats (hallAt s h).cfg) != 0 || fixedQueue c.queue) then cfgDeny s (stFault .range)
  else if c.valid && !(u.queueFirst ≤ c.queue && c.queue < u.queueFirst + u.queueCount) then cfgDeny s (stRefused .threshold)
  else if resetting s c.suite then cfgDeny s (stRefused .state)
  else if (tlook (hallAt s h).offered n).isSome && slotQueue (tget {} (hallAt s h).slots n) != slotQueue c then waitCfg s r
  else cfgDone (applyHallSlot s h n c)

/-- CFG_HALLWAY on a Hallway port. -/
def configureHall (run : Nat → CfgReq → State → CfgOut) (r : CfgReq) (s : State) : CfgOut :=
  buildingCfg s (cfgUnitOnly r s (fun u => match u with | .part p => p.cls == 3 | _ => false) (fun u => match u with
    | .part p => run p.inst r s
    | _ => cfgDeny s (stFault .range)))

/-- R292: OP of a request. Log 9 (DEDUCED). -/
def hallOp (r : CfgReq) : Nat := fld (r.word 2) 0 2

/-- R292: CFG_HALLWAY PORT; one with OP 3 is taken here and refused. -/
def execCfgHallwayPort (c : Nat) (s : State) : Host.Outcome State Fault Refusal :=
  .next (serveCfg c (fun r => cfgCode 0x0B r && hallOp r != 1 && hallOp r != 2) (configureHall configureHallPort) s)

/-- R292: CFG_HALLWAY FILTER. -/
def execCfgHallwayFilter (c : Nat) (s : State) : Host.Outcome State Fault Refusal :=
  .next (serveCfg c (fun r => cfgCode 0x0B r && hallOp r == 1) (configureHall configureFilter) s)

/-- R292: CFG_HALLWAY SLOT. -/
def execCfgHallwaySlot (c : Nat) (s : State) : Host.Outcome State Fault Refusal :=
  .next (serveCfg c (fun r => cfgCode 0x0B r && hallOp r == 2) (configureHall configureHallSlot) s)

/-- R293: what waited for the end of frames is applied: PORT bodies when no attempt is in progress, SLOT bodies of slots that
offer no frame. Log 73 (DEDUCED). -/
def settleHall (s : State) (h : Nat) : State :=
  let s := if (attempting s h).isSome then s else
    (hallWaits s h 0).foldl (fun s r => endWaiting r stDone (applyHall s h (hallFields r))) s
  settleSlots s h

/-! ### Start-of-frame time (R305) -/

/-- R305: the counter of a group of ports: the 80 MHz island clock, 16 counts in 25 ticks of REFCLK, in 48 bits. All four begin with the tick
count. Log 72 (DEDUCED). -/
def islandCount (s : State) : Nat := s.tick * 16 / 25 % 2 ^ 48

/-- The counts from one value of a counter to another. -/
def countsSince (c k : Nat) : Nat := (k % 2 ^ 48 + 2 ^ 48 - c % 2 ^ 48) % 2 ^ 48

/-- R305: the latest pair at a capture made `ago` counts before. Log 72 (DEDUCED). -/
def sofPair (s : State) (h ago : Nat) : HallPair :=
  (((tget [] s.hallPairs (h / 4)).find? (fun p => ago ≤ countsSince p.count (islandCount s)))).getD {}

/-- R305: a capture that was made `ago` counts before. -/
def capture (s : State) (ago : Nat) : Nat := (islandCount s + 2 ^ 48 - ago % 2 ^ 48) % 2 ^ 48

/-- R305: the house time of a capture. -/
def sofTime (s : State) (h ago : Nat) : Time80 :=
  let p := sofPair s h ago
  let k := capture s ago
  let dt := (k % 2 ^ 48 + 2 ^ 48 - p.count % 2 ^ 48) % 2 ^ 48
  taddNs (taddNs p.time ((dt * 25 * s.clock.increment / 2 ^ 28 : Nat) : Int)) (hallAt s h).cfg.tsAdj

/-- R305 TS_VALID: the house clock is not in FAULT, and the latest pair was at most 4 ms old. -/
def sofValid (s : State) (h ago : Nat) : Bool :=
  let p := sofPair s h ago
  p.recorded && !(unitStat s (engineUnit 7)).fault && countsSince p.count (capture s ago) ≤ 320000

/-- R305: the pair of a group's counter and the house time is recorded, once per millisecond; those that captures not yet converted may need
are kept. Log 72 (DEDUCED). -/
def recordPair (group : Nat) (s : State) : State :=
  let pairs := tget [] s.hallPairs group
  match pairs.head? with
  | some p => if s.tick < p.tick + ticksMs 1 then s
    else { s with hallPairs := tset [] s.hallPairs group (({ count := islandCount s, time := now s, tick := s.tick, recorded := true } :: pairs).take 64) }
  | none => { s with hallPairs := tset [] s.hallPairs group [{ count := islandCount s, time := now s, tick := s.tick, recorded := true }] }

/-- R305: the pair of count `count`, which is the counter's, is recorded. -/
def execHallwayTimePair (group count : Nat) (s : State) : Host.Outcome State Fault Refusal :=
  .next (clocked s (if count = islandCount s then recordPair group s else s))

/-! ### Bus state (R303, R304) -/

/-- R304: restricted operation. -/
def hallRestricted (s : State) (h : Nat) : Bool := (hallAt s h).cfg.opmode == 2 || s.twin.role == .standby

/-- R304: a port is at work: OPMODE enables it, or it is a configured port of a STANDBY. Log 73 (DEDUCED). -/
def hallOn (s : State) (h : Nat) : Bool :=
  (hallAt s h).cfg.opmode != 0 || (s.twin.role == .standby && (hallAt s h).cfg.nominal.brp != 0)

/-- The port takes part in the bus. -/
def onBus (s : State) (h : Nat) : Bool := hallOn s h && (hallAt s h).integrated && (hallAt s h).busState != 2 && !testing s (hallUnit h)

/-- The port may send. -/
def maySend (s : State) (h : Nat) : Bool := onBus s h && !hallRestricted s h

/-- R303: error active or passive by the counters, of a port that has joined the bus. -/
def settleErrors (x : Hall) : Hall := if !x.integrated then x else { x with busState := if 127 < x.tec || 127 < x.recErr then 1 else 0 }

/-- R307 BUS_STATE: a bus-off port is recovering once RECOVER_DELAY has passed. Log 73 (DEDUCED). -/
def busStateOf (s : State) (h : Nat) : Nat :=
  let x := hallAt s h
  if !hallOn s h || !x.integrated || testing s (hallUnit h) then 5
  else if x.busState = 2 then (if x.recoverDue ≤ s.tick then 3 else 2)
  else if x.busState = 5 then 5
  else if hallRestricted s h then 4
  else x.busState

/-- R303: the port enters bus-off. -/
def enterBusOff (s : State) (h : Nat) : State :=
  let s := setHall s h (fun x => { x with
    busState := 2, busOffs := bump 16 x.busOffs, recoverDue := s.tick + ticksMs x.cfg.recoverDelay
    offered := x.offered.map (fun o => (o.1, { o.2 with attempting := false })) })
  raiseEvent (endOffered s h (stRefused .link)) [0] 4 (hallUnit h) stDone []

/-- The REFCLK ticks that 128 times 11 recessive bits last, rounded down (R303). -/
def recoveryTicks (c : HallCfg) : Nat := 1408 * c.nominal.brp * bitQuanta c.nominal * 25 / 16

/-- R303: the port recovers from bus-off. -/
def busOffRecovery (h : Nat) (s : State) : State :=
  let x := hallAt s h
  if x.busState ≠ 2 || !hallOn s h || s.tick < x.recoverDue + recoveryTicks x.cfg then s
  else raiseEvent (setHall s h (fun x => { x with busState := 0, integrated := true, tec := 0, recErr := 0 })) [0] 2 (hallUnit h) stDone []

/-- R303: bus-off recovery. -/
def execBusOffRecovery (hb : Nat) (s : State) : Host.Outcome State Fault Refusal := .next (clocked s (busOffRecovery hb s))

/-- R293: the port has seen 11 recessive bits and joins the bus. -/
def execHallwayBusIntegration (hb : Nat) (s : State) : Host.Outcome State Fault Refusal :=
  .next (clocked s (if !hallOn s hb || testing s (hallUnit hb) then s
    else setHall s hb (fun x => let x := { x with integrated := true }
      if x.busState = 2 then x else settleErrors x)))

/-- R303: what an error in another node's frame adds to REC: 1, or 8 for a bit error in the port's own error or overload flag, and 8 for each
dominant run after the flag. Log 113 (PRESUMED). -/
def receiveCount (e : RxError) : Nat := (if e.inFlag then 8 else 1) + 8 * e.dominant

/-- R303: what an error of a transmit attempt adds to TEC: 8, but nothing for an acknowledgement error of an error-passive port or a stuff error
in arbitration, and 8 for each dominant run after the flag. Log 113 (PRESUMED). -/
def transmitCount (x : Hall) (kind : Nat) (spared : Bool) (dominant : Nat) : Nat :=
  (if spared && (kind = 2 || (kind = 5 && x.busState = 1)) then 0 else 8) + 8 * dominant

/-- R303: an error in another node's frame. -/
def execHallwayReceiveError (hb : Nat) (e : RxError) (s : State) : Host.Outcome State Fault Refusal :=
  .next (clocked s (if !onBus s hb then s
    else setHall s hb (fun x => settleErrors { x with
      errors := bump 16 x.errors, lastError := e.kind, recErr := satN 8 (x.recErr + receiveCount e) })))

/-- R290: the protocol exception event. -/
def execProtocolExceptionEvent (hb : Nat) (s : State) : Host.Outcome State Fault Refusal :=
  .next (clocked s (if onBus s hb && (hallAt s hb).cfg.pex then setHall s hb (fun x => { x with integrated := false }) else s))

/-! ### Receiving (R294, R295) -/

/-- R294: a filter entry decides a frame. -/
def filterMatches (f : HallFilter) (fr : HallFrame) : Bool :=
  f.valid && f.fmt.getLsbD fr.format && f.ide == fr.ide && ((BitVec.ofNat 29 fr.id ^^^ f.id) &&& f.idMask) == 0 &&
    (fr.format != 2 || (((BitVec.ofNat 8 fr.vcid ^^^ f.vcid) &&& f.vcidMask) == 0 && ((BitVec.ofNat 8 fr.sdt ^^^ f.sdt) &&& f.sdtMask) == 0))

/-- R295: the receive prefix and the data bytes. -/
def hallItem (s : State) (h : Nat) (fr : HallFrame) : List Byte :=
  let t := sofTime s h fr.sofAgo
  wordBytes
    [nowForm t,
     pack [(0, 16, secHi t), (16, 4, h), (20, 2, fr.format), (22, 1, b2n fr.ide), (23, 1, b2n fr.rtr), (24, 1, b2n fr.brs), (25, 1, b2n fr.esi),
       (26, 1, b2n fr.xlSec), (27, 1, b2n (sofValid s h fr.sofAgo)), (32, 12, fr.data.length), (44, 4, if fr.format = 2 then 0 else fr.dlc), (48, 8, fr.sdt), (56, 8, fr.vcid)],
     pack [(0, 29, fr.id), (32, 32, fr.af)],
     pack [(0, 48, capture s fr.sofAgo)]] ++ fr.data

/-- R295, R306: a frame enters a queue, or is lost. -/
def hallEnter (s : State) (h q suite prio : Nat) (fr : HallFrame) : State :=
  let drop := fun (s : State) => setHall s h (fun x => { x with rxDrops := bump 16 x.rxDrops })
  if (queueAt s q).fenced || resetting s suite then drop s else
  let r := putItem s q (.engine (hallPart h)) suite 0 prio false (hallItem s h fr)
  if r.2 then r.1 else drop r.1

/-- R294, R303, R304: a frame has been received correctly. REC of an error-passive receiver returns to a value from 119 to 127 that
ISO 11898-1 leaves open. Log 72 (DEDUCED), 110 (DESIGN CHOICE). -/
def hallReceive (h : Nat) (fr : HallFrame) (s : State) : State :=
  if !onBus s h || !(enabledFormats (hallAt s h).cfg).getLsbD fr.format then s else
  let back := 119 + fld (Config.freeWord s.free) 0 16 % 9
  let s := setHall { s with free := s.free + 1 } h (fun x => settleErrors { x with
    rxFrames := (x.rxFrames + 1) % 2 ^ 32, recErr := if 127 < x.recErr then back else x.recErr - 1 })
  if s.twin.role = .standby then setHall s h (fun x => { x with rxStandby := bump 16 x.rxStandby }) else
  match (hallAt s h).filters.find? (fun e => filterMatches e.2 fr) with
  | some e => if e.2.queueAction then hallEnter s h e.2.queue e.2.suite e.2.prio fr else s
  | none => hallEnter s h (hallDefault h (hallAt s h).cfg) 0 0 fr

/-- R294: a Hallway frame is received. -/
def execHallwayFrameReceived (hb : Nat) (fr : HallFrame) (s : State) : Host.Outcome State Fault Refusal := .next (clocked s (hallReceive hb fr s))

/-! ### Transmitting (R296 to R302) -/

/-- R296: the frame that an item spells, with LENGTH. Log 71 (DEDUCED). -/
def hallFrameOf (it : Item) : HallFrame × Nat :=
  let a := wordAt it.data 0
  let len := fld a 35 12
  ({ format := fld a 32 2, id := fld a 0 29, ide := bitAt a 29, rtr := bitAt a 30, brs := bitAt a 31, esi := false, xlSec := bitAt a 34
     dlc := len, sdt := fld a 48 8, vcid := fld a 56 8, af := fld (wordAt it.data 1) 0 32, data := it.data.drop 24, sofAgo := 0 }, len)

/-- R296: LENGTH agrees with FORMAT. -/
def lengthAgrees (format len : Nat) : Bool :=
  match format with
  | 0 => len ≤ 8
  | 1 => len ≤ 8 || [12, 16, 20, 24, 32, 48, 64].contains len
  | 2 => 1 ≤ len && len ≤ 2048
  | _ => true

/-- R297: the checks of an item, in their order. Log 71 (DEDUCED). -/
def hallRefusal (s : State) (h : Nat) (c : HallSlotCfg) (it : Item) : Option Status :=
  let fr := (hallFrameOf it).1
  let len := (hallFrameOf it).2
  let bytes := if fr.rtr && fr.format = 0 then 0 else len
  if !lengthAgrees fr.format len || it.data.length != 24 + bytes then some (stRefused .size)
  else if !c.fmt.getLsbD fr.format || (fr.ide && !c.ide) || ((BitVec.ofNat 29 fr.id ^^^ c.allowId) &&& c.allowMask) != 0 then
    some (stRefused .threshold)
  else if !(enabledFormats (hallAt s h).cfg).getLsbD fr.format || (fr.rtr && fr.format != 0) || (fr.brs && fr.format != 1) then
    some (stRefused .range)
  else none

/-- R297: what a port offers for an item. -/
def offeredOf (it : Item) (c : HallSlotCfg) : Offered :=
  let b := wordAt it.data 1
  { item := it.seq, frame := (hallFrameOf it).1, tag := fld b 32 16, replyQueue := fld b 48 16, lifetimeUs := fld (wordAt it.data 2) 0 32
    entered := it.entered, suite := c.suite }

/-- R297: a port takes the head item of a slot's queue. -/
def hallTake (h slot : Nat) (s : State) : State :=
  let s := settleHall s h
  let c := tget {} (hallAt s h).slots slot
  let qn := slotQueue c
  if !maySend s h || qn = 0 || (tlook (hallAt s h).offered slot).isSome || resetting s c.suite || !(hallWaits s h 0).isEmpty then s else
  let s := engineReads s qn (hallPart h)
  match engineHead s qn (hallPart h) with
  | none => s
  | some it =>
    match hallRefusal s h c it with
    | some st => completeOffered (if st = stRefused .threshold then countThreshold s c.suite else s) h slot (offeredOf it c) st
    | none =>
      let s := setQueue s qn (fun q => { q with items := mapWhere (fun x => x.seq == it.seq) (fun x => { x with deliveredTo := some (.engine (hallPart h)) }) q.items })
      setHall s h (fun x => { x with offered := tput x.offered slot (offeredOf it c) })

/-- R297: a slot's item is taken. -/
def execHallwayTakeItem (hb slot : Nat) (s : State) : Host.Outcome State Fault Refusal := .next (clocked s (hallTake hb slot s))

/-- R299: the lifetime of a frame has passed; a trunk-class port has none. -/
def lifetimePassed (s : State) (h : Nat) (o : Offered) : Bool :=
  !(hallAt s h).cfg.trunk && o.lifetimeUs != 0 && reached (now s) (taddUs o.entered o.lifetimeUs)

/-- R298: the bits that arbitration compares, dominant 0: identifier, RTR or SRR, IDE, the rest of an extended identifier, RTR. Log 72 (DEDUCED). -/
def arbitrationKey (fr : HallFrame) : Nat :=
  if fr.ide then (((fr.id / 2 ^ 18 % 2 ^ 11 * 2 + 1) * 2 + 1) * 2 ^ 18 + fr.id % 2 ^ 18) * 2 + b2n fr.rtr
  else ((fr.id % 2 ^ 11 * 2 + b2n fr.rtr) * 2) * 2 ^ 18 * 2

/-- R298: the frame that wins among the offered ones; of those that tie the lowest slot. Log 72 (DEDUCED). -/
def arbitrationWinner (l : List (Nat × Offered)) : Option (Nat × Offered) :=
  l.foldl (fun best o => match best with
    | none => some o
    | some b => if arbitrationKey o.2.frame < arbitrationKey b.2.frame then some o else some b) none

/-- R298, R305: the bus is idle: an attempt starts; its start-of-frame edge was captured `ago` counts ago. Log 73 (DEDUCED). -/
def attemptStart (h ago : Nat) (s : State) : State :=
  if !maySend s h || (attempting s h).isSome || !(hallWaits s h 0).isEmpty then s else
  match arbitrationWinner ((hallAt s h).offered.filter (fun o => o.2.cancel.isNone && !lifetimePassed s h o.2)) with
  | none => s
  | some o =>
    let t := sofTime s h ago
    setHall s h (fun x => { x with offered := tput x.offered o.1 { o.2 with attempting := true, attempts := o.2.attempts + 1, sof := some t } })

/-- R298: an attempt starts. -/
def execHallwayAttemptStart (hb ago : Nat) (s : State) : Host.Outcome State Fault Refusal := .next (clocked s (attemptStart hb ago s))

/-- R299, R300: a frame whose attempt did not succeed ends, or stays offered. -/
def afterAttempt (s : State) (h slot : Nat) (o : Offered) : State :=
  match o.cancel with
  | some st => completeOffered s h slot o st
  | none =>
    if (hallAt s h).cfg.trunk && 1 + (hallAt s h).cfg.retryMax ≤ o.errors then completeOffered s h slot o (stRefused .retries)
    else setHall s h (fun x => { x with offered := tput x.offered slot { o with attempting := false } })

/-- R306: an attempt ends on a port that a unit reset has taken off the bus meanwhile: nothing counts any more. Log 97 (DEDUCED). -/
def endAfterReset (s : State) (h slot : Nat) (o : Offered) (e : AttemptEnd) : State :=
  completeOffered s h slot o (if e = .success then stDone else o.cancel.getD stResetDiscarded)

/-- R299, R300, R303: the attempt in progress ends. Log 113 (PRESUMED). -/
def attemptEnd (h : Nat) (e : AttemptEnd) (s : State) : State :=
  match attempting s h with
  | none => s
  | some (slot, o) =>
    let s := if !(hallAt s h).integrated then endAfterReset s h slot o e else match e with
      | .success =>
        completeOffered (setHall s h (fun x => settleErrors { x with txFrames := (x.txFrames + 1) % 2 ^ 32, tec := x.tec - 1 })) h slot o stDone
      | .arbitrationLost => afterAttempt (setHall s h (fun x => { x with arbLost := bump 16 x.arbLost })) h slot o
      | .error kind spared dominant =>
        let o := { o with errors := o.errors + 1 }
        let s := setHall s h (fun x => { x with
          errors := bump 16 x.errors, lastError := kind, tec := min (x.tec + transmitCount x kind spared dominant) 511
          offered := tput x.offered slot o })
        if 255 < (hallAt s h).tec then enterBusOff s h else afterAttempt (setHall s h settleErrors) h slot o
    settleHall s h

/-- R299: an attempt ends. -/
def execHallwayAttemptEnd (hb : Nat) (e : AttemptEnd) (s : State) : Host.Outcome State Fault Refusal := .next (clocked s (attemptEnd hb e s))

/-- R299: an offered frame is to be withdrawn: at once, or after the attempt in progress. -/
def withdrawOffered (s : State) (h slot : Nat) (o : Offered) : State :=
  if o.attempting then setHall s h (fun x => { x with offered := tput x.offered slot { o with cancel := some (o.cancel.getD stWithdrawn) } })
  else settleHall (completeOffered s h slot o stWithdrawn) h

/-- R299: a frame's lifetime passes. -/
def lifetimeExpiry (h slot : Nat) (s : State) : State :=
  match tlook (hallAt s h).offered slot with
  | none => s
  | some o => if lifetimePassed s h o then withdrawOffered s h slot { o with byLifetime := true } else s

/-- R299: a lifetime passes. -/
def execHallwayLifetimeExpiry (hb slot : Nat) (s : State) : Host.Outcome State Fault Refusal := .next (clocked s (lifetimeExpiry hb slot s))

/-- R302: HB_CANCEL on a Hallway port. Log 73 (DEDUCED). -/
def hallCancel (h : Nat) (c : Cmd) (s : State) : CmdResult :=
  let slot := fld (c.word 2) 0 4
  ownerOnly s (tget {} (hallAt s h).slots slot).suite c (
    match tlook (hallAt s h).offered slot with
    | none => refuse s .state
    | some o =>
      if (hallAt s h).cfg.trunk || o.tag != fld (c.word 2) 16 16 then refuse s .state
      else if o.attempting then
        { s := withdrawOffered s h slot { o with cancelReplies := o.cancelReplies ++ [(c.tag, c.replyQueue, c.suite)] }, st := stDone, reply := false }
      else { s := withdrawOffered s h slot o, st := stDone })

/-- R302: HB_CANCEL. -/
def execHbCancel (q : CmdQueue) (s : State) : Host.Outcome State Fault Refusal :=
  .next (unitCommand q (withCode 0x90) false (fun c t s => match t with
    | .unit (.part p) => if p.cls = 3 then hallCancel p.inst c s else refuse s .range
    | _ => refuse s .range) s)

/-! ### Status (R307) -/

/-- R307: status words 1 to 3 of a Hallway port. -/
def hallStatus (s : State) (h : Nat) : List (BitVec 64) :=
  let x := hallAt s h
  let offered := ((List.range 16).filter (fun n => (tlook x.offered n).isSome)).foldl (fun acc n => acc + 2 ^ n) 0
  [pack [(0, 3, busStateOf s h), (3, 9, x.tec), (12, 8, x.recErr), (20, 3, x.lastError), (32, 16, x.busOffs), (48, 16, offered)],
   pack [(0, 32, x.rxFrames), (32, 32, x.txFrames)],
   pack [(0, 16, x.rxDrops), (16, 16, x.rxStandby), (32, 16, x.arbLost), (48, 16, x.errors)]]

end Sys2Proof.Machine
end

