-- ==== Sys2Proof/Machine/HearthConfig.lean ====
section
/-! DEFINITION. CFG_HEARTH: a Hearth slot set up, changed, removed or cleared (R207 to R212). -/

namespace Sys2Proof.Machine
open Sys2Proof

/-- A signed 16-bit field. -/
def qField (w : BitVec 64) (lo : Nat) : Int := sfld w lo 16

/-- R208: a coefficient set from its three words. -/
def coefSet (a b c : BitVec 64) : CoefSet :=
  { b := [qField a 0, qField a 16, qField a 32, qField a 48], a := [qField b 0, qField b 16, qField b 32], shift := fld b 48 3
    outMin := qField c 0, outMax := qField c 16, upper := qField c 32 }

/-- R207: the eight sets of a body. -/
def bodySets (r : CfgReq) : List CoefSet := (List.range 8).map (fun j => coefSet (r.word (6 + 3 * j)) (r.word (7 + 3 * j)) (r.word (8 + 3 * j)))

def hearthSlot (r : CfgReq) : Nat := fld (r.word 2) 0 12
def hearthSuite (r : CfgReq) : Nat := fld (r.word 2) 12 6
def hearthOp (r : CfgReq) : Nat := fld (r.word 2) 18 2

/-- R207: the slot as a SET makes it, with its state cleared. -/
def slotFields (r : CfgReq) (x : Slot) : Slot :=
  let w := r.word
  { x with
    inUse := true, suite := hearthSuite r, order3 := bitAt (w 2) 20, regions := fld (w 2) 21 3, timer := bitAt (w 2) 24
    errMode := bitAt (w 2) 25, schedSrc := bitAt (w 2) 26, srcPoint := fld (w 3) 0 14, schedPoint := fld (w 3) 16 14
    setpoint := qField (w 3) 32, hyst := fld (w 3) 48 16, destPoint := fld (w 4) 0 14, toPoint := bitAt (w 4) 14
    toQueue := bitAt (w 4) 15, destQueue := fld (w 4) 16 16, yInit := qField (w 4) 32, timerPeriod := fld (w 5) 0 26
    timerPhase := fld (w 5) 32 26, sets := bodySets r, x := [0, 0, 0], y := List.replicate 3 (qField (w 4) 32), region := 0
    pending := none, lastTrigger := none }

/-- R211: the slot as a COEF makes it. -/
def coefFields (r : CfgReq) (x : Slot) : Slot :=
  let regions := fld (r.word 2) 21 3
  { x with regions, hyst := fld (r.word 3) 48 16, sets := bodySets r, region := min x.region regions }

/-- R208: clearing the state. -/
def clearState (x : Slot) : Slot := { x with x := [0, 0, 0], y := List.replicate 3 x.yInit, region := 0 }

/-! ### The refusals (R209) -/

/-- Each number of a list is below the next. -/
def rising : List Int → Bool
  | a :: b :: t => decide (a < b) && rising (b :: t)
  | _ => true

/-- R208, R209: the sets of a slot: third-order coefficients, output limits and region bounds. UPPER of the last set in use is
ignored. Log 51 (DEDUCED). -/
def setsOk (x : Slot) : Bool :=
  x.hyst ≤ 0x2000 && (x.order3 || x.sets.all (fun c => c.b.getD 3 0 == 0 && c.a.getD 2 0 == 0)) &&
    (x.sets.take (x.regions + 1)).all (fun c => c.outMin ≤ c.outMax) && rising ((x.sets.take x.regions).map (·.upper))

/-- R209: the points and the queue that a SET puts to use. -/
def slotUsesOk (s : State) (x : Slot) : Bool :=
  let visible := fun (e : Nat) => isPoint e && (pointCfg s e).type == tyQ15 && mayRead s x.suite e
  (!x.toPoint || (isGeneral x.destPoint && (pointCfg s x.destPoint).type == tyQ15 && (pointCfg s x.destPoint).owner == x.suite)) &&
    (!x.toQueue || mayPut s x.suite x.destQueue) && (!x.schedSrc || visible x.schedPoint) &&
    (!x.timer || (visible x.srcPoint && 10 ≤ x.timerPeriod && x.timerPeriod ≤ 60000000 && x.timerPhase < x.timerPeriod))

/-- R212: evaluations per µs of the TIMER slots, with slot `n` as it is to be, as a fraction. -/
def timerLoad (s : State) (n : Nat) (new : Slot) : Nat × Nat :=
  let others := (s.hearth.slots.filter (fun e => e.1 != n && e.2.inUse && e.2.timer)).map (·.2.timerPeriod)
  let periods := if new.timer then new.timerPeriod :: others else others
  periods.foldl (fun acc p => (acc.1 * p + acc.2, acc.2 * p)) (0, 1)

/-- R209: the number of slots of a suite other than `n`. -/
def slotsOfSuite (s : State) (n suite : Nat) : Nat := (s.hearth.slots.filter (fun e => e.1 != n && e.2.inUse && e.2.suite == suite)).length

/-- A loaded task's slot list names the slot. -/
def slotListed (s : State) (n : Nat) : Bool := (loadedTasks s).any (fun t => t.2.desc.slotList.contains n)

/-- R209: DEST_POINT is in a loaded task's output list, or another slot's destination. -/
def destTaken (s : State) (n : Nat) (x : Slot) : Bool :=
  x.toPoint && ((loadedTasks s).any (fun t => t.2.desc.outList.contains x.destPoint) ||
    s.hearth.slots.any (fun e => e.1 != n && e.2.inUse && e.2.toPoint && e.2.destPoint == x.destPoint))

/-- R209: the suites that a request concerns. -/
def concerned (r : CfgReq) (old : Slot) : List Nat :=
  if hearthOp r = 0 then hearthSuite r :: (if old.inUse then [old.suite] else []) else [old.suite]

/-- R209: the cases of the table, in its order; `new` is the slot as the request makes it. Log 51 (DEDUCED). -/
def hearthRefusal (r : CfgReq) (s : State) (old new : Slot) : Option Status :=
  let n := hearthSlot r
  let op := hearthOp r
  let load := timerLoad s n new
  if r.suite != 0 && (hearthSuite r != r.suite || (old.inUse && old.suite != r.suite)) then some (stRefused .threshold)
  else if op != 0 && !old.inUse then some (stRefused .state)
  else if (op == 0 || op == 1) && !setsOk new then some (stFault .range)
  else if op == 0 && !slotUsesOk s new then some (stFault .range)
  else if op == 0 && (!old.inUse || old.suite != new.suite) && (suiteAt s new.suite).hearthQuota < slotsOfSuite s n new.suite + 1 then some (stRefused .size)
  else if op == 0 && new.timer && 40 * load.2 < load.1 then some (stRefused .range)
  else if (concerned r old).any (resetting s) || ((op == 2 || (op == 0 && old.inUse && old.timer != new.timer)) && slotListed s n) ||
      (op == 0 && destTaken s n new) then some (stRefused .state)
  else if (concerned r old).any (fun m => (suiteAt s m).locked) then some (stRefused .lock)
  else none

/-- R444: the Hearth attaches to the queue of a slot, and leaves the one that no slot names any longer. -/
def directSlot (s : State) (n : Nat) (old new : Slot) : State :=
  let queue := fun (x : Slot) => if x.inUse && x.toQueue then x.destQueue else 0
  redirect s hearthPart (queue old) (queue new)
    (s.hearth.slots.any (fun e => e.1 != n && queue e.2 == queue old))

/-- R207: a CFG_HEARTH with one OP; `change` is what it makes of the slot. -/
def configureSlot (change : CfgReq → Slot → Slot) (r : CfgReq) (s : State) : CfgOut :=
  cfgUnitOnly r s (· == .part hearthPart) (fun _ =>
    let n := hearthSlot r
    let old := slotAt s n
    let new := change r old
    match hearthRefusal r s old new with
    | some st => cfgDeny s st
    | none => cfgDone (directSlot (setSlot s n (fun _ => new)) n old new))

/-- Picks the CFG_HEARTH requests with an OP. -/
def hearthPick (op : Nat) (r : CfgReq) : Bool := r.code == 0x0F && hearthOp r == op

/-- R207: OP 0, SET: the whole slot, its state cleared, its pending sample discarded. -/
def execCfgHearthSet (c : Nat) (s : State) : Host.Outcome State Fault Refusal := .next (serveCfg c (hearthPick 0) (configureSlot slotFields) s)

/-- R211: OP 1, COEF: sets, REGIONS and HYST at a sample boundary, the state kept. -/
def execCfgHearthCoef (c : Nat) (s : State) : Host.Outcome State Fault Refusal := .next (serveCfg c (hearthPick 1) (configureSlot coefFields) s)

/-- R207: a removed slot keeps its counts. -/
def removedSlot (_ : CfgReq) (x : Slot) : Slot :=
  { evals := x.evals, delayed := x.delayed, replaced := x.replaced, drops := x.drops, swaps := x.swaps, asSeen := x.asSeen, qsSeen := x.qsSeen }

/-- R207, R209: OP 2, REMOVE: the slot is in use no longer; its counts stay. -/
def execCfgHearthRemove (c : Nat) (s : State) : Host.Outcome State Fault Refusal :=
  .next (serveCfg c (hearthPick 2) (configureSlot removedSlot) s)

/-- R207, R208: OP 3, CLEAR: the state cleared; a pending sample survives (R211). -/
def execCfgHearthClear (c : Nat) (s : State) : Host.Outcome State Fault Refusal := .next (serveCfg c (hearthPick 3) (configureSlot (fun _ => clearState)) s)

end Sys2Proof.Machine
end

