-- ==== Sys2Proof/Machine/Integer.lean ====
section
/-! DEFINITION. OPA, OPI and the upper-immediate instructions (R67 to R70). -/

namespace Sys2Proof.Machine
open Sys2Proof

/-- An OPA instruction that writes rd and raises nothing. -/
def opa (k fn : Nat) (f : FmtA) (val : Ctx → BitVec 64) (s : State) : Host.Outcome State Fault Refusal :=
  .next (runInsn k (encA 0x00 fn f) (writes f.rd val) s)

/-- An OPA instruction that writes rd and may raise conditions (R73). -/
def opaC (k fn : Nat) (f : FmtA) (val : Ctx → Int × Conds) (s : State) : Host.Outcome State Fault Refusal :=
  .next (runInsn k (encA 0x00 fn f) (fun _ s x => withConds (val x).2 s x (rset x f.rd (signedResult f (val x).1))) s)

/-- R67: rd := rs1 + rs2, wrapping. Log 7 (DESIGN CHOICE). -/
def execAddR (k : Nat) (f : FmtA) (s : State) : Host.Outcome State Fault Refusal :=
  opa k 0x00 f (intForm f (· + ·) (· + ·)) s

/-- R67: rd := rs1 - rs2, wrapping. -/
def execSubR (k : Nat) (f : FmtA) (s : State) : Host.Outcome State Fault Refusal :=
  opa k 0x01 f (intForm f (· - ·) (· - ·)) s

/-- R67: rd := rs1 and rs2. -/
def execAndR (k : Nat) (f : FmtA) (s : State) : Host.Outcome State Fault Refusal :=
  opa k 0x02 f (intForm f (· &&& ·) (· &&& ·)) s

/-- R67: rd := rs1 or rs2. -/
def execOrR (k : Nat) (f : FmtA) (s : State) : Host.Outcome State Fault Refusal :=
  opa k 0x03 f (intForm f (· ||| ·) (· ||| ·)) s

/-- R67: rd := rs1 xor rs2. -/
def execXorR (k : Nat) (f : FmtA) (s : State) : Host.Outcome State Fault Refusal :=
  opa k 0x04 f (intForm f (· ^^^ ·) (· ^^^ ·)) s

/-- R67: rd := rs1 and not rs2. -/
def execAndn (k : Nat) (f : FmtA) (s : State) : Host.Outcome State Fault Refusal :=
  opa k 0x05 f (intForm f (fun a b => a &&& ~~~b) (fun a b => a &&& ~~~b)) s

/-- R67: logical left shift. -/
def execShl (k : Nat) (f : FmtA) (s : State) : Host.Outcome State Fault Refusal :=
  opa k 0x06 f (shiftForm f (· <<< ·) (· <<< ·)) s

/-- R67: logical right shift. -/
def execShr (k : Nat) (f : FmtA) (s : State) : Host.Outcome State Fault Refusal :=
  opa k 0x07 f (shiftForm f (· >>> ·) (· >>> ·)) s

/-- R67: arithmetic right shift. -/
def execSar (k : Nat) (f : FmtA) (s : State) : Host.Outcome State Fault Refusal :=
  opa k 0x08 f (shiftForm f BitVec.sshiftRight BitVec.sshiftRight) s

/-- R67: rotate right. -/
def execRor (k : Nat) (f : FmtA) (s : State) : Host.Outcome State Fault Refusal :=
  opa k 0x09 f (shiftForm f BitVec.rotateRight BitVec.rotateRight) s

/-- R67: rd := 1 if rs1 < rs2 signed, else 0. -/
def execSlt (k : Nat) (f : FmtA) (s : State) : Host.Outcome State Fault Refusal :=
  opa k 0x0A f (compareForm f BitVec.slt BitVec.slt) s

/-- R67: rd := 1 if rs1 < rs2 unsigned, else 0. -/
def execSltu (k : Nat) (f : FmtA) (s : State) : Host.Outcome State Fault Refusal :=
  opa k 0x0B f (compareForm f BitVec.ult BitVec.ult) s

/-- R67: signed minimum. -/
def execMinR (k : Nat) (f : FmtA) (s : State) : Host.Outcome State Fault Refusal :=
  opa k 0x0C f (intForm f (fun a b => if BitVec.slt b a then b else a) (fun a b => if BitVec.slt b a then b else a)) s

/-- R67: signed maximum. -/
def execMaxR (k : Nat) (f : FmtA) (s : State) : Host.Outcome State Fault Refusal :=
  opa k 0x0D f (intForm f (fun a b => if BitVec.slt a b then b else a) (fun a b => if BitVec.slt a b then b else a)) s

/-- R67: unsigned minimum. -/
def execMinu (k : Nat) (f : FmtA) (s : State) : Host.Outcome State Fault Refusal :=
  opa k 0x0E f (intForm f (fun a b => if BitVec.ult b a then b else a) (fun a b => if BitVec.ult b a then b else a)) s

/-- R67: unsigned maximum. -/
def execMaxu (k : Nat) (f : FmtA) (s : State) : Host.Outcome State Fault Refusal :=
  opa k 0x0F f (intForm f (fun a b => if BitVec.ult a b then b else a) (fun a b => if BitVec.ult a b then b else a)) s

/-- R67: a signed value saturated to the operation's width, with IS when it saturates. -/
def satInt (f : FmtA) (v : Int) : Int × Conds :=
  (clampS (intWidth f) v, condIf (clampS (intWidth f) v != v) condIS)

/-- R67: signed add, saturating; sets IS when it saturates. -/
def execAdds (k : Nat) (f : FmtA) (s : State) : Host.Outcome State Fault Refusal :=
  opaC k 0x10 f (fun x => satInt f ((signedArgs f x).1 + (signedArgs f x).2)) s

/-- R67: signed subtract, saturating; sets IS when it saturates. -/
def execSubs (k : Nat) (f : FmtA) (s : State) : Host.Outcome State Fault Refusal :=
  opaC k 0x11 f (fun x => satInt f ((signedArgs f x).1 - (signedArgs f x).2)) s

/-- R67: leading zero bits of rs1. -/
def execClz (k : Nat) (f : FmtA) (s : State) : Host.Outcome State Fault Refusal :=
  opa k 0x12 f (fun x => BitVec.ofNat 64 (leadingZeros (intWidth f) (rget x f.rs1).toNat)) s

/-- R67: one bits of rs1. -/
def execPopc (k : Nat) (f : FmtA) (s : State) : Host.Outcome State Fault Refusal :=
  opa k 0x13 f (fun x => BitVec.ofNat 64 (onesIn (intWidth f) (rget x f.rs1).toNat)) s

/-- R67: low half of the product. -/
def execMul (k : Nat) (f : FmtA) (s : State) : Host.Outcome State Fault Refusal :=
  opa k 0x18 f (intForm f (· * ·) (· * ·)) s

/-- R67: high half of the signed double-width product. -/
def execMulh (k : Nat) (f : FmtA) (s : State) : Host.Outcome State Fault Refusal :=
  opa k 0x19 f (fun x => signedResult f ((signedArgs f x).1 * (signedArgs f x).2 / (2 ^ intWidth f : Nat))) s

/-- R67: high half of the unsigned double-width product. -/
def execMulhu (k : Nat) (f : FmtA) (s : State) : Host.Outcome State Fault Refusal :=
  opa k 0x1A f (fun x => signedResult f ((unsignedArgs f x).1 * (unsignedArgs f x).2 / 2 ^ intWidth f : Nat)) s

/-- R68: the signed quotient and remainder, saturating, with IDZ and IS. -/
def divSigned (f : FmtA) (a b : Int) : Int × Int × Conds :=
  if b = 0 then (if 0 ≤ a then maxSigned f else minSigned f, 0, condIDZ)
  else if a = minSigned f ∧ b = -1 then (maxSigned f, 0, condIS)
  else (a.tdiv b, a.tmod b, 0)

/-- R68: the unsigned quotient and remainder, with IDZ. -/
def divUnsigned (f : FmtA) (a b : Nat) : Nat × Nat × Conds :=
  if b = 0 then (2 ^ intWidth f - 1, 0, condIDZ) else (a / b, a % b, 0)

/-- R68: signed quotient, truncated toward zero. -/
def execDivR (k : Nat) (f : FmtA) (s : State) : Host.Outcome State Fault Refusal :=
  opaC k 0x1C f (fun x => let r := divSigned f (signedArgs f x).1 (signedArgs f x).2; (r.1, r.2.2)) s

/-- R68: unsigned quotient. -/
def execDivu (k : Nat) (f : FmtA) (s : State) : Host.Outcome State Fault Refusal :=
  opaC k 0x1D f (fun x => let r := divUnsigned f (unsignedArgs f x).1 (unsignedArgs f x).2; ((r.1 : Int), r.2.2)) s

/-- R68: signed remainder, with the sign of the dividend. -/
def execRem (k : Nat) (f : FmtA) (s : State) : Host.Outcome State Fault Refusal :=
  opaC k 0x1E f (fun x => let r := divSigned f (signedArgs f x).1 (signedArgs f x).2; (r.2.1, r.2.2)) s

/-- R68: unsigned remainder. -/
def execRemu (k : Nat) (f : FmtA) (s : State) : Host.Outcome State Fault Refusal :=
  opaC k 0x1F f (fun x => let r := divUnsigned f (unsignedArgs f x).1 (unsignedArgs f x).2; ((r.2.1 : Int), r.2.2)) s

/-- R67: rd := rs1 if the old rd is not 0, else rs2; in the W form the low 32 bits count and are sign-extended. -/
def execSelR (k : Nat) (f : FmtA) (s : State) : Host.Outcome State Fault Refusal :=
  opa k 0x20 f (fun x =>
    let old := rget x f.rd
    if isW f then wide (lo32 (if lo32 old ≠ 0 then rget x f.rs1 else rget x f.rs2))
    else if old ≠ 0 then rget x f.rs1 else rget x f.rs2) s

/-! ### OPI (R69) -/

/-- An OPI instruction. -/
def opi (k fn3 : Nat) (f : FmtI) (val : BitVec 64 → BitVec 64) (s : State) : Host.Outcome State Fault Refusal :=
  .next (runInsn k (encI 0x01 fn3 f) (writes f.rd (fun x => val (rget x f.rs1))) s)

/-- R69: rd := rs1 + k, wrapping. -/
def execAddk (k : Nat) (f : FmtI) (s : State) : Host.Outcome State Fault Refusal := opi k 0 f (· + immS f) s

/-- R69: a 32-bit add, the result sign-extended. -/
def execAddkw (k : Nat) (f : FmtI) (s : State) : Host.Outcome State Fault Refusal :=
  opi k 1 f (fun a => wide (lo32 a + lo32 (immS f))) s

/-- R69: rd := rs1 and k. -/
def execAndk (k : Nat) (f : FmtI) (s : State) : Host.Outcome State Fault Refusal := opi k 2 f (· &&& immZ f) s

/-- R69: rd := rs1 or k. -/
def execOrk (k : Nat) (f : FmtI) (s : State) : Host.Outcome State Fault Refusal := opi k 3 f (· ||| immZ f) s

/-- R69: rd := rs1 xor k. -/
def execXork (k : Nat) (f : FmtI) (s : State) : Host.Outcome State Fault Refusal := opi k 4 f (· ^^^ immZ f) s

/-- R69: rd := -1, 0 or +1 as rs1 is less than, equal to or greater than k, signed. -/
def execCmpk (k : Nat) (f : FmtI) (s : State) : Host.Outcome State Fault Refusal :=
  opi k 5 f (fun a => if BitVec.slt a (immS f) then -1 else if a = immS f then 0 else 1) s

/-- R69: SHL, SHR, SAR or ROR by a constant. -/
def execShk (k : Nat) (f : FmtI) (s : State) : Host.Outcome State Fault Refusal :=
  opi k 6 f (fun a => match immSel f with
    | 0 => a <<< immAmount f
    | 1 => a >>> immAmount f
    | 2 => a.sshiftRight (immAmount f)
    | _ => a.rotateRight (immAmount f)) s

/-- R69: sets, clears, inverts or extracts a bit. -/
def execBitk (k : Nat) (f : FmtI) (s : State) : Host.Outcome State Fault Refusal :=
  opi k 7 f (fun a =>
    let bit : BitVec 64 := 1 <<< immAmount f
    match immSel f with
    | 0 => a ||| bit
    | 1 => a &&& ~~~bit
    | 2 => a ^^^ bit
    | _ => boolWord (a.getLsbD (immAmount f))) s

/-! ### Upper immediates (R70) -/

/-- R70: rd := imm20 shifted left by 12, sign-extended from bit 31. -/
def execLui (k : Nat) (f : FmtU) (s : State) : Host.Outcome State Fault Refusal :=
  .next (runInsn k (encU 0x02 f) (writes f.rd (fun _ => (f.imm.setWidth 32 <<< 12).signExtend 64)) s)

/-- R70: replaces bits [63:44] of rd with imm20. -/
def execLuh (k : Nat) (f : FmtU) (s : State) : Host.Outcome State Fault Refusal :=
  .next (runInsn k (encU 0x03 f) (writes f.rd (fun x => (f.imm.setWidth 64 <<< 44) ||| zext 44 (rget x f.rd))) s)

/-- R70: rd := PC + 4 × sign-extended imm20. -/
def execAdpc (k : Nat) (f : FmtU) (s : State) : Host.Outcome State Fault Refusal :=
  .next (runInsn k (encU 0x04 f) (writes f.rd (fun x => x.pc.setWidth 64 + 4 * f.imm.signExtend 64)) s)

end Sys2Proof.Machine
end

