-- ==== Sys2Proof/Machine/Io.lean ====
section
/-! DEFINITION. The 24 V inputs, the output banks and the Shutter: configuration, events and status (R308 to R321, R404). -/

namespace Sys2Proof.Machine
open Sys2Proof

/-- The input unit. -/
abbrev inputUnit : UnitId := utilUnit 16

/-! ### Inputs (R309 to R313) -/

def inputBlock (s : State) (b : Nat) : InputBlock := tget {} s.inputs.blocks b

/-- R310: the CFG_INPUT body. -/
def inputFields (r : CfgReq) : InputBlock :=
  let a := r.word 2
  { type3 := bitAt a 3, enable := BitVec.ofNat 8 (fld a 8 8), filterUs := fld a 16 16, invert := BitVec.ofNat 8 (fld a 32 8)
    countEn := BitVec.ofNat 8 (fld a 40 8), testPeriod := fld (r.word 3) 0 12 }

/-- R310: the cases that fault. -/
def inputOk (b : Nat) (x : InputBlock) : Bool :=
  (10 ≤ x.filterUs || (x.filterUs == 0 && x.enable == 0)) && x.testPeriod ≤ 3600 && (b < 2 || x.countEn == 0)

/-- The input is enabled. -/
def inputOn (s : State) (n : Nat) : Bool := (inputBlock s (n / 8)).enable.getLsbD (n % 8)

/-- One bit of a word set to a value. -/
def setBit64 (w : BitVec 64) (n : Nat) (v : Bool) : BitVec 64 :=
  let m : BitVec 64 := BitVec.ofNat 64 (2 ^ n)
  if v then w ||| m else w &&& ~~~ m

/-- R309: a filtered state goes into the point image, but on a STANDBY, which discards it (R236). Log 74 (DEDUCED). -/
def publishInput (s : State) (n : Nat) (level : Bool) : State :=
  let s := { s with inputs := { s.inputs with state := setBit64 s.inputs.state n level } }
  if s.twin.role = .standby then s else setPoint s n { v := if level then 1 else 0 }

/-- R308: the level of a comparator with hysteresis, of Type 1 or Type 3. Log 74 (DEDUCED). -/
def comparator (type3 : Bool) (mv : Nat) (was : Bool) : Bool :=
  if (if type3 then 8000 else 11000) ≤ mv then true else if mv ≤ (if type3 then 7000 else 9500) then false else was

/-- R309: the samples, one each µs, that fall after one tick up to another. Log 74 (DEDUCED). -/
def samplesAfter (a b : Nat) : Nat := b / 125 - a / 125

/-- R308, R309: a pin at a voltage. A level that comes and goes between two samples is none that they see. -/
def InputPin.drive (type3 : Bool) (mv tick : Nat) (p : InputPin) : InputPin :=
  let level := comparator type3 mv p.raw
  if level = p.raw then { p with mv }
  else if samplesAfter p.since tick = 0 then { p with mv, raw := level, since := p.prior }
  else { mv, raw := level, since := tick, prior := p.since }

def pinAt (s : State) (n : Nat) : InputPin := tget {} s.inputs.pins n

def setPin (s : State) (n : Nat) (f : InputPin → InputPin) : State := { s with inputs := { s.inputs with pins := tmod {} s.inputs.pins n f } }

/-- R309: the samples of some inputs begin anew: of those that go on sampling, that a change of INVERT gives another level. -/
def resample (s : State) (inputs : List Nat) : State :=
  inputs.foldl (fun s n => setPin s n (fun p => { p with since := s.tick, prior := s.tick })) s

/-- R310: the new thresholds act at once; the samples of an input begin anew where it is now enabled, or has another INVERT, and the count so
far is kept elsewhere. Log 74 (DEDUCED). -/
def repin (s : State) (b : Nat) (old new : InputBlock) : State :=
  let s := (rangeFrom (8 * b) 8).foldl (fun s n => setPin s n (fun p => p.drive new.type3 p.mv s.tick)) s
  resample s ((rangeFrom (8 * b) 8).filter (fun n =>
    (new.enable.getLsbD (n % 8) && !old.enable.getLsbD (n % 8)) || new.invert.getLsbD (n % 8) != old.invert.getLsbD (n % 8)))

/-- R310: CFG_INPUT: an input that is now disabled reads 0 (R309). -/
def configureInput (r : CfgReq) (s : State) : CfgOut :=
  buildingCfg s (cfgUnitOnly r s (· == inputUnit) (fun _ =>
    let b := fld (r.word 2) 0 3
    let x := inputFields r
    if !inputOk b x then cfgDeny s (stFault .range) else
    let s := repin { s with inputs := { s.inputs with blocks := tset {} s.inputs.blocks b x } } b (inputBlock s b) x
    cfgDone (((rangeFrom (8 * b) 8).filter (fun n => !inputOn s n)).foldl (fun s n => publishInput s n false) s)))

/-- R310: CFG_INPUT. -/
def execCfgInput (c : Nat) (s : State) : Host.Outcome State Fault Refusal := .next (serveCfg c (cfgCode 0x0C) configureInput s)

/-- R309, R311, R264: the filtered state of an input changes, after INVERT: the image follows, a rising edge counts, and a quiet floor
wakes. Without VFIELD no input is sampled (R404), and what it samples does not reach the house die over a utility link that is down; it counts there all the same (R311). Log 74 (DEDUCED). -/
def inputChange (n : Nat) (level : Bool) (s : State) : State :=
  if 63 < n || !s.boot.vfield || !inputOn s n || s.inputs.state.getLsbD n == level then s else
  let counts := level && n < 16 && (inputBlock s (n / 8)).countEn.getLsbD (n % 8)
  let s := if counts then { s with inputs := { s.inputs with counts := tset 0 s.inputs.counts n ((tget 0 s.inputs.counts n + 1) % 2 ^ 32) } } else s
  if utilDown s then { s with inputs := { s.inputs with state := setBit64 s.inputs.state n level } } else wakeFloor (publishInput s n level)

/-- R309: the level that the samples of an input hold, after INVERT, once they have held it for FILTER_US. -/
def filteredLevel (s : State) (n : Nat) : Option Bool :=
  let b := inputBlock s (n / 8)
  if b.filterUs ≤ samplesAfter (pinAt s n).since s.tick then some ((pinAt s n).raw != b.invert.getLsbD (n % 8)) else none

/-- R308, R309: the pin of an input stands at a voltage; what its samples have held for FILTER_US becomes its filtered state. Log 74 (DEDUCED). -/
def inputPin (n mv : Nat) (s : State) : State :=
  if 63 < n then s else
  let s := setPin s n (fun p => p.drive (inputBlock s (n / 8)).type3 mv s.tick)
  match filteredLevel s n with
  | some level => inputChange n level s
  | none => s

/-- R309: an input changes. -/
def execDiChange (n : Nat) (mv : Nat) (s : State) : Host.Outcome State Fault Refusal := .next (clocked s (inputPin n mv s))

/-- R313: a self-test of an input is due: TEST_PERIOD has passed since its last. -/
def testDue (s : State) (n : Nat) : Bool :=
  let period := (inputBlock s (n / 8)).testPeriod
  period != 0 && (match tlook s.inputs.tested n with
    | some t => t + ticksMs (1000 * period) ≤ s.tick
    | none => true)

/-- R313: a self-test of an input ends; TEST_FAIL tells of the last one. Log 74 (DEDUCED). -/
def inputTest (n : Nat) (pass : Bool) (s : State) : State :=
  if 63 < n || !s.boot.vfield || !inputOn s n || !testDue s n then s else
  let s := { s with inputs := { s.inputs with testFail := setBit64 s.inputs.testFail n (!pass), tested := tput s.inputs.tested n s.tick } }
  if pass then s else raiseEvent s [(pointCfg s n).owner, 0] 4 inputUnit stDone []

/-- R313: an input self-test. -/
def execDiSelfTest (n : Nat) (pass : Bool) (s : State) : Host.Outcome State Fault Refusal := .next (clocked s (inputTest n pass s))

/-- R312: a count as a requester of a suite reads it. -/
def countFor (s : State) (suite n : Nat) : Nat := if mayRead s suite n then tget 0 s.inputs.counts n else 0

/-- R312: DI_COUNTS. -/
def execDiCounts (q : CmdQueue) (s : State) : Host.Outcome State Fault Refusal :=
  .next (unitCommand q (withCode 0xA0) false (fun c t s => onUnit t (· == inputUnit) s
    { s, st := stDone, payload := (List.range 8).map (fun j => pack [(0, 32, countFor s c.suite (2 * j)), (32, 32, countFor s c.suite (2 * j + 1))]) }) s)

/-- R313: status words 1 and 2 of the input unit. -/
def inputStatus (s : State) : List (BitVec 64) := [s.inputs.state, s.inputs.testFail]

/-! ### CFG_BANK (R318, R319) -/

/-- R318: the CFG_BANK body. -/
def bankFields (r : CfgReq) : BankCfg :=
  let a := r.word 2
  let b := r.word 3
  { policy := fld a 0 2, enable := bitAt a 2, shutterMs := fld a 4 14, safeValue := BitVec.ofNat 8 (fld a 18 8)
    openDetect := BitVec.ofNat 8 (fld a 26 8), retryMs := fld b 0 16, maxRetries := fld b 16 8, deadUs := fld b 32 16 }

/-- The number of bits set in a byte. -/
def popcount8 (v : BitVec 8) : Nat := ((List.range 8).filter (fun i => v.getLsbD i)).length

/-- R319: the cases that fault. -/
def bankOk (s : State) (b : Nat) (c : BankCfg) : Bool :=
  c.policy ≤ 2 && c.shutterMs ≤ 10000 && (c.retryMs == 0 || (100 ≤ c.retryMs && c.retryMs ≤ 60000)) &&
    (!c.enable || (c.shutterMs != 0 && c.retryMs != 0)) && (c.policy == 0 || popcount8 c.safeValue ≤ 1) &&
    (List.range 8).all (fun i => !(c.safeValue.getLsbD i && pulseClaims s (8 * b + i)))

/-- The waiting outputs of a bank, in request order. -/
def pendingOutputs (s : State) (b : Nat) : List Nat :=
  let l := (bankOutputs b).filterMap (fun n => (outputAt s n).pendingAt.map (fun k => (k, n)))
  (l.foldl (fun (acc : Table Nat) e => tput acc e.1 e.2) []).map (·.2)

/-- R319: what a new policy does to the pending requests. -/
def repolice (s : State) (b : Nat) : State :=
  match (bankAt s b).cfg.policy with
  | 0 => (pendingOutputs s b).foldl turnOn s
  | 2 => (pendingOutputs s b).foldl (fun s n =>
      raiseEvent (setOutput s n (fun o => { o with pendingAt := none, status := stRefused .overlap }))
        [(pointCfg s (0x40 + n)).owner] 2 (utilUnit b) (stRefused .overlap) []) s
  | _ => s

/-- R318: outputs that no task's value holds stand at SAFE_VALUE. Log 75 (DEDUCED). -/
def restandSafe (s : State) (b : Nat) : State :=
  if !bankClosed s b then s else
  ((bankOutputs b).filter (fun n => !(outputAt s n).touched && !isPulseOut s n)).foldl (fun s n =>
    if safeOn s n then conduct s n true else turnOff s n) s

/-- R319: CFG_BANK. -/
def configureBank (r : CfgReq) (s : State) : CfgOut :=
  buildingCfg s (cfgUnitOnly r s (fun u => match u with | .part p => p.cls == 7 && p.inst < 6 | _ => false) (fun u =>
    let b := match u with | .part p => p.inst | _ => 0
    let c := bankFields r
    if !bankOk s b c then cfgDeny s (stFault .range)
    else if (bankAt s b).cfg.enable && !c.enable && (loadedTasks s).any (fun t => t.2.desc.outList.any (fun e => isDo e && (e - 0x40) / 8 == b)) then
      cfgDeny s (stRefused .state)
    else
      let s := setBank s b (fun x => { x with cfg := c, retries := 0, state := if x.state = .lockedOut then .opened else x.state })
      cfgDone (restandSafe (settleBank (repolice s b) b) b)))

/-- R318: CFG_BANK. -/
def execCfgBank (c : Nat) (s : State) : Host.Outcome State Fault Refusal := .next (serveCfg c (cfgCode 0x0D) configureBank s)

/-! ### Bank events (R316, R317) -/

/-- R316: the output that waits longest turns on, when nothing of the bank is on and DEAD_US has passed. -/
def serialiseTurnOn (b : Nat) (s : State) : State :=
  match pendingOutputs s b with
  | [] => s
  | n :: _ =>
    let on := (bankOutputs b).any (fun m => !isPulseOut s m && (outputAt s m).conducting)
    if on || inDeadTime s b || !bankClosed s b then s else turnOn s n

/-- R316: a waiting output turns on. -/
def execSerialiseTurnOn (bank : Nat) (s : State) : Host.Outcome State Fault Refusal := .next (clocked s (serialiseTurnOn bank s))

/-- The suites that own an output of a bank. -/
def bankOwners (s : State) (b : Nat) : List Nat := (bankOutputs b).map (fun n => (pointCfg s (0x40 + n)).owner)

/-- R317: a bank trips. -/
def bankTrip (b : Nat) (s : State) : State :=
  let x := bankAt s b
  if 5 < b || x.state ≠ .closed then s else
  let lock := x.retries == x.cfg.maxRetries
  let s := openBank s b (if lock then .lockedOut else .tripped)
  let s := setBank s b (fun x => { x with
    trips := bump 8 x.trips, retries := if lock then x.retries else x.retries + 1, retryDue := s.tick + ticksMs x.cfg.retryMs })
  let s := (bankOutputs b).foldl (fun s n => let o := outputAt s n
    if o.touched && o.committed then setOutput s n (fun o => { o with status := stRefused .power }) else s) s
  raiseEvent s (0 :: bankOwners s b) 4 (utilUnit b) (stRefused .power) []

/-- R317: a bank trips. -/
def execBankTrip (bank : Nat) (s : State) : Host.Outcome State Fault Refusal := .next (bankTrip bank s)

/-- R317: RETRY_MS after a trip the bank switch closes again. -/
def bankRetry (b : Nat) (s : State) : State :=
  let x := bankAt s b
  if x.state ≠ .tripped || s.tick < x.retryDue then s else settleBank (setBank s b (fun x => { x with state := .opened })) b

/-- R317: a bank retries. -/
def execBankRetry (bank : Nat) (s : State) : Host.Outcome State Fault Refusal := .next (clocked s (bankRetry bank s))

/-- R317: a bank that has stayed closed for 1 s has no failed retries. -/
def execBankRetryCountClear (bank : Nat) (s : State) : Host.Outcome State Fault Refusal :=
  .next (clocked s (
    if (bankAt s bank).state = .closed && (bankAt s bank).closedTick + ticksMs 1000 ≤ s.tick then setBank s bank (fun x => { x with retries := 0 }) else s))

/-- R317: an output shuts down. -/
def outputShutdown (n : Nat) (s : State) : State :=
  if !(outputAt s n).conducting then s else setOutput (turnOff s n) n (fun o => { o with overload := true, status := stRefused .power })

/-- R317: an output's own limit turns it off. -/
def execOutputShutdown (out : Nat) (s : State) : Host.Outcome State Fault Refusal := .next (outputShutdown out s)

/-! ### The Shutter and the readback (R320, R321) -/

/-- R320: the Shutter drives a live output safe. Log 75 (DEDUCED). -/
def shutterTimeout (n : Nat) (s : State) : State :=
  let c := (bankAt s (n / 8)).cfg
  let o := outputAt s n
  if !o.live || isPulseOut s n || !runsTasks s || c.shutterMs = 0 || s.tick < o.releasedTick + ticksMs c.shutterMs then s else
  let s := setOutput (driveSafe s n) n (fun o => { o with shutterSafe := true })
  let s := setBank s (n / 8) (fun x => { x with shutterTrips := bump 8 x.shutterTrips })
  raiseEvent s [(pointCfg s (0x40 + n)).owner, 0] 5 (engineUnit 5) stDone []

/-- R320: the Shutter acts. -/
def execShutterTimeout (out : Nat) (s : State) : Host.Outcome State Fault Refusal := .next (shutterTimeout out s)

/-- R321: a sense flag may rise: STUCK when 100 µs have passed since the switch changed; OPEN when, with OPEN_DETECT set, the bank has been
closed and the output off for 10 ms. -/
def flagMayRise (s : State) (n : Nat) (isOpen : Bool) : Bool :=
  let o := outputAt s n
  let b := bankAt s (n / 8)
  if isOpen then b.cfg.openDetect.getLsbD (n % 8) && b.state == .closed && !o.conducting && b.closedTick + ticksMs 10 ≤ s.tick &&
      o.switched.getD 0 + ticksMs 10 ≤ s.tick
  else (match o.switched with
    | some t => t + ticksUs 100 ≤ s.tick
    | none => false)

/-- R321: a sense flag may clear: 10 ms have passed since it rose. Log 75 (DEDUCED). -/
def flagMayClear (s : State) (n : Nat) (isOpen : Bool) : Bool :=
  (if isOpen then (outputAt s n).openSince else (outputAt s n).stuckSince) + ticksMs 10 ≤ s.tick

/-- R321: a sense flag rises or clears. Log 75 (DEDUCED). -/
def senseFlag (n : Nat) (isOpen rise : Bool) (s : State) : State :=
  let o := outputAt s n
  let was := if isOpen then o.openLoad else o.stuck
  if 47 < n || was == rise || !(if rise then flagMayRise s n isOpen else flagMayClear s n isOpen) then s else
  let s := setOutput s n (fun o => if isOpen then { o with openLoad := rise, openSince := s.tick } else { o with stuck := rise, stuckSince := s.tick })
  if rise then raiseEvent s [(pointCfg s (0x40 + n)).owner] 3 (utilUnit (n / 8)) stDone [] else s

/-- R321: a sense flag changes. -/
def execOutputSenseFlag (out : Nat) (isOpen rise : Bool) (s : State) : Host.Outcome State Fault Refusal := .next (clocked s (senseFlag out isOpen rise s))

/-! ### VFIELD (R404) -/

/-- R404: without VFIELD every output is off. Log 74 (DEDUCED). -/
def execVfieldLoss (s : State) : Host.Outcome State Fault Refusal :=
  .next (if s.boot.vfield then settleBanks { s with boot := { s.boot with vfield := false } } else s)

/-- R404, R309: VFIELD returns, and the samples of the inputs begin anew. Log 74 (DEDUCED). -/
def execVfieldReturn (s : State) : Host.Outcome State Fault Refusal :=
  .next (if s.boot.vfield then s else settleBanks (resample { s with boot := { s.boot with vfield := true } } (List.range 64)))

/-! ### Status (R321) -/

/-- R321: the bank current is the outside's: a free value, while the bank switch is closed. Log 65 (DESIGN CHOICE). -/
def measureBank (s : State) (b : Nat) : State :=
  let w := Config.freeWord s.free
  setBank { s with free := s.free + 1 } b (fun x => { x with bankMa := if x.state = .closed then fld w 0 16 else 0 })

/-- R321: status words 1 to 3 of a bank. -/
def bankStatus (s : State) (b : Nat) : List (BitVec 64) :=
  let x := bankAt s b
  let bits := fun (f : Output → Bool) => ((List.range 8).map (fun i => b2n (f (outputAt s (8 * b + i))) * 2 ^ i)).sum
  [pack [(0, 2, x.state.ctorIdx), (2, 8, bits (·.conducting)), (10, 8, bits (·.pendingAt.isSome)), (18, 8, bits (·.shutterSafe)), (32, 16, x.bankMa),
     (48, 8, x.trips), (56, 8, x.shutterTrips)],
   pack ((List.range 8).map (fun i => (8 * i, 8, Status.byte (outputAt s (8 * b + i)).status))),
   pack [(0, 8, bits (·.openLoad)), (8, 8, bits (·.stuck)), (16, 8, bits (·.overload))]]

end Sys2Proof.Machine
end

