-- ==== Sys2Proof/Machine/Meter.lean ====
section
/-! DEFINITION. The Meter cupboard: configuration, windows and their quantities, energies, pulse outputs and registers (R322 to
R337). -/

namespace Sys2Proof.Machine
open Sys2Proof

/-! ### Exact rationals: an integer over a positive number -/

abbrev Ratio := Int × Nat

/-- A rational in lowest terms. -/
def rnorm (q : Ratio) : Ratio :=
  let g := Nat.gcd q.1.natAbs q.2
  if g = 0 then (0, 1) else (q.1 / (g : Int), q.2 / g)

def radd (a b : Ratio) : Ratio := rnorm (a.1 * b.2 + b.1 * a.2, a.2 * b.2)

def rmul (a b : Ratio) : Ratio := rnorm (a.1 * b.1, a.2 * b.2)

def rneg (a : Ratio) : Ratio := (-a.1, a.2)

def rsum (l : List Ratio) : Ratio := l.foldl radd (0, 1)

/-- The rational that REAL32 bits spell; an infinity or NaN counts as 0. -/
def ofReal32 (b : BitVec 32) : Ratio :=
  let e := b.toNat / 2 ^ 23 % 256
  let f := b.toNat % 2 ^ 23
  let m : Nat := if e = 0 then f else 2 ^ 23 + f
  let x := max e 1
  if e = 255 then (0, 1) else
  let v : Ratio := if 150 ≤ x then ((m * 2 ^ (x - 150) : Nat), 1) else rnorm ((m : Int), 2 ^ (150 - x))
  if b.getLsbD 31 then rneg v else v

/-- R325: a positive finite number. -/
def positiveFinite (b : BitVec 32) : Bool := !b.getLsbD 31 && b.toNat / 2 ^ 23 % 256 != 255 && b.toNat != 0

/-! ### Names -/

/-- The Meter cupboard unit. -/
abbrev meterUnit : UnitId := engineUnit 4

def circuitAt (s : State) (m : Nat) : Circuit := tget {} s.meter.circuits m

def setCircuit (s : State) (m : Nat) (f : Circuit → Circuit) : State :=
  { s with meter := { s.meter with circuits := tmod {} s.meter.circuits m f } }

def pulseAt (s : State) (n : Nat) : PulseOut := tget {} s.meter.pulses n

def setPulse (s : State) (n : Nat) (f : PulseOut → PulseOut) : State :=
  { s with meter := { s.meter with pulses := tmod {} s.meter.pulses n f } }

/-- R327: the point of a circuit's quantity. -/
def quantity (m off : Nat) : Nat := 0x80 + 46 * m + off

/-- The configuration of a circuit that has been accepted, in force or waiting. -/
def acceptedCircuit (s : State) (m : Nat) : CircuitCfg := ((circuitAt s m).next).getD (circuitAt s m).cfg

/-- R335: this member measures the circuit. -/
def carriedHere (s : State) (c : CircuitCfg) : Bool := !s.addr.paired || c.carrier == s.twin.member

/-! ### CFG_METER (R324, R325) -/

/-- R324: the CIRCUIT body. -/
def circuitFields (r : CfgReq) : CircuitCfg :=
  let a := r.word 2
  { owner := fld a 2 6, enable := bitAt a 8, carrier := bitAt a 9, hz60 := bitAt a 10, single := bitAt a 11, demandS := fld a 32 16
    vScale := BitVec.ofNat 32 (fld (r.word 3) 0 32), iScale := BitVec.ofNat 32 (fld (r.word 3) 32 32)
    vGain := (List.range 4).map (fun i => sfld (r.word 4) (16 * i) 16), iGain := (List.range 3).map (fun i => sfld (r.word 5) (16 * i) 16)
    phc := (List.range 3).map (fun i => sfld (r.word 6) (16 * i) 16) }

/-- R325: the cases of a CIRCUIT body that fault. -/
def circuitOk (m : Nat) (c : CircuitCfg) : Bool :=
  60 ≤ c.demandS && c.demandS ≤ 3600 && c.phc.all (fun p => decide (-5000 ≤ p) && decide (p ≤ 5000)) &&
    (m == 0 || (!c.hz60 && c.vScale == 0 && c.vGain.all (· == 0))) &&
    (!c.enable || (positiveFinite c.iScale && (m != 0 || positiveFinite c.vScale)))

/-- A quantity of a circuit is in a loaded task's list. -/
def circuitListed (s : State) (m : Nat) : Bool := (List.range 46).any (fun o => !(listingSuites s (quantity m o)).isEmpty)

/-- R325: an owner that is disabled or resetting. -/
def ownerBusy (s : State) (n : Nat) : Bool := !(suiteAt s n).enabled || resetting s n

/-- R324, R325: CFG_METER CIRCUIT. -/
def configureCircuit (m : Nat) (r : CfgReq) (s : State) : CfgOut :=
  let c := circuitFields r
  if fld (r.word 2) 0 2 = 3 || !circuitOk m c then cfgDeny s (stFault .range)
  else if (m != 0 && c.enable && !(acceptedCircuit s 0).enable) || ownerBusy s c.owner ||
      (c.owner != (acceptedCircuit s m).owner && circuitListed s m) then cfgDeny s (stRefused .state)
  else cfgDone (setCircuit s m (fun x => { x with next := some c, clear := x.clear || bitAt (r.word 2) 12 }))

/-- R324: the PULSE_OUT body. -/
def pulseFields (m : Nat) (r : CfgReq) : PulseOut :=
  let a := r.word 2
  { circuit := m, enable := bitAt a 4, source := fld a 5 3, widthMs := fld a 8 8, weight := fld (r.word 3) 0 32 }

/-- R324, R325: CFG_METER PULSE_OUT. Log 76 (DEDUCED). -/
def configurePulse (m : Nat) (r : CfgReq) (s : State) : CfgOut :=
  let p := pulseFields m r
  let n := fld (r.word 2) 2 2
  let el := 0x40 + 44 + n
  if 4 < p.source || p.widthMs < 2 || 250 < p.widthMs || p.weight < 1 || 10000000 < p.weight ||
      !(bankAt s 5).cfg.enable || safeOn s (44 + n) then cfgDeny s (stFault .range)
  else if (loadedTasks s).any (fun t => t.2.desc.outList.contains el) then cfgDeny s (stRefused .state)
  else cfgDone { s with meter := { s.meter with pulseNext := tput s.meter.pulseNext n p } }

/-- R324: the REGISTER body. -/
def registerFields (r : CfgReq) : MeterReg :=
  { enable := bitAt (r.word 2) 6, owner := fld (r.word 2) 7 6, weight := fld (r.word 3) 0 32 }

/-- R311: an input counts pulses. -/
def inputCounts (s : State) (n : Nat) : Bool := n < 16 && (inputBlock s (n / 8)).countEn.getLsbD (n % 8)

/-- R324, R325: CFG_METER REGISTER. -/
def configureRegister (m : Nat) (r : CfgReq) (s : State) : CfgOut :=
  let g := registerFields r
  let n := fld (r.word 2) 2 4
  let start := if bitAt (r.word 2) 13 then some (r.word 4).toNat else none
  if m ≠ 0 || g.weight < 1 || 1000000000 < g.weight then cfgDeny s (stFault .range)
  else if ownerBusy s g.owner || !inputCounts s n then cfgDeny s (stRefused .state)
  else
    let start := match start, tlook s.meter.regNext n with | none, some (_, some v) => some v | x, _ => x
    cfgDone { s with meter := { s.meter with regNext := tput s.meter.regNext n (g, start) } }

/-- CFG_METER on a circuit unit. -/
def configureMeter (run : Nat → CfgReq → State → CfgOut) (r : CfgReq) (s : State) : CfgOut :=
  buildingCfg s (cfgUnitOnly r s (fun u => match u with | .part p => p.cls == 7 && 8 ≤ p.inst && p.inst ≤ 15 | _ => false) (fun u =>
    match u with
    | .part p => run (p.inst - 8) r s
    | _ => cfgDeny s (stFault .range)))

/-- R324: OP of a request. Log 9 (DEDUCED). -/
def meterOp (r : CfgReq) : Nat := fld (r.word 2) 0 2

/-- R324: CFG_METER CIRCUIT; one with OP 3 is taken here and refused. -/
def execCfgMeterCircuit (c : Nat) (s : State) : Host.Outcome State Fault Refusal :=
  .next (serveCfg c (fun r => cfgCode 0x0E r && meterOp r != 1 && meterOp r != 2) (configureMeter configureCircuit) s)

/-- R324: CFG_METER PULSE_OUT. -/
def execCfgMeterPulseOut (c : Nat) (s : State) : Host.Outcome State Fault Refusal :=
  .next (serveCfg c (fun r => cfgCode 0x0E r && meterOp r == 1) (configureMeter configurePulse) s)

/-- R324: CFG_METER REGISTER. -/
def execCfgMeterRegister (c : Nat) (s : State) : Host.Outcome State Fault Refusal :=
  .next (serveCfg c (fun r => cfgCode 0x0E r && meterOp r == 2) (configureMeter configureRegister) s)

/-! ### A window's signals (R322, R324, R327)

Voltages are counts times 2^18, currents counts times 2^18 times 32, then times 2^32 by the delays. -/

/-- The factor of a gain correction, times 2^18. -/
def gained (c : Int) (g : Int) : Int := c * (2 ^ 18 + g)

/-- R327: a phase voltage against V3. -/
def voltSignal (w : MeterWindow) (c0 : CircuitCfg) (p : Nat) : List Int :=
  w.samples.map (fun x => gained (x.volts.getD p 0) (c0.vGain.getD p 0) - gained (x.volts.getD 3 0) (c0.vGain.getD 3 0))

/-- R322: the high path of a current channel is used: its magnitude is at most 0.75 of its full scale of 2^23 counts. -/
def highUsed (x : MeterSample) (i : Nat) : Bool := (x.high.getD i 0).natAbs ≤ 6291456

/-- R322: a sample of a current channel is clipped: the unity path is used and stands at full scale. -/
def clipped (x : MeterSample) (i : Nat) : Bool :=
  !highUsed x i && (decide (8388607 ≤ x.unity.getD i 0) || decide (x.unity.getD i 0 ≤ -8388608))

/-- R322: a current as counts of the unity path, times 32. -/
def ampCount (x : MeterSample) (i : Nat) : Int := if highUsed x i then x.high.getD i 0 else 32 * x.unity.getD i 0

/-- R327: a phase current after gain and phase correction, times 2^32, in a window whose cycles last so many samples. -/
def ampSignal (w : MeterWindow) (cycle : Ratio) (m : Nat) (c : CircuitCfg) (p : Nat) : List Int :=
  let raw := w.samples.map (fun x => gained (ampCount x (3 * m + p)) (c.iGain.getD p 0))
  let d := c.phc.getD p 0
  if d = 0 then raw.map (· * 2 ^ 32) else (List.range raw.length).map (Config.phaseDelay raw d cycle)

/-- R327: a voltage delayed by a quarter cycle, times 2^32. Log 77 (DESIGN CHOICE). -/
def quarterSignal (cycle : Ratio) (v : List Int) : List Int :=
  let quarter := rmul cycle (1, 4)
  let d := quarter.1.toNat
  (List.range v.length).map (fun i => if 0 < d && quarter.2 = 1 && d ≤ i then v.getD (i - d) 0 * 2 ^ 32 else Config.quarterDelay v cycle i)

/-! ### The bounds of a window (R326) -/

/-- A phase voltage over a window and the samples on its two sides. -/
def boundedSignal (w : MeterWindow) (c0 : CircuitCfg) (p : Nat) : List Int :=
  voltSignal { w with samples := w.before :: w.samples ++ [w.after] } c0 p

/-- R326, R337: a phase is present: its RMS exceeds 10 % of nominal. A nominal peak is 500 mV at the pin, of which 120 % is full scale (R323).
Log 77 (DESIGN CHOICE). -/
def phasePresent (w : MeterWindow) (c0 : CircuitCfg) (p : Nat) : Bool :=
  let v := voltSignal w c0 p
  decide ((w.samples.length : Int) * 2 ^ 82 < 288 * (List.zipWith (· * ·) v v).foldl (· + ·) 0)

/-- R326: the phase whose crossings bound a window: the lowest-numbered one that is present. -/
def windowPhase (w : MeterWindow) (c0 : CircuitCfg) : Option Nat := (List.range 3).find? (phasePresent w c0)

/-- R326: the mains cycles of a window. -/
def windowCycles (c0 : CircuitCfg) : Nat := if c0.hz60 then 12 else 10

/-- A positive-going zero crossing lies between two samples. -/
def rises (a b : Int) : Bool := decide (a < 0) && decide (0 ≤ b)

/-- R327: how much of the time from one sample to the next lies before the crossing between them. Log 77 (DESIGN CHOICE). -/
def crossing (a b : Int) : Ratio := rnorm (-a, (b - a).toNat)

/-- R326: a window ends here: its bounds are positive-going crossings of its phase with its number of cycles between them; with no phase
present 200 ms have passed, of which a sample takes 128 µs. Log 77 (DESIGN CHOICE). -/
def windowEnds (w : MeterWindow) (c0 : CircuitCfg) : Bool :=
  match windowPhase w c0 with
  | none => w.samples.length == 1562 || w.samples.length == 1563
  | some p =>
    let v := boundedSignal w c0 p
    let up := List.zipWith rises v (v.drop 1)
    up.headD false && up.getLastD false && (up.filter id).length == windowCycles c0 + 1

/-- R326: the length of a window in sample times: from crossing to crossing, or 200 ms. -/
def windowSpan (w : MeterWindow) (c0 : CircuitCfg) : Ratio :=
  match windowPhase w c0 with
  | none => (3125, 2)
  | some p =>
    let v := boundedSignal w c0 p
    let n := w.samples.length
    radd ((n : Int), 1) (radd (crossing (v.getD n 0) (v.getD (n + 1) 0)) (rneg (crossing (v.getD 0 0) (v.getD 1 0))))

/-- R326: the length of a window in ns. -/
def windowNs (w : MeterWindow) (c0 : CircuitCfg) : Ratio := rmul (windowSpan w c0) (128000, 1)

/-- R327: the samples that a cycle lasts; 0 with no phase present. -/
def cycleSpan (w : MeterWindow) (c0 : CircuitCfg) : Ratio :=
  if (windowPhase w c0).isNone then (0, 1) else rmul (windowSpan w c0) (1, windowCycles c0)

/-- R327 FREQ in Hz: the cycles in the window over its length. -/
def windowFreq (w : MeterWindow) (c0 : CircuitCfg) : Ratio :=
  let ns := windowNs w c0
  if (windowPhase w c0).isNone || ns.1 ≤ 0 then (0, 1) else rnorm ((windowCycles c0 * giga * ns.2 : Nat), ns.1.toNat)

/-- R384: a mains frequency within 45 to 65 Hz. -/
def mainsRate (f : Ratio) : Bool := decide (45 * (f.2 : Int) ≤ f.1) && decide (f.1 ≤ 65 * (f.2 : Int))

/-! ### Quantities (R327) -/

/-- The sum of products of two signals. -/
def dot (a b : List Int) : Int := (List.zipWith (· * ·) a b).foldl (· + ·) 0

/-- The volts of one unit of a voltage signal: full scale is 600 mV at 2^23 counts. -/
def voltUnit (c0 : CircuitCfg) : Ratio := rmul (ofReal32 c0.vScale) (6, 10 * 2 ^ 41)

/-- The amperes of one unit of a current signal. -/
def ampUnit (c : CircuitCfg) : Ratio := rmul (ofReal32 c.iScale) (6, 10 * 2 ^ 78)

/-- A rational as REAL32. Log 77 (DESIGN CHOICE). -/
def toReal32 (q : Ratio) : BitVec 32 :=
  let k := 40 + q.2.log2
  let n := q.1.natAbs * 2 ^ k
  BitVec.ofNat 32 (roundF fmt32 (Config.meterRounding q.1 q.2) (q.1 < 0) (2 * (n / q.2) + (if n % q.2 = 0 then 0 else 1)) (-(k : Int) - 1)).1

/-- The root of a rational as REAL32. Log 77 (DESIGN CHOICE). -/
def rootReal32 (q : Ratio) : BitVec 32 :=
  let k := 40 + q.2.log2
  let m := q.1.toNat * 2 ^ (2 * k) / q.2
  let r := isqrt m (m.log2 / 2 + 1) 0
  BitVec.ofNat 32 (roundF fmt32 (Config.meterRounding q.1 q.2) false
    (2 * r + (if r * r * q.2 = q.1.toNat * 2 ^ (2 * k) then 0 else 1)) (-(k : Int) - 1)).1

/-- R327: atan2 of two rationals in degrees: exact on the axes, where they are not both 0. Log 77 (DESIGN CHOICE). -/
def angleReal32 (y x : Ratio) : BitVec 32 :=
  if y.1 = 0 && 0 < x.1 then 0
  else if y.1 = 0 && x.1 < 0 then toReal32 (180, 1)
  else if x.1 = 0 && 0 < y.1 then toReal32 (90, 1)
  else if x.1 = 0 && y.1 < 0 then toReal32 (-90, 1)
  else Config.real32Atan2 (toReal32 y) (toReal32 x)

/-- One over the number of samples. -/
def perSample (w : MeterWindow) : Ratio := (1, max 1 w.samples.length)

/-- The RMS of a signal in a unit. -/
def rmsOf (w : MeterWindow) (unit : Ratio) (x : List Int) : BitVec 32 :=
  rootReal32 (rmul (rmul (dot x x, 1) (rmul unit unit)) (perSample w))

/-- R327: what one window gives for one circuit: the REAL32 quantities at offsets 0 to 31, the exact powers, and the products of
each sample, in watts and vars by the factors `wPer` and `qPer`. -/
structure CircuitWindow where
  reals : List (BitVec 32)
  pTot : Ratio
  qTot : Ratio
  sTot : Ratio
  pPhase : List Ratio
  pSamples : List Int
  qSamples : List Int
  wPer : Ratio
  qPer : Ratio
  len : Ratio
deriving DecidableEq, Repr

/-- A sum of signals, sample by sample. -/
def addSignals (n : Nat) (l : List (List Int)) : List Int :=
  l.foldl (fun acc x => List.zipWith (· + ·) acc x) (List.replicate n 0)

/-- R327: a phase whose I_RMS lies below I_MAX / 4,000 contributes nothing; I_MAX is 0.4 V over I_SCALE. -/
def phaseCounts (w : MeterWindow) (i : List Int) : Bool :=
  let u : Ratio := (6, 10 * 2 ^ 78)
  let sq := rmul (rmul (dot i i, 1) (rmul u u)) (perSample w)
  decide ((sq.2 : Int) ≤ sq.1 * 100000000)

/-- R327: the power factor. -/
def factorOf (p s : Ratio) : BitVec 32 := if s.1 = 0 then toReal32 (0, 1) else toReal32 (rmul p (if 0 < s.1 then ((s.2 : Int), s.1.natAbs) else (-(s.2 : Int), s.1.natAbs)))

/-- R327: the quantities of a circuit in a window. A single-phase circuit's phases 1 and 2 read 0. Log 77 (DESIGN CHOICE), 78 (DEDUCED). -/
def circuitWindow (w : MeterWindow) (m : Nat) (c0 c : CircuitCfg) : CircuitWindow :=
  let n := w.samples.length
  let cycle := cycleSpan w c0
  let mute := fun (p : Nat) (x : List Int) => if c.single && p != 0 then List.replicate n 0 else x
  let v := (List.range 3).map (fun p => mute p (voltSignal w c0 p))
  let i := (List.range 3).map (fun p => mute p (ampSignal w cycle m c p))
  let at' := fun (l : List (List Int)) (p : Nat) => l.getD p []
  let uv := voltUnit c0
  let ui := ampUnit c
  let pn := (List.range 3).map (fun p => if phaseCounts w (at' i p) then List.zipWith (· * ·) (at' v p) (at' i p) else List.replicate n 0)
  let qn := (List.range 3).map (fun p => if phaseCounts w (at' i p) then List.zipWith (· * ·) (quarterSignal cycle (at' v p)) (at' i p) else List.replicate n 0)
  let wPer := rmul uv ui
  let qPer := rmul wPer (1, 2 ^ 32)
  let total := fun (l : List Int) => l.foldl (· + ·) 0
  let pp := pn.map (fun l => rmul (rmul (total l, 1) wPer) (perSample w))
  let qq := qn.map (fun l => rmul (rmul (total l, 1) qPer) (perSample w))
  let ss := (List.range 3).map (fun p => if phaseCounts w (at' i p) then
      rootReal32 (rmul (rmul (rmul (dot (at' v p) (at' v p), 1) (dot (at' i p) (at' i p), 1)) (rmul wPer wPer)) (rmul (perSample w) (perSample w)))
    else toReal32 (0, 1))
  let sv := ss.map ofReal32
  let pTot := rsum pp
  let qTot := rsum qq
  let sTot := rsum sv
  let line := fun (a b : Nat) => rmsOf w uv (List.zipWith (· - ·) (at' v a) (at' v b))
  let ang := fun (p : Nat) => toReal32 ((Config.lag (voltSignal w c0 0) (voltSignal w c0 p) % 360000 : Nat), 1000)
  let z : Ratio := (0, 1)
  { reals :=
      (List.range 3).map (fun p => rmsOf w uv (at' v p)) ++ (List.range 3).map (fun p => rmsOf w ui (at' i p)) ++
      [rmsOf w ui (addSignals n i), line 0 1, line 1 2, line 2 0] ++ pp.map toReal32 ++ qq.map toReal32 ++ ss ++
      (List.range 3).map (fun p => factorOf (pp.getD p z) (sv.getD p z)) ++
      (List.range 3).map (fun p => angleReal32 (qq.getD p z) (pp.getD p z)) ++
      [toReal32 pTot, toReal32 qTot, toReal32 sTot, factorOf pTot sTot, toReal32 (windowFreq w c0), ang 1, ang 2]
    pTot, qTot, sTot, pPhase := pp, pSamples := addSignals n pn, qSamples := addSignals n qn, wPer, qPer, len := windowNs w c0 }

/-! ### Energies (R328) -/

/-- Watts over a window of a length in ns as mWh: W times ns over 3.6 * 10^9. -/
def energyOf (len p : Ratio) : Ratio := rmul (rmul p len) (1, 3600000000)

/-- R328: what a window adds to the energies of offsets 32 to 41. Log 78 (DEDUCED). -/
def energySteps (x : CircuitWindow) : List Ratio :=
  let z : Ratio := (0, 1)
  let imp := decide (0 ≤ x.pTot.1)
  let lag := decide (0 ≤ x.qTot.1)
  let abs := fun (q : Ratio) => energyOf x.len (if q.1 < 0 then rneg q else q)
  let iff := fun (b : Bool) (q : Ratio) => if b then abs q else z
  [iff imp x.pTot, iff (!imp) x.pTot, iff (imp && lag) x.qTot, iff (!imp && lag) x.qTot, iff (!imp && !lag) x.qTot, iff (imp && !lag) x.qTot,
   energyOf x.len x.sTot] ++ x.pPhase.map (fun p => if 0 < p.1 then energyOf x.len p else z)

/-- R328: an energy advances by a rational amount: its whole units and the new residue. -/
def advanceBy (residue : Nat × Nat) (e : Ratio) : Nat × (Nat × Nat) :=
  let t := radd ((residue.1 : Int), residue.2) e
  let n := t.1.toNat
  (n / t.2, (n % t.2, t.2))

/-- R328: the energies of a circuit advance. -/
def addEnergies (s : State) (m : Nat) (steps : List Ratio) : State :=
  (List.range 10).foldl (fun s k =>
    let r := advanceBy ((circuitAt s m).residues.getD k (0, 1)) (steps.getD k (0, 1))
    let el := quantity m (32 + k)
    let s := setPoint s el { v := (pointVal s el).v + BitVec.ofNat 64 r.1 }
    setCircuit s m (fun x => { x with residues := x.residues.set k r.2 })) s

/-- R328: the demand interval in which a window ends. Log 78 (DEDUCED). -/
def addDemand (s : State) (m : Nat) (len p : Ratio) : State :=
  let x := circuitAt s m
  let k := (now s).sec / max 1 x.cfg.demandS
  let here := rmul p len
  if k = x.demandIndex then setCircuit s m (fun x => { x with demandSum := radd x.demandSum here, demandNs := radd x.demandNs len })
  else
    let s := if x.demandNs.1 ≤ 0 then s else
      let d := toReal32 (rmul x.demandSum ((x.demandNs.2 : Int), x.demandNs.1.toNat))
      let peak := BitVec.ofNat 32 (pointVal s (quantity m 43)).v.toNat
      let s := setPoint s (quantity m 42) { v := d.setWidth 64 }
      let diff := radd (ofReal32 d) (rneg (ofReal32 peak))
      if 0 < diff.1 then setPoint s (quantity m 43) { v := d.setWidth 64 } else s
    setCircuit s m (fun x => { x with demandIndex := k, demandSum := here, demandNs := len })

/-- R330: a clear. Log 78 (DEDUCED). -/
def clearCircuit (s : State) (m : Nat) : State :=
  let s := (rangeFrom 32 12).foldl (fun s o => setPoint s (quantity m o) { v := 0 }) s
  let t := now s
  let s := setPoint s (quantity m 45) { v := nowForm t, hi := BitVec.ofNat 16 (secHi t) }
  let s := setCircuit s m (fun x => { x with clear := false, residues := List.replicate 10 (0, 1) })
  raiseEvent s [(circuitAt s m).cfg.owner, 0] 3 (utilUnit (8 + m)) stDone []

/-! ### Pulses (R333) -/

/-- R333: the energy of each sample for a pulse source: integers and the energy of one. -/
def pulseEnergy (w : MeterWindow) (x : CircuitWindow) (source : Nat) : List Int × Ratio :=
  let n := w.samples.length
  let imp := decide (0 ≤ x.pTot.1)
  let lag := decide (0 ≤ x.qTot.1)
  let neg := fun (l : List Int) => l.map (fun v => -v)
  let none' := List.replicate n (0 : Int)
  let wUnit := rmul (energyOf x.len x.wPer) (perSample w)
  let qUnit := rmul (energyOf x.len x.qPer) (perSample w)
  match source with
  | 0 => (if imp then x.pSamples else none', wUnit)
  | 1 => (if imp then none' else neg x.pSamples, wUnit)
  | 2 => (if lag then x.qSamples else none', qUnit)
  | 3 => (if lag then none' else neg x.qSamples, qUnit)
  | _ => (List.replicate n 1, rmul (energyOf x.len x.sTot) (perSample w))

/-- The REFCLK tick of sample `i` of a window of `n` samples that ends now: samples lie 128 µs apart. -/
def sampleTick (s : State) (n i : Nat) : Nat := s.tick - (n - i) * 16000

/-- R333: pulses become due sample by sample; beyond a backlog of 65,535 they are lost. Log 78 (DEDUCED). -/
def duePulses (s : State) (k : Nat) (w : MeterWindow) (x : CircuitWindow) : State :=
  let p := pulseAt s k
  let n := w.samples.length
  let e := pulseEnergy w x p.source
  let go := (List.range n).foldl (fun (acc : Ratio × List Nat) i =>
    let t := radd acc.1 (rmul (e.1.getD i 0, 1) e.2)
    let c := t.1.toNat / (t.2 * max 1 p.weight)
    (radd t (-((c * p.weight : Nat) : Int), 1), acc.2 ++ List.replicate c (sampleTick s n (i + 1)))) (p.residue, [])
  let all := p.due ++ go.2
  let s := setPulse s k (fun p => { p with residue := go.1, due := all.take 65535 })
  setCircuit s p.circuit (fun x => { x with pulseLost := satN 16 (x.pulseLost + (all.length - 65535)) })

/-! ### The window end (R326 to R330, R334, R335) -/

/-- R337: status bits that a window settles. -/
def windowStatus (s : State) (m : Nat) (w : MeterWindow) (reversed : Bool) : State :=
  let c0 := (circuitAt s 0).cfg
  let bits := fun (f : Nat → Bool) => BitVec.ofNat 3 (((List.range 3).map (fun p => b2n (f p) * 2 ^ p)).sum)
  let clips := (w.samples.map (fun x => ((List.range 3).filter (fun p => clipped x (3 * m + p))).length)).sum
  setCircuit s m (fun x => { x with
    vPresent := bits (phasePresent w c0), seqReversed := reversed
    clipping := bits (fun p => w.samples.any (fun y => clipped y (3 * m + p)))
    highPath := bits (fun p => (w.samples.getLast?.map (fun y => highUsed y (3 * m + p))).getD false)
    clips := satN 16 (x.clips + clips) })

/-- R337: status word 1 of a circuit. -/
def circuitWord (s : State) (m : Nat) : BitVec 64 :=
  let x := circuitAt s m
  pack [(0, 3, x.vPresent.toNat), (3, 1, b2n x.seqReversed), (4, 3, x.clipping.toNat), (7, 3, x.highPath.toNat), (10, 1, b2n (carriedHere s x.cfg)),
    (11, 1, b2n x.stale), (12, 1, b2n x.cfg.enable), (16, 16, x.clips), (32, 16, x.pulseLost)]

/-- R327 STATUS: the point that holds the low half of status word 1. -/
def writeStatus (s : State) (m : Nat) : State := setPoint s (quantity m 44) { v := BitVec.ofNat 64 (fld (circuitWord s m) 0 32) }

/-- A circuit that this member measures. -/
def measureCircuit (s : State) (m : Nat) (w : MeterWindow) : State :=
  let s := if (circuitAt s m).clear then clearCircuit s m else s
  let c := (circuitAt s m).cfg
  let x := circuitWindow w m (circuitAt s 0).cfg c
  let s := (x.reals.mapIdx (fun o b => (o, b))).foldl (fun s e => setPoint s (quantity m e.1) { v := e.2.setWidth 64 }) s
  let s := addEnergies (addDemand s m x.len x.pTot) m (energySteps x)
  let reversed := decide (180000 < Config.lag (voltSignal w (circuitAt s 0).cfg 0) (voltSignal w (circuitAt s 0).cfg 1) % 360000)
  let s := setCircuit (windowStatus s m w reversed) m (fun x => { x with stale := false, missed := 0 })
  let s := if runsTasks s then
      (List.range 4).foldl (fun s k => if (pulseAt s k).enable && (pulseAt s k).circuit == m then duePulses s k w x else s) s
    else s
  let s := writeStatus s m
  if s.addr.paired && s.twin.role = .standby then
    { s with meter := { s.meter with sent := s.meter.sent ++ [(m, (List.range 46).map (fun o => pointVal s (quantity m o)))] } }
  else s

/-- R335: a circuit that the partner carries: on the active, after 3 windows with nothing arrived it is stale. -/
def missCircuit (s : State) (m : Nat) : State :=
  let s := if (circuitAt s m).clear then setCircuit s m (fun x => { x with clear := false }) else s
  if s.twin.role ≠ .active then s else
  writeStatus (setCircuit s m (fun x => { x with missed := min 3 (x.missed + 1), stale := x.stale || decide (3 ≤ x.missed + 1) })) m

/-- R325, R330: an accepted circuit configuration takes effect: the owner owns every quantity (R327). A clear of a circuit that this window
has not measured is carried out as well. -/
def takeCircuit (s : State) (m : Nat) : State :=
  match (circuitAt s m).next with
  | none => s
  | some c =>
    let s := if (circuitAt s m).cfg.owner = c.owner then s else bumpEpoch s (utilUnit (8 + m))
    let s := setCircuit s m (fun x => { x with cfg := c, next := none })
    let s := (List.range 46).foldl (fun s o => let e := quantity m o
      { s with points := tmod (pointDefault e) s.points e (fun p => { p with owner := c.owner }) }) s
    if !(circuitAt s m).clear then s
    else if carriedHere s c || !c.enable then clearCircuit s m
    else setCircuit s m (fun x => { x with clear := false })

/-- R325: accepted pulse outputs take effect. -/
def takePulses (s : State) : State :=
  s.meter.pulseNext.foldl (fun s e =>
    let drives := isPulseOut s (44 + e.1) || e.2.enable
    let s := setPulse s e.1 (fun _ => e.2)
    if !drives then s else setOutput (conduct s (44 + e.1) false) (44 + e.1) (fun o => { o with pendingAt := none }))
    { s with meter := { s.meter with pulseNext := [] } }

/-- R334: the value of a register. -/
def registerValue (s : State) (n : Nat) : Nat :=
  let g := tget {} s.meter.regs n
  (g.base + (tget 0 s.inputs.counts n + 2 ^ 32 - g.count0) % 2 ^ 32 * g.weight) % 2 ^ 64

/-- R325, R334: accepted registers take effect. Log 78 (DEDUCED). -/
def takeRegisters (s : State) : State :=
  s.meter.regNext.foldl (fun s e =>
    let old := tget {} s.meter.regs e.1
    let g := e.2.1
    let g := match e.2.2 with
      | some v => { g with base := v, count0 := tget 0 s.inputs.counts e.1 }
      | none => { g with base := old.base, count0 := old.count0 }
    let el := 0x1F0 + e.1
    { s with
      meter := { s.meter with regs := tset {} s.meter.regs e.1 g }
      points := tmod (pointDefault el) s.points el (fun p => { p with owner := g.owner }) })
    { s with meter := { s.meter with regNext := [] } }

/-- R334: the registers are written. -/
def writeRegisters (s : State) : State :=
  ((List.range 16).filter (fun n => (tget {} s.meter.regs n).enable)).foldl (fun s n =>
    setPoint s (0x1F0 + n) { v := BitVec.ofNat 64 (registerValue s n) }) s

/-- R336: the answers to the METER_READs that wait. -/
def answerReads (s : State) : State :=
  let t := now s
  s.meter.waits.foldl (fun s x =>
    let payload := (rangeFrom 32 10).map (fun o => (pointVal s (quantity x.circuit o)).v) ++ [nowForm t, pack [(0, 16, secHi t)]]
    let s := setUnitStat s meterUnit (fun u => { u with lastStatus := stDone })
    let s := recordReply s meterUnit (unitAddr s meterUnit) x.tag x.replyQueue 0xB0 stDone payload
    sendCompletion s x.replyQueue none { st := stDone, fn := 0xB0, tag := x.tag, suite := x.suite, payload })
    { s with meter := { s.meter with waits := [] } }

/-- R326: a window ends: every enabled circuit's quantities, the registers, the answers; then accepted changes take effect. Log 110 (DESIGN CHOICE). -/
def windowEnd (w : MeterWindow) (s : State) : State :=
  let c0 := (circuitAt s 0).cfg
  if !windowEnds w c0 then s else
  let freq := windowFreq w c0
  let s := if !phasePresent w c0 0 || !mainsRate freq then abandonTrim s 2 else trimMains s c0.hz60 (windowCycles c0)
  let s := (List.range 8).foldl (fun s m =>
    if !(circuitAt s m).cfg.enable then s
    else if carriedHere s (circuitAt s m).cfg then measureCircuit s m w
    else missCircuit s m) s
  let s := answerReads (writeRegisters s)
  writeRegisters (takeRegisters (takePulses ((List.range 8).foldl takeCircuit s)))

/-- R326: a metering window ends. -/
def execMeterWindowEnd (w : MeterWindow) (s : State) : Host.Outcome State Fault Refusal := .next (clocked s (windowEnd w s))

/-- R335: the quantities of a circuit that the standby carries arrive at the active. -/
def quantitiesArrive (m : Nat) (vals : List PointVal) (s : State) : State :=
  let c := (circuitAt s m).cfg
  if 7 < m || !c.enable || carriedHere s c || s.twin.role ≠ .active then s else
  let s := ((vals.take 46).mapIdx (fun o v => (o, v))).foldl (fun s e => setPoint s (quantity m e.1) e.2) s
  setCircuit s m (fun x => { x with stale := false, missed := 0 })

/-- R335: quantities arrive from the standby. -/
def execMeterQuantitiesArrive (circuit : Nat) (vals : List PointVal) (s : State) : Host.Outcome State Fault Refusal :=
  .next (clocked s (quantitiesArrive circuit vals s))

/-- R336: METER_READ. -/
def meterRead (c : Cmd) (t : Target) (s : State) : CmdResult :=
  onUnit t (· == meterUnit) s (
    let m := fld (c.word 2) 0 3
    if !mayRead s c.suite (quantity m 32) then refuse (countThreshold s c.suite) .threshold
    else if !(circuitAt s m).cfg.enable then refuse s .state
    else
      let wait : MeterWait := { circuit := m, suite := c.suite, tag := c.tag, replyQueue := c.replyQueue }
      { s := { s with meter := { s.meter with waits := s.meter.waits ++ [wait] } }, st := stDone, reply := false })

/-- R336: METER_READ. -/
def execMeterRead (q : CmdQueue) (s : State) : Host.Outcome State Fault Refusal := .next (unitCommand q (withCode 0xB0) false meterRead s)

/-! ### Flash (R331) -/

/-- R331: the energies and registers go to the meter area of the flash. -/
def saveMeter (s : State) : State :=
  let els := (List.range 8).flatMap (fun m => (rangeFrom 32 10).map (quantity m)) ++ rangeFrom 0x1F0 16
  { s with meter := { s.meter with flash := els.foldl (fun t e => tset { v := 0 } t e (pointVal s e)) s.meter.flash } }

/-- R331: the write of every 10 s, while the module runs. -/
def execMeterFlashWrite (s : State) : Host.Outcome State Fault Refusal :=
  .next (clocked s (if s.boot.phase ≠ .running || s.tick < s.meter.flashDue then s
    else let s := saveMeter s
      { s with meter := { s.meter with flashDue := s.tick + ticksMs 10000 } }))

/-! ### Pulses on their outputs (R333) -/

/-- R333: the width of the pulse that is due, in REFCLK ticks. -/
def pulseWidth (p : PulseOut) (due : Nat) : Nat :=
  let full := ticksMs p.widthMs
  match p.lastDue with
  | none => full
  | some l => min full (max (ticksMs 1) ((due - l) / 2))

/-- R333: the next due pulse begins. -/
def pulseStart (k : Nat) (s : State) : State :=
  let p := pulseAt s k
  match p.due with
  | [] => s
  | d :: rest =>
    if 3 < k || !p.enable || p.active || p.inGap || s.tick < d || !runsTasks s || !bankClosed s 5 then s else
    let width := pulseWidth p d
    let s := conduct s (44 + k) true
    setPulse s k (fun p => { p with due := rest, lastDue := some d, active := true, width, endTick := s.tick + width })

/-- R333: a pulse begins. -/
def execPulseStart (out : Nat) (s : State) : Host.Outcome State Fault Refusal := .next (clocked s (pulseStart out s))

/-- R333: a pulse ends, and then its gap. -/
def pulseEnd (k : Nat) (s : State) : State :=
  let p := pulseAt s k
  if s.tick < p.endTick then s
  else if p.active then
    setPulse (conduct s (44 + k) false) k (fun p => { p with active := false, inGap := true, endTick := s.tick + p.width })
  else if p.inGap then setPulse s k (fun p => { p with inGap := false })
  else s

/-- R333: a pulse or its gap ends. -/
def execPulseEnd (out : Nat) (s : State) : Host.Outcome State Fault Refusal := .next (pulseEnd out s)

/-! ### Status (R337) -/

/-- R337: status words 1 and 2 of a circuit. -/
def circuitStatus (s : State) (m : Nat) : List (BitVec 64) :=
  [circuitWord s m,
   pack ((List.range 4).map (fun k => (16 * k, 16, if (pulseAt s k).enable && (pulseAt s k).circuit == m then (pulseAt s k).due.length else 0)))]

end Sys2Proof.Machine
end

