-- ==== Sys2Proof/Machine/Mantel.lean ====
section
/-! DEFINITION. The Mantel clock: configuration, supply, trim, wake and status (R376 to R387). The count itself is in Tick. -/

namespace Sys2Proof.Machine
open Sys2Proof

/-- The Mantel clock unit. -/
abbrev mantelUnit : UnitId := engineUnit 9

def setMantel (s : State) (f : Mantel → Mantel) : State := { s with mantel := f s.mantel }

/-! ### CFG_MANTEL (R380, R381) -/

/-- CFG_MANTEL on the Mantel clock. -/
def configureMantel (run : CfgReq → State → CfgOut) (r : CfgReq) (s : State) : CfgOut :=
  buildingCfg s (cfgUnitOnly r s (· == mantelUnit) (fun _ => run r s))

/-- R380: OP of a request. Log 9 (DEDUCED). -/
def mantelOp (r : CfgReq) : Nat := fld (r.word 2) 0 2

/-- R380: SETUP. -/
def mantelSetup (r : CfgReq) (s : State) : CfgOut :=
  let a := r.word 2
  let trim := sfld (r.word 3) 32 13
  let wake := fld (r.word 3) 0 23
  if mantelOp r = 3 || fld a 2 2 = 3 || fld a 4 2 = 3 || fld a 6 2 = 3 || 5529600 < wake || decide (trim < -2083) || decide (2083 < trim) then
    cfgDeny s (stFault .range)
  else cfgDone (setMantel s (fun m =>
    let m := if fld a 6 2 = m.trimSrc then m else { m.abandon with trimDone := none }
    let m := { m with chgV := fld a 2 2, chgR := fld a 4 2, trimSrc := fld a 6 2, wakeTicks := wake, trim }
    if bitAt a 8 then { m with bakFirst := 0, bakSwitches := 0, bakLatched := false } else m))

/-- R381: HALT. -/
def mantelHalt (_ : CfgReq) (s : State) : CfgOut :=
  cfgDone (setMantel s (fun m => { m.abandon with halt := true, fraction := 0 }))

/-- R381: the clock is halted and loaded. -/
def mantelLoad (s : State) (seconds : Nat) (halt : Bool) : State :=
  setMantel s (fun m => { m.abandon with halt, seconds, fraction := 0, oscStop := false, trimAcc := 0 })

/-- R381: SET_RUN; with AT_HOUSE 1 the release and the completion come at the next whole second of house time. -/
def mantelSetRun (r : CfgReq) (s : State) : CfgOut :=
  let seconds := fld (r.word 3) 0 48
  if !bitAt (r.word 2) 2 then cfgDone (mantelLoad s seconds false)
  else if !s.clock.isSet then cfgDeny s (stRefused .state)
  else
    let s := setMantel (mantelLoad s seconds true) (fun m => { m with loadAt := some ((now s).sec + 1), loadIsReload := false })
    .waits { s with seq := { s.seq with waiting := s.seq.waiting ++ [{ req := r, epoch := none }] } }

/-- R380: CFG_MANTEL SETUP; one with OP 3 is taken here and refused. -/
def execCfgMantelSetup (c : Nat) (s : State) : Host.Outcome State Fault Refusal :=
  .next (serveCfg c (fun r => cfgCode 0x13 r && mantelOp r != 1 && mantelOp r != 2) (configureMantel mantelSetup) s)

/-- R381: CFG_MANTEL HALT. -/
def execCfgMantelHalt (c : Nat) (s : State) : Host.Outcome State Fault Refusal :=
  .next (serveCfg c (fun r => cfgCode 0x13 r && mantelOp r == 1) (configureMantel mantelHalt) s)

/-- R381: CFG_MANTEL SET_RUN. -/
def execCfgMantelSetRun (c : Nat) (s : State) : Host.Outcome State Fault Refusal :=
  .next (serveCfg c (fun r => cfgCode 0x13 r && mantelOp r == 2) (configureMantel mantelSetRun) s)

/-- R381: the requests that wait for the release. -/
def runWaits (s : State) : List CfgReq := (s.seq.waiting.filter (fun w => w.req.code == 0x13)).map (·.req)

/-- R381, R385: house time is a whole second: the count is released, or the phase reloaded. Log 79 (DEDUCED). -/
def setRunRelease (s : State) : State :=
  match s.mantel.loadAt with
  | none => s
  | some t =>
    if !reached (now s) { sec := t, ns := 0 } then s
    else if s.mantel.loadIsReload then
      setMantel (mantelLoad s t s.mantel.halt) (fun m => { m with loadAt := none, loadIsReload := false, phaseSteps := bump 16 m.phaseSteps })
    else
      let s := setMantel s (fun m => { m with loadAt := none })
      (runWaits s).foldl (fun s r => endWaiting r stDone (mantelLoad s (fld (r.word 3) 0 48) false)) s

/-- R381: the release of a SET_RUN. -/
def execSetRunRelease (s : State) : Host.Outcome State Fault Refusal := .next (setRunRelease s)

/-! ### Supply and crystal (R377 to R379) -/

/-- R377: the domain switches between VIO33 and VBAK. -/
def backupSwitch (toBackup : Bool) (s : State) : State :=
  if toBackup == s.mantel.onBackup then s
  else if toBackup then
    setMantel s (fun m => { m.abandon with
      onBackup := true, bakFirst := if m.bakLatched then m.bakFirst else m.seconds % 2 ^ 32, bakLatched := true
      bakSwitches := bump 16 m.bakSwitches, backupReported := false })
  else setMantel s (fun m => { m with onBackup := false })

/-- R377: a supply switch. -/
def execBackupSwitch (toBackup : Bool) (s : State) : Host.Outcome State Fault Refusal := .next (backupSwitch toBackup s)

/-- R378: VBAK is measured, once per second, on VIO33. Log 65 (DESIGN CHOICE). -/
def execVbakMeasure (millivolts : Nat) (s : State) : Host.Outcome State Fault Refusal :=
  .next (if s.mantel.onBackup || s.tick < s.mantel.vbakDue then s
    else setMantel s (fun m => { m with
      vbakDue := s.tick + ticksMs 1000
      batLow := if millivolts < 2300 then true else if 2400 ≤ millivolts then false else m.batLow }))

/-- R377, R379: VBAK has fallen below 1.8 V while VIO33 is absent: the domain loses its contents. -/
def lostDomain (m : Mantel) : Mantel := { onBackup := true, lastEdge := m.lastEdge, vbakDue := m.vbakDue }

/-- R379: the crystal has shown no edge for 4 ms, or VBAK has collapsed; on VIO33 the module observes it. Log 79 (DEDUCED). -/
def oscStopped (vbakLost : Bool) (s : State) : State :=
  if s.mantel.onBackup && vbakLost then setMantel s lostDomain
  else if s.tick < s.mantel.lastEdge + ticksMs 4 then s
  else
    let rises := !s.mantel.oscStop && !s.mantel.onBackup
    let s := setMantel s (fun m => { m with oscStop := true })
    if rises then raiseEvent s [0] 4 mantelUnit stDone [] else s

/-- R379: OSC_STOP is set. Whether VBAK has collapsed on backup is a free value. Log 79 (DEDUCED). -/
def execOscStop (s : State) : Host.Outcome State Fault Refusal :=
  .next (oscStopped (Config.vbakCollapsed s.free) { s with free := s.free + 1 })

/-! ### Trim (R384, R385) -/

/-- A quotient rounded to the nearest integer, halves away from zero. Log 79 (DEDUCED). -/
def roundDiv (a : Int) (b : Nat) : Int :=
  let n : Int := ((2 * a.natAbs + b) / (2 * b) : Nat)
  if a < 0 then -n else n

/-- R384: the trim after a window: an error of 1 ppm is 1 / 0.12 steps. Log 79 (DEDUCED). -/
def nextTrim (trim counted : Int) : Int :=
  max (-2083) (min 2083 (trim - roundDiv ((counted - 33554432) * 100000000) (12 * 33554432)))

/-- R385: the phase error against house time in ns, times 10^6. -/
def phaseError (s : State) : Int :=
  (((s.mantel.seconds : Int) - (now s).sec) * giga - (now s).ns) * 1000000 + s.mantel.fraction * 30517578125

/-- R384, R385: a trim window that was not abandoned has ended. Log 79 (DEDUCED). -/
def trimWindowEnd (s : State) : State :=
  match s.mantel.trimDone with
  | none => s
  | some counted =>
    let s := setMantel s (fun m => { m with trimDone := none, trim := nextTrim m.trim counted, windows := bump 16 m.windows })
    if s.mantel.trimSrc = 1 && 500000000000 < (phaseError s).natAbs && s.mantel.loadAt.isNone then
      setMantel s (fun m => { m with loadAt := some ((now s).sec + 1), loadIsReload := true })
    else s

/-- R384: the trim window that counted `counted` ticks ends. -/
def execTrimWindowEnd (counted : Nat) (s : State) : Host.Outcome State Fault Refusal :=
  .next (if s.mantel.trimDone = some counted then trimWindowEnd s else s)

/-! ### Wake (R386) -/

/-- The count in units of 1/64 s since the epoch. -/
def count64 (m : Mantel) : Nat := m.seconds * 64 + m.fraction / 512

/-- R386: a wake instant: MWAKE_N is driven low for 1/64 s. -/
def mantelWake (s : State) : State :=
  let m := s.mantel
  let k := count64 m
  if m.wakeTicks = 0 || m.halt || k % m.wakeTicks ≠ 0 || m.wakes.contains k then s
  else setMantel s (fun m => { m with
    mwakeN := false, wakeEnd := s.tick + 1953125, wakeCount := (m.wakeCount + 1) % 2 ^ 16, wakes := k :: m.wakes.filter (k < ·) })

/-- R386: a wake. -/
def execMantelWake (s : State) : Host.Outcome State Fault Refusal := .next (mantelWake s)

/-- R386: MWAKE_N is released. -/
def execMwakeNRelease (s : State) : Host.Outcome State Fault Refusal :=
  .next (if !s.mantel.mwakeN && s.mantel.wakeEnd ≤ s.tick then setMantel s (fun m => { m with mwakeN := true }) else s)

/-! ### Status (R387) -/

/-- R382: the charger feeds VBAK. -/
def chargerOn (m : Mantel) : Bool := m.chgV != 0 && !m.onBackup

/-- R387: status words 1 to 3 of the Mantel clock; ON_BACKUP always reads 0. -/
def mantelStatus (s : State) : List (BitVec 64) :=
  let m := s.mantel
  [pack [(0, 48, m.seconds), (48, 15, m.fraction)],
   pack [(1, 1, b2n m.batLow), (2, 1, b2n m.oscStop), (3, 1, b2n m.halt), (4, 1, b2n (chargerOn m)), (5, 13, (BitVec.ofInt 13 m.trim).toNat),
     (18, 16, m.phaseSteps), (34, 16, m.windows)],
   pack [(0, 32, m.bakFirst), (32, 16, m.bakSwitches), (48, 16, m.wakeCount)]]

end Sys2Proof.Machine
end

