-- ==== Sys2Proof/Machine/Start.lean ====
section
/-! DEFINITION. Resets of the module and the start sequence (R204, R405 to R415). -/

namespace Sys2Proof.Machine
open Sys2Proof

/-! ### What a reset of the module keeps (R10, R153, R411) -/

/-- R346, R347: keys that expire at a reset are destroyed with their descendants, and those without PERSIST are lost; the generations
of the slots go on. Log 41 (DEDUCED). -/
def loseKeys (s : State) : State :=
  let s := destroyKeys s ((s.cellar.keys.filter (fun e => e.2.present && attrExpire e.2.attr)).map (·.1))
  let s := (s.cellar.keys.filter (fun e => e.2.present && !isRoot e.1 && !attrPersist e.2.attr)).foldl (fun s e => wipeSlot s e.1) s
  { s with cellar := { s.cellar with keys := s.cellar.keys.foldl (fun t e => if isRoot e.1 then t else tset {} t e.1 { gen := e.2.gen }) [] } }

/-- R353: what the Fusebox settled at the last reset, and the key area of the flash. Log 41 (DEDUCED). -/
def keptCellar (c : Cellar) : Cellar :=
  { keys := c.keys, freed := c.freed, fresh := c.fresh, flashKeys := c.flashKeys, lifecycle := c.lifecycle, hasRoot := c.hasRoot
    secretValid := c.secretValid, fuseMarginal := c.fuseMarginal, antiroll := c.antiroll, vendorHash := c.vendorHash, ident := c.ident
    deviceSecret := c.deviceSecret }

/-- R407, R415: the reset taken: its class, its cause and the counts of resets. -/
def keptBoot (b : Boot) (cls : ResetClass) (cause : Nat) : Boot :=
  { lastClass := cls, cause, cleanStop := b.cleanStop, pfailLow := b.pfailLow, vfield := b.vfield, memFail := cls == .w && b.memFail
    warmResets := match cls with | .w => bump 16 b.warmResets | _ => 0
    coldResets := match cls with | .p => 0 | .c => bump 16 b.coldResets | .w => b.coldResets }

/-- R411: the block after a reset of class P or C; the flash, the Fusebox, the always-on domain, the TAP, the pins and real time go
on. A member that leaves its pair for an update keeps that role (R243). Log 43 (DEDUCED), 99 (DEDUCED). -/
def afterReset (s : State) (cls : ResetClass) (cause : Nat) : State :=
  { pending := s.pending, free := s.free, tick := s.tick, fuses := s.fuses, mantel := s.mantel.abandon, updates := s.updates
    journal := { written := s.journal.written, checkpoint := s.journal.checkpoint, broken := s.journal.broken }
    attic := { flash := s.attic.flash }
    cellar := keptCellar s.cellar
    meter := { flash := s.meter.flash }
    twin := { member := s.twin.member, role := if s.twin.role = .updating then .updating else .none }
    tap := if cls = .p then {} else s.tap
    inputs := { pins := s.inputs.pins.map (fun e => (e.1, { e.2 with since := s.tick, prior := s.tick })) }
    boot := keptBoot s.boot cls cause }

/-- Keeps parts of the entries of a table, dropping what is left at the default. -/
def keepTable {α : Type} [DecidableEq α] (d : Nat → α) (f : α → α) (t : Table α) : Table α := t.foldl (fun acc e => tset (d e.1) acc e.1 (f e.2)) []

/-- R203: the counters of a queue that a warm reset keeps. Log 99 (DEDUCED). -/
def keptQueue (q : Queue) : Queue :=
  { noCreditDrops := q.noCreditDrops, poisonedOut := q.poisonedOut, lostItems := q.lostItems, highRises := q.highRises }

/-- R183: the counters of a suite that a warm reset keeps. Log 99 (DEDUCED). -/
def keptSuite (n : Nat) (u : Suite) : Suite :=
  { suiteDefault n with
    thresholdFaults := u.thresholdFaults, droppedReplies := u.droppedReplies, suiteResets := u.suiteResets, discarded := u.discarded
    lastDrainNs := u.lastDrainNs, lastResetSec := u.lastResetSec }

/-- R218: the fields of a Hearth slot that a warm reset keeps. Log 99 (DEDUCED). -/
def keptSlot (x : Slot) : Slot :=
  { asSeen := x.asSeen, qsSeen := x.qsSeen, evals := x.evals, delayed := x.delayed, replaced := x.replaced, drops := x.drops, swaps := x.swaps }

/-- R26: the fields of a room pace word that a warm reset keeps. Log 99 (DEDUCED). -/
def keptRoom (x : Room) : Room :=
  { paceNow := x.paceNow, paceMin := x.paceMin, warnSeen := x.warnSeen, faultSeen := x.faultSeen, tj := x.tj, slowWindows := x.slowWindows }

/-- R369, R373, R375: the Attic after a warm reset: its ring and counters stay, its settings and the records in flight do not. Log 43 (DEDUCED). -/
def keptAttic (a : Attic) : Attic :=
  { a with flight := [], taskEvents := [], persistSev := 4, persistEn := true, flushMs := 100, scrubInterval := 20, scrubStop := false }

/-- R331, R334, R337: the meter after a warm reset: energies and registers are untouched. Log 99 (DEDUCED). -/
def keptMeter (m : Meter) : Meter :=
  { flash := m.flash
    circuits := keepTable (fun _ => {}) (fun c => { residues := c.residues, clips := c.clips, pulseLost := c.pulseLost }) m.circuits
    regs := keepTable (fun _ => {}) (fun r => { base := r.base, count0 := r.count0 }) m.regs }

/-- R10, R411: what a warm reset keeps besides. Log 99 (DEDUCED). -/
def keepWarm (old s : State) : State :=
  { s with
    clock := { old.clock with slewLeft := 0, clkFault := false }
    mantel := old.mantel
    rooms := keepTable (fun _ => {}) keptRoom old.rooms
    units := keepTable (fun _ => {}) (fun u => { worstSev := u.worstSev, faultCount := u.faultCount }) old.units
    suites := old.suites.foldl (fun acc e => tset (suiteDefault e.1) acc e.1 (keptSuite e.1 e.2)) []
    larder := { queues := keepTable (fun _ => {}) keptQueue old.larder.queues }
    tasks := keepTable (fun _ => {}) (fun t => { ctx := { fd := t.ctx.fd } }) old.tasks
    values := old.values.filter (fun e => isMeterPoint e.1 && meterType e.1 == tyEnergy64)
    hearth := { slots := keepTable (fun _ => {}) keptSlot old.hearth.slots }
    attic := keptAttic old.attic
    cellar := { s.cellar with
      tamperMode := old.cellar.tamperMode, tamperParent := old.cellar.tamperParent, pairAuth := old.cellar.pairAuth, wiped := old.cellar.wiped }
    inputs := { s.inputs with counts := old.inputs.counts }
    banks := keepTable (fun _ => {}) (fun b => { trips := b.trips, shutterTrips := b.shutterTrips }) old.banks
    meter := keptMeter old.meter
    twin := { s.twin with
      mirrorLate := old.twin.mirrorLate, takeovers := old.twin.takeovers, reclaims := old.twin.reclaims, resyncs := old.twin.resyncs } }

/-- R406, R411: a reset of the module. -/
def resetModule (s : State) (cls : ResetClass) (cause : Nat) : State :=
  let s := loseKeys s
  if cls = .w then keepWarm s (afterReset s .w cause) else afterReset s cls cause

/-- R407: the rank of a class of module reset. -/
def ResetClass.rank : ResetClass → Nat
  | .p => 2
  | .c => 1
  | .w => 0

/-- R407: a reset is under way until step 7 of the start sequence, or until the boot ROM stays in recovery. -/
def resetUnderWay (s : State) : Bool := s.boot.phase == .held || s.boot.phase == .waitPfail

/-- R407: a reset is requested: while one of the same or a higher class is under way it merges or is dropped. Log 101 (DEDUCED). -/
def requestReset (s : State) (cls : ResetClass) (cause : Nat) : State :=
  if resetUnderWay s && ResetClass.rank cls ≤ ResetClass.rank s.boot.lastClass then s else resetModule s cls cause

/-- R407: a reset that begins 1 ms after the reply of the command that asks for it. One of the same or a higher class that already
waits stands. -/
def resetLater (s : State) (cls : ResetClass) (cause : Nat) : State :=
  let stands := s.boot.pendingReset.any (fun p => ResetClass.rank cls ≤ ResetClass.rank p.1)
  if stands then s else { s with boot := { s.boot with pendingReset := some (cls, cause, s.tick + ticksMs 1) } }

/-- R406, R407: the class and cause of a UNIT_RESET. -/
def commandReset (s : State) (cold : Bool) : State := if cold then resetLater s .c 3 else resetLater s .w 4

/-- R407: a reset of the module that waited for a switchover: its reply, and the reset 1 ms later. Log 91 (DEDUCED). -/
def releaseHeld (s : State) : State :=
  match s.boot.heldReset with
  | none => s
  | some h =>
    if s.twin.role = .active && s.twin.tsw.isSome then s else
    let s := { s with boot := { s.boot with heldReset := none } }
    commandReset (lateReply s h.via h.target h.tag h.replyQueue 4 h.suite stDone []) h.cold

/-- R407: this member's half of a reset of the pair begins when it has become the standby. Log 91 (DEDUCED). -/
def releasePair (s : State) : State :=
  match s.twin.pairReset with
  | some (cold, _) => if s.twin.role = .standby then commandReset (setTwin s (fun t => { t with pairReset := none })) cold else s
  | none => s

/-- R407: a reset that waits begins. -/
def beginReset (s : State) : State :=
  match s.boot.pendingReset with
  | some (cls, cause, due) => if due ≤ s.tick then requestReset s cls cause else s
  | none => releasePair (releaseHeld s)

/-! ### Causes (R406) -/

/-- R406: cause 1. -/
def execPowerOnReset (s : State) : Host.Outcome State Fault Refusal := .next (requestReset s .p 1)

/-- R406: cause 2: a pulse shorter than 1 µs is ignored. -/
def execResetNLow (nanoseconds : Nat) (s : State) : Host.Outcome State Fault Refusal :=
  .next (if nanoseconds < 1000 then s else requestReset s .c 2)

/-- R406: cause 6. -/
def execManagementWatchdog (s : State) : Host.Outcome State Fault Refusal :=
  .next (if s.boot.phase = .running then requestReset s .w 6 else s)

/-- R411: PFAIL_N falls: the journal, the energies and the Attic records are written, then CLEAN_STOP. Log 100 (DEDUCED). -/
def powerFail (s : State) : State :=
  let s := { s with boot := { s.boot with pfailLow := true } }
  if s.boot.phase ≠ .running then s else
  let s := { s with journal := { s.journal with staging := [], written := s.journal.written ++ s.journal.staging } }
  let s := saveMeter s
  let s := if s.attic.persistEn then copyRecords s ((toCopy s).take 64) [] else s
  { s with boot := { s.boot with cleanStop := true } }

/-- R411, R430: PFAIL_N falls and stays low for 2 µs. Log 101 (DEDUCED). -/
def execPfail (s : State) : Host.Outcome State Fault Refusal :=
  .next (if s.boot.pfailLow then s else powerFail s)

/-- R405: PFAIL_N rises; a boot that waits at step 1 may go on. -/
def execPfailNRise (s : State) : Host.Outcome State Fault Refusal :=
  .next { s with boot := { s.boot with pfailLow := false, phase := if s.boot.phase = .waitPfail then .held else s.boot.phase } }

/-! ### The start sequence (R408, R412) -/

/-- R204: the service queues: number, DEPTH and ITEM_MAX. -/
def serviceTable : List (Nat × Nat × Nat) :=
  [(0x10, 256, 480), (0x11, 64, 480), (0x12, 64, 480), (0x13, 64, 480)] ++
    (rangeFrom 0x18 8).map (fun q => (q, 256, 64)) ++ [(0x20, 64, 4064), (0x21, 64, 4064)] ++
    (rangeFrom 0x30 8).map (fun q => (q, 512, 32)) ++ [(0x38, 1024, 64), (0x39, 1024, 256)] ++
    (rangeFrom 0x40 4).map (fun q => (q, 256, 1536)) ++ (rangeFrom 0x44 3).map (fun q => (q, 512, 1536)) ++
    (rangeFrom 0x50 16).map (fun q => (q, 32, 2080))

/-- R204: a service queue is set up. Log 28 (DESIGN CHOICE). -/
def setUpService (s : State) (e : Nat × Nat × Nat) : State :=
  setQueue s e.1 (fun q => { keptQueue q with
    depth := e.2.1, itemMax := e.2.2, grant := 8, highWm := e.2.1 * 3 / 4, lowWm := e.2.1 / 2, poolFree := e.2.1 })

/-- R204, R444: the engine units that put into the service queues: the Landing link what the twin sends, the Larder the mirror delta, the
rooms' request ports Attic records and the requests of their contexts, the port switch and the Hallway ports what they receive. Log 102 (DEDUCED). -/
def servicePuts : List (Nat × Part) :=
  let room := fun r => ({ cls := 4, inst := r } : Part)
  (0x11, landingPart) :: (0x20, larderPart) :: (0x21, landingPart) ::
    (rangeFrom 0x18 8).flatMap (fun q => (List.range 9).map (fun r => (q, room r))) ++
    (List.range 8).map (fun r => (0x30 + r, room r)) ++
    [0x38, 0x39].flatMap (fun q => (List.range 9).map (fun r => (q, room r))) ++
    (rangeFrom 0x40 7).map (fun q => (q, switchPart)) ++ (List.range 16).map (fun h => (0x50 + h, hallPart h))

/-- R204, R444: the service queues with their engine producers; the management firmware passes group commands on. Log 102 (DEDUCED). -/
def setUpServices (s : State) : State :=
  let s := servicePuts.foldl (fun s e => attachEngine s e.1 e.2) (serviceTable.foldl setUpService s)
  setQueue s 0x12 (fun q => attach q (.session 0 0 0))

/-- R412: what the built-in tests of a class find: cores, lanes, links and pace replicas. Log 101 (DEDUCED). -/
def builtInTests (b : BootEnv) (s : State) : State :=
  let mem := s.boot.lastClass != .w && b.memFail
  let s := { s with boot := { s.boot with
    coreFail := b.coreFail, m0Fail := b.m0Fail, m1Fail := b.m1Fail, memFail := mem || s.boot.memFail
    laneFail := !b.laneFail.isEmpty, linkFail := !b.linkFail.isEmpty } }
  let cores := (List.range 32).filter (fun k => b.coreFail.getLsbD k)
  let s := cores.foldl (fun s k => raiseEvent s [0] 5 (roomUnit (k / 4)) stDone []) s
  let s := if b.m0Fail || b.m1Fail then raiseEvent s [0] 6 (roomUnit 8) stDone [] else s
  let s := if mem then raiseEvent s [0] 7 .module (stFault .error) [] else s
  let s := b.laneFail.foldl (fun s l => raiseEvent { s with lanesOut := s.lanesOut ++ [(l / 2, l % 2)] } [0] 4 .module stDone []) s
  let s := (b.linkFail.filter (· < 5)).foldl (fun s l =>
    let s := setUnitStat { s with links := tmod {} s.links l (fun x => { x with down := true }) } (linkUnit l) (fun u => { u with fault := true })
    raiseEvent s [0] 5 (linkUnit l) (stFault .link) []) s
  (b.paceFail.filter (· < 9)).foldl (fun s r =>
    let s := setRoom s r (fun x => { x with warn := true, warnSeen := true })
    raiseEvent (setUnitStat s (roomUnit r) (fun u => { u with warn := true })) [0] 3 (roomUnit r) stDone []) s

/-- R398, R413: the boot ROM stays in recovery. Log 102 (DEDUCED). -/
def enterRecovery (s : State) : State :=
  let s := setUpServices { s with boot := { s.boot with phase := .recovery } }
  if s.boot.memFail then setUnitStat s .module (fun u => { u with state := stFaulty, fault := true }) else s

/-- R399: a reset of class P, C or W ends a trial of KIND 1 or 2: the previous image comes back. -/
def endTrials (s : State) : State :=
  [1, 2].foldl (fun s kind =>
    if (updateAt s kind 0).phase = .trial then
      setUpdate s kind 0 (fun u => { comeBack u with lastStatus := stRefused .state, report := true })
    else s) s

/-- R398: the firmware slots, the running one first: it is verified, or the fallback, or what the other slot holds besides; none where
no slot verifies. The outcome is the status of the first check that failed. Log 103 (DEDUCED). -/
def bootFirmware (s : State) : Option State :=
  let u := updateAt s 1 0
  match loadFails s 1 0 u.current with
  | none =>
    some (if u.phase ≠ .activating then s
      else setUpdate s 1 0 (fun u => { u with phase := .trial, lastStatus := stDone, report := true }))
  | some r =>
    let failed := fun (u : Update) => { u with lastStatus := stRefused r, report := true }
    if (loadFails s 1 0 u.fallback).isNone then some (setUpdate s 1 0 (fun u => failed (comeBack u)))
    else if (loadFails s 1 0 u.spare).isNone then
      some (setUpdate s 1 0 (fun u => failed { comeBack u with current := u.spare, spare := none }))
    else none

/-- R346: the persistent keys are restored from flash, under the storage key. Log 29 (DEDUCED), 41 (DEDUCED). -/
def restoreKeys (s : State) : State :=
  if s.cellar.hasRoot then s.cellar.flashKeys.foldl (fun s e => setKey s e.1 (fun _ => e.2)) s else s

/-- R348: a tamper latch that is set is acted on. Log 40 (DESIGN CHOICE). -/
def takeTamper (s : State) : State := if s.mantel.tamperLatched then actOnTamper s else s

/-- R331, R334: the energies and registers are restored from flash; a register starts from its value. -/
def restoreMeter (s : State) : State :=
  let s := s.meter.flash.foldl (fun s e => setPoint s e.1 e.2) s
  { s with meter := { s.meter with regs := (List.range 16).foldl (fun t n =>
      tset {} t n { base := (pointVal s (0x1F0 + n)).v.toNat, count0 := tget 0 s.inputs.counts n }) s.meter.regs } }

/-- R383: the house clock is set from the Mantel clock. Log 101 (DEDUCED). -/
def setFromMantel (s : State) : State :=
  let m := s.mantel
  if m.oscStop || m.halt then s
  else setClock s (fun k => { k with time := { sec := m.seconds, ns := m.fraction * 30517578125 / 1000000 }, frac := 0, isSet := true })

/-- R377: switches to VBAK since the last start are told. -/
def tellBackup (s : State) : State :=
  if s.mantel.backupReported then s
  else
    let s := raiseEvent s [0] 3 mantelUnit stDone [BitVec.ofNat 64 s.mantel.bakFirst, BitVec.ofNat 64 s.mantel.bakSwitches]
    setMantel s (fun m => { m with backupReported := true })

/-- R398, R408 step 6: suite 0's CODE and CONST. -/
def bootFoundation (s : State) : State :=
  let activating := (updateAt s 2 0).phase == .activating
  let r := copyImage s 2 0
  if r.2 ≠ stDone then setUpdate r.1 2 0 (fun u => { u with lastStatus := r.2, report := true })
  else if activating then setUpdate r.1 2 0 (fun u => { u with phase := .trial, lastStatus := stDone, report := true })
  else r.1

/-- R154, R155, R409: a warm restart replays the journal; a cold one starts it afresh. Log 100 (DEDUCED). -/
def replayJournal (s : State) (warm : Bool) : State :=
  if !warm then { s with journal := {} }
  else
    let s := replayRetain (replayPoints s) 0
    { s with journal := { s.journal with rebuilding := s.journal.broken, restoredBroken := s.journal.broken } }

/-- R127: the descriptor of the foundation program. -/
def foundationDesc : TaskDesc :=
  { core := 33, replyMap := 1
    putQ := 0x10 :: List.replicate 15 0, takeQ := 0x13 :: List.replicate 7 0, takeItems := 15 :: List.replicate 7 0
    takeCache := 16 :: List.replicate 7 0 }

/-- R127, R408 step 7: the foundation program's context starts at address 0. Log 101 (DEDUCED). -/
def startFoundation (s : State) : State :=
  let s := setTask s 0 (fun t => { desc := foundationDesc, ctx := { cycle := 1, fd := t.ctx.fd } })
  let s := setQueue s 0x10 (fun q => attach q (.task 0 0))
  let s := setQueue s 0x13 (fun q => attachReply { q with consumer := some (.task 0 0) } 0 0)
  { s with foundation := { running := true, startedTick := s.tick } }

/-- R42, R412: a part's STATE once the module has started: a room with a fenced core is DEGRADED, a link that is down in FAULT. -/
def startState (s : State) (p : Part) : Nat :=
  if p.cls = 4 && (rangeFrom (4 * p.inst) 4).any (fun k => s.boot.coreFail.getLsbD k) then stDegraded
  else if p.cls = 6 && (tget {} s.links p.inst).down then stFaulty
  else stRun

/-- R42: the units run. -/
def startUnits (s : State) : State := allParts.foldl (fun s p => setUnitStat s (.part p) (fun u => { u with state := startState s p })) s

/-- R396: outcomes that the reset itself has brought are told. -/
def tellOutcomes0 (s : State) : State :=
  [1, 2].foldl (fun s kind => if (updateAt s kind 0).report then tellOutcome s kind 0 (updateAt s kind 0).lastStatus else s) s

/-- R408 step 5: what P and C restore besides. -/
def restoreCold (s : State) : State := if s.boot.lastClass = .w then s else setFromMantel (restoreMeter (restorePartition s 0))

/-- R408 steps 5 to 7, once the firmware runs. Log 101 (DEDUCED). -/
def startModule (s : State) (warm : Bool) : State :=
  let s := setUpServices (takeTamper (restoreKeys s))
  let s := restoreCold s
  let s := if s.cellar.wiped then s else ensureRoot s 0
  let s := setSuite s 0 (fun u => { u with state := stRun })
  let s := replayJournal (bootFoundation s) warm
  let s := { s with
    attic := { s.attic with flushDue := s.tick + ticksMs s.attic.flushMs, scrubDue := s.tick }
    meter := { s.meter with flashDue := s.tick + ticksMs 10000 }
    copies := (List.range 5).foldl (fun t d => tset {} t d { alignedAt := s.tick }) []
    boot := { s.boot with phase := .running } }
  startFoundation (startUnits (tellBackup (tellOutcomes0 s)))

/-- R409: the kind of restart that follows the reset. Log 46 (DEDUCED). -/
def warmRestart (s : State) : Bool :=
  match s.boot.lastClass with
  | .w => true
  | .c => false
  | .p => s.boot.cleanStop && !s.journal.broken

/-- R408: the start sequence, after a reset that a holding boundary-scan instruction does not keep on. Log 101 (DEDUCED), 112 (DESIGN CHOICE). -/
def startSequence (b : BootEnv) (s : State) : State :=
  if s.boot.phase ≠ .held || s.tap.holding || !b.refclkOk then s
  else if s.boot.pfailLow then { s with boot := { s.boot with phase := .waitPfail } }
  else
    let warm := warmRestart s
    let s := if s.boot.lastClass = .p then setTwin s (fun t => { t with member := b.twinRole }) else s
    let s := { s with boot := { s.boot with warm, restartWarm := warm, bootMs := satN 16 b.bootMs, cleanStop := false } }
    let s := builtInTests b (settleFuses (endTrials s) b.reads)
    if s.boot.memFail || (b.m0Fail && b.m1Fail) then enterRecovery s
    else match bootFirmware s with
      | none => enterRecovery s
      | some s => startModule s warm

/-- R408: the module starts. -/
def execStartSequence (b : BootEnv) (s : State) : Host.Outcome State Fault Refusal := .next (startSequence b s)

/-- R415: status words 1 and 2 of the module. -/
def moduleStatus (s : State) : List (BitVec 64) :=
  let b := s.boot
  [pack [(0, 2, match b.lastClass with | .p => 1 | .c => 2 | .w => 3), (2, 1, b2n b.restartWarm), (8, 4, b.cause), (16, 16, b.bootMs),
     (32, 16, b.warmResets), (48, 16, b.coldResets)],
   pack [(0, 32, b.coreFail.toNat), (32, 1, b2n b.m0Fail), (33, 1, b2n b.m1Fail), (34, 1, b2n b.memFail), (35, 1, b2n b.laneFail),
     (36, 1, b2n b.linkFail), (37, 1, b2n (b.phase == .recovery))]]

end Sys2Proof.Machine
end

