-- ==== Sys2Proof/Machine/Update.lean ====
section
/-! DEFINITION. Field update: staging, checking, activating, trials and pairs (R388 to R403). -/

namespace Sys2Proof.Machine
open Sys2Proof

/-! ### The selector and who may command (R392, R394, R398) -/

/-- R392: KIND and SUITE of an update command; none where they select no image. -/
def updateSelector (c : Cmd) : Option (Nat × Nat) :=
  let kind := fld (c.word 2) 8 2
  let suite := fld (c.word 2) 0 6
  if kind = 0 || ((kind = 3) != (suite != 0)) then none else some (kind, suite)

/-- R392: the suite whose owner commands an update: SUITE for KIND 3, suite 0 otherwise (then SUITE is 0). -/
def updateCommand (c : Cmd) (t : Target) (s : State) (run : Nat → Nat → CmdResult) : CmdResult :=
  onUnit t isSelf s
    (match updateSelector c with
     | none => refuse s .range
     | some (kind, suite) =>
       let go := if c.arg ≠ 0 then refuse s .range else if (suiteAt s suite).locked then refuse s .lock else run kind suite
       if s.boot.phase = .recovery then go else ownerOnly s suite c go)

/-- R401: the answer of a pair whose members have not both completed, with one bit per member. -/
def halfAnswer (r : CmdResult) : CmdResult := { r with st := { cls := .partialDone, reason := .link }, payload := [BitVec.ofNat 64 (2 ^ ownNumber r.s)] }

/-- R401: what the active of a pair has done it hands to its standby, and the pair's answer follows from both; whether the standby completes is a
free value. Log 106 (DEDUCED). -/
def bothMembers (c : Cmd) (t : Target) (r : CmdResult) : CmdResult :=
  if t ≠ .unit .pair || r.s.twin.role ≠ .active || r.st ≠ stDone then r
  else if r.s.twin.partnerRole ≠ 3 || landingDown r.s then halfAnswer r
  else
    let n := r.s.free
    let r := { r with s := setTwin { r.s with free := n + 1 } (fun w => { w with forwarded := w.forwarded ++ [c.item] }) }
    if Config.partnerCompletes n then r else halfAnswer r

/-- An update command that changes the selector's state. -/
def stagingCommand (code : Nat) (q : CmdQueue) (run : Cmd → Target → State → Nat → Nat → CmdResult) (s : State) : State :=
  unitCommand q (withCode code) false (fun c t s => bothMembers c t (updateCommand c t s (run c t s))) s

/-- R393: an activation of the selector is scheduled. -/
def scheduledUp (u : Update) : Bool := u.phase == .scheduled || u.phase == .waiting

/-! ### Staging and checking (R393 to R395) -/

/-- R389: the program store in blocks of 64 KiB. -/
def storeBlocks : Nat := 2560

/-- The blocks that an image of a length takes. -/
def imageBlocks (bytes : Nat) : Nat := (bytes + 65535) / 65536

/-- The blocks that a selector's images take, its staged one apart. -/
def heldBlocks (u : Update) : Nat :=
  (match u.current with | some g => imageBlocks g.length | none => 0) + (match u.fallback with | some g => imageBlocks g.length | none => 0)

/-- R393: the blocks of the program store in use, with a staged image of `kind` and `suite` not counted. -/
def blocksInUse (s : State) (kind suite : Nat) : Nat :=
  ((s.updates.filter (fun e => 2 ≤ e.1 / 64)).map (fun e =>
    heldBlocks e.2 + (if e.1 = updateKey kind suite then 0 else imageBlocks e.2.stagedLen))).sum

/-- R389, R393: whether an image of a length can be staged: in a firmware slot of 4 MiB, or in blocks of the store. -/
def stagingRoom (s : State) (kind suite bytes : Nat) : Bool :=
  if kind = 1 then bytes ≤ 4194304 else blocksInUse s kind suite + imageBlocks bytes ≤ storeBlocks

/-- R393: UPDATE_BEGIN. Log 104 (DEDUCED). -/
def beginUpdate (c : Cmd) (s : State) (kind suite : Nat) : CmdResult :=
  let u := updateAt s kind suite
  let bytes := fld (c.word 2) 32 32
  if bytes = 0 then refuse s .range
  else if scheduledUp u || (kind = 1 && u.phase == .trial) then refuse s .state
  else if !stagingRoom s kind suite bytes then refuse s .size
  else
    { s := setUpdate s kind suite (fun u => { u with
        stagedLen := bytes, staged := [], stagedBytes := 0, checkedImg := false, spare := none
        phase := if u.phase = .trial then .trial else .staging })
      st := stDone }

/-- R392: UPDATE_BEGIN. -/
def execUpdateBegin (q : CmdQueue) (s : State) : Host.Outcome State Fault Refusal := .next (stagingCommand 0xE0 q (fun c _ => beginUpdate c) s)

/-- Bytes of an image are programmed; an erased byte reads 0xFF. Log 104 (DEDUCED). -/
def program (t : Table Byte) (at' : Nat) : List Byte → Table Byte
  | [] => t
  | b :: bs => program (tset 0xFF t at' b) (at' + 1) bs

/-- R392, R393: UPDATE_STAGE. Log 104 (DEDUCED). -/
def stageUpdate (c : Cmd) (s : State) (kind suite : Nat) : CmdResult :=
  let u := updateAt s kind suite
  let off := fld (c.word 2) 32 32
  let data := c.item.data.drop 24
  if scheduledUp u then refuse s .state
  else if off % 8 ≠ 0 || data.length < 8 || 456 < data.length || data.length % 8 ≠ 0 then refuse s .range
  else if u.stagedLen < off + data.length then refuse s .size
  else
    { s := setUpdate s kind suite (fun u => { u with
        staged := program u.staged off data, stagedBytes := max u.stagedBytes (off + data.length), checkedImg := false
        phase := if u.phase = .trial then .trial else .staging })
      st := stDone }

/-- R392: UPDATE_STAGE. -/
def execUpdateStage (q : CmdQueue) (s : State) : Host.Outcome State Fault Refusal := .next (stagingCommand 0xE1 q (fun c _ => stageUpdate c) s)

/-- R394: whether an image's segments fit: a tenant's in its suite's window, the foundation's by its own header. -/
def segmentsFit (s : State) (kind suite : Nat) (g : FlashImage) : Bool :=
  if kind = 3 then
    let u := suiteAt s suite
    g.codeBytes ≤ u.constAt * 4096 && g.constBytes ≤ (u.retainAt - u.constAt) * 4096
  else if kind = 2 then g.constAt * 4096 ≤ g.winSize && g.retainAt * 4096 ≤ g.winSize && g.dataAt * 4096 ≤ g.winSize
  else true

/-- R395: UPDATE_CHECK. Log 104 (DEDUCED). -/
def checkUpdate (s : State) (kind suite : Nat) : CmdResult :=
  let u := updateAt s kind suite
  let g := stagedImage u
  if scheduledUp u then refuse s .state
  else
    let fails := match imageFails s kind suite g with
      | some r => some r
      | none => if segmentsFit s kind suite g then none else some .size
    match fails with
    | some r => { s := setUpdate s kind suite (fun u => { u with lastStatus := stRefused r }), st := stRefused r }
    | none =>
      { s := setUpdate s kind suite (fun u => { u with
          lastStatus := stDone, checkedImg := true, phase := if u.phase = .trial then .trial else .checked })
        st := stDone }

/-- R392: UPDATE_CHECK. -/
def execUpdateCheck (q : CmdQueue) (s : State) : Host.Outcome State Fault Refusal := .next (stagingCommand 0xE2 q (fun _ _ => checkUpdate) s)

/-! ### Scheduling (R392, R394, R401) -/

/-- R394: an activation is already scheduled or in trial: of KIND 1 or 2 for either, of KIND 3 for the same suite. -/
def activationOpen (s : State) (kind suite : Nat) : Bool :=
  let busy := fun (u : Update) => scheduledUp u || u.phase == .activating || u.phase == .trial
  if kind = 3 then busy (updateAt s 3 suite) else busy (updateAt s 1 0) || busy (updateAt s 2 0)

/-- R394: ACTIVATE_AT lies from 100 ms to 7 days ahead. -/
def activateAtOk (s : State) (t : Time80) : Bool := t.ns < giga && 100000000 ≤ tdiff t (now s) && tdiff t (now s) ≤ 604800 * giga

/-- R392: the interlock elements of words 5 and 6. -/
def interlocksOf (c : Cmd) : List Nat := ((List.range 8).map (fun i => fld (c.word (5 + i / 4)) (16 * (i % 4)) 14)).filter (· != 0)

/-- R401: the members of a pair must activate together: KIND 2, and KIND 1 with another MIRROR_VER. Log 106 (DEDUCED). -/
def mustTogether (s : State) (t : Target) (kind : Nat) (g : FlashImage) : Bool :=
  t == .unit .pair && (kind == 2 || (kind == 1 && g.mirrorVer != ownMirrorVer s))

/-- R392: UPDATE_ACTIVATE. -/
def scheduleUpdate (c : Cmd) (t : Target) (s : State) (kind suite : Nat) : CmdResult :=
  let u := updateAt s kind suite
  let hold := fld (c.word 2) 32 16
  let trial := fld (c.word 4) 16 16
  let at80 := ofNowForm (c.word 3) (fld (c.word 4) 0 16)
  let locks := interlocksOf c
  if 3600 < hold || (trial != 0 && trial < 60) || !locks.all isPoint then refuse s .range
  else if activationOpen s kind suite || !u.checkedImg || (mustTogether s t kind (stagedImage u) && !bitAt (c.word 2) 16) then refuse s .state
  else if !activateAtOk s at80 then refuse s .range
  else
    { s := setUpdate s kind suite (fun u => { u with
        phase := .scheduled, activateAt := at80, together := bitAt (c.word 2) 16, pairHeld := t == .unit .pair, holdS := hold
        trialS := if trial = 0 then 600 else trial, interlocks := locks, version := (stagedImage u).version, pairHalf := false })
      st := stDone }

/-- R392: UPDATE_ACTIVATE. -/
def execUpdateActivate (q : CmdQueue) (s : State) : Host.Outcome State Fault Refusal := .next (stagingCommand 0xE3 q scheduleUpdate s)

/-! ### Activation (R394, R397, R399, R401) -/

/-- R399: the staged image becomes the current one, and the previous one its fallback; the trial runs from now. Log 103 (DEDUCED), 105 (DEDUCED). -/
def putInUse (t : Time80) (u : Update) : Update :=
  { u with
    phase := .activating, version := (stagedImage u).version, fallback := u.current, current := some (stagedImage u), spare := none
    runSlot := !u.runSlot, staged := [], stagedLen := 0, stagedBytes := 0, checkedImg := false, interlocks := [], pairHalf := false
    trialEnd := taddNs t (u.trialS * giga : Nat) }

/-- R243, R397: the warm reset that KIND 1 and 2 activate by; a member of a pair announces UPDATING first. Log 106 (DEDUCED). -/
def warmForUpdate (s : State) : State :=
  if s.addr.paired && s.twin.role ≠ .none then
    { setTwin s (fun t => { t with role := .updating }) with boot := { s.boot with pendingReset := some (.w, 5, s.tick) } }
  else resetModule s .w 5

/-- R397: an image is activated. A standby in step takes a tenant's cold reset from the delta (R401). Log 105 (DEDUCED). -/
def activateNow (s : State) (kind suite : Nat) : State :=
  let s := setUpdate s kind suite (putInUse (now s))
  if kind ≠ 3 then warmForUpdate s
  else if s.twin.role = .standby && s.twin.inStep then s
  else if (suiteAt s suite).enabled then resetSuite s suite true
  else tellOutcome (setUpdate s 3 suite (fun u => { u with phase := .trial })) 3 suite stDone

/-- R401: the members of a pair change to an image, or back to one, one at a time, and this is the active. Log 106 (DEDUCED). -/
def oneByOne (s : State) (kind : Nat) (u : Update) (g : Option FlashImage) : Bool :=
  kind == 1 && u.pairHeld && s.twin.role == .active && (match g with | some g => g.mirrorVer == ownMirrorVer s | none => false)

/-- R394: an activation ends without effect; the image stays staged. -/
def endActivation (s : State) (kind suite : Nat) (st : Status) : State :=
  tellOutcome (setUpdate s kind suite (fun u => { u with phase := restPhase u, pairHalf := false })) kind suite st

/-- R394 "Moving": an interlock element reads 1 in the committed image, or the suite or the pair is not at rest. -/
def moving (s : State) (kind suite : Nat) : Bool :=
  (updateAt s kind suite).interlocks.any (fun e => (pointVal s e).v == 1) || (kind == 3 && resetting s suite) ||
    (s.addr.paired && (s.twin.syncing || s.twin.partnerRole == 4))

/-- R394: the checks made at ACTIVATE_AT and at each recheck, in their order, and the activation where they pass. -/
def judgeActivation (s : State) (kind suite : Nat) : State :=
  let u := updateAt s kind suite
  if s.mantel.batLow || s.boot.pfailLow then endActivation s kind suite (stRefused .power)
  else if moving s kind suite then
    if reached (now s) (taddNs u.activateAt (u.holdS * giga : Nat)) then endActivation s kind suite (stRefused .state)
    else setUpdate s kind suite (fun u => { u with phase := .waiting, recheckDue := s.tick + ticksMs 100, lastStatus := stDelayed .pending })
  else if oneByOne s kind u (some (stagedImage u)) then
    setUpdate s kind suite (fun u => { u with phase := .scheduled, pairHalf := true, pairTick := s.tick })
  else activateNow s kind suite

/-- R397: ACTIVATE_AT comes, and every commit due then has been applied; or, for the second half of a pair, the member has become the standby. -/
def activation (kind suite : Nat) (s : State) : State :=
  let s := settleAll s
  let u := updateAt s kind suite
  if u.phase ≠ .scheduled || !reached (now s) u.activateAt || commitsDue s then s
  else if u.pairHalf then (if s.twin.role = .standby then activateNow s kind suite else s)
  else if (suiteAt s suite).locked then endActivation s kind suite (stRefused .lock)
  else judgeActivation s kind suite

/-- R397: an activation is due. -/
def execUpdateActivation (kind suite : Nat) (s : State) : Host.Outcome State Fault Refusal := .next (activation kind suite s)

/-- R394: a waiting activation is checked again every 100 ms. -/
def execUpdateRecheck (kind suite : Nat) (s : State) : Host.Outcome State Fault Refusal :=
  .next (let u := updateAt s kind suite
    if u.phase = .waiting && decide (u.recheckDue ≤ s.tick) then judgeActivation s kind suite else s)

/-! ### Trials (R399, R400) -/

/-- R399: the previous image comes back in the way its KIND is activated. Log 105 (DEDUCED). -/
def revert (s : State) (kind suite : Nat) : State :=
  let u := updateAt s kind suite
  if kind = 3 then
    let s := tellOutcome (setUpdate s 3 suite comeBack) 3 suite (stRefused .state)
    resetSuite s suite true
  else if oneByOne s kind u u.fallback then setUpdate s kind suite (fun u => { u with pairHalf := true, pairTick := s.tick })
  else warmForUpdate (setUpdate s kind suite (fun u => { comeBack u with lastStatus := stRefused .state, report := true }))

/-- R399: a trial passes without confirmation. -/
def execTrialExpiry (kind suite : Nat) (s : State) : Host.Outcome State Fault Refusal :=
  .next (let u := updateAt s kind suite
    if u.phase = .trial && reached (now s) u.trialEnd && !(u.pairHalf && s.twin.role == .active) then revert s kind suite else s)

/-- R352, R400: the anti-rollback thermometer is programmed up to a count, in all three copies. -/
def programAntiroll (s : State) (count : Nat) : State :=
  let mask := 2 ^ count - 1
  let words := (List.range 12).foldl (fun t i =>
    tset 0 t (21 + i) (tget 0 t (21 + i) ||| BitVec.ofNat 32 (mask / 2 ^ (32 * (i % 4))))) s.fuses.words
  { s with fuses := { s.fuses with words } }

/-- What a read-back at both margins shows. -/
def readBack (s : State) (rb : FuseReads) : State := { s with fuses := { s.fuses with marginal := rb.marginal.foldl (fun t e => tset 0 t e.1 e.2) [] } }

/-- R400: the settled anti-rollback count rises with a confirmed image; true where it settles. -/
def raiseAntiroll (s : State) (rb : FuseReads) (count : Nat) : State × Bool :=
  let s := readBack (programAntiroll s count) rb
  let x := settleAntiroll s
  (noteMarginal { s with cellar := { s.cellar with antiroll := x.value } } x.marginal, x.value == count && !x.marginal)

/-- R399, R400: UPDATE_CONFIRM. -/
def confirmUpdate (rb : FuseReads) (s : State) (kind suite : Nat) : CmdResult :=
  let u := updateAt s kind suite
  if u.phase ≠ .trial then refuse s .state
  else
    let kept := setUpdate s kind suite (fun u => { u with
      spare := if kind = 1 then u.fallback else none, fallback := none, pairHalf := false, phase := restPhase u, lastStatus := stDone })
    let level := match u.current with | some g => g.rollback | none => 0
    if kind ≠ 1 || level ≤ s.cellar.antiroll then { s := kept, st := stDone }
    else
      let r := raiseAntiroll kept rb level
      if r.2 then { s := r.1, st := stDone }
      else { s := setUpdate r.1 kind suite (fun u => { u with lastStatus := stFault .check }), st := stFault .check }

/-- R392: UPDATE_CONFIRM. -/
def execUpdateConfirm (q : CmdQueue) (rb : FuseReads) (s : State) : Host.Outcome State Fault Refusal :=
  .next (stagingCommand 0xE4 q (fun _ _ => confirmUpdate rb) s)

/-- R399: a reversion that a command brings begins after its reply. Log 105 (DEDUCED). -/
def revertLater (s : State) (kind suite : Nat) : State :=
  let t := revert s kind suite
  if kind = 3 || (updateAt t kind suite).pairHalf then t
  else
    let s := setUpdate s kind suite (fun u => { comeBack u with lastStatus := stRefused .state, report := true })
    let s := if s.addr.paired && s.twin.role ≠ .none then setTwin s (fun t => { t with role := .updating }) else s
    resetLater s .w 5

/-- R392, R399: UPDATE_ABORT: a trial reverts, a schedule is dropped, a staged image is discarded. Log 104 (DEDUCED). -/
def abortUpdate (s : State) (kind suite : Nat) : CmdResult :=
  let u := updateAt s kind suite
  if u.phase = .trial then { s := revertLater s kind suite, st := stDone }
  else if u.phase = .activating then refuse s .state
  else if scheduledUp u then { s := setUpdate s kind suite (fun u => { u with phase := restPhase u, pairHalf := false }), st := stDone }
  else { s := setUpdate s kind suite (fun u => { u with
           phase := .idle, stagedLen := 0, staged := [], stagedBytes := 0, checkedImg := false }), st := stDone }

/-- R392: UPDATE_ABORT. -/
def execUpdateAbort (q : CmdQueue) (s : State) : Host.Outcome State Fault Refusal := .next (stagingCommand 0xE5 q (fun _ _ => abortUpdate) s)

/-! ### Pairs (R401) -/

/-- R401, R407: since when the second half of a pair's firmware change or reset waits on this active member. -/
def halfSince (s : State) : Option Nat :=
  if s.twin.role ≠ .active then none
  else if (updateAt s 1 0).pairHalf then some (updateAt s 1 0).pairTick
  else s.twin.pairReset.map (·.2)

/-- R401: a second half has not started within 600 s: a change ends, a reset of the pair has reached one member alone. Log 91 (DEDUCED). -/
def abandonHalf (s : State) : State :=
  if (updateAt s 1 0).pairHalf then (if (updateAt s 1 0).phase = .scheduled then endActivation s 1 0 (stRefused .state) else s)
  else setTwin s (fun t => { t with pairReset := none })

/-- R401: the standby has changed, has joined again and is in step for 10 s with 64 confirmations: the active switches over. Log 106 (DEDUCED). -/
def pairSwitchover (s : State) : State :=
  let t := s.twin
  match halfSince s with
  | none => s
  | some since => if t.inStep && 64 ≤ t.inStepCount && decide (since < t.inStepTick) && decide (t.inStepTick + ticksMs 10000 ≤ s.tick) then
      beginSwitch s else s

/-- R401: the active switches over. -/
def execPairUpdateSwitchover (s : State) : Host.Outcome State Fault Refusal := .next (pairSwitchover s)

/-- R401: a second half that has not started within 600 s ends. -/
def execPairUpdateTimeout (s : State) : Host.Outcome State Fault Refusal :=
  .next (match halfSince s with
    | none => s
    | some since => if since + ticksMs 600000 ≤ s.tick then abandonHalf s else s)

/-! ### Status (R402) -/

/-- R402: PHASE. -/
def phaseCode (s : State) (kind : Nat) (u : Update) : Nat :=
  if kind = 1 && u.phase == .idle && s.boot.phase == .recovery then 7 else u.phase.ctorIdx

/-- R402: the five status words of a selector. Log 104 (DEDUCED). -/
def updateWords (s : State) (kind suite : Nat) : List (BitVec 64) :=
  let u := updateAt s kind suite
  let t := if u.phase = .trial then u.trialEnd else u.activateAt
  let g := stagedImage u
  let staged := u.stagedLen != 0
  [pack [(0, 3, phaseCode s kind u), (8, 8, Status.byte u.lastStatus), (16, 1, b2n (kind == 1 && u.runSlot)), (17, 1, b2n u.fallback.isSome),
     (32, 32, u.stagedBytes)],
   nowForm t,
   pack [(0, 16, secHi t), (16, 8, if staged then g.rollback else 0)],
   match u.current with | some x => x.version | none => 0,
   if staged then g.version else 0]

/-- R402: UPDATE_STATUS. -/
def execUpdateStatus (q : CmdQueue) (s : State) : Host.Outcome State Fault Refusal :=
  .next (unitCommand q (withCode 0xE6) false (fun c t s => onUnit t isSelf s
    (match updateSelector c with
     | none => refuse s .range
     | some (kind, suite) => if 4 < c.arg then refuse s .range else { s, st := stDone, payload := [(updateWords s kind suite).getD c.arg 0] })) s)

end Sys2Proof.Machine
end

