-- ==== Sys2Proof/Machine/Lifecycle.lean ====
section
/-! DEFINITION. The lifecycle, the end of a tamper state, and the test access port (R354, R355, R418, R419). -/

namespace Sys2Proof.Machine
open Sys2Proof

/-! ### LIFECYCLE_ADVANCE (R354) -/

/-- R354: the requester is the owner of suite 0, over SVC with RANK 7. -/
def ownerOverSvc (s : State) (c : Cmd) : Bool :=
  buildingOwner s c && s.sessions.any (fun x => x.suite == 0 && x.host == c.host && x.rank == 7 && x.port == 194)

/-- R354: the words of VENDOR_HASH for the check of a return authorisation. Log 39 (DESIGN CHOICE), 107 (DEDUCED). -/
def authorised (s : State) (c : Cmd) : Bool := Config.returnAuthorised (s.cellar.vendorHash.getD []) (c.item.data.drop 16)

/-- R354: why a transition is refused; none where it is allowed. Codes: BLANK 0, MAKER 1, FIELD 3, RETURN 7, SCRAP 15 (R352). Log 107 (DEDUCED). -/
def transitionFails (s : State) (c : Cmd) (target : Nat) : Option Reason :=
  match s.cellar.lifecycle, target with
  | 1, 3 => if (suiteAt s 0).locked then some .lock else none
  | 3, 7 => if authorised s c then none else some .check
  | 3, 15 => none
  | 7, 15 => none
  | _, _ => some .state

/-- R352, R354: the lifecycle code is programmed in all three copies. Log 107 (DEDUCED). -/
def programLifecycle (s : State) (target : Nat) : State :=
  let word := BitVec.ofNat 32 (target + target * 2 ^ 8 + target * 2 ^ 16)
  { s with fuses := { s.fuses with words := tset 0 s.fuses.words 20 (tget 0 s.fuses.words 20 ||| word) } }

/-- R354: LIFECYCLE_ADVANCE to the state whose code is ARG. Log 107 (DEDUCED). -/
def advanceLifecycle (rb : FuseReads) (c : Cmd) (t : Target) (s : State) : CmdResult :=
  onUnit t (· == .part cellarPart) s
    (if !ownerOverSvc s c then refuseOwner s 0 c
     else match transitionFails s c c.arg with
       | some r => refuse s r
       | none =>
         let s := readBack (programLifecycle s c.arg) rb
         let x := settleLifecycle s
         let s := noteMarginal s x.marginal
         if x.value ≠ c.arg || x.marginal then { s, st := stFault .check }
         else { s := resetLater { s with cellar := { s.cellar with lifecycle := c.arg, flashKeys := [] } } .c 7, st := stDone })

/-- R354: LIFECYCLE_ADVANCE. -/
def execLifecycleAdvance (q : CmdQueue) (rb : FuseReads) (s : State) : Host.Outcome State Fault Refusal :=
  .next (unitCommand q (withCode 0xC1) false (advanceLifecycle rb) s)

/-! ### TAMPER_CLEAR (R348, R355) -/

/-- R348, R355: the tamper state is cleared; after a wipe the enabled suites get new roots. Log 40 (DESIGN CHOICE). -/
def clearTamper (c : Cmd) (t : Target) (s : State) : CmdResult :=
  onUnit t (· == .part cellarPart) s
    (ownerOnly s 0 c
      (if c.arg ≠ 0 then refuse s .range
       else if Config.tamperPin s.tick then refuse s .state
       else
         let s := { s with mantel := { s.mantel with tamperLatched := false }, cellar := { s.cellar with wiped := false } }
         { s := (enabledSuites s).foldl ensureRoot s, st := stDone }))

/-- R355: TAMPER_CLEAR. -/
def execTamperClear (q : CmdQueue) (s : State) : Host.Outcome State Fault Refusal := .next (unitCommand q (withCode 0xC2) false clearTamper s)

/-! ### The TAP (R418, R419) -/

/-- R418: the instructions that keep the module in a C reset. -/
def TapInstr.holds : TapInstr → Bool
  | .extest | .clamp | .highz | .extestPulse | .extestTrain => true
  | _ => false

/-- R419: IDCODE. -/
def idcode (s : State) : Nat := fld (BitVec.ofNat 64 (s.cellar.ident.getD 1 0).toNat) 16 4 * 2 ^ 28 + 0xF192 * 2 ^ 12 + 0x2D5 * 2 + 1

/-- R419: IDENT: the settled Fusebox words 0 to 3, word 0 first. -/
def identData (s : State) : Nat := natOf (s.cellar.ident.flatMap (fun w => bytesOf 4 w.toNat))

/-- R418: the width and the captured value of the register that an instruction selects; the boundary register's value is its own. -/
def tapRegister (s : State) : TapInstr → Nat × Nat
  | .idcode => (32, idcode s)
  | .ident => (128, identData s)
  | .clamp | .highz | .bypass => (1, 0)
  | _ => (s.tap.boundary.length, 0)

/-- R418: in FIELD a holding opcode acts as BYPASS. Log 108 (DEDUCED). -/
def tapActs (s : State) (i : TapInstr) : TapInstr := if TapInstr.holds i && s.cellar.lifecycle == 3 then .bypass else i

/-- R418: an instruction takes effect: a holding one keeps the module in a C reset, and leaving one starts a C reset with cause 8. Log 108 (DEDUCED). -/
def loadTap (s : State) (i : TapInstr) : State :=
  let i := tapActs s i
  let r := tapRegister s i
  let set := fun (s : State) => { s with tap := { s.tap with instr := i, holding := TapInstr.holds i, width := r.1, data := r.2 } }
  if TapInstr.holds i then (if s.tap.holding then set s else set (requestReset s .c 8))
  else if s.tap.holding then requestReset (set s) .c 8
  else set s

/-- R418: TRST_N low, or a power-on, resets the TAP; IDCODE is selected. Log 108 (DEDUCED). -/
def execTapReset (s : State) : Host.Outcome State Fault Refusal := .next (loadTap s .idcode)

/-- R418: EXTEST. -/
def execExtest (s : State) : Host.Outcome State Fault Refusal := .next (loadTap s .extest)

/-- R418: SAMPLE/PRELOAD: the boundary register captures the pins and takes what is shifted in. -/
def execSamplePreload (capture update : List Bool) (s : State) : Host.Outcome State Fault Refusal :=
  .next (loadTap { s with tap := { s.tap with boundary := capture, preload := update } } .samplePreload)

/-- R419: IDCODE. -/
def execIdcode (s : State) : Host.Outcome State Fault Refusal := .next (loadTap s .idcode)

/-- R418: CLAMP. -/
def execClamp (s : State) : Host.Outcome State Fault Refusal := .next (loadTap s .clamp)

/-- R418: HIGHZ. -/
def execHighz (s : State) : Host.Outcome State Fault Refusal := .next (loadTap s .highz)

/-- R418: EXTEST_PULSE. -/
def execExtestPulse (s : State) : Host.Outcome State Fault Refusal := .next (loadTap s .extestPulse)

/-- R418: EXTEST_TRAIN. -/
def execExtestTrain (s : State) : Host.Outcome State Fault Refusal := .next (loadTap s .extestTrain)

/-- R419: IDENT. -/
def execIdent (s : State) : Host.Outcome State Fault Refusal := .next (loadTap s .ident)

/-- R418: BYPASS, and every unlisted opcode. -/
def execBypass (s : State) : Host.Outcome State Fault Refusal := .next (loadTap s .bypass)

/-- R418: a holding instruction is left: a C reset with cause 8. Log 108 (DEDUCED). -/
def execHoldingExit (s : State) : Host.Outcome State Fault Refusal := .next (if s.tap.holding then loadTap s .bypass else s)

end Sys2Proof.Machine
end

