-- ==== Sys2Proof/Machine/LoopTests.lean ====
section
/-! DEFINITION. Loopback tests on ports and links (R416, R417). -/

namespace Sys2Proof.Machine
open Sys2Proof

/-! ### Retraining, at a unit reset and after a test (R245, R274, R306, R417) -/

/-- R306, R303: a Hallway port ends its offered frames, as at a suite reset, and integrates again; a recovery from bus-off goes on, for no command
shortens it. Log 97 (DEDUCED). -/
def rejoinHall (s : State) (h : Nat) : State :=
  let idle := (hallAt s h).offered.filter (fun o => !o.2.attempting)
  let s := idle.foldl (fun s o => completeOffered s h o.1 o.2 stResetDiscarded) s
  settleHall (setHall s h (fun x => { x with
    offered := x.offered.map (fun o => if o.2.attempting then (o.1, { o.2 with cancel := some stResetDiscarded }) else o)
    tec := 0, recErr := 0, integrated := false, busState := if x.busState = 2 then 2 else 5 })) h

/-- The link of a port, an uplink or a Hallway port is trained again. -/
def retrainUnit (s : State) : UnitId → State
  | .part p =>
    if p.cls = 1 then retrain s p.inst ((portAt s p.inst).cfg.mode != 0)
    else if p.cls = 2 then renegotiate s p.inst
    else if p.cls = 3 then rejoinHall s p.inst
    else s
  | _ => s

/-! ### LOOP_TEST (R416) -/

/-- R416: the units that take LOOP_TEST. -/
def loopUnit : UnitId → Bool
  | .part p => (1 ≤ p.cls && p.cls ≤ 3) || (p.cls == 6 && 5 ≤ p.inst)
  | _ => false

/-- R416: the limits of LENGTH of an interface: the frame of a MAC, the data of a bus frame; those of the links to the partner are
not given. Log 97 (DEDUCED). -/
def lengthOk (s : State) (u : UnitId) (n : Nat) : Bool :=
  match u with
  | .part p =>
    if p.cls = 1 then 64 ≤ n && n ≤ (portAt s p.inst).cfg.maxFrame
    else if p.cls = 2 then 64 ≤ n && n ≤ (portAt s (192 + p.inst)).cfg.maxFrame
    else if p.cls = 3 then n ≤ (if (hallAt s p.inst).cfg.xlEn then 2048 else if (hallAt s p.inst).cfg.fdEn then 64 else 8)
    else 1 ≤ n
  | _ => false

/-- R417: the cases of REFUSED(STATE). Log 97 (DEDUCED). -/
def loopBarred (s : State) (u : UnitId) (depth : Nat) : Bool :=
  testing s u || (match u with
    | .part p =>
      if p.cls = 1 then quietPort s p.inst
      else if p.cls = 3 then hallRestricted s p.inst && 3 ≤ depth
      else p.cls == 6 && (s.twin.role == .active || s.twin.role == .standby)
    | _ => false)

/-- R417: while a test runs the unit reads LINK down. -/
def takeDown (s : State) : UnitId → State
  | .part p =>
    if p.cls = 1 then dropLink s p.inst 0
    else if p.cls = 2 then
      setUplink (dropLink s (192 + p.inst) 0) p.inst (fun u => { u with rate := 0, fec := 0, lpAdv := 0, lowRun := 0, gov := if u.gov = 3 then 3 else 0 })
    else if p.cls = 3 then setHall s p.inst (fun x => { x with integrated := false })
    else s
  | _ => s

/-- R416: LOOP_TEST on a unit that takes it. Log 97 (DEDUCED). -/
def beginTest (c : Cmd) (u : UnitId) (s : State) : CmdResult :=
  let a := c.word 2
  let t : LoopTest := { depth := c.arg, count := fld a 0 16, length := fld a 16 16, durationS := fld a 32 16, testId := fld (c.word 3) 0 29,
                        startTick := s.tick, tag := c.tag, replyQueue := c.replyQueue, suite := c.suite }
  let fits := if t.depth = 4 then 1 ≤ t.durationS && t.durationS ≤ 3600 else t.count != 0 && lengthOk s u t.length
  if t.depth = 0 || 4 < t.depth || !fits then refuse s .range
  else if loopBarred s u t.depth then refuse s .state
  else
    let s := takeDown s u
    { s := { s with tests := tput s.tests (unitKey u) t }, st := stDone, reply := false }

/-- R416: LOOP_TEST, from the owner of suite 0. Log 97 (DEDUCED). -/
def loopTest (c : Cmd) (t : Target) (s : State) : CmdResult :=
  match t with
  | .unit u => if loopUnit u then ownerOnly s 0 c (beginTest c u s) else refuse s .range
  | .point _ _ => refuse s .range

/-- R416: LOOP_TEST. -/
def execLoopTest (q : CmdQueue) (s : State) : Host.Outcome State Fault Refusal := .next (unitCommand q (withCode 0xF0) false loopTest s)

/-! ### The end of a test (R417) -/

/-- R417: a test's status. -/
def loopStatus (depth : Nat) (r : LoopResult) : Status := if depth = 4 || (r.received = r.sent && r.bad = 0) then stDone else stFault .check

/-- R417: the payload of the reply. -/
def loopWords (r : LoopResult) : List (BitVec 64) := [pack [(0, 32, r.sent), (32, 32, r.received)], pack [(0, 32, r.bad), (32, 32, r.maxLatNs)]]

/-- A test is over: its command is answered. -/
def finishTest (s : State) (u : UnitId) (t : LoopTest) (st : Status) (payload : List (BitVec 64)) : State :=
  lateReply { s with tests := tdel s.tests (unitKey u) } .unit (unitAddr s u) t.tag t.replyQueue 0xF0 t.suite st payload

/-- R417: a test ends, at depth 4 when DURATION_S has passed; the link is trained again, its counters kept. Log 97 (DEDUCED). -/
def loopEnd (u : UnitId) (r : LoopResult) (s : State) : State :=
  match tlook s.tests (unitKey u) with
  | none => s
  | some t =>
    if t.depth = 4 && s.tick < t.startTick + ticksMs (1000 * t.durationS) then s
    else retrainUnit (finishTest s u t (loopStatus t.depth r) (loopWords r)) u

/-- R417: a loopback test ends. -/
def execLoopTestEnd (u : UnitId) (r : LoopResult) (s : State) : Host.Outcome State Fault Refusal := .next (loopEnd u r s)

end Sys2Proof.Machine
end

