-- ==== Sys2Proof/Machine/Memory.lean ====
section
/-! DEFINITION. Loads, stores and atomics (R60, R62 to R64, R75, R76, R371). -/

namespace Sys2Proof.Machine
open Sys2Proof

/-- R75: a loaded value of a size: sizes 4 to 6 are sign-extended. -/
def loadedValue (size : BitVec 3) (v : Nat) : BitVec 64 :=
  if 4 ≤ size.toNat then ofInt64 (signed (8 * sizeBytes size) v) else BitVec.ofNat 64 v

/-- R75: LD. -/
def doLoad (f : FmtM) (e : Env) (s : State) (x : Ctx) : Did :=
  let a := memAddr f x
  let n := sizeBytes f.size
  match dataFault e .load a n with
  | some d => d
  | none => match memoryFault e s a n with
    | some d => d
    | none => .next (correctErrors s (e.u.winBase + a.toNat) n) (rset x f.rt (loadedValue f.size (loadNat s e.u a.toNat n)))

/-- R75: loads from w[base] + imm12 into w[rt]. -/
def execLd (k : Nat) (f : FmtM) (s : State) : Host.Outcome State Fault Refusal := .next (runInsn k (encM 0x08 f) (doLoad f) s)

/-- R75: ST. -/
def doStore (f : FmtM) (e : Env) (s : State) (x : Ctx) : Did :=
  let a := memAddr f x
  let n := sizeBytes f.size
  match dataFault e .store a n with
  | some d => d
  | none => .next (storeBytes s e.c e.u a.toNat (bytesOf n (rget x f.rt).toNat)) x

/-- R75: stores the low bytes of w[rt] to w[base] + imm12. -/
def execSt (k : Nat) (f : FmtM) (s : State) : Host.Outcome State Fault Refusal := .next (runInsn k (encM 0x09 f) (doStore f) s)

/-- R76: an atomic: w[rd] gets the old value, and the combined value is written back. fn[9] selects a word. -/
def doAtomic (f : FmtA) (comb : BitVec 64 → BitVec 64 → BitVec 64) (combW : BitVec 32 → BitVec 32 → BitVec 32)
    (e : Env) (s : State) (x : Ctx) : Did :=
  let a := rget x f.rs1
  let n := if isW f then 4 else 8
  match dataFault e .store a n with
  | some d => d
  | none => match memoryFault e s a n with
    | some d => d
    | none =>
      let old : BitVec 64 := BitVec.ofNat 64 (loadNat s e.u a.toNat n)
      let new := if isW f then (combW (lo32 old) (lo32 (rget x f.rs2))).setWidth 64 else comb old (rget x f.rs2)
      .next (storeBytes (correctErrors s (e.u.winBase + a.toNat) n) e.c e.u a.toNat (bytesOf n new.toNat)) (rset x f.rd old)

/-- R76: the new value is rs2. -/
def execSwap (k : Nat) (f : FmtA) (s : State) : Host.Outcome State Fault Refusal :=
  .next (runInsn k (encA 0x0A 0 f) (doAtomic f (fun _ b => b) (fun _ b => b)) s)

/-- R76: old + rs2, wrapping. -/
def execAadd (k : Nat) (f : FmtA) (s : State) : Host.Outcome State Fault Refusal :=
  .next (runInsn k (encA 0x0A 1 f) (doAtomic f (· + ·) (· + ·)) s)

/-- R76: old and rs2. -/
def execAand (k : Nat) (f : FmtA) (s : State) : Host.Outcome State Fault Refusal :=
  .next (runInsn k (encA 0x0A 2 f) (doAtomic f (· &&& ·) (· &&& ·)) s)

/-- R76: old or rs2. -/
def execAor (k : Nat) (f : FmtA) (s : State) : Host.Outcome State Fault Refusal :=
  .next (runInsn k (encA 0x0A 3 f) (doAtomic f (· ||| ·) (· ||| ·)) s)

/-- R76: signed maximum. -/
def execAmax (k : Nat) (f : FmtA) (s : State) : Host.Outcome State Fault Refusal :=
  .next (runInsn k (encA 0x0A 4 f)
    (doAtomic f (fun a b => if BitVec.slt a b then b else a) (fun a b => if BitVec.slt a b then b else a)) s)

/-- R76: signed minimum. -/
def execAmin (k : Nat) (f : FmtA) (s : State) : Host.Outcome State Fault Refusal :=
  .next (runInsn k (encA 0x0A 5 f)
    (doAtomic f (fun a b => if BitVec.slt b a then b else a) (fun a b => if BitVec.slt b a then b else a)) s)

end Sys2Proof.Machine
end

