-- ==== Sys2Proof/Machine/TwinApply.lean ====
section
/-! DEFINITION. The standby applies a delta (R231 to R236). -/

namespace Sys2Proof.Machine
open Sys2Proof

/-! ### CONFIG entries (R231) -/

/-- What a descriptor with a configuration code does, by its CODE and OP (R100). The codes of the pass alone are never mirrored. -/
def configureBy (r : CfgReq) (s : State) : CfgOut :=
  let op := fld (r.word 2) 0 2
  match r.code with
  | 0x03 => configureSuite r s
  | 0x04 => cfgUnitOnly r s (· == .part larderPart) (fun _ => if bitAt (r.word 2) 16 then setLimit r s else setUpQueue r s)
  | 0x05 => configurePoint r s
  | 0x06 => onTask r s (fun room =>
      if bitAt (r.word 2) 18 then cfgDone (removeTask s (ctxKey (fld (r.word 2) 5 6) (fld (r.word 2) 0 5))) else loadTask r s room)
  | 0x07 => configurePort r s
  | 0x08 => configureFwd (fwdOp r == 1) r s
  | 0x09 => configureUplink r s
  | 0x0A => if op = 0 then clockSet r s else if op = 1 then clockStep r s else if op = 2 then clockThreshold r s else clockIncrement r s
  | 0x0B => configureHall (if op = 1 then configureFilter else if op = 2 then configureHallSlot else configureHallPort) r s
  | 0x0C => configureInput r s
  | 0x0D => configureBank r s
  | 0x0E => configureMeter (if op = 1 then configurePulse else if op = 2 then configureRegister else configureCircuit) r s
  | 0x0F => configureSlot (match hearthOp r with | 1 => coefFields | 2 => removedSlot | 3 => (fun _ => clearState) | _ => slotFields) r s
  | 0x10 => configureCellar r s
  | 0x11 => configureAttic r s
  | 0x12 => configureScrub r s
  | 0x13 => configureMantel (if op = 1 then mantelHalt else if op = 2 then mantelSetRun else mantelSetup) r s
  | 0x14 => configureTwin r s
  | 0x15 => configurePace r s
  | 0x16 => configureLock r s
  | _ => cfgDeny s (stRefused .state)

/-- R37: a TARGET under the partner's module address names the same unit or point under this member's. Log 86 (DEDUCED). -/
def ownTarget (s : State) (a : BitVec 64) : BitVec 64 :=
  let d := addrDepth s.addr.self
  let lo := levelLo d
  let own := addrLevel s.addr.self d
  if addrDepth a < d || !samePath a s.addr.self (d - 1) then a
  else BitVec.ofNat 64 (a.toNat - addrLevel a d * 2 ^ lo + own * 2 ^ lo)

/-- R231 CONFIG: a descriptor is carried out on this member, with no completion (NOREPLY); as on the active it may come to nothing. Log 86 (DEDUCED). -/
def applyConfig (suite : Nat) (words : List (BitVec 64)) (s : State) : State :=
  let target := ownTarget s (words.getD 0 0)
  let header := words.getD 1 0 ||| BitVec.ofNat 64 (2 ^ 49)
  let r : CfgReq := { ctx := if suite = 0 then firmwareKey 33 else ctxKey suite 31, ticket := 0, words := target :: header :: words.drop 2 }
  match configureBy r s with
  | .ends e => e.s
  | .waits s => s

/-! ### Deltas (R233 to R235) -/

/-- The RETAIN segment of a suite reads zero. -/
def clearRetain (s : State) (n : Nat) : State :=
  let u := suiteAt s n
  { s with sram := invalidate s.sram (u.winBase + u.retainAt * 4096) (u.dataAt * 4096 - u.retainAt * 4096) }

/-- R234: what a snapshot replaces is gone before it is applied. Log 52 (DEDUCED), 86 (DEDUCED). -/
def clearMirrored (s : State) : State :=
  let s := (enabledSuites s).foldl clearRetain s
  let queues := (s.larder.queues.filter (fun e => mirroredQueue s e.1)).map (·.1)
  let s := queues.foldl (fun s q => dropItems s q (fun _ => true)) s
  let s := setTwin s (fun t => { t with prepared := [] })
  { s with
    values := s.values.filter (fun v => !isGeneral v.1)
    outputs := s.outputs.map (fun e => (e.1, { e.2 with committed := false, touched := false, live := false }))
    records := s.records.filter (fun r => !r.mirrored)
    tasks := s.tasks.map (fun e => (e.1, { e.2 with outcomes := [] }))
    cellar := { s.cellar with keys := [], flashKeys := [], freed := [], fresh := 0x40 } }

/-- R233, R234: the standby falls out of step and synchronises again. -/
def fallOut (s : State) : State :=
  setTwin s (fun t => { t with inStep := false, inStepCount := 0, syncing := true, snapshotSeen := false, snapshotAt := none, resyncs := bump 16 t.resyncs })

/-- R233: the standby confirms a delta: a confirmation token with its DSEQ leaves. -/
def confirmed (d : Delta) (s : State) : State :=
  setTwin s (fun t => { t with
    dseqLast := d.dseq % 2 ^ 32, lastApplied := if d.prepared then t.lastApplied else d.at80, epoch := d.epoch % 2 ^ 32
    inStep := true, inStepCount := if t.inStep && !d.snapshot then bump 16 t.inStepCount else 0
    inStepTick := if t.inStep && !d.snapshot then t.inStepTick else s.tick
    syncing := false, snapshotSeen := true, confirmation := some (d.dseq % 2 ^ 32)
    snapshotAt := if d.snapshot then some d.at80 else t.snapshotAt })

/-- R235: a prepared cycle is stored; its CYCLE entry names it. -/
def storePrepared (d : Delta) (s : State) : State :=
  match d.entries.findSome? (fun e => match e with | .cycle n t _ k _ _ _ => some (n, t, k) | _ => none) with
  | none => s
  | some (n, t, k) => setTwin s (fun w => { w with prepared := w.prepared ++ [{ suite := n, task := t, cyc := k, commit := d.at80, entries := d.entries }] })

/-- R231: the entries of a delta whose type the standby knows. -/
def knownEntries (d : Delta) : Bool := d.entries.all (fun e => match e with | .unknown _ => false | _ => true)

/-- The words of the entries of a delta, or of a prepared cycle. -/
def entriesWords (s : State) (l : List DeltaEntry) : Nat := (l.map (fun e => (spellEntry s t0 e).length)).sum

/-- R233: the standby's mirror buffer of 4 MiB fills: the prepared cycles that it stores and this delta do not fit. Log 56 (DEDUCED). -/
def overfills (s : State) (d : Delta) : Bool :=
  524288 < (s.twin.prepared.map (fun p => entriesWords s p.entries)).sum + entriesWords s d.entries

/-- R233, R234: the first delta of a snapshot: what it replaces goes. The deltas of one snapshot tell the same instant. Log 86 (DEDUCED). -/
def opensSnapshot (d : Delta) (s : State) : Bool := d.snapshot && s.twin.snapshotAt != some d.at80

/-- R233: a standby applies an intact delta as one change, and confirms it; one that does not follow the last is a gap. Log 56 (DEDUCED), 86 (DEDUCED). -/
def applyDelta (d : Delta) (s : State) : State :=
  if !d.snapshot && !s.twin.snapshotSeen then s
  else if !d.snapshot && (d.dseq % 2 ^ 32 != (s.twin.dseqLast + 1) % 2 ^ 32 || overfills s d) then fallOut s
  else if d.prepared then (if knownEntries d then confirmed d (storePrepared d s) else fallOut s)
  else match applyEntries applyConfig false d.at80 d.entries (if opensSnapshot d s then clearMirrored s else s) with
    | none => fallOut s
    | some s' => confirmed d s'

/-- R240: a winner takes the outcomes of the member that has stepped down. Log 87 (DEDUCED). -/
def takeOutcomes (d : Delta) (s : State) : State :=
  d.entries.foldl (fun s e => match e with
    | .outcome n t st k frames words => tellCycleOutcome s (ctxKey n t) { status := st, cyc := k, frames, words }
    | _ => s) s

/-- R233: a delta's items arrive over the Landing link; a standby that cannot read one of them falls out of step. -/
def deltaArrives (d : DeltaItems) (s : State) : State :=
  if !d.intact || landingDown s then s
  else match s.twin.role, readDelta d.items with
    | .standby, some d => applyDelta d s
    | .standby, none => fallOut s
    | .active, some d => takeOutcomes d s
    | _, _ => s

/-- R233: the standby applies a delta. -/
def execDeltaApply (d : DeltaItems) (s : State) : Host.Outcome State Fault Refusal := .next (deltaArrives d s)

end Sys2Proof.Machine
end

