-- ==== Sys2Proof/Machine/UnitCommands.lean ====
section
/-! DEFINITION. The common commands of units, group replies, point reads, unit resets and writes of register bits (R9, R41 to R45, R48,
R50 to R53, R407, R441). -/

namespace Sys2Proof.Machine
open Sys2Proof

/-! ### Status words (R42, R48, R53) -/

/-- R48: what a member of a pair knows of its partner's STATE: it is RUN or STANDBY. -/
def partnerRuns (s : State) : Bool := s.twin.partnerRole == 2 || s.twin.partnerRole == 3

/-- R220, R412: the STATE of the module. -/
def moduleState (s : State) : Nat :=
  let x := (unitStat s .module).state
  if s.twin.role = .seeking || s.twin.role = .updating then stStarting
  else if x = stRun && (s.boot.m0Fail || s.boot.m1Fail) then stDegraded
  else x

/-- R226: both paths are alive. -/
def bothPaths (s : State) : Bool := s.twin.landing.alive && s.twin.strobe.alive

/-- R48, R222, R226, R237: the STATE of the pair: the active module's, or DEGRADED, or FAULT where the partner of an unfit standby has failed. Log 92 (DEDUCED). -/
def pairState (s : State) : Nat :=
  if s.twin.failed then stFaulty
  else match s.twin.role with
    | .active => if s.twin.partnerRole = 3 && s.twin.inStep && bothPaths s then moduleState s else stDegraded
    | .standby => if s.twin.inStep && bothPaths s then stRun else stDegraded
    | _ => if s.twin.partnerRole = 2 || s.twin.mismatch then stDegraded else stStarting

/-- A STATE that is RUN or STANDBY. -/
def runsOrStands (x : Nat) : Bool := x == stRun || x == stStandby

/-- R53: a group's STATE from the number of its members and of those that run. Log 92 (DEDUCED). -/
def groupState (members running : Nat) : Nat := if running = members then stRun else if running = 0 then stFaulty else stDegraded

/-- R53: how many members of the group of a level are RUN or STANDBY, and how many it has: this module's own member is the group one
level further in, its pair or itself; what the others are is the outside's. An excluded member is none of the group's (R51). Log 92 (DEDUCED). -/
def membersRunning (s : State) : Nat → Nat → Nat × Nat
  | 0, _ => (0, 0)
  | fuel + 1, l =>
    match groupAt s l with
    | none => (0, 0)
    | some g =>
      let mine := match memberUnit s l with
        | .group k => let r := membersRunning s fuel k
                      groupState r.2 r.1
        | .pair => pairState s
        | _ => moduleState s
      let members := (groupMembers g).filter (fun n => !g.excluded.contains n)
      let up := members.filter (fun n =>
        if n = ownMember s l then runsOrStands mine else (Config.freeWord (s.free + n / 64)).getLsbD (n % 64))
      (up.length, members.length)

/-- R42, R224: what a unit reports: the Landing link of a paired module FAULT(LINK) while it is down. -/
def shownStat (s : State) (u : UnitId) : UnitStat :=
  let x := unitStat s u
  if u = landingUnit && s.addr.paired && landingDown s then { x with state := stFaulty, fault := true, lastStatus := stFault .link } else x

/-- R42: STATE and NOT_RUN of a unit. -/
def stateAndNotRun (s : State) (u : UnitId) : Nat × Nat :=
  match u with
  | .module => (moduleState s, 0)
  | .pair => (pairState s, b2n (!runsOrStands (moduleState s)) + b2n (!partnerRuns s))
  | .group l => if (groupAt s l).isSome then
      let r := membersRunning s 7 l
      (groupState r.2 r.1, r.2 - r.1)
    else (stOff, 0)
  | .part _ => ((shownStat s u).state, 0)

/-- R42: status word 0. -/
def statusWord0 (s : State) (u : UnitId) : BitVec 64 :=
  let x := shownStat s u
  let r := stateAndNotRun s u
  pack [(0, 4, r.1), (8, 8, Status.byte x.lastStatus), (16, 8, x.worstSev), (24, 1, b2n x.warn), (25, 1, b2n x.fault), (32, 16, x.faultCount), (48, 16, r.2)]

/-- The further status words of a part, each as its chapter maps it. -/
def partWords (s : State) (p : Part) : List (BitVec 64) :=
  match p.cls with
  | 1 => portStatus s p.inst
  | 2 => uplinkStatus s p.inst
  | 3 => hallStatus s p.inst
  | 4 => [paceWord s p.inst]
  | 5 => (match p.inst with
    | 2 => [cellarStatus s]
    | 3 => atticStatus s
    | 6 => switchStatus s
    | 7 => clockStatus s
    | 8 => [BitVec.ofNat 64 s.collector.n]
    | 9 => mantelStatus s
    | _ => [])
  | 6 => if p.inst = 5 then landingStatus s else []
  | 7 => if p.inst < 6 then bankStatus s p.inst else if p.inst < 16 then circuitStatus s (p.inst - 8) else inputStatus s
  | _ => []

/-- R42: every status word of a unit. -/
def unitWords (s : State) (u : UnitId) : List (BitVec 64) :=
  statusWord0 s u :: (match u with | .module => moduleStatus s | .part p => partWords s p | _ => [])

/-- What the module measures for a unit's status. Log 65 (DESIGN CHOICE), 92 (DEDUCED). -/
def measureUnit (s : State) : UnitId → State
  | .part p => if p.cls = 1 then measurePort s p.inst else if p.cls = 7 && p.inst < 6 then measureBank s p.inst else s
  | .group _ => { s with free := s.free + 4 }
  | _ => s

/-- R44: STATUS, from any host and suite. -/
def readStatus (c : Cmd) (t : Target) (s : State) : CmdResult :=
  match t with
  | .unit u =>
    let words := unitWords (match u with | .part _ => measureUnit s u | _ => s) u
    if words.length ≤ c.arg then refuse s .range else { s := measureUnit s u, st := stDone, payload := [words.getD c.arg 0] }
  | .point _ _ => refuse s .range

/-- R44: STATUS. -/
def execStatus (q : CmdQueue) (s : State) : Host.Outcome State Fault Refusal := .next (unitCommand q (withCode 0x02) true readStatus s)

/-! ### Descriptors and members (R41, R441) -/

/-- R41, R352: the module's die revision. -/
def dieRev (s : State) : Nat := (s.cellar.ident.getD 1 0).toNat / 2 ^ 16 % 2 ^ 8

/-- R441: the addresses of a unit's direct members, in ascending order. -/
def memberAddrs (s : State) : UnitId → List (BitVec 64)
  | .module => allParts.map (fun p => unitAddr s (.part p))
  | .pair => let d := addrDepth s.addr.self
             [addrAt s.addr.self d (d - 1) [0] selfElement, addrAt s.addr.self d (d - 1) [1] selfElement]
  | .group l => match s.addr.groups.find? (fun g => g.1 == l) with
    | some g => (groupMembers g.2).map (fun n => addrAt g.2.addr (l + 1) l [n] selfElement)
    | none => []
  | .part _ => []

/-- R41 FW_LEVEL: the anti-rollback counter of the running firmware. -/
def fwLevel (s : State) : Nat := match (updateAt s 1 0).current with | some g => g.rollback | none => 0

/-- R41: the four words of a descriptor. -/
def descriptor (s : State) (u : UnitId) : List (BitVec 64) :=
  let rev := match u with | .group _ => 0 | _ => dieRev s
  let aggregate := match u with | .pair | .group _ => true | _ => false
  [unitAddr s u,
   pack [(0, 8, unitKind u), (8, 8, 1), (16, 6, unitOwner s u), (24, 16, (memberAddrs s u).length), (40, 16, 0x10),
     (56, 3, (unitWords s u).length - 1), (59, 1, b2n aggregate)],
   pack [(0, 32, unitSerial s u), (32, 8, rev), (40, 8, fwLevel s)],
   pack [(0, 32, (unitStat s u).descEpoch)]]

/-- A command that any unit takes. Log 9 (DEDUCED). -/
def onAnyUnit (t : Target) (s : State) (run : UnitId → CmdResult) : CmdResult :=
  match t with
  | .unit u => run u
  | .point _ _ => refuse s .range

/-- The CODEs that the command table lists. Log 9 (DEDUCED). -/
def knownCode (code : Nat) : Bool :=
  [0x01, 0x02, 0x03, 0x04, 0x05, 0x20, 0x21, 0x22, 0x23, 0x24, 0x30, 0x31, 0x32, 0x33, 0x34, 0x35, 0x36, 0x37, 0x40, 0x41, 0x50, 0x60, 0x61,
   0x70, 0x71, 0x72, 0x80, 0x90, 0xA0, 0xB0, 0xC0, 0xC1, 0xC2, 0xD0, 0xD1, 0xE0, 0xE1, 0xE2, 0xE3, 0xE4, 0xE5, 0xE6, 0xF0].contains code

/-- R44: DESCRIBE, from any host and suite; a command whose CODE no table lists is taken here and refused. Log 9 (DEDUCED). -/
def describe (c : Cmd) (t : Target) (s : State) : CmdResult :=
  if c.code ≠ 1 then refuse s .range else onAnyUnit t s (fun u => { s, st := stDone, payload := descriptor s u })

/-- R44: DESCRIBE. -/
def execDescribe (q : CmdQueue) (s : State) : Host.Outcome State Fault Refusal :=
  .next (unitCommand q (fun c => withCode 0x01 c || !knownCode c.code) true describe s)

/-- R441: MEMBERS, from any host and suite: a page of 32. -/
def readMembers (c : Cmd) (t : Target) (s : State) : CmdResult :=
  onAnyUnit t s (fun u =>
    let l := memberAddrs s u
    if c.arg ≠ 0 && l.length ≤ 32 * c.arg then refuse s .range else { s, st := stDone, payload := (l.drop (32 * c.arg)).take 32 })

/-- R441: MEMBERS. -/
def execMembers (q : CmdQueue) (s : State) : Host.Outcome State Fault Refusal := .next (unitCommand q (withCode 0x03) true readMembers s)

/-! ### WORST_SEV (R42, R44) -/

/-- R42: WORST_SEV is cleared. -/
def clearWorst (s : State) (u : UnitId) : State := setUnitStat s u (fun x => { x with worstSev := 0 })

/-- R44, R45: CLEAR_WORST, from the owner of the unit's OWNER_SUITE. -/
def execClearWorst (q : CmdQueue) (s : State) : Host.Outcome State Fault Refusal :=
  .next (unitCommand q (withCode 0x05) false (fun c t s =>
    onAnyUnit t s (fun u => ownerOnly s (unitOwner s u) c { s := clearWorst s u, st := stDone })) s)

/-- R42: a 1 is written to CLR_WORST. -/
def execClrWorst (u : UnitId) (s : State) : Host.Outcome State Fault Refusal := .next (clearWorst s u)

/-! ### Writes of W1C bits (R9) -/

/-- R9: the bits of a word that are written with 1 clear. Log 96 (DEDUCED). -/
def clears (v : BitVec 64) (i : Nat) (x : Bool) : Bool := x && !bitAt v i

/-- R251, R278: HALF_RX and HALF_TX of a port. Log 96 (DEDUCED). -/
def clearHalf (s : State) (p : Nat) (v : BitVec 64) : State :=
  setPort s p (fun x => { x with halfRx := x.halfRx &&& ~~~ (BitVec.ofNat 32 (fld v 0 32)), halfTx := x.halfTx &&& ~~~ (BitVec.ofNat 32 (fld v 32 32)) })

/-- R9: a write to a register with no row of its own: its W1C bits clear, every other bit is read only. The room pace word is written
through CFG_PACE alone (R26). Log 96 (DEDUCED). -/
def writeRegister (r : RegRef) (v : BitVec 64) (s : State) : State :=
  match r with
  | .slot n =>
    if n < 4096 then setSlot s n (fun x => { x with asSeen := clears v 20 x.asSeen, qsSeen := clears v 21 x.qsSeen }) else s
  | .status (.part p) word =>
    if p.cls = 1 && p.inst < 192 && word = 2 then clearHalf s p.inst v
    else if p.cls = 2 && p.inst < 3 && word = 2 then clearHalf s (192 + p.inst) v
    else if p.cls = 5 && p.inst = 7 && word = 1 then
      setClock s (fun k => { k with jumpRefused := clears v 34 k.jumpRefused, forcedSeen := clears v 35 k.forcedSeen })
    else if p.cls = 7 && p.inst = 16 && word = 2 then { s with inputs := { s.inputs with testFail := s.inputs.testFail &&& ~~~ v } }
    else s
  | .status _ _ => s

/-- R9: a write to a register. -/
def execRegisterWrite (r : RegRef) (value : BitVec 64) (s : State) : Host.Outcome State Fault Refusal := .next (writeRegister r value s)

/-! ### Point reads (R50, R164, R177) -/

/-- R50, R174: a point's value in a reply, as this member's image holds it; a TIME80 takes a second word. Log 95 (DESIGN CHOICE). -/
def pointWords (s : State) (e : Nat) : List (BitVec 64) :=
  let v := pointVal s e
  v.v :: (if (pointCfg s e).type = tyTime80 then [pack [(0, 16, v.hi.toNat)]] else [])

/-- The status and payload of a point read. Log 95 (DESIGN CHOICE). -/
def pointAnswer (s : State) (suite : Nat) : Option Target → Status × List (BitVec 64)
  | none => (stRefused .address, [])
  | some (.unit _) => (stRefused .range, [])
  | some (.point e _) => if mayRead s suite e then (stDone, pointWords s e) else (stRefused .threshold, [])

/-- R43, R46, R49: the answer of a point read: recorded, and sent to the requester. -/
def answerRead (s : State) (suite : Nat) (target : BitVec 64) (tag rq : Nat) (t : Option Target) (a : Status × List (BitVec 64)) : State :=
  let s := if a.1 = stRefused .threshold then countThreshold s suite else s
  let s := noteReply s (t.map targetUnit) target tag rq Config.pointReadFn.toNat a.1 a.2
  sendCompletion s rq none { st := a.1, fn := Config.pointReadFn.toNat, tag, suite, payload := a.2 }

/-- R50, R47, R46: a point is read by a unit command; through the pair, the active answers. A read that the suite's rights refuse is counted
(R166). Log 95 (DESIGN CHOICE). -/
def pointRead (host suite : Nat) (target : BitVec 64) (tag rq : Nat) (s : State) : State :=
  let t := resolve s target
  let viaPair := match t with | some (.point _ v) => v | _ => false
  if viaPair && activeElsewhere s && !s.twin.failed then
    let it : Item := { prio := 0, ptag := false, srcSuite := suite, hostId := host, seq := 0, entered := now s, producer := .session suite host 0,
                       data := wordBytes [target, pack [(16, 16, tag), (32, 16, rq)]] }
    { s with twin := { s.twin with forwarded := s.twin.forwarded ++ [it] } }
  else
    match t.bind (fun x => findRecord s (targetUnit x) tag rq) with
    | some r => sendCompletion (noteStatus s r.unit r.status) rq none
        { st := r.status, fn := r.code.getD Config.pointReadFn.toNat, tag, suite, payload := r.payload }
    | none => answerRead (settleAll s) suite target tag rq t (pointAnswer (settleAll s) suite t)

/-- R50: a point is read. -/
def execPointRead (host suite : Nat) (target : BitVec 64) (tag replyQueue : Nat) (s : State) : Host.Outcome State Fault Refusal :=
  .next (pointRead host suite target tag replyQueue s)

/-! ### Groups (R52) -/

/-- R51: the speaker learns from a member's answer whether the member's declaration is its own: one that differs is excluded, with an
event of severity 4, until it answers with the same again. Log 93 (DEDUCED). -/
def judgeMember (s : State) (l member : Nat) (same : Bool) : State :=
  match groupAt s l with
  | none => s
  | some d =>
    let set := fun (l' : List Nat) => { s with addr := { s.addr with groups := tput s.addr.groups l { d with excluded := l' } } }
    if same then (if d.excluded.contains member then set (d.excluded.filter (· != member)) else s)
    else if d.excluded.contains member then s
    else raiseEvent (set (d.excluded ++ [member])) [0] 4 (.group l) (stRefused .address) [BitVec.ofNat 64 member]

/-- R52: a member's answer joins the others; the last one lets the speaker answer. -/
def addAnswer (s : State) (g : GroupCmd) (member : Nat) (st : Status) : State :=
  let g' := { g with answers := g.answers ++ [(member, st)] }
  let s := { s with groupCmds := s.groupCmds.map (fun x => if x = g then g' else x) }
  if allAnswered g' then answerGroup s g' false else s

/-- R52: a member's answer arrives: another's with its status, which does not count where the member is excluded (R51); that of this
module's own member as it stands among the answers on their way to a speaker. -/
def memberReply (l tag member : Nat) (st : Status) (same : Bool) (s : State) : State :=
  match s.groupCmds.find? (fun g => g.level == l && g.tag == tag && g.members.contains member && !g.answers.any (fun a => a.1 == member)) with
  | none => s
  | some g =>
    if member = ownMember s l then
      match s.groupOut.find? (fun o => o.1 == tag && o.2.1 == g.replyQueue) with
      | none => s
      | some o => addAnswer { s with groupOut := eraseFirst (· == o) s.groupOut } g member o.2.2
    else addAnswer (judgeMember s l member same) g member (if same then st else stRefused .address)

/-- R52: a member answers. -/
def execGroupMemberReply (g : GroupTag) (member : Nat) (a : MemberAnswer) (s : State) : Host.Outcome State Fault Refusal :=
  .next (memberReply g.level g.tag member a.status a.same s)

/-- R52: after 50 ms the members that have not answered count as not served. -/
def execGroupMemberTimeout (t : GroupTag) (s : State) : Host.Outcome State Fault Refusal :=
  .next (match s.groupCmds.find? (fun g => g.level == t.level && g.tag == t.tag && decide (g.sinceTick + ticksMs 50 ≤ s.tick)) with
    | some g => answerGroup s g true
    | none => s)

/-! ### UNIT_RESET (R407) -/

/-- R42: status word 0 after a reset of class U: the unit runs again. Log 90 (DEDUCED). -/
def resetStat (s : State) (u : UnitId) : State :=
  setUnitStat s u (fun x => { x with state := stRun, lastStatus := stDone, worstSev := 0, warn := false, fault := false, faultCount := 0 })

/-- R245, R251, R254: a field port: its counters clear and its link is trained again; power and configuration stay. -/
def resetPort (s : State) (p : Nat) : State :=
  setPort (retrain s p ((portAt s p).cfg.mode != 0)) p (fun x => { x with rx := [], tx := [], halfRx := 0, halfTx := 0, halfPending := false })

/-- R274, R278: an uplink or SVC: its counters clear and negotiation begins again. -/
def resetUplink (s : State) (i : Nat) : State :=
  let s := setPort (renegotiate s i) (192 + i) (fun x => { x with rx := [], tx := [], halfRx := 0, halfTx := 0, halfPending := false })
  let s := setUplink s i (fun u => { u with
    gov := 0, govDowns := 0, govUps := 0, govAbandons := 0, lastStepUs := 0
    windowOctets := (0, 0), windowTick := s.tick, shortOctets := (0, 0), shortTick := s.tick })
  setUplink s i (fun u => { u with gov := govNow s i u })

/-- R306, R307: a Hallway port. -/
def resetHall (s : State) (h : Nat) : State :=
  setHall (rejoinHall s h) h (fun x => { x with
    lastError := 0, busOffs := 0, rxFrames := 0, txFrames := 0, rxDrops := 0, rxStandby := 0, arbLost := 0, errors := 0 })

/-- R321: a bank: its outputs go to their safe states, and a trip or lock-out clears. Log 90 (DEDUCED). -/
def resetBank (s : State) (b : Nat) : State :=
  let s := setBank s b (fun x => { x with retries := 0, state := if x.state = .closed then .closed else .opened })
  let s := (bankOutputs b).foldl driveSafe s
  let s := (bankOutputs b).foldl (fun s n => setOutput s n (fun o => { o with
    pendingAt := none, shutterSafe := false, overload := false, openLoad := false, stuck := false, status := stDone })) s
  settleBank s b

/-- R313: the input unit: its states and test failures clear, and its samples begin anew; the counters go on (R311). -/
def resetInputs (s : State) : State :=
  (List.range 64).foldl (fun s n => publishInput s n false) (resample { s with inputs := { s.inputs with testFail := 0 } } (List.range 64))

/-- R216, R218: the Hearth: pending samples are discarded, every slot's state and counts clear. -/
def resetHearth (s : State) : State :=
  let s := clearSlots s (fun _ => true) true
  { s with hearth := { slots := (s.hearth.slots.map (fun e =>
      (e.1, { e.2 with evals := 0, delayed := 0, replaced := 0, drops := 0, swaps := 0 }))).filter (fun e => e.2 != {}) } }

/-- R365, R375: the Attic: its counters clear, and the scrubber starts at address 0. -/
def resetAttic (s : State) : State :=
  { s with attic := { s.attic with
      records := 0, inFlightLost := 0, flushFails := 0, sbe := 0, uncorrectable := 0, overwritten := 0, lastUeAddr := 0, lastUeKind := 0
      lastCycleS := 0, scrubLine := 0, cycleTick := s.tick } }

/-- R346: the Cellar: keys with EXPIRE_RESET are destroyed. Log 90 (DEDUCED). -/
def resetCellar (s : State) : State := destroyKeys s ((s.cellar.keys.filter (fun e => e.2.present && attrExpire e.2.attr)).map (·.1))

/-- R337: a circuit: the flags, counts and backlog of its status words clear. -/
def resetCircuit (s : State) (m : Nat) : State :=
  let s := setCircuit s m (fun x => { x with
    vPresent := 0, seqReversed := false, clipping := 0, highPath := 0, stale := false, missed := 0, clips := 0, pulseLost := 0 })
  { s with meter := { s.meter with pulses := s.meter.pulses.map (fun e => if e.2.circuit = m then (e.1, { e.2 with due := [] }) else e) } }

/-- R407: the parts that refuse a unit reset. Log 90 (DEDUCED). -/
def resetBarred (p : Part) : Bool :=
  p.cls == 4 || p.cls == 6 || (p.cls == 5 && [0, 6, 7, 8, 9, 10].contains p.inst)

/-- R407: class U of a part. Log 90 (DEDUCED). -/
def resetPart (s : State) (p : Part) : State :=
  let s := match p.cls with
    | 1 => resetPort s p.inst
    | 2 => resetUplink s p.inst
    | 3 => resetHall s p.inst
    | 5 => (match p.inst with
      | 1 => resetHearth s
      | 2 => resetCellar s
      | 3 => resetAttic s
      | _ => s)
    | 7 => if p.inst < 6 then resetBank s p.inst else if p.inst < 16 then resetCircuit s (p.inst - 8) else resetInputs s
    | _ => s
  resetStat s (.part p)

/-- R417: a reset of a unit ends the loopback test on it. -/
def discardTest (s : State) (u : UnitId) : State :=
  match tlook s.tests (unitKey u) with
  | some t => finishTest s u t stResetDiscarded []
  | none => s

/-- R407: UNIT_RESET of the module. Log 91 (DEDUCED). -/
def resetSelf (c : Cmd) (s : State) : CmdResult :=
  if c.arg ≠ 1 && c.arg ≠ 2 then refuse s .range
  else if s.twin.role = .active && s.twin.inStep then
    let s := beginSwitch s
    let held : HeldReset := { cold := c.arg == 2, via := c.queue, target := c.target, tag := c.tag, replyQueue := c.replyQueue, suite := c.suite }
    { s := { s with boot := { s.boot with heldReset := some held } }, st := stDone, reply := false }
  else { s := commandReset s (c.arg == 2), st := stDone }

/-- R407: UNIT_RESET of the pair: one member at a time, the standby first, or both at once with TOGETHER. Log 91 (DEDUCED). -/
def resetPair (c : Cmd) (s : State) : CmdResult :=
  let cls := c.arg % 128
  let together := 128 ≤ c.arg
  if (cls ≠ 1 && cls ≠ 2) || 256 ≤ c.arg then refuse s .range
  else if c.queue = .pair && s.twin.role = .standby then { s := commandReset s (cls == 2), st := stDone }
  else if !together && !(s.twin.role = .active && s.twin.inStep) then refuse s .state
  else
    let s := { s with twin := { s.twin with forwarded := s.twin.forwarded ++ [c.item] } }
    if together then { s := commandReset s (cls == 2), st := stDone }
    else { s := setTwin s (fun t => { t with pairReset := some (cls == 2, s.tick) }), st := stDone }

/-- R407: UNIT_RESET of a part; one of a unit whose suite is RESETTING is dropped. Log 89 (DEDUCED). -/
def resetPartCommand (c : Cmd) (p : Part) (s : State) : CmdResult :=
  let u := UnitId.part p
  if resetBarred p then refuse s .state
  else ownerOnly s (unitOwner s u) c (
    if resetting s (unitOwner s u) then { s, st := stResetDiscarded }
    else { s := resetPart (discardTest s u) p, st := stDone })

/-- R407: UNIT_RESET by unit kind. -/
def unitReset (c : Cmd) (t : Target) (s : State) : CmdResult :=
  match t with
  | .unit .module => ownerOnly s 0 c (resetSelf c s)
  | .unit .pair => if c.queue = .pair then resetPair c s else ownerOnly s 0 c (resetPair c s)
  | .unit (.part p) => resetPartCommand c p s
  | .unit (.group _) | .point _ _ => refuse s .range

/-- R407: UNIT_RESET. -/
def execUnitReset (q : CmdQueue) (s : State) : Host.Outcome State Fault Refusal := .next (unitCommand q (withCode 0x04) false unitReset s)

end Sys2Proof.Machine
end

