-- ==== Sys2Proof/Machine/Dispatch.lean ====
section
/-! DEFINITION. One arm per command of the block. -/

namespace Sys2Proof.Machine
open Sys2Proof

/-- The effect of a command on everything but the queue of commands. -/
def exec (i : Instr) (s : State) : Host.Outcome State Fault Refusal :=
  match i with
  | .addR k f => Sys2Proof.Machine.execAddR k f s
  | .subR k f => Sys2Proof.Machine.execSubR k f s
  | .andR k f => Sys2Proof.Machine.execAndR k f s
  | .orR k f => Sys2Proof.Machine.execOrR k f s
  | .xorR k f => Sys2Proof.Machine.execXorR k f s
  | .andn k f => Sys2Proof.Machine.execAndn k f s
  | .shl k f => Sys2Proof.Machine.execShl k f s
  | .shr k f => Sys2Proof.Machine.execShr k f s
  | .sar k f => Sys2Proof.Machine.execSar k f s
  | .ror k f => Sys2Proof.Machine.execRor k f s
  | .slt k f => Sys2Proof.Machine.execSlt k f s
  | .sltu k f => Sys2Proof.Machine.execSltu k f s
  | .minR k f => Sys2Proof.Machine.execMinR k f s
  | .maxR k f => Sys2Proof.Machine.execMaxR k f s
  | .minu k f => Sys2Proof.Machine.execMinu k f s
  | .maxu k f => Sys2Proof.Machine.execMaxu k f s
  | .adds k f => Sys2Proof.Machine.execAdds k f s
  | .subs k f => Sys2Proof.Machine.execSubs k f s
  | .clz k f => Sys2Proof.Machine.execClz k f s
  | .popc k f => Sys2Proof.Machine.execPopc k f s
  | .mul k f => Sys2Proof.Machine.execMul k f s
  | .mulh k f => Sys2Proof.Machine.execMulh k f s
  | .mulhu k f => Sys2Proof.Machine.execMulhu k f s
  | .divR k f => Sys2Proof.Machine.execDivR k f s
  | .divu k f => Sys2Proof.Machine.execDivu k f s
  | .rem k f => Sys2Proof.Machine.execRem k f s
  | .remu k f => Sys2Proof.Machine.execRemu k f s
  | .selR k f => Sys2Proof.Machine.execSelR k f s
  | .addk k f => Sys2Proof.Machine.execAddk k f s
  | .addkw k f => Sys2Proof.Machine.execAddkw k f s
  | .andk k f => Sys2Proof.Machine.execAndk k f s
  | .ork k f => Sys2Proof.Machine.execOrk k f s
  | .xork k f => Sys2Proof.Machine.execXork k f s
  | .cmpk k f => Sys2Proof.Machine.execCmpk k f s
  | .shk k f => Sys2Proof.Machine.execShk k f s
  | .bitk k f => Sys2Proof.Machine.execBitk k f s
  | .lui k f => Sys2Proof.Machine.execLui k f s
  | .luh k f => Sys2Proof.Machine.execLuh k f s
  | .adpc k f => Sys2Proof.Machine.execAdpc k f s
  | .ld k f => Sys2Proof.Machine.execLd k f s
  | .st k f => Sys2Proof.Machine.execSt k f s
  | .swap k f => Sys2Proof.Machine.execSwap k f s
  | .aadd k f => Sys2Proof.Machine.execAadd k f s
  | .aand k f => Sys2Proof.Machine.execAand k f s
  | .aor k f => Sys2Proof.Machine.execAor k f s
  | .amax k f => Sys2Proof.Machine.execAmax k f s
  | .amin k f => Sys2Proof.Machine.execAmin k f s
  | .beq k f => Sys2Proof.Machine.execBeq k f s
  | .bne k f => Sys2Proof.Machine.execBne k f s
  | .blt k f => Sys2Proof.Machine.execBlt k f s
  | .bge k f => Sys2Proof.Machine.execBge k f s
  | .bltu k f => Sys2Proof.Machine.execBltu k f s
  | .bgeu k f => Sys2Proof.Machine.execBgeu k f s
  | .jmp k f => Sys2Proof.Machine.execJmp k f s
  | .call k f => Sys2Proof.Machine.execCall k f s
  | .nop k f => Sys2Proof.Machine.execNop k f s
  | .ret k f => Sys2Proof.Machine.execRet k f s
  | .fence k f => Sys2Proof.Machine.execFence k f s
  | .endCycle k f => Sys2Proof.Machine.execEndCycle k f s
  | .jt k f => Sys2Proof.Machine.execJt k f s
  | .loopN k f => Sys2Proof.Machine.execLoopN k f s
  | .srr k f => Sys2Proof.Machine.execSrr k f s
  | .srw k f => Sys2Proof.Machine.execSrw k f s
  | .qmul k f => Sys2Proof.Machine.execQmul k f s
  | .mac k f => Sys2Proof.Machine.execMac k f s
  | .msu k f => Sys2Proof.Machine.execMsu k f s
  | .aclr k f => Sys2Proof.Machine.execAclr k f s
  | .ald k f => Sys2Proof.Machine.execAld k f s
  | .amov k f => Sys2Proof.Machine.execAmov k f s
  | .arnd k f => Sys2Proof.Machine.execArnd k f s
  | .ash k f => Sys2Proof.Machine.execAsh k f s
  | .qadd k f => Sys2Proof.Machine.execQadd k f s
  | .qsub k f => Sys2Proof.Machine.execQsub k f s
  | .qmulr k f => Sys2Proof.Machine.execQmulr k f s
  | .qneg k f => Sys2Proof.Machine.execQneg k f s
  | .qabs k f => Sys2Proof.Machine.execQabs k f s
  | .fadd k f => Sys2Proof.Machine.execFadd k f s
  | .fsub k f => Sys2Proof.Machine.execFsub k f s
  | .fmul k f => Sys2Proof.Machine.execFmul k f s
  | .fdiv k f => Sys2Proof.Machine.execFdiv k f s
  | .fsqrt k f => Sys2Proof.Machine.execFsqrt k f s
  | .fma k f => Sys2Proof.Machine.execFma k f s
  | .fmin k f => Sys2Proof.Machine.execFmin k f s
  | .fmax k f => Sys2Proof.Machine.execFmax k f s
  | .fneg k f => Sys2Proof.Machine.execFneg k f s
  | .fabs k f => Sys2Proof.Machine.execFabs k f s
  | .fcmp k f => Sys2Proof.Machine.execFcmp k f s
  | .fcmps k f => Sys2Proof.Machine.execFcmps k f s
  | .fkind k f => Sys2Proof.Machine.execFkind k f s
  | .fminn k f => Sys2Proof.Machine.execFminn k f s
  | .fmaxn k f => Sys2Proof.Machine.execFmaxn k f s
  | .fcvtf k f => Sys2Proof.Machine.execFcvtf k f s
  | .fcvti k f => Sys2Proof.Machine.execFcvti k f s
  | .fcvtp k f => Sys2Proof.Machine.execFcvtp k f s
  | .ftoq k f => Sys2Proof.Machine.execFtoq k f s
  | .qtof k f => Sys2Proof.Machine.execQtof k f s
  | .cfg k code f => Sys2Proof.Machine.execCfg k code f s
  | .cfgUnit c => Sys2Proof.Machine.execCfgUnit c s
  | .cfgGroup c => Sys2Proof.Machine.execCfgGroup c s
  | .cfgSuite c => Sys2Proof.Machine.execCfgSuite c s
  | .cfgQueueSet c => Sys2Proof.Machine.execCfgQueueSet c s
  | .cfgQueueLimit c => Sys2Proof.Machine.execCfgQueueLimit c s
  | .cfgPoint c => Sys2Proof.Machine.execCfgPoint c s
  | .cfgTask c => Sys2Proof.Machine.execCfgTask c s
  | .cfgTaskRemove c => Sys2Proof.Machine.execCfgTaskRemove c s
  | .cfgPort c => Sys2Proof.Machine.execCfgPort c s
  | .cfgFwdWrite c => Sys2Proof.Machine.execCfgFwdWrite c s
  | .cfgFwdInvalidate c => Sys2Proof.Machine.execCfgFwdInvalidate c s
  | .cfgUplink c => Sys2Proof.Machine.execCfgUplink c s
  | .cfgClockSet c => Sys2Proof.Machine.execCfgClockSet c s
  | .cfgClockStep c => Sys2Proof.Machine.execCfgClockStep c s
  | .cfgClockThreshold c => Sys2Proof.Machine.execCfgClockThreshold c s
  | .cfgClockIncrement c => Sys2Proof.Machine.execCfgClockIncrement c s
  | .cfgHallwayPort c => Sys2Proof.Machine.execCfgHallwayPort c s
  | .cfgHallwayFilter c => Sys2Proof.Machine.execCfgHallwayFilter c s
  | .cfgHallwaySlot c => Sys2Proof.Machine.execCfgHallwaySlot c s
  | .cfgInput c => Sys2Proof.Machine.execCfgInput c s
  | .cfgBank c => Sys2Proof.Machine.execCfgBank c s
  | .cfgMeterCircuit c => Sys2Proof.Machine.execCfgMeterCircuit c s
  | .cfgMeterPulseOut c => Sys2Proof.Machine.execCfgMeterPulseOut c s
  | .cfgMeterRegister c => Sys2Proof.Machine.execCfgMeterRegister c s
  | .cfgHearthSet c => Sys2Proof.Machine.execCfgHearthSet c s
  | .cfgHearthCoef c => Sys2Proof.Machine.execCfgHearthCoef c s
  | .cfgHearthRemove c => Sys2Proof.Machine.execCfgHearthRemove c s
  | .cfgHearthClear c => Sys2Proof.Machine.execCfgHearthClear c s
  | .cfgCellar c => Sys2Proof.Machine.execCfgCellar c s
  | .cfgAttic c => Sys2Proof.Machine.execCfgAttic c s
  | .cfgScrub c => Sys2Proof.Machine.execCfgScrub c s
  | .cfgMantelSetup c => Sys2Proof.Machine.execCfgMantelSetup c s
  | .cfgMantelHalt c => Sys2Proof.Machine.execCfgMantelHalt c s
  | .cfgMantelSetRun c => Sys2Proof.Machine.execCfgMantelSetRun c s
  | .cfgTwin c => Sys2Proof.Machine.execCfgTwin c s
  | .cfgPace c => Sys2Proof.Machine.execCfgPace c s
  | .cfgLock c => Sys2Proof.Machine.execCfgLock c s
  | .cfgEnd c => Sys2Proof.Machine.execCfgEnd c s
  | .prd k f => Sys2Proof.Machine.execPrd k f s
  | .prdh k f => Sys2Proof.Machine.execPrdh k f s
  | .pwr k f => Sys2Proof.Machine.execPwr k f s
  | .pwrh k f => Sys2Proof.Machine.execPwrh k f s
  | .qopen k f => Sys2Proof.Machine.execQopen k f s
  | .qpw k f => Sys2Proof.Machine.execQpw k f s
  | .qpb k f => Sys2Proof.Machine.execQpb k f s
  | .qmark k f => Sys2Proof.Machine.execQmark k f s
  | .qrwnd k f => Sys2Proof.Machine.execQrwnd k f s
  | .qrel k f => Sys2Proof.Machine.execQrel k f s
  | .qdrop k f => Sys2Proof.Machine.execQdrop k f s
  | .qtake k f => Sys2Proof.Machine.execQtake k f s
  | .qrd k f => Sys2Proof.Machine.execQrd k f s
  | .qack k f => Sys2Proof.Machine.execQack k f s
  | .tdif k f => Sys2Proof.Machine.execTdif k f s
  | .tadd k f => Sys2Proof.Machine.execTadd k f s
  | .tset k f => Sys2Proof.Machine.execTset k f s
  | .ttst k f => Sys2Proof.Machine.execTtst k f s
  | .tclr k f => Sys2Proof.Machine.execTclr k f s
  | .emit k f => Sys2Proof.Machine.execEmit k f s
  | .key k op f => Sys2Proof.Machine.execKey k op f s
  | .kgen suite => Sys2Proof.Machine.execKgen suite s
  | .kderive suite => Sys2Proof.Machine.execKderive suite s
  | .kseal suite => Sys2Proof.Machine.execKseal suite s
  | .kopen suite => Sys2Proof.Machine.execKopen suite s
  | .ksign suite => Sys2Proof.Machine.execKsign suite s
  | .kverify suite => Sys2Proof.Machine.execKverify suite s
  | .kagree suite => Sys2Proof.Machine.execKagree suite s
  | .kexport suite => Sys2Proof.Machine.execKexport suite s
  | .kimport suite => Sys2Proof.Machine.execKimport suite s
  | .kdestroy suite => Sys2Proof.Machine.execKdestroy suite s
  | .kinfo suite => Sys2Proof.Machine.execKinfo suite s
  | .hsub k f => Sys2Proof.Machine.execHsub k f s
  | .brk k n lo f => Sys2Proof.Machine.execBrk k n lo f s
  | .hearthEvaluation => Sys2Proof.Machine.execHearthEvaluation s
  | .hearthTimerTrigger slot => Sys2Proof.Machine.execHearthTimerTrigger slot s
  | .describe q => Sys2Proof.Machine.execDescribe q s
  | .status q => Sys2Proof.Machine.execStatus q s
  | .members q => Sys2Proof.Machine.execMembers q s
  | .unitReset q => Sys2Proof.Machine.execUnitReset q s
  | .clearWorst q => Sys2Proof.Machine.execClearWorst q s
  | .clrWorst u => Sys2Proof.Machine.execClrWorst u s
  | .pointRead host suite target tag replyQueue => Sys2Proof.Machine.execPointRead host suite target tag replyQueue s
  | .groupMemberReply g member a => Sys2Proof.Machine.execGroupMemberReply g member a s
  | .groupMemberTimeout g => Sys2Proof.Machine.execGroupMemberTimeout g s
  | .taskModeRun q => Sys2Proof.Machine.execTaskModeRun q s
  | .taskModeStop q => Sys2Proof.Machine.execTaskModeStop q s
  | .taskModeHold q => Sys2Proof.Machine.execTaskModeHold q s
  | .taskModeStep q => Sys2Proof.Machine.execTaskModeStep q s
  | .modeTransition c => Sys2Proof.Machine.execModeTransition c s
  | .setValue q => Sys2Proof.Machine.execSetValue q s
  | .setConst q => Sys2Proof.Machine.execSetConst q s
  | .onlineChangeApply c => Sys2Proof.Machine.execOnlineChangeApply c s
  | .brkArm q => Sys2Proof.Machine.execBrkArm q s
  | .taskStatus q => Sys2Proof.Machine.execTaskStatus q s
  | .ownerClaim q => Sys2Proof.Machine.execOwnerClaim q s
  | .ownerClaimForce q => Sys2Proof.Machine.execOwnerClaimForce q s
  | .electionClose suite => Sys2Proof.Machine.execElectionClose suite s
  | .ownerRenew q => Sys2Proof.Machine.execOwnerRenew q s
  | .leaseExpiry suite => Sys2Proof.Machine.execLeaseExpiry suite s
  | .ownerRelease q => Sys2Proof.Machine.execOwnerRelease q s
  | .ownerHandover q => Sys2Proof.Machine.execOwnerHandover q s
  | .ownerAccept q => Sys2Proof.Machine.execOwnerAccept q s
  | .handoverLapse suite => Sys2Proof.Machine.execHandoverLapse suite s
  | .suiteReset q => Sys2Proof.Machine.execSuiteReset q s
  | .suiteFenceLift suite => Sys2Proof.Machine.execSuiteFenceLift suite s
  | .suiteStatus q => Sys2Proof.Machine.execSuiteStatus q s
  | .ownerUnlock q => Sys2Proof.Machine.execOwnerUnlock q s
  | .queueStatus q => Sys2Proof.Machine.execQueueStatus q s
  | .queueClear q => Sys2Proof.Machine.execQueueClear q s
  | .slotStatus q => Sys2Proof.Machine.execSlotStatus q s
  | .pairSwitch q => Sys2Proof.Machine.execPairSwitch q s
  | .pairResync q => Sys2Proof.Machine.execPairResync q s
  | .portCounters q => Sys2Proof.Machine.execPortCounters q s
  | .floorQuiet q => Sys2Proof.Machine.execFloorQuiet q s
  | .quietAnswer port cycle agree => Sys2Proof.Machine.execQuietAnswer port cycle agree s
  | .quietEntry => Sys2Proof.Machine.execQuietEntry s
  | .floorWake q => Sys2Proof.Machine.execFloorWake q s
  | .clockTrimIncrement q => Sys2Proof.Machine.execClockTrimIncrement q s
  | .clockTrimSlew q => Sys2Proof.Machine.execClockTrimSlew q s
  | .clockTrimStep q => Sys2Proof.Machine.execClockTrimStep q s
  | .clockChangeTick => Sys2Proof.Machine.execClockChangeTick s
  | .slewEnd => Sys2Proof.Machine.execSlewEnd s
  | .hbCancel q => Sys2Proof.Machine.execHbCancel q s
  | .diCounts q => Sys2Proof.Machine.execDiCounts q s
  | .meterRead q => Sys2Proof.Machine.execMeterRead q s
  | .identity q => Sys2Proof.Machine.execIdentity q s
  | .lifecycleAdvance q rb => Sys2Proof.Machine.execLifecycleAdvance q rb s
  | .tamperClear q => Sys2Proof.Machine.execTamperClear q s
  | .atticRead q => Sys2Proof.Machine.execAtticRead q s
  | .atticClear q => Sys2Proof.Machine.execAtticClear q s
  | .updateBegin q => Sys2Proof.Machine.execUpdateBegin q s
  | .updateStage q => Sys2Proof.Machine.execUpdateStage q s
  | .updateCheck q => Sys2Proof.Machine.execUpdateCheck q s
  | .updateActivate q => Sys2Proof.Machine.execUpdateActivate q s
  | .updateConfirm q rb => Sys2Proof.Machine.execUpdateConfirm q rb s
  | .updateAbort q => Sys2Proof.Machine.execUpdateAbort q s
  | .updateStatus q => Sys2Proof.Machine.execUpdateStatus q s
  | .updateActivation kind suite => Sys2Proof.Machine.execUpdateActivation kind suite s
  | .updateRecheck kind suite => Sys2Proof.Machine.execUpdateRecheck kind suite s
  | .trialExpiry kind suite => Sys2Proof.Machine.execTrialExpiry kind suite s
  | .loopTest q => Sys2Proof.Machine.execLoopTest q s
  | .loopTestEnd u r => Sys2Proof.Machine.execLoopTestEnd u r s
  | .registerWrite r value => Sys2Proof.Machine.execRegisterWrite r value s
  | .cycleStart c => Sys2Proof.Machine.execCycleStart c s
  | .cycleAccept => Sys2Proof.Machine.execCycleAccept s
  | .withdrawFrameSent port => Sys2Proof.Machine.execWithdrawFrameSent port s
  | .commit c => Sys2Proof.Machine.execCommit c s
  | .holdRerelease c => Sys2Proof.Machine.execHoldRerelease c s
  | .stopSafeState c => Sys2Proof.Machine.execStopSafeState c s
  | .holdMaxTimeout c => Sys2Proof.Machine.execHoldMaxTimeout c s
  | .foundationTimeout => Sys2Proof.Machine.execFoundationTimeout s
  | .journalWrite => Sys2Proof.Machine.execJournalWrite s
  | .creditReservationExpiry c => Sys2Proof.Machine.execCreditReservationExpiry c s
  | .itemEnter queue src it => Sys2Proof.Machine.execItemEnter queue src it s
  | .queueControlError e => Sys2Proof.Machine.execQueueControlError e s
  | .paceWindow room steps tj => Sys2Proof.Machine.execPaceWindow room steps tj s
  | .linkTokenError e => Sys2Proof.Machine.execLinkTokenError e s
  | .houseTimeAlignment die => Sys2Proof.Machine.execHouseTimeAlignment die s
  | .alignmentTimeout die => Sys2Proof.Machine.execAlignmentTimeout die s
  | .refclkFailure => Sys2Proof.Machine.execRefclkFailure s
  | .stallTimeout station lane requester => Sys2Proof.Machine.execStallTimeout station lane requester s
  | .macReceive port r => Sys2Proof.Machine.execMacReceive port r s
  | .pauseEnd port => Sys2Proof.Machine.execPauseEnd port s
  | .portSwitchIngress => Sys2Proof.Machine.execPortSwitchIngress s
  | .egressFrameSent port => Sys2Proof.Machine.execEgressFrameSent port s
  | .pauseRepeat port => Sys2Proof.Machine.execPauseRepeat port s
  | .portLinkChange port l => Sys2Proof.Machine.execPortLinkChange port l s
  | .halfRangeItem port => Sys2Proof.Machine.execHalfRangeItem port s
  | .epochInstall => Sys2Proof.Machine.execEpochInstall s
  | .epochDrained => Sys2Proof.Machine.execEpochDrained s
  | .transmitItem suite => Sys2Proof.Machine.execTransmitItem suite s
  | .pseDetection port valid => Sys2Proof.Machine.execPseDetection port valid s
  | .pseDetectionRetry port => Sys2Proof.Machine.execPseDetectionRetry port s
  | .pseClassification port cls => Sys2Proof.Machine.execPseClassification port cls s
  | .psePowered port => Sys2Proof.Machine.execPsePowered port s
  | .psePdLost port => Sys2Proof.Machine.execPsePdLost port s
  | .pseOverload port => Sys2Proof.Machine.execPseOverload port s
  | .pseBackoffExpiry port => Sys2Proof.Machine.execPseBackoffExpiry port s
  | .uplinkEgress port => Sys2Proof.Machine.execUplinkEgress port s
  | .governorWindow port short => Sys2Proof.Machine.execGovernorWindow port short s
  | .rateStepDone port => Sys2Proof.Machine.execRateStepDone port s
  | .rateStepAbandon port => Sys2Proof.Machine.execRateStepAbandon port s
  | .governorResume port => Sys2Proof.Machine.execGovernorResume port s
  | .launchItem port => Sys2Proof.Machine.execLaunchItem port s
  | .launchSend port error => Sys2Proof.Machine.execLaunchSend port error s
  | .hallwayFrameReceived hb fr => Sys2Proof.Machine.execHallwayFrameReceived hb fr s
  | .hallwayTakeItem hb slot => Sys2Proof.Machine.execHallwayTakeItem hb slot s
  | .hallwayAttemptStart hb ago => Sys2Proof.Machine.execHallwayAttemptStart hb ago s
  | .hallwayAttemptEnd hb e => Sys2Proof.Machine.execHallwayAttemptEnd hb e s
  | .hallwayLifetimeExpiry hb slot => Sys2Proof.Machine.execHallwayLifetimeExpiry hb slot s
  | .busOffRecovery hb => Sys2Proof.Machine.execBusOffRecovery hb s
  | .hallwayTimePair group count => Sys2Proof.Machine.execHallwayTimePair group count s
  | .diChange n mv => Sys2Proof.Machine.execDiChange n mv s
  | .diSelfTest n pass => Sys2Proof.Machine.execDiSelfTest n pass s
  | .serialiseTurnOn bank => Sys2Proof.Machine.execSerialiseTurnOn bank s
  | .bankTrip bank => Sys2Proof.Machine.execBankTrip bank s
  | .bankRetry bank => Sys2Proof.Machine.execBankRetry bank s
  | .bankRetryCountClear bank => Sys2Proof.Machine.execBankRetryCountClear bank s
  | .outputShutdown out => Sys2Proof.Machine.execOutputShutdown out s
  | .shutterTimeout out => Sys2Proof.Machine.execShutterTimeout out s
  | .outputSenseFlag out isOpen rise => Sys2Proof.Machine.execOutputSenseFlag out isOpen rise s
  | .meterWindowEnd w => Sys2Proof.Machine.execMeterWindowEnd w s
  | .meterQuantitiesArrive circuit vals => Sys2Proof.Machine.execMeterQuantitiesArrive circuit vals s
  | .meterFlashWrite => Sys2Proof.Machine.execMeterFlashWrite s
  | .pulseStart out => Sys2Proof.Machine.execPulseStart out s
  | .pulseEnd out => Sys2Proof.Machine.execPulseEnd out s
  | .heartbeatSend => Sys2Proof.Machine.execHeartbeatSend s
  | .heartbeatReceived hb => Sys2Proof.Machine.execHeartbeatReceived hb s
  | .pathDead strobe => Sys2Proof.Machine.execPathDead strobe s
  | .partnerMet p => Sys2Proof.Machine.execPartnerMet p s
  | .seekingTimeout => Sys2Proof.Machine.execSeekingTimeout s
  | .deltaShip => Sys2Proof.Machine.execDeltaShip s
  | .deltaApply d => Sys2Proof.Machine.execDeltaApply d s
  | .deltaConfirmation dseq => Sys2Proof.Machine.execDeltaConfirmation dseq s
  | .confirmationTimeout dseq => Sys2Proof.Machine.execConfirmationTimeout dseq s
  | .preparedCycleCommit suite task => Sys2Proof.Machine.execPreparedCycleCommit suite task s
  | .twinClockExchange activeTime => Sys2Proof.Machine.execTwinClockExchange activeTime s
  | .landingFrameError lane => Sys2Proof.Machine.execLandingFrameError lane s
  | .reclaim => Sys2Proof.Machine.execReclaim s
  | .switchInstant => Sys2Proof.Machine.execSwitchInstant s
  | .switchHandover => Sys2Proof.Machine.execSwitchHandover s
  | .tamper => Sys2Proof.Machine.execTamper s
  | .atticRecordWrite => Sys2Proof.Machine.execAtticRecordWrite s
  | .atticFlush fails => Sys2Proof.Machine.execAtticFlush fails s
  | .scrubLine found => Sys2Proof.Machine.execScrubLine found s
  | .backupSwitch toBackup => Sys2Proof.Machine.execBackupSwitch toBackup s
  | .vbakMeasure millivolts => Sys2Proof.Machine.execVbakMeasure millivolts s
  | .oscStop => Sys2Proof.Machine.execOscStop s
  | .setRunRelease => Sys2Proof.Machine.execSetRunRelease s
  | .trimWindowEnd counted => Sys2Proof.Machine.execTrimWindowEnd counted s
  | .mantelWake => Sys2Proof.Machine.execMantelWake s
  | .pfail => Sys2Proof.Machine.execPfail s
  | .powerOnReset => Sys2Proof.Machine.execPowerOnReset s
  | .resetNLow nanoseconds => Sys2Proof.Machine.execResetNLow nanoseconds s
  | .managementWatchdog => Sys2Proof.Machine.execManagementWatchdog s
  | .startSequence b => Sys2Proof.Machine.execStartSequence b s
  | .tapReset => Sys2Proof.Machine.execTapReset s
  | .extest => Sys2Proof.Machine.execExtest s
  | .samplePreload capture update => Sys2Proof.Machine.execSamplePreload capture update s
  | .idcode => Sys2Proof.Machine.execIdcode s
  | .clamp => Sys2Proof.Machine.execClamp s
  | .highz => Sys2Proof.Machine.execHighz s
  | .extestPulse => Sys2Proof.Machine.execExtestPulse s
  | .extestTrain => Sys2Proof.Machine.execExtestTrain s
  | .ident => Sys2Proof.Machine.execIdent s
  | .bypass => Sys2Proof.Machine.execBypass s
  | .holdingExit => Sys2Proof.Machine.execHoldingExit s
  | .pfailNRise => Sys2Proof.Machine.execPfailNRise s
  | .vfieldLoss => Sys2Proof.Machine.execVfieldLoss s
  | .vfieldReturn => Sys2Proof.Machine.execVfieldReturn s
  | .linkPartnerLeavingLpi port => Sys2Proof.Machine.execLinkPartnerLeavingLpi port s
  | .eeeLpiEntry port => Sys2Proof.Machine.execEeeLpiEntry port s
  | .hallwayBusIntegration hb => Sys2Proof.Machine.execHallwayBusIntegration hb s
  | .hallwayReceiveError hb e => Sys2Proof.Machine.execHallwayReceiveError hb e s
  | .protocolExceptionEvent hb => Sys2Proof.Machine.execProtocolExceptionEvent hb s
  | .hostSessionOpen h => Sys2Proof.Machine.execHostSessionOpen h s
  | .hostSessionClose host number => Sys2Proof.Machine.execHostSessionClose host number s
  | .hostAcknowledgement host number queue seq => Sys2Proof.Machine.execHostAcknowledgement host number queue seq s
  | .pairUpdateSwitchover => Sys2Proof.Machine.execPairUpdateSwitchover s
  | .pairUpdateTimeout => Sys2Proof.Machine.execPairUpdateTimeout s
  | .mwakeNRelease => Sys2Proof.Machine.execMwakeNRelease s

end Sys2Proof.Machine
end

