-- ==== Sys2Proof/Machine/Tick.lean ====
section
/-! DEFINITION. One tick of REFCLK: the house clock, the Mantel clock and the block's own count of ticks move on. -/

namespace Sys2Proof.Machine
open Sys2Proof

/-- R282, R283: the house clock after one tick of 8 ns: the nominal increment, or the slew's while it lasts; the
fraction holds 24 bits below one nanosecond. A clock in FAULT holds its value (R30). Log 5 (DESIGN CHOICE), 84 (DEDUCED). -/
def HouseClock.advance (h : HouseClock) : HouseClock :=
  if h.clkFault then h else
  let total := h.frac + h.rate
  { h with
    time := taddNs h.time (total / 2 ^ 24 : Nat)
    frac := total % 2 ^ 24
    slewLeft := h.slewLeft - 1 }

/-- R384: the crystal ticks that one edge counts as: 0 or 2 where the trim, in steps of 0.12 ppm, has summed to a whole tick. Log 79 (DEDUCED). -/
def trimmedStep (acc : Int) : Nat × Int :=
  if 100000000 ≤ acc then (2, acc - 100000000) else if acc ≤ -100000000 then (0, acc + 100000000) else (1, acc)

/-- R376: an edge of the crystal. A halted clock does not count (R381). Log 5 (DESIGN CHOICE), 80 (DESIGN CHOICE). -/
def Mantel.edge (m : Mantel) : Mantel :=
  if m.halt then m else
  let t := trimmedStep (m.trimAcc + 12 * m.trim)
  let n := m.fraction + t.1
  { m with trimAcc := t.2, fraction := n % 2 ^ 15, seconds := (m.seconds + n / 2 ^ 15) % 2 ^ 48 }

/-- R21: a copy after one tick, by which the house clock went on from `k`: one in step with it stays so; one that is out of touch goes on
with its own increment, and does not hear of the end of a slew. -/
def DieCopy.advance (k : HouseClock) (away : Bool) (x : DieCopy) : DieCopy :=
  let rate := if away && k.slewLeft = 1 && x.rate.isNone then some k.rate else x.rate
  { x with rate, offset := x.offset + (match x.rate with | some r => (r : Int) - k.rate | none => 0) }

/-- R21: the copies after one tick; without REFCLK none counts. -/
def advanceCopies (s : State) : State :=
  if s.clock.clkFault then s else
  (List.range 5).foldl (fun s d => { s with copies := tmod {} s.copies d (DieCopy.advance s.clock (outOfTouch s d)) }) s

/-- One tick of REFCLK (125 MHz, R12): 8 ns of real time. The crystal's edges are the outside's. A module reset that waits for its
instant begins (R407), the queues of the instant that ends are judged (R197), a trim window of the Mantel clock begins or ends (R384), and the utility latches whose
instant has come switch (R135). Log 5 (DESIGN CHOICE), 80 (DESIGN CHOICE). -/
def refclkTick (s : State) : State :=
  let s := judgeQueues s
  beginReset (switchLatches (trimTick { advanceCopies s with
    tick := s.tick + 1
    clock := s.clock.advance
    mantel := if Config.crystalEdge s.tick then { s.mantel.edge with lastEdge := s.tick } else s.mantel }))

end Sys2Proof.Machine
end

