-- ==== Sys2Proof/Machine/InsnWords.lean ====
section
/-! DEFINITION. The word of every Nalpex instruction and the instruction that a legal word spells (R65, R66, R86; the
encoding tables of spec/03 and spec/04). -/

namespace Sys2Proof.Machine
open Sys2Proof

/-! ### Functions of an opcode -/

/-- R67: the OPA functions. -/
def opaOf : Nat → Option (Nat → FmtA → Instr)
  | 0x00 => some .addR
  | 0x01 => some .subR
  | 0x02 => some .andR
  | 0x03 => some .orR
  | 0x04 => some .xorR
  | 0x05 => some .andn
  | 0x06 => some .shl
  | 0x07 => some .shr
  | 0x08 => some .sar
  | 0x09 => some .ror
  | 0x0a => some .slt
  | 0x0b => some .sltu
  | 0x0c => some .minR
  | 0x0d => some .maxR
  | 0x0e => some .minu
  | 0x0f => some .maxu
  | 0x10 => some .adds
  | 0x11 => some .subs
  | 0x12 => some .clz
  | 0x13 => some .popc
  | 0x18 => some .mul
  | 0x19 => some .mulh
  | 0x1a => some .mulhu
  | 0x1c => some .divR
  | 0x1d => some .divu
  | 0x1e => some .rem
  | 0x1f => some .remu
  | 0x20 => some .selR
  | _ => none

/-- R69: the OPI functions. -/
def opiOf : Nat → Option (Nat → FmtI → Instr)
  | 0x00 => some .addk
  | 0x01 => some .addkw
  | 0x02 => some .andk
  | 0x03 => some .ork
  | 0x04 => some .xork
  | 0x05 => some .cmpk
  | 0x06 => some .shk
  | 0x07 => some .bitk
  | _ => none

/-- R76: the atomics. -/
def atomicOf : Nat → Option (Nat → FmtA → Instr)
  | 0x00 => some .swap
  | 0x01 => some .aadd
  | 0x02 => some .aand
  | 0x03 => some .aor
  | 0x04 => some .amax
  | 0x05 => some .amin
  | _ => none

/-- R78: the branch conditions. -/
def branchOf : Nat → Option (Nat → FmtB → Instr)
  | 0x00 => some .beq
  | 0x01 => some .bne
  | 0x02 => some .blt
  | 0x03 => some .bge
  | 0x04 => some .bltu
  | 0x05 => some .bgeu
  | _ => none

/-- R63, R80: NOP, RET, FENCE and END. -/
def controlOf : Nat → Option (Nat → FmtA → Instr)
  | 0x00 => some .nop
  | 0x01 => some .ret
  | 0x02 => some .fence
  | 0x03 => some .endCycle
  | _ => none

/-- R85: SRR and SRW. -/
def specialOf : Nat → Option (Nat → FmtS → Instr)
  | 0x00 => some .srr
  | 0x01 => some .srw
  | _ => none

/-- R72: the QOP functions. -/
def qopOf : Nat → Option (Nat → FmtQ → Instr)
  | 0x00 => some .qmul
  | 0x01 => some .mac
  | 0x02 => some .msu
  | 0x03 => some .aclr
  | 0x04 => some .ald
  | 0x05 => some .amov
  | 0x06 => some .arnd
  | 0x07 => some .ash
  | 0x08 => some .qadd
  | 0x09 => some .qsub
  | 0x0a => some .qmulr
  | 0x0b => some .qneg
  | 0x0c => some .qabs
  | _ => none

/-- R74: the FOP functions. -/
def fopOf : Nat → Option (Nat → FmtA → Instr)
  | 0x00 => some .fadd
  | 0x01 => some .fsub
  | 0x02 => some .fmul
  | 0x03 => some .fdiv
  | 0x04 => some .fsqrt
  | 0x05 => some .fma
  | 0x06 => some .fmin
  | 0x07 => some .fmax
  | 0x08 => some .fneg
  | 0x09 => some .fabs
  | 0x0a => some .fcmp
  | 0x0b => some .fcmps
  | 0x0c => some .fkind
  | 0x0e => some .fminn
  | 0x0f => some .fmaxn
  | 0x10 => some .fcvtf
  | 0x11 => some .fcvti
  | 0x12 => some .fcvtp
  | 0x13 => some .ftoq
  | 0x14 => some .qtof
  | _ => none

/-- R105: PRD, PRDH, PWR and PWRH. -/
def pointOf : Nat → Option (Nat → FmtI → Instr)
  | 0x00 => some .prd
  | 0x01 => some .prdh
  | 0x02 => some .pwr
  | 0x03 => some .pwrh
  | _ => none

/-- R108: the queue functions. -/
def queueOf : Nat → Option (Nat → FmtA → Instr)
  | 0x00 => some .qopen
  | 0x01 => some .qpw
  | 0x02 => some .qpb
  | 0x03 => some .qmark
  | 0x04 => some .qrwnd
  | 0x05 => some .qrel
  | 0x06 => some .qdrop
  | 0x08 => some .qtake
  | 0x09 => some .qrd
  | 0x0a => some .qack
  | _ => none

/-- R113, R114: the time functions. -/
def timerOf : Nat → Option (Nat → FmtA → Instr)
  | 0x00 => some .tdif
  | 0x01 => some .tadd
  | 0x02 => some .tset
  | 0x03 => some .ttst
  | 0x04 => some .tclr
  | _ => none

/-! ### Reading and writing words -/

/-- A field of a word as bits. -/
def wbits (n : Nat) (w : BitVec 32) (lo : Nat) : BitVec n := BitVec.ofNat n (wfld w lo n)

def readA (w : BitVec 32) : FmtA := { rd := wbits 5 w 20, rs1 := wbits 5 w 15, rs2 := wbits 5 w 10, hi := wbits 2 w 8 }
def readI (w : BitVec 32) : FmtI := { rd := wbits 5 w 20, rs1 := wbits 5 w 15, imm := wbits 12 w 0 }
def readU (w : BitVec 32) : FmtU := { rd := wbits 5 w 20, imm := wbits 20 w 0 }
def readM (w : BitVec 32) : FmtM := { rt := wbits 5 w 20, base := wbits 5 w 15, size := wbits 3 w 12, imm := wbits 12 w 0 }
def readB (w : BitVec 32) : FmtB := { rs1 := wbits 5 w 17, rs2 := wbits 5 w 12, disp := wbits 12 w 0 }
def readJ (w : BitVec 32) : FmtJ := { disp := wbits 25 w 0 }
def readT (w : BitVec 32) : FmtT := { rs1 := wbits 5 w 20, count := wbits 12 w 8, lo := wbits 8 w 0 }
def readL (w : BitVec 32) : FmtL := { rs := wbits 5 w 20, bound := wbits 12 w 8, len := wbits 8 w 0 }
def readQ (w : BitVec 32) : FmtQ := { acc := wbits 2 w 23, rd := wbits 5 w 18, rs1 := wbits 5 w 13, rs2 := wbits 5 w 8 }
def readS (w : BitVec 32) : FmtS := { rt := wbits 5 w 20, sr := wbits 12 w 8 }

/-- The instruction that a word spells on core `k`, whether or not it is legal there; none where no opcode or function of the
tables matches. -/
def spelled (k : Nat) (w : BitVec 32) : Option Instr :=
  let fn := wfld w 0 8
  match wfld w 25 7 with
  | 0x00 => (opaOf fn).map (fun c => c k (readA w))
  | 0x01 => (opiOf (wfld w 12 3)).map (fun c => c k (readI w))
  | 0x02 => some (.lui k (readU w))
  | 0x03 => some (.luh k (readU w))
  | 0x04 => some (.adpc k (readU w))
  | 0x08 => some (.ld k (readM w))
  | 0x09 => some (.st k (readM w))
  | 0x0A => (atomicOf fn).map (fun c => c k (readA w))
  | 0x10 => (branchOf (wfld w 22 3)).map (fun c => c k (readB w))
  | 0x11 => some (.jmp k (readJ w))
  | 0x12 => some (.call k (readJ w))
  | 0x13 => (controlOf fn).map (fun c => c k (readA w))
  | 0x14 => some (.jt k (readT w))
  | 0x15 => some (.loopN k (readL w))
  | 0x16 => (specialOf fn).map (fun c => c k (readS w))
  | 0x18 => (qopOf fn).map (fun c => c k (readQ w))
  | 0x1C => (fopOf fn).map (fun c => c k (readA w))
  | 0x40 => some (.cfg k (wbits 8 w 0) (readA w))
  | 0x41 => (pointOf (wfld w 12 3)).map (fun c => c k (readI w))
  | 0x42 => (queueOf fn).map (fun c => c k (readA w))
  | 0x43 => (timerOf fn).map (fun c => c k (readA w))
  | 0x44 => if fn = 0 then some (.emit k (readA w)) else none
  | 0x45 => some (.key k (wbits 8 w 0) (readA w))
  | 0x46 => if fn = 0 then some (.hsub k (readA w)) else none
  | 0x47 => some (.brk k (wbits 4 w 4) (wbits 4 w 0) (readA w))
  | _ => none

/-- R66, R86: the instruction that a word is on core `k`: none for a word that raises ILLEGAL by its encoding. -/
def decodeInsn (k : Nat) (w : BitVec 32) : Option Instr := if (readWord (isMgmt k) w).isSome then spelled k w else none

/-- The word of a Nalpex instruction; none for a command that is no instruction. -/
def insnWord : Instr → Option (BitVec 32)
  | .addR _ f => some (encA 0x00 0x00 f)
  | .subR _ f => some (encA 0x00 0x01 f)
  | .andR _ f => some (encA 0x00 0x02 f)
  | .orR _ f => some (encA 0x00 0x03 f)
  | .xorR _ f => some (encA 0x00 0x04 f)
  | .andn _ f => some (encA 0x00 0x05 f)
  | .shl _ f => some (encA 0x00 0x06 f)
  | .shr _ f => some (encA 0x00 0x07 f)
  | .sar _ f => some (encA 0x00 0x08 f)
  | .ror _ f => some (encA 0x00 0x09 f)
  | .slt _ f => some (encA 0x00 0x0a f)
  | .sltu _ f => some (encA 0x00 0x0b f)
  | .minR _ f => some (encA 0x00 0x0c f)
  | .maxR _ f => some (encA 0x00 0x0d f)
  | .minu _ f => some (encA 0x00 0x0e f)
  | .maxu _ f => some (encA 0x00 0x0f f)
  | .adds _ f => some (encA 0x00 0x10 f)
  | .subs _ f => some (encA 0x00 0x11 f)
  | .clz _ f => some (encA 0x00 0x12 f)
  | .popc _ f => some (encA 0x00 0x13 f)
  | .mul _ f => some (encA 0x00 0x18 f)
  | .mulh _ f => some (encA 0x00 0x19 f)
  | .mulhu _ f => some (encA 0x00 0x1a f)
  | .divR _ f => some (encA 0x00 0x1c f)
  | .divu _ f => some (encA 0x00 0x1d f)
  | .rem _ f => some (encA 0x00 0x1e f)
  | .remu _ f => some (encA 0x00 0x1f f)
  | .selR _ f => some (encA 0x00 0x20 f)
  | .addk _ f => some (encI 0x01 0 f)
  | .addkw _ f => some (encI 0x01 1 f)
  | .andk _ f => some (encI 0x01 2 f)
  | .ork _ f => some (encI 0x01 3 f)
  | .xork _ f => some (encI 0x01 4 f)
  | .cmpk _ f => some (encI 0x01 5 f)
  | .shk _ f => some (encI 0x01 6 f)
  | .bitk _ f => some (encI 0x01 7 f)
  | .lui _ f => some (encU 0x02 f)
  | .luh _ f => some (encU 0x03 f)
  | .adpc _ f => some (encU 0x04 f)
  | .ld _ f => some (encM 0x08 f)
  | .st _ f => some (encM 0x09 f)
  | .swap _ f => some (encA 0x0A 0 f)
  | .aadd _ f => some (encA 0x0A 1 f)
  | .aand _ f => some (encA 0x0A 2 f)
  | .aor _ f => some (encA 0x0A 3 f)
  | .amax _ f => some (encA 0x0A 4 f)
  | .amin _ f => some (encA 0x0A 5 f)
  | .beq _ f => some (encB 0 f)
  | .bne _ f => some (encB 1 f)
  | .blt _ f => some (encB 2 f)
  | .bge _ f => some (encB 3 f)
  | .bltu _ f => some (encB 4 f)
  | .bgeu _ f => some (encB 5 f)
  | .jmp _ f => some (encJ 0x11 f)
  | .call _ f => some (encJ 0x12 f)
  | .nop _ f => some (encA 0x13 0 f)
  | .ret _ f => some (encA 0x13 1 f)
  | .fence _ f => some (encA 0x13 2 f)
  | .endCycle _ f => some (encA 0x13 3 f)
  | .jt _ f => some (encT f)
  | .loopN _ f => some (encL f)
  | .srr _ f => some (encS 0 f)
  | .srw _ f => some (encS 1 f)
  | .qmul _ f => some (encQ 0x00 f)
  | .mac _ f => some (encQ 0x01 f)
  | .msu _ f => some (encQ 0x02 f)
  | .aclr _ f => some (encQ 0x03 f)
  | .ald _ f => some (encQ 0x04 f)
  | .amov _ f => some (encQ 0x05 f)
  | .arnd _ f => some (encQ 0x06 f)
  | .ash _ f => some (encQ 0x07 f)
  | .qadd _ f => some (encQ 0x08 f)
  | .qsub _ f => some (encQ 0x09 f)
  | .qmulr _ f => some (encQ 0x0a f)
  | .qneg _ f => some (encQ 0x0b f)
  | .qabs _ f => some (encQ 0x0c f)
  | .fadd _ f => some (encA 0x1C 0x00 f)
  | .fsub _ f => some (encA 0x1C 0x01 f)
  | .fmul _ f => some (encA 0x1C 0x02 f)
  | .fdiv _ f => some (encA 0x1C 0x03 f)
  | .fsqrt _ f => some (encA 0x1C 0x04 f)
  | .fma _ f => some (encA 0x1C 0x05 f)
  | .fmin _ f => some (encA 0x1C 0x06 f)
  | .fmax _ f => some (encA 0x1C 0x07 f)
  | .fneg _ f => some (encA 0x1C 0x08 f)
  | .fabs _ f => some (encA 0x1C 0x09 f)
  | .fcmp _ f => some (encA 0x1C 0x0a f)
  | .fcmps _ f => some (encA 0x1C 0x0b f)
  | .fkind _ f => some (encA 0x1C 0x0c f)
  | .fminn _ f => some (encA 0x1C 0x0e f)
  | .fmaxn _ f => some (encA 0x1C 0x0f f)
  | .fcvtf _ f => some (encA 0x1C 0x10 f)
  | .fcvti _ f => some (encA 0x1C 0x11 f)
  | .fcvtp _ f => some (encA 0x1C 0x12 f)
  | .ftoq _ f => some (encA 0x1C 0x13 f)
  | .qtof _ f => some (encA 0x1C 0x14 f)
  | .cfg _ code f => some (encA 0x40 code.toNat f)
  | .prd _ f => some (encI 0x41 0 f)
  | .prdh _ f => some (encI 0x41 1 f)
  | .pwr _ f => some (encI 0x41 2 f)
  | .pwrh _ f => some (encI 0x41 3 f)
  | .qopen _ f => some (encA 0x42 0x00 f)
  | .qpw _ f => some (encA 0x42 0x01 f)
  | .qpb _ f => some (encA 0x42 0x02 f)
  | .qmark _ f => some (encA 0x42 0x03 f)
  | .qrwnd _ f => some (encA 0x42 0x04 f)
  | .qrel _ f => some (encA 0x42 0x05 f)
  | .qdrop _ f => some (encA 0x42 0x06 f)
  | .qtake _ f => some (encA 0x42 0x08 f)
  | .qrd _ f => some (encA 0x42 0x09 f)
  | .qack _ f => some (encA 0x42 0x0a f)
  | .tdif _ f => some (encA 0x43 0 f)
  | .tadd _ f => some (encA 0x43 1 f)
  | .tset _ f => some (encA 0x43 2 f)
  | .ttst _ f => some (encA 0x43 3 f)
  | .tclr _ f => some (encA 0x43 4 f)
  | .emit _ f => some (encA 0x44 0 f)
  | .key _ op f => some (encA 0x45 op.toNat f)
  | .hsub _ f => some (encA 0x46 0 f)
  | .brk _ n lo f => some (encA 0x47 (16 * n.toNat + lo.toNat) f)
  | _ => none

/-- The core of a Nalpex instruction. -/
def insnCore : Instr → Option Nat
  | .addR k _ | .subR k _ | .andR k _ | .orR k _ | .xorR k _ | .andn k _ | .shl k _ | .shr k _ | .sar k _ | .ror k _
  | .slt k _ | .sltu k _ | .minR k _ | .maxR k _ | .minu k _ | .maxu k _ | .adds k _ | .subs k _ | .clz k _
  | .popc k _ | .mul k _ | .mulh k _ | .mulhu k _ | .divR k _ | .divu k _ | .rem k _ | .remu k _ | .selR k _
  | .addk k _ | .addkw k _ | .andk k _ | .ork k _ | .xork k _ | .cmpk k _ | .shk k _ | .bitk k _ | .lui k _
  | .luh k _ | .adpc k _ | .ld k _ | .st k _ | .swap k _ | .aadd k _ | .aand k _ | .aor k _ | .amax k _ | .amin k _
  | .beq k _ | .bne k _ | .blt k _ | .bge k _ | .bltu k _ | .bgeu k _ | .jmp k _ | .call k _ | .nop k _ | .ret k _
  | .fence k _ | .endCycle k _ | .jt k _ | .loopN k _ | .srr k _ | .srw k _ | .qmul k _ | .mac k _ | .msu k _
  | .aclr k _ | .ald k _ | .amov k _ | .arnd k _ | .ash k _ | .qadd k _ | .qsub k _ | .qmulr k _ | .qneg k _
  | .qabs k _ | .fadd k _ | .fsub k _ | .fmul k _ | .fdiv k _ | .fsqrt k _ | .fma k _ | .fmin k _ | .fmax k _
  | .fneg k _ | .fabs k _ | .fcmp k _ | .fcmps k _ | .fkind k _ | .fminn k _ | .fmaxn k _ | .fcvtf k _ | .fcvti k _
  | .fcvtp k _ | .ftoq k _ | .qtof k _ | .cfg k _ _ | .prd k _ | .prdh k _ | .pwr k _ | .pwrh k _ | .qopen k _
  | .qpw k _ | .qpb k _ | .qmark k _ | .qrwnd k _ | .qrel k _ | .qdrop k _ | .qtake k _ | .qrd k _ | .qack k _
  | .tdif k _ | .tadd k _ | .tset k _ | .ttst k _ | .tclr k _ | .emit k _ | .key k _ _ | .hsub k _ | .brk k _ _ _ => some k
  | _ => none

end Sys2Proof.Machine
end

