-- ==== Sys2Proof/Safety.lean ====
section
/-! DEFINITION. What a safe step is, and the words in which claims speak of an instruction that issues, retires or
faults. -/

namespace Sys2Proof
open Sys2Proof.Machine

/-- A step that goes on: it answers a next state. -/
def Goes (s : State) : Prop := ∃ t, step s = Host.Outcome.next t

namespace Machine

/-- The registers of a context. -/
def contextAt (s : State) (c : Nat) : Ctx := (taskAt s c).ctx

/-- What an instruction of context `c` is run in. -/
def issuing (s : State) (k c : Nat) (word : BitVec 32) (cost : Nat) : Env :=
  { k, c, u := suiteAt s (ctxSuite c), word, cost }

/-- The next instruction on core `k` is fetched for context `c`: the context has its turn (R127, R132, R133), and the fetch at its pc is
allowed and meets no uncorrectable error (R60, R64), and what stands there is an instruction (R66). -/
structure Fetches (s : State) (k c : Nat) : Prop where
  turn : readyOn s k = some c
  fetch : windowAllows (suiteAt s (ctxSuite c)) .fetch (contextAt s c).pc.toNat 4 = true
  clean : uncorrectableIn s ((suiteAt s (ctxSuite c)).winBase + (contextAt s c).pc.toNat) 4 = none
  listed : fetchIllegal s k c = false

/-- An instruction of `cost` steps issues: it is fetched, and the step ceiling is kept (R87). -/
structure Issues (s : State) (k c cost : Nat) : Prop extends Fetches s k c where
  budget : overBudget s k c cost = false

/-- The state once the instruction at the pc of context `c` has been fetched: a single-bit error it met is corrected (R372). -/
def fetched (s : State) (c : Nat) : State :=
  correctErrors s ((suiteAt s (ctxSuite c)).winBase + (contextAt s c).pc.toNat) 4

/-- The instruction of context `c` retires with the registers `x` and changes nothing else; the next instruction follows. -/
def retired (s : State) (c cost : Nat) (x : Ctx) : State :=
  putCtx (fetched s c) c (advance { x with steps := x.steps + cost })

/-- The instruction of context `c` retires with the registers `x` and sets the pc. -/
def jumped (s : State) (c cost : Nat) (x : Ctx) (pc : BitVec 32) : State :=
  putCtx (fetched s c) c { x with pc, steps := x.steps + cost }

/-- The instruction `word` of context `c` takes a fault of a class, with an ADDR (R88 to R90). -/
def faulted (s : State) (k c : Nat) (word : BitVec 32) (cls : FClass) (addr : BitVec 64) : State :=
  takeFault (fetched s c) c k cls .none addr word

/-- An arithmetic instruction's end (R73): the ARITH fault when it raised a trapped condition, else the registers `x` with the flags of
what it raised. -/
def arithEnd (s : State) (k c cost : Nat) (word : BitVec 32) (raised : BitVec 9) (x : Ctx) : State :=
  if raised &&& (contextAt s c).trap ≠ 0 then faulted s k c word .arith (raised.setWidth 64)
  else retired s c cost { x with flags := (contextAt s c).flags ||| raised }

end Machine

end Sys2Proof
end

