-- ==== Sys2Proof/Certificates/Slice0/Obligations.lean ====
section
/-! DEFINITION. The statements for the provers, and the tables of the spec in which they speak. -/

open Sys2Proof Sys2Proof.Machine

/-! ### The queue, reset and the encoding -/

/-- With the command c at the front of the queue, one step of the block is exec of c on the state whose queue is the rest. -/
def Obligations.StepRunsFrontCommand : Prop :=
  ∀ (s : State) (c : Instr) (rest : List Instr), step { s with pending := c :: rest } = exec c { s with pending := rest }

/-- The model's own choice (assumption 5): a step on an empty queue is one tick of REFCLK, which counts the tick, leaves the
queue empty and the fuses as they are; where no module reset waits for its instant, it changes neither data SRAM nor any task. -/
def Obligations.EmptyQueueTicksRefclk : Prop :=
  ∀ s : State, s.pending = [] → ∃ t, step s = .next t ∧ t.tick = s.tick + 1 ∧ t.pending = [] ∧ t.fuses = s.fuses ∧
    (s.boot.pendingReset = none → s.boot.heldReset = none → s.twin.pairReset = none → t.sram = s.sram ∧ t.tasks = s.tasks)

/-- No command of the table ends in a fault or a refusal of the model, in any state: a failing instruction takes the instruction
fault of the spec, and a refused command is answered, both of which are next states. -/
def Obligations.NoCommandStops : Prop :=
  ∀ (i : Instr) (s : State), ∃ t, exec i s = .next t

/-- For each of the 120 Nalpex instructions, at every value of every operand: where its word is legal on its core, the decoder
reads from it that very instruction, with every operand. -/
def Obligations.InstructionWordsDecodeBack : Prop :=
  ∀ (i : Instr) (k : Nat) (w : BitVec 32), insnCore i = some k → insnWord i = some w → (readWord (isMgmt k) w).isSome = true →
    decodeInsn k w = some i

/-- An instruction of any opcode whose word is not a legal encoding on its core, and whose fetch is allowed, takes an ILLEGAL
fault with ADDR 0 and has no other effect. -/
def Obligations.IllegalWordRaisesIllegal : Prop :=
  ∀ (i : Instr) (s : State) (k c : Nat) (w : BitVec 32), insnCore i = some k → insnWord i = some w → Fetches s k c →
    readWord (isMgmt k) w = none → exec i s = .next (faulted s k c w .illegal 0)

/-! ### Integer instructions -/

/-- R67: an operation of `n` bits on the old rd, rs1 and rs2. -/
abbrev IntOp := (n : Nat) → BitVec n → BitVec n → BitVec n → BitVec n

/-- R67: the value rd takes: the 64-bit operation, or with W the 32-bit one on the low halves, sign-extended. -/
def intResult (op : IntOp) (f : FmtA) (x : Ctx) : BitVec 64 :=
  if f.hi.getLsbD 1 then
    (op 32 ((rget x f.rd).setWidth 32) ((rget x f.rs1).setWidth 32) ((rget x f.rs2).setWidth 32)).signExtend 64
  else op 64 (rget x f.rd) (rget x f.rs1) (rget x f.rs2)

/-- R67's table without the operations that raise conditions: the instruction, whether it has rs1 only, and its operation. -/
def intTable : List ((Nat → FmtA → Instr) × Bool × IntOp) :=
  [(.addR, false, fun _ _ a b => a + b), (.subR, false, fun _ _ a b => a - b),
   (.andR, false, fun _ _ a b => a &&& b), (.orR, false, fun _ _ a b => a ||| b),
   (.xorR, false, fun _ _ a b => a ^^^ b), (.andn, false, fun _ _ a b => a &&& ~~~b),
   (.shl, false, fun n _ a b => a <<< (b.toNat % n)), (.shr, false, fun n _ a b => a >>> (b.toNat % n)),
   (.sar, false, fun n _ a b => a.sshiftRight (b.toNat % n)), (.ror, false, fun n _ a b => a.rotateRight (b.toNat % n)),
   (.slt, false, fun n _ a b => if a.toInt < b.toInt then 1#n else 0#n),
   (.sltu, false, fun n _ a b => if a.toNat < b.toNat then 1#n else 0#n),
   (.minR, false, fun _ _ a b => if a.toInt ≤ b.toInt then a else b),
   (.maxR, false, fun _ _ a b => if b.toInt ≤ a.toInt then a else b),
   (.minu, false, fun _ _ a b => if a.toNat ≤ b.toNat then a else b),
   (.maxu, false, fun _ _ a b => if b.toNat ≤ a.toNat then a else b),
   (.clz, true, fun n _ a _ => BitVec.ofNat n (leadingZeros n a.toNat)),
   (.popc, true, fun n _ a _ => BitVec.ofNat n (onesIn n a.toNat)),
   (.mul, false, fun _ _ a b => a * b),
   (.mulh, false, fun n _ a b => BitVec.ofInt n (a.toInt * b.toInt / (2 ^ n : Nat))),
   (.mulhu, false, fun n _ a b => BitVec.ofNat n (a.toNat * b.toNat / 2 ^ n)),
   (.selR, false, fun _ d a b => if d ≠ 0 then a else b)]

/-- ADD SUB AND OR XOR ANDN SHL SHR SAR ROR SLT SLTU MIN MAX MINU MAXU CLZ POPC MUL MULH MULHU SEL: where the instruction issues
with fn[8] zero (and rs2 zero for CLZ and POPC), it completes in one step: rd takes the value of the operation table, in the
64-bit or the W form, a write to w0 being discarded; the pc and the loop stack move on, and nothing else of the state changes. -/
def Obligations.IntegerOperationsWriteRd : Prop :=
  ∀ (s : State) (k c : Nat) (f : FmtA), Issues s k c 1 → f.hi.getLsbD 0 = false →
    ∀ r ∈ intTable, (r.2.1 = true → f.rs2 = 0) →
      exec (r.1 k f) s = .next (retired s c 1 (rset (contextAt s c) f.rd (intResult r.2.2 f (contextAt s c))))

/-- R67, R68: an operation of `n` bits on rs1 and rs2 that also raises conditions. -/
abbrev CondOp := (n : Nat) → BitVec n → BitVec n → BitVec n × BitVec 9

/-- R67: the exact signed result saturated to `n` bits; IS (bit 1) when it saturates. -/
def satOp (n : Nat) (v : Int) : BitVec n × BitVec 9 :=
  if v < -(2 ^ (n - 1) : Nat) then (BitVec.intMin n, 0x002)
  else if ((2 ^ (n - 1) : Nat) : Int) ≤ v then (BitVec.intMax n, 0x002) else (BitVec.ofInt n v, 0)

/-- R67, R68's table: the instruction, its steps and its operation; IDZ is bit 0 and IS bit 1. -/
def arithTable : List ((Nat → FmtA → Instr) × Nat × Nat × CondOp) :=
  [(.adds, 0x10, 1, fun n a b => satOp n (a.toInt + b.toInt)),
   (.subs, 0x11, 1, fun n a b => satOp n (a.toInt - b.toInt)),
   (.divR, 0x1C, 20, fun n a b => if b = 0 then (if 0 ≤ a.toInt then BitVec.intMax n else BitVec.intMin n, 0x001)
      else if a = BitVec.intMin n ∧ b = -1 then (BitVec.intMax n, 0x002) else (a.sdiv b, 0)),
   (.divu, 0x1D, 20, fun n a b => if b = 0 then (BitVec.allOnes n, 0x001) else (a / b, 0)),
   (.rem, 0x1E, 20, fun n a b => if b = 0 then (0, 0x001)
      else if a = BitVec.intMin n ∧ b = -1 then (0, 0x002) else (a.srem b, 0)),
   (.remu, 0x1F, 20, fun _ a b => if b = 0 then (0, 0x001) else (a % b, 0))]

/-- The value and the conditions in the 64-bit or the W form. -/
def condResult (op : CondOp) (f : FmtA) (x : Ctx) : BitVec 64 × BitVec 9 :=
  if f.hi.getLsbD 1 then
    let r := op 32 ((rget x f.rs1).setWidth 32) ((rget x f.rs2).setWidth 32)
    (r.1.signExtend 64, r.2)
  else op 64 (rget x f.rs1) (rget x f.rs2)

/-- ADDS SUBS DIV DIVU REM REMU: the saturated or division result and the conditions IDZ and IS of the spec. Where no raised
condition is trapped, rd takes the value and the flags of the raised conditions are set; where one is trapped the ARITH fault
holds every raised condition in ADDR and nothing else happens. A division by zero or an overflow takes the same 20 steps. -/
def Obligations.ArithmeticSaturatesAndFlags : Prop :=
  ∀ (s : State) (k c : Nat) (f : FmtA), f.hi.getLsbD 0 = false → ∀ r ∈ arithTable, Issues s k c r.2.2.1 →
    exec (r.1 k f) s = .next (arithEnd s k c r.2.2.1 (encA 0x00 r.2.1 f) (condResult r.2.2.2 f (contextAt s c)).2
      (rset (contextAt s c) f.rd (condResult r.2.2.2 f (contextAt s c)).1))

/-- R69's table: the instruction and its value of rs1 and the 12-bit constant. -/
def constTable : List ((Nat → FmtI → Instr) × (BitVec 64 → BitVec 12 → BitVec 64)) :=
  [(.addk, fun a k => a + k.signExtend 64), (.addkw, fun a k => (a.setWidth 32 + k.signExtend 32).signExtend 64),
   (.andk, fun a k => a &&& k.setWidth 64), (.ork, fun a k => a ||| k.setWidth 64), (.xork, fun a k => a ^^^ k.setWidth 64),
   (.cmpk, fun a k => if a.toInt < k.toInt then BitVec.ofInt 64 (-1) else if a.toInt = k.toInt then 0 else 1)]

/-- R69: SHK and BITK: what imm12[11:10] selects, by the amount or bit imm12[5:0]. -/
def bitTable : List ((Nat → FmtI → Instr) × (Nat → BitVec 64 → Nat → BitVec 64)) :=
  [(.shk, fun sel a n => if sel = 0 then a <<< n else if sel = 1 then a >>> n else if sel = 2 then a.sshiftRight n else a.rotateRight n),
   (.bitk, fun sel a n => if sel = 0 then a ||| 1#64 <<< n else if sel = 1 then a &&& ~~~(1#64 <<< n)
      else if sel = 2 then a ^^^ 1#64 <<< n else BitVec.ofNat 64 (a.getLsbD n).toNat)]

/-- ADDK ADDKW ANDK ORK XORK CMPK with the constant sign-extended for ADDK, ADDKW and CMPK and zero-extended for the others, SHK
and BITK with their operation chosen by imm12[11:10] where imm12[9:6] is zero, and LUI, LUH and ADPC: each completes in one
step, writes its value to rd (a write to w0 is discarded) and changes nothing else but the pc and the loop stack. -/
def Obligations.ConstantOperationsWriteRd : Prop :=
  (∀ (s : State) (k c : Nat) (f : FmtI), Issues s k c 1 →
    (∀ r ∈ constTable, exec (r.1 k f) s = .next (retired s c 1 (rset (contextAt s c) f.rd (r.2 (rget (contextAt s c) f.rs1) f.imm)))) ∧
    (f.imm.toNat / 64 % 16 = 0 → ∀ r ∈ bitTable, exec (r.1 k f) s =
      .next (retired s c 1 (rset (contextAt s c) f.rd (r.2 (f.imm.toNat / 1024) (rget (contextAt s c) f.rs1) (f.imm.toNat % 64)))))) ∧
  (∀ (s : State) (k c : Nat) (f : FmtU), Issues s k c 1 →
    exec (.lui k f) s = .next (retired s c 1 (rset (contextAt s c) f.rd ((f.imm ++ 0#12 : BitVec 32).signExtend 64))) ∧
    exec (.luh k f) s = .next (retired s c 1 (rset (contextAt s c) f.rd
      ((f.imm ++ (rget (contextAt s c) f.rd).setWidth 44 : BitVec 64)))) ∧
    exec (.adpc k f) s = .next (retired s c 1 (rset (contextAt s c) f.rd ((contextAt s c).pc.setWidth 64 + f.imm.signExtend 64 * 4))))

/-! ### Memory -/

/-- R75: the window address of a load or store, in 64 bits. -/
def dataAddr (f : FmtM) (x : Ctx) : BitVec 64 := rget x f.base + f.imm.signExtend 64

/-- The data SRAM address of a window address of the context's suite. -/
def sramAddr (s : State) (c : Nat) (a : BitVec 64) : Nat := (suiteAt s (ctxSuite c)).winBase + a.toNat

/-- A data access of `n` bytes is allowed: aligned (R89), inside the window in segments that allow its kind (R60). -/
structure Allowed (s : State) (c : Nat) (kind : Access) (a : BitVec 64) (n : Nat) : Prop where
  aligned : a.toNat % n = 0
  rights : windowAllows (suiteAt s (ctxSuite c)) kind a.toNat n = true

/-- R76: fn[9] selects a word, else a doubleword. -/
def atomicWidth (f : FmtA) : Nat := if f.hi.getLsbD 1 then 4 else 8

/-- The little-endian number that stands in the `n` bytes at a data SRAM address. -/
def memNumber (s : State) (a n : Nat) : Nat := natOf (readBytes s.sram a n)

/-- R76's table: the atomic and the value it writes back, of `n` bits, from the old value and rs2. -/
def atomicTable : List ((Nat → FmtA → Instr) × ((n : Nat) → BitVec n → BitVec n → BitVec n)) :=
  [(.swap, fun _ _ b => b), (.aadd, fun _ a b => a + b), (.aand, fun _ a b => a &&& b), (.aor, fun _ a b => a ||| b),
   (.amax, fun _ a b => if b.toInt ≤ a.toInt then a else b), (.amin, fun _ a b => if a.toInt ≤ b.toInt then a else b)]

/-- LD of sizes 0 to 6: where the access is aligned, allowed as a load and meets no uncorrectable error, rt takes the
little-endian number of the 1, 2, 4 or 8 bytes at base + constant, zero-extended for sizes 0 to 3 and sign-extended for 4 to 6;
a single-bit error met is corrected; nothing else changes but the pc and the loop stack, and every byte of data SRAM reads as
before. ST of sizes 0 to 3: where the access is aligned and allowed as a store, the 1, 2, 4 or 8 bytes at base + constant become
the low bytes of rt, lowest first, and the RETAIN lines touched are noted for the journal (noteLines); every other byte of data
SRAM reads as before, and no register changes but the pc, the step count and the loop stack. SWAP AADD AAND AOR AMAX AMIN with
fn[8] zero: where the access is aligned, allowed as a store and meets no uncorrectable error, rd takes the old doubleword, or
the old word zero-extended when fn[9] is 1; the bytes at w[rs1] become the combined value, the RETAIN lines touched being noted
for the journal (noteLines), and every other byte of data SRAM reads as before; nothing else changes but the pc and the loop
stack. -/
def Obligations.LoadsStoresAndAtomics : Prop :=
  (∀ (s : State) (k c : Nat) (f : FmtM), Issues s k c 3 → f.size.toNat < 7 →
     let x := contextAt s c
     let n := 2 ^ (f.size.toNat % 4)
     let a := dataAddr f x
     let v := BitVec.ofNat (8 * n) (memNumber s (sramAddr s c a) n)
     let t := putCtx (correctErrors (fetched s c) (sramAddr s c a) n) c (advance
       { rset x f.rt (if f.size.toNat < 4 then v.setWidth 64 else v.signExtend 64) with steps := x.steps + 3 })
     Allowed s c .load a n → uncorrectableIn (fetched s c) (sramAddr s c a) n = none →
       exec (.ld k f) s = .next t ∧ ∀ b, readByte t.sram b = readByte s.sram b) ∧
  (∀ (s : State) (k c : Nat) (f : FmtM), Issues s k c 2 → f.size.toNat < 4 → s.sram.wf = true →
     let x := contextAt s c
     let n := 2 ^ f.size.toNat
     let a := dataAddr f x
     let u := suiteAt s (ctxSuite c)
     let r := advance { x with steps := x.steps + 2 }
     let t := putCtx (storeBytes (fetched s c) c u a.toNat (bytesOf n (rget x f.rt).toNat)) c r
     Allowed s c .store a n →
       exec (.st k f) s = .next t ∧ contextAt t c = r ∧
         t.journal = (noteLines s c u a.toNat n).journal ∧ (segmentOf u a.toNat ≠ some .retain → t.journal = s.journal) ∧
         t = { s with tasks := t.tasks, sram := t.sram, journal := t.journal, attic := t.attic } ∧
         (∀ i, i < n → readByte t.sram (sramAddr s c a + i) = BitVec.ofNat 8 ((rget x f.rt).toNat / 256 ^ i)) ∧
         (∀ b, b < sramAddr s c a ∨ sramAddr s c a + n ≤ b → readByte t.sram b = readByte s.sram b)) ∧
  (∀ (s : State) (k c : Nat) (f : FmtA), Issues s k c 6 → f.hi.getLsbD 0 = false → s.sram.wf = true →
     let x := contextAt s c
     let n := atomicWidth f
     let a := rget x f.rs1
     let old := memNumber s (sramAddr s c a) n
     let u := suiteAt s (ctxSuite c)
     let y := advance { rset x f.rd (BitVec.ofNat 64 old) with steps := x.steps + 6 }
     Allowed s c .store a n → uncorrectableIn (fetched s c) (sramAddr s c a) n = none →
       ∀ r ∈ atomicTable,
         let new := (r.2 (8 * n) (BitVec.ofNat (8 * n) old) ((rget x f.rs2).setWidth (8 * n))).toNat
         let t := putCtx (storeBytes (correctErrors (fetched s c) (sramAddr s c a) n) c u a.toNat (bytesOf n new)) c y
         exec (r.1 k f) s = .next t ∧ contextAt t c = y ∧ t.journal = (noteLines s c u a.toNat n).journal ∧
         t = { s with tasks := t.tasks, sram := t.sram, journal := t.journal, attic := t.attic } ∧
         (∀ i, i < n → readByte t.sram (sramAddr s c a + i) = BitVec.ofNat 8 (new / 256 ^ i)) ∧
         (∀ b, b < sramAddr s c a ∨ sramAddr s c a + n ≤ b → readByte t.sram b = readByte s.sram b))

/-- R75, R76: a data access of core `k` with registers `x`: the command, its word, its steps, whether it reads, its kind of access, its
address and its width in bytes. -/
inductive DataAccess (k : Nat) (x : Ctx) : Instr → BitVec 32 → Nat → Bool → Access → BitVec 64 → Nat → Prop
  | load (f : FmtM) : f.size.toNat < 7 →
      DataAccess k x (.ld k f) (encM 0x08 f) 3 true .load (dataAddr f x) (2 ^ (f.size.toNat % 4))
  | store (f : FmtM) : f.size.toNat < 4 → DataAccess k x (.st k f) (encM 0x09 f) 2 false .store (dataAddr f x) (2 ^ f.size.toNat)
  | swap (f : FmtA) : f.hi.getLsbD 0 = false → DataAccess k x (.swap k f) (encA 0x0A 0 f) 6 true .store (rget x f.rs1) (atomicWidth f)
  | aadd (f : FmtA) : f.hi.getLsbD 0 = false → DataAccess k x (.aadd k f) (encA 0x0A 1 f) 6 true .store (rget x f.rs1) (atomicWidth f)
  | aand (f : FmtA) : f.hi.getLsbD 0 = false → DataAccess k x (.aand k f) (encA 0x0A 2 f) 6 true .store (rget x f.rs1) (atomicWidth f)
  | aor (f : FmtA) : f.hi.getLsbD 0 = false → DataAccess k x (.aor k f) (encA 0x0A 3 f) 6 true .store (rget x f.rs1) (atomicWidth f)
  | amax (f : FmtA) : f.hi.getLsbD 0 = false → DataAccess k x (.amax k f) (encA 0x0A 4 f) 6 true .store (rget x f.rs1) (atomicWidth f)
  | amin (f : FmtA) : f.hi.getLsbD 0 = false → DataAccess k x (.amin k f) (encA 0x0A 5 f) 6 true .store (rget x f.rs1) (atomicWidth f)

/-- LD, ST and the atomics: an address that is not a multiple of the width takes an ALIGN fault; an aligned one that the window
does not allow takes a BOUNDS fault; an allowed load or atomic that meets an uncorrectable error takes a MEMORY fault, and the
error acts by region as well. ADDR holds the address, and the instruction has no other effect. -/
def Obligations.DataAccessFaultsInOrder : Prop :=
  ∀ (s : State) (k c cost n : Nat) (i : Instr) (w : BitVec 32) (reads : Bool) (kind : Access) (a : BitVec 64),
    DataAccess k (contextAt s c) i w cost reads kind a n → Issues s k c cost →
    (a.toNat % n ≠ 0 → exec i s = .next (faulted s k c w .align a)) ∧
    (a.toNat % n = 0 → windowAllows (suiteAt s (ctxSuite c)) kind a.toNat n = false → exec i s = .next (faulted s k c w .bounds a)) ∧
    (reads = true → Allowed s c kind a n → ∀ b, uncorrectableIn (fetched s c) (sramAddr s c a) n = some b →
      exec i s = .next (meetError (faulted s k c w .memory a) b 2))

/-! ### Control -/

/-- R78's table: the branch and its condition. -/
def branchTable : List ((Nat → FmtB → Instr) × Nat × (BitVec 64 → BitVec 64 → Prop)) :=
  [(.beq, 0, fun a b => a = b), (.bne, 1, fun a b => a ≠ b), (.blt, 2, fun a b => a.toInt < b.toInt),
   (.bge, 3, fun a b => b.toInt ≤ a.toInt), (.bltu, 4, fun a b => a.toNat < b.toNat), (.bgeu, 5, fun a b => b.toNat ≤ a.toNat)]

/-- R84: a taken branch or jump may go to `t`: no current loop, or `t` in its body or just after it. -/
def LoopPermits (x : Ctx) (t : BitVec 32) : Prop :=
  ∀ l, currentLoop x = some l → l.start.toNat ≤ t.toNat ∧ t.toNat ≤ l.last.toNat + 4

/-- R84: the registers after a transfer to `t`: a jump to the address after the body pops the loop. -/
def afterJump (x : Ctx) (t : BitVec 32) : Ctx :=
  match currentLoop x with
  | some l => if t = l.last + 4 then { x with loops := x.loops.tail } else x
  | none => x

/-- R65: the operand fields of CTL are all zero. -/
def ctlFields : FmtA := { rd := 0, rs1 := 0, rs2 := 0, hi := 0 }

/-- BEQ BNE BLT BGE BLTU BGEU: a branch whose condition does not hold only moves on, for 2 steps. One whose condition holds, and
every JMP, sets the pc to pc + 4 times the signed displacement, for 2 steps, where the core is a management core or the
displacement is at least 1 and the current loop permits the target; a target just after the loop's body pops the loop. A
displacement below 1 on a scan core, or a target the loop does not permit, takes an ILLEGAL fault. NOP takes one step and FENCE
four, and neither does anything else. CALL pushes pc + 4 with the loop depth and jumps, and with 16 entries on the stack takes a
STACK fault. RET pops the stack into the pc; on an empty stack it takes a STACK fault, and with a loop depth above the recorded
one an ILLEGAL fault. END takes two steps and ends the cycle. -/
def Obligations.BranchesCallsAndControl : Prop :=
  ((∀ (s : State) (k c : Nat) (f : FmtB), Issues s k c 2 → ∀ r ∈ branchTable,
     let x := contextAt s c
     let t := x.pc + f.disp.signExtend 32 * 4
     (¬ r.2.2 (rget x f.rs1) (rget x f.rs2) → exec (r.1 k f) s = .next (retired s c 2 x)) ∧
     (r.2.2 (rget x f.rs1) (rget x f.rs2) → (32 ≤ k ∨ 1 ≤ f.disp.toInt) → LoopPermits x t →
       exec (r.1 k f) s = .next (jumped s c 2 (afterJump x t) t)) ∧
     (r.2.2 (rget x f.rs1) (rget x f.rs2) → ¬ ((32 ≤ k ∨ 1 ≤ f.disp.toInt) ∧ LoopPermits x t) →
       exec (r.1 k f) s = .next (faulted s k c (encB r.2.1 f) .illegal 0))) ∧
   (∀ (s : State) (k c : Nat) (f : FmtJ), Issues s k c 2 →
     let x := contextAt s c
     let t := x.pc + f.disp.signExtend 32 * 4
     ((32 ≤ k ∨ 1 ≤ f.disp.toInt) → LoopPermits x t → exec (.jmp k f) s = .next (jumped s c 2 (afterJump x t) t)) ∧
     (¬ ((32 ≤ k ∨ 1 ≤ f.disp.toInt) ∧ LoopPermits x t) → exec (.jmp k f) s = .next (faulted s k c (encJ 0x11 f) .illegal 0)))) ∧
  ((∀ (s : State) (k c : Nat), Issues s k c 1 → exec (.nop k ctlFields) s = .next (retired s c 1 (contextAt s c))) ∧
   (∀ (s : State) (k c : Nat), Issues s k c 4 → exec (.fence k ctlFields) s = .next (retired s c 4 (contextAt s c))) ∧
   (∀ (s : State) (k c : Nat) (f : FmtJ), Issues s k c 2 →
     let x := contextAt s c
     (x.calls.length < 16 → exec (.call k f) s = .next (jumped s c 2
       { x with calls := { ret := x.pc + 4, depth := x.loops.length } :: x.calls } (x.pc + f.disp.signExtend 32 * 4))) ∧
     (16 ≤ x.calls.length → exec (.call k f) s = .next (faulted s k c (encJ 0x12 f) .stack 0))) ∧
   (∀ (s : State) (k c : Nat), Issues s k c 2 →
     let x := contextAt s c
     let w := encA 0x13 1 ctlFields
     (∀ top rest, x.calls = top :: rest → x.loops.length ≤ top.depth →
       exec (.ret k ctlFields) s = .next (jumped s c 2 { x with calls := rest } top.ret)) ∧
     (∀ top rest, x.calls = top :: rest → top.depth < x.loops.length →
       exec (.ret k ctlFields) s = .next (faulted s k c w .illegal 0)) ∧
     (x.calls = [] → exec (.ret k ctlFields) s = .next (faulted s k c w .stack 0))) ∧
   (∀ (s : State) (k c : Nat), Issues s k c 2 → exec (.endCycle k ctlFields) s =
     .next (endOf (putCtx (fetched s c) c { contextAt s c with steps := (contextAt s c).steps + 2 }) c)))

/-- JT: with a count of 1 to 4,095 and an entry that lies in CODE, meets no uncorrectable error, is a multiple of 4 and leads to
a permitted target, the pc becomes the first word after the table plus the entry; the index is the smaller of unsigned w[rs1]
and count - 1. LOOP: with bound and len not zero, n is the bound or the smaller of it and unsigned w[rs]; n of 0 skips the body;
otherwise a loop entry is pushed, where there is room and the new body ends inside the current loop's. After an instruction that
does not transfer control: at the last instruction of the current loop's body the count goes down by one and one step is added;
while bodies remain the pc returns to the body's start, and after the last one the loop is popped and the pc follows the body.
Anywhere else the pc moves on by 4 and nothing is added. -/
def Obligations.TableJumpsAndLoops : Prop :=
  ((∀ (s : State) (k c : Nat) (f : FmtT), Issues s k c 4 → f.count ≠ 0 → f.lo = 0 →
     let x := contextAt s c
     let a : Nat := x.pc.toNat + 4 + 4 * min (rget x f.rs1).toNat (f.count.toNat - 1)
     let d := (BitVec.ofNat 32 (memNumber s ((suiteAt s (ctxSuite c)).winBase + a) 4)).toInt
     let t := x.pc + 4 + f.count.setWidth 32 * 4 + BitVec.ofInt 32 d
     windowAllows (suiteAt s (ctxSuite c)) .fetch a 4 = true →
     uncorrectableIn (fetched s c) ((suiteAt s (ctxSuite c)).winBase + a) 4 = none →
     d % 4 = 0 → (32 ≤ k ∨ 0 ≤ d) → LoopPermits x t →
       exec (.jt k f) s = .next (putCtx (correctErrors (fetched s c) ((suiteAt s (ctxSuite c)).winBase + a) 4) c
         { afterJump x t with pc := t, steps := x.steps + 4 })) ∧
   (∀ (s : State) (k c : Nat) (f : FmtL), Issues s k c 1 → f.bound ≠ 0 → f.len ≠ 0 →
     let x := contextAt s c
     let n := if f.rs = 0 then f.bound.toNat else min (rget x f.rs).toNat f.bound.toNat
     let e := x.pc + f.len.setWidth 32 * 4
     (n = 0 → exec (.loopN k f) s = .next (jumped s c 1 x (e + 4))) ∧
     (n ≠ 0 → x.loops.length < 4 → (∀ l, currentLoop x = some l → e.toNat < l.last.toNat) →
       exec (.loopN k f) s = .next (jumped s c 1 { x with loops := { start := x.pc + 4, last := e, left := n } :: x.loops } (x.pc + 4))))) ∧
  (∀ (x : Ctx),
     (∀ l, currentLoop x = some l → l.last = x.pc → 1 < l.left →
       advance x = { x with pc := l.start, loops := { l with left := l.left - 1 } :: x.loops.tail, steps := x.steps + 1 }) ∧
     (∀ l, currentLoop x = some l → l.last = x.pc → l.left ≤ 1 →
       advance x = { x with pc := x.pc + 4, loops := x.loops.tail, steps := x.steps + 1 }) ∧
     ((∀ l, currentLoop x = some l → l.last ≠ x.pc) → advance x = { x with pc := x.pc + 4 }))

/-! ### Special registers -/

/-- R58's table: the special registers of the context and what each reads as. -/
def specialTable (s : State) (k c : Nat) (x : Ctx) : List (Nat × Nat) :=
  let d := (taskAt s c).desc
  [(0x000, ctxSuite c), (0x001, ctxTask c), (0x002, k), (0x005, x.nowHi), (0x006, x.tsnap.ns + x.tsnap.sec % 2 ^ 32 * 2 ^ 32),
   (0x007, x.tsnap.sec / 2 ^ 32), (0x008, x.tcommit.ns + x.tcommit.sec % 2 ^ 32 * 2 ^ 32), (0x009, x.tcommit.sec / 2 ^ 32),
   (0x00A, d.period), (0x00B, x.steps), (0x00C, if 32 ≤ k then 0 else d.worst), (0x010, x.flags.toNat), (0x011, x.trap.toNat),
   (0x012, x.fmode.toNat), (0x013, x.calls.length), (0x014, x.loops.length), (0x018, (suiteAt s (ctxSuite c)).winSize),
   (0x020, x.fd[0].toNat), (0x021, x.fd[1].toNat), (0x022, x.fd[2].toNat), (0x023, x.fd[3].toNat),
   (0x030, (paceWord s (k / 4)).toNat)]

/-- A time of the machine: ns below 10^9 and 48 bits of seconds. -/
def TimeOk (t : Time80) : Prop := t.ns < giga ∧ t.sec < 2 ^ 48

/-- SRR writes rt with the special register, costs 1 step and changes nothing else; sr.cycle reads the cycles begun, and 1 for
the foundation program; sr.now reads the house time at a cost of 2 steps and latches its upper seconds in sr.nowhi. SRW writes
sr.flags, sr.trap or sr.fmode with rt, for one step, and changes nothing else; a 1 in a reserved bit, like an SRW of any other
number, takes an ILLEGAL fault. -/
def Obligations.SpecialRegisters : Prop :=
  (∀ (s : State) (k c : Nat) (f : FmtS), TimeOk (now s) → TimeOk (contextAt s c).tsnap → TimeOk (contextAt s c).tcommit →
     let x := contextAt s c
     (Issues s k c 1 → ∀ r ∈ specialTable (fetched s c) k c x, f.sr.toNat = r.1 →
       exec (.srr k f) s = .next (retired s c 1 (rset x f.rt (BitVec.ofNat 64 r.2)))) ∧
     (Issues s k c 1 → f.sr = 0x003 →
       exec (.srr k f) s = .next (retired s c 1 (rset x f.rt (BitVec.ofNat 64 (if c = 0 then 1 else x.cycle))))) ∧
     (Issues s k c 2 → f.sr = 0x004 →
       exec (.srr k f) s = .next (retired s c 2 (rset { x with nowHi := (now s).sec / 2 ^ 32 } f.rt
         (BitVec.ofNat 64 ((now s).ns + (now s).sec % 2 ^ 32 * 2 ^ 32)))))) ∧
  (∀ (s : State) (k c : Nat) (f : FmtS), Issues s k c 1 →
     let x := contextAt s c
     let v := rget x f.rt
     let ill := Host.Outcome.next (faulted s k c (encS 1 f) .illegal 0)
     (f.sr = 0x010 → exec (.srw k f) s = if v.toNat < 512 then .next (retired s c 1 { x with flags := v.setWidth 9 }) else ill) ∧
     (f.sr = 0x011 → exec (.srw k f) s = if v.toNat < 512 then .next (retired s c 1 { x with trap := v.setWidth 9 }) else ill) ∧
     (f.sr = 0x012 → exec (.srw k f) s = if v.toNat < 4 then .next (retired s c 1 { x with fmode := v.setWidth 2 }) else ill) ∧
     (f.sr ≠ 0x010 → f.sr ≠ 0x011 → f.sr ≠ 0x012 → exec (.srw k f) s = ill))

/-! ### Q15 and floating point -/

/-- R71: clamped to `n` bits; the condition `q` when it was outside. -/
def clampTo (n : Nat) (q : BitVec 9) (v : Int) : Int × BitVec 9 :=
  if v < -(2 ^ (n - 1) : Nat) then (-(2 ^ (n - 1) : Nat), q)
  else if ((2 ^ (n - 1) : Nat) : Int) ≤ v then ((2 ^ (n - 1) : Nat) - 1, q) else (v, 0)

/-- R71: half added, then an arithmetic shift right by 15. -/
def roundHalfUp (v : Int) : Int := (v + 0x4000).fdiv 0x8000

/-- A Q15 operand: the low 16 bits of a register, signed. -/
def q15Operand (x : Ctx) (r : BitVec 5) : Int := ((rget x r).setWidth 16).toInt

/-- R71, R72's table: the operations that write the accumulator: the instruction, its fn, the fields that must be zero, and the new A from A,
p and w[rs1]. AS is bit 3. -/
def accTable : List ((Nat → FmtQ → Instr) × Nat × (FmtQ → Bool) × (FmtQ → Int → Int → BitVec 64 → Int × BitVec 9)) :=
  [(.qmul, 0, fun f => f.rd == 0, fun _ _ p _ => (p, 0)),
   (.mac, 1, fun f => f.rd == 0, fun _ a p _ => clampTo 40 0x008 (a + p)),
   (.msu, 2, fun f => f.rd == 0, fun _ a p _ => clampTo 40 0x008 (a - p)),
   (.aclr, 3, fun f => f.rd == 0 && f.rs1 == 0 && f.rs2 == 0, fun _ _ _ _ => (0, 0)),
   (.ald, 4, fun f => f.rd == 0 && f.rs2 == 0, fun _ _ _ v => clampTo 40 0x008 v.toInt),
   (.ash, 7, fun f => f.rd == 0 && f.rs1 == 0, fun f a _ _ =>
     if 0 ≤ f.rs2.toInt then clampTo 40 0x008 (a * 2 ^ f.rs2.toInt.toNat) else (a.fdiv (2 ^ (-f.rs2.toInt).toNat), 0))]

/-- R71, R72's table: the operations that write rd, from A and the Q15 operands. QS is bit 2. -/
def qRegTable : List ((Nat → FmtQ → Instr) × Nat × (FmtQ → Bool) × (Int → Int → Int → Int × BitVec 9)) :=
  [(.amov, 5, fun f => f.rs1 == 0 && f.rs2 == 0, fun a _ _ => (a, 0)),
   (.arnd, 6, fun f => f.rs1 == 0 && f.rs2 == 0, fun a _ _ => clampTo 16 0x004 (roundHalfUp a)),
   (.qadd, 8, fun f => f.acc == 0, fun _ b c => clampTo 16 0x004 (b + c)),
   (.qsub, 9, fun f => f.acc == 0, fun _ b c => clampTo 16 0x004 (b - c)),
   (.qmulr, 10, fun f => f.acc == 0, fun _ b c => clampTo 16 0x004 (roundHalfUp (b * c))),
   (.qneg, 11, fun f => f.acc == 0 && f.rs2 == 0, fun _ b _ => clampTo 16 0x004 (-b)),
   (.qabs, 12, fun f => f.acc == 0 && f.rs2 == 0, fun _ b _ => clampTo 16 0x004 b.natAbs)]

/-- QMUL MAC MSU ACLR ALD ASH write the accumulator and AMOV ARND QADD QSUB QMULR QNEG QABS write rd, sign-extended, with the
values and the conditions AS and QS of the table, where the fields an operation does not use are zero. A trapped condition takes
the ARITH fault and nothing else; otherwise the flags are set, one step passes and nothing else changes. A field that must be
zero and is not takes an ILLEGAL fault. -/
def Obligations.FractionOperations : Prop :=
  ∀ (s : State) (k c : Nat) (f : FmtQ), Issues s k c 1 →
    let x := contextAt s c
    let a := x.a[f.acc.toNat].toInt
    let b := q15Operand x f.rs1
    let d := q15Operand x f.rs2
    (∀ r ∈ accTable, r.2.2.1 f = true → exec (r.1 k f) s = .next (arithEnd s k c 1 (encQ r.2.1 f) (r.2.2.2 f a (b * d) (rget x f.rs1)).2
      { x with a := x.a.set f.acc.toNat (BitVec.ofInt 40 (r.2.2.2 f a (b * d) (rget x f.rs1)).1) })) ∧
    (∀ r ∈ qRegTable, r.2.2.1 f = true → exec (r.1 k f) s = .next (arithEnd s k c 1 (encQ r.2.1 f) (r.2.2.2 a b d).2
      (rset x f.rd (BitVec.ofInt 64 (r.2.2.2 a b d).1)))) ∧
    (∀ r ∈ accTable, r.2.2.1 f = false → exec (r.1 k f) s = .next (faulted s k c (encQ r.2.1 f) .illegal 0)) ∧
    (∀ r ∈ qRegTable, r.2.2.1 f = false → exec (r.1 k f) s = .next (faulted s k c (encQ r.2.1 f) .illegal 0))

/-- The bits of an operand of a FOP instruction: fn[9] selects binary64, else the low 32 bits of the register. -/
def floatBits (f : FmtA) (x : Ctx) (r : BitVec 5) : Nat := if f.hi.getLsbD 1 then (rget x r).toNat else (rget x r).toNat % 2 ^ 32

/-- A FOP operation from the formats, the mode and the operands rs1, rs2 and rd, none of them a NaN. -/
abbrev FloatOp := FFmt → BitVec 2 → FVal → FVal → FVal → Nat × BitVec 9

/-- R74's table: the arithmetic instructions, their fn, steps in binary32 and binary64, the operands they take, and the operation. -/
def floatTable : List ((Nat → FmtA → Instr) × Nat × Nat × Nat × List Nat × FloatOp) :=
  [(.fadd, 0, 1, 2, [1, 2], fun t m a b _ => addVal t m a b), (.fsub, 1, 1, 2, [1, 2], fun t m a b _ => addVal t m a (negVal b)),
   (.fmul, 2, 1, 3, [1, 2], fun t m a b _ => mulVal t m a b), (.fdiv, 3, 20, 20, [1, 2], fun t m a b _ => divVal t m a b),
   (.fsqrt, 4, 24, 28, [1], fun t m a _ _ => sqrtVal t m a), (.fma, 5, 2, 4, [1, 2, 3], fun t m a b d => fmaVal t m d a b)]

/-- The steps of a FOP instruction. -/
def floatCost (f : FmtA) (c32 c64 : Nat) : Nat := if f.hi.getLsbD 1 then c64 else c32

/-- With no NaN operand the result is the table's operation on the numbers in the mode of sr.fmode, and with one it is the first
NaN operand in the order rs1, rs2, rd with its quiet bit set, FI being raised for a signalling NaN, and for an FMA of zero times
infinity as the free value Config.fmaQuietInvalid says. Where no raised condition is trapped, rd and the flags are written and
nothing else but the pc and the loop stack changes; where one is trapped, the ARITH fault is taken. -/
def Obligations.FloatArithmetic : Prop :=
  ∀ (s : State) (k c : Nat) (f : FmtA) (r : (Nat → FmtA → Instr) × Nat × Nat × Nat × List Nat × FloatOp), r ∈ floatTable →
    f.hi.getLsbD 0 = false → Issues s k c (floatCost f r.2.2.1 r.2.2.2.1) → (2 ∈ r.2.2.2.2.1 ∨ f.rs2 = 0) →
    let x := contextAt s c
    let t := if f.hi.getLsbD 1 then fmt64 else fmt32
    let v := fun i : Nat => floatBits f x (if i = 1 then f.rs1 else if i = 2 then f.rs2 else f.rd)
    let n := fun i : Nat => unpackF t (v i)
    let fi : BitVec 9 := if r.2.2.2.2.1.any (fun j => isSignalling (n j)) || (zeroTimesInf (n 1) (n 2) && Config.fmaQuietInvalid) then 0x010 else 0
    ∀ q : Nat × BitVec 9,
      ((∀ i ∈ r.2.2.2.2.1, isNan (n i) = false) ∧ q = r.2.2.2.2.2 t x.fmode (n 1) (n 2) (n 3) ∨
       (∃ i ∈ r.2.2.2.2.1, isNan (n i) = true ∧ (∀ j ∈ r.2.2.2.2.1, j < i → isNan (n j) = false) ∧ q = (v i ||| t.quiet, fi))) →
      (q.2 &&& x.trap = 0 → exec (r.1 k f) s = .next (retired s c (floatCost f r.2.2.1 r.2.2.2.1)
        { rset x f.rd (BitVec.ofNat 64 q.1) with flags := x.flags ||| q.2 })) ∧
      (q.2 &&& x.trap ≠ 0 → exec (r.1 k f) s = .next (faulted s k c (encA 0x1C r.2.1 f) .arith (q.2.setWidth 64)))

/-- A finite number of a format, of either sign: mant × 2^ex with ex from the subnormal quantum to the largest. -/
def Represents (t : FFmt) (y : ℚ) : Prop :=
  ∃ (mant : ℕ) (ex : ℤ), mant < 2 ^ (t.frac + 1) ∧ 1 - (t.bias : ℤ) - t.frac ≤ ex ∧ ex ≤ (t.bias : ℤ) - t.frac ∧
    (y = mant * (2 : ℚ) ^ ex ∨ y = -(mant * (2 : ℚ) ^ ex))

/-- The exact signed value m × 2^e. -/
def exactValue (neg : Bool) (m : ℕ) (e : ℤ) : ℚ := if neg then -((m : ℚ) * (2 : ℚ) ^ e) else (m : ℚ) * (2 : ℚ) ^ e

/-- R58: the number r of a format is v rounded in a mode. -/
def RoundedTo (t : FFmt) (rm : BitVec 2) (v r : ℚ) : Prop :=
  if rm = 0 then ∀ y, Represents t y → |r - v| ≤ |y - v|
  else if rm = 1 then v ≤ r ∧ ∀ y, Represents t y → v ≤ y → r ≤ y
  else if rm = 2 then r ≤ v ∧ ∀ y, Represents t y → y ≤ v → y ≤ r
  else |r| ≤ |v| ∧ ∀ y, Represents t y → 0 ≤ y * v → |y| ≤ |v| → |y| ≤ |r|

/-- For a nonzero exact value in binary32 or binary64 and any rounding mode, where no overflow is raised the result is a finite
number of the format with the value's sign that is the value rounded in the mode (a tie in mode 0 gives an even significand); FX
is raised exactly where the result differs from the value, and FU exactly where it does and the value lies below the smallest
normal number. A value within the largest finite number raises no overflow; one of at least 2 to the power bias + 1 raises FO
and FX. -/
def Obligations.RoundingIsCorrect : Prop :=
  ∀ t ∈ [fmt32, fmt64], ∀ (rm : BitVec 2) (neg : Bool) (m : ℕ) (e : ℤ), m ≠ 0 →
    let q := roundF t rm neg m e
    let v := exactValue neg m e
    (q.2.getLsbD 6 = false → ∃ (m' : ℕ) (e' : ℤ), unpackF t q.1 = .fin neg m' e' ∧ Represents t (exactValue neg m' e') ∧
      RoundedTo t rm v (exactValue neg m' e') ∧
      (rm = 0 → (∃ y, Represents t y ∧ y ≠ exactValue neg m' e' ∧ |y - v| = |exactValue neg m' e' - v|) → q.1 % 2 = 0) ∧
      (q.2.getLsbD 8 = true ↔ exactValue neg m' e' ≠ v) ∧
      (q.2.getLsbD 7 = true ↔ exactValue neg m' e' ≠ v ∧ |v| < (2 : ℚ) ^ (1 - (t.bias : ℤ)))) ∧
    (|v| ≤ (2 ^ (t.frac + 1) - 1) * (2 : ℚ) ^ ((t.bias : ℤ) - t.frac) → q.2.getLsbD 6 = false) ∧
    ((2 : ℚ) ^ ((t.bias : ℤ) + 1) ≤ |v| → q.2.getLsbD 6 = true ∧ q.2.getLsbD 8 = true)

/-- The order of two numbers that are not NaN. -/
def floatOrder (a b : FVal) : Int := orderVal a b

/-- Infinity minus infinity, zero times infinity, zero over zero, infinity over infinity and the root of a negative number give
the default NaN and raise FI; a nonzero finite number over zero gives the signed infinity and raises FZ; the root of a signed
zero is that zero; an exact zero sum of opposite signs is +0, and -0 when rounding toward minus infinity. FNEG and FABS change
only the sign and raise nothing. FCMP and FCMPS give -1, 0, +1 or 2, and raise FI for a signalling NaN or for any NaN. FMIN and
FMAX give the smaller and the larger, -0 counting as less than +0, and for a NaN operand the first with its quiet bit set; FMINN
and FMAXN give the number where one operand is a NaN. FKIND gives the kind and the sign. Each takes 1 step: where what it raises
is not trapped, it writes rd and the flags and nothing else but the pc and the loop stack; where it is, it takes the ARITH
fault. -/
def Obligations.FloatSignsAndCases : Prop :=
  (∀ t ∈ [fmt32, fmt64], ∀ (rm : BitVec 2) (p n : Bool) (m : Nat) (e e' : Int),
     let nan : Nat × BitVec 9 := (if t.frac = 23 then 0x7FFFFFFF else 0x7FFFFFFFFFFFFFFF, 0x010)
     addVal t rm (.inf p) (.inf (!p)) = nan ∧ mulVal t rm (.inf p) (.fin n 0 e) = nan ∧ mulVal t rm (.fin n 0 e) (.inf p) = nan ∧
     divVal t rm (.fin p 0 e) (.fin n 0 e') = nan ∧ divVal t rm (.inf p) (.inf n) = nan ∧ sqrtVal t rm (.inf true) = nan ∧
     (m ≠ 0 → sqrtVal t rm (.fin true m e) = nan) ∧
     (m ≠ 0 → divVal t rm (.fin p m e) (.fin n 0 e') = (infBits t (p != n), 0x020)) ∧
     sqrtVal t rm (.fin n 0 e) = (if n then t.signBit else 0, 0) ∧
     (m ≠ 0 → addVal t rm (.fin p m e) (.fin (!p) m e) = (if rm = 2 then t.signBit else 0, 0)) ∧
     addVal t rm (.inf p) (.fin n m e) = (infBits t p, 0) ∧ divVal t rm (.fin p m e) (.inf n) = (if p != n then t.signBit else 0, 0)) ∧
  (∀ (s : State) (k c : Nat) (f : FmtA), f.hi.getLsbD 0 = false → Issues s k c 1 →
     let x := contextAt s c
     let t := if f.hi.getLsbD 1 then fmt64 else fmt32
     let a := floatBits f x f.rs1
     let b := floatBits f x f.rs2
     let va := unpackF t a
     let vb := unpackF t b
     let sig : Bool := isSignalling va || isSignalling vb
     let less := floatOrder va vb = -1 ∨ floatOrder va vb = 0 ∧ t.signBit ≤ a ∧ b < t.signBit
     let fin := fun (i : Nat → FmtA → Instr) (fn : Nat) (v : BitVec 64) (q : BitVec 9) =>
       (q &&& x.trap = 0 → exec (i k f) s = .next (retired s c 1 { rset x f.rd v with flags := x.flags ||| q })) ∧
       (q &&& x.trap ≠ 0 → exec (i k f) s = .next (faulted s k c (encA 0x1C fn f) .arith (q.setWidth 64)))
     let fi : BitVec 9 := if sig then 0x010 else 0
     (f.rs2 = 0 → fin .fneg 8 (BitVec.ofNat 64 (if a < t.signBit then a + t.signBit else a - t.signBit)) 0) ∧
     (f.rs2 = 0 → fin .fabs 9 (BitVec.ofNat 64 (if a < t.signBit then a else a - t.signBit)) 0) ∧
     (isNan va = false → isNan vb = false → fin .fcmp 0xA (BitVec.ofInt 64 (floatOrder va vb)) 0 ∧
       fin .fcmps 0xB (BitVec.ofInt 64 (floatOrder va vb)) 0 ∧
       (less → fin .fmin 6 (BitVec.ofNat 64 a) 0 ∧ fin .fminn 0xE (BitVec.ofNat 64 a) 0 ∧
         fin .fmax 7 (BitVec.ofNat 64 b) 0 ∧ fin .fmaxn 0xF (BitVec.ofNat 64 b) 0) ∧
       (¬ less → fin .fmin 6 (BitVec.ofNat 64 b) 0 ∧ fin .fminn 0xE (BitVec.ofNat 64 b) 0 ∧
         fin .fmax 7 (BitVec.ofNat 64 a) 0 ∧ fin .fmaxn 0xF (BitVec.ofNat 64 a) 0)) ∧
     (isNan va = true ∨ isNan vb = true → fin .fcmp 0xA 2 fi ∧ fin .fcmps 0xB 2 0x010 ∧
       fin .fmin 6 (BitVec.ofNat 64 ((if isNan va then a else b) ||| t.quiet)) fi ∧
       fin .fmax 7 (BitVec.ofNat 64 ((if isNan va then a else b) ||| t.quiet)) fi) ∧
     (isNan va = true → isNan vb = false → fin .fminn 0xE (BitVec.ofNat 64 b) fi ∧ fin .fmaxn 0xF (BitVec.ofNat 64 b) fi) ∧
     (isNan va = false → isNan vb = true → fin .fminn 0xE (BitVec.ofNat 64 a) fi ∧ fin .fmaxn 0xF (BitVec.ofNat 64 a) fi) ∧
     (isNan va = true → isNan vb = true → fin .fminn 0xE (BitVec.ofNat 64 (a ||| t.quiet)) fi ∧ fin .fmaxn 0xF (BitVec.ofNat 64 (a ||| t.quiet)) fi) ∧
     (f.rs2 = 0 → fin .fkind 0xC (BitVec.ofNat 64 ((match va with
       | .fin _ m _ => if m = 0 then 0 else if m < 2 ^ t.frac then 1 else 2
       | .inf _ => 3
       | .nan _ g => if g then 5 else 4) + (if t.signBit ≤ a then 8 else 0))) 0))

/-- FCVTF rounds the signed integer rs1; FCVTP rounds a number of the other precision; QTOF converts Q15 rs1 exactly and raises
nothing. FCVTI and FTOQ round by sr.fmode to an integer, saturating with FI for FCVTI and with QS for FTOQ, and give 0 with FI
for a NaN. FCVTP of a NaN keeps its sign and leading payload bits, sets the quiet bit (assumption 22) and raises FI for a
signalling one. FCVTF, FCVTI, FCVTP and FTOQ take 2 steps and QTOF 1. Where what is raised is not trapped, rd and the flags are
written and nothing else but the pc and the loop stack changes; where it is, the ARITH fault is taken. -/
def Obligations.FloatConversions : Prop :=
  ∀ (s : State) (k c : Nat) (f : FmtA), f.hi.getLsbD 0 = false → f.rs2 = 0 →
    let x := contextAt s c
    let t := if f.hi.getLsbD 1 then fmt64 else fmt32
    let o := if f.hi.getLsbD 1 then fmt32 else fmt64
    let a := unpackF t (floatBits f x f.rs1)
    let fin := fun (i : Nat → FmtA → Instr) (cost fn : Nat) (v : BitVec 64) (q : BitVec 9) =>
      (q &&& x.trap = 0 → exec (i k f) s = .next (retired s c cost { rset x f.rd v with flags := x.flags ||| q })) ∧
      (q &&& x.trap ≠ 0 → exec (i k f) s = .next (faulted s k c (encA 0x1C fn f) .arith (q.setWidth 64)))
    (Issues s k c 2 →
      (let v := (rget x f.rs1).toInt
       let q := roundF t x.fmode (decide (v < 0)) v.natAbs 0
       fin .fcvtf 2 0x10 (BitVec.ofNat 64 q.1) q.2) ∧
      (∀ n m e, unpackF o ((rget x f.rs1).toNat % (2 * o.signBit)) = .fin n m e →
        fin .fcvtp 2 0x12 (BitVec.ofNat 64 (roundF t x.fmode n m e).1) (roundF t x.fmode n m e).2) ∧
      (∀ n, unpackF o ((rget x f.rs1).toNat % (2 * o.signBit)) = .inf n → fin .fcvtp 2 0x12 (BitVec.ofNat 64 (infBits t n)) 0) ∧
      (∀ b g, unpackF o ((rget x f.rs1).toNat % (2 * o.signBit)) = .nan b g →
        fin .fcvtp 2 0x12 (BitVec.ofNat 64 (convertNan o t b)) (if g then 0x010 else 0)) ∧
      (∀ b g, a = .nan b g → fin .fcvti 2 0x11 0 0x010 ∧ fin .ftoq 2 0x13 0 0x010) ∧
      (∀ n, a = .inf n → fin .fcvti 2 0x11 (if n then BitVec.intMin 64 else BitVec.intMax 64) 0x010 ∧
        fin .ftoq 2 0x13 (if n then -0x8000 else 0x7FFF) 0x004) ∧
      (∀ n m e, a = .fin n m e →
        (let i : Int := if n then -((roundAt x.fmode n m e 0).1 : Int) else (roundAt x.fmode n m e 0).1
         (-(2 ^ 63 : Nat) ≤ i → i < (2 ^ 63 : Nat) →
           fin .fcvti 2 0x11 (BitVec.ofInt 64 i) (if (roundAt x.fmode n m e 0).2 then 0x100 else 0)) ∧
         (i < -(2 ^ 63 : Nat) → fin .fcvti 2 0x11 (BitVec.intMin 64) 0x010) ∧
         ((2 ^ 63 : Nat) ≤ i → fin .fcvti 2 0x11 (BitVec.intMax 64) 0x010)) ∧
        (let r := roundAt x.fmode n m (e + 15) 0
         let q := clampTo 16 0x004 (if n then -(r.1 : Int) else r.1)
         fin .ftoq 2 0x13 (BitVec.ofInt 64 q.1) (q.2 ||| if r.2 then 0x100 else 0)))) ∧
    (Issues s k c 1 → ∃ b : Nat, fin .qtof 1 0x14 (BitVec.ofNat 64 b) 0 ∧
      ∃ n m e, unpackF t b = .fin n m e ∧ exactValue n m e * 2 ^ 15 = (q15Operand x f.rs1 : ℚ) ∧ (q15Operand x f.rs1 = 0 → b = 0))

/-! ### Device instructions -/

/-- R94: a result word: the status byte, COUNT and INFO. -/
def resultWord (byte count info : Nat) : BitVec 64 := BitVec.ofNat 64 (byte + count % 2 ^ 16 * 2 ^ 16 + info * 2 ^ 32)

/-- The instruction completes with a result word in rd, the registers being otherwise `x`, and changes nothing else. -/
def answered (s : State) (c cost : Nat) (x : Ctx) (rd : BitVec 5) (byte count info : Nat) : State :=
  retired s c cost (rset x rd (resultWord byte count info))

/-- From `s` to `t` only task `c` changes, and it becomes `g` of what it was. -/
def OnlyTask (s t : State) (c : Nat) (g : Task → Task) : Prop :=
  t = { s with tasks := t.tasks } ∧ taskAt t c = g (taskAt s c) ∧ ∀ d, d ≠ c → taskAt t d = taskAt s d

/-- The registers `x` after an instruction of `cost` steps that does not transfer control. -/
def movedOn (x : Ctx) (cost : Nat) : Ctx := advance { x with steps := x.steps + cost }

/-- R105: the element of a point instruction. -/
def elementOf (f : FmtI) (x : Ctx) : Nat := (rget x f.rs1 + f.imm.signExtend 64).toNat

/-- R105: the point instructions: the command, its fn, whether it names the upper seconds and whether it reads. -/
def pointTable : List ((Nat → FmtI → Instr) × Nat × Bool × Bool) :=
  [(.prd, 0, false, true), (.prdh, 1, true, true), (.pwr, 2, false, false), (.pwrh, 3, true, false)]

/-- PRD gives the snapshot value of a listed and readable element in its canonical form, and PRDH the upper seconds of a TIME80
point. PWR stages w[rd], canonical for the type, as the new value of a listed point of the suite's own, and PWRH its upper
seconds: the last value staged stands. Each takes 2 steps; nothing but rd, or the staged values of the cycle, changes. An
element above 0x3FFF, and a half of a point of another type, take a DEVICE fault of reason RANGE; an element that is not listed,
not readable or not the suite's own takes one of reason BINDING, counted as a failed check of the suite. -/
def Obligations.PointInstructions : Prop :=
  ∀ (s : State) (k c : Nat) (f : FmtI), Issues s k c 2 →
    let x := contextAt s c
    let e := elementOf f x
    let d := (taskAt s c).desc
    let cfg := pointCfg s e
    (e < 0x4000 → e ∈ d.inList → mayRead s (ctxSuite c) e = true →
      exec (.prd k f) s = .next (retired s c 2 (rset x f.rd (canonValue cfg.type (tget { v := 0 } (taskAt s c).snapshot e).v))) ∧
      (cfg.type = tyTime80 →
        exec (.prdh k f) s = .next (retired s c 2 (rset x f.rd ((tget { v := 0 } (taskAt s c).snapshot e).hi.setWidth 64))))) ∧
    (e < 0x4000 → e ∈ d.outList → cfg.owner = ctxSuite c →
      (∃ t, exec (.pwr k f) s = .next t ∧ OnlyTask (fetched s c) t c (fun τ => { τ with
        ctx := movedOn x 2
        cycle := τ.cycle.map (fun y => { y with staged := { y.staged with
          points := tput y.staged.points e { v := canonValue cfg.type (rget x f.rd) } } }) })) ∧
      (cfg.type = tyTime80 → ∃ t, exec (.pwrh k f) s = .next t ∧ OnlyTask (fetched s c) t c (fun τ => { τ with
        ctx := movedOn x 2
        cycle := τ.cycle.map (fun y => { y with staged := { y.staged with
          highs := tput y.staged.highs e ((rget x f.rd).setWidth 16) } }) }))) ∧
    (∀ r ∈ pointTable, let l := if r.2.2.2 then d.inList else d.outList
      let rights := if r.2.2.2 then mayRead s (ctxSuite c) e = true else cfg.owner = ctxSuite c
      (0x4000 ≤ e ∨ e ∈ l ∧ rights ∧ r.2.2.1 = true ∧ cfg.type ≠ tyTime80 →
        exec (r.1 k f) s = .next (takeFault (fetched s c) c k .device .range 0 (encI 0x41 r.2.1 f))) ∧
      (e < 0x4000 → ¬ (e ∈ l ∧ rights) → exec (r.1 k f) s =
        .next (takeFault (countThreshold (fetched s c) (ctxSuite c)) c k .device .binding 0 (encI 0x41 r.2.1 f))))

/-- BOOL holds 1 for a nonzero source and else 0; INT32 and Q15 hold the low 32 and 16 bits sign-extended, UINT32 and REAL32 the
low 32 bits zero-extended; REAL64, ENERGY64 and TIME80 all 64 bits; and a value in its form stays as it is. -/
def Obligations.PointValuesAreCanonical : Prop :=
  ∀ v : BitVec 64, canonValue tyBool v = (if v = 0 then 0 else 1) ∧ canonValue tyInt32 v = (v.setWidth 32).signExtend 64 ∧
    canonValue tyQ15 v = (v.setWidth 16).signExtend 64 ∧ canonValue tyUint32 v = (v.setWidth 32).setWidth 64 ∧
    canonValue tyReal32 v = (v.setWidth 32).setWidth 64 ∧ canonValue tyReal64 v = v ∧ canonValue tyEnergy64 v = v ∧
    canonValue tyTime80 v = v ∧ ∀ ty, canonValue ty (canonValue ty v) = canonValue ty v

/-- QOPEN on a bound queue with a credit in hand opens the packet, spends the credit and answers the credits left; without a
credit its producer is marked as waiting and it answers DELAYED(CREDIT), or with fn[8], on M0 and M1, has not completed; with a
packet open it answers REFUSED(STATE). QPW and QPB append 8 or w[rs2] bytes within the item maximum; QMARK and QRWND set and
return to the mark; QREL stages a packet that is not empty, and enters the foundation program's at once; QDROP returns its
credit. Each answers DONE, with the table's steps. -/
def Obligations.PacketInstructions : Prop :=
  ∀ (s : State) (k c : Nat) (f : FmtA),
    let x := contextAt s c
    let n := (rget x f.rs1).toNat
    let q := (taskAt s c).desc.putQ.getD n 0
    let who := Producer.task c n
    (Issues s k c 12 → f.hi = 0 ∨ f.hi = 1 ∧ 32 ≤ k → n < 16 → q ≠ 0 → (rget x f.rs2).toNat < 8 → mayPut s (ctxSuite c) q = true → (queueAt s q).qfault = false →
      (x.packet ≠ none → exec (.qopen k f) s = .next (answered s c 12 x f.rd 0x4C 0 0)) ∧
      (x.packet = none → creditsInHand (queueAt s q) who = 0 →
        exec (.qopen k f) s = .next (if f.hi = 0 then
          putCtx (markWaiting (fetched s c) q who) c (movedOn (rset x f.rd (resultWord 0x21 0 0)) 12)
          else markWaiting (fetched s c) q who)) ∧
      (x.packet = none → creditsInHand (queueAt s q) who ≠ 0 →
        exec (.qopen k f) s = .next (putCtx (setQueue (fetched s c) q (fun u => spendCredit u who)) c
          (movedOn (rset { x with packet := some { binding := n, queue := q, prio := (rget x f.rs2).toNat
                                                   credit := creditOf (queueAt s q) who } } f.rd
            (resultWord 0 (creditsInHand (queueAt s q) who - 1) 0)) 12)))) ∧
    (f.hi = 0 → ∀ p, x.packet = some p →
      (Issues s k c 8 → f.rs2 = 0 → p.data.length + 8 ≤ (queueAt s p.queue).itemMax →
        exec (.qpw k f) s = .next (answered s c 8
          { x with packet := some { p with data := p.data ++ bytesOf 8 (rget x f.rs1).toNat } } f.rd 0 0 0)) ∧
      (Issues s k c 24 → 1 ≤ (rget x f.rs2).toNat → (rget x f.rs2).toNat ≤ 64 →
        windowAllows (suiteAt s (ctxSuite c)) .load n (rget x f.rs2).toNat = true →
        uncorrectableIn (fetched s c) (sramAddr s c (rget x f.rs1)) (rget x f.rs2).toNat = none →
        p.data.length + (rget x f.rs2).toNat ≤ (queueAt s p.queue).itemMax →
        exec (.qpb k f) s = .next (putCtx (correctErrors (fetched s c) (sramAddr s c (rget x f.rs1)) (rget x f.rs2).toNat) c
          (movedOn (rset { x with packet := some { p with
            data := p.data ++ readBytes s.sram (sramAddr s c (rget x f.rs1)) (rget x f.rs2).toNat } } f.rd (resultWord 0 0 0)) 24))) ∧
      (Issues s k c 8 → f.rs1 = 0 → f.rs2 = 0 →
        exec (.qmark k f) s = .next (answered s c 8 { x with packet := some { p with mark := some p.data.length } } f.rd 0 0 0) ∧
        exec (.qrwnd k f) s = .next (answered s c 8 { x with packet := some { p with data := p.data.take (p.mark.getD 0) } } f.rd 0 0 0) ∧
        exec (.qdrop k f) s = .next (putCtx (setQueue (fetched s c) p.queue (fun u =>
          returnCredit u p.credit (reservationEnd s (.task c p.binding)))) c
          (movedOn (rset { x with packet := none } f.rd (resultWord 0 0 0)) 8))) ∧
      (Issues s k c 16 → f.rs1 = 0 → f.rs2 = 0 → (queueAt s p.queue).qfault = false → p.data ≠ [] →
        let r : Released := { binding := p.binding, queue := p.queue, prio := p.prio, credit := p.credit, data := p.data }
        let y := movedOn (rset { x with packet := none } f.rd (resultWord 0 0 0)) 16
        (c = 0 → exec (.qrel k f) s = .next (putCtx (enterItem (fetched s c) p.queue (packetItem c r)) c y)) ∧
        (c ≠ 0 → ∃ t, exec (.qrel k f) s = .next t ∧ OnlyTask (fetched s c) t c (fun τ => { τ with
          ctx := y
          cycle := τ.cycle.map (fun y => { y with staged := { y.staged with packets := y.staged.packets ++ [r] } }) }))))

/-- Without an open packet QPW QMARK QRWND QREL QDROP and a QPB that may read answer REFUSED(STATE), and an append beyond the
item maximum or a release of length 0 answers REFUSED(SIZE); the packet stays as it was. A put binding that is out of range or
unbound, a priority above 7 or a length outside 1 to 64, and, with the other conditions met, a queue in QFAULT that QOPEN or
QREL names take DEVICE faults. -/
def Obligations.PacketRefusals : Prop :=
  ∀ (s : State) (k c : Nat) (f : FmtA), f.hi = 0 →
    let x := contextAt s c
    let n := (rget x f.rs1).toNat
    let m := (rget x f.rs2).toNat
    (x.packet = none →
      (Issues s k c 8 → f.rs2 = 0 → exec (.qpw k f) s = .next (answered s c 8 x f.rd 0x4C 0 0)) ∧
      (f.rs1 = 0 → f.rs2 = 0 →
        (Issues s k c 8 → exec (.qmark k f) s = .next (answered s c 8 x f.rd 0x4C 0 0) ∧
          exec (.qrwnd k f) s = .next (answered s c 8 x f.rd 0x4C 0 0) ∧ exec (.qdrop k f) s = .next (answered s c 8 x f.rd 0x4C 0 0)) ∧
        (Issues s k c 16 → exec (.qrel k f) s = .next (answered s c 16 x f.rd 0x4C 0 0)))) ∧
    (Issues s k c 24 → 1 ≤ m → m ≤ 64 → windowAllows (suiteAt s (ctxSuite c)) .load n m = true →
      uncorrectableIn (fetched s c) (sramAddr s c (rget x f.rs1)) m = none →
      let r := correctErrors (fetched s c) (sramAddr s c (rget x f.rs1)) m
      (x.packet = none → exec (.qpb k f) s = .next (putCtx r c (movedOn (rset x f.rd (resultWord 0x4C 0 0)) 24))) ∧
      (∀ p, x.packet = some p → (queueAt s p.queue).itemMax < p.data.length + m →
        exec (.qpb k f) s = .next (putCtx r c (movedOn (rset x f.rd (resultWord 0x52 0 0)) 24)))) ∧
    (∀ p, x.packet = some p →
      (Issues s k c 8 → f.rs2 = 0 → (queueAt s p.queue).itemMax < p.data.length + 8 →
        exec (.qpw k f) s = .next (answered s c 8 x f.rd 0x52 0 0)) ∧
      (Issues s k c 16 → f.rs1 = 0 → f.rs2 = 0 → (queueAt s p.queue).qfault = false → p.data = [] →
        exec (.qrel k f) s = .next (answered s c 16 x f.rd 0x52 0 0)) ∧
      (Issues s k c 16 → f.rs1 = 0 → f.rs2 = 0 → (queueAt s p.queue).qfault = true →
        exec (.qrel k f) s = .next (takeFault (fetched s c) c k .device .error 0 (encA 0x42 5 f)))) ∧
    (Issues s k c 12 → n < 16 → (taskAt s c).desc.putQ.getD n 0 ≠ 0 → (rget x f.rs2).toNat < 8 →
      mayPut s (ctxSuite c) ((taskAt s c).desc.putQ.getD n 0) = true → (queueAt s ((taskAt s c).desc.putQ.getD n 0)).qfault = true →
      exec (.qopen k f) s = .next (takeFault (fetched s c) c k .device .error 0 (encA 0x42 0 f))) ∧
    (Issues s k c 12 → (16 ≤ n ∨ (taskAt s c).desc.putQ.getD n 0 = 0) → exec (.qopen k f) s =
      .next (takeFault (fetched s c) c k .device .binding 0 (encA 0x42 0 f))) ∧
    (Issues s k c 12 → n < 16 → (taskAt s c).desc.putQ.getD n 0 ≠ 0 → 8 ≤ (rget x f.rs2).toNat → exec (.qopen k f) s =
      .next (takeFault (fetched s c) c k .device .range 0 (encA 0x42 0 f))) ∧
    (Issues s k c 24 → ((rget x f.rs2).toNat = 0 ∨ 64 < (rget x f.rs2).toNat) → exec (.qpb k f) s =
      .next (takeFault (fetched s c) c k .device .range 0 (encA 0x42 2 f)))

/-- R127: the state in which a QTAKE finds its items: the foundation program's exhausted take cache is delivered afresh. -/
def takingState (s : State) (c b : Nat) : State :=
  if c = 0 ∧ (takeAt (taskAt s c) b).next = [] then deliver (fetched s c) c b else fetched s c

/-- On a bound take binding: QTAKE makes the next delivered item current and answers its length with PRIO, REPEAT, LAST and
SRC_SUITE, or COUNT 0 with no item left; an item with a poison tag answers POISONED(NONE) and one with a parity error
POISONED(ERROR). QRD gives 8 payload bytes of the current item, bytes beyond its length reading zero, and 0 without one. QACK
stages the acknowledgement of a current item once, and the foundation program's acts at once; again it answers REFUSED(STATE). A
queue in QFAULT, an unbound binding and one that is out of range take DEVICE faults, an offset that is no multiple of 8 an ALIGN
fault. -/
def Obligations.TakeInstructions : Prop :=
  ∀ (s : State) (k c : Nat) (f : FmtA), f.hi = 0 →
    let x := contextAt s c
    let b := (rget x f.rs1).toNat
    let q := (taskAt s c).desc.takeQ.getD b 0
    let cache := takeAt (taskAt s c) b
    let fault := fun (r : Reason) (fn : Nat) => Host.Outcome.next (takeFault (fetched s c) c k .device r 0 (encA 0x42 fn f))
    (b < 8 → q ≠ 0 →
      (Issues s k c 12 → f.rs2 = 0 → ctxMayTake s c q = true → (queueAt s q).qfault = false →
        (let r := takingState s c b
         ((takeAt (taskAt r c) b).next = [] → exec (.qtake k f) s =
           .next (putCtx (setTake r c b (fun _ => {})) c (movedOn (rset x f.rd 0) 12))) ∧
         (∀ it rest, (takeAt (taskAt r c) b).next = it :: rest → exec (.qtake k f) s =
           .next (putCtx (setTake r c b (fun _ => { next := rest, current := some it })) c
             (movedOn (rset x f.rd (resultWord (if it.parity ≠ [] then 0xBA else if it.ptag = true ∨ it.poison ≠ [] then 0xA0 else 0) it.data.length
               (it.prio % 8 + (if it.again then 8 else 0) + (if rest = [] then 16 else 0) + it.srcSuite % 64 * 2 ^ 16))) 12)))) ∧
        (∀ it, cache.current = some it → cache.acked = false →
          let r := setTake (fetched s c) c b (fun τ => { τ with acked := true })
          exec (.qack k f) s = .next (putCtx (if c = 0 then ackItem r q it.seq
            else stage r c (fun g => { g with acks := g.acks ++ [(q, it.seq)] })) c (movedOn (rset x f.rd 0) 12))) ∧
        (cache.current = none ∨ cache.acked = true → exec (.qack k f) s = .next (answered s c 12 x f.rd 0x4C 0 0))) ∧
      (Issues s k c 12 → f.rs2 = 0 → ctxMayTake s c q = true → (queueAt s q).qfault = true →
        exec (.qtake k f) s = fault .error 8 ∧ exec (.qack k f) s = fault .error 0xA) ∧
      (Issues s k c 8 → (rget x f.rs2).toNat % 8 = 0 →
        exec (.qrd k f) s = .next (retired s c 8 (rset x f.rd (match cache.current with
          | some it => BitVec.ofNat 64 (natOf ((it.data.drop (rget x f.rs2).toNat).take 8))
          | none => 0))))) ∧
    (8 ≤ b ∨ q = 0 → (Issues s k c 12 → f.rs2 = 0 → exec (.qtake k f) s = fault .binding 8 ∧ exec (.qack k f) s = fault .binding 0xA) ∧
      (Issues s k c 8 → (rget x f.rs2).toNat % 8 = 0 → exec (.qrd k f) s = fault .binding 9)) ∧
    (Issues s k c 8 → (rget x f.rs2).toNat % 8 ≠ 0 → exec (.qrd k f) s =
      .next (takeFault (fetched s c) c k .align .none (rget x f.rs2) (encA 0x42 9 f)))

/-- With valid times TDIF gives the difference in ns, its seconds signed 32-bit, and TADD the time advanced by signed ns, its
seconds wrapping. TSET arms a timer at a time and answers DONE, TCLR disarms it, and TTST gives 0 disarmed, 1 armed, 2 expired:
once found expired it stays so. A time whose ns field is 10^9 or more, or a timer number above 3, takes a DEVICE fault of reason
RANGE. Nothing else changes. -/
def Obligations.TimeAndTimers : Prop :=
  ∀ (s : State) (k c : Nat) (f : FmtA), f.hi = 0 →
    let x := contextAt s c
    let a := rget x f.rs1
    let b := rget x f.rs2
    let ok := fun v : BitVec 64 => v.toNat % 2 ^ 32 < giga
    let ns := fun v : BitVec 64 => ((v.toNat / 2 ^ 32 * giga + v.toNat % 2 ^ 32 : Nat) : Int)
    let range := fun fn : Nat => Host.Outcome.next (takeFault (fetched s c) c k .device .range 0 (encA 0x43 fn f))
    (Issues s k c 4 →
      (ok a → ok b → exec (.tdif k f) s = .next (retired s c 4 (rset x f.rd (BitVec.ofInt 64 ((BitVec.ofInt 32 (a.toNat / 2 ^ 32 - b.toNat / 2 ^ 32)).toInt * giga + ((a.toNat % 2 ^ 32 : Nat) - (b.toNat % 2 ^ 32 : Nat))))))) ∧
      (¬ (ok a ∧ ok b) → exec (.tdif k f) s = range 0) ∧
      (ok a → ∃ v, exec (.tadd k f) s = .next (retired s c 4 (rset x f.rd v)) ∧ ok v ∧
        ns v = (ns a + b.toInt) % (2 ^ 32 * giga : Nat)) ∧
      (¬ ok a → exec (.tadd k f) s = range 1) ∧
      (∀ n : Fin 4, a.toNat = n.val → ok b → exec (.tset k f) s = .next (answered s c 4
        { x with timers := x.timers.set n (some (nearTime (fetched s c) b)), expired := x.expired &&& ~~~(1#4 <<< n.val) } f.rd 0 0 0)) ∧
      (4 ≤ a.toNat ∨ ¬ ok b → exec (.tset k f) s = range 2)) ∧
    (Issues s k c 2 → f.rs2 = 0 →
      (∀ n : Fin 4, a.toNat = n.val →
        (x.timers[n] = none → exec (.ttst k f) s = .next (retired s c 2 (rset x f.rd 0))) ∧
        (∀ t, x.timers[n] = some t → x.expired.getLsbD n.val = false → reached (now s) t = false →
          exec (.ttst k f) s = .next (retired s c 2 (rset x f.rd 1))) ∧
        (∀ t, x.timers[n] = some t → (x.expired.getLsbD n.val = true ∨ reached (now s) t = true) →
          exec (.ttst k f) s = .next (retired s c 2 (rset { x with expired := x.expired ||| 1#4 <<< n.val } f.rd 2))) ∧
        (f.rd = 0 → exec (.tclr k f) s = .next (retired s c 2
          { x with timers := x.timers.set n none, expired := x.expired &&& ~~~(1#4 <<< n.val) }))) ∧
      (4 ≤ a.toNat → exec (.ttst k f) s = range 3 ∧ (f.rd = 0 → exec (.tclr k f) s = range 4)))

/-- R98, R115, R116: a block of n bytes at w[rs1] that an instruction may copy: aligned, allowed as a load, free of uncorrectable errors. -/
structure BlockReadable (s : State) (c : Nat) (a : BitVec 64) (n : Nat) : Prop where
  aligned : a.toNat % 8 = 0
  rights : windowAllows (suiteAt s (ctxSuite c)) .load a.toNat n = true
  clean : uncorrectableIn (fetched s c) (sramAddr s c a) n = none

/-- The doubleword `i` of a block in the window. -/
def blockWord (s : State) (c : Nat) (a : BitVec 64) (i : Nat) : BitVec 64 := BitVec.ofNat 64 (memNumber s (sramAddr s c a + 8 * i) 8)

/-- The state once a block of n bytes has been read for an instruction: single-bit errors met are corrected. -/
def blockRead (s : State) (c : Nat) (a : BitVec 64) (n : Nat) : State := correctErrors (fetched s c) (sramAddr s c a) n

/-- CFG of a listed code that the context may issue, with the code and the length in its descriptor, and KEY with handles that
its suite may name, each with a reply queue that the context declares (replyDeclared) or none, copy their block at issue and
post it to the sequencer or to the Cellar, after every request posted before. The ticket follows the context's last, and rd
takes DELAYED(PENDING) with the ticket in COUNT. With 8 requests outstanding nothing is posted and the answer is
DELAYED(CREDIT); a KEY with fn[8], on M0 and M1, has then not completed. -/
def Obligations.PostedRequests : Prop :=
  ∀ (s : State) (k c : Nat) (f : FmtA), f.rs2 = 0 →
    let x := contextAt s c
    let a := rget x f.rs1
    let ticket := if x.ticket = 0xFFFF then 1 else x.ticket + 1
    let posted := fun cost : Nat => movedOn (rset { x with ticket := ticket, outstanding := x.outstanding + 1 } f.rd (resultWord 0x25 ticket 0)) cost
    (∀ code : BitVec 8, f.hi = 0 → cfgLen code.toNat ≠ 0 → Issues s k c (8 + cfgLen code.toNat) → BlockReadable s c a (8 * cfgLen code.toNat) →
      (blockWord s c a 1).toNat % 2 ^ 8 = code.toNat → (blockWord s c a 1).toNat / 2 ^ 8 % 2 ^ 8 = cfgLen code.toNat →
      (code = 0x17 ∧ c = 0 ∨ code ≠ 0x17 ∧ (ctxSuite c = 0 ∨ code.toNat ∈ [0x04, 0x05, 0x06, 0x0F, 0x16])) →
      ((blockWord s c a 1).getLsbD 49 = true ∨ replyDeclared s c ((blockWord s c a 1).toNat / 2 ^ 32 % 2 ^ 16) = true) →
      let r := blockRead s c a (8 * cfgLen code.toNat)
      (x.outstanding < 8 → exec (.cfg k code f) s = .next (putCtx { r with seq := { r.seq with
          reqs := r.seq.reqs ++ [{ ctx := c, ticket := ticket, words := (List.range (cfgLen code.toNat)).map (blockWord s c a) }]
          passOpen := r.seq.passOpen || (decide (c = 0) && !r.seq.passDone) } } c (posted (8 + cfgLen code.toNat)))) ∧
      (8 ≤ x.outstanding → exec (.cfg k code f) s = .next (putCtx r c (movedOn (rset x f.rd (resultWord 0x21 0 0)) (8 + cfgLen code.toNat))))) ∧
    (∀ op : BitVec 8, f.hi = 0 ∨ f.hi = 1 ∧ 32 ≤ k → 1 ≤ op.toNat → op.toNat ≤ 11 → Issues s k c 16 → BlockReadable s c a 64 →
      let named := fun h : Nat => h / 2 ^ 13 % 64 = ctxSuite c ∨ ctxSuite c = 0 ∧ (op = 1 ∨ op = 10 ∨ op = 11)
      let handle2 := (blockWord s c a 0).toNat / 2 ^ 32
      named ((blockWord s c a 0).toNat % 2 ^ 32) → (op = 8 ∨ op = 9 → handle2 = 0 ∨ named handle2) →
      replyDeclared s c ((blockWord s c a 1).toNat / 2 ^ 16 % 2 ^ 16) = true →
      let r := blockRead s c a 64
      (x.outstanding < 8 → exec (.key k op f) s = .next (putCtx { r with cellar := { r.cellar with
          reqs := r.cellar.reqs ++ [{ ctx := c, suite := ctxSuite c, ticket := ticket, op := op.toNat
                                      words := (List.range 8).map (blockWord s c a), order := r.cellar.accepts }]
          accepts := r.cellar.accepts + 1 } } c (posted 16))) ∧
      (8 ≤ x.outstanding → exec (.key k op f) s =
        .next (if f.hi = 0 then putCtx r c (movedOn (rset x f.rd (resultWord 0x21 0 0)) 16) else r)))

/-- EMIT with a credit records an event of the named severity, or 5 for a tenant that names more, with the payload of its block,
and answers DONE with INFO 1 where it was lowered; without a credit it answers DELAYED(CREDIT), or with fn[8], on M0 and M1, has
not completed. HSUB gives a TASK slot of the task's own a pending sample of the Q15 value, and answers INFO 1 where it replaced
one. BRK of a breakpoint that is not armed only passes 24 steps; an armed one puts w1 to w31, a0 to a3, the pc and the steps to
the suite's debug queue, and sets the task to hold where its action is HOLD. -/
def Obligations.EventsSamplesAndBreakpoints : Prop :=
  ∀ (s : State) (k c : Nat) (f : FmtA),
    let x := contextAt s c
    let a := rget x f.rs1
    let v := (rget x f.rs2).toNat
    (Issues s k c 16 → f.hi = 0 ∨ f.hi = 1 ∧ 32 ≤ k → BlockReadable s c a 32 → v / 2 ^ 3 % 2 ^ 13 = 0 → v / 2 ^ 32 = 0 →
      let r := blockRead s c a 32
      let low := ctxSuite c ≠ 0 ∧ 5 < v % 8
      (x.eventCredits = 0 → exec (.emit k f) s = .next (if f.hi = 0 then answered s c 16 x f.rd 0x21 0 0 else fetched s c)) ∧
      (x.eventCredits ≠ 0 → exec (.emit k f) s = .next (putCtx { r with attic := { r.attic with taskEvents := r.attic.taskEvents ++
        [{ suite := ctxSuite c, sev := if low then 5 else v % 8, code := v / 2 ^ 16 % 2 ^ 16, time := now s, clamped := decide low
           fromTask := some (ctxTask c), ctx := some c, source := unitAddr s .module
           payload := (List.range 4).map (blockWord s c a) }] } } c
        (movedOn (rset { x with eventCredits := x.eventCredits - 1 } f.rd (resultWord 0 0 (if low then 1 else 0))) 16)))) ∧
    (Issues s k c 12 → f.hi = 0 → a.toNat < 4096 → a.toNat ∈ (taskAt s c).desc.slotList → (slotAt s a.toNat).suite = ctxSuite c →
      (slotAt s a.toNat).inUse = true → (slotAt s a.toNat).timer = false → ∃ t, exec (.hsub k f) s = .next t ∧
        (slotAt t a.toNat).pending.map (·.u) = some (q15Operand x f.rs2) ∧
        (∀ n, n ≠ a.toNat → slotAt t n = slotAt s n) ∧
        t = { fetched s c with tasks := t.tasks, hearth := { s.hearth with slots := t.hearth.slots } } ∧
        contextAt t c = movedOn (rset x f.rd (resultWord (if 800 ≤ backlog s a.toNat then 0x22 else 0) 0
          (if (slotAt s a.toNat).pending.isSome then 1 else 0))) 12) ∧
    (∀ n : BitVec 4, Issues s k c 24 → f = ctlFields →
      let item := wordBytes (x.w.toList.drop 1 ++ x.a.toList.map (fun v => v.signExtend 64) ++ [x.pc.setWidth 64, BitVec.ofNat 64 x.steps])
      let r := (putItem (fetched s c) (suiteAt s (ctxSuite c)).debugQueue (.engine tracePart) (ctxSuite c) 0 0 false item).1
      ((taskAt s c).brkArm.getLsbD n.toNat = false → exec (.brk k n 0 f) s = .next (retired s c 24 x)) ∧
      ((taskAt s c).brkArm.getLsbD n.toNat = true → exec (.brk k n 0 f) s = .next (putCtx
        (if (taskAt s c).brkHoldMap.getLsbD n.toNat then setTask r c (fun τ => { τ with brkHold := true }) else r) c (movedOn x 24))))

/-! ### Faults -/

/-- Any of the 120 instructions: where the window does not allow the fetch at the pc, the context takes a BOUNDS fault with the
pc in ADDR and INSN 0; where the fetch meets an uncorrectable error, a MEMORY fault likewise, and the error acts by region;
where the word that stands at the pc is no instruction, an ILLEGAL fault with ADDR 0 and that word in INSN; where a legal word
would take a scan core's context past its step ceiling, a STEPS fault with ADDR 0. With no context ready nothing issues. A
management core has no ceiling; a scan core's instruction is over it when the steps counted, its cost, and one more at the end
of the current loop's body exceed the worst case. A fault of a task below its fault limit, of a suite that is not resetting and
with no mode change waiting: sr.fd0 to fd3 hold the status, class, suite, task, pc, ADDR, word, core, steps and house time; the
open packet and the cycle are gone, the fault counters go up and LAST_STATUS is the fault's; an event of severity 4 against the
suite is sent where its queue has room; no other register of the context, no byte of data SRAM and no other task changes. -/
def Obligations.FaultsAreTaken : Prop :=
  (∀ (i : Instr) (s : State) (k : Nat) (w : BitVec 32), insnCore i = some k → insnWord i = some w →
     (readyOn s k = none → exec i s = .next s) ∧
     (∀ c, readyOn s k = some c →
       let pc := (contextAt s c).pc
       let a := (suiteAt s (ctxSuite c)).winBase + pc.toNat
       (windowAllows (suiteAt s (ctxSuite c)) .fetch pc.toNat 4 = false →
         exec i s = .next (takeFault s c k .bounds .none (pc.setWidth 64) 0)) ∧
       (windowAllows (suiteAt s (ctxSuite c)) .fetch pc.toNat 4 = true → ∀ b, uncorrectableIn s a 4 = some b →
         exec i s = .next (meetError (takeFault s c k .memory .none (pc.setWidth 64) 0) b 2)) ∧
       (windowAllows (suiteAt s (ctxSuite c)) .fetch pc.toNat 4 = true → uncorrectableIn s a 4 = none → fetchIllegal s k c = true →
         exec i s = .next (faulted s k c (wordAtPc s c) .illegal 0))) ∧
     (∀ c info, Fetches s k c → readWord (isMgmt k) w = some info → overBudget s k c info.cost = true →
       exec i s = .next (faulted s k c w .steps 0)) ∧
     (∀ c cost, overBudget s k c cost = true ↔ k < 32 ∧ (taskAt s c).desc.worst < (contextAt s c).steps + cost +
       (if (currentLoop (contextAt s c)).any (fun l => decide (l.last = (contextAt s c).pc)) then 1 else 0))) ∧
  (∀ (s : State) (c core : Nat) (cls : FClass) (dev : Reason) (addr : BitVec 64) (insn : BitVec 32) (y : Cycle),
     1 ≤ c → c < 2048 → core < 64 → TimeOk (now s) → (taskAt s c).cycle = some y → resetting s (ctxSuite c) = false →
     (taskAt s c).consecFaults + 1 < (taskAt s c).desc.faultLimit → (taskAt s c).desc.faultLimit < 32 →
     (taskAt s c).stopPending = none → (taskAt s c).brkHold = false → (taskAt s c).stepping = false →
     let t := takeFault s c core cls dev addr insn
     let x := contextAt s c
     let st : Status := { cls := .fault, reason := cls.reason dev }
     contextAt t c = { x with packet := none, fd := #v[
       BitVec.ofNat 64 (Machine.Status.byte st + (cls.ctorIdx + 1) * 2 ^ 8 + c / 32 * 2 ^ 16 + c % 32 * 2 ^ 22 + x.pc.toNat * 2 ^ 32), addr,
       BitVec.ofNat 64 (insn.toNat + core * 2 ^ 32 + min x.steps (2 ^ 24 - 1) * 2 ^ 40),
       BitVec.ofNat 64 ((now s).ns + (now s).sec % 2 ^ 32 * 2 ^ 32)] } ∧
     (taskAt t c).cycle = none ∧ (taskAt t c).lastStatus = st ∧ (taskAt t c).consecFaults = (taskAt s c).consecFaults + 1 ∧
     (taskAt t c).faults = min ((taskAt s c).faults + 1) (2 ^ 16 - 1) ∧ (taskAt t c).mode = (taskAt s c).mode ∧
     t.sram = s.sram ∧ t.points = s.points ∧ (∀ d, d ≠ c → taskAt t d = taskAt s d) ∧
     ((s.attic.flight.filter (fun e => e.sev == 4)).length < 256 →
       ∃ e ∈ t.attic.flight, e.sev = 4 ∧ e.suite = ctxSuite c ∧ e.code % 256 = Machine.Status.byte st ∧ e.time = now s))

/-! ### Unit commands -/

/-- The state once the command `c` has left its queue: the Larder has read the item that it hands over (R199), and the item is acknowledged. -/
def taken (s : State) (q : CmdQueue) (c : Cmd) : State := takeCommand (readHead s (cmdQueueNo q)) c

/-- The command `c` stands at the head of queue `q`, and its target names `u`: this module's own member where it comes from a group's
speaker (R52). In recovery it is one of those accepted (R398), and it is not for the partner (R47). -/
structure Reaches (s : State) (q : CmdQueue) (c : Cmd) (u : UnitId) : Prop where
  head : headCommand (readHead s (cmdQueueNo q)) q = some c
  target : (resolve (taken s q c) c.target).map (memberTarget (taken s q c) c) = some (.unit u)
  normal : (taken s q c).boot.phase ≠ .recovery ∨ recoveryAllows (taken s q c) c = true
  here : forwards (taken s q c) c (.unit u) = false

/-- The unit `u` serves the command: it repeats no recorded one (R46), and the unit is no group, but for a DESCRIBE, STATUS or MEMBERS that
the group's speaker answers (R52). -/
structure Served (s : State) (q : CmdQueue) (c : Cmd) (u : UnitId) : Prop extends Reaches s q c u where
  fresh : findRecord (taken s q c) u c.tag c.replyQueue = none
  single : ∀ l, u = .group l → c.isRead = true ∧ speaks (taken s q c) l = true

/-- The state once the command has been carried out, leaving `t`, and answered with a status and payload words. -/
def replied (c : Cmd) (u : UnitId) (t : State) (st : Status) (payload : List (BitVec 64)) : State :=
  finishCommand c (some u) { s := t, st, payload }

/-- R44's table: every command of a unit, with the CODE and the ARG it goes by. DESCRIBE takes the codes that no table lists as well. -/
def commandTable : List ((CmdQueue → FuseReads → Instr) × (Nat → Nat → Bool)) :=
  let code := fun n c _ => c == n
  [(fun q _ => .describe q, fun c _ => c == 0x01 || !knownCode c), (fun q _ => .status q, code 0x02), (fun q _ => .members q, code 0x03),
   (fun q _ => .unitReset q, code 0x04), (fun q _ => .clearWorst q, code 0x05),
   (fun q _ => .taskModeRun q, fun c a => c == 0x20 && (a < 2 || 4 < a)), (fun q _ => .taskModeStop q, fun c a => c == 0x20 && a == 2),
   (fun q _ => .taskModeHold q, fun c a => c == 0x20 && a == 3), (fun q _ => .taskModeStep q, fun c a => c == 0x20 && a == 4),
   (fun q _ => .setValue q, code 0x21), (fun q _ => .setConst q, code 0x22), (fun q _ => .brkArm q, code 0x23), (fun q _ => .taskStatus q, code 0x24),
   (fun q _ => .ownerClaim q, fun c a => c == 0x30 && a != 1), (fun q _ => .ownerClaimForce q, fun c a => c == 0x30 && a == 1),
   (fun q _ => .ownerRenew q, code 0x31), (fun q _ => .ownerRelease q, code 0x32), (fun q _ => .ownerHandover q, code 0x33),
   (fun q _ => .ownerAccept q, code 0x34), (fun q _ => .suiteReset q, code 0x35), (fun q _ => .suiteStatus q, code 0x36),
   (fun q _ => .ownerUnlock q, code 0x37), (fun q _ => .queueStatus q, code 0x40), (fun q _ => .queueClear q, code 0x41),
   (fun q _ => .slotStatus q, code 0x50), (fun q _ => .pairSwitch q, code 0x60), (fun q _ => .pairResync q, code 0x61),
   (fun q _ => .portCounters q, code 0x70), (fun q _ => .floorQuiet q, code 0x71), (fun q _ => .floorWake q, code 0x72),
   (fun q _ => .clockTrimIncrement q, fun c a => c == 0x80 && a != 1 && a != 2), (fun q _ => .clockTrimSlew q, fun c a => c == 0x80 && a == 1),
   (fun q _ => .clockTrimStep q, fun c a => c == 0x80 && a == 2), (fun q _ => .hbCancel q, code 0x90), (fun q _ => .diCounts q, code 0xA0),
   (fun q _ => .meterRead q, code 0xB0), (fun q _ => .identity q, code 0xC0), (fun q rb => .lifecycleAdvance q rb, code 0xC1),
   (fun q _ => .tamperClear q, code 0xC2), (fun q _ => .atticRead q, code 0xD0), (fun q _ => .atticClear q, code 0xD1),
   (fun q _ => .updateBegin q, code 0xE0), (fun q _ => .updateStage q, code 0xE1), (fun q _ => .updateCheck q, code 0xE2),
   (fun q _ => .updateActivate q, code 0xE3), (fun q rb => .updateConfirm q rb, code 0xE4), (fun q _ => .updateAbort q, code 0xE5),
   (fun q _ => .updateStatus q, code 0xE6), (fun q _ => .loopTest q, code 0xF0)]

/-- Each of the commands with a CODE takes the head of its command queue where that is its own, and otherwise does nothing. One
whose target names nothing is answered REFUSED(ADDRESS); one that is not accepted in recovery REFUSED(STATE); one for the
partner is forwarded; one that repeats a recorded command is answered with the recorded reply and has no other effect but
LAST_STATUS; and one to a group that this module does not speak for is answered REFUSED(STATE), where the requester may give it.
An answer is recorded with its unit, target, TAG, reply queue and CODE, and touches neither tasks nor data SRAM nor fuses. -/
def Obligations.UnitCommandsAreTaken : Prop :=
  (∀ (s : State) (q : CmdQueue) (rb : FuseReads), ∀ x ∈ commandTable,
    let read := readHead s (cmdQueueNo q)
    (headCommand read q = none → exec (x.1 q rb) s = .next s) ∧
    (∀ c, headCommand read q = some c → x.2 c.code c.arg = false → exec (x.1 q rb) s = .next s) ∧
    (∀ c, headCommand read q = some c → x.2 c.code c.arg = true →
      let r := taken s q c
      (resolve r c.target = none → exec (x.1 q rb) s = .next (sendReply r c (stRefused .address) [])) ∧
      (∀ u, (resolve r c.target).map (memberTarget r c) = some (.unit u) →
        (r.boot.phase = .recovery → recoveryAllows r c = false → exec (x.1 q rb) s = .next (replied c u r (stRefused .state) [])) ∧
        (r.boot.phase ≠ .recovery ∨ recoveryAllows r c = true → forwards r c (.unit u) = true →
          exec (x.1 q rb) s = .next { r with twin := { r.twin with forwarded := r.twin.forwarded ++ [c.item] } })) ∧
      (∀ u, Reaches s q c u →
        (∀ d, findRecord r u c.tag c.replyQueue = some d → exec (x.1 q rb) s =
          .next (sendReply (setUnitStat r d.unit (fun y => { y with lastStatus := d.status })) { c with code := d.code.getD c.code } d.status d.payload)) ∧
        (∀ l, u = .group l → findRecord r u c.tag c.replyQueue = none → (groupAt r l).isSome = true → speaks r l = false →
          c.reads = true ∨ c.queue = .group ∨ commands r 0 c = true →
          exec (x.1 q rb) s = .next (replied c u r (stRefused .state) []))))) ∧
  (∀ (s : State) (c : Cmd) (u : UnitId) (st : Status) (payload : List (BitVec 64)),
    let t := replied c u s st payload
    t.sram = s.sram ∧ t.tasks = s.tasks ∧ t.fuses = s.fuses ∧
    ∃ d ∈ t.records, d.unit = u ∧ d.target = c.target ∧ d.tag = c.tag ∧ d.replyQueue = c.replyQueue ∧ d.code = some c.code ∧
      d.status = st ∧ d.payload = payload ∧ d.atTick = s.tick)

/-- DESCRIBE, STATUS, MEMBERS, TASK_STATUS, SUITE_STATUS, QUEUE_STATUS, SLOT_STATUS, PORT_COUNTERS, DI_COUNTS, IDENTITY,
UPDATE_STATUS and ATTIC_READ answer DONE with the words that their table maps, where the unit knows the command and the
requester may read; the answer is all that they do, but for what STATUS measures of a unit (measureUnit) and the LAST_STATUS
that SUITE_STATUS leaves in the suite. -/
def Obligations.ReadCommands : Prop :=
  ∀ (s : State) (q : CmdQueue) (c : Cmd) (u : UnitId), Served s q c u →
    let r := taken s q c
    let suite := (c.word 2).toNat % 2 ^ 6
    let tells := fun (i : Instr) (t : State) (words : List (BitVec 64)) => exec i s = .next (replied c u t stDone words)
    (c.code = 0x01 → tells (.describe q) r (descriptor r u)) ∧
    (c.code = 0x02 → (∀ p, u ≠ .part p) → c.arg < (unitWords r u).length → tells (.status q) (measureUnit r u) [(unitWords r u).getD c.arg 0]) ∧
    (c.code = 0x02 → ∀ p, u = .part p → c.arg < (unitWords (measureUnit r u) u).length →
      tells (.status q) (measureUnit r u) [(unitWords (measureUnit r u) u).getD c.arg 0]) ∧
    (c.code = 0x03 → c.arg = 0 ∨ 32 * c.arg < (memberAddrs r u).length → tells (.members q) r (((memberAddrs r u).drop (32 * c.arg)).take 32)) ∧
    (isSelf u = true →
      (c.code = 0x24 → c.suite = suite ∨ c.suite = 0 → (c.word 2).getLsbD 13 = false → c.arg < 4 →
        tells (.taskStatus q) r [(taskStatusWords (taskAt r (32 * suite + (c.word 2).toNat / 2 ^ 8 % 2 ^ 5))).getD c.arg 0]) ∧
      (c.code = 0x36 → c.arg < 4 →
        tells (.suiteStatus q) (setSuite r suite (fun x => { x with lastStatus := stDone })) [(suiteWords r suite).getD c.arg 0]) ∧
      (c.code = 0xE6 → c.arg < 5 → ∀ kind n, updateSelector c = some (kind, n) → tells (.updateStatus q) r [(updateWords r kind n).getD c.arg 0])) ∧
    (u = .part larderPart → c.code = 0x40 → c.arg = 0 → ∀ n, queueOwner r ((c.word 2).toNat % 2 ^ 16) = some n → commands r n c = true →
      tells (.queueStatus q) r (queueWords r ((c.word 2).toNat % 2 ^ 16))) ∧
    (u = engineUnit 1 → c.code = 0x50 → commands r (slotAt r ((c.word 2).toNat % 4096)).suite c = true →
      tells (.slotStatus q) r (slotStatus r ((c.word 2).toNat % 4096))) ∧
    (∀ p, u = .part p → c.code = 0x70 → c.arg < 2 → p.cls = 1 ∨ p.cls = 2 →
      tells (.portCounters q) r (counterWords r (if p.cls = 1 then p.inst else 192 + p.inst) c.arg)) ∧
    (u = inputUnit → c.code = 0xA0 → tells (.diCounts q) r ((List.range 8).map (fun j =>
      BitVec.ofNat 64 (countFor r c.suite (2 * j) % 2 ^ 32 + countFor r c.suite (2 * j + 1) % 2 ^ 32 * 2 ^ 32)))) ∧
    (u = .part cellarPart → c.code = 0xC0 → c.arg = 0 → tells (.identity q) r (identityWords r)) ∧
    (u = atticUnit → c.code = 0xD0 → c.arg = 0 → c.suite = suite ∨ c.suite = 0 → (c.word 2).toNat / 2 ^ 16 % 2 ^ 6 ≠ 63 →
      tells (.atticRead q) r (readPayload (partitionAt r suite) (max 1 ((c.word 3).toNat % 2 ^ 48)) ((c.word 4).toNat % 2 ^ 48)
        (min ((c.word 2).toNat / 2 ^ 16 % 2 ^ 6) (((queueAt r c.replyQueue).itemMax - 48) / 64))))

/-- OWNER_CLAIM on a suite without an owner joins the claims and opens the 100 ms window; FORCE by a RANK 7 host on SVC makes it
owner at once and answers the claims of an open window. RENEW before the lease end moves the lease to now plus LEASE; RELEASE,
by the owner or for a tenant by suite 0's, ends the ownership; HANDOVER names a successor for 5 s and ACCEPT makes it owner;
UNLOCK by an owner of RANK 6 or more clears the lock; SUITE_RESET resets a tenant warm or cold; UNIT_RESET resets a part, the
module 1 ms after its reply or after a switchover, or both members of a pair; CLEAR_WORST zeroes WORST_SEV. A stranger's RENEW
or HANDOVER is answered REFUSED(OWNER) with the owner's HOST_ID and counted as a failed check. A host that becomes owner holds
its RANK and a lease of LEASE seconds, 30 where it is 0, from now, and a handover lapses; when an ownership ends the suite has
no owner and no handover. The suite's other state, every other suite, data SRAM and the tasks stay. -/
def Obligations.OwnersAndOwnership : Prop :=
  (∀ (s : State) (q : CmdQueue) (c : Cmd) (u : UnitId), Served s q c u →
     let r := taken s q c
     let n := (c.word 2).toNat % 2 ^ 6
     let x := suiteAt r n
     let lease := fun t : State => [nowForm (suiteAt t n).leaseEnd]
     let answers := fun (i : Instr) (t : State) (words : List (BitVec 64)) => exec i s = .next (replied c u t stDone words)
     let done := fun (i : Instr) (t : State) (words : List (BitVec 64)) => answers i (setSuite t n (fun y => { y with lastStatus := stDone })) words
     let owns := commands r n c = true
     let allowed := owns ∨ n ≠ 0 ∧ buildingOwner r c = true
     (isSelf u = true →
       (c.code = 0x30 → c.arg = 0 → hostOf n c = true → x.owner = none → ∀ y, sessionOf r n c.host = some y →
         exec (.ownerClaim q) s = .next (setSuite r n (fun z => { z with
           claims := z.claims ++ [{ host := c.host, rank := y.rank, via := c.queue, target := c.target, replyQueue := c.replyQueue, tag := c.tag }]
           claimOpen := some (z.claimOpen.getD (r.tick + 12500000)) }))) ∧
       (c.code = 0x30 → c.arg = 1 → hostOf n c = true →
         (∃ y ∈ r.sessions, y.suite = n ∧ y.host = c.host ∧ y.rank = 7 ∧ y.port = 194) →
         let b := becomeOwner (setSuite r n (fun z => { z with claims := [], claimOpen := none })) n c.host 7
         let t := raiseEvent (x.claims.foldl (answerClaim n c.host) b) [n] 4 .module stDone []
         done (.ownerClaimForce q) t (lease t)) ∧
       (c.code = 0x31 → c.arg = 0 → owns → x.owner.isSome = true → reached (now r) x.leaseEnd = false →
         done (.ownerRenew q) (mirrorOwner (setSuite r n (fun z => { z with
           leaseEnd := taddNs (now r) (((if x.lease = 0 then 30 else x.lease) * giga : Nat) : Int) })) n) []) ∧
       (c.code = 0x32 → c.arg = 0 → allowed → done (.ownerRelease q) (endOwnership r n) []) ∧
       (c.code = 0x33 → c.arg = 0 → owns → x.owner.isSome = true →
         (sessionOf r n ((c.word 3).toNat % 2 ^ 16)).isSome = true → done (.ownerHandover q) (setSuite r n (fun z => { z with
           handover := some ((c.word 3).toNat % 2 ^ 16), handoverUntil := r.tick + 625000000 })) []) ∧
       (c.code = 0x34 → c.arg = 0 → hostOf n c = true → x.handover = some c.host → r.tick ≤ x.handoverUntil → ∀ y, sessionOf r n c.host = some y →
         let t := raiseEvent (becomeOwner r n c.host y.rank) [n] 3 .module stDone []
         done (.ownerAccept q) t (lease t)) ∧
       (c.code = 0x37 → c.arg = 0 → hostOf n c = true → x.owner = some c.host → 6 ≤ x.ownerRank →
         done (.ownerUnlock q) (mirrorOwner (setSuite r n (fun z => { z with locked := false })) n) []) ∧
       (c.code = 0x35 → c.arg = 1 ∨ c.arg = 2 → n ≠ 0 → x.enabled = true → allowed → done (.suiteReset q) (resetSuite r n (c.arg == 2)) []) ∧
       (c.code = 0x31 ∨ c.code = 0x33 → commands r n c = false →
         exec (if c.code = 0x31 then .ownerRenew q else .ownerHandover q) s = .next (replied c u
           (setSuite (countThreshold r c.suite) n (fun y => { y with lastStatus := stRefused .owner })) (stRefused .owner)
           [BitVec.ofNat 64 (x.owner.getD 0)]))) ∧
     (c.code = 0x05 → commands r (unitOwner r u) c = true → answers (.clearWorst q) (setUnitStat r u (fun z => { z with worstSev := 0 })) []) ∧
     (c.code = 0x04 → (∀ p, u = .part p → resetBarred p = false → commands r (unitOwner r u) c = true →
         (resetting r (unitOwner r u) = false → answers (.unitReset q) (resetPart (discardTest r u) p) []) ∧
         (resetting r (unitOwner r u) = true → exec (.unitReset q) s = .next (replied c u r stResetDiscarded []))) ∧
       (u = .module → c.arg = 1 ∨ c.arg = 2 → commands r 0 c = true →
         (r.twin.role = .active ∧ r.twin.inStep = true → let b := beginSwitch r
           exec (.unitReset q) s = .next { b with boot := { b.boot with
             heldReset := (some { cold := c.arg == 2, via := c.queue, target := c.target, tag := c.tag, replyQueue := c.replyQueue, suite := c.suite }) } }) ∧
         (¬ (r.twin.role = .active ∧ r.twin.inStep = true) → answers (.unitReset q) (commandReset r (c.arg == 2)) [])) ∧
       (u = .pair → (c.arg % 128 = 1 ∨ c.arg % 128 = 2) → c.arg < 256 →
         let b : State := { r with twin := { r.twin with forwarded := r.twin.forwarded ++ [c.item] } }
         (c.queue = .pair → r.twin.role = .standby → answers (.unitReset q) (commandReset r (c.arg % 128 == 2)) []) ∧
         (¬ (c.queue = .pair ∧ r.twin.role = .standby) → c.queue = .pair ∨ commands r 0 c = true →
           (128 ≤ c.arg → answers (.unitReset q) (commandReset b (c.arg % 128 == 2)) []) ∧
           (c.arg < 128 → r.twin.role = .active → r.twin.inStep = true →
             answers (.unitReset q) { b with twin := { b.twin with pairReset := some (c.arg % 128 == 2, r.tick) } } []))))) ∧
  (∀ (s : State) (n host rank : Nat),
     let x := suiteAt s n
     let e := taddNs (now s) (((if x.lease = 0 then 30 else x.lease) * giga : Nat) : Int)
     let left : Suite := { x with owner := none, ownerRank := 0, handover := none, handoverUntil := 0 }
     (suiteAt (becomeOwner s n host rank) n = { x with owner := some host, ownerRank := rank, leaseEnd := e, handover := none, handoverUntil := 0 }) ∧
     (left ≠ suiteDefault n → suiteAt (endOwnership s n) n = left ∧ ∀ m, m ≠ n → suiteAt (endOwnership s n) m = suiteAt s m) ∧
     (∀ m, m ≠ n → suiteAt (becomeOwner s n host rank) m = suiteAt s m) ∧
     (becomeOwner s n host rank).tasks = s.tasks ∧ (endOwnership s n).tasks = s.tasks ∧
     (becomeOwner s n host rank).sram = s.sram ∧ (endOwnership s n).sram = s.sram)

/-- For selected tasks of a suite that is not resetting, from a requester that may command it, with START_AT zero or in range:
TASK_MODE acts on each selected task and is DONE where it has an effect on one, else REFUSED(STATE). RUN and STEP from STOP or
HOLD become pending at the effect time; STOP drops what is pending, stops a task in RUN or stepping after its commit and one in
HOLD at once; HOLD of one in RUN waits for its commit. SET_VALUE and SET_CONST of one task in a cycle wait for its END, and
between cycles act at once; BRK_ARM sets the masks for the next cycle start. -/
def Obligations.TaskCommands : Prop :=
  (∀ (s : State) (q : CmdQueue) (c : Cmd) (u : UnitId), Served s q c u → isSelf u = true →
    let r := taken s q c
    let n := (c.word 2).toNat % 2 ^ 6
    let keys := selected r (selectorOf c)
    let at80 := if c.word 3 = 0 ∧ (c.word 4).toNat % 2 ^ 16 = 0 then none else some (ofNowForm (c.word 3) ((c.word 4).toNat % 2 ^ 16))
    let modes := fun (i : Instr) (one : State → Nat → State × Bool) =>
      exec i s = .next (if (modeCommand r keys one).st = stDone then replied c u (modeCommand r keys one).s stDone [] else replied c u r (stRefused .state) [])
    keys ≠ [] → resetting r n = false → commands r n c = true →
    (c.code = 0x20 → at80 = none ∨ startAtOk r (c.word 3) (c.word 4) = true →
      (c.arg = 1 → modes (.taskModeRun q) (orderStart false at80)) ∧ (c.arg = 4 → modes (.taskModeStep q) (orderStart true at80)) ∧
      (c.arg = 2 → modes (.taskModeStop q) orderStop) ∧ (c.arg = 3 → modes (.taskModeHold q) orderHold)) ∧
    (c.code = 0x23 → c.arg = 0 → (c.word 3).toNat / 2 ^ 16 % 2 ^ 16 &&& ((c.word 3).toNat % 2 ^ 16) = (c.word 3).toNat / 2 ^ 16 % 2 ^ 16 →
      exec (.brkArm q) s = .next (replied c u (keys.foldl (fun t k => setTask t k (fun y => { y with
        brkArmNext := some ((c.word 3).setWidth 16, ((c.word 3) >>> 16).setWidth 16) })) r) stDone [])) ∧
    (∀ k, keys = [k] → (c.word 2).getLsbD 13 = false →
      let o := fun (data : List Byte) => ({ addr := (c.word 3).toNat, data, target := c.target, via := c.queue
                                            replyQueue := c.replyQueue, tag := c.tag, code := c.code, suite := c.suite } : OnlineWrite)
      let posts := fun (i : Instr) (data : List Byte) => exec i s =
        .next (if betweenCycles (taskAt r k) then applyOnline r k (o data) else setTask r k (fun t => { t with online := t.online ++ [o data] }))
      (c.code = 0x21 → c.arg < 4 → (c.word 3).toNat % 2 ^ c.arg = 0 →
        extentIn (suiteAt r n) (c.word 3).toNat (2 ^ c.arg) (fun g => g == .retain || g == .data) = true →
        posts (.setValue q) (bytesOf (2 ^ c.arg) (c.word 4).toNat)) ∧
      (c.code = 0x22 → 1 ≤ c.arg → c.arg ≤ 32 → 32 + 8 * c.arg ≤ c.item.data.length → (c.word 3).toNat % 8 = 0 →
        extentIn (suiteAt r n) (c.word 3).toNat (8 * c.arg) (· == .const) = true → n = 0 ∨ (suiteAt r n).locked = false →
        posts (.setConst q) ((c.item.data.drop 32).take (8 * c.arg))))) ∧
  (∀ (s : State) (k : Nat) (step : Bool) (at80 : Option Time80),
    let x := taskAt s k
    let idle := setTask s k (fun t => { t with pending := none })
    orderStart step at80 s k = (if x.mode = .run then (s, false) else
      (setTask s k (fun t => { t with pending := some { step, at80 := effectTime s k at80 }, stopPending := none }), true)) ∧
    (x.mode = .run ∨ x.mode = .hold ∧ x.stepping = true → orderStop s k = (setTask idle k (fun t => { t with stopPending := some .stop }), true)) ∧
    (x.mode = .hold → x.stepping = false → orderStop s k = (enterStop idle k .command stDone, true)) ∧
    (x.mode = .stop ∨ x.mode = .notLoaded → orderStop s k = (idle, x.pending.isSome)) ∧
    orderHold s k = (if x.mode = .run then (setTask s k (fun t => { t with stopPending := some .hold }), true) else (s, false)))

/-- On the self unit, from the owner of the selector's suite (or in recovery), with ARG 0 and no lock: BEGIN opens an empty
staging of the length; STAGE programs bytes; CHECK of an image that passes moves to CHECKED and of one that fails is refused
with the reason, the image staying as it was; ACTIVATE of a checked image within its limits moves to SCHEDULED; ABORT of a
staged image discards it. What the active of a pair has done it hands to its standby and answers for both (bothMembers;
assumption 106). CONFIRM of an image in trial drops its fallback, which KIND 1 keeps as a spare, and leaves the trial; one of
KIND 1 that raises the anti-rollback count programs it, and is FAULT(CHECK) and stays in trial where it does not settle. ABORT
of a scheduled activation returns the selector to what it has staged, and ABORT of a trial reverts the image (revertLater). -/
def Obligations.UpdateCommands : Prop :=
  (∀ (s : State) (q : CmdQueue) (c : Cmd) (u : UnitId) (kind n : Nat), Served s q c u → isSelf u = true →
     let r := taken s q c
     let x := updateAt r kind n
     let ends := fun (i : Instr) (t : State) (st : Status) => exec i s = .next (finishCommand c (some u) (bothMembers c (.unit u) { s := t, st }))
     let done := fun (i : Instr) (g : Update → Update) => ends i (setUpdate r kind n g) stDone
     updateSelector c = some (kind, n) → c.arg = 0 → commands r n c = true ∨ r.boot.phase = .recovery → (suiteAt r n).locked = false → scheduledUp x = false →
     (c.code = 0xE0 → (c.word 2).toNat / 2 ^ 32 ≠ 0 → ¬ (kind = 1 ∧ x.phase = .trial) → stagingRoom r kind n ((c.word 2).toNat / 2 ^ 32) = true →
       done (.updateBegin q) (fun y => { y with stagedLen := (c.word 2).toNat / 2 ^ 32, staged := [], stagedBytes := 0, checkedImg := false
                                                spare := none, phase := if y.phase = .trial then .trial else .staging })) ∧
     (c.code = 0xE1 → (c.word 2).toNat / 2 ^ 32 % 8 = 0 → 8 ≤ (c.item.data.drop 24).length → (c.item.data.drop 24).length ≤ 456 →
       (c.item.data.drop 24).length % 8 = 0 → (c.word 2).toNat / 2 ^ 32 + (c.item.data.drop 24).length ≤ x.stagedLen →
       done (.updateStage q) (fun y => { y with
         staged := program y.staged ((c.word 2).toNat / 2 ^ 32) (c.item.data.drop 24), checkedImg := false
         phase := if y.phase = .trial then .trial else .staging
         stagedBytes := max y.stagedBytes ((c.word 2).toNat / 2 ^ 32 + (c.item.data.drop 24).length) })) ∧
     (c.code = 0xE2 →
       match (match imageFails r kind n (stagedImage x) with
         | some e => some e
         | none => if segmentsFit r kind n (stagedImage x) = true then none else some .size) with
       | some e => ends (.updateCheck q) (setUpdate r kind n (fun y => { y with lastStatus := stRefused e })) (stRefused e)
       | none => done (.updateCheck q) (fun y => { y with
           lastStatus := stDone, checkedImg := true, phase := if y.phase = .trial then .trial else .checked })) ∧
     (c.code = 0xE3 → (c.word 2).toNat / 2 ^ 32 % 2 ^ 16 ≤ 3600 →
       (let trial := (c.word 4).toNat / 2 ^ 16 % 2 ^ 16
        (trial = 0 ∨ 60 ≤ trial) → (interlocksOf c).all isPoint = true → activationOpen r kind n = false → x.checkedImg = true →
        (mustTogether r (.unit u) kind (stagedImage x) = true → (c.word 2).getLsbD 16 = true) →
        activateAtOk r (ofNowForm (c.word 3) ((c.word 4).toNat % 2 ^ 16)) = true →
        done (.updateActivate q) (fun y => { y with
          phase := .scheduled, activateAt := ofNowForm (c.word 3) ((c.word 4).toNat % 2 ^ 16), together := (c.word 2).getLsbD 16
          pairHeld := decide (u = .pair), holdS := (c.word 2).toNat / 2 ^ 32 % 2 ^ 16, trialS := if trial = 0 then 600 else trial
          interlocks := interlocksOf c, version := (stagedImage x).version, pairHalf := false }))) ∧
     (c.code = 0xE5 → x.phase ≠ .activating → x.phase ≠ .trial →
       done (.updateAbort q) (fun y => { y with phase := .idle, stagedLen := 0, staged := [], stagedBytes := 0, checkedImg := false }))) ∧
  (∀ (s : State) (q : CmdQueue) (c : Cmd) (u : UnitId) (kind n : Nat) (rb : FuseReads), Served s q c u → isSelf u = true →
     let r := taken s q c
     let x := updateAt r kind n
     let ends := fun (i : Instr) (t : State) (st : Status) => exec i s = .next (finishCommand c (some u) (bothMembers c (.unit u) { s := t, st }))
     updateSelector c = some (kind, n) → c.arg = 0 → commands r n c = true ∨ r.boot.phase = .recovery → (suiteAt r n).locked = false →
     (c.code = 0xE4 → x.phase = .trial →
       let level := (x.current.map (·.rollback)).getD 0
       let kept := setUpdate r kind n (fun y => { y with
         spare := if kind = 1 then x.fallback else none, fallback := none, pairHalf := false, phase := restPhase x, lastStatus := stDone })
       let raised := raiseAntiroll kept rb level
       (kind ≠ 1 ∨ level ≤ r.cellar.antiroll → ends (.updateConfirm q rb) kept stDone) ∧
       (kind = 1 → r.cellar.antiroll < level →
         (raised.2 = true → ends (.updateConfirm q rb) raised.1 stDone) ∧
         (raised.2 = false → ends (.updateConfirm q rb) (setUpdate raised.1 kind n (fun y => { y with lastStatus := stFault .check })) (stFault .check)))) ∧
     (c.code = 0xE5 → scheduledUp x = true → ends (.updateAbort q) (setUpdate r kind n (fun y => { y with phase := restPhase x, pairHalf := false })) stDone) ∧
     (c.code = 0xE5 → x.phase = .trial → ends (.updateAbort q) (revertLater r kind n) stDone))

/-- QUEUE_CLEAR discards undelivered items, and of a queue in QFAULT answers FAULT(ERROR); PAIR_SWITCH and PAIR_RESYNC begin a
switchover and a resync; FLOOR_QUIET proposes to the ports that may go quiet and opens the transaction, and FLOOR_WAKE wakes;
CLOCK_TRIM announces an increment or a slew, or steps; HB_CANCEL withdraws a frame, after the attempt in progress where there is
one; METER_READ waits for its window; LIFECYCLE_ADVANCE programs an allowed state, drops the flash keys and asks for a cold
reset; TAMPER_CLEAR (REFUSED(STATE) while TAMPER_N, a free value, is low) clears the tamper state and makes the missing roots;
ATTIC_CLEAR frees records and tells so; LOOP_TEST takes the unit down and begins. Each from a requester that may, with operands
in range. -/
def Obligations.DeviceCommands : Prop :=
  ∀ (s : State) (q : CmdQueue) (c : Cmd) (u : UnitId) (rb : FuseReads), Served s q c u →
    let r := taken s q c
    let a := c.word 2
    let v := (c.word 3).toNat
    let done := fun (i : Instr) (t : State) (words : List (BitVec 64)) => exec i s = .next (replied c u t stDone words)
    let building := commands r 0 c = true
    (u = .part larderPart → c.code = 0x41 → c.arg = 0 → (∃ n, queueOwner r (a.toNat % 2 ^ 16) = some n ∧ commands r n c = true) →
      ((queueAt r (a.toNat % 2 ^ 16)).qfault = false →
        done (.queueClear q) (dropItems r (a.toNat % 2 ^ 16) (·.deliveredTo.isNone))
          [BitVec.ofNat 64 ((queueAt r (a.toNat % 2 ^ 16)).items.countP (·.deliveredTo.isNone))]) ∧
      ((queueAt r (a.toNat % 2 ^ 16)).qfault = true → exec (.queueClear q) s = .next (replied c u r (stFault .error) []))) ∧
    (u = .pair → building → c.arg = 0 → (suiteAt r 0).locked = false →
      (c.code = 0x60 → r.twin.inStep = true → 64 ≤ r.twin.inStepCount → done (.pairSwitch q) (beginSwitch r) []) ∧
      (c.code = 0x61 → r.twin.partnerRole = 3 → done (.pairResync q) (loseStep r) [])) ∧
    (u = engineUnit 6 → (c.code = 0x71 → building → r.sw.quiet = .quiet ∨ r.sw.quiet = .awake →
        let asked := (List.range 192).filter (fun p => (c.word (2 + p / 64)).getLsbD (p % 64))
        let ports := asked.filter (mayQuiet r)
        let tq := taddUs (now r) (1000 * r.sw.agreeWait)
        let number := (r.sw.transactions + 1) % 2 ^ 32
        let b := ports.foldl (propose number tq) r
        exec (.floorQuiet q) s = .next { b with sw := { b.sw with quiet := .proposing, transactions := number, transaction := some {
          number := number, asked := asked, ports := ports, agreed := [], tq := tq, tag := c.tag, replyQueue := c.replyQueue, suite := c.suite } } }) ∧
      (c.code = 0x72 → (suiteAt r c.suite).enabled = true → commands r c.suite c = true → r.sw.quiet ≠ .awake →
        done (.floorWake q) (wakeFloor r) [])) ∧
    (u = clockUnit → c.code = 0x80 → building → r.twin.role ≠ .standby →
      (c.arg = 0 → incrementOk (v % 2 ^ 32) = true → done (.clockTrimIncrement q) (announce r (.increment (v % 2 ^ 32))) []) ∧
      (c.arg = 1 → incrementOk (v % 2 ^ 32) = true → v / 2 ^ 32 ≠ 0 → done (.clockTrimSlew q) (announce r (.slew (v % 2 ^ 32) (v / 2 ^ 32))) []) ∧
      (c.arg = 2 → exec (.clockTrimStep q) s = .next (replied c u (stepJump r (c.word 3).toInt false).1 (stepJump r (c.word 3).toInt false).2 []))) ∧
    (∀ h o, u = .part { cls := 3, inst := h } → c.code = 0x90 → commands r (tget {} (hallAt r h).slots (a.toNat % 16)).suite c = true →
      tlook (hallAt r h).offered (a.toNat % 16) = some o → (hallAt r h).cfg.trunk = false → o.tag = a.toNat / 2 ^ 16 % 2 ^ 16 →
      (o.attempting = false → done (.hbCancel q) (settleHall (completeOffered r h (a.toNat % 16) o stWithdrawn) h) []) ∧
      (o.attempting = true → exec (.hbCancel q) s = .next (setHall r h (fun x => { x with offered := tput x.offered (a.toNat % 16) { o with
        cancel := some (o.cancel.getD stWithdrawn), cancelReplies := o.cancelReplies ++ [(c.tag, c.replyQueue, c.suite)] } })))) ∧
    (u = meterUnit → c.code = 0xB0 → mayRead r c.suite (quantity (a.toNat % 8) 32) = true → (circuitAt r (a.toNat % 8)).cfg.enable = true →
      exec (.meterRead q) s = .next { r with meter := { r.meter with waits := r.meter.waits ++
        [{ circuit := a.toNat % 8, suite := c.suite, tag := c.tag, replyQueue := c.replyQueue }] } }) ∧
    (u = .part cellarPart → c.code = 0xC1 → ownerOverSvc r c = true →
      (r.cellar.lifecycle = 1 ∧ c.arg = 3 ∧ (suiteAt r 0).locked = false ∨ r.cellar.lifecycle = 3 ∧ c.arg = 7 ∧ authorised r c = true ∨
        (r.cellar.lifecycle = 3 ∨ r.cellar.lifecycle = 7) ∧ c.arg = 15) →
      let b := readBack (programLifecycle r c.arg) rb
      (settleLifecycle b).value = c.arg → (settleLifecycle b).marginal = false →
      done (.lifecycleAdvance q rb) (resetLater { b with cellar := { b.cellar with lifecycle := c.arg, flashKeys := [] } } .c 7) []) ∧
    (u = .part cellarPart → c.code = 0xC2 → c.arg = 0 → building →
      (Config.tamperPin r.tick = true → exec (.tamperClear q) s = .next (replied c u r (stRefused .state) [])) ∧
      (Config.tamperPin r.tick = false → done (.tamperClear q) ((enabledSuites r).foldl ensureRoot { r with
        mantel := { r.mantel with tamperLatched := false }, cellar := { r.cellar with wiped := false } }) [])) ∧
    (u = atticUnit → c.code = 0xD1 → c.arg = 0 → commands r (a.toNat % 64) c = true →
      let n := a.toNat % 64
      let last := v % 2 ^ 48
      let gone := BitVec.ofNat 64 ((partitionAt r n).records.countP (fun x => x.seq ≤ last))
      let freed := setPartition r n (fun p => { p with records := p.records.filter (fun x => last < x.seq) })
      let t : State := { freed with attic := { freed.attic with flash := r.attic.flash.filter (fun x => x.ev.suite != n || last < x.seq) } }
      done (.atticClear q) (writeRecord (noteSeverity t atticUnit 3 stDone) (atticEvent t n 3 [gone, BitVec.ofNat 64 last])) [gone]) ∧
    (loopUnit u = true → c.code = 0xF0 → building → loopBarred r u c.arg = false →
      let count := a.toNat % 2 ^ 16
      let length := a.toNat / 2 ^ 16 % 2 ^ 16
      let seconds := a.toNat / 2 ^ 32 % 2 ^ 16
      (1 ≤ c.arg ∧ c.arg ≤ 3 ∧ count ≠ 0 ∧ lengthOk r u length = true ∨ c.arg = 4 ∧ 1 ≤ seconds ∧ seconds ≤ 3600) →
      let b := takeDown r u
      exec (.loopTest q) s = .next { b with tests := tput b.tests (unitKey u) { depth := c.arg, count := count, length := length, durationS := seconds
                                                                                testId := v % 2 ^ 29, startTick := r.tick, tag := c.tag
                                                                                replyQueue := c.replyQueue, suite := c.suite } })

/-! ### Configuration requests -/

/-- The oldest request of context `c` is `r`, none of the context's waits for its completion, and no failed pass stops it (R101). -/
structure Configures (s : State) (c : Nat) (r : CfgReq) : Prop where
  head : headRequest s c = some r
  free : s.seq.waiting.any (fun w => w.req.ctx == c) = false
  goes : inPass (takeRequest s r) r = true → (takeRequest s r).seq.passFailed = none

/-- Such a request is for the unit `u`. -/
structure Addresses (s : State) (c : Nat) (r : CfgReq) (u : UnitId) : Prop extends Configures s c r where
  target : resolve (takeRequest s r) (r.word 0) = some (.unit u)

/-- A request of a code that only suite 0 issues is for the unit `u`, and suite 0's owner lock does not refuse it (R182). -/
structure ConfiguresUnit (s : State) (c : Nat) (r : CfgReq) (u : UnitId) : Prop extends Addresses s c r u where
  unlocked : (suiteAt (takeRequest s r) 0).locked = false

/-- A request is for the unit `u`, and the owner lock of the issuing suite does not refuse it (R182). -/
structure ConfiguresOwn (s : State) (c : Nat) (r : CfgReq) (u : UnitId) : Prop extends Addresses s c r u where
  unlocked : (suiteAt (takeRequest s r) r.suite).locked = false

/-- The state once the request has been carried out with DONE, leaving `t`. -/
def configured (r : CfgReq) (t : State) : State := finishCfg r { s := t, st := stDone }

/-- The state once the request waits for an event: `t` with the request among those that wait. -/
def waiting (t : State) (r : CfgReq) (epoch : Option Nat) : State :=
  { t with seq := { t.seq with waiting := t.seq.waiting ++ [{ req := r, epoch }] } }

/-- R100's table: each row of CFG, its code, and the OP it goes by. -/
def cfgTable : List ((Nat → Instr) × Nat × (CfgReq → Bool)) :=
  let every := fun _ : CfgReq => true
  [(.cfgUnit, 0x01, every), (.cfgGroup, 0x02, every), (.cfgSuite, 0x03, every), (.cfgQueueSet, 0x04, fun r => !bitAt (r.word 2) 16),
   (.cfgQueueLimit, 0x04, fun r => bitAt (r.word 2) 16), (.cfgPoint, 0x05, every), (.cfgTask, 0x06, fun r => !bitAt (r.word 2) 18),
   (.cfgTaskRemove, 0x06, fun r => bitAt (r.word 2) 18), (.cfgPort, 0x07, every), (.cfgFwdWrite, 0x08, fun r => fwdOp r != 1),
   (.cfgFwdInvalidate, 0x08, fun r => fwdOp r == 1), (.cfgUplink, 0x09, every), (.cfgClockSet, 0x0A, fun r => fld (r.word 2) 0 2 == 0),
   (.cfgClockStep, 0x0A, fun r => fld (r.word 2) 0 2 == 1), (.cfgClockThreshold, 0x0A, fun r => fld (r.word 2) 0 2 == 2),
   (.cfgClockIncrement, 0x0A, fun r => fld (r.word 2) 0 2 == 3), (.cfgHallwayPort, 0x0B, fun r => hallOp r != 1 && hallOp r != 2),
   (.cfgHallwayFilter, 0x0B, fun r => hallOp r == 1), (.cfgHallwaySlot, 0x0B, fun r => hallOp r == 2), (.cfgInput, 0x0C, every),
   (.cfgBank, 0x0D, every), (.cfgMeterCircuit, 0x0E, fun r => meterOp r != 1 && meterOp r != 2), (.cfgMeterPulseOut, 0x0E, fun r => meterOp r == 1),
   (.cfgMeterRegister, 0x0E, fun r => meterOp r == 2), (.cfgHearthSet, 0x0F, fun r => hearthOp r == 0), (.cfgHearthCoef, 0x0F, fun r => hearthOp r == 1),
   (.cfgHearthRemove, 0x0F, fun r => hearthOp r == 2), (.cfgHearthClear, 0x0F, fun r => hearthOp r == 3), (.cfgCellar, 0x10, every),
   (.cfgAttic, 0x11, every), (.cfgScrub, 0x12, every), (.cfgMantelSetup, 0x13, fun r => mantelOp r != 1 && mantelOp r != 2),
   (.cfgMantelHalt, 0x13, fun r => mantelOp r == 1), (.cfgMantelSetRun, 0x13, fun r => mantelOp r == 2), (.cfgTwin, 0x14, every),
   (.cfgPace, 0x15, every), (.cfgLock, 0x16, every), (.cfgEnd, 0x17, every)]

/-- Each of the 38 rows serves the oldest request of its context, where that has the row's code and OP and no request of the
context waits; otherwise it does nothing. In a pass that has failed every request but CFG_END ends REFUSED(STATE) with no
effect; a target that names nothing ends REFUSED(ADDRESS). Ending a request frees one of the context's 8 outstanding places, and
the first failure in a pass stops it. -/
def Obligations.ConfigurationOrder : Prop :=
  (∀ (s : State) (c : Nat), ∀ x ∈ cfgTable,
    (headRequest s c = none → exec (x.1 c) s = .next s) ∧
    (∀ r, headRequest s c = some r → (r.code ≠ x.2.1 ∨ x.2.2 r = false ∨ s.seq.waiting.any (fun w => w.req.ctx == c) = true) →
      exec (x.1 c) s = .next s) ∧
    (∀ r, headRequest s c = some r → r.code = x.2.1 → x.2.2 r = true → s.seq.waiting.any (fun w => w.req.ctx == c) = false →
      inPass (takeRequest s r) r = true → (takeRequest s r).seq.passFailed ≠ none → x.2.1 ≠ 0x17 →
      exec (x.1 c) s = .next (finishCfg r { s := takeRequest s r, st := stRefused .state })) ∧
    (∀ r, Configures s c r → r.code = x.2.1 → x.2.2 r = true → resolve (takeRequest s r) (r.word 0) = none →
      (suiteAt (takeRequest s r) 0).locked = false →
      (x.2.1 = 0x02 → (groupAddress (r.word 0) && enclosesSelf (takeRequest s r) (r.word 0)) = false) →
      (x.2.1 = 0x05 → pointTarget (takeRequest s r) (r.word 0) = none) →
      exec (x.1 c) s = .next (finishCfg r { s := takeRequest s r, st := stRefused .address }))) ∧
  (∀ (s : State) (r : CfgReq) (st : Status) (v : BitVec 64),
    let t := finishCfg r { s, st, result := v }
    t.sram = s.sram ∧ t.seq.reqs = s.seq.reqs ∧
    ((contextAt s r.ctx).steps ≠ 0 → contextAt t r.ctx = { contextAt s r.ctx with outstanding := (contextAt s r.ctx).outstanding - 1 }) ∧
    (inPass s r = true → st.cls ≠ .done → s.seq.passFailed = none → t.seq.passFailed = some r.ticket))

/-- Where its checks pass: CFG_UNIT in the pass sets the address; CFG_GROUP declares a group; CFG_PACE applies to each room
named; CFG_LOCK sets the issuing suite's lock; CFG_SUITE gives the suite its fields; CFG_POINT its owner, type and export map;
CFG_TWIN the mirror window, the heartbeat limit and the partner. CFG_END ends the pass, sets the module in RUN, or to SEEKING
where paired, and starts the tasks loaded with AUTORUN; in a stopped pass it faults STATE and answers the ticket of the request
that failed; after the pass it is refused. -/
def Obligations.ModuleConfiguration : Prop :=
  ∀ (s : State) (c : Nat) (r : CfgReq),
    let b := takeRequest s r
    let w := r.word
    (ConfiguresUnit s c r .module →
      (r.code = 0x01 → inPass b r = true → addrWellFormed (w 2) = true → ((w 3).getLsbD 0 = false ∨ addrDepth (w 2) ≠ 1) →
        unitAddressOk b (w 2) ((w 3).getLsbD 0) = true →
        exec (.cfgUnit c) s = .next (configured r (takeAddress b (w 2) ((w 3).getLsbD 0))) ∧
        (takeAddress b (w 2) ((w 3).getLsbD 0)).addr.self = w 2 ∧ (takeAddress b (w 2) ((w 3).getLsbD 0)).addr.paired = (w 3).getLsbD 0 ∧
        (takeAddress b (w 2) ((w 3).getLsbD 0)).addr.groups = b.addr.groups) ∧
      (r.code = 0x15 → ((w 2).getLsbD 40 = true ∨ 1650 ≤ fld (w 2) 0 16 ∧ fld (w 2) 0 16 ≤ 2000 ∧ fld (w 2) 0 16 + 50 ≤ fld (w 2) 16 16) →
        fld (w 2) 32 8 ≠ 0 → exec (.cfgPace c) s = .next (configured r
          (((List.range 8).filter (fun n => (w 2).getLsbD (32 + n))).foldl (fun t n => { t with rooms := tmod {} t.rooms n (paceRoom (w 2)) }) b))) ∧
      (r.code = 0x03 → suiteFieldsOk (suiteFields r (suiteAt b (fld (w 2) 0 6))) = true →
        suiteApart b (fld (w 2) 0 6) (suiteFields r (suiteAt b (fld (w 2) 0 6))) = true →
        suiteBusy b (fld (w 2) 0 6) (suiteAt b (fld (w 2) 0 6)) (suiteFields r (suiteAt b (fld (w 2) 0 6))) = false →
        exec (.cfgSuite c) s = .next (configured r (applySuite b (fld (w 2) 0 6) (suiteFields r (suiteAt b (fld (w 2) 0 6))))))) ∧
    (Addresses s c r .module →
      (r.code = 0x16 → exec (.cfgLock c) s = .next (configured r (mirror (setSuite b r.suite (fun u => { u with locked := true }))
        (.ownership r.suite (suiteAt b r.suite).owner (suiteAt b r.suite).ownerRank (suiteAt b r.suite).leaseEnd true)))) ∧
      (r.code = 0x17 → inPass b r = true → exec (.cfgEnd c) s = .next (configured r (startLoaded (seek (setUnitStat
        { b with seq := { b.seq with passDone := true }, boot := { b.boot with warm := false } } .module (fun x => { x with state := stRun })))))) ∧
      (r.code = 0x17 → inPass b r = false → exec (.cfgEnd c) s = .next (finishCfg r { s := b, st := stRefused .state }))) ∧
    (headRequest s c = some r → s.seq.waiting.any (fun x => x.req.ctx == c) = false → r.code = 0x17 → inPass b r = true →
      ∀ k, b.seq.passFailed = some k → exec (.cfgEnd c) s = .next (finishCfg r
        { s := raiseEvent b [0] 6 .module (stFault .state) [], st := stFault .state, result := BitVec.ofNat 64 k })) ∧
    (Configures s c r → r.code = 0x02 → (suiteAt b 0).locked = false → groupAddress (w 2) = true → w 0 = w 2 →
      groupOk b (w 2) (fld (w 3) 0 8) ((rangeFrom 4 4).map w) = true →
      let g : GroupDecl := { addr := w 2, speaker := fld (w 3) 0 8, members := (rangeFrom 4 4).map w }
      exec (.cfgGroup c) s = .next (configured r (declareGroup b (w 2) (fld (w 3) 0 8) ((rangeFrom 4 4).map w))) ∧
      (declareGroup b (w 2) (fld (w 3) 0 8) ((rangeFrom 4 4).map w)).addr = { b.addr with groups := tput b.addr.groups (addrDepth (w 2)) g }) ∧
    (Configures s c r → r.code = 0x05 → ∀ e, pointTarget b (w 0) = some e →
      let p : PointCfg := { owner := fld (w 2) 0 6, type := fld (w 2) 8 3, retained := (w 2).getLsbD 11, exportMap := w 3 }
      pointRefusal r b e p = none → exec (.cfgPoint c) s = .next (configured r { b with points := tset (pointDefault e) b.points e p })) ∧
    (ConfiguresUnit s c r landingUnit → r.code = 0x14 → (fld (w 2) 16 8 = 0 ∨ 4 ≤ fld (w 2) 16 8) → b.addr.paired = true →
      (loadedTasks b).any (fun e => e.2.desc.cam && !timingOk e.2.desc (windowFor b (fld (w 2) 0 16))) = false →
      exec (.cfgTwin c) s = .next (configured r (settleEpochs b { b with twin := { b.twin with
        mirrorWindow := fld (w 2) 0 16, hbMiss := fld (w 2) 16 8, noReclaim := (w 2).getLsbD 24, staleOk := (w 2).getLsbD 25
        partnerSerial := fld (w 3) 0 32, mUs := windowFor b (fld (w 2) 0 16) } })))

/-- Where its checks pass: CFG_QUEUE sets a queue up or a suite's limit; CFG_TASK binds, analyses, admits and places the task,
answering the admission result, or removes it, and answers where the code is not analysable or the load is too much; CFG_PORT,
CFG_UPLINK and CFG_HALLWAY apply their fields, or wait for the frame in progress; CFG_FWD acts at once on TXQ and GLOBAL and
otherwise waits for its table to be installed; CFG_CLOCK announces a change, refuses a jump above the threshold that is not
forced, or sets the threshold. -/
def Obligations.QueueTaskAndPortConfiguration : Prop :=
  ∀ (s : State) (c : Nat) (r : CfgReq),
    let b := takeRequest s r
    let w := r.word
    let done := fun (i : Nat → Instr) (t : State) => exec (i c) s = .next (configured r t)
    (ConfiguresOwn s c r (.part larderPart) → r.code = 0x04 →
      let q := fld (w 2) 0 16
      let old := queueAt b q
      let new := queueFields r old
      (∀ n, (w 2).getLsbD 16 = false → queueOwner b q = some n → (r.suite = 0 ∨ n = r.suite ∧ new.fcSel = old.fcSel) → queueFieldsOk new = true →
        fixedQueue q = false → old.qfault = false → resetting b n = false → queueBusy b q old new = false →
        linesInUse b n - queueLines old + queueLines new ≤ limitOf b n →
        done .cfgQueueSet (judgeHigh (setQueue b q (fun x => topUp (queueFields r x))) q)) ∧
      ((w 2).getLsbD 16 = true → r.suite = 0 → q = 0 → w 4 = 0 → w 5 = 0 → resetting b (fld (w 3) 0 6) = false →
        (((List.range 64).filter (· != fld (w 3) 0 6)).map (limitOf b)).sum + fld (w 3) 8 20 ≤ 524288 →
        linesInUse b (fld (w 3) 0 6) ≤ fld (w 3) 8 20 →
        done .cfgQueueLimit { b with larder := { b.larder with
          limits := tset (limitDefault (fld (w 3) 0 6)) b.larder.limits (fld (w 3) 0 6) (fld (w 3) 8 20) } })) ∧
    (∀ p, ConfiguresOwn s c r (.part p) → p.cls = 4 → p.inst ≠ 8 → r.code = 0x06 →
      let n := fld (w 2) 5 6
      let k := ctxKey n (fld (w 2) 0 5)
      let d := withLists b (suiteAt b n) r (taskBody r p.inst)
      (r.suite = 0 ∨ n = r.suite) → k ≠ 0 → resetting b n = false → (suiteAt b n).enabled = true →
      ((taskAt b k).mode = .stop ∨ ((w 2).getLsbD 18 = false ∧ (taskAt b k).mode = .notLoaded)) →
      ((w 2).getLsbD 18 = true → done .cfgTaskRemove (removeTask b k)) ∧
      ((w 2).getLsbD 18 = false → bodyOk b r (suiteAt b n) (taskBody r p.inst) = true → listError b (suiteAt b n) r = none → entriesOk d = true →
        bindingFree (unbindTask b k d) k d = true → sharesOk b d = true → (bindTask (unbindTask b k d) k d).2 = true →
        b.boot.coreFail.getLsbD d.core = false → (roomAt b p.inst).fault = false →
        (∀ a, analyse (codeView b n) d.entry = .refused a → uncorrectableIn b ((suiteAt b n).winBase + a) 4 = none →
          exec (.cfgTask c) s = .next (finishCfg r { s := b, st := stFault .illegal, result := BitVec.ofNat 64 a })) ∧
        (∀ m, analyse (codeView b n) d.entry = .worst m →
          let e := { d with worst := m }
          let answer := admissionResult e (loadSum (e :: coreTasks b k e.core))
          exec (.cfgTask c) s = .next (finishCfg r (if admits b k e
            then { s := placeTask (bindTask (unbindTask b k d) k d).1 k e (runsOnLoad b r e), st := stDone, result := answer }
            else { s := b, st := stRefused .budget, result := answer }))))) ∧
    (∀ p, ConfiguresUnit s c r (.part { cls := 1, inst := p }) → r.code = 0x07 → macFieldsOk (portFields r) = true → powerFieldsOk (portFields r) = true →
      done .cfgPort (applyPort b p (portFields r))) ∧
    (ConfiguresUnit s c r (engineUnit 6) → r.code = 0x08 →
      let table := fld (w 2) 0 3
      let index := fld (w 2) 5 14
      let clear := decide (fwdOp r = 1)
      let row := fun (t : State) => exec (if clear then .cfgFwdInvalidate c else .cfgFwdWrite c) s = .next t
      fwdOp r ≤ 1 → fwdIndexOk table index = true → (clear = true → table ≠ 7) →
      (clear = false → fwdInRange b (acceptedTables b) table index r = true ∧ fwdForeign b (acceptedTables b) table r = false) →
      fwdBusy b (acceptedTables b) clear table index r = false →
      (table = 4 → row (configured r (setTxq b index (if clear then 0 else fld (w 2) 19 16)))) ∧
      (table = 7 → row (configured r (setGlobal b index (w 3)))) ∧
      (table < 4 → row (waiting { b with sw := { b.sw with waiting := b.sw.waiting ++ [tableWrite clear table index r] } } r (some b.sw.epoch)))) ∧
    (∀ i, ConfiguresUnit s c r (.part { cls := 2, inst := i }) → r.code = 0x09 → uplinkOk i (uplinkFields r) (uplinkPortFields r) = true →
      done .cfgUplink (applyUplink b i (uplinkFields r) (uplinkPortFields r))) ∧
    (ConfiguresUnit s c r clockUnit → r.code = 0x0A →
      let target := ofNowForm (w 3) (fld (w 2) 16 16)
      let size := tdiff target (now b)
      let offset := sfld (w 3) 0 64
      let force := (w 2).getLsbD 2
      (fld (w 2) 0 2 = 0 → b.twin.role ≠ .standby → target.ns < giga →
        (b.clock.isSet = false → done .cfgClockSet (announce b (.jump target true false))) ∧
        (b.clock.isSet = true → (size.natAbs ≤ b.clock.threshold ∨ force = true) →
          done .cfgClockSet (announce b (.jump target false (decide (b.clock.threshold < size.natAbs))))) ∧
        (b.clock.isSet = true → b.clock.threshold < size.natAbs → force = false →
          exec (.cfgClockSet c) s = .next (finishCfg r { s := refuseJump b size, st := stRefused .range }))) ∧
      (fld (w 2) 0 2 = 1 → b.twin.role ≠ .standby →
        (offset.natAbs ≤ b.clock.threshold ∨ force = true →
          done .cfgClockStep (announce b (.step offset (decide (b.clock.threshold < offset.natAbs))))) ∧
        (b.clock.threshold < offset.natAbs → force = false →
          exec (.cfgClockStep c) s = .next (finishCfg r { s := refuseJump b offset, st := stRefused .range }))) ∧
      (fld (w 2) 0 2 = 2 → 1000 ≤ fld (w 3) 0 32 → fld (w 3) 0 32 ≤ 4000000000 →
        done .cfgClockThreshold { b with clock := { b.clock with threshold := fld (w 3) 0 32 } }) ∧
      (fld (w 2) 0 2 = 3 → b.twin.role ≠ .standby → incrementOk (fld (w 2) 32 32) = true →
        done .cfgClockIncrement (announce b (.increment (fld (w 2) 32 32))))) ∧
    (∀ h, ConfiguresUnit s c r (.part { cls := 3, inst := h }) → r.code = 0x0B →
      (fld (w 2) 0 2 = 0 → hallOk (hallFields r) = true →
        exec (.cfgHallwayPort c) s = .next (if hallRejoins (hallAt b h).cfg (hallFields r) && (attempting b h).isSome
          then waiting b r none else configured r (applyHall b h (hallFields r)))) ∧
      (fld (w 2) 0 2 = 1 →
        let f := filterFields r
        let n := fld (w 2) 2 6
        let puts := f.valid && f.queueAction
        let old := tget {} (hallAt b h).filters n
        let q := if old.valid && old.queueAction then old.queue else 0
        let t := setHall b h (fun x => { x with filters := tset {} x.filters n f })
        (f.valid = true → f.fmt &&& ~~~ enabledFormats (hallAt b h).cfg = 0) → (puts = true → fixedQueue f.queue = false ∧ mayPut b f.suite f.queue = true) →
        resetting b f.suite = false → done .cfgHallwayFilter (redirect t (hallPart h) q (if puts then f.queue else 0) (hallDirected t h q))) ∧
      (fld (w 2) 0 2 = 2 →
        let x := hallSlotFields r
        let n := fld (w 2) 2 4
        let u := suiteAt b x.suite
        (x.valid = true → x.fmt &&& ~~~ enabledFormats (hallAt b h).cfg = 0 ∧ fixedQueue x.queue = false ∧
          u.queueFirst ≤ x.queue ∧ x.queue < u.queueFirst + u.queueCount) →
        resetting b x.suite = false →
        exec (.cfgHallwaySlot c) s = .next (if (tlook (hallAt b h).offered n).isSome && slotQueue (tget {} (hallAt b h).slots n) != slotQueue x
          then waiting b r none else configured r (applyHallSlot b h n x))))

/-- Where its checks pass: CFG_INPUT sets a block and its disabled inputs read 0; CFG_BANK applies its fields; CFG_METER accepts
a circuit, a pulse output or a register for the next window; CFG_HEARTH sets, changes, clears or removes a slot; CFG_CELLAR,
CFG_ATTIC, CFG_SCRUB and CFG_MANTEL set their fields, HALT stops the Mantel clock and SET_RUN loads it, at once or, with
AT_HOUSE, at the next whole second of house time. -/
def Obligations.UtilityAndHouseConfiguration : Prop :=
  ∀ (s : State) (c : Nat) (r : CfgReq),
    let b := takeRequest s r
    let w := r.word
    let done := fun (i : Nat → Instr) (t : State) => exec (i c) s = .next (configured r t)
    (ConfiguresUnit s c r inputUnit → r.code = 0x0C → inputOk (fld (w 2) 0 3) (inputFields r) = true →
      let n := fld (w 2) 0 3
      let t := repin { b with inputs := { b.inputs with blocks := tset {} b.inputs.blocks n (inputFields r) } } n (inputBlock b n) (inputFields r)
      done .cfgInput (((rangeFrom (8 * n) 8).filter (fun n => !inputOn t n)).foldl (fun s n => publishInput s n false) t)) ∧
    (∀ n, ConfiguresUnit s c r (.part { cls := 7, inst := n }) → r.code = 0x0D → n < 6 → bankOk b n (bankFields r) = true →
      ((bankAt b n).cfg.enable = false ∨ (bankFields r).enable = true ∨
        (loadedTasks b).any (fun t => t.2.desc.outList.any (fun e => isDo e && (e - 0x40) / 8 == n)) = false) →
      done .cfgBank (restandSafe (settleBank (repolice (setBank b n (fun x => { x with
        cfg := bankFields r, retries := 0, state := if x.state = .lockedOut then .opened else x.state })) n) n) n)) ∧
    (∀ m, m < 8 → ConfiguresUnit s c r (.part { cls := 7, inst := m + 8 }) → r.code = 0x0E →
      (fld (w 2) 0 2 = 0 → circuitOk m (circuitFields r) = true →
        (m = 0 ∨ (circuitFields r).enable = false ∨ (acceptedCircuit b 0).enable = true) → ownerBusy b (circuitFields r).owner = false →
        ((circuitFields r).owner = (acceptedCircuit b m).owner ∨ circuitListed b m = false) →
        done .cfgMeterCircuit (setCircuit b m (fun x => { x with next := some (circuitFields r), clear := x.clear || (w 2).getLsbD 12 }))) ∧
      (fld (w 2) 0 2 = 1 →
        let p := pulseFields m r
        let n := fld (w 2) 2 2
        p.source ≤ 4 → 2 ≤ p.widthMs → p.widthMs ≤ 250 → 1 ≤ p.weight → p.weight ≤ 10000000 →
        (bankAt b 5).cfg.enable = true → safeOn b (44 + n) = false → (loadedTasks b).any (fun t => t.2.desc.outList.contains (0x40 + 44 + n)) = false →
        done .cfgMeterPulseOut { b with meter := { b.meter with pulseNext := tput b.meter.pulseNext n p } }) ∧
      (fld (w 2) 0 2 = 2 → m = 0 →
        let g := registerFields r
        let n := fld (w 2) 2 4
        let kept := (tlook b.meter.regNext n).bind (·.2)
        1 ≤ g.weight → g.weight ≤ 1000000000 → ownerBusy b g.owner = false → inputCounts b n = true →
        done .cfgMeterRegister { b with meter := { b.meter with
          regNext := tput b.meter.regNext n (g, if (w 2).getLsbD 13 then some (w 4).toNat else kept) } })) ∧
    (Addresses s c r (.part hearthPart) → r.code = 0x0F →
      let n := fld (w 2) 0 12
      let old := slotAt b n
      let change := fun (new : Slot) => directSlot (setSlot b n (fun _ => new)) n old new
      (hearthOp r = 0 → hearthRefusal r b old (slotFields r old) = none → done .cfgHearthSet (change (slotFields r old))) ∧
      (hearthOp r = 1 → hearthRefusal r b old (coefFields r old) = none → done .cfgHearthCoef (change (coefFields r old))) ∧
      (hearthOp r = 2 → hearthRefusal r b old (removedSlot r old) = none → done .cfgHearthRemove (change (removedSlot r old))) ∧
      (hearthOp r = 3 → hearthRefusal r b old (clearState old) = none → done .cfgHearthClear (change (clearState old)))) ∧
    (ConfiguresUnit s c r (.part cellarPart) → r.code = 0x10 →
      let parent := BitVec.ofNat 32 (fld (w 2) 32 32)
      (fld (w 2) 0 2 = 0 ∨ fld (w 2) 0 2 = 2 ∨ fld (w 2) 0 2 = 1 ∧ ∃ n, liveSlot b parent = some n ∧ isRoot n = false) →
      done .cfgCellar { b with cellar := { b.cellar with
        tamperMode := fld (w 2) 0 2, tamperParent := parent, pairAuth := BitVec.ofNat 32 (fld (w 3) 0 32) } }) ∧
    (ConfiguresUnit s c r atticUnit →
      (r.code = 0x11 → 10 ≤ fld (w 2) 16 14 → fld (w 2) 16 14 ≤ 10000 → done .cfgAttic { b with attic := { b.attic with
        persistSev := fld (w 2) 0 3, persistEn := (w 2).getLsbD 3, flushMs := fld (w 2) 16 14 } }) ∧
      (r.code = 0x12 → 5 ≤ fld (w 2) 0 10 → fld (w 2) 0 10 ≤ 1000 → done .cfgScrub { b with attic := { b.attic with
        scrubInterval := fld (w 2) 0 10, scrubStop := (w 2).getLsbD 10, scrubLine := if (w 2).getLsbD 11 then 0 else b.attic.scrubLine
        cycleTick := if (w 2).getLsbD 11 then b.tick else b.attic.cycleTick } })) ∧
    (ConfiguresUnit s c r mantelUnit → r.code = 0x13 →
      let load := fun (halt : Bool) (at' : Option Nat) => ({ b.mantel with
        halt, seconds := fld (w 3) 0 48, fraction := 0, oscStop := false, trimAcc := 0, window := none, loadAt := at' } : Mantel)
      (fld (w 2) 0 2 = 0 → fld (w 2) 2 2 < 3 → fld (w 2) 4 2 < 3 → fld (w 2) 6 2 < 3 → fld (w 3) 0 23 ≤ 5529600 →
        -2083 ≤ sfld (w 3) 32 13 → sfld (w 3) 32 13 ≤ 2083 →
        let same := fld (w 2) 6 2 == b.mantel.trimSrc
        let x : Mantel := { b.mantel with
          chgV := fld (w 2) 2 2, chgR := fld (w 2) 4 2, trimSrc := fld (w 2) 6 2, wakeTicks := fld (w 3) 0 23, trim := sfld (w 3) 32 13
          window := if same then b.mantel.window else none, trimDone := if same then b.mantel.trimDone else none }
        done .cfgMantelSetup { b with mantel := if (w 2).getLsbD 8 then { x with bakFirst := 0, bakSwitches := 0, bakLatched := false } else x }) ∧
      (fld (w 2) 0 2 = 1 → done .cfgMantelHalt { b with mantel := { b.mantel with halt := true, fraction := 0, window := none } }) ∧
      (fld (w 2) 0 2 = 2 → (w 2).getLsbD 2 = false → done .cfgMantelSetRun { b with mantel := load false b.mantel.loadAt }) ∧
      (fld (w 2) 0 2 = 2 → (w 2).getLsbD 2 = true → b.clock.isSet = true → exec (.cfgMantelSetRun c) s = .next (waiting
        { b with mantel := { load true (some ((now b).sec + 1)) with loadIsReload := false } } r none)))

/-! ### Key requests -/

/-- The state in which a key request is carried out: the request has left its suite's queue, and the suite was served last (R350). -/
def keyBegun (s : State) (n : Nat) : State :=
  { s with cellar := { s.cellar with
    reqs := eraseFirst (fun x => x.suite == n) s.cellar.reqs
    served := tset 0 s.cellar.served n ((s.cellar.served.map (·.2)).foldl max 0 + 1) } }

/-- The head request of suite `n` is `r`, of operation `op`; it need not wait, and its suite has its turn (R118, R350). -/
structure KeyHeads (s : State) (n op : Nat) (r : KeyReq) : Prop where
  head : s.cellar.reqs.find? (fun x => x.suite == n) = some r
  op : r.op = op
  free : heldBack s r = false
  turn : keyTurn s r = true

/-- Such a request is served: the Cellar runs (R339, R348), and every handle that it names is live (R116). -/
structure KeyServed (s : State) (n op : Nat) (r : KeyReq) : Prop extends KeyHeads s n op r where
  runs : keyBarred (keyBegun s n) = none
  live : ∀ h ∈ namedHandles r, (findKey (keyBegun s n) h).isSome = true

/-- The state once a key request has ended with a status and RESULT, leaving `t`: the slots it changed go into the mirror delta. -/
def keyEnded (b t : State) (r : KeyReq) (st : Status) (result : Nat) : State :=
  completeKey (mirrorChanges b t ((b.cellar.keys ++ t.cellar.keys).map (·.1)).eraseDups) r st (BitVec.ofNat 64 result)

/-- The keys that a request names, once each, have been used (R345). -/
def keyUsed (b : State) (r : KeyReq) (t : State) : State := (namedSlots b r).foldl useKey t

/-- The bytes of a buffer of the issuing suite's window that a request names. -/
def keyBuffer (s : State) (r : KeyReq) (w : BitVec 64) : List Byte :=
  readBytes s.sram ((suiteAt s r.suite).winBase + w.toNat % 2 ^ 32) (w.toNat / 2 ^ 32)

/-- The state once a buffer has been read: the correctable errors met are corrected and counted (R64); one of length 0 is not read. -/
def heard (r : KeyReq) (w : BitVec 64) (s : State) : State :=
  if w.toNat / 2 ^ 32 = 0 then s else correctErrors s ((suiteAt s r.suite).winBase + w.toNat % 2 ^ 32) (w.toNat / 2 ^ 32)

/-- The Threshold allows a buffer to be read (R118), and it holds no uncorrectable error. -/
def BufferOk (s : State) (r : KeyReq) (w : BitVec 64) : Prop :=
  w.toNat / 2 ^ 32 = 0 ∨ windowAllows (suiteAt s r.suite) .load (w.toNat % 2 ^ 32) (w.toNat / 2 ^ 32) = true ∧
    uncorrectableIn s ((suiteAt s r.suite).winBase + w.toNat % 2 ^ 32) (w.toNat / 2 ^ 32) = none

/-- OUT takes `len` bytes: it is long enough, and the Threshold allows the store, if there is one (R117, R118). -/
structure OutOk (s : State) (r : KeyReq) (len : Nat) : Prop where
  size : len ≤ (r.word 3).toNat / 2 ^ 32
  rights : len = 0 ∨ windowAllows (suiteAt s r.suite) .store ((r.word 3).toNat % 2 ^ 32) len = true

/-- The state with `bs` stored to OUT. -/
def outStored (s : State) (r : KeyReq) (bs : List Byte) : State :=
  if bs.isEmpty then s else storeBytes s r.ctx (suiteAt s r.suite) ((r.word 3).toNat % 2 ^ 32) bs

/-- The key that a request creates under slot `p`, with a secret. -/
def childKey (s : State) (p slot : Nat) (attr : BitVec 16) (secret : List Byte) : Key :=
  { present := true, gen := (keyAt s slot).gen, suite := (keyAt s p).suite, attr, secret, parent := slotHandle s p
    depth := (keyAt s p).depth + 1, usesLeft := attr.toNat / 1024, created := now s }

/-- R338, R341, R160: slot `slot` is the next free one, and a child of `p` keeps the depth and the quota. -/
structure RoomFor (s : State) (p slot : Nat) : Prop where
  free : freeSlot s = some slot
  depth : (keyAt s p).depth < 6
  quota : slotsHeld s (keyAt s p).suite < (suiteAt s (keyAt s p).suite).keyQuota

/-- R117: the 11 key operations and their codes. -/
def keyTable : List ((Nat → Instr) × Nat) :=
  [(.kgen, 1), (.kderive, 2), (.kseal, 3), (.kopen, 4), (.ksign, 5), (.kverify, 6), (.kagree, 7), (.kexport, 8), (.kimport, 9), (.kdestroy, 10),
   (.kinfo, 11)]

/-- HANDLE2 names the live AES-256 key of slot `w`, of the same suite as slot `p` (R344). -/
structure Wraps (s : State) (r : KeyReq) (p w : Nat) : Prop where
  key : findKey s r.handle2 = some (.slot w)
  general : 64 ≤ w
  type : attrType (keyAt s w).attr = 1
  suite : (keyAt s w).suite = (keyAt s p).suite

/-- Where the request is served, HANDLE names the key of a slot, ATTR is allowed and there is room: KGEN gives a child with a
fresh random secret, KDERIVE one derived by HKDF from a parent of TYPE 2, KAGREE one from an agreed secret (REFUSED(CHECK) where
the peer's key agrees on none), and KIMPORT one with the public key given, or with the secret of a wrapped form (REFUSED(CHECK)
where its tag or its TYPE does not agree); the child takes the parent's suite, the next depth, the USES of ATTR and the present
time, and RESULT is its handle. KDERIVE and KAGREE count a use of each key that they name. (The cryptographic functions are
opaque.) -/
def Obligations.KeyCreation : Prop :=
  ∀ (s : State) (n : Nat) (r : KeyReq) (p slot : Nat),
    let b := keyBegun s n
    let ends := fun (i : Nat → Instr) (t : State) (st : Status) (v : Nat) => exec (i n) s = .next (keyEnded b t r st v)
    let made := fun (i : Nat → Instr) (t : State) (secret : List Byte) (use : State → State) => RoomFor t p slot →
      ends i (use (placeKey t slot (childKey t p slot r.attr secret))) stDone (mkHandle slot (keyAt t p).suite (keyAt t slot).gen).toNat
    let key := keyAt b p
    let type := attrType r.attr
    findKey b r.handle = some (.slot p) →
    (KeyServed s n 1 r → attrOk key.suite r.attr [1, 2, 3, 4, 5, 6] = true →
      made .kgen { b with free := b.free + 1 } ((List.range (secretLen type)).map (Config.randomByte b.free)) id) ∧
    (KeyServed s n 2 r → attrType key.attr = 2 → attrOk key.suite r.attr [1, 2] = true → (r.word 4).toNat / 2 ^ 32 ≤ 64 →
      (r.word 5).toNat / 2 ^ 32 ≤ 48 → BufferOk b r (r.word 4) → BufferOk (heard r (r.word 4) b) r (r.word 5) →
      made .kderive (heard r (r.word 5) (heard r (r.word 4) b)) (hkdf key.secret (keyBuffer b r (r.word 5)) (keyBuffer b r (r.word 4)) (secretLen type))
        (keyUsed b r)) ∧
    (KeyServed s n 7 r → 64 ≤ p → attrType key.attr = 4 ∨ attrType key.attr = 6 → attrOk key.suite r.attr [1, 2] = true →
      (r.word 2).toNat / 2 ^ 32 = (if attrType key.attr = 4 then 97 else 1088) → BufferOk b r (r.word 2) →
      match Config.agree (attrType key.attr) key.secret (keyBuffer b r (r.word 2)) with
      | none => ends .kagree (keyUsed b r (heard r (r.word 2) b)) (stRefused .check) 0
      | some shared =>
        made .kagree (heard r (r.word 2) b) (if attrType key.attr = 4 ∧ type = 1 then (List.range 32).map (Config.agreedByte shared) else shared)
          (keyUsed b r)) ∧
    (KeyServed s n 9 r → attrOk key.suite r.attr [1, 2, 3, 4, 5, 6, 7, 8] = true →
      (r.handle2 = 0 → type = 7 ∨ type = 8 → (r.word 2).toNat / 2 ^ 32 = secretLen type → BufferOk b r (r.word 2) →
        made .kimport (heard r (r.word 2) b) (keyBuffer b r (r.word 2)) id) ∧
      (∀ w, (r.handle2 ≠ 0 ∨ ¬(type = 7 ∨ type = 8)) → Wraps b r p w → (r.word 2).toNat / 2 ^ 32 = 30 + secretLen type → BufferOk b r (r.word 2) →
        match gcmOpen (keyAt b w).secret ((keyBuffer b r (r.word 2)).take 12) [BitVec.ofNat 8 key.suite, BitVec.ofNat 8 type]
          ((keyBuffer b r (r.word 2)).drop 12) with
        | none => ends .kimport (heard r (r.word 2) b) (stRefused .check) 0
        | some text =>
          if attrType (BitVec.ofNat 16 (natOf (text.take 2))) = type then made .kimport (heard r (r.word 2) b) (text.drop 2) id
          else ends .kimport (heard r (r.word 2) b) (stRefused .check) 0))

/-- With a live key of the right TYPE and buffers that may be read and written: KSEAL stores ciphertext and tag, KOPEN the
plaintext or ends REFUSED(CHECK) with OUT unwritten, KSIGN a signature, by a key of a slot or a fixed key, KVERIFY accepts or
ends REFUSED(CHECK), KEXPORT stores the public key or the wrapped form, KINFO the 32 bytes of attributes, and RESULT is the
length; KDESTROY destroys a general key and its descendants, or renews a suite root. KSEAL to KEXPORT count a use of each key
that they name. All 11 operations end FAULT(BINDING) on a stale handle, and with the Cellar's status where it does not run. -/
def Obligations.KeyUse : Prop :=
  ∀ (s : State) (n : Nat) (r : KeyReq),
    let b := keyBegun s n
    let b1 := heard r (r.word 2) b
    let b2 := heard r (r.word 4) b1
    let b3 := heard r (r.word 5) b2
    let text := keyBuffer b r (r.word 2)
    let aux := keyBuffer b r (r.word 4)
    let aad := keyBuffer b r (r.word 5)
    let used := keyUsed b r
    let ends := fun (i : Nat → Instr) (t : State) (st : Status) (v : Nat) => exec (i n) s = .next (keyEnded b t r st v)
    (∀ x ∈ keyTable, KeyHeads s n x.2 r →
      (∀ st, keyBarred b = some st → ends x.1 b st 0) ∧
      (keyBarred b = none → (∃ h ∈ namedHandles r, findKey b h = none) → ends x.1 b (stFault .binding) 0)) ∧
    (∀ p, findKey b r.handle = some (.slot p) → 64 ≤ p →
      let k := keyAt b p
      let t := attrType k.attr
      ((r.word 2).toNat / 2 ^ 32 ≤ 65536 → (r.word 4).toNat / 2 ^ 32 = 12 →
        BufferOk b r (r.word 2) → BufferOk b1 r (r.word 4) → BufferOk b2 r (r.word 5) → t = 1 →
        (KeyServed s n 3 r → OutOk b r ((r.word 2).toNat / 2 ^ 32 + 16) →
          ends .kseal (used (outStored b3 r (gcmSeal k.secret aux aad text))) stDone (gcmSeal k.secret aux aad text).length) ∧
        (KeyServed s n 4 r → 16 ≤ (r.word 2).toNat / 2 ^ 32 → OutOk b r ((r.word 2).toNat / 2 ^ 32 - 16) →
          match gcmOpen k.secret aux aad text with
          | none => ends .kopen (used b3) (stRefused .check) 0
          | some plain => ends .kopen (used (outStored b3 r plain)) stDone plain.length)) ∧
      (KeyServed s n 6 r → (r.word 2).toNat / 2 ^ 32 ≤ 65536 → BufferOk b r (r.word 2) → BufferOk b1 r (r.word 4) →
        t = 3 ∨ t = 5 ∨ t = 7 ∨ t = 8 → (r.word 4).toNat / 2 ^ 32 = signatureLen t →
        ends .kverify (used b2) (if Config.verifies t (publicOf t k.secret) text aux then stDone else stRefused .check) 0) ∧
      (∀ w, KeyServed s n 8 r → r.handle2 ≠ 0 ∨ ¬(3 ≤ t ∧ t ≤ 6) → attrExport k.attr = true → Wraps b r p w →
        let nonce := (List.range 12).map (Config.randomByte b.free)
        let form := nonce ++ gcmSeal (keyAt b w).secret nonce [BitVec.ofNat 8 k.suite, BitVec.ofNat 8 t] (bytesOf 2 k.attr.toNat ++ k.secret)
        OutOk b r form.length → ends .kexport (used (outStored { b with free := b.free + 1 } r form)) stDone form.length)) ∧
    (∀ k, findKey b r.handle = some k →
      let t := refType b k
      let sig := (List.range (signatureLen t)).map (Config.signByte b.free t (refSecret b k) text)
      let pub := publicOf t (refSecret b k)
      (KeyServed s n 5 r → t = 3 ∨ t = 5 → (r.word 2).toNat / 2 ^ 32 ≤ 65536 → BufferOk b r (r.word 2) → OutOk b r (signatureLen t) →
        ends .ksign (used (outStored { b1 with free := b.free + 1 } r sig)) stDone sig.length) ∧
      (KeyServed s n 8 r → r.handle2 = 0 → 3 ≤ t → t ≤ 6 → OutOk b r pub.length → ends .kexport (used (outStored b r pub)) stDone pub.length) ∧
      (KeyServed s n 11 r → OutOk b r 32 → ends .kinfo (outStored b r (wordBytes (keyInfoWords b k))) stDone 32)) ∧
    (∀ p, findKey b r.handle = some (.slot p) → KeyServed s n 10 r →
      ends .kdestroy (if p < 64 then createRoot (destroyKeys b (descendants b 6 [p])) p else destroyKeys b [p]) stDone 0)

/-! ### The scan cycle's events -/

/-- The state in which a starting cycle's inputs are frozen: cancelled cycles, waiting writes and outcomes of earlier cycles are done with, and the take caches are filled (R110, R132, R145, R157). -/
def cyclePrepared (s : State) (c : Nat) : State :=
  (List.range 8).foldl (fun s b => deliver s c b) (sendOutcomes (applyAllOnline (settleAll s) c) c)

/-- Where the collector takes up its order: a cycle of its own in which no token waits any longer is over (R136). -/
def collectorNow (s : State) : Collector :=
  let k := s.collector
  if (nextToken s k.n k.index).isNone then { k with n := (if k.index = 0 then k.n else (k.n + 1) % 2 ^ 32), index := 0 } else k

/-- The collector's next token is that of task `c`, whose cycle is `y`, at place `i` of the collector's cycle (R136). -/
structure TokenNext (s : State) (i c : Nat) (y : Cycle) : Prop where
  token : nextToken s (collectorNow s).n (collectorNow s).index = some (i, c)
  cycle : (taskAt s c).cycle = some y

/-- The token comes later than 10 µs before the commit time (R139). -/
def TokenLate (s : State) (y : Cycle) : Prop := 0 < tdiff (now s) (taddNs y.commit (-10000))

/-- The state in which the collector has taken the token of task `c` with cycle `y`: MAX_ACCEPT is kept and the journal record is cut,
with the commit time that a late cycle under STRETCH moves to (R136, R152, R154). -/
def tokenTaken (s : State) (i c : Nat) (y : Cycle) (commit : Time80) : State :=
  cutRecord
    (setTask { s with collector := { collectorNow s with index := i + 1 } } c
      (fun t => { t with maxAccept := max t.maxAccept (satN 32 (tdiff (now s) y.start).toNat) }))
    { suite := ctxSuite c, task := ctxTask c, cyc := y.number, commit, lines := y.lines, points := [] }

/-- The state once a token after DEADLINE has been counted as a deadline miss (R137). -/
def missNoted (s : State) (c : Nat) (y : Cycle) : State :=
  if 0 < tdiff (now s) (taddUs y.start (taskAt s c).desc.deadline) then
    raiseEvent (setTask s c (fun t => { t with dlMiss := bump 16 t.dlMiss })) [ctxSuite c] 2 (roomUnit ((taskAt s c).desc.core / 4)) stDone []
  else s

/-- The state in which commits are judged: cancelled cycles are settled, and the output values whose instant has come are released (R135, R143). -/
def commitsJudged (s : State) : State := switchLatches (settleAll s)

/-- The accepted cycle `y` of task `c` is due to commit, and no other is due before it (R30, R135). -/
structure CommitDue (s : State) (c : Nat) (y : Cycle) : Prop where
  cycle : (taskAt s c).cycle = some y
  clock : s.clock.clkFault = false
  accepted : y.phase = .accepted
  due : reached (now s) y.commit = true
  first : earlierCommit s c y = false

/-- At its grid start a task that may run begins a cycle: registers, stacks and FLAGS are cleared, pc is ENTRY, the cycle number
goes up by one, inputs are frozen and the commit time is fixed. The collector takes the next token: in time the cycle waits for
its commit, after DEADLINE with a miss counted; late it is an overrun under the task's policy. At its commit time a cycle's
points, outputs, packets and acknowledgements take effect together; a CAM cycle without confirmation is an overrun. -/
def Obligations.CycleEvents : Prop :=
  ∀ (s : State) (c : Nat),
    let d := (taskAt s c).desc
    (∀ start, mayStart s c = true → (taskAt s c).nextStart = some start → reached (now s) start = true → wholeUs (now s) = wholeUs start →
      let b := cyclePrepared s c
      let e := (taskAt b c).desc
      exec (.cycleStart c) s = .next (setTask b c (fun t => { t with
        ctx := { t.ctx with
          w := Vector.replicate 32 0, a := Vector.replicate 4 0, pc := BitVec.ofNat 32 e.entry, calls := [], loops := [], flags := 0
          cycle := (t.ctx.cycle + 1) % 2 ^ 64, tsnap := start, tcommit := taddUs start e.commitOffset, steps := 0, packet := none }
        snapshot := e.inList.foldl (fun acc n => tset { v := 0 } acc n (imageValue b n)) []
        lastStart := some start
        nextStart := some (taddUs start e.period)
        brkArm := (t.brkArmNext.map (·.1)).getD t.brkArm
        brkHoldMap := (t.brkArmNext.map (·.2)).getD t.brkHoldMap
        brkArmNext := none
        brkHold := false
        cycle := some { number := (t.ctx.cycle + 1) % 2 ^ 64, start, commit := taddUs start e.commitOffset } }))) ∧
    (mayStart s c = false → exec (.cycleStart c) s = .next s) ∧
    (∀ i y, TokenNext s i c y →
      (¬ TokenLate s y →
        let b := missNoted (tokenTaken s i c y y.commit) c y
        exec .cycleAccept s = .next (endCollectorCycle (awaitCommit b c y y.commit))) ∧
      (TokenLate s y →
        let m := stretchPeriods s d y
        let b := tokenTaken s i c y (if d.overrun = .stretch then taddUs y.commit (m * d.period) else y.commit)
        exec .cycleAccept s = .next (endCollectorCycle (match d.overrun with
          | .skip => skipOverrun b c y
          | .stretch => stretchOverrun b c y
          | .fault => faultOverrun b c y)))) ∧
    (nextToken s (collectorNow s).n (collectorNow s).index = none → exec .cycleAccept s = .next s) ∧
    (let j := commitsJudged s
     let d := (taskAt j c).desc
     ∀ y, CommitDue j c y →
      (d.cam = false ∨ y.confirmed = true →
        let b := openInstant (stopSafe j c) y.commit
        let b := if d.cam then b else (commitEntries b c y).foldl mirror b
        let e := commitQueues (commitPoints b c y (stagedValues j y.staged)) c y.staged
        let e := mirrorSlots (if d.cam then { e with twin := { e.twin with waiting := b.twin.waiting } } else e) c
        let e := setTask e c (fun t => { t with cycle := none, lastStatus := stDone, committed := true })
        exec (.commit c) s = .next (switchLatches (afterCycle (suiteCommitted e (ctxSuite c)) c))) ∧
      (d.cam = true → y.confirmed = false →
        exec (.commit c) s = .next (if d.overrun = .fault then faultOverrun j c y else skipOverrun j c y))) ∧
    ((taskAt (commitsJudged s) c).cycle = none → exec (.commit c) s = .next (commitsJudged s))

/-- A pending RUN or STEP of task `c` has come to its grid start, with no cycle under way (R147). -/
structure TransitionDue (s : State) (c : Nat) (p : PendingMode) : Prop where
  pending : (taskAt s c).pending = some p
  due : reached (now s) p.at80 = true
  idle : (taskAt s c).cycle = none
  suite : resetting s (ctxSuite c) = false
  pass : ctxSuite c = 0 ∨ s.seq.passDone = true

/-- An attachment once the reservations of task `c` that have come to their end have lapsed (R96). -/
def lapse (at80 : Time80) (c : Nat) (a : Attach) : Attach :=
  let mine : Bool := match a.who with
    | .task k _ => decide (k = c)
    | _ => false
  let past : Bool := match a.reservedUntil with
    | some t => reached at80 t
    | none => false
  if mine = true ∧ past = true then { a with reservedUntil := none } else a

/-- MODE_TRANSITION puts a pending RUN into RUN and a pending STEP into a single step. A held task's last committed outputs are
released again at each grid commit time, at which no cycle of its own commits; HOLD_MAX stops it, and a stopped task's outputs
go safe at the first grid commit time. Waiting online writes are applied between cycles. The foundation program is ended 600 s
after its start. The oldest staged journal record is written, or a broken journal replaced by a checkpoint. A reservation lapses
at its end. -/
def Obligations.TaskModeEvents : Prop :=
  ∀ (s : State) (c : Nat),
    let d := (taskAt s c).desc
    (∀ p, TransitionDue s c p →
      (p.step = true → exec (.modeTransition c) s = .next (mirrorMode (setTask s c (fun t => { t with
        mode := .hold, pending := none, stepping := true, holdUntil := none, nextStart := some p.at80 })) c)) ∧
      (p.step = false → exec (.modeTransition c) s = .next (recheckSuite (mirrorMode (setTask s c (fun t => { t with
        mode := .run, pending := none, stepping := false, autoRun := false, holdUntil := none, rereleased := none, nextStart := some p.at80 })) c) (ctxSuite c)))) ∧
    ((taskAt s c).pending = none → exec (.modeTransition c) s = .next s) ∧
    ((taskAt s c).mode = .hold → commitsNow s (taskAt s c) = false → runsTasks s = true → s.clock.clkFault = false →
      gridUs d.period (d.phase + d.commitOffset) (wholeUs (now s)) = wholeUs (now s) → (taskAt s c).rereleased ≠ some (ofUs (wholeUs (now s))) →
      exec (.holdRerelease c) s = .next (
        let b := setTask s c (fun t => { t with rereleased := some (ofUs (wholeUs (now s))) })
        let vals := ((taskOutputs d).filter (fun n => (outputAt s n).touched)).map (fun n => (n, (outputAt s n).committed))
        switchLatches (if utilDown b then b else { b with
          latches := b.latches ++ [{ ctx := c, cyc := 0, at80 := ofUs (wholeUs (now s)), vals, committed := true }] }))) ∧
    (let due := fun (x : SafeDrive) => decide (x.ctx = c) && reached (dieTime s 4) x.at80
     exec (.stopSafeState c) s = .next (((s.safeDrives.filter due).flatMap (·.outs)).foldl driveSafe
       { s with safeDrives := s.safeDrives.filter (fun x => !due x) })) ∧
    (∀ due, (taskAt s c).mode = .hold → (taskAt s c).stepping = false → (taskAt s c).holdUntil = some due →
      exec (.holdMaxTimeout c) s = .next (if due ≤ s.tick then enterStop s c .hold stDone else s)) ∧
    ((taskAt s c).cycle = none ∨ (∃ y, (taskAt s c).cycle = some y ∧ y.phase ≠ .executing) →
      exec (.onlineChangeApply c) s = .next ((taskAt s c).online.foldl (fun s o => applyOnline s c o) (setTask s c (fun t => { t with online := [] })))) ∧
    (∀ y, (taskAt s c).cycle = some y → y.phase = .executing → exec (.onlineChangeApply c) s = .next s) ∧
    (s.foundation.running = true →
      exec .foundationTimeout s = .next (if s.foundation.startedTick + 75000000000 ≤ s.tick then
        let b := dropPacket s 0
        raiseEvent { b with foundation := { s.foundation with running := false }, seq := { b.seq with passFailed := b.seq.passFailed.or (some 0) } } [0] 6
          (roomUnit 8) (stFault .state) []
        else s)) ∧
    (∀ r rest, s.journal.rebuilding = false ∨ s.boot.warm = true → s.journal.staging = r :: rest →
      exec .journalWrite s = .next { s with journal := { s.journal with staging := rest, written := s.journal.written ++ [r] } }) ∧
    (s.journal.rebuilding = true → s.boot.warm = false →
      exec .journalWrite s = .next { s with journal := { s.journal with
        checkpoint := checkpointImage s, written := [], staging := [], broken := false, rebuilding := false } }) ∧
    (let queues := s.larder.queues.map (fun e => (e.1, { e.2 with attached := e.2.attached.map (lapse (now s) c) }))
     exec (.creditReservationExpiry c) s = .next { s with larder := { s.larder with queues := queues } })

/-! ### Events of the fabric, the house clock and the queues -/

/-- A room's pace word after a window of `steps` replica steps at `tj` °C: P in millions of steps a second, the guard's WARN and FAULT with their runs of good windows, and the latched fields (R26, R27). -/
def pacedRoom (steps : Nat) (tj : Int) (x : Room) : Room :=
  let p := min 65535 (steps * 1000 / 65536)
  let warnRun := if x.warnClear ≤ p then min 4 (x.warnRun + 1) else 0
  let faultRun := if 1550 ≤ p then min 16 (x.faultRun + 1) else 0
  let warn : Bool := decide (p < x.warnSet ∨ p < 1500 ∨ (x.warn = true ∧ warnRun < 4))
  let fault : Bool := decide (p < 1500 ∨ (x.fault = true ∧ faultRun < 16))
  { x with
    paceNow := p, paceMin := min x.paceMin p, tj := (max 0 (min 255 (tj + 64))).toNat, warn, fault, warnRun, faultRun
    warnSeen := x.warnSeen || (warn && !x.warn), faultSeen := x.faultSeen || (fault && !x.fault)
    slowWindows := if p < 1500 then min 65535 (x.slowWindows + 1) else x.slowWindows }

/-- The state in which link unit `l` reports FAULT (R21, R30). -/
def linkFaulty (s : State) (l : Nat) : State :=
  setUnitStat s (linkUnit l) (fun u => { u with state := 7, fault := true, lastStatus := stFault .link, faultCount := bump 16 u.faultCount })

/-- The state once an accepted jump of the house clock has taken effect: a forced one above the threshold is recorded with its size, and a
trim window that measures against the house clock is abandoned (R284, R384). -/
def jumpEnded (forced : Bool) (t : State) : State :=
  let t := if forced then raiseEvent t [0] 5 clockUnit stDone [ofInt64 t.clock.lastJump] else t
  if t.mantel.trimSrc = 1 then { t with mantel := { t.mantel with window := none } } else t

/-- PACE_WINDOW sets the room's pace word and its guard, and reports a new WARN or FAULT (that the count of millions of steps
drops its fraction is the model's choice, assumption 81). A token with one wrong bit is corrected and counted; a fourth
uncorrectable one takes a die link down; an alignment token clears the count of failed replays and ends a stale copy, and 4 ms
without one make the copy stale. A REFCLK failure holds the house clock, and what the islands would do no longer happens. A
stalled Stairwell request takes its lane out of service; its requester receives FAULT. -/
def Obligations.FabricEvents : Prop :=
  ∀ (s : State),
    (∀ room steps tj, room ≤ 8 → s.clock.clkFault = false →
      let old := roomAt s room
      let new := pacedRoom steps tj old
      let b := setUnitStat { s with rooms := tset {} s.rooms room new } (roomUnit room) (fun u => { u with warn := new.warn, fault := new.fault })
      let b := if new.warn = true ∧ old.warn = false then raiseEvent b [0] 3 (roomUnit room) stDone [] else b
      exec (.paceWindow room steps tj) s = .next (if new.fault = true ∧ old.fault = false then
        raiseEvent b (0 :: roomSuites b room) 5 (roomUnit room) (stFault .none) [] else b)) ∧
    (∀ l bits, l ≤ 4 → (tget {} s.links l).down = false →
      (bits = 1 → exec (.linkTokenError ⟨l, bits⟩) s =
        .next { s with links := tmod {} s.links l (fun x => { x with corrected := x.corrected + 1, failedReplays := 0 }) }) ∧
      (2 ≤ bits → (tget {} s.links l).failedReplays < 3 →
        exec (.linkTokenError ⟨l, bits⟩) s = .next { s with links := tmod {} s.links l (fun x => { x with failedReplays := x.failedReplays + 1 }) }) ∧
      (2 ≤ bits → 3 ≤ (tget {} s.links l).failedReplays →
        let b := linkFaulty { s with links := tmod {} s.links l (fun x => { x with down := true, failedReplays := 0 }) } l
        let lost := b.sw.ingress.filter (fun f => f.port / 48 = l)
        let c := { b with
          links := tmod {} b.links l (fun x => { x with framesLost := x.framesLost + lost.length })
          sw := { b.sw with ingress := b.sw.ingress.filter (fun f => ¬ f.port / 48 = l) } }
        exec (.linkTokenError ⟨l, bits⟩) s = .next (if l < 4 then (rangeFrom (48 * l) 48).foldl (fun s p => dropLink s p 0) c else b))) ∧
    (∀ l bits, (tget {} s.links l).down = true → exec (.linkTokenError ⟨l, bits⟩) s = .next s) ∧
    (∀ d, d ≤ 4 → (tget {} s.links d).down = false → s.clock.clkFault = false →
      let b := { s with
        copies := tset {} s.copies d { alignedAt := s.tick }
        links := tmod {} s.links d (fun x => { x with failedReplays := 0 }) }
      exec (.houseTimeAlignment d) s = .next (if (copyAt s d).stale = true then
        setUnitStat b (linkUnit d) (fun u => { u with state := 2, fault := false }) else b)) ∧
    (∀ d, d ≤ 4 → (copyAt s d).stale = false → s.boot.phase = .running →
      exec (.alignmentTimeout d) s = .next (if (copyAt s d).alignedAt + 500000 ≤ s.tick then
        linkFaulty { s with copies := tmod {} s.copies d (fun x => { x with stale := true }) } d else s)) ∧
    (s.clock.clkFault = false →
      let b := { s with
        clock := { s.clock with clkFault := true }
        mantel := if s.mantel.trimSrc = 1 then { s.mantel with window := none } else s.mantel }
      exec .refclkFailure s = .next (setUnitStat b clockUnit (fun u => { u with state := 7, fault := true, faultCount := bump 16 u.faultCount }))) ∧
    (s.clock.clkFault = true → exec .refclkFailure s = .next s ∧
      (∀ room steps tj, exec (.paceWindow room steps tj) s = .next s) ∧ (∀ d, exec (.houseTimeAlignment d) s = .next s) ∧
      (∀ station lane who, exec (.stallTimeout station lane who) s = .next s)) ∧
    (∀ station lane, station ≤ 15 → s.clock.clkFault = false →
      let b := if s.lanesOut.contains (station, lane) = true then s else { s with lanesOut := s.lanesOut ++ [(station, lane)] }
      let stalls := fun (who : Requester) (t : State) => exec (.stallTimeout station lane who) s = .next t
      stalls .engine b ∧
      (∀ c, stalls (.context c) (if inExecution b c = true then takeFault b c (ctxCore b c) .fabric .none 0 (wordAtPc b c) else b)) ∧
      (∀ c r, headRequest b c = some r → stalls (.cfg c) (finishCfg r { s := takeRequest b r, st := stFault .link })) ∧
      (∀ n r, b.cellar.reqs.find? (fun x => x.suite == n) = some r →
        stalls (.key n) (completeKey { b with cellar := { b.cellar with reqs := eraseFirst (fun x => x == r) b.cellar.reqs } } r (stFault .link) 0)) ∧
      (∀ q c, headCommand b q = some c →
        stalls (.command q) (finishCommand c ((resolve b c.target).map targetUnit) { s := takeCommand b c, st := stFault .link })))

/-- At its announced tick the oldest change of the house clock takes effect: a jump sets the time and counts, with its size
against the time that it replaces, a step moves it, an increment or a slew is installed. An item of a source that holds a credit
enters its queue with the next SEQ at the present time; without credit a session waits and an engine's item is dropped and
counted; one that is larger than ITEM_MAX is discarded, and one without put rights has no effect but the count. A control error
sets QFAULT; an error in a word or a header copy stands with the item. A withdraw frame that has left decides the outcome of its
value frame. -/
def Obligations.ClockAndQueueEvents : Prop :=
  ∀ (s : State),
    let k := s.clock
    let changed := fun (x : HouseClock) => strayCopies { s with clock := x } k
    (s.clock.waiting = [] ∨ k.clkFault = true → exec .clockChangeTick s = .next s) ∧
    (∀ rest, k.clkFault = false →
      (∀ dest forced, k.waiting = .jump dest false forced :: rest →
        exec .clockChangeTick s = .next (jumpEnded forced (changed { k with
          waiting := rest, time := dest, frac := 0, isSet := true, jumps := bump 16 k.jumps, lastJump := tdiff dest k.time
          forcedSeen := k.forcedSeen || forced }))) ∧
      (∀ dest, k.waiting = .jump dest true false :: rest →
        exec .clockChangeTick s = .next (jumpEnded false (changed { k with waiting := rest, time := dest, frac := 0, isSet := true }))) ∧
      (∀ offset forced, k.waiting = .step offset forced :: rest →
        exec .clockChangeTick s = .next (jumpEnded forced (changed { k with
          waiting := rest, time := taddNs k.time offset, jumps := bump 16 k.jumps, lastJump := offset, forcedSeen := k.forcedSeen || forced }))) ∧
      (∀ inc, k.waiting = .increment inc :: rest → exec .clockChangeTick s = .next (changed { k with waiting := rest, increment := inc })) ∧
      (∀ inc n, k.waiting = .slew inc n :: rest →
        exec .clockChangeTick s = .next (changed { k with waiting := rest, slewInc := inc, slewLeft := n }))) ∧
    (exec .slewEnd s = .next (if k.slewLeft = 0 then { s with clock := { k with slewInc := 0 } } else s)) ∧
    (∀ named src it,
      let qn := namedQueue s named src
      let who := sourceProducer src
      let b := match src with
        | .session _ 0 _ => if qn = 0 then s else setQueue s qn (fun q => attach q who)
        | _ => s
      let q := queueAt b qn
      let put := fun (t : State) => exec (.itemEnter named src it) s = .next t
      (fencedOut s (sourceItem src it).srcSuite = true → put s) ∧
      (fencedOut s (sourceItem src it).srcSuite = false → ∀ n h x, src = .session n h x → putDenied s qn src = true → put (countThreshold s n)) ∧
      (fencedOut s (sourceItem src it).srcSuite = false → putDenied s qn src = false →
        (qn = 0 ∨ it.written = false ∨ it.data = [] ∨ q.qfault = true ∨ q.itemMax < it.data.length → put b) ∧
        (qn ≠ 0 → it.written = true → it.data ≠ [] → q.qfault = false → it.data.length ≤ q.itemMax →
          (creditsInHand q who = 0 →
            (∀ p, src = .engine p → put (setQueue b qn (fun q => { q with noCreditDrops := bump 16 q.noCreditDrops }))) ∧
            (∀ n h x, src = .session n h x → put (markWaiting b qn who))) ∧
          (0 < creditsInHand q who →
            let e := setQueue b qn (fun q => spendCredit q who)
            let x := { sourceItem src it with credit := creditOf q who }
            (queueAt e qn).qfault = false →
            let y := { x with seq := (queueAt e qn).entries, entered := now s, deliveredTo := handedTo (queueAt e qn) }
            put (if (queueAt e qn).fenced then setQueue e qn (fun q => { q with held := q.held ++ [x] })
              else judgeLater (mirrorEntry (setQueue e qn (fun q => { q with entries := q.entries + 1, items := q.items ++ [y] })) qn y) qn))))) ∧
    (∀ qn,
      let hurt := fun (place : Nat) (f : Item → Item) => setQueue s qn (fun q => { q with items := q.items.mapIdx (fun i it => if i = place then f it else it) })
      ((queueAt s qn).qfault = false → (queueAt s qn).depth ≠ 0 →
        let b := setUnitStat (setQueue s qn (fun q => { q with qfault := true })) (.part larderPart) (fun u => { u with fault := true })
        exec (.queueControlError ⟨qn, .control⟩) s = .next (raiseEvent b [(queueOwner b qn).getD 0] 6 (.part larderPart) (stFault .error) [])) ∧
      (∀ place, exec (.queueControlError ⟨qn, .header place false⟩) s = .next (hurt place (fun it => { it with hdrABad := true })) ∧
        exec (.queueControlError ⟨qn, .header place true⟩) s = .next (hurt place (fun it => { it with hdrBBad := true }))) ∧
      (∀ place word, exec (.queueControlError ⟨qn, .payload place word⟩) s = .next (hurt place (fun it =>
        if 4 * word < it.data.length then { it with parity := (it.parity ++ [word]).eraseDups } else it)))) ∧
    (∀ p f c n tc, s.clock.clkFault = false → inProgress s p = some f → f.cls = .withdraw → f.cyc = some (c, n, tc) →
      let b := frameSent (countPort s p true 15 1) p f
      let out : Status := if 0 ≤ tdiff (taddNs tc (-210000)) (portTime b p) then stWithdrawn else { cls := .done, reason := .guard }
      exec (.withdrawFrameSent p) s = .next (settleCancelled (setTask b c (fun t => { t with cancelled := t.cancelled.map (fun x => { x with
        frames := mapWhere (fun y => y.port == p && y.id == f.id && y.outcome.isNone) (fun y => { y with outcome := some out }) x.frames }) })) c))

/-! ### Events of the ports -/

/-- The receive counter of a frame of `len` octets that is not good (R254). -/
def badFrameCounter (len maxFrame : Nat) (fcsOk : Bool) : Nat :=
  if len < 64 then (if fcsOk then 15 else 16) else if maxFrame < len then (if fcsOk then 17 else 18) else 14

/-- A frame is a field port's answer to the quiet proposal that awaits it (R142, R263). -/
def Answers (s : State) (p : Nat) (r : MacRx) : Prop := r.pause = none ∧ quietAnswerFrame s p r.frame = true

/-- The state once the MAC of port `p` has taken a frame: symbol errors are counted, the floor wakes but for a quiet answer, and the port is
no longer idle (R247, R254, R264). -/
def frameTaken (s : State) (p : Nat) (r : MacRx) (answer : Bool) : State :=
  let b := countPort s p false 19 r.symbolErrors
  let b := if answer then b else wakeFloor b
  setPort b p (fun x => { x with lastFrameTick := some b.tick })

/-- The counters of a good frame (R254). -/
def goodFrameCounted (s : State) (p : Nat) (r : MacRx) : State :=
  countAll s p false ([(0, r.len), (1, 1), (if r.pause.isSome then 5 else kindCounter r.frame.dst, 1), (sizeCounter r.len, 1)] ++
    (if r.frame.tag.isSome then [(6, 1)] else []))

/-- On a port whose link is up a frame is received: a bad one is counted under its cause, a PAUSE frame holds egress or ends the
hold, an answer to a quiet proposal is taken, any other good one is counted and handed on. Egress resumes when the quanta have
passed. A sent frame is counted and the next starts. A link goes up with the level, master, rate and FEC that its configuration
and its partner resolve, or down with its buffer emptied. A half-range item reports crossed counters. An idle port enters LPI.
Without REFCLK none of this happens. -/
def Obligations.MacEvents : Prop :=
  ∀ (s : State) (p : Nat),
    let x := portAt s p
    (s.clock.clkFault = true → ∀ r l, ∀ i ∈ [Instr.macReceive p r, .pauseEnd p, .pauseRepeat p, .egressFrameSent p, .portLinkChange p l, .halfRangeItem p,
      .eeeLpiEntry p, .linkPartnerLeavingLpi p], exec i s = .next s) ∧
    (s.clock.clkFault = false →
      (∀ r, x.link = 2 →
        let good := r.fcsOk = true ∧ 64 ≤ r.len ∧ r.len ≤ x.cfg.maxFrame
        let counted := countPort s p false 19 r.symbolErrors
        (¬ good → exec (.macReceive p r) s = .next (countPort (frameTaken s p r false) p false (badFrameCounter r.len x.cfg.maxFrame r.fcsOk) 1)) ∧
        (good → ∀ q, r.pause = some q → exec (.macReceive p r) s = .next (honourPause (goodFrameCounted (frameTaken s p r false) p r) p q)) ∧
        (good → Answers counted p r → exec (.macReceive p r) s = .next (quietAnswer p (fld (wordAt r.frame.payload 0) 32 32)
          (fld (wordAt r.frame.payload 0) 0 8 == 5) (goodFrameCounted (frameTaken s p r true) p r))) ∧
        (good → r.pause = none → ¬ Answers counted p r →
          exec (.macReceive p r) s = .next (handOn (goodFrameCounted (frameTaken s p r false) p r) p r))) ∧
      (x.link ≠ 2 → ∀ r, exec (.macReceive p r) s = .next s) ∧
      (∀ t, x.pausedUntil = some t → exec (.pauseEnd p) s = .next (if t ≤ s.tick then pauseOver s p else s)) ∧
      (x.pausing = true → x.pauseDue ≤ s.tick →
        exec (.pauseRepeat p) s = .next (sendPause (setPort s p (fun x => { x with pauseDue := x.pauseDue + pauseRepeatTicks x.cfg.pauseQuanta })) p
          x.cfg.pauseQuanta)) ∧
      (x.pausing = false → exec (.pauseRepeat p) s = .next s) ∧
      (∀ f, inProgress s p = some f →
        let out := fun (b : State) =>
          let c := countSent b p f.frame
          setPort c p (fun x => startNext { x with egress := eraseFirst (fun g => g.started) x.egress, lastFrameTick := some c.tick })
        (f.cls = .other → exec (.egressFrameSent p) s = .next (out s)) ∧
        (f.cls = .timed → exec (.egressFrameSent p) s = .next (out (countAll s p true (if isLate s p f = true then [(14, 1), (16, 1)] else [(14, 1)]))))) ∧
      (∀ l, p < 192 → l.up = true → x.cfg.mode ≠ 0 → x.link ≠ 2 → portHeldDown s p = false →
        exec (.portLinkChange p l) s = .next (setPort s p (fun x => startNext { x with
          link := 2, level2v4 := linkLevel x.cfg l.level2v4, isMaster := linkMaster x.cfg l.master l.seed, eeeOn := l.eee && x.cfg.eee }))) ∧
      (192 ≤ p → p < 195 →
        let i := p - 192
        let up := tget {} s.uplinks i
        (∀ l rate, l.up = true → up.cfg.mode ≠ 0 → up.gov ≠ 2 → x.link ≠ 2 → portHeldDown s p = false → linkRate i up.cfg l = some rate →
          let b := setPort (launchMissed s i) p (fun x => { x with link := 2 })
          exec (.portLinkChange p l) s = .next { b with uplinks := tmod {} b.uplinks i (fun u => { u with
            rate, fec := resolvedFec u.cfg rate l.lpFec, lpAdv := if u.cfg.mode = 1 ∧ p ≠ 194 then l.lpAdv else 0, lpFec := l.lpFec, lowRun := 0
            gov := if u.gov = 3 then 3 else if u.cfg.govEn = true ∧ p ≠ 194 then 1 else 0 }) }) ∧
        (∀ l, l.up = true → linkRate i up.cfg l = none → exec (.portLinkChange p l) s = .next s) ∧
        (∀ l, l.up = false → up.gov ≠ 2 →
          let b := dropLink s p 0
          exec (.portLinkChange p l) s = .next { b with uplinks := tmod {} b.uplinks i (fun u => { u with
            rate := 0, fec := 0, lpAdv := 0, lowRun := 0, gov := if u.gov = 3 then 3 else 0 }) })) ∧
      (∀ l, p < 192 → l.up = false → exec (.portLinkChange p l) s = .next (dropLink s p 0)) ∧
      (x.halfPending = true → x.cfg.statsQueue ≠ 0 → x.halfDue ≤ s.tick →
        let b := setPort s p (fun x => { x with halfPending := false, halfDue := s.tick + 1250000 })
        exec (.halfRangeItem p) s = .next (putItem b x.cfg.statsQueue (.engine switchPart) 0 0 0 false
          (wordBytes [pack [(0, 8, p), (32, 32, (now b).sec)], pack [(0, 32, x.halfRx.toNat), (32, 32, x.halfTx.toNat)]])).1) ∧
      (x.halfPending = false → exec (.halfRangeItem p) s = .next s) ∧
      (p < 192 → x.link = 2 → x.eeeOn = true → x.lpi = false → x.egress = [] →
        exec (.eeeLpiEntry p) s = .next (countPort (setPort s p (fun x => { x with lpi := true })) p true 21 1)) ∧
      (x.link = 2 → exec (.linkPartnerLeavingLpi p) s = .next (if s.sw.quiet = .awake then wakePort s p else wakeFloor s)))

/-- A valid signature leads to classification, or to the fixed class; an invalid one ends without a device. A class of the rail
within CLASS_MAX waits for the budget and is served, another is refused; a granted port's FET turns on; a lost maintain
signature detects again and an overload backs off for 2 s, both giving the allocation back, which is served to those waiting on
the rail that fed the port. While the link of the port's wing is down its power is held as it was; without REFCLK nothing
happens. -/
def Obligations.EndpointPower : Prop :=
  ∀ (s : State) (p : Nat),
    let x := portAt s p
    let known := fun (cls : Nat) =>
      if 10 ≤ cls ∧ cls ≤ x.cfg.classMax ∧ railOk x.cfg.rail cls = true then
        serveRail (setPort s p (fun x => { x with pse := .waitBudget, pseClass := cls, granted := false, denied := false })) x.cfg.rail
      else setPort s p (fun x => { x with pse := .noPd, pseStatus := stRefused .range, pseDue := s.tick + 250000000 })
    let off := fun (b : State) (to80 : PseState) =>
      let c := setPort b p (fun x => { x with pse := to80, granted := false, gate := false, denied := false, pseClass := 0, currentMa := 0, powerMw := 0 })
      if (portAt b p).granted = true then serveRail c (portAt b p).fedRail else c
    (s.clock.clkFault = true → ∀ v cls, ∀ i ∈ [Instr.pseDetection p v, .pseDetectionRetry p, .pseClassification p cls, .psePowered p, .psePdLost p,
      .pseOverload p, .pseBackoffExpiry p], exec i s = .next s) ∧
    (s.clock.clkFault = false →
      (x.pse = .detecting → powerHeld s p = false →
        exec (.pseDetection p false) s = .next (countPort (setPort s p (fun x => { x with pse := .noPd, pseDue := s.tick + 62500000 })) p true 26 1) ∧
        exec (.pseDetection p true) s = .next (if x.cfg.pseMode = 2 then known x.cfg.classFixed else setPort s p (fun x => { x with pse := .classifying }))) ∧
      (∀ v, x.pse ≠ .detecting ∨ powerHeld s p = true → exec (.pseDetection p v) s = .next s) ∧
      (x.pse = .noPd → x.pseDue ≤ s.tick → exec (.pseDetectionRetry p) s = .next (setPort s p (fun x => { x with pse := .detecting }))) ∧
      (x.pse = .noPd → s.tick < x.pseDue → exec (.pseDetectionRetry p) s = .next s) ∧
      (∀ cls, x.pse = .classifying → powerHeld s p = false → exec (.pseClassification p cls) s = .next (known cls)) ∧
      (x.pse = .powered → exec (.psePowered p) s = .next (setPort s p (fun x => { x with gate := true }))) ∧
      (x.pse = .powered → powerHeld s p = false →
        exec (.psePdLost p) s = .next (off (countPort s p true 27 1) .detecting) ∧
        (let b := raiseEvent (countPort s p true 25 1) [0] 3 (portUnit p) stDone []
         exec (.pseOverload p) s = .next (off (setPort b p (fun x => { x with pseDue := b.tick + 250000000 })) .backoff))) ∧
      (x.pse = .powered → powerHeld s p = true → exec (.psePdLost p) s = .next s ∧ exec (.pseOverload p) s = .next s) ∧
      (x.pse = .backoff → x.pseDue ≤ s.tick → exec (.pseBackoffExpiry p) s = .next (setPort s p (fun x => { x with pse := .detecting }))))

/-! ### Events of the port switch and the uplinks -/

/-- The engine `part`, once it has read queue `qn` as `b`, finds `it` at its head (R195, R199, R200). -/
structure EngineTakes (s : State) (qn : Nat) (part : Part) (b : State) (it : Item) : Prop where
  read : b = engineReads s qn part
  head : engineHead b qn part = some it

/-- The completion of a transmit item: its status, how many ports took the frame, and which (R261, R262). -/
def switchCompletion (it : Item) (st : Status) (ports : List Nat) : Completion :=
  { st, major := 0x42, fn := 0x05, tag := fld (wordAt it.data 0) 26 16, suite := it.srcSuite
    result := BitVec.ofNat 64 ports.length, payload := bitmapWords 4 ports }

/-- The queue that a class entry enters frames into; 0 for none (R255). -/
def classQueue : Option ClassEntry → Nat
  | some e => if e.action = .queue then e.queue else 0
  | none => 0

/-- The timestamp of a frame launched on port `p`: the port's time with an error within its accuracy, and TX_ADJ_PS in whole ns (R281, R288). -/
def launchTime (s : State) (p : Nat) (error : Int) : Time80 :=
  let a : Int := if p < 192 then 40 else if p < 194 then 4 else 8
  taddNs (taddNs (portTime s p) (max (-a) (min a error))) ((uplinkAt s (p - 192)).cfg.txAdjPs / 1000)

/-- The oldest frame at the port switch is dropped and counted, queued, written to points or forwarded by the class entry that
it matches first, and forwarded where none does. A waiting table write is installed in a new epoch and the command ends at once
or when the old epoch has drained. A transmit item's frame goes to its targets, or is refused by its DEST, its VLAN or its size.
Quiet answers until Tq change the set; its ports enter LPI one by one from Tq on, and the transaction completes once the instant
of the last is past. Without REFCLK only the epochs go on. -/
def Obligations.SwitchEvents : Prop :=
  ∀ (s : State),
    (s.clock.clkFault = true → ∀ n p cycle agree, ∀ i ∈ [Instr.portSwitchIngress, .transmitItem n, .quietAnswer p cycle agree, .quietEntry],
      exec i s = .next s) ∧
    (∀ f rest, s.clock.clkFault = false → s.sw.ingress = f :: rest →
      let b := { s with sw := { s.sw with ingress := rest } }
      let vlan := vlanAt b f.port f.frame
      let does := fun t => exec .portSwitchIngress s = .next t
      (classify b f vlan = none → does (forwardFrame b f vlan)) ∧
      (∀ e, classify b f vlan = some e →
        (e.action = .drop → does (countPort b f.port false 22 1)) ∧
        (e.action = .queue → does (
          let r := putItem b e.queue (.engine switchPart) e.suite 0 e.prio false (receivedItem b f vlan)
          countPort r.1 f.port false (if r.2 = true then 21 else 23) 1)) ∧
        (e.action = .points → does (ingressPoints b e f)) ∧
        (e.action = .forward → does (forwardFrame b f vlan)))) ∧
    (s.sw.ingress = [] → exec .portSwitchIngress s = .next s) ∧
    (∀ w rest, s.sw.waiting = w :: rest → s.sw.draining = false →
      let tables := installTables s.sw w
      let b := { s with sw := { tables with waiting := rest, epoch := (tables.epoch + 1) % 2 ^ 32, draining := true } }
      let c := directSwitch b (if w.table = 2 then classQueue (tlook s.sw.classes w.index) else 0) (classQueue w.cls)
      exec .epochInstall s = .next (if w.nofence = true then endWaiting w.req { cls := .done, reason := .unfenced } c
        else { c with sw := { c.sw with drainReqs := c.sw.drainReqs ++ [w.req] } })) ∧
    (s.sw.draining = true → exec .epochInstall s = .next s) ∧
    (s.sw.draining = true → exec .epochDrained s = .next (s.sw.drainReqs.foldl (fun s r => endWaiting r stDone s)
      { s with sw := { s.sw with draining := false, drainReqs := [] } })) ∧
    (s.sw.draining = false → exec .epochDrained s = .next s) ∧
    (∀ n b it, let qn := tget 0 s.sw.txq n
      s.clock.clkFault = false → qn ≠ 0 → resetting s n = false → EngineTakes s qn switchPart b it →
      let w := wordAt it.data 0
      let dest := fld w 0 10
      let bs := it.data.drop 8
      let f := frameOf bs
      let ports := transmitPorts b dest f
      let done := fun (t : State) (st : Status) (ports : List Nat) =>
        exec (.transmitItem n) s = .next (sendCompletion (ackItem t qn it.seq) (fld w 10 16) none (switchCompletion it st ports))
      let named := dest < 195 ∨ (256 ≤ dest ∧ dest ≤ 512)
      (¬ named → done b (stRefused .range) []) ∧
      (named → vlanForeign b n f ports = true → done (countThreshold b n) (stRefused .threshold) []) ∧
      (named → vlanForeign b n f ports = false → 1532 < bs.length → done b (stRefused .size) []) ∧
      (named → vlanForeign b n f ports = false → bs.length ≤ 1532 → 256 ≤ dest → dest ≤ 511 → destKnown b.sw dest = false →
        done b (stRefused .range) []) ∧
      (named → vlanForeign b n f ports = false → bs.length ≤ 1532 → (256 ≤ dest → dest ≤ 511 → destKnown b.sw dest = true) →
        let r := sendCopies b n f (ports.map (fun p => (p, vlanAt b p f)))
        done r.1 (if r.2.length = 0 then stRefused .link else if r.2.length = ports.length then stDone else stPartial) r.2)) ∧
    (∀ x port, s.clock.clkFault = false → s.sw.quiet = .proposing → s.sw.transaction = some x → port ∈ x.ports → tdiff (now s) x.tq ≤ 0 →
      exec (.quietAnswer port x.number true) s =
        .next { s with sw := { s.sw with transaction := some { x with agreed := sinsert port x.agreed } } } ∧
      exec (.quietAnswer port x.number false) s = .next { s with sw := { s.sw with
        transaction := some { x with ports := x.ports.filter (· != port), agreed := x.agreed.filter (· != port) } } }) ∧
    (∀ x, s.clock.clkFault = false → s.sw.transaction = some x → reached (now s) x.tq = true →
      let left := if s.sw.quiet = .entering then x.ports else x.agreed
      (∀ p rest, left = p :: rest →
        let b := if (portAt s p).link = 2 ∧ (portAt s p).eeeOn = true ∧ (portAt s p).lpi = false then enterLpi s p else s
        exec .quietEntry s = .next { b with sw := { b.sw with
          quiet := .entering, transaction := some { x with ports := rest, entered := b.tick } } }) ∧
      (left = [] → ¬(s.sw.quiet = .entering ∧ s.tick = x.entered) → exec .quietEntry s = .next (quietComplete x s)))

/-- An uplink sends the head of its egress queue while no launch or PAUSE holds it. The governor of UL0 and UL1 judges each
window of 100 ms and of 1 ms by the bits counted in it over its length: it steps up on a busy short window and down after 600
quiet long ones; a step is done within 40 ms or abandoned with an event, and resumes after 600 s. A launch item is refused or
becomes the pending launch, which is sent at its time with its lateness, and counted as late where a PAUSE delayed it. Without
REFCLK none of this happens. -/
def Obligations.UplinkEvents : Prop :=
  ∀ (s : State) (p : Nat),
    let i := p - 192
    let u := uplinkAt s i
    let x := portAt s p
    (s.clock.clkFault = true → ∀ short error, ∀ i ∈ [Instr.uplinkEgress p, .governorWindow p short, .rateStepDone p, .rateStepAbandon p,
      .governorResume p, .launchItem p, .launchSend p error], exec i s = .next s) ∧
    (s.clock.clkFault = false →
      (∀ b it, 192 ≤ p → p ≤ 194 → u.cfg.egressQueue ≠ 0 → x.link = 2 → x.pausedUntil = none →
        EngineTakes s u.cfg.egressQueue (uplinkPart i) b it → launchBlocks s i it.data.length = false →
        exec (.uplinkEgress p) s =
          .next (ackItem (setPort (countSent b p (frameOf it.data)) p (fun x => { x with lastFrameTick := some s.tick })) u.cfg.egressQueue it.seq)) ∧
      (x.link ≠ 2 → exec (.uplinkEgress p) s = .next s) ∧
      (192 ≤ p → p ≤ 193 →
        let here := (tget 0 x.rx 0, tget 0 x.tx 0)
        let long := setUplink s i (fun u => { u with windowOctets := here, windowTick := s.tick })
        let short := setUplink s i (fun u => { u with shortOctets := here, shortTick := s.tick })
        let longTicks := s.tick - u.windowTick
        let shortTicks := s.tick - u.shortTick
        let governs := u.gov = 1 ∧ x.link = 2
        (shortTicks < 125000 → exec (.governorWindow p true) s = .next s) ∧
        (longTicks < 12500000 → exec (.governorWindow p false) s = .next s) ∧
        (125000 ≤ shortTicks → (¬ governs ∨ (allowedRates u).getLast? = none) → exec (.governorWindow p true) s = .next short) ∧
        (12500000 ≤ longTicks → ¬ governs → exec (.governorWindow p false) s = .next long) ∧
        (125000 ≤ shortTicks → governs → ∀ top, (allowedRates u).getLast? = some top →
          exec (.governorWindow p true) s = .next (
            if u.rate < top ∧ 60 * rateBps u.rate * shortTicks < 100 * (1000000000 * octetsSince s p u.shortOctets)
              then beginStep short i top true else short)) ∧
        (12500000 ≤ longTicks → governs →
          let quiet := fun (n : Nat) => setUplink long i (fun u => { u with lowRun := n })
          (((allowedRates u).filter (· < u.rate)).getLast? = none → exec (.governorWindow p false) s = .next (quiet 0)) ∧
          (∀ below, ((allowedRates u).filter (· < u.rate)).getLast? = some below → exec (.governorWindow p false) s = .next (
            if 100 * (1000000000 * octetsSince s p u.windowOctets) < 4 * rateBps below * longTicks
              then (if u.lowRun = 599 then beginStep long i below false else setUplink long i (fun u => { u with lowRun := u.lowRun + 1 }))
              else quiet 0)))) ∧
      (192 ≤ p → p ≤ 193 → u.gov = 2 →
        (s.tick ≤ u.stepTick + 5000000 →
          let b := setPort (launchMissed s i) p (fun x => { x with link := 2 })
          exec (.rateStepDone p) s = .next (setUplink b i (fun v => { v with
            gov := if v.cfg.govEn = true then 1 else 0, rate := v.stepTo, fec := resolvedFec v.cfg v.stepTo v.lpFec, lowRun := 0
            lastStepUs := min 65535 ((b.tick - v.stepTick) / 125)
            govDowns := if v.stepUp = true then v.govDowns else min 65535 (v.govDowns + 1)
            govUps := if v.stepUp = true then min 65535 (v.govUps + 1) else v.govUps }))) ∧
        (u.stepTick + 5000000 ≤ s.tick →
          let b := raiseEvent s [0] 3 (uplinkUnit i) stDone []
          exec (.rateStepAbandon p) s = .next (setUplink b i (fun u => { u with
            gov := 3, lpAdv := 0, govAbandons := min 65535 (u.govAbandons + 1), resumeDue := b.tick + 75000000000 })))) ∧
      (192 ≤ p → p ≤ 193 → u.gov = 3 → u.resumeDue ≤ s.tick →
        exec (.governorResume p) s = .next (setUplink s i (fun u => { u with lowRun := 0, gov := govNow s i { u with gov := 0 } }))) ∧
      (192 ≤ p → p ≤ 193 → u.gov = 3 → s.tick < u.resumeDue → exec (.governorResume p) s = .next s) ∧
      (∀ b it, 192 ≤ p → p ≤ 194 → u.cfg.launchQueue ≠ 0 → u.launch = none → EngineTakes s u.cfg.launchQueue switchPart b it →
        let l := launchOf it
        (fencedOut b l.suite = true → exec (.launchItem p) s = .next (completeLaunch b i l stResetDiscarded 0 [0, 0])) ∧
        (fencedOut b l.suite = false → launchRefusal b p l = none → exec (.launchItem p) s = .next (setUplink (setQueue b u.cfg.launchQueue (fun q => { q with
          items := mapWhere (fun y => y.seq == it.seq) (fun y => { y with deliveredTo := some (.engine switchPart) }) q.items })) i
          (fun u => { u with launch := some l }))) ∧
        (fencedOut b l.suite = false → ∀ st, launchRefusal b p l = some st → exec (.launchItem p) s =
          .next (completeLaunch (if st = stRefused .threshold then countThreshold b l.suite else b) i l st 0 [0, 0]))) ∧
      (∀ l error, 192 ≤ p → p ≤ 194 → u.launch = some l → l.now = true ∨ reached (now s) l.at80 = true →
        (x.link ≠ 2 → exec (.launchSend p error) s = .next (completeLaunch s i l (stRefused .link) 0 [0, 0])) ∧
        (x.link = 2 → x.pausedUntil = none →
          let t := launchTime s p error
          let b := if l.now = true then s else countAll s p true (if l.delayed = true then [(14, 1), (15, 1), (16, 1)] else [(14, 1), (15, 1)])
          let b := countSent b p (frameOf l.frame)
          exec (.launchSend p error) s =
            .next (completeLaunch (setPort b p (fun x => { x with lastFrameTick := some b.tick })) i l stDone
              (if l.now = true then 0 else ofInt64 (tdiff t l.at80)) [nowForm t, pack [(0, 16, secHi t)]]))))

/-! ### Events of suites, updates and units -/

/-- The claim that wins an election: the highest RANK, then the lowest HOST_ID (R179). -/
def Wins (claims : List Claim) (w : Claim) : Prop :=
  w ∈ claims ∧ ∀ x ∈ claims, x.rank < w.rank ∨ (x.rank = w.rank ∧ w.host ≤ x.host)

/-- A session that may open: its suite is enabled, the module serves it, its number is free, and the numbers are within their ranges (R175, R398). -/
structure MayOpen (s : State) (h : SessionOpen) : Prop where
  served : s.boot.phase = .running ∨ (s.boot.phase = .recovery ∧ h.port = 194 ∧ h.rank = 7)
  enabled : (suiteAt s h.suite).enabled = true
  host : 1 ≤ h.host ∧ h.host ≤ 0xFEFF
  rank : h.rank ≤ 7
  port : 192 ≤ h.port ∧ h.port ≤ 194
  number : h.number ≠ 0 ∧ ∀ x ∈ s.sessions, x.number ≠ h.number

/-- An item that is delivered for session `k` of host `host`, and that the host names by the SEQ `seq` (R184, R196). -/
def ItemOf (host k seq : Nat) (it : Item) : Bool :=
  it.seq % 2 ^ 16 == seq && (match it.deliveredTo with | some (.session _ h j) => h == host && j == k | _ => false)

/-- When the election window closes, the claim of highest RANK and lowest HOST_ID becomes owner with a fresh lease and every
claim is answered. A lease whose end is reached ends the ownership; a handover not accepted lapses. A suite's fence lifts: the
suite is DEGRADED until every task has committed, its queues and units serve again and its tasks restart. A session opens,
attaching its producers and consumers, its suite's HOST_QUEUE among them, and closes, undelivering its items. A host
acknowledges an item delivered to it. -/
def Obligations.SuiteEvents : Prop :=
  ∀ (s : State) (n : Nat),
    let u := suiteAt s n
    (∀ due x xs w, u.claimOpen = some due → u.claims = x :: xs → due ≤ s.tick → Wins u.claims w →
      let b := setSuite s n (fun u => { u with claims := [], claimOpen := none })
      let b := mirrorOwner (setSuite b n (fun v => { v with
        owner := some w.host, ownerRank := w.rank, leaseEnd := taddNs (now s) (leaseNs v), handover := none, handoverUntil := 0 })) n
      exec (.electionClose n) s = .next (u.claims.foldl (answerClaim n w.host) b)) ∧
    (∀ due, u.claimOpen = some due → s.tick < due → exec (.electionClose n) s = .next s) ∧
    (∀ h, u.owner = some h →
      (reached (now s) u.leaseEnd = true → exec (.leaseExpiry n) s = .next (raiseEvent (mirrorOwner (setSuite s n (fun u => { u with
        owner := none, ownerRank := 0, handover := none, handoverUntil := 0 })) n) [n] 3 .module stDone [])) ∧
      (reached (now s) u.leaseEnd = false → exec (.leaseExpiry n) s = .next s)) ∧
    (∀ h, u.handover = some h → exec (.handoverLapse n) s = .next (
      if u.handoverUntil < s.tick then setSuite s n (fun u => { u with handover := none, handoverUntil := 0 }) else s)) ∧
    (u.state = stResetting →
      let cold : Bool := decide (u.resetCold = some true)
      let b := if cold then zeroPoints (reloadTenant s n) n else s
      let tasks := (suiteTasks b n).map (·.1)
      let c := setSuite b n (fun u => { u with state := stDegraded, resetCold := none, suiteResets := min 65535 (u.suiteResets + 1) })
      let d := ((c.larder.queues.filter (fun e => e.2.fenced && queueOwner c e.1 == some n)).map (·.1)).foldl liftQueue c
      let e := (ownedUnits d n).foldl (fun s u => setUnitStat s u (fun x => { x with state := stRun })) d
      exec (.suiteFenceLift n) s = .next (tasks.foldl (restartTask cold) e)) ∧
    (u.state ≠ stResetting → exec (.suiteFenceLift n) s = .next s) ∧
    (∀ h, MayOpen s h →
      let b := { s with sessions := s.sessions ++
        [{ number := h.number, host := h.host, suite := h.suite, rank := h.rank, port := h.port, puts := h.puts, takes := h.takes }] }
      let c := (((suiteAt b h.suite).hostQueue :: h.puts).filter (fun q => q != 0 && mayPut b h.suite q)).foldl
        (fun s q => setQueue s q (fun x => attach x (.session h.suite h.host h.number))) b
      exec (.hostSessionOpen h) s = .next ((h.takes.filter (fun q => q != 0 && mayTake c h.suite q && (queueAt c q).consumer.isNone)).foldl
        (fun s q => handItems (setQueue s q (fun x => { x with consumer := some (.session h.suite h.host h.number) })) q) c)) ∧
    (∀ h, ¬ MayOpen s h → exec (.hostSessionOpen h) s = .next s) ∧
    (∀ y, s.sessions.find? (fun x => x.number == n) = some y →
      let who := Producer.session y.suite y.host n
      let b := { s with
        sessions := s.sessions.filter (fun x => x.number != n)
        larder := { s.larder with queues := s.larder.queues.map (fun e => (e.1, if (attachment e.2 who).isSome then detach e.2 who else e.2)) } }
      exec (.hostSessionClose y.host n) s = .next (y.takes.foldl (fun s q =>
        if (queueAt s q).consumer = some (.session y.suite y.host n)
          then undeliver (setQueue s q (fun x => { x with consumer := none })) q (.session y.suite y.host n) else s) b)) ∧
    (∀ host, (∀ y ∈ s.sessions, y.number = n → y.host ≠ host) → exec (.hostSessionClose host n) s = .next s) ∧
    (∀ host q seq it, (queueAt s q).items.find? (ItemOf host n seq) = some it → exec (.hostAcknowledgement host n q seq) s = .next (ackItem s q it.seq)) ∧
    (∀ host q seq, (queueAt s q).items.find? (ItemOf host n seq) = none → exec (.hostAcknowledgement host n q seq) s = .next s)

/-- An image of KIND `kind` for suite `n` may be activated now: no low battery or power failure, and nothing moving (R394). -/
structure MayActivate (s : State) (kind n : Nat) : Prop where
  power : s.mantel.batLow = false ∧ s.boot.pfailLow = false
  still : moving s kind n = false

/-- The state once the staged image of a selector is the current one (R399). -/
def imageInUse (s : State) (kind n : Nat) : State :=
  setUpdate s kind n (fun u => { u with
    phase := .activating, version := (stagedImage u).version, fallback := u.current, current := some (stagedImage u), spare := none
    runSlot := !u.runSlot, staged := [], stagedLen := 0, stagedBytes := 0, checkedImg := false, interlocks := [], pairHalf := false
    trialEnd := taddNs (now s) (u.trialS * 1000000000 : Nat) })

/-- How a selector's image comes into use: KIND 1 and 2 by a warm reset, KIND 3 by a cold suite restart, which a standby in step takes from
the delta (R397, R401). -/
def broughtUp (s : State) (kind n : Nat) : State :=
  if kind ≠ 3 then warmForUpdate s
  else if s.twin.role = .standby ∧ s.twin.inStep = true then s
  else if (suiteAt s n).enabled = true then resetSuite s n true
  else tellOutcome (setUpdate s 3 n (fun u => { u with phase := .trial })) 3 n stDone

/-- UPDATE_ACTIVATION is judged at `b`: the commits due are done, and ACTIVATE_AT has come (R397). -/
structure ActivationDue (s b : State) (kind n : Nat) : Prop where
  settled : b = settleAll s
  scheduled : (updateAt b kind n).phase = .scheduled
  due : reached (now b) (updateAt b kind n).activateAt = true
  commits : commitsDue b = false

/-- UPDATE_RECHECK is judged at `b` (R394). -/
structure RecheckDue (s b : State) (kind n : Nat) : Prop where
  same : b = s
  waiting : (updateAt b kind n).phase = .waiting
  due : (updateAt b kind n).recheckDue ≤ b.tick

/-- At ACTIVATE_AT, once the commits due then are done, and at each recheck, an activation is refused without power, waits while
something moves and until HOLD_S has passed, waits for the standby of a pair that changes one by one, and otherwise brings the
staged image into use on trial. A trial that passes unconfirmed reverts to the previous image. The active of a pair switches
over when the changed standby has been in step for 10 s, and a half not begun within 600 s is dropped. -/
def Obligations.UpdateEvents : Prop :=
  ∀ (s b : State) (kind n : Nat),
    let u := updateAt b kind n
    let one := oneByOne b kind u (some (stagedImage u))
    let does := fun (t : State) =>
      (ActivationDue s b kind n → u.pairHalf = false → (suiteAt b n).locked = false → exec (.updateActivation kind n) s = .next t) ∧
      (RecheckDue s b kind n → exec (.updateRecheck kind n) s = .next t)
    (MayActivate b kind n → one = false → does (broughtUp (imageInUse b kind n) kind n)) ∧
    (MayActivate b kind n → one = true → does (setUpdate b kind n (fun u => { u with phase := .scheduled, pairHalf := true, pairTick := b.tick }))) ∧
    (b.mantel.batLow = true ∨ b.boot.pfailLow = true → does (endActivation b kind n (stRefused .power))) ∧
    (b.mantel.batLow = false → b.boot.pfailLow = false → moving b kind n = true →
      does (if reached (now b) (taddNs u.activateAt (u.holdS * 1000000000 : Nat)) = true then endActivation b kind n (stRefused .state)
        else setUpdate b kind n (fun u => { u with phase := .waiting, recheckDue := b.tick + 12500000, lastStatus := stDelayed .pending }))) ∧
    (ActivationDue s b kind n → u.pairHalf = true → exec (.updateActivation kind n) s =
      .next (if b.twin.role = .standby then broughtUp (imageInUse b kind n) kind n else b)) ∧
    (ActivationDue s b kind n → u.pairHalf = false → (suiteAt b n).locked = true →
      exec (.updateActivation kind n) s = .next (endActivation b kind n (stRefused .lock))) ∧
    (let u := updateAt s kind n
     let half := decide (s.twin.role = .active) && u.pairHalf
     (u.phase = .trial → reached (now s) u.trialEnd = true → half = false →
      (kind = 3 → exec (.trialExpiry kind n) s = .next (resetSuite (tellOutcome (setUpdate s 3 n comeBack) 3 n (stRefused .state)) n true)) ∧
      (kind ≠ 3 → oneByOne s kind u u.fallback = true → exec (.trialExpiry kind n) s =
        .next (setUpdate s kind n (fun u => { u with pairHalf := true, pairTick := s.tick }))) ∧
      (kind ≠ 3 → oneByOne s kind u u.fallback = false → exec (.trialExpiry kind n) s =
        .next (warmForUpdate (setUpdate s kind n (fun u => { comeBack u with lastStatus := stRefused .state, report := true }))))) ∧
     (u.phase ≠ .trial ∨ reached (now s) u.trialEnd = false ∨ half = true → exec (.trialExpiry kind n) s = .next s)) ∧
    (∀ since, halfSince s = some since →
      exec .pairUpdateSwitchover s = .next (
        if s.twin.inStep = true ∧ 64 ≤ s.twin.inStepCount ∧ since < s.twin.inStepTick ∧ s.twin.inStepTick + 1250000000 ≤ s.tick then beginSwitch s else s) ∧
      exec .pairUpdateTimeout s = .next (if s.tick < since + 75000000000 then s
        else if (updateAt s 1 0).pairHalf = true then
          (if (updateAt s 1 0).phase = .scheduled then endActivation s 1 0 (stRefused .state) else s)
        else { s with twin := { s.twin with pairReset := none } })) ∧
    (halfSince s = none → exec .pairUpdateSwitchover s = .next s ∧ exec .pairUpdateTimeout s = .next s)

/-- The state once the speaker has answered the group command `g` (R52). -/
def groupTold (s : State) (g : GroupCmd) (reason : Reason) : State :=
  let served := g.members.all (fun n => g.answers.any (fun a => a.1 == n && a.2.cls == .done))
  lateReply { s with groupCmds := eraseFirst (· == g) s.groupCmds } g.via g.target g.tag g.replyQueue g.code g.suite
    (if served = true then stDone else { cls := .partialDone, reason }) (if served = true then [] else servedBits g)

/-- The state once a member's answer has joined those of the group command `g`: the last one lets the speaker answer (R52). -/
def answerJoins (s : State) (g : GroupCmd) (member : Nat) (st : Status) : State :=
  let h := { g with answers := g.answers ++ [(member, st)] }
  let b := { s with groupCmds := s.groupCmds.map (fun x => if x = g then h else x) }
  if h.members.all (fun n => h.answers.any (fun a => a.1 == n)) = true then groupTold b h .none else b

/-- The group command of a level with a TAG that awaits the answer of a member. -/
def awaited (s : State) (l tag member : Nat) : Option GroupCmd :=
  s.groupCmds.find? (fun g => g.level == l && g.tag == tag && g.members.contains member && !g.answers.any (fun a => a.1 == member))

/-- A write of CLR_WORST clears WORST_SEV; writing ones to the W1C bits of the listed registers clears them, and no other
register takes a plain write. A point read is answered with the value, or refused for its address, its kind or the suite's
rights; one that is repeated is answered again, and one through the pair is forwarded to the active. The speaker of a group
answers when the last member has answered, or after 50 ms with those that were served; a member whose declaration differs is
excluded. A loopback test ends with its counts and the link is trained again. -/
def Obligations.UnitEvents : Prop :=
  ∀ (s : State),
    (∀ u, exec (.clrWorst u) s = .next (setUnitStat s u (fun x => { x with worstSev := 0 }))) ∧
    (∀ n v, n < 4096 → exec (.registerWrite (.slot n) v) s = .next (setSlot s n (fun x => { x with
      asSeen := x.asSeen && !v.getLsbD 20, qsSeen := x.qsSeen && !v.getLsbD 21 }))) ∧
    (∀ p v, p < 192 → exec (.registerWrite (.status (.part { cls := 1, inst := p }) 2) v) s = .next (setPort s p (fun x => { x with
      halfRx := x.halfRx &&& ~~~ v.setWidth 32, halfTx := x.halfTx &&& ~~~ (v >>> 32).setWidth 32 }))) ∧
    (∀ i v, i < 3 → exec (.registerWrite (.status (.part { cls := 2, inst := i }) 2) v) s = .next (setPort s (192 + i) (fun x => { x with
      halfRx := x.halfRx &&& ~~~ v.setWidth 32, halfTx := x.halfTx &&& ~~~ (v >>> 32).setWidth 32 }))) ∧
    (∀ v, exec (.registerWrite (.status (.part { cls := 5, inst := 7 }) 1) v) s = .next { s with clock := { s.clock with
      jumpRefused := s.clock.jumpRefused && !v.getLsbD 34, forcedSeen := s.clock.forcedSeen && !v.getLsbD 35 } }) ∧
    (∀ v, exec (.registerWrite (.status (.part { cls := 7, inst := 16 }) 2) v) s =
      .next { s with inputs := { s.inputs with testFail := s.inputs.testFail &&& ~~~ v } }) ∧
    (∀ u word v, (∀ p, u = .part p → p.cls ≠ 1 ∧ p.cls ≠ 2 ∧ p.cls ≠ 5 ∧ p.cls ≠ 7) → exec (.registerWrite (.status u word) v) s = .next s) ∧
    (∀ host suite target tag rq,
      let read := fun (t : State) => exec (.pointRead host suite target tag rq) s = .next t
      let fn := Config.pointReadFn.toNat
      let b := settleAll s
      let told := fun (b : State) (u : Option UnitId) (st : Status) (words : List (BitVec 64)) =>
        read (sendCompletion (noteReply b u target tag rq fn st words) rq none { st, fn, tag, suite, payload := words })
      (resolve s target = none → told b none (stRefused .address) []) ∧
      (∀ e, resolve s target = some (.point e true) → activeElsewhere s = true → s.twin.failed = false →
        read { s with twin := { s.twin with forwarded := s.twin.forwarded ++ [{
          prio := 0, ptag := false, srcSuite := suite, hostId := host, seq := 0, entered := now s, producer := .session suite host 0
          data := wordBytes [target, pack [(16, 16, tag), (32, 16, rq)]] }] } }) ∧
      (∀ t, resolve s target = some t → (∀ e, t = .point e true → activeElsewhere s = false ∨ s.twin.failed = true) →
        let u := targetUnit t
        (∀ r, findRecord s u tag rq = some r →
          read (sendCompletion (noteStatus s r.unit r.status) rq none { st := r.status, fn := r.code.getD fn, tag, suite, payload := r.payload })) ∧
        (findRecord s u tag rq = none →
          (∀ v, t = .unit v → told b (some u) (stRefused .range) []) ∧
          (∀ e via, t = .point e via →
            (mayRead b suite e = true → told b (some u) stDone
              ((pointVal b e).v :: (if (pointCfg b e).type = tyTime80 then [pack [(0, 16, (pointVal b e).hi.toNat)]] else []))) ∧
            (mayRead b suite e = false → told (countThreshold b suite) (some u) (stRefused .threshold) []))))) ∧
    (∀ l tag member st same,
      (awaited s l tag member = none → exec (.groupMemberReply ⟨l, tag⟩ member ⟨st, same⟩) s = .next s) ∧
      (∀ g, awaited s l tag member = some g →
        (member ≠ ownMember s l → exec (.groupMemberReply ⟨l, tag⟩ member ⟨st, same⟩) s =
          .next (answerJoins (judgeMember s l member same) g member (if same = true then st else stRefused .address))) ∧
        (member = ownMember s l → ∀ o, s.groupOut.find? (fun o => o.1 == tag && o.2.1 == g.replyQueue) = some o →
          exec (.groupMemberReply ⟨l, tag⟩ member ⟨st, same⟩) s =
            .next (answerJoins { s with groupOut := eraseFirst (fun x => x == o) s.groupOut } g member o.2.2)))) ∧
    (∀ l tag g, s.groupCmds.find? (fun g => g.level == l && g.tag == tag && decide (g.sinceTick + 6250000 ≤ s.tick)) = some g →
      exec (.groupMemberTimeout ⟨l, tag⟩) s = .next (groupTold s g .timeout)) ∧
    (∀ l tag, (∀ g ∈ s.groupCmds, s.tick < g.sinceTick + 6250000) → exec (.groupMemberTimeout ⟨l, tag⟩) s = .next s) ∧
    (∀ u t r, tlook s.tests (unitKey u) = some t → t.depth = 4 → s.tick < t.startTick + 125000000 * t.durationS → exec (.loopTestEnd u r) s = .next s) ∧
    (∀ u t r, tlook s.tests (unitKey u) = some t → t.depth ≠ 4 ∨ t.startTick + 125000000 * t.durationS ≤ s.tick →
      exec (.loopTestEnd u r) s = .next (retrainUnit (lateReply { s with tests := tdel s.tests (unitKey u) } .unit (unitAddr s u) t.tag t.replyQueue 0xF0 t.suite
        (if t.depth = 4 ∨ (r.received = r.sent ∧ r.bad = 0) then stDone else stFault .check) (loopWords r)) u))

/-! ### Events of the Hallway bus -/

/-- ERROR ACTIVE or ERROR PASSIVE by the counters (R303). -/
def errorState (tec rec' : Nat) : Nat := if 127 < tec ∨ 127 < rec' then 1 else 0

/-- Who wins arbitration among the offered frames: the lowest key, then the lowest slot (R298). -/
def WinsBus (l : List (Nat × Offered)) (o : Nat × Offered) : Prop :=
  ∃ front back, l = front ++ o :: back ∧ (∀ x ∈ front, arbitrationKey o.2.frame < arbitrationKey x.2.frame) ∧
    ∀ x ∈ back, arbitrationKey o.2.frame ≤ arbitrationKey x.2.frame

/-- On a port on the bus a received frame of an enabled format counts and goes where the first matching filter says, on a
STANDBY nowhere. A slot's item is taken when it passes its checks; the lowest identifier wins an attempt; an attempt ends in
success, in lost arbitration, or in an error, which raises TEC, retries, ends the frame or takes the port off the bus. A
lifetime withdraws a frame; a port off the bus recovers; a time pair is recorded once a millisecond; receive errors raise REC,
exceptions and integration set the port's state. (What an error adds to TEC and REC is presumed from ISO 11898-1, assumption
113.) Without REFCLK none of this happens. -/
def Obligations.HallwayEvents : Prop :=
  ∀ (s : State) (h : Nat),
    let x := hallAt s h
    (s.clock.clkFault = true → ∀ fr slot e re group n, ∀ i ∈ [Instr.hallwayFrameReceived h fr, .hallwayTakeItem h slot, .hallwayAttemptStart h n,
      .hallwayAttemptEnd h e, .hallwayLifetimeExpiry h slot, .busOffRecovery h, .hallwayBusIntegration h, .hallwayReceiveError h re,
      .protocolExceptionEvent h, .hallwayTimePair group n], exec i s = .next s) ∧
    (s.clock.clkFault = false →
      (∀ fr, onBus s h = true → (enabledFormats x.cfg).getLsbD fr.format = true →
        ∃ rec', (x.recErr ≤ 127 → rec' = x.recErr - 1) ∧ (127 < x.recErr → 119 ≤ rec' ∧ rec' ≤ 127) ∧
          (let b := setHall { s with free := s.free + 1 } h (fun x => { x with
             rxFrames := (x.rxFrames + 1) % 2 ^ 32, recErr := rec', busState := errorState x.tec rec' })
           let does := fun t => exec (.hallwayFrameReceived h fr) s = .next t
           let filter := (hallAt b h).filters.find? (fun e => filterMatches e.2 fr)
           (s.twin.role = .standby → does (setHall b h (fun x => { x with rxStandby := bump 16 x.rxStandby }))) ∧
           (∀ e, s.twin.role ≠ .standby → filter = some e →
             does (if e.2.queueAction = true then hallEnter b h e.2.queue e.2.suite e.2.prio fr else b)) ∧
           (s.twin.role ≠ .standby → filter = none → does (hallEnter b h (hallDefault h (hallAt b h).cfg) 0 0 fr)))) ∧
      (∀ fr, onBus s h = false ∨ (enabledFormats x.cfg).getLsbD fr.format = false → exec (.hallwayFrameReceived h fr) s = .next s) ∧
      (∀ slot t it,
        let b := settleHall s h
        let c := tget {} (hallAt b h).slots slot
        let qn := slotQueue c
        maySend b h = true → qn ≠ 0 → tlook (hallAt b h).offered slot = none → resetting b c.suite = false → hallWaits b h 0 = [] →
        EngineTakes b qn (hallPart h) t it →
        (hallRefusal t h c it = none → exec (.hallwayTakeItem h slot) s = .next (setHall (setQueue t qn (fun q => { q with
          items := mapWhere (fun y => y.seq == it.seq) (fun y => { y with deliveredTo := some (.engine (hallPart h)) }) q.items })) h
          (fun x => { x with offered := tput x.offered slot (offeredOf it c) }))) ∧
        (∀ st, hallRefusal t h c it = some st → exec (.hallwayTakeItem h slot) s =
          .next (completeOffered (if st = stRefused .threshold then countThreshold t c.suite else t) h slot (offeredOf it c) st))) ∧
      (∀ ago o, maySend s h = true → attempting s h = none → hallWaits s h 0 = [] →
        WinsBus (x.offered.filter (fun o => o.2.cancel.isNone && !lifetimePassed s h o.2)) o →
        exec (.hallwayAttemptStart h ago) s = .next (setHall s h (fun x => { x with
          offered := tput x.offered o.1 { o.2 with attempting := true, attempts := o.2.attempts + 1, sof := some (sofTime s h ago) } }))) ∧
      (∀ ago, maySend s h = false → exec (.hallwayAttemptStart h ago) s = .next s) ∧
      (∀ slot o, attempting s h = some (slot, o) →
        let ends := fun (e : AttemptEnd) (t : State) => exec (.hallwayAttemptEnd h e) s = .next (settleHall t h)
        (x.integrated = true →
          ends .success (completeOffered (setHall s h (fun x => { x with
            txFrames := (x.txFrames + 1) % 2 ^ 32, tec := x.tec - 1, busState := errorState (x.tec - 1) x.recErr })) h slot o stDone) ∧
          ends .arbitrationLost (afterAttempt (setHall s h (fun x => { x with arbLost := min 65535 (x.arbLost + 1) })) h slot o) ∧
          (∀ kind spared dominant,
            let o' := { o with errors := o.errors + 1 }
            let b := setHall s h (fun x => { x with
              errors := min 65535 (x.errors + 1), lastError := kind, tec := min (x.tec + transmitCount x kind spared dominant) 511
              offered := tput x.offered slot o' })
            ends (.error kind spared dominant)
              (if 255 < (hallAt b h).tec then enterBusOff b h else afterAttempt (setHall b h settleErrors) h slot o'))) ∧
        (x.integrated = false → ends .success (completeOffered s h slot o stDone) ∧
          (∀ e, e ≠ .success → ends e (completeOffered s h slot o (o.cancel.getD stResetDiscarded))))) ∧
      (∀ e, attempting s h = none → exec (.hallwayAttemptEnd h e) s = .next s) ∧
      (∀ slot o, tlook x.offered slot = some o →
        (x.cfg.trunk = false → o.lifetimeUs ≠ 0 → reached (now s) (taddUs o.entered o.lifetimeUs) = true →
          exec (.hallwayLifetimeExpiry h slot) s = .next (withdrawOffered s h slot { o with byLifetime := true })) ∧
        (x.cfg.trunk = true ∨ o.lifetimeUs = 0 ∨ reached (now s) (taddUs o.entered o.lifetimeUs) = false →
          exec (.hallwayLifetimeExpiry h slot) s = .next s)) ∧
      (∀ slot, tlook x.offered slot = none → exec (.hallwayLifetimeExpiry h slot) s = .next s) ∧
      (x.busState = 2 → hallOn s h = true → exec (.busOffRecovery h) s = .next (
        if x.recoverDue + recoveryTicks x.cfg ≤ s.tick then
          raiseEvent (setHall s h (fun x => { x with busState := 0, integrated := true, tec := 0, recErr := 0 })) [0] 2 (hallUnit h) stDone [] else s)) ∧
      (hallOn s h = true → testing s (hallUnit h) = false → exec (.hallwayBusIntegration h) s = .next (setHall s h (fun x => { x with
        integrated := true, busState := if x.busState = 2 then 2 else errorState x.tec x.recErr }))) ∧
      (∀ e, onBus s h = true →
        let n := min 255 (x.recErr + ((if e.inFlag = true then 8 else 1) + 8 * e.dominant))
        exec (.hallwayReceiveError h e) s = .next (setHall s h (fun x => { x with
          errors := min 65535 (x.errors + 1), lastError := e.kind, recErr := n, busState := errorState x.tec n }))) ∧
      (onBus s h = true → exec (.protocolExceptionEvent h) s = .next (if x.cfg.pex = true then setHall s h (fun x => { x with integrated := false }) else s)) ∧
      (∀ group,
        let pairs := tget [] s.hallPairs group
        let count := s.tick * 16 / 25 % 2 ^ 48
        let pair : HallPair := { count, time := now s, tick := s.tick, recorded := true }
        ((∀ p, pairs.head? = some p → p.tick + 125000 ≤ s.tick) →
          exec (.hallwayTimePair group count) s = .next { s with hallPairs := tset [] s.hallPairs group ((pair :: pairs).take 64) }) ∧
        (∀ p, pairs.head? = some p → s.tick < p.tick + 125000 → exec (.hallwayTimePair group count) s = .next s) ∧
        (∀ n, n ≠ count → exec (.hallwayTimePair group n) s = .next s)))

/-! ### Events of the inputs, outputs, loops and metering -/

/-- The present moment lets a sense flag of output `n` rise: STUCK 100 µs after its switch changed; OPEN with OPEN_DETECT set, the bank closed and
the output off for 10 ms (R321). -/
def SenseRises (s : State) (n : Nat) (isOpen : Bool) : Prop :=
  if isOpen = true then (bankAt s (n / 8)).cfg.openDetect.getLsbD (n % 8) = true ∧ (bankAt s (n / 8)).state = .closed ∧ (outputAt s n).conducting = false ∧
    (bankAt s (n / 8)).closedTick + 1250000 ≤ s.tick ∧ (outputAt s n).switched.getD 0 + 1250000 ≤ s.tick
  else ∃ t, (outputAt s n).switched = some t ∧ t + 12500 ≤ s.tick

/-- Output `n` without a request, its switch not conducting, and noted as turned off now if it conducted; an energy pulse output blocks no other (R316). -/
def outputOff (s : State) (n : Nat) : State :=
  let b := if (outputAt s n).conducting = true ∧ isPulseOut s n = false then setBank s (n / 8) (fun b => { b with lastOffTick := some s.tick }) else s
  setOutput (conduct b n false) n (fun o => { o with pendingAt := none })

/-- Slot `n` holds sample `p`, which was accepted before every other pending sample, in slot order at one instant (R213). -/
structure FirstSample (s : State) (n : Nat) (p : Sample) : Prop where
  role : s.twin.role ≠ .standby
  sample : ∃ x, (n, x) ∈ s.hearth.slots ∧ x.pending = some p
  first : ∀ e ∈ s.hearth.slots, ∀ q, e.2.pending = some q → (e.1 = n ∧ q = p) ∨ p.order < q.order ∨ (p.order = q.order ∧ n < e.1)

/-- Bank `b` as a trip leaves it: its outputs off, and tripped, or locked out once its retries are used up (R317). -/
def trippedBank (s : State) (b : Nat) : State :=
  let x := bankAt s b
  let lock := decide (x.retries = x.cfg.maxRetries)
  let o := (bankOutputs b).foldl outputOff (setBank s b (fun x => { x with state := if lock then .lockedOut else .tripped }))
  setBank o b (fun x => { x with
    trips := min 255 (x.trips + 1), retries := if lock then x.retries else x.retries + 1, retryDue := o.tick + 125000 * x.cfg.retryMs })

/-- A pin's level that its samples have held for FILTER_US, after INVERT, is published when it differs, and a counted rising
edge counts; otherwise the event only drives the pin. A self-test that is due is noted and, failed, reported; one not due does
nothing. The longest waiting output turns on when nothing of its bank is on and the dead time is over. A trip opens the bank,
which closes again after RETRY_MS until its retries are used up; after 1 s closed they are forgotten. An output's shutdown, and
the Shutter's timeout, turn it off. Sense flags rise and clear at their times. VFIELD closes and opens the banks. With the clock
in fault the events of the utility die do nothing. -/
def Obligations.InputOutputEvents : Prop :=
  ∀ (s : State),
    (s.clock.clkFault = true → ∀ n mv b pass isOpen rise, exec (.diChange n mv) s = .next s ∧ exec (.diSelfTest n pass) s = .next s ∧
      exec (.serialiseTurnOn b) s = .next s ∧ exec (.bankRetry b) s = .next s ∧ exec (.bankRetryCountClear b) s = .next s ∧
      exec (.outputSenseFlag n isOpen rise) s = .next s) ∧
    (s.clock.clkFault = false →
      (∀ n mv, n ≤ 63 →
        let p := setPin s n (fun p => p.drive (inputBlock s (n / 8)).type3 mv s.tick)
        let held := (inputBlock p (n / 8)).filterUs ≤ p.tick / 125 - (pinAt p n).since / 125
        let level := (pinAt p n).raw != (inputBlock p (n / 8)).invert.getLsbD (n % 8)
        let counts := level = true ∧ n < 16 ∧ (inputBlock p (n / 8)).countEn.getLsbD (n % 8) = true
        let c := if counts then { p with inputs := { p.inputs with counts := tset 0 p.inputs.counts n ((tget 0 p.inputs.counts n + 1) % 2 ^ 32) } } else p
        exec (.diChange n mv) s = .next (
          if held ∧ p.boot.vfield = true ∧ inputOn p n = true ∧ p.inputs.state.getLsbD n ≠ level then
            (if utilDown c = true then { c with inputs := { c.inputs with state := setBit64 c.inputs.state n level } } else wakeFloor (publishInput c n level))
          else p)) ∧
      (∀ n mv, 63 < n → exec (.diChange n mv) s = .next s) ∧
      (∀ n pass, n ≤ 63 → s.boot.vfield = true → inputOn s n = true → (inputBlock s (n / 8)).testPeriod ≠ 0 →
        (∀ t, tlook s.inputs.tested n = some t → t + 125000 * (1000 * (inputBlock s (n / 8)).testPeriod) ≤ s.tick) →
        let b := { s with inputs := { s.inputs with testFail := setBit64 s.inputs.testFail n (!pass), tested := tput s.inputs.tested n s.tick } }
        exec (.diSelfTest n pass) s = .next (if pass = true then b else raiseEvent b [(pointCfg b n).owner, 0] 4 inputUnit stDone [])) ∧
      (∀ n pass, (63 < n ∨ s.boot.vfield = false ∨ inputOn s n = false ∨ (inputBlock s (n / 8)).testPeriod = 0 ∨
        ∃ t, tlook s.inputs.tested n = some t ∧ s.tick < t + 125000 * (1000 * (inputBlock s (n / 8)).testPeriod)) → exec (.diSelfTest n pass) s = .next s) ∧
      (∀ b n rest, pendingOutputs s b = n :: rest →
        let idle := (∀ m ∈ bankOutputs b, isPulseOut s m = true ∨ (outputAt s m).conducting = false) ∧ inDeadTime s b = false ∧ bankClosed s b = true
        (idle → exec (.serialiseTurnOn b) s = .next (setOutput (conduct s n true) n (fun o => { o with pendingAt := none, status := stDone, overload := false }))) ∧
        (¬ idle → exec (.serialiseTurnOn b) s = .next s)) ∧
      (∀ b, pendingOutputs s b = [] → exec (.serialiseTurnOn b) s = .next s) ∧
      (∀ b, exec (.bankRetry b) s = .next (if (bankAt s b).state = .tripped ∧ (bankAt s b).retryDue ≤ s.tick then
        settleBank (setBank s b (fun x => { x with state := .opened })) b else s)) ∧
      (∀ b, exec (.bankRetryCountClear b) s = .next (if (bankAt s b).state = .closed ∧ (bankAt s b).closedTick + 125000000 ≤ s.tick then
        setBank s b (fun x => { x with retries := 0 }) else s)) ∧
      (∀ n, n ≤ 47 →
        ((outputAt s n).stuck = false → SenseRises s n false → (let b := setOutput s n (fun o => { o with stuck := true, stuckSince := s.tick })
          exec (.outputSenseFlag n false true) s = .next (raiseEvent b [(pointCfg b (0x40 + n)).owner] 3 (utilUnit (n / 8)) stDone []))) ∧
        ((outputAt s n).openLoad = false → SenseRises s n true → (let b := setOutput s n (fun o => { o with openLoad := true, openSince := s.tick })
          exec (.outputSenseFlag n true true) s = .next (raiseEvent b [(pointCfg b (0x40 + n)).owner] 3 (utilUnit (n / 8)) stDone []))) ∧
        ((outputAt s n).stuck = true → exec (.outputSenseFlag n false false) s = .next (
          if (outputAt s n).stuckSince + 1250000 ≤ s.tick then setOutput s n (fun o => { o with stuck := false, stuckSince := s.tick }) else s)) ∧
        ((outputAt s n).openLoad = true → exec (.outputSenseFlag n true false) s = .next (
          if (outputAt s n).openSince + 1250000 ≤ s.tick then setOutput s n (fun o => { o with openLoad := false, openSince := s.tick }) else s))) ∧
      (∀ n isOpen rise, (47 < n ∨ (if isOpen = true then (outputAt s n).openLoad else (outputAt s n).stuck) = rise ∨ (rise = true ∧ ¬ SenseRises s n isOpen)) →
        exec (.outputSenseFlag n isOpen rise) s = .next s)) ∧
    (∀ b, b ≤ 5 → (bankAt s b).state = .closed →
      let c := (bankOutputs b).foldl (fun s n =>
        if (outputAt s n).touched = true ∧ (outputAt s n).committed = true then setOutput s n (fun o => { o with status := stRefused .power }) else s) (trippedBank s b)
      exec (.bankTrip b) s = .next (raiseEvent c (0 :: bankOwners c b) 4 (utilUnit b) (stRefused .power) [])) ∧
    (∀ b, (5 < b ∨ (bankAt s b).state ≠ .closed) → exec (.bankTrip b) s = .next s) ∧
    (∀ n, exec (.outputShutdown n) s = .next (if (outputAt s n).conducting = true then
      setOutput (outputOff s n) n (fun o => { o with overload := true, status := stRefused .power }) else s)) ∧
    (∀ n, let c := (bankAt s (n / 8)).cfg
      let due := (outputAt s n).live = true ∧ isPulseOut s n = false ∧ runsTasks s = true ∧ c.shutterMs ≠ 0 ∧ (outputAt s n).releasedTick + 125000 * c.shutterMs ≤ s.tick
      let b := setBank (setOutput (driveSafe s n) n (fun o => { o with shutterSafe := true })) (n / 8) (fun x => { x with shutterTrips := min 255 (x.shutterTrips + 1) })
      exec (.shutterTimeout n) s = .next (if due then raiseEvent b [(pointCfg b (0x40 + n)).owner, 0] 5 (engineUnit 5) stDone [] else s)) ∧
    (s.boot.vfield = true → exec .vfieldLoss s = .next (settleBanks { s with boot := { s.boot with vfield := false } }) ∧ exec .vfieldReturn s = .next s) ∧
    (s.boot.vfield = false → exec .vfieldLoss s = .next s ∧
      exec .vfieldReturn s = .next (settleBanks ((List.range 64).foldl (fun b n => setPin b n (fun p => { p with since := b.tick, prior := b.tick }))
        { s with boot := { s.boot with vfield := true } })))

/-- The sample accepted first is evaluated: the slot keeps the new history, region and marks, counts the evaluation, and its
result goes to its destinations. A TIMER slot takes its sample once at its instant, after the instant's commits. At a window's
bounds the trim is judged by its frequency, every enabled circuit is measured here or waits for the partner, the registers and
the waiting answers are written, and accepted changes act. Quantities of the standby are written by the active. The energies go
to flash every 10 s. A due pulse begins and ends with its gap. -/
def Obligations.HearthAndMeterEvents : Prop :=
  ∀ (s : State),
    (∀ n p, FirstSample s n p →
      let x := slotAt s n
      let v := if x.schedSrc = true then signed 16 (pointVal s x.schedPoint).v.toNat else p.u
      let ev := evaluate x p.u v
      exec .hearthEvaluation s = .next (writeDestinations (setSlot s n (fun x => { x with
        x := ev.x, y := ev.y, region := ev.region, pending := none, clamped := ev.clamped
        asSeen := x.asSeen || ev.asSeen, qsSeen := x.qsSeen || ev.qsSeen, evals := (x.evals + 1) % 2 ^ 32
        swaps := if ev.region = x.region then x.swaps else min 65535 (x.swaps + 1) })) n ev p)) ∧
    ((s.twin.role = .standby ∨ ∀ e ∈ s.hearth.slots, e.2.pending = none) → exec .hearthEvaluation s = .next s) ∧
    (∀ n, let b := settleAll s
      let x := slotAt b n
      let us := wholeUs (now b)
      let due := x.inUse = true ∧ x.timer = true ∧ x.timerPeriod ≠ 0 ∧ us % x.timerPeriod = x.timerPhase ∧ x.lastTrigger ≠ some us ∧
        commitsDue b = false ∧ resetting b x.suite = false ∧ b.twin.role ≠ .standby
      (x.timerPeriod ≠ 0 → x.timerPhase < x.timerPeriod) →
      exec (.hearthTimerTrigger n) s = .next (if due then
        (acceptSample (setSlot b n (fun x => { x with lastTrigger := some us })) n (signed 16 (pointVal b x.srcPoint).v.toNat)).s else b)) ∧
    (s.clock.clkFault = true → ∀ w m vals k, exec (.meterWindowEnd w) s = .next s ∧ exec (.meterQuantitiesArrive m vals) s = .next s ∧
      exec .meterFlashWrite s = .next s ∧ exec (.pulseStart k) s = .next s) ∧
    (s.clock.clkFault = false →
      (∀ w, let c0 := (circuitAt s 0).cfg
        let freq := windowFreq w c0
        let outside := phasePresent w c0 0 = false ∨ freq.1 < 45 * (freq.2 : Int) ∨ 65 * (freq.2 : Int) < freq.1
        let b := if outside then abandonTrim s 2 else trimMains s c0.hz60 (if c0.hz60 = true then 12 else 10)
        let b := (List.range 8).foldl (fun s m =>
          if (circuitAt s m).cfg.enable = false then s
          else if carriedHere s (circuitAt s m).cfg = true then measureCircuit s m w else missCircuit s m) b
        let b := (List.range 8).foldl takeCircuit (answerReads (writeRegisters b))
        exec (.meterWindowEnd w) s = .next (if windowEnds w c0 = true then writeRegisters (takeRegisters (takePulses b)) else s)) ∧
      (∀ m vals, exec (.meterQuantitiesArrive m vals) s = .next (
        if m ≤ 7 ∧ (circuitAt s m).cfg.enable = true ∧ carriedHere s (circuitAt s m).cfg = false ∧ s.twin.role = .active then
          setCircuit (((vals.take 46).mapIdx (fun o v => (o, v))).foldl (fun s e => setPoint s (quantity m e.1) e.2) s) m
            (fun x => { x with stale := false, missed := 0 })
        else s)) ∧
      (exec .meterFlashWrite s = .next (if s.boot.phase = .running ∧ s.meter.flashDue ≤ s.tick then
        { saveMeter s with meter := { (saveMeter s).meter with flashDue := (saveMeter s).tick + 1250000000 } } else s)) ∧
      (∀ k d rest, let p := pulseAt s k
        p.due = d :: rest →
        let begins := k ≤ 3 ∧ p.enable = true ∧ p.active = false ∧ p.inGap = false ∧ d ≤ s.tick ∧ runsTasks s = true ∧ bankClosed s 5 = true
        let full := 125000 * p.widthMs
        let width := match p.lastDue with
          | none => full
          | some l => min full (max 125000 ((d - l) / 2))
        let b := conduct s (44 + k) true
        exec (.pulseStart k) s = .next (if begins then
          setPulse b k (fun p => { p with due := rest, lastDue := some d, active := true, width, endTick := b.tick + width }) else s)) ∧
      (∀ k, (pulseAt s k).due = [] → exec (.pulseStart k) s = .next s)) ∧
    (∀ k, let p := pulseAt s k
      let b := conduct s (44 + k) false
      exec (.pulseEnd k) s = .next (if s.tick < p.endTick then s
        else if p.active = true then setPulse b k (fun q => { q with active := false, inGap := true, endTick := b.tick + p.width })
        else if p.inGap = true then setPulse s k (fun p => { p with inGap := false })
        else s))

/-! ### Events of the pair -/

/-- What the two members compare when they meet agrees (R222, R351). -/
structure PartnerAgrees (s : State) (p : PartnerInfo) : Prop where
  digest : p.digest = configDigest s
  version : p.mirrorVer = ownMirrorVer s
  serial : s.twin.partnerSerial = 0 ∨ p.serial = s.twin.partnerSerial
  transcript : p.transcriptOk = true

/-- The state with a new transfer key, drawn from the Cellar's random numbers (R351). -/
def transferAgreed (s : State) : State :=
  let r := randomBytes s 80
  { r.1 with twin := { r.1.twin with transferKey := some (hkdf r.2 (pairSalt s) [] 32) } }

/-- The state once the members are seen to differ: noted, and told by a member that is not ACTIVE (R222). -/
def differenceNoted (s : State) : State :=
  let b := { s with twin := { s.twin with mismatch := true } }
  if s.twin.role = .active then b else raiseEvent b [0] 5 landingUnit stDone []

/-- The state once a member follows its active partner: STANDBY, and synchronising (R223). -/
def followerState (s : State) : State :=
  let b := becomeStandby s
  { b with twin := { b.twin with syncing := true, snapshotSeen := false, resyncs := min 65535 (b.twin.resyncs + 1) } }

/-- The state once a member is the first: ACTIVE, its tasks at their next grid starts (R223). -/
def soleActive (s : State) : State := startTasksAt (becomeActive s) (now s)

/-- The state once two members of which neither is ACTIVE have met: member 0 is ACTIVE and synchronises the other (R223). -/
def rolesDecided (s : State) : State := if s.twin.member = true then followerState s else synchronise (soleActive s)

/-- What meeting partner `p` makes of a member, by its own role and by what they compare (R222, R223). -/
def metPartner (s : State) (p : PartnerInfo) (agrees : Bool) : State :=
  match s.twin.role with
  | .seeking => if agrees = false then differenceNoted s else if p.role = 2 then followerState (transferAgreed s) else rolesDecided (transferAgreed s)
  | .active => if p.role ≠ 1 then s else if agrees = true then synchronise (transferAgreed s) else differenceNoted s
  | .standby => if p.role ≠ 1 ∨ s.twin.inStep = true then s else if agrees = true then rolesDecided (transferAgreed s) else differenceNoted s
  | _ => s

/-- A heartbeat that this member hears: it is paired, the word is intact, and its path is not down or under test (R224, R225, R417). -/
structure Heard (s : State) (hb : Heartbeat) : Prop where
  role : s.twin.role ≠ .none
  intact : hb.crcOk = true
  path : (hb.strobe = false ∧ landingDown s = false) ∨ (hb.strobe = true ∧ testing s (linkUnit 6) = false)

/-- The pair's state once a heartbeat has been heard: its path is alive and the partner's word is kept (R225, R226). -/
def heartbeatKept (s : State) (hb : Heartbeat) : State :=
  let t := if hb.strobe = true then { s.twin with strobe := { alive := true, lastTick := s.tick } } else { s.twin with landing := { alive := true, lastTick := s.tick } }
  { s with twin := { t with
    partnerRole := hb.role % 8, partnerInStep := hb.inStep, partnerHealthy := hb.healthy, failed := false
    laneFails := if hb.strobe = true then t.laneFails else [], partnerDseq := if hb.strobe = true then t.partnerDseq else hb.dseq % 2 ^ 32
    epoch := if t.role ≠ .active ∧ hb.role = 2 ∧ hb.strobe = false then hb.epoch % 2 ^ 32 else t.epoch } }

/-- The heartbeat tells an active of a standby out of step, to which no snapshot of the last 300 ms is on its way (R234). -/
structure AsksSnapshot (s : State) (hb : Heartbeat) : Prop where
  role : s.twin.role = .active
  token : hb.strobe = false
  partner : hb.role = 3 ∧ hb.inStep = false
  key : s.twin.transferKey.isSome = true
  steady : s.twin.tsw = none
  due : s.twin.syncing = false ∨ s.twin.syncTick + 37500000 ≤ s.tick

/-- The state once lane `lane` has failed: out of service, and FAULT(LINK) counted on the unit with the last one (R224). -/
def laneLost (s : State) (lane : Nat) : State :=
  let b := { s with twin := { s.twin with laneFails := tset 0 s.twin.laneFails lane 0, lanesUp := s.twin.lanesUp &&& ~~~(BitVec.ofNat 4 (2 ^ lane)) } }
  if landingDown b = true then setUnitStat b landingUnit (fun u => { u with lastStatus := stFault .link, faultCount := min 65535 (u.faultCount + 1) }) else b

/-- The state once a standby without Tsw has heard it in a token of its active (R239). -/
def toldSwitch (s : State) (hb : Heartbeat) : State :=
  if s.twin.role = .standby ∧ s.twin.tsw = none ∧ hb.strobe = false ∧ hb.role = 2 ∧ hb.tsw ≠ none then { s with twin := { s.twin with tsw := hb.tsw, tx := none } } else s

/-- Every 50 µs a paired member sends its strobe word and its token, and an active whose health is lost with a standby in step
begins a switchover. A heard word keeps its path alive; a second active of lower standing steps down, a standby out of step is
synchronised, and a standby learns Tsw from its active's token. A path dies after HB_MISS intervals: the other one reports it,
or the partner has failed. Members that meet compare and take their roles, and one that hears nothing for 2 s becomes active.
The standby follows the active's clock each millisecond. A lane leaves service at its fourth failure. At Tsw the active begins
nothing more and at Tx the members exchange roles. -/
def Obligations.PairRoles : Prop :=
  ∀ (s : State),
    let t := s.twin
    (let stops := t.wasHealthy = true ∧ healthy s = false
      let b := { s with twin := { t with hbSentTick := s.tick, strobeWord := strobeWord s, token := some (heartbeatToken s), wasHealthy := healthy s } }
      exec .heartbeatSend s = .next (
        if t.role = .none ∨ s.addr.paired = false ∨ s.tick < t.hbSentTick + 6250 then s
        else if t.role = .active ∧ t.inStep = true ∧ stops then beginSwitch b else b)) ∧
    (∀ hb, Heard s hb →
      let b := heartbeatKept s hb
      let c := stepDown b
      (t.role = .active → hb.role = 2 → stepsDown b hb = true →
        exec (.heartbeatReceived hb) s = .next { c with twin := { c.twin with epoch := if hb.strobe = true then c.twin.epoch else hb.epoch % 2 ^ 32 } }) ∧
      (AsksSnapshot s hb → exec (.heartbeatReceived hb) s = .next (synchronise b)) ∧
      ((t.role ≠ .active ∨ hb.role ≠ 2 ∨ stepsDown b hb = false) → ¬ AsksSnapshot s hb → exec (.heartbeatReceived hb) s = .next (toldSwitch b hb))) ∧
    (∀ hb, ¬ Heard s hb → exec (.heartbeatReceived hb) s = .next s) ∧
    (∀ strobe,
      let p := if strobe = true then t.strobe else t.landing
      let other := if strobe = true then t.landing else t.strobe
      let b := { s with twin := if strobe = true then { t with strobe := { p with alive := false } } else { t with landing := { p with alive := false } } }
      exec (.pathDead strobe) s = .next (
        if p.alive = false ∨ s.tick < p.lastTick + deadTicks s then s
        else if other.alive = true then raiseEvent b [0] 5 landingUnit stDone [] else partnerFailed b)) ∧
    (∀ p, let b := { s with twin := { t with metSerial := p.serial } }
      (landingDown s = true → exec (.partnerMet p) s = .next s) ∧
      (landingDown s = false → PartnerAgrees b p → exec (.partnerMet p) s = .next (settleEpochs s (metPartner b p true))) ∧
      (landingDown s = false → ¬ PartnerAgrees b p → exec (.partnerMet p) s = .next (settleEpochs s (metPartner b p false)))) ∧
    (exec .seekingTimeout s = .next (
      if t.role = .seeking ∧ max t.seekTick (max t.landing.lastTick t.strobe.lastTick) + 250000000 ≤ s.tick then soleActive s else s)) ∧
    (∀ activeTime,
      let takes := t.role = .standby ∧ landingDown s = false ∧ ∀ x, t.exchange = some x → x.2 + 125000 ≤ s.tick
      (takes → ∃ d : Int, -10 ≤ d ∧ d ≤ 10 ∧ exec (.twinClockExchange activeTime) s = .next { s with
        free := s.free + 1, clock := { s.clock with time := taddNs activeTime d, isSet := true, increment := disciplined s activeTime }
        twin := { t with exchange := some (activeTime, s.tick) } }) ∧
      (¬ takes → exec (.twinClockExchange activeTime) s = .next s)) ∧
    (∀ lane, exec (.landingFrameError lane) s = .next (
      if 4 ≤ lane ∨ t.lanesUp.getLsbD lane = false then s
      else if tget 0 t.laneFails lane < 3 then { s with twin := { t with laneFails := tset 0 t.laneFails lane (tget 0 t.laneFails lane + 1) } }
      else laneLost s lane)) ∧
    (exec .reclaim s = .next (if reclaimDue s = true ∧ t.tsw = none then { s with twin := { t with tsw := some (switchTime s), tx := none } } else s)) ∧
    (∀ tsw, t.tsw = some tsw → t.tx = none → exec .switchInstant s = .next (
      if reached (now s) tsw = true then { s with twin := { t with tx := some (handoverTime s tsw) } } else s)) ∧
    ((t.tsw = none ∨ t.tx.isSome = true) → exec .switchInstant s = .next s) ∧
    (∀ tsw tx, t.tsw = some tsw → t.tx = some tx → exec .switchHandover s = .next (if reached (now s) tx = true then exchangeRoles tsw tx s else s)) ∧
    ((t.tsw = none ∨ t.tx = none) → exec .switchHandover s = .next s)

/-- The state once a confirmation of the shipped delta `x` has been taken: it is forgotten, the longest time is kept, and a cycle that it
prepared is released, its DELAYED(MIRROR) ended (R138, R234, R241). -/
def confirmationTaken (s : State) (x : Shipped) : State :=
  let b := { s with twin := { s.twin with
    shipped := s.twin.shipped.filter (fun y => y.dseq != x.dseq)
    dseqLast := x.dseq, confirmMax := max s.twin.confirmMax (min 65535 ((s.tick - x.tick) / 125)) } }
  match x.prepared with
  | none => b
  | some (n, t, k) => setTask b (ctxKey n t) (fun z => { z with
      lastStatus := if z.cycle.any (fun y => y.number == k) = true ∧ z.lastStatus = stDelayed .mirror then stDone else z.lastStatus
      cycle := z.cycle.map (fun y => if y.number = k then { y with confirmed := true } else y) })

/-- A confirmation of `x` comes later than M; a snapshot's never does (R234). -/
def ConfirmedLate (s : State) (x : Shipped) : Prop := x.snapshot = false ∧ 125 * s.twin.mUs < s.tick - x.tick

/-- The delta follows the one that the standby applied last, and its mirror buffer has room for it (R233). -/
def Follows (s : State) (d : Delta) : Prop := d.dseq % 2 ^ 32 = (s.twin.dseqLast + 1) % 2 ^ 32 ∧ overfills s d = false

/-- The standby that the entries of an unprepared delta act on: a snapshot's first delta replaces what it holds (R234). -/
def deltaBase (s : State) (d : Delta) : State := if d.snapshot = true ∧ s.twin.snapshotAt ≠ some d.at80 then clearMirrored s else s

/-- An active with a follower ships what waits once every commit of its instant has taken place, or after a millisecond. A
standby reads a delta from its items, applies the next one as one change and confirms it; items it cannot read, a gap, a filled
mirror buffer or an unknown entry put it out of step; a prepared one is kept for its commit. A winner takes the outcomes it is
told. A confirmation within M counts, or brings the standby into step; a later one, or none within M, ends the step. -/
def Obligations.MirrorDeltas : Prop :=
  ∀ (s : State),
    let t := s.twin
    (exec .deltaShip s = .next (
      if followed s = false then s
      else match t.commitAt with
        | some c => if commitsDue s = true then s else shipWaiting s c
        | none => if t.lastShipTick + 125000 ≤ s.tick then shipWaiting s (now s) else s)) ∧
    (∀ at80, let b := shipDelta s false false at80 t.waiting none
      shipWaiting s at80 = { b with twin := { b.twin with waiting := [], commitAt := none } }) ∧
    (∀ x d, x.intact = true → landingDown s = false → t.role = .standby → readDelta x.items = some d →
      let does := fun u => exec (.deltaApply x) s = .next u
      (d.snapshot = false → t.snapshotSeen = false → does s) ∧
      (d.snapshot = false → t.snapshotSeen = true → ¬ Follows s d → does (fallOut s)) ∧
      ((d.snapshot = true ∨ (t.snapshotSeen = true ∧ Follows s d)) →
        (d.prepared = true → knownEntries d = true → does (confirmed d (storePrepared d s))) ∧
        (d.prepared = true → knownEntries d = false → does (fallOut s)) ∧
        (d.prepared = false → applyEntries applyConfig false d.at80 d.entries (deltaBase s d) = none → does (fallOut s)) ∧
        (d.prepared = false → ∀ u, applyEntries applyConfig false d.at80 d.entries (deltaBase s d) = some u → does (confirmed d u)))) ∧
    (∀ x, x.intact = true → landingDown s = false →
      (t.role = .standby → readDelta x.items = none → exec (.deltaApply x) s = .next (fallOut s)) ∧
      (t.role = .active → ∀ d, readDelta x.items = some d → exec (.deltaApply x) s = .next (takeOutcomes d s)) ∧
      (t.role = .active → readDelta x.items = none → exec (.deltaApply x) s = .next s) ∧
      (t.role ≠ .standby → t.role ≠ .active → exec (.deltaApply x) s = .next s)) ∧
    (∀ x, (x.intact = false ∨ landingDown s = true) → exec (.deltaApply x) s = .next s) ∧
    (∀ n x, t.shipped.find? (fun y => y.dseq == n) = some x →
      let b := confirmationTaken s x
      let does := fun u => exec (.deltaConfirmation n) s = .next u
      (ConfirmedLate s x → let c := { b with twin := { b.twin with mirrorLate := min 65535 (b.twin.mirrorLate + 1) } }
        does (if t.inStep = true then synchronise c else c)) ∧
      (¬ ConfirmedLate s x → t.syncing = true → (x.snapshot = true ∨ t.snapshotSeen = true) →
        does { b with twin := { b.twin with syncing := false, inStep := true, inStepCount := 0, inStepTick := b.tick } }) ∧
      (¬ ConfirmedLate s x → (t.syncing = false ∨ (x.snapshot = false ∧ t.snapshotSeen = false)) →
        does (if t.inStep = true then { b with twin := { b.twin with inStepCount := min 65535 (b.twin.inStepCount + 1) } } else b))) ∧
    (∀ n, (∀ x ∈ t.shipped, x.dseq ≠ n) → exec (.deltaConfirmation n) s = .next s) ∧
    (∀ n, ((∃ x ∈ t.shipped, x.dseq = n ∧ ConfirmedLate s x) → t.inStep = true → exec (.confirmationTimeout n) s = .next (synchronise s)) ∧
      (((∀ x ∈ t.shipped, x.dseq = n → ¬ ConfirmedLate s x) ∨ t.inStep = false) → exec (.confirmationTimeout n) s = .next s)) ∧
    (∀ n k, let due := t.prepared.find? (fun x => x.suite == n && x.task == k && reached (now s) x.commit)
      (∀ p, t.role = .standby → due = some p →
        let b := { s with twin := { t with prepared := t.prepared.filter (fun x => x != p) } }
        exec (.preparedCycleCommit n k) s = .next (match applyEntries (fun _ _ s => s) true p.commit p.entries b with
          | some u => u
          | none => b)) ∧
      ((t.role ≠ .standby ∨ due = none) → exec (.preparedCycleCommit n k) s = .next s))

/-! ### Events of the Attic, the Mantel clock, the resets and the test access port -/

/-- The state with another Mantel clock. -/
def withMantel (s : State) (m : Mantel) : State := { s with mantel := m }

/-- A task's event taken out of flight, its credit returned (R115). -/
def taskEventTaken (s : State) (e : Event) : State :=
  let b := { s with attic := { s.attic with taskEvents := eraseFirst (· == e) s.attic.taskEvents } }
  match e.ctx with
  | some c => setCtx b c (fun x => { x with eventCredits := min 8 (x.eventCredits + 1) })
  | none => b

/-- The Mantel clock loaded with `t` seconds, its trim window abandoned (R381). -/
def mantelLoaded (m : Mantel) (t : Nat) (halt : Bool) : Mantel :=
  { m with halt, seconds := t, fraction := 0, oscStop := false, trimAcc := 0, window := none }

/-- The Attic writes the worst event in flight first, returning a task's credit; it copies records every FLUSH_MS and scrubs
line by line. The always-on domain latches the first switch to VBAK, judges VBAK each second with hysteresis, notes a stopped
crystal, loses its contents without VBAK, releases SET_RUN at a whole second, trims by the counted window within its limits,
wakes for 1/64 s, and latches a tamper. -/
def Obligations.AtticAndMantelEvents : Prop :=
  ∀ (s : State),
    let m := s.mantel
    let a := s.attic
    (∀ e, firstWorst a.flight = some e → (∀ f, firstWorst a.taskEvents = some f → f.sev ≤ e.sev) →
      exec .atticRecordWrite s = .next (tellLost (writeRecord { s with attic := { a with flight := eraseFirst (· == e) a.flight } } e))) ∧
    (∀ e, firstWorst a.taskEvents = some e → (∀ f, firstWorst a.flight = some f → f.sev < e.sev) →
      exec .atticRecordWrite s = .next (writeRecord (taskEventTaken s e) e)) ∧
    (a.flight = [] → a.taskEvents = [] → exec .atticRecordWrite s = .next s) ∧
    (∀ fails, exec (.atticFlush fails) s = .next (if s.tick < a.flushDue then s
      else
        let b := { s with attic := { a with flushDue := s.tick + 125000 * a.flushMs } }
        if a.persistEn = true then copyRecords b (toCopy b) fails else b)) ∧
    (∀ found,
      let b := { s with attic := { a with scrubDue := s.tick + 125 * a.scrubInterval } }
      exec (.scrubLine found) s = .next (if a.scrubStop = true ∨ s.tick < a.scrubDue then s
        else nextLine (if a.scrubLine < 2621440 then scrubSram b a.scrubLine found else scrubRing b (a.scrubLine - 2621440) found))) ∧
    (m.onBackup = false → exec (.backupSwitch false) s = .next s ∧ exec (.backupSwitch true) s = .next (withMantel s { m with
      onBackup := true, bakFirst := if m.bakLatched = true then m.bakFirst else m.seconds % 2 ^ 32, bakLatched := true
      bakSwitches := min 65535 (m.bakSwitches + 1), backupReported := false, window := none })) ∧
    (m.onBackup = true → exec (.backupSwitch true) s = .next s ∧ exec (.backupSwitch false) s = .next (withMantel s { m with onBackup := false })) ∧
    (∀ mv, exec (.vbakMeasure mv) s = .next (if m.onBackup = true ∨ s.tick < m.vbakDue then s
      else withMantel s { m with vbakDue := s.tick + 125000000, batLow := if mv < 2300 then true else if 2400 ≤ mv then false else m.batLow })) ∧
    (∃ lost : Bool, let f := { s with free := s.free + 1 }
      exec .oscStop s = .next (
      if m.onBackup = true ∧ lost = true then withMantel f (lostDomain m)
      else if s.tick < m.lastEdge + 500000 then f
      else
        let b := withMantel f { m with oscStop := true }
        if m.oscStop = false ∧ m.onBackup = false then raiseEvent b [0] 4 mantelUnit stDone [] else b)) ∧
    (∀ t, m.loadAt = some t →
      let due := reached (now s) { sec := t, ns := 0 } = true
      (¬ due → exec .setRunRelease s = .next s) ∧
      (due → m.loadIsReload = true → exec .setRunRelease s = .next (withMantel s { mantelLoaded m t m.halt with
        loadAt := none, loadIsReload := false, phaseSteps := min 65535 (m.phaseSteps + 1) })) ∧
      (due → m.loadIsReload = false →
        let b := withMantel s { m with loadAt := none }
        exec .setRunRelease s = .next ((runWaits b).foldl (fun s r =>
          endWaiting r stDone (withMantel s (mantelLoaded s.mantel ((r.word 3).toNat % 2 ^ 48) false))) b))) ∧
    (m.loadAt = none → exec .setRunRelease s = .next s) ∧
    (∀ n : Nat, m.trimDone = some n →
      let trim := max (-2083) (min 2083 (m.trim - roundDiv (((n : Int) - 33554432) * 100000000) 402653184))
      let b := withMantel s { m with trimDone := none, trim, windows := min 65535 (m.windows + 1) }
      exec (.trimWindowEnd n) s = .next (
        if m.trimSrc = 1 ∧ 500000000000 < (phaseError b).natAbs ∧ m.loadAt = none then
          withMantel s { b.mantel with loadAt := some ((now s).sec + 1), loadIsReload := true } else b)) ∧
    (∀ n : Nat, m.trimDone ≠ some n → exec (.trimWindowEnd n) s = .next s) ∧
    (let k := m.seconds * 64 + m.fraction / 512
     exec .mantelWake s = .next (if m.wakeTicks ≠ 0 ∧ m.halt = false ∧ k % m.wakeTicks = 0 ∧ k ∉ m.wakes then withMantel s { m with
       mwakeN := false, wakeEnd := s.tick + 1953125, wakeCount := (m.wakeCount + 1) % 65536, wakes := k :: m.wakes.filter (fun w => k < w) } else s)) ∧
    (exec .mwakeNRelease s = .next (if m.mwakeN = false ∧ m.wakeEnd ≤ s.tick then withMantel s { m with mwakeN := true } else s)) ∧
    (let b := withMantel s { m with tamperLatched := true, tamperSec := m.seconds % 2 ^ 32 }
     exec .tamper s = .next (
      if m.tamperLatched = true then s
      else if s.boot.phase = .running then mirrorChanges s (actOnTamper b) (s.cellar.keys.map (·.1)) else b))

/-- The width of the register that a TAP instruction selects (R418, R419). -/
def tapWidth (s : State) : TapInstr → Nat
  | .idcode => 32
  | .ident => 128
  | .clamp | .highz | .bypass => 1
  | .extest | .samplePreload | .extestPulse | .extestTrain => s.tap.boundary.length

/-- What the register that a TAP instruction selects captures (R418, R419). -/
def tapCapture (s : State) (i : TapInstr) : Nat := if i = .idcode then idcode s else if i = .ident then identData s else 0

/-- `b` with the TAP holding an instruction, and in its data register what that instruction selects in `s` (R418, R419). -/
def tapLoaded (s b : State) (i : TapInstr) (holds : Bool) : State :=
  { b with tap := { b.tap with instr := i, holding := holds, width := tapWidth s i, data := tapCapture s i } }

/-- A module reset of the class `cls` that is asked for: one of no higher class than a reset under way is absorbed (R407). -/
def resetAsked (s : State) (cls : ResetClass) (cause : Nat) : State :=
  if (s.boot.phase = .held ∨ s.boot.phase = .waitPfail) ∧
      (s.boot.lastClass = .p ∨ s.boot.lastClass = cls ∨ cls = .w) then s else resetModule s cls cause

/-- The state in which the start sequence looks for a firmware image: TWIN_ROLE is sampled at P, trials have ended, the Fusebox is settled and the tests have run (R408, R409, R412). -/
def firmwareSought (b : BootEnv) (s : State) : State :=
  let warm := warmRestart s
  let s := if s.boot.lastClass = .p then { s with twin := { s.twin with member := b.twinRole } } else s
  builtInTests b (settleFuses (endTrials { s with boot := { s.boot with
    warm, restartWarm := warm, bootMs := min 65535 b.bootMs, cleanStop := false } }) b.reads)

/-- A power-on, a RESET_N pulse of 1 µs or more and the watchdog reset the module with their class and cause; one of no higher
class than a reset under way is absorbed. A PFAIL_N low for 2 µs writes journal, energies and records and then CLEAN_STOP. The
start sequence ends in recovery or starts the module. A TAP instruction selects its register; a holding one keeps a C reset, and
leaving it starts one; in FIELD it is BYPASS. -/
def Obligations.ResetAndStart : Prop :=
  ∀ (s : State),
    (exec .powerOnReset s = .next (resetAsked s .p 1)) ∧
    (∀ ns, exec (.resetNLow ns) s = .next (if ns < 1000 then s else resetAsked s .c 2)) ∧
    (exec .managementWatchdog s = .next (if s.boot.phase = .running then resetAsked s .w 6 else s)) ∧
    (let low := { s with boot := { s.boot with pfailLow := true } }
      let b := { low with journal := { s.journal with staging := [], written := s.journal.written ++ s.journal.staging } }
      let c := saveMeter b
      let d := if c.attic.persistEn = true then copyRecords c ((toCopy c).take 64) [] else c
      exec .pfail s = .next (
        if s.boot.pfailLow = true then s
        else if s.boot.phase ≠ .running then low
        else { d with boot := { d.boot with cleanStop := true } })) ∧
    (exec .pfailNRise s = .next { s with boot := { s.boot with
      pfailLow := false, phase := if s.boot.phase = .waitPfail then .held else s.boot.phase } }) ∧
    (∀ b, s.boot.phase = .held → s.tap.holding = false → b.refclkOk = true → s.boot.pfailLow = false →
      let f := firmwareSought b s
      let bad := s.boot.memFail = true ∨ (s.boot.lastClass ≠ .w ∧ b.memFail = true) ∨ (b.m0Fail = true ∧ b.m1Fail = true)
      (bad → exec (.startSequence b) s = .next (enterRecovery f)) ∧
      (¬ bad →
        match bootFirmware f with
        | none => exec (.startSequence b) s = .next (enterRecovery f)
        | some t => exec (.startSequence b) s = .next (startModule t (warmRestart s)))) ∧
    (∀ b, s.boot.phase = .held → s.tap.holding = false → b.refclkOk = true → s.boot.pfailLow = true →
      exec (.startSequence b) s = .next { s with boot := { s.boot with phase := .waitPfail } }) ∧
    (∀ b, (s.boot.phase ≠ .held ∨ s.tap.holding = true ∨ b.refclkOk = false) → exec (.startSequence b) s = .next s) ∧
    (∀ x ∈ [(Instr.tapReset, TapInstr.idcode), (.idcode, .idcode), (.ident, .ident), (.bypass, .bypass)],
      let b := tapLoaded s s x.2 false
      exec x.1 s = .next (if s.tap.holding = true then resetAsked b .c 8 else b)) ∧
    (∀ capture update,
      let c := { s with tap := { s.tap with boundary := capture, preload := update } }
      let b := tapLoaded c c .samplePreload false
      exec (.samplePreload capture update) s = .next (if s.tap.holding = true then resetAsked b .c 8 else b)) ∧
    (∀ x ∈ [(Instr.extest, TapInstr.extest), (.clamp, .clamp), (.highz, .highz), (.extestPulse, .extestPulse), (.extestTrain, .extestTrain)],
      let b := tapLoaded s s .bypass false
      (s.cellar.lifecycle = 3 → exec x.1 s = .next (if s.tap.holding = true then resetAsked b .c 8 else b)) ∧
      (s.cellar.lifecycle ≠ 3 → exec x.1 s = .next (tapLoaded s (if s.tap.holding = true then s else resetAsked s .c 8) x.2 true))) ∧
    (exec .holdingExit s = .next (if s.tap.holding = true then resetAsked (tapLoaded s s .bypass false) .c 8 else s))

/-- For every state whose data SRAM is in its canonical form (bytes at strictly rising addresses, none zero, each in a word
whose valid bit is set; error marks at strictly rising addresses, none empty), whatever command is at the front of the queue,
and also on an empty queue: the state after the step has it too. -/
def Obligations.SramStaysCanonical : Prop :=
  ∀ (s t : State), s.sram.wf = true → step s = .next t → t.sram.wf = true

/-- After a power-on reset no byte of the data SRAM holds a value and no valid bit is set, so it is in the canonical form that
SramStaysCanonical keeps. -/
def Obligations.ResetSramCanonical : Prop :=
  State.reset.sram.wf = true ∧ (∀ a, readByte State.reset.sram a = 0) ∧ State.reset.sram.valid = []

/-- After a power-on reset nothing waits and the module is held until its start sequence; the house clock counts from 0 by 8 ns
a tick, not set, with a JUMP_THRESHOLD of 1 ms; each suite is as before any CFG_SUITE, suite 0 alone enabled and without an
owner; no task is loaded, no queue holds an item, no key is present; units are STARTING, DO are off and bank switches open,
ports and buses have no link; IDCODE is selected in the TAP. (Values that the spec does not give are the log's.) -/
def Obligations.ResetState : Prop :=
  let s := State.reset
  s.pending = [] ∧ s.boot.phase = .held ∧ s.boot.lastClass = .p ∧ s.boot.cause = 1 ∧ s.boot.warmResets = 0 ∧ s.boot.coldResets = 0 ∧
  now s = { sec := 0, ns := 0 } ∧ s.clock.increment = 0x08000000 ∧ s.clock.isSet = false ∧ s.clock.threshold = 1000000 ∧
  (∀ n, suiteAt s n = suiteDefault n) ∧ (∀ n, (suiteAt s n).enabled = decide (n = 0)) ∧ (∀ n, (suiteAt s n).owner = none ∧ (suiteAt s n).locked = false) ∧
  loadedTasks s = [] ∧ s.foundation.running = false ∧ s.seq.passOpen = false ∧ s.seq.passDone = false ∧
  (∀ q, (queueAt s q).items = [] ∧ (queueAt s q).depth = 0 ∧ (queueAt s q).high = false) ∧
  (∀ n, (keyAt s n).present = false) ∧ (∀ u, (unitStat s u).state = stStarting ∧ (unitStat s u).worstSev = 0) ∧
  (∀ r, (roomAt s r).paceMin = 0xFFFF ∧ (roomAt s r).warnSet = 1650 ∧ (roomAt s r).warnClear = 1700) ∧
  (∀ n, (outputAt s n).conducting = false ∧ (outputAt s n).committed = false) ∧ (∀ b, (bankAt s b).state = .opened ∧ (bankAt s b).cfg.enable = false) ∧
  (∀ p, (portAt s p).link = 0 ∧ (portAt s p).cfg.mode = 0 ∧ (portAt s p).pse = .off ∧ (portAt s p).egress = []) ∧
  (∀ h, (hallAt s h).offered = [] ∧ (hallAt s h).cfg.opmode = 0) ∧
  s.twin.role = .none ∧ s.twin.inStep = false ∧ s.addr.self = 0x2000000000000070 ∧ s.addr.paired = false ∧
  s.tap.instr = .idcode ∧ s.tap.holding = false
end

