-- ==== Sys2Proof/Laws/Insn.lean ====
section
/-! SUPPORT. What running one instruction can do, and what the fields of an encoded word are. -/

namespace Sys2Proof.Machine
open Sys2Proof

/-! ### Words -/

theorem encA_fields (op fn : Nat) (f : FmtA) (ho : op < 128) (hf : fn < 256) :
    wfld (encA op fn f) 25 7 = op ∧ wfld (encA op fn f) 0 8 = fn ∧ wfld (encA op fn f) 20 5 = f.rd.toNat ∧
    wfld (encA op fn f) 15 5 = f.rs1.toNat ∧ wfld (encA op fn f) 10 5 = f.rs2.toNat ∧
    wfld (encA op fn f) 0 10 = f.hi.toNat * 256 + fn ∧ readA (encA op fn f) = f := by
  obtain ⟨rd, rs1, rs2, hi⟩ := f
  simp only [encA, packW, wfld, List.foldl, readA, wbits, BitVec.toNat_ofNat, FmtA.mk.injEq]
  have := rd.isLt; have := rs1.isLt; have := rs2.isLt; have := hi.isLt
  refine ⟨by omega, by omega, by omega, by omega, by omega, by omega, ?_, ?_, ?_, ?_⟩ <;>
    apply BitVec.eq_of_toNat_eq <;> simp only [BitVec.toNat_ofNat] <;> omega

theorem encI_fields (op fn3 : Nat) (f : FmtI) (ho : op < 128) (hf : fn3 < 8) :
    wfld (encI op fn3 f) 25 7 = op ∧ wfld (encI op fn3 f) 12 3 = fn3 ∧
    wfld (encI op fn3 f) 6 4 = f.imm.toNat / 64 % 16 ∧ readI (encI op fn3 f) = f := by
  obtain ⟨rd, rs1, imm⟩ := f
  simp only [encI, packW, wfld, List.foldl, readI, wbits, BitVec.toNat_ofNat, FmtI.mk.injEq]
  have := rd.isLt; have := rs1.isLt; have := imm.isLt
  refine ⟨by omega, by omega, by omega, ?_, ?_, ?_⟩ <;>
    apply BitVec.eq_of_toNat_eq <;> simp only [BitVec.toNat_ofNat] <;> omega

theorem encU_fields (op : Nat) (f : FmtU) (ho : op < 128) :
    wfld (encU op f) 25 7 = op ∧ readU (encU op f) = f := by
  obtain ⟨rd, imm⟩ := f
  simp only [encU, packW, wfld, List.foldl, readU, wbits, BitVec.toNat_ofNat, FmtU.mk.injEq]
  have := rd.isLt; have := imm.isLt
  refine ⟨by omega, ?_, ?_⟩ <;> apply BitVec.eq_of_toNat_eq <;> simp only [BitVec.toNat_ofNat] <;> omega

theorem encM_fields (op : Nat) (f : FmtM) (ho : op < 128) :
    wfld (encM op f) 25 7 = op ∧ wfld (encM op f) 12 3 = f.size.toNat ∧ readM (encM op f) = f := by
  obtain ⟨rt, base, size, imm⟩ := f
  simp only [encM, packW, wfld, List.foldl, readM, wbits, BitVec.toNat_ofNat, FmtM.mk.injEq]
  have := rt.isLt; have := base.isLt; have := size.isLt; have := imm.isLt
  refine ⟨by omega, by omega, ?_, ?_, ?_, ?_⟩ <;>
    apply BitVec.eq_of_toNat_eq <;> simp only [BitVec.toNat_ofNat] <;> omega

theorem encB_fields (cond : Nat) (f : FmtB) (hc : cond < 8) :
    wfld (encB cond f) 25 7 = 0x10 ∧ wfld (encB cond f) 22 3 = cond ∧ wfld (encB cond f) 0 12 = f.disp.toNat ∧
    readB (encB cond f) = f := by
  obtain ⟨rs1, rs2, disp⟩ := f
  simp only [encB, packW, wfld, List.foldl, readB, wbits, BitVec.toNat_ofNat, FmtB.mk.injEq]
  have := rs1.isLt; have := rs2.isLt; have := disp.isLt
  refine ⟨by omega, by omega, by omega, ?_, ?_, ?_⟩ <;>
    apply BitVec.eq_of_toNat_eq <;> simp only [BitVec.toNat_ofNat] <;> omega

theorem encJ_fields (op : Nat) (f : FmtJ) (ho : op < 128) :
    wfld (encJ op f) 25 7 = op ∧ wfld (encJ op f) 0 25 = f.disp.toNat ∧ readJ (encJ op f) = f := by
  obtain ⟨disp⟩ := f
  simp only [encJ, packW, wfld, List.foldl, readJ, wbits, BitVec.toNat_ofNat, FmtJ.mk.injEq]
  have := disp.isLt
  refine ⟨by omega, by omega, ?_⟩
  apply BitVec.eq_of_toNat_eq; simp only [BitVec.toNat_ofNat]; omega

theorem encT_fields (f : FmtT) :
    wfld (encT f) 25 7 = 0x14 ∧ wfld (encT f) 8 12 = f.count.toNat ∧ wfld (encT f) 0 8 = f.lo.toNat ∧ readT (encT f) = f := by
  obtain ⟨rs1, count, lo⟩ := f
  simp only [encT, packW, wfld, List.foldl, readT, wbits, BitVec.toNat_ofNat, FmtT.mk.injEq]
  have := rs1.isLt; have := count.isLt; have := lo.isLt
  refine ⟨by omega, by omega, by omega, ?_, ?_, ?_⟩ <;>
    apply BitVec.eq_of_toNat_eq <;> simp only [BitVec.toNat_ofNat] <;> omega

theorem encL_fields (f : FmtL) :
    wfld (encL f) 25 7 = 0x15 ∧ wfld (encL f) 8 12 = f.bound.toNat ∧ wfld (encL f) 0 8 = f.len.toNat ∧ readL (encL f) = f := by
  obtain ⟨rs, bound, len⟩ := f
  simp only [encL, packW, wfld, List.foldl, readL, wbits, BitVec.toNat_ofNat, FmtL.mk.injEq]
  have := rs.isLt; have := bound.isLt; have := len.isLt
  refine ⟨by omega, by omega, by omega, ?_, ?_, ?_⟩ <;>
    apply BitVec.eq_of_toNat_eq <;> simp only [BitVec.toNat_ofNat] <;> omega

theorem encQ_fields (fn : Nat) (f : FmtQ) (hf : fn < 256) :
    wfld (encQ fn f) 25 7 = 0x18 ∧ wfld (encQ fn f) 0 8 = fn ∧ wfld (encQ fn f) 23 2 = f.acc.toNat ∧
    wfld (encQ fn f) 18 5 = f.rd.toNat ∧ wfld (encQ fn f) 13 5 = f.rs1.toNat ∧ wfld (encQ fn f) 8 5 = f.rs2.toNat ∧
    readQ (encQ fn f) = f := by
  obtain ⟨acc, rd, rs1, rs2⟩ := f
  simp only [encQ, packW, wfld, List.foldl, readQ, wbits, BitVec.toNat_ofNat, FmtQ.mk.injEq]
  have := acc.isLt; have := rd.isLt; have := rs1.isLt; have := rs2.isLt
  refine ⟨by omega, by omega, by omega, by omega, by omega, by omega, ?_, ?_, ?_, ?_⟩ <;>
    apply BitVec.eq_of_toNat_eq <;> simp only [BitVec.toNat_ofNat] <;> omega

theorem encS_fields (fn : Nat) (f : FmtS) (hf : fn < 256) :
    wfld (encS fn f) 25 7 = 0x16 ∧ wfld (encS fn f) 0 8 = fn ∧ wfld (encS fn f) 8 12 = f.sr.toNat ∧
    readS (encS fn f) = f := by
  obtain ⟨rt, sr⟩ := f
  simp only [encS, packW, wfld, List.foldl, readS, wbits, BitVec.toNat_ofNat, FmtS.mk.injEq]
  have := rt.isLt; have := sr.isLt
  refine ⟨by omega, by omega, by omega, ?_, ?_⟩ <;>
    apply BitVec.eq_of_toNat_eq <;> simp only [BitVec.toNat_ofNat] <;> omega

/-! ### Running an instruction -/

theorem correctErrors_tasks (s : State) (a n : Nat) : (correctErrors s a n).tasks = s.tasks := by
  unfold correctErrors; dsimp only; split <;> rfl

theorem taskAt_fetched (s : State) (c d : Nat) : taskAt (fetched s c) d = taskAt s d := by
  simp [taskAt, fetched, correctErrors_tasks]

theorem readBytes_corrected (s : State) (a n b m : Nat) : readBytes (correctErrors s a n).sram b m = readBytes s.sram b m := by
  unfold correctErrors; dsimp only; split <;> rfl

theorem suites_corrected (s : State) (a n : Nat) : (correctErrors s a n).suites = s.suites := by
  unfold correctErrors; dsimp only; split <;> rfl

/-- Correcting errors leaves what is fetched. -/
theorem fetchIllegal_corrected (s : State) (a n k c : Nat) : fetchIllegal (correctErrors s a n) k c = fetchIllegal s k c := by
  simp only [fetchIllegal, wordAtPc, readBytes_corrected, taskAt, suiteAt, correctErrors_tasks, suites_corrected]

/-- An instruction that issues and is legal ends by what it did. -/
theorem runInsn_issues {s : State} {k c cost : Nat} {w : BitVec 32} (act : Env → State → Ctx → Did)
    (h : Issues s k c cost) (hw : (readWord (isMgmt k) w).map (·.cost) = some cost) :
    runInsn k w act s = settle (issuing s k c w cost) (fetched s c) endOf (act (issuing s k c w cost) (fetched s c) (contextAt s c)) := by
  obtain ⟨info, hi, rfl⟩ := Option.map_eq_some_iff.1 hw
  have hf : fetchFault s (suiteAt s (ctxSuite c)) (taskAt s c).ctx.pc = none := by
    have h1 := h.fetch; have h2 := h.clean
    simp only [contextAt] at h1 h2
    simp [fetchFault, h1, h2]
  have hb : overBudget (correctErrors s ((suiteAt s (ctxSuite c)).winBase + (taskAt s c).ctx.pc.toNat) 4) k c info.cost = false := by
    rw [← h.budget]; simp only [overBudget, taskAt, correctErrors_tasks]; rfl
  unfold runInsn
  simp only [h.turn, issueEnv, hf, hi, hb, fetchIllegal_corrected, h.listed]
  rfl

/-- A word that is no legal instruction raises ILLEGAL (R66). -/
theorem runInsn_illegal {s : State} {k c : Nat} {w : BitVec 32} (act : Env → State → Ctx → Did)
    (h : Fetches s k c) (hw : readWord (isMgmt k) w = none) :
    runInsn k w act s = faulted s k c w .illegal 0 := by
  have hf : fetchFault s (suiteAt s (ctxSuite c)) (taskAt s c).ctx.pc = none := by
    have h1 := h.fetch; have h2 := h.clean
    simp only [contextAt] at h1 h2
    simp [fetchFault, h1, h2]
  unfold runInsn
  simp only [h.turn, issueEnv, hf, hw, fetchIllegal_corrected, h.listed]
  rfl

end Sys2Proof.Machine
end

