-- ==== Sys2Proof/Laws/State.lean ====
section
/-! SUPPORT. One lemma per field and update: what each named update of the state leaves as it was. -/

namespace Sys2Proof.Machine
open Sys2Proof


/-! ### setUnitStat -/

@[simp] theorem setUnitStat_pending (s : State) (u : UnitId) (f : UnitStat → UnitStat) : (setUnitStat s u f).pending = s.pending := rfl
@[simp] theorem setUnitStat_free (s : State) (u : UnitId) (f : UnitStat → UnitStat) : (setUnitStat s u f).free = s.free := rfl
@[simp] theorem setUnitStat_tick (s : State) (u : UnitId) (f : UnitStat → UnitStat) : (setUnitStat s u f).tick = s.tick := rfl
@[simp] theorem setUnitStat_clock (s : State) (u : UnitId) (f : UnitStat → UnitStat) : (setUnitStat s u f).clock = s.clock := rfl
@[simp] theorem setUnitStat_copies (s : State) (u : UnitId) (f : UnitStat → UnitStat) : (setUnitStat s u f).copies = s.copies := rfl
@[simp] theorem setUnitStat_rooms (s : State) (u : UnitId) (f : UnitStat → UnitStat) : (setUnitStat s u f).rooms = s.rooms := rfl
@[simp] theorem setUnitStat_links (s : State) (u : UnitId) (f : UnitStat → UnitStat) : (setUnitStat s u f).links = s.links := rfl
@[simp] theorem setUnitStat_lanesOut (s : State) (u : UnitId) (f : UnitStat → UnitStat) : (setUnitStat s u f).lanesOut = s.lanesOut := rfl
@[simp] theorem setUnitStat_addr (s : State) (u : UnitId) (f : UnitStat → UnitStat) : (setUnitStat s u f).addr = s.addr := rfl
@[simp] theorem setUnitStat_records (s : State) (u : UnitId) (f : UnitStat → UnitStat) : (setUnitStat s u f).records = s.records := rfl
@[simp] theorem setUnitStat_groupCmds (s : State) (u : UnitId) (f : UnitStat → UnitStat) : (setUnitStat s u f).groupCmds = s.groupCmds := rfl
@[simp] theorem setUnitStat_groupOut (s : State) (u : UnitId) (f : UnitStat → UnitStat) : (setUnitStat s u f).groupOut = s.groupOut := rfl
@[simp] theorem setUnitStat_tasks (s : State) (u : UnitId) (f : UnitStat → UnitStat) : (setUnitStat s u f).tasks = s.tasks := rfl
@[simp] theorem setUnitStat_foundation (s : State) (u : UnitId) (f : UnitStat → UnitStat) : (setUnitStat s u f).foundation = s.foundation := rfl
@[simp] theorem setUnitStat_sram (s : State) (u : UnitId) (f : UnitStat → UnitStat) : (setUnitStat s u f).sram = s.sram := rfl
@[simp] theorem setUnitStat_seq (s : State) (u : UnitId) (f : UnitStat → UnitStat) : (setUnitStat s u f).seq = s.seq := rfl
@[simp] theorem setUnitStat_collector (s : State) (u : UnitId) (f : UnitStat → UnitStat) : (setUnitStat s u f).collector = s.collector := rfl
@[simp] theorem setUnitStat_journal (s : State) (u : UnitId) (f : UnitStat → UnitStat) : (setUnitStat s u f).journal = s.journal := rfl
@[simp] theorem setUnitStat_suites (s : State) (u : UnitId) (f : UnitStat → UnitStat) : (setUnitStat s u f).suites = s.suites := rfl
@[simp] theorem setUnitStat_sessions (s : State) (u : UnitId) (f : UnitStat → UnitStat) : (setUnitStat s u f).sessions = s.sessions := rfl
@[simp] theorem setUnitStat_points (s : State) (u : UnitId) (f : UnitStat → UnitStat) : (setUnitStat s u f).points = s.points := rfl
@[simp] theorem setUnitStat_values (s : State) (u : UnitId) (f : UnitStat → UnitStat) : (setUnitStat s u f).values = s.values := rfl
@[simp] theorem setUnitStat_larder (s : State) (u : UnitId) (f : UnitStat → UnitStat) : (setUnitStat s u f).larder = s.larder := rfl
@[simp] theorem setUnitStat_hearth (s : State) (u : UnitId) (f : UnitStat → UnitStat) : (setUnitStat s u f).hearth = s.hearth := rfl
@[simp] theorem setUnitStat_cellar (s : State) (u : UnitId) (f : UnitStat → UnitStat) : (setUnitStat s u f).cellar = s.cellar := rfl
@[simp] theorem setUnitStat_fuses (s : State) (u : UnitId) (f : UnitStat → UnitStat) : (setUnitStat s u f).fuses = s.fuses := rfl
@[simp] theorem setUnitStat_attic (s : State) (u : UnitId) (f : UnitStat → UnitStat) : (setUnitStat s u f).attic = s.attic := rfl
@[simp] theorem setUnitStat_sw (s : State) (u : UnitId) (f : UnitStat → UnitStat) : (setUnitStat s u f).sw = s.sw := rfl
@[simp] theorem setUnitStat_ports (s : State) (u : UnitId) (f : UnitStat → UnitStat) : (setUnitStat s u f).ports = s.ports := rfl
@[simp] theorem setUnitStat_uplinks (s : State) (u : UnitId) (f : UnitStat → UnitStat) : (setUnitStat s u f).uplinks = s.uplinks := rfl
@[simp] theorem setUnitStat_halls (s : State) (u : UnitId) (f : UnitStat → UnitStat) : (setUnitStat s u f).halls = s.halls := rfl
@[simp] theorem setUnitStat_hallPairs (s : State) (u : UnitId) (f : UnitStat → UnitStat) : (setUnitStat s u f).hallPairs = s.hallPairs := rfl
@[simp] theorem setUnitStat_inputs (s : State) (u : UnitId) (f : UnitStat → UnitStat) : (setUnitStat s u f).inputs = s.inputs := rfl
@[simp] theorem setUnitStat_banks (s : State) (u : UnitId) (f : UnitStat → UnitStat) : (setUnitStat s u f).banks = s.banks := rfl
@[simp] theorem setUnitStat_outputs (s : State) (u : UnitId) (f : UnitStat → UnitStat) : (setUnitStat s u f).outputs = s.outputs := rfl
@[simp] theorem setUnitStat_latches (s : State) (u : UnitId) (f : UnitStat → UnitStat) : (setUnitStat s u f).latches = s.latches := rfl
@[simp] theorem setUnitStat_safeDrives (s : State) (u : UnitId) (f : UnitStat → UnitStat) : (setUnitStat s u f).safeDrives = s.safeDrives := rfl
@[simp] theorem setUnitStat_meter (s : State) (u : UnitId) (f : UnitStat → UnitStat) : (setUnitStat s u f).meter = s.meter := rfl
@[simp] theorem setUnitStat_mantel (s : State) (u : UnitId) (f : UnitStat → UnitStat) : (setUnitStat s u f).mantel = s.mantel := rfl
@[simp] theorem setUnitStat_twin (s : State) (u : UnitId) (f : UnitStat → UnitStat) : (setUnitStat s u f).twin = s.twin := rfl
@[simp] theorem setUnitStat_updates (s : State) (u : UnitId) (f : UnitStat → UnitStat) : (setUnitStat s u f).updates = s.updates := rfl
@[simp] theorem setUnitStat_boot (s : State) (u : UnitId) (f : UnitStat → UnitStat) : (setUnitStat s u f).boot = s.boot := rfl
@[simp] theorem setUnitStat_tap (s : State) (u : UnitId) (f : UnitStat → UnitStat) : (setUnitStat s u f).tap = s.tap := rfl
@[simp] theorem setUnitStat_tests (s : State) (u : UnitId) (f : UnitStat → UnitStat) : (setUnitStat s u f).tests = s.tests := rfl

/-! ### setSuite -/

@[simp] theorem setSuite_pending (s : State) (n : Nat) (f : Suite → Suite) : (setSuite s n f).pending = s.pending := rfl
@[simp] theorem setSuite_free (s : State) (n : Nat) (f : Suite → Suite) : (setSuite s n f).free = s.free := rfl
@[simp] theorem setSuite_tick (s : State) (n : Nat) (f : Suite → Suite) : (setSuite s n f).tick = s.tick := rfl
@[simp] theorem setSuite_clock (s : State) (n : Nat) (f : Suite → Suite) : (setSuite s n f).clock = s.clock := rfl
@[simp] theorem setSuite_copies (s : State) (n : Nat) (f : Suite → Suite) : (setSuite s n f).copies = s.copies := rfl
@[simp] theorem setSuite_rooms (s : State) (n : Nat) (f : Suite → Suite) : (setSuite s n f).rooms = s.rooms := rfl
@[simp] theorem setSuite_links (s : State) (n : Nat) (f : Suite → Suite) : (setSuite s n f).links = s.links := rfl
@[simp] theorem setSuite_lanesOut (s : State) (n : Nat) (f : Suite → Suite) : (setSuite s n f).lanesOut = s.lanesOut := rfl
@[simp] theorem setSuite_units (s : State) (n : Nat) (f : Suite → Suite) : (setSuite s n f).units = s.units := rfl
@[simp] theorem setSuite_addr (s : State) (n : Nat) (f : Suite → Suite) : (setSuite s n f).addr = s.addr := rfl
@[simp] theorem setSuite_records (s : State) (n : Nat) (f : Suite → Suite) : (setSuite s n f).records = s.records := rfl
@[simp] theorem setSuite_groupCmds (s : State) (n : Nat) (f : Suite → Suite) : (setSuite s n f).groupCmds = s.groupCmds := rfl
@[simp] theorem setSuite_groupOut (s : State) (n : Nat) (f : Suite → Suite) : (setSuite s n f).groupOut = s.groupOut := rfl
@[simp] theorem setSuite_tasks (s : State) (n : Nat) (f : Suite → Suite) : (setSuite s n f).tasks = s.tasks := rfl
@[simp] theorem setSuite_foundation (s : State) (n : Nat) (f : Suite → Suite) : (setSuite s n f).foundation = s.foundation := rfl
@[simp] theorem setSuite_sram (s : State) (n : Nat) (f : Suite → Suite) : (setSuite s n f).sram = s.sram := rfl
@[simp] theorem setSuite_seq (s : State) (n : Nat) (f : Suite → Suite) : (setSuite s n f).seq = s.seq := rfl
@[simp] theorem setSuite_collector (s : State) (n : Nat) (f : Suite → Suite) : (setSuite s n f).collector = s.collector := rfl
@[simp] theorem setSuite_journal (s : State) (n : Nat) (f : Suite → Suite) : (setSuite s n f).journal = s.journal := rfl
@[simp] theorem setSuite_sessions (s : State) (n : Nat) (f : Suite → Suite) : (setSuite s n f).sessions = s.sessions := rfl
@[simp] theorem setSuite_points (s : State) (n : Nat) (f : Suite → Suite) : (setSuite s n f).points = s.points := rfl
@[simp] theorem setSuite_values (s : State) (n : Nat) (f : Suite → Suite) : (setSuite s n f).values = s.values := rfl
@[simp] theorem setSuite_larder (s : State) (n : Nat) (f : Suite → Suite) : (setSuite s n f).larder = s.larder := rfl
@[simp] theorem setSuite_hearth (s : State) (n : Nat) (f : Suite → Suite) : (setSuite s n f).hearth = s.hearth := rfl
@[simp] theorem setSuite_cellar (s : State) (n : Nat) (f : Suite → Suite) : (setSuite s n f).cellar = s.cellar := rfl
@[simp] theorem setSuite_fuses (s : State) (n : Nat) (f : Suite → Suite) : (setSuite s n f).fuses = s.fuses := rfl
@[simp] theorem setSuite_attic (s : State) (n : Nat) (f : Suite → Suite) : (setSuite s n f).attic = s.attic := rfl
@[simp] theorem setSuite_sw (s : State) (n : Nat) (f : Suite → Suite) : (setSuite s n f).sw = s.sw := rfl
@[simp] theorem setSuite_ports (s : State) (n : Nat) (f : Suite → Suite) : (setSuite s n f).ports = s.ports := rfl
@[simp] theorem setSuite_uplinks (s : State) (n : Nat) (f : Suite → Suite) : (setSuite s n f).uplinks = s.uplinks := rfl
@[simp] theorem setSuite_halls (s : State) (n : Nat) (f : Suite → Suite) : (setSuite s n f).halls = s.halls := rfl
@[simp] theorem setSuite_hallPairs (s : State) (n : Nat) (f : Suite → Suite) : (setSuite s n f).hallPairs = s.hallPairs := rfl
@[simp] theorem setSuite_inputs (s : State) (n : Nat) (f : Suite → Suite) : (setSuite s n f).inputs = s.inputs := rfl
@[simp] theorem setSuite_banks (s : State) (n : Nat) (f : Suite → Suite) : (setSuite s n f).banks = s.banks := rfl
@[simp] theorem setSuite_outputs (s : State) (n : Nat) (f : Suite → Suite) : (setSuite s n f).outputs = s.outputs := rfl
@[simp] theorem setSuite_latches (s : State) (n : Nat) (f : Suite → Suite) : (setSuite s n f).latches = s.latches := rfl
@[simp] theorem setSuite_safeDrives (s : State) (n : Nat) (f : Suite → Suite) : (setSuite s n f).safeDrives = s.safeDrives := rfl
@[simp] theorem setSuite_meter (s : State) (n : Nat) (f : Suite → Suite) : (setSuite s n f).meter = s.meter := rfl
@[simp] theorem setSuite_mantel (s : State) (n : Nat) (f : Suite → Suite) : (setSuite s n f).mantel = s.mantel := rfl
@[simp] theorem setSuite_twin (s : State) (n : Nat) (f : Suite → Suite) : (setSuite s n f).twin = s.twin := rfl
@[simp] theorem setSuite_updates (s : State) (n : Nat) (f : Suite → Suite) : (setSuite s n f).updates = s.updates := rfl
@[simp] theorem setSuite_boot (s : State) (n : Nat) (f : Suite → Suite) : (setSuite s n f).boot = s.boot := rfl
@[simp] theorem setSuite_tap (s : State) (n : Nat) (f : Suite → Suite) : (setSuite s n f).tap = s.tap := rfl
@[simp] theorem setSuite_tests (s : State) (n : Nat) (f : Suite → Suite) : (setSuite s n f).tests = s.tests := rfl

/-! ### setTask -/

@[simp] theorem setTask_pending (s : State) (c : Nat) (f : Task → Task) : (setTask s c f).pending = s.pending := rfl
@[simp] theorem setTask_free (s : State) (c : Nat) (f : Task → Task) : (setTask s c f).free = s.free := rfl
@[simp] theorem setTask_tick (s : State) (c : Nat) (f : Task → Task) : (setTask s c f).tick = s.tick := rfl
@[simp] theorem setTask_clock (s : State) (c : Nat) (f : Task → Task) : (setTask s c f).clock = s.clock := rfl
@[simp] theorem setTask_copies (s : State) (c : Nat) (f : Task → Task) : (setTask s c f).copies = s.copies := rfl
@[simp] theorem setTask_rooms (s : State) (c : Nat) (f : Task → Task) : (setTask s c f).rooms = s.rooms := rfl
@[simp] theorem setTask_links (s : State) (c : Nat) (f : Task → Task) : (setTask s c f).links = s.links := rfl
@[simp] theorem setTask_lanesOut (s : State) (c : Nat) (f : Task → Task) : (setTask s c f).lanesOut = s.lanesOut := rfl
@[simp] theorem setTask_units (s : State) (c : Nat) (f : Task → Task) : (setTask s c f).units = s.units := rfl
@[simp] theorem setTask_addr (s : State) (c : Nat) (f : Task → Task) : (setTask s c f).addr = s.addr := rfl
@[simp] theorem setTask_records (s : State) (c : Nat) (f : Task → Task) : (setTask s c f).records = s.records := rfl
@[simp] theorem setTask_groupCmds (s : State) (c : Nat) (f : Task → Task) : (setTask s c f).groupCmds = s.groupCmds := rfl
@[simp] theorem setTask_groupOut (s : State) (c : Nat) (f : Task → Task) : (setTask s c f).groupOut = s.groupOut := rfl
@[simp] theorem setTask_foundation (s : State) (c : Nat) (f : Task → Task) : (setTask s c f).foundation = s.foundation := rfl
@[simp] theorem setTask_sram (s : State) (c : Nat) (f : Task → Task) : (setTask s c f).sram = s.sram := rfl
@[simp] theorem setTask_seq (s : State) (c : Nat) (f : Task → Task) : (setTask s c f).seq = s.seq := rfl
@[simp] theorem setTask_collector (s : State) (c : Nat) (f : Task → Task) : (setTask s c f).collector = s.collector := rfl
@[simp] theorem setTask_journal (s : State) (c : Nat) (f : Task → Task) : (setTask s c f).journal = s.journal := rfl
@[simp] theorem setTask_suites (s : State) (c : Nat) (f : Task → Task) : (setTask s c f).suites = s.suites := rfl
@[simp] theorem setTask_sessions (s : State) (c : Nat) (f : Task → Task) : (setTask s c f).sessions = s.sessions := rfl
@[simp] theorem setTask_points (s : State) (c : Nat) (f : Task → Task) : (setTask s c f).points = s.points := rfl
@[simp] theorem setTask_values (s : State) (c : Nat) (f : Task → Task) : (setTask s c f).values = s.values := rfl
@[simp] theorem setTask_larder (s : State) (c : Nat) (f : Task → Task) : (setTask s c f).larder = s.larder := rfl
@[simp] theorem setTask_hearth (s : State) (c : Nat) (f : Task → Task) : (setTask s c f).hearth = s.hearth := rfl
@[simp] theorem setTask_cellar (s : State) (c : Nat) (f : Task → Task) : (setTask s c f).cellar = s.cellar := rfl
@[simp] theorem setTask_fuses (s : State) (c : Nat) (f : Task → Task) : (setTask s c f).fuses = s.fuses := rfl
@[simp] theorem setTask_attic (s : State) (c : Nat) (f : Task → Task) : (setTask s c f).attic = s.attic := rfl
@[simp] theorem setTask_sw (s : State) (c : Nat) (f : Task → Task) : (setTask s c f).sw = s.sw := rfl
@[simp] theorem setTask_ports (s : State) (c : Nat) (f : Task → Task) : (setTask s c f).ports = s.ports := rfl
@[simp] theorem setTask_uplinks (s : State) (c : Nat) (f : Task → Task) : (setTask s c f).uplinks = s.uplinks := rfl
@[simp] theorem setTask_halls (s : State) (c : Nat) (f : Task → Task) : (setTask s c f).halls = s.halls := rfl
@[simp] theorem setTask_hallPairs (s : State) (c : Nat) (f : Task → Task) : (setTask s c f).hallPairs = s.hallPairs := rfl
@[simp] theorem setTask_inputs (s : State) (c : Nat) (f : Task → Task) : (setTask s c f).inputs = s.inputs := rfl
@[simp] theorem setTask_banks (s : State) (c : Nat) (f : Task → Task) : (setTask s c f).banks = s.banks := rfl
@[simp] theorem setTask_outputs (s : State) (c : Nat) (f : Task → Task) : (setTask s c f).outputs = s.outputs := rfl
@[simp] theorem setTask_latches (s : State) (c : Nat) (f : Task → Task) : (setTask s c f).latches = s.latches := rfl
@[simp] theorem setTask_safeDrives (s : State) (c : Nat) (f : Task → Task) : (setTask s c f).safeDrives = s.safeDrives := rfl
@[simp] theorem setTask_meter (s : State) (c : Nat) (f : Task → Task) : (setTask s c f).meter = s.meter := rfl
@[simp] theorem setTask_mantel (s : State) (c : Nat) (f : Task → Task) : (setTask s c f).mantel = s.mantel := rfl
@[simp] theorem setTask_twin (s : State) (c : Nat) (f : Task → Task) : (setTask s c f).twin = s.twin := rfl
@[simp] theorem setTask_updates (s : State) (c : Nat) (f : Task → Task) : (setTask s c f).updates = s.updates := rfl
@[simp] theorem setTask_boot (s : State) (c : Nat) (f : Task → Task) : (setTask s c f).boot = s.boot := rfl
@[simp] theorem setTask_tap (s : State) (c : Nat) (f : Task → Task) : (setTask s c f).tap = s.tap := rfl
@[simp] theorem setTask_tests (s : State) (c : Nat) (f : Task → Task) : (setTask s c f).tests = s.tests := rfl

/-! ### setCtx -/

@[simp] theorem setCtx_pending (s : State) (c : Nat) (f : Ctx → Ctx) : (setCtx s c f).pending = s.pending := rfl
@[simp] theorem setCtx_free (s : State) (c : Nat) (f : Ctx → Ctx) : (setCtx s c f).free = s.free := rfl
@[simp] theorem setCtx_tick (s : State) (c : Nat) (f : Ctx → Ctx) : (setCtx s c f).tick = s.tick := rfl
@[simp] theorem setCtx_clock (s : State) (c : Nat) (f : Ctx → Ctx) : (setCtx s c f).clock = s.clock := rfl
@[simp] theorem setCtx_copies (s : State) (c : Nat) (f : Ctx → Ctx) : (setCtx s c f).copies = s.copies := rfl
@[simp] theorem setCtx_rooms (s : State) (c : Nat) (f : Ctx → Ctx) : (setCtx s c f).rooms = s.rooms := rfl
@[simp] theorem setCtx_links (s : State) (c : Nat) (f : Ctx → Ctx) : (setCtx s c f).links = s.links := rfl
@[simp] theorem setCtx_lanesOut (s : State) (c : Nat) (f : Ctx → Ctx) : (setCtx s c f).lanesOut = s.lanesOut := rfl
@[simp] theorem setCtx_units (s : State) (c : Nat) (f : Ctx → Ctx) : (setCtx s c f).units = s.units := rfl
@[simp] theorem setCtx_addr (s : State) (c : Nat) (f : Ctx → Ctx) : (setCtx s c f).addr = s.addr := rfl
@[simp] theorem setCtx_records (s : State) (c : Nat) (f : Ctx → Ctx) : (setCtx s c f).records = s.records := rfl
@[simp] theorem setCtx_groupCmds (s : State) (c : Nat) (f : Ctx → Ctx) : (setCtx s c f).groupCmds = s.groupCmds := rfl
@[simp] theorem setCtx_groupOut (s : State) (c : Nat) (f : Ctx → Ctx) : (setCtx s c f).groupOut = s.groupOut := rfl
@[simp] theorem setCtx_foundation (s : State) (c : Nat) (f : Ctx → Ctx) : (setCtx s c f).foundation = s.foundation := rfl
@[simp] theorem setCtx_sram (s : State) (c : Nat) (f : Ctx → Ctx) : (setCtx s c f).sram = s.sram := rfl
@[simp] theorem setCtx_seq (s : State) (c : Nat) (f : Ctx → Ctx) : (setCtx s c f).seq = s.seq := rfl
@[simp] theorem setCtx_collector (s : State) (c : Nat) (f : Ctx → Ctx) : (setCtx s c f).collector = s.collector := rfl
@[simp] theorem setCtx_journal (s : State) (c : Nat) (f : Ctx → Ctx) : (setCtx s c f).journal = s.journal := rfl
@[simp] theorem setCtx_suites (s : State) (c : Nat) (f : Ctx → Ctx) : (setCtx s c f).suites = s.suites := rfl
@[simp] theorem setCtx_sessions (s : State) (c : Nat) (f : Ctx → Ctx) : (setCtx s c f).sessions = s.sessions := rfl
@[simp] theorem setCtx_points (s : State) (c : Nat) (f : Ctx → Ctx) : (setCtx s c f).points = s.points := rfl
@[simp] theorem setCtx_values (s : State) (c : Nat) (f : Ctx → Ctx) : (setCtx s c f).values = s.values := rfl
@[simp] theorem setCtx_larder (s : State) (c : Nat) (f : Ctx → Ctx) : (setCtx s c f).larder = s.larder := rfl
@[simp] theorem setCtx_hearth (s : State) (c : Nat) (f : Ctx → Ctx) : (setCtx s c f).hearth = s.hearth := rfl
@[simp] theorem setCtx_cellar (s : State) (c : Nat) (f : Ctx → Ctx) : (setCtx s c f).cellar = s.cellar := rfl
@[simp] theorem setCtx_fuses (s : State) (c : Nat) (f : Ctx → Ctx) : (setCtx s c f).fuses = s.fuses := rfl
@[simp] theorem setCtx_attic (s : State) (c : Nat) (f : Ctx → Ctx) : (setCtx s c f).attic = s.attic := rfl
@[simp] theorem setCtx_sw (s : State) (c : Nat) (f : Ctx → Ctx) : (setCtx s c f).sw = s.sw := rfl
@[simp] theorem setCtx_ports (s : State) (c : Nat) (f : Ctx → Ctx) : (setCtx s c f).ports = s.ports := rfl
@[simp] theorem setCtx_uplinks (s : State) (c : Nat) (f : Ctx → Ctx) : (setCtx s c f).uplinks = s.uplinks := rfl
@[simp] theorem setCtx_halls (s : State) (c : Nat) (f : Ctx → Ctx) : (setCtx s c f).halls = s.halls := rfl
@[simp] theorem setCtx_hallPairs (s : State) (c : Nat) (f : Ctx → Ctx) : (setCtx s c f).hallPairs = s.hallPairs := rfl
@[simp] theorem setCtx_inputs (s : State) (c : Nat) (f : Ctx → Ctx) : (setCtx s c f).inputs = s.inputs := rfl
@[simp] theorem setCtx_banks (s : State) (c : Nat) (f : Ctx → Ctx) : (setCtx s c f).banks = s.banks := rfl
@[simp] theorem setCtx_outputs (s : State) (c : Nat) (f : Ctx → Ctx) : (setCtx s c f).outputs = s.outputs := rfl
@[simp] theorem setCtx_latches (s : State) (c : Nat) (f : Ctx → Ctx) : (setCtx s c f).latches = s.latches := rfl
@[simp] theorem setCtx_safeDrives (s : State) (c : Nat) (f : Ctx → Ctx) : (setCtx s c f).safeDrives = s.safeDrives := rfl
@[simp] theorem setCtx_meter (s : State) (c : Nat) (f : Ctx → Ctx) : (setCtx s c f).meter = s.meter := rfl
@[simp] theorem setCtx_mantel (s : State) (c : Nat) (f : Ctx → Ctx) : (setCtx s c f).mantel = s.mantel := rfl
@[simp] theorem setCtx_twin (s : State) (c : Nat) (f : Ctx → Ctx) : (setCtx s c f).twin = s.twin := rfl
@[simp] theorem setCtx_updates (s : State) (c : Nat) (f : Ctx → Ctx) : (setCtx s c f).updates = s.updates := rfl
@[simp] theorem setCtx_boot (s : State) (c : Nat) (f : Ctx → Ctx) : (setCtx s c f).boot = s.boot := rfl
@[simp] theorem setCtx_tap (s : State) (c : Nat) (f : Ctx → Ctx) : (setCtx s c f).tap = s.tap := rfl
@[simp] theorem setCtx_tests (s : State) (c : Nat) (f : Ctx → Ctx) : (setCtx s c f).tests = s.tests := rfl

/-! ### putCtx -/

@[simp] theorem putCtx_pending (s : State) (c : Nat) (x : Ctx) : (putCtx s c x).pending = s.pending := rfl
@[simp] theorem putCtx_free (s : State) (c : Nat) (x : Ctx) : (putCtx s c x).free = s.free := rfl
@[simp] theorem putCtx_tick (s : State) (c : Nat) (x : Ctx) : (putCtx s c x).tick = s.tick := rfl
@[simp] theorem putCtx_clock (s : State) (c : Nat) (x : Ctx) : (putCtx s c x).clock = s.clock := rfl
@[simp] theorem putCtx_copies (s : State) (c : Nat) (x : Ctx) : (putCtx s c x).copies = s.copies := rfl
@[simp] theorem putCtx_rooms (s : State) (c : Nat) (x : Ctx) : (putCtx s c x).rooms = s.rooms := rfl
@[simp] theorem putCtx_links (s : State) (c : Nat) (x : Ctx) : (putCtx s c x).links = s.links := rfl
@[simp] theorem putCtx_lanesOut (s : State) (c : Nat) (x : Ctx) : (putCtx s c x).lanesOut = s.lanesOut := rfl
@[simp] theorem putCtx_units (s : State) (c : Nat) (x : Ctx) : (putCtx s c x).units = s.units := rfl
@[simp] theorem putCtx_addr (s : State) (c : Nat) (x : Ctx) : (putCtx s c x).addr = s.addr := rfl
@[simp] theorem putCtx_records (s : State) (c : Nat) (x : Ctx) : (putCtx s c x).records = s.records := rfl
@[simp] theorem putCtx_groupCmds (s : State) (c : Nat) (x : Ctx) : (putCtx s c x).groupCmds = s.groupCmds := rfl
@[simp] theorem putCtx_groupOut (s : State) (c : Nat) (x : Ctx) : (putCtx s c x).groupOut = s.groupOut := rfl
@[simp] theorem putCtx_foundation (s : State) (c : Nat) (x : Ctx) : (putCtx s c x).foundation = s.foundation := rfl
@[simp] theorem putCtx_sram (s : State) (c : Nat) (x : Ctx) : (putCtx s c x).sram = s.sram := rfl
@[simp] theorem putCtx_seq (s : State) (c : Nat) (x : Ctx) : (putCtx s c x).seq = s.seq := rfl
@[simp] theorem putCtx_collector (s : State) (c : Nat) (x : Ctx) : (putCtx s c x).collector = s.collector := rfl
@[simp] theorem putCtx_journal (s : State) (c : Nat) (x : Ctx) : (putCtx s c x).journal = s.journal := rfl
@[simp] theorem putCtx_suites (s : State) (c : Nat) (x : Ctx) : (putCtx s c x).suites = s.suites := rfl
@[simp] theorem putCtx_sessions (s : State) (c : Nat) (x : Ctx) : (putCtx s c x).sessions = s.sessions := rfl
@[simp] theorem putCtx_points (s : State) (c : Nat) (x : Ctx) : (putCtx s c x).points = s.points := rfl
@[simp] theorem putCtx_values (s : State) (c : Nat) (x : Ctx) : (putCtx s c x).values = s.values := rfl
@[simp] theorem putCtx_larder (s : State) (c : Nat) (x : Ctx) : (putCtx s c x).larder = s.larder := rfl
@[simp] theorem putCtx_hearth (s : State) (c : Nat) (x : Ctx) : (putCtx s c x).hearth = s.hearth := rfl
@[simp] theorem putCtx_cellar (s : State) (c : Nat) (x : Ctx) : (putCtx s c x).cellar = s.cellar := rfl
@[simp] theorem putCtx_fuses (s : State) (c : Nat) (x : Ctx) : (putCtx s c x).fuses = s.fuses := rfl
@[simp] theorem putCtx_attic (s : State) (c : Nat) (x : Ctx) : (putCtx s c x).attic = s.attic := rfl
@[simp] theorem putCtx_sw (s : State) (c : Nat) (x : Ctx) : (putCtx s c x).sw = s.sw := rfl
@[simp] theorem putCtx_ports (s : State) (c : Nat) (x : Ctx) : (putCtx s c x).ports = s.ports := rfl
@[simp] theorem putCtx_uplinks (s : State) (c : Nat) (x : Ctx) : (putCtx s c x).uplinks = s.uplinks := rfl
@[simp] theorem putCtx_halls (s : State) (c : Nat) (x : Ctx) : (putCtx s c x).halls = s.halls := rfl
@[simp] theorem putCtx_hallPairs (s : State) (c : Nat) (x : Ctx) : (putCtx s c x).hallPairs = s.hallPairs := rfl
@[simp] theorem putCtx_inputs (s : State) (c : Nat) (x : Ctx) : (putCtx s c x).inputs = s.inputs := rfl
@[simp] theorem putCtx_banks (s : State) (c : Nat) (x : Ctx) : (putCtx s c x).banks = s.banks := rfl
@[simp] theorem putCtx_outputs (s : State) (c : Nat) (x : Ctx) : (putCtx s c x).outputs = s.outputs := rfl
@[simp] theorem putCtx_latches (s : State) (c : Nat) (x : Ctx) : (putCtx s c x).latches = s.latches := rfl
@[simp] theorem putCtx_safeDrives (s : State) (c : Nat) (x : Ctx) : (putCtx s c x).safeDrives = s.safeDrives := rfl
@[simp] theorem putCtx_meter (s : State) (c : Nat) (x : Ctx) : (putCtx s c x).meter = s.meter := rfl
@[simp] theorem putCtx_mantel (s : State) (c : Nat) (x : Ctx) : (putCtx s c x).mantel = s.mantel := rfl
@[simp] theorem putCtx_twin (s : State) (c : Nat) (x : Ctx) : (putCtx s c x).twin = s.twin := rfl
@[simp] theorem putCtx_updates (s : State) (c : Nat) (x : Ctx) : (putCtx s c x).updates = s.updates := rfl
@[simp] theorem putCtx_boot (s : State) (c : Nat) (x : Ctx) : (putCtx s c x).boot = s.boot := rfl
@[simp] theorem putCtx_tap (s : State) (c : Nat) (x : Ctx) : (putCtx s c x).tap = s.tap := rfl
@[simp] theorem putCtx_tests (s : State) (c : Nat) (x : Ctx) : (putCtx s c x).tests = s.tests := rfl

/-! ### setPoint -/

@[simp] theorem setPoint_pending (s : State) (e : Nat) (v : PointVal) : (setPoint s e v).pending = s.pending := rfl
@[simp] theorem setPoint_free (s : State) (e : Nat) (v : PointVal) : (setPoint s e v).free = s.free := rfl
@[simp] theorem setPoint_tick (s : State) (e : Nat) (v : PointVal) : (setPoint s e v).tick = s.tick := rfl
@[simp] theorem setPoint_clock (s : State) (e : Nat) (v : PointVal) : (setPoint s e v).clock = s.clock := rfl
@[simp] theorem setPoint_copies (s : State) (e : Nat) (v : PointVal) : (setPoint s e v).copies = s.copies := rfl
@[simp] theorem setPoint_rooms (s : State) (e : Nat) (v : PointVal) : (setPoint s e v).rooms = s.rooms := rfl
@[simp] theorem setPoint_links (s : State) (e : Nat) (v : PointVal) : (setPoint s e v).links = s.links := rfl
@[simp] theorem setPoint_lanesOut (s : State) (e : Nat) (v : PointVal) : (setPoint s e v).lanesOut = s.lanesOut := rfl
@[simp] theorem setPoint_units (s : State) (e : Nat) (v : PointVal) : (setPoint s e v).units = s.units := rfl
@[simp] theorem setPoint_addr (s : State) (e : Nat) (v : PointVal) : (setPoint s e v).addr = s.addr := rfl
@[simp] theorem setPoint_records (s : State) (e : Nat) (v : PointVal) : (setPoint s e v).records = s.records := rfl
@[simp] theorem setPoint_groupCmds (s : State) (e : Nat) (v : PointVal) : (setPoint s e v).groupCmds = s.groupCmds := rfl
@[simp] theorem setPoint_groupOut (s : State) (e : Nat) (v : PointVal) : (setPoint s e v).groupOut = s.groupOut := rfl
@[simp] theorem setPoint_tasks (s : State) (e : Nat) (v : PointVal) : (setPoint s e v).tasks = s.tasks := rfl
@[simp] theorem setPoint_foundation (s : State) (e : Nat) (v : PointVal) : (setPoint s e v).foundation = s.foundation := rfl
@[simp] theorem setPoint_sram (s : State) (e : Nat) (v : PointVal) : (setPoint s e v).sram = s.sram := rfl
@[simp] theorem setPoint_seq (s : State) (e : Nat) (v : PointVal) : (setPoint s e v).seq = s.seq := rfl
@[simp] theorem setPoint_collector (s : State) (e : Nat) (v : PointVal) : (setPoint s e v).collector = s.collector := rfl
@[simp] theorem setPoint_journal (s : State) (e : Nat) (v : PointVal) : (setPoint s e v).journal = s.journal := rfl
@[simp] theorem setPoint_suites (s : State) (e : Nat) (v : PointVal) : (setPoint s e v).suites = s.suites := rfl
@[simp] theorem setPoint_sessions (s : State) (e : Nat) (v : PointVal) : (setPoint s e v).sessions = s.sessions := rfl
@[simp] theorem setPoint_points (s : State) (e : Nat) (v : PointVal) : (setPoint s e v).points = s.points := rfl
@[simp] theorem setPoint_larder (s : State) (e : Nat) (v : PointVal) : (setPoint s e v).larder = s.larder := rfl
@[simp] theorem setPoint_hearth (s : State) (e : Nat) (v : PointVal) : (setPoint s e v).hearth = s.hearth := rfl
@[simp] theorem setPoint_cellar (s : State) (e : Nat) (v : PointVal) : (setPoint s e v).cellar = s.cellar := rfl
@[simp] theorem setPoint_fuses (s : State) (e : Nat) (v : PointVal) : (setPoint s e v).fuses = s.fuses := rfl
@[simp] theorem setPoint_attic (s : State) (e : Nat) (v : PointVal) : (setPoint s e v).attic = s.attic := rfl
@[simp] theorem setPoint_sw (s : State) (e : Nat) (v : PointVal) : (setPoint s e v).sw = s.sw := rfl
@[simp] theorem setPoint_ports (s : State) (e : Nat) (v : PointVal) : (setPoint s e v).ports = s.ports := rfl
@[simp] theorem setPoint_uplinks (s : State) (e : Nat) (v : PointVal) : (setPoint s e v).uplinks = s.uplinks := rfl
@[simp] theorem setPoint_halls (s : State) (e : Nat) (v : PointVal) : (setPoint s e v).halls = s.halls := rfl
@[simp] theorem setPoint_hallPairs (s : State) (e : Nat) (v : PointVal) : (setPoint s e v).hallPairs = s.hallPairs := rfl
@[simp] theorem setPoint_inputs (s : State) (e : Nat) (v : PointVal) : (setPoint s e v).inputs = s.inputs := rfl
@[simp] theorem setPoint_banks (s : State) (e : Nat) (v : PointVal) : (setPoint s e v).banks = s.banks := rfl
@[simp] theorem setPoint_outputs (s : State) (e : Nat) (v : PointVal) : (setPoint s e v).outputs = s.outputs := rfl
@[simp] theorem setPoint_latches (s : State) (e : Nat) (v : PointVal) : (setPoint s e v).latches = s.latches := rfl
@[simp] theorem setPoint_safeDrives (s : State) (e : Nat) (v : PointVal) : (setPoint s e v).safeDrives = s.safeDrives := rfl
@[simp] theorem setPoint_meter (s : State) (e : Nat) (v : PointVal) : (setPoint s e v).meter = s.meter := rfl
@[simp] theorem setPoint_mantel (s : State) (e : Nat) (v : PointVal) : (setPoint s e v).mantel = s.mantel := rfl
@[simp] theorem setPoint_twin (s : State) (e : Nat) (v : PointVal) : (setPoint s e v).twin = s.twin := rfl
@[simp] theorem setPoint_updates (s : State) (e : Nat) (v : PointVal) : (setPoint s e v).updates = s.updates := rfl
@[simp] theorem setPoint_boot (s : State) (e : Nat) (v : PointVal) : (setPoint s e v).boot = s.boot := rfl
@[simp] theorem setPoint_tap (s : State) (e : Nat) (v : PointVal) : (setPoint s e v).tap = s.tap := rfl
@[simp] theorem setPoint_tests (s : State) (e : Nat) (v : PointVal) : (setPoint s e v).tests = s.tests := rfl

/-! ### setRoom -/

@[simp] theorem setRoom_pending (s : State) (n : Nat) (f : Room → Room) : (setRoom s n f).pending = s.pending := rfl
@[simp] theorem setRoom_free (s : State) (n : Nat) (f : Room → Room) : (setRoom s n f).free = s.free := rfl
@[simp] theorem setRoom_tick (s : State) (n : Nat) (f : Room → Room) : (setRoom s n f).tick = s.tick := rfl
@[simp] theorem setRoom_clock (s : State) (n : Nat) (f : Room → Room) : (setRoom s n f).clock = s.clock := rfl
@[simp] theorem setRoom_copies (s : State) (n : Nat) (f : Room → Room) : (setRoom s n f).copies = s.copies := rfl
@[simp] theorem setRoom_links (s : State) (n : Nat) (f : Room → Room) : (setRoom s n f).links = s.links := rfl
@[simp] theorem setRoom_lanesOut (s : State) (n : Nat) (f : Room → Room) : (setRoom s n f).lanesOut = s.lanesOut := rfl
@[simp] theorem setRoom_units (s : State) (n : Nat) (f : Room → Room) : (setRoom s n f).units = s.units := rfl
@[simp] theorem setRoom_addr (s : State) (n : Nat) (f : Room → Room) : (setRoom s n f).addr = s.addr := rfl
@[simp] theorem setRoom_records (s : State) (n : Nat) (f : Room → Room) : (setRoom s n f).records = s.records := rfl
@[simp] theorem setRoom_groupCmds (s : State) (n : Nat) (f : Room → Room) : (setRoom s n f).groupCmds = s.groupCmds := rfl
@[simp] theorem setRoom_groupOut (s : State) (n : Nat) (f : Room → Room) : (setRoom s n f).groupOut = s.groupOut := rfl
@[simp] theorem setRoom_tasks (s : State) (n : Nat) (f : Room → Room) : (setRoom s n f).tasks = s.tasks := rfl
@[simp] theorem setRoom_foundation (s : State) (n : Nat) (f : Room → Room) : (setRoom s n f).foundation = s.foundation := rfl
@[simp] theorem setRoom_sram (s : State) (n : Nat) (f : Room → Room) : (setRoom s n f).sram = s.sram := rfl
@[simp] theorem setRoom_seq (s : State) (n : Nat) (f : Room → Room) : (setRoom s n f).seq = s.seq := rfl
@[simp] theorem setRoom_collector (s : State) (n : Nat) (f : Room → Room) : (setRoom s n f).collector = s.collector := rfl
@[simp] theorem setRoom_journal (s : State) (n : Nat) (f : Room → Room) : (setRoom s n f).journal = s.journal := rfl
@[simp] theorem setRoom_suites (s : State) (n : Nat) (f : Room → Room) : (setRoom s n f).suites = s.suites := rfl
@[simp] theorem setRoom_sessions (s : State) (n : Nat) (f : Room → Room) : (setRoom s n f).sessions = s.sessions := rfl
@[simp] theorem setRoom_points (s : State) (n : Nat) (f : Room → Room) : (setRoom s n f).points = s.points := rfl
@[simp] theorem setRoom_values (s : State) (n : Nat) (f : Room → Room) : (setRoom s n f).values = s.values := rfl
@[simp] theorem setRoom_larder (s : State) (n : Nat) (f : Room → Room) : (setRoom s n f).larder = s.larder := rfl
@[simp] theorem setRoom_hearth (s : State) (n : Nat) (f : Room → Room) : (setRoom s n f).hearth = s.hearth := rfl
@[simp] theorem setRoom_cellar (s : State) (n : Nat) (f : Room → Room) : (setRoom s n f).cellar = s.cellar := rfl
@[simp] theorem setRoom_fuses (s : State) (n : Nat) (f : Room → Room) : (setRoom s n f).fuses = s.fuses := rfl
@[simp] theorem setRoom_attic (s : State) (n : Nat) (f : Room → Room) : (setRoom s n f).attic = s.attic := rfl
@[simp] theorem setRoom_sw (s : State) (n : Nat) (f : Room → Room) : (setRoom s n f).sw = s.sw := rfl
@[simp] theorem setRoom_ports (s : State) (n : Nat) (f : Room → Room) : (setRoom s n f).ports = s.ports := rfl
@[simp] theorem setRoom_uplinks (s : State) (n : Nat) (f : Room → Room) : (setRoom s n f).uplinks = s.uplinks := rfl
@[simp] theorem setRoom_halls (s : State) (n : Nat) (f : Room → Room) : (setRoom s n f).halls = s.halls := rfl
@[simp] theorem setRoom_hallPairs (s : State) (n : Nat) (f : Room → Room) : (setRoom s n f).hallPairs = s.hallPairs := rfl
@[simp] theorem setRoom_inputs (s : State) (n : Nat) (f : Room → Room) : (setRoom s n f).inputs = s.inputs := rfl
@[simp] theorem setRoom_banks (s : State) (n : Nat) (f : Room → Room) : (setRoom s n f).banks = s.banks := rfl
@[simp] theorem setRoom_outputs (s : State) (n : Nat) (f : Room → Room) : (setRoom s n f).outputs = s.outputs := rfl
@[simp] theorem setRoom_latches (s : State) (n : Nat) (f : Room → Room) : (setRoom s n f).latches = s.latches := rfl
@[simp] theorem setRoom_safeDrives (s : State) (n : Nat) (f : Room → Room) : (setRoom s n f).safeDrives = s.safeDrives := rfl
@[simp] theorem setRoom_meter (s : State) (n : Nat) (f : Room → Room) : (setRoom s n f).meter = s.meter := rfl
@[simp] theorem setRoom_mantel (s : State) (n : Nat) (f : Room → Room) : (setRoom s n f).mantel = s.mantel := rfl
@[simp] theorem setRoom_twin (s : State) (n : Nat) (f : Room → Room) : (setRoom s n f).twin = s.twin := rfl
@[simp] theorem setRoom_updates (s : State) (n : Nat) (f : Room → Room) : (setRoom s n f).updates = s.updates := rfl
@[simp] theorem setRoom_boot (s : State) (n : Nat) (f : Room → Room) : (setRoom s n f).boot = s.boot := rfl
@[simp] theorem setRoom_tap (s : State) (n : Nat) (f : Room → Room) : (setRoom s n f).tap = s.tap := rfl
@[simp] theorem setRoom_tests (s : State) (n : Nat) (f : Room → Room) : (setRoom s n f).tests = s.tests := rfl

/-! ### setClock -/

@[simp] theorem setClock_pending (s : State) (f : HouseClock → HouseClock) : (setClock s f).pending = s.pending := rfl
@[simp] theorem setClock_free (s : State) (f : HouseClock → HouseClock) : (setClock s f).free = s.free := rfl
@[simp] theorem setClock_tick (s : State) (f : HouseClock → HouseClock) : (setClock s f).tick = s.tick := rfl
@[simp] theorem setClock_copies (s : State) (f : HouseClock → HouseClock) : (setClock s f).copies = s.copies := rfl
@[simp] theorem setClock_rooms (s : State) (f : HouseClock → HouseClock) : (setClock s f).rooms = s.rooms := rfl
@[simp] theorem setClock_links (s : State) (f : HouseClock → HouseClock) : (setClock s f).links = s.links := rfl
@[simp] theorem setClock_lanesOut (s : State) (f : HouseClock → HouseClock) : (setClock s f).lanesOut = s.lanesOut := rfl
@[simp] theorem setClock_units (s : State) (f : HouseClock → HouseClock) : (setClock s f).units = s.units := rfl
@[simp] theorem setClock_addr (s : State) (f : HouseClock → HouseClock) : (setClock s f).addr = s.addr := rfl
@[simp] theorem setClock_records (s : State) (f : HouseClock → HouseClock) : (setClock s f).records = s.records := rfl
@[simp] theorem setClock_groupCmds (s : State) (f : HouseClock → HouseClock) : (setClock s f).groupCmds = s.groupCmds := rfl
@[simp] theorem setClock_groupOut (s : State) (f : HouseClock → HouseClock) : (setClock s f).groupOut = s.groupOut := rfl
@[simp] theorem setClock_tasks (s : State) (f : HouseClock → HouseClock) : (setClock s f).tasks = s.tasks := rfl
@[simp] theorem setClock_foundation (s : State) (f : HouseClock → HouseClock) : (setClock s f).foundation = s.foundation := rfl
@[simp] theorem setClock_sram (s : State) (f : HouseClock → HouseClock) : (setClock s f).sram = s.sram := rfl
@[simp] theorem setClock_seq (s : State) (f : HouseClock → HouseClock) : (setClock s f).seq = s.seq := rfl
@[simp] theorem setClock_collector (s : State) (f : HouseClock → HouseClock) : (setClock s f).collector = s.collector := rfl
@[simp] theorem setClock_journal (s : State) (f : HouseClock → HouseClock) : (setClock s f).journal = s.journal := rfl
@[simp] theorem setClock_suites (s : State) (f : HouseClock → HouseClock) : (setClock s f).suites = s.suites := rfl
@[simp] theorem setClock_sessions (s : State) (f : HouseClock → HouseClock) : (setClock s f).sessions = s.sessions := rfl
@[simp] theorem setClock_points (s : State) (f : HouseClock → HouseClock) : (setClock s f).points = s.points := rfl
@[simp] theorem setClock_values (s : State) (f : HouseClock → HouseClock) : (setClock s f).values = s.values := rfl
@[simp] theorem setClock_larder (s : State) (f : HouseClock → HouseClock) : (setClock s f).larder = s.larder := rfl
@[simp] theorem setClock_hearth (s : State) (f : HouseClock → HouseClock) : (setClock s f).hearth = s.hearth := rfl
@[simp] theorem setClock_cellar (s : State) (f : HouseClock → HouseClock) : (setClock s f).cellar = s.cellar := rfl
@[simp] theorem setClock_fuses (s : State) (f : HouseClock → HouseClock) : (setClock s f).fuses = s.fuses := rfl
@[simp] theorem setClock_attic (s : State) (f : HouseClock → HouseClock) : (setClock s f).attic = s.attic := rfl
@[simp] theorem setClock_sw (s : State) (f : HouseClock → HouseClock) : (setClock s f).sw = s.sw := rfl
@[simp] theorem setClock_ports (s : State) (f : HouseClock → HouseClock) : (setClock s f).ports = s.ports := rfl
@[simp] theorem setClock_uplinks (s : State) (f : HouseClock → HouseClock) : (setClock s f).uplinks = s.uplinks := rfl
@[simp] theorem setClock_halls (s : State) (f : HouseClock → HouseClock) : (setClock s f).halls = s.halls := rfl
@[simp] theorem setClock_hallPairs (s : State) (f : HouseClock → HouseClock) : (setClock s f).hallPairs = s.hallPairs := rfl
@[simp] theorem setClock_inputs (s : State) (f : HouseClock → HouseClock) : (setClock s f).inputs = s.inputs := rfl
@[simp] theorem setClock_banks (s : State) (f : HouseClock → HouseClock) : (setClock s f).banks = s.banks := rfl
@[simp] theorem setClock_outputs (s : State) (f : HouseClock → HouseClock) : (setClock s f).outputs = s.outputs := rfl
@[simp] theorem setClock_latches (s : State) (f : HouseClock → HouseClock) : (setClock s f).latches = s.latches := rfl
@[simp] theorem setClock_safeDrives (s : State) (f : HouseClock → HouseClock) : (setClock s f).safeDrives = s.safeDrives := rfl
@[simp] theorem setClock_meter (s : State) (f : HouseClock → HouseClock) : (setClock s f).meter = s.meter := rfl
@[simp] theorem setClock_mantel (s : State) (f : HouseClock → HouseClock) : (setClock s f).mantel = s.mantel := rfl
@[simp] theorem setClock_twin (s : State) (f : HouseClock → HouseClock) : (setClock s f).twin = s.twin := rfl
@[simp] theorem setClock_updates (s : State) (f : HouseClock → HouseClock) : (setClock s f).updates = s.updates := rfl
@[simp] theorem setClock_boot (s : State) (f : HouseClock → HouseClock) : (setClock s f).boot = s.boot := rfl
@[simp] theorem setClock_tap (s : State) (f : HouseClock → HouseClock) : (setClock s f).tap = s.tap := rfl
@[simp] theorem setClock_tests (s : State) (f : HouseClock → HouseClock) : (setClock s f).tests = s.tests := rfl

/-! ### setDieLink -/

@[simp] theorem setDieLink_pending (s : State) (l : Nat) (f : DieLink → DieLink) : (setDieLink s l f).pending = s.pending := rfl
@[simp] theorem setDieLink_free (s : State) (l : Nat) (f : DieLink → DieLink) : (setDieLink s l f).free = s.free := rfl
@[simp] theorem setDieLink_tick (s : State) (l : Nat) (f : DieLink → DieLink) : (setDieLink s l f).tick = s.tick := rfl
@[simp] theorem setDieLink_clock (s : State) (l : Nat) (f : DieLink → DieLink) : (setDieLink s l f).clock = s.clock := rfl
@[simp] theorem setDieLink_copies (s : State) (l : Nat) (f : DieLink → DieLink) : (setDieLink s l f).copies = s.copies := rfl
@[simp] theorem setDieLink_rooms (s : State) (l : Nat) (f : DieLink → DieLink) : (setDieLink s l f).rooms = s.rooms := rfl
@[simp] theorem setDieLink_lanesOut (s : State) (l : Nat) (f : DieLink → DieLink) : (setDieLink s l f).lanesOut = s.lanesOut := rfl
@[simp] theorem setDieLink_units (s : State) (l : Nat) (f : DieLink → DieLink) : (setDieLink s l f).units = s.units := rfl
@[simp] theorem setDieLink_addr (s : State) (l : Nat) (f : DieLink → DieLink) : (setDieLink s l f).addr = s.addr := rfl
@[simp] theorem setDieLink_records (s : State) (l : Nat) (f : DieLink → DieLink) : (setDieLink s l f).records = s.records := rfl
@[simp] theorem setDieLink_groupCmds (s : State) (l : Nat) (f : DieLink → DieLink) : (setDieLink s l f).groupCmds = s.groupCmds := rfl
@[simp] theorem setDieLink_groupOut (s : State) (l : Nat) (f : DieLink → DieLink) : (setDieLink s l f).groupOut = s.groupOut := rfl
@[simp] theorem setDieLink_tasks (s : State) (l : Nat) (f : DieLink → DieLink) : (setDieLink s l f).tasks = s.tasks := rfl
@[simp] theorem setDieLink_foundation (s : State) (l : Nat) (f : DieLink → DieLink) : (setDieLink s l f).foundation = s.foundation := rfl
@[simp] theorem setDieLink_sram (s : State) (l : Nat) (f : DieLink → DieLink) : (setDieLink s l f).sram = s.sram := rfl
@[simp] theorem setDieLink_seq (s : State) (l : Nat) (f : DieLink → DieLink) : (setDieLink s l f).seq = s.seq := rfl
@[simp] theorem setDieLink_collector (s : State) (l : Nat) (f : DieLink → DieLink) : (setDieLink s l f).collector = s.collector := rfl
@[simp] theorem setDieLink_journal (s : State) (l : Nat) (f : DieLink → DieLink) : (setDieLink s l f).journal = s.journal := rfl
@[simp] theorem setDieLink_suites (s : State) (l : Nat) (f : DieLink → DieLink) : (setDieLink s l f).suites = s.suites := rfl
@[simp] theorem setDieLink_sessions (s : State) (l : Nat) (f : DieLink → DieLink) : (setDieLink s l f).sessions = s.sessions := rfl
@[simp] theorem setDieLink_points (s : State) (l : Nat) (f : DieLink → DieLink) : (setDieLink s l f).points = s.points := rfl
@[simp] theorem setDieLink_values (s : State) (l : Nat) (f : DieLink → DieLink) : (setDieLink s l f).values = s.values := rfl
@[simp] theorem setDieLink_larder (s : State) (l : Nat) (f : DieLink → DieLink) : (setDieLink s l f).larder = s.larder := rfl
@[simp] theorem setDieLink_hearth (s : State) (l : Nat) (f : DieLink → DieLink) : (setDieLink s l f).hearth = s.hearth := rfl
@[simp] theorem setDieLink_cellar (s : State) (l : Nat) (f : DieLink → DieLink) : (setDieLink s l f).cellar = s.cellar := rfl
@[simp] theorem setDieLink_fuses (s : State) (l : Nat) (f : DieLink → DieLink) : (setDieLink s l f).fuses = s.fuses := rfl
@[simp] theorem setDieLink_attic (s : State) (l : Nat) (f : DieLink → DieLink) : (setDieLink s l f).attic = s.attic := rfl
@[simp] theorem setDieLink_sw (s : State) (l : Nat) (f : DieLink → DieLink) : (setDieLink s l f).sw = s.sw := rfl
@[simp] theorem setDieLink_ports (s : State) (l : Nat) (f : DieLink → DieLink) : (setDieLink s l f).ports = s.ports := rfl
@[simp] theorem setDieLink_uplinks (s : State) (l : Nat) (f : DieLink → DieLink) : (setDieLink s l f).uplinks = s.uplinks := rfl
@[simp] theorem setDieLink_halls (s : State) (l : Nat) (f : DieLink → DieLink) : (setDieLink s l f).halls = s.halls := rfl
@[simp] theorem setDieLink_hallPairs (s : State) (l : Nat) (f : DieLink → DieLink) : (setDieLink s l f).hallPairs = s.hallPairs := rfl
@[simp] theorem setDieLink_inputs (s : State) (l : Nat) (f : DieLink → DieLink) : (setDieLink s l f).inputs = s.inputs := rfl
@[simp] theorem setDieLink_banks (s : State) (l : Nat) (f : DieLink → DieLink) : (setDieLink s l f).banks = s.banks := rfl
@[simp] theorem setDieLink_outputs (s : State) (l : Nat) (f : DieLink → DieLink) : (setDieLink s l f).outputs = s.outputs := rfl
@[simp] theorem setDieLink_latches (s : State) (l : Nat) (f : DieLink → DieLink) : (setDieLink s l f).latches = s.latches := rfl
@[simp] theorem setDieLink_safeDrives (s : State) (l : Nat) (f : DieLink → DieLink) : (setDieLink s l f).safeDrives = s.safeDrives := rfl
@[simp] theorem setDieLink_meter (s : State) (l : Nat) (f : DieLink → DieLink) : (setDieLink s l f).meter = s.meter := rfl
@[simp] theorem setDieLink_mantel (s : State) (l : Nat) (f : DieLink → DieLink) : (setDieLink s l f).mantel = s.mantel := rfl
@[simp] theorem setDieLink_twin (s : State) (l : Nat) (f : DieLink → DieLink) : (setDieLink s l f).twin = s.twin := rfl
@[simp] theorem setDieLink_updates (s : State) (l : Nat) (f : DieLink → DieLink) : (setDieLink s l f).updates = s.updates := rfl
@[simp] theorem setDieLink_boot (s : State) (l : Nat) (f : DieLink → DieLink) : (setDieLink s l f).boot = s.boot := rfl
@[simp] theorem setDieLink_tap (s : State) (l : Nat) (f : DieLink → DieLink) : (setDieLink s l f).tap = s.tap := rfl
@[simp] theorem setDieLink_tests (s : State) (l : Nat) (f : DieLink → DieLink) : (setDieLink s l f).tests = s.tests := rfl

/-! ### setPort -/

@[simp] theorem setPort_pending (s : State) (p : Nat) (f : Port → Port) : (setPort s p f).pending = s.pending := rfl
@[simp] theorem setPort_free (s : State) (p : Nat) (f : Port → Port) : (setPort s p f).free = s.free := rfl
@[simp] theorem setPort_tick (s : State) (p : Nat) (f : Port → Port) : (setPort s p f).tick = s.tick := rfl
@[simp] theorem setPort_clock (s : State) (p : Nat) (f : Port → Port) : (setPort s p f).clock = s.clock := rfl
@[simp] theorem setPort_copies (s : State) (p : Nat) (f : Port → Port) : (setPort s p f).copies = s.copies := rfl
@[simp] theorem setPort_rooms (s : State) (p : Nat) (f : Port → Port) : (setPort s p f).rooms = s.rooms := rfl
@[simp] theorem setPort_links (s : State) (p : Nat) (f : Port → Port) : (setPort s p f).links = s.links := rfl
@[simp] theorem setPort_lanesOut (s : State) (p : Nat) (f : Port → Port) : (setPort s p f).lanesOut = s.lanesOut := rfl
@[simp] theorem setPort_units (s : State) (p : Nat) (f : Port → Port) : (setPort s p f).units = s.units := rfl
@[simp] theorem setPort_addr (s : State) (p : Nat) (f : Port → Port) : (setPort s p f).addr = s.addr := rfl
@[simp] theorem setPort_records (s : State) (p : Nat) (f : Port → Port) : (setPort s p f).records = s.records := rfl
@[simp] theorem setPort_groupCmds (s : State) (p : Nat) (f : Port → Port) : (setPort s p f).groupCmds = s.groupCmds := rfl
@[simp] theorem setPort_groupOut (s : State) (p : Nat) (f : Port → Port) : (setPort s p f).groupOut = s.groupOut := rfl
@[simp] theorem setPort_tasks (s : State) (p : Nat) (f : Port → Port) : (setPort s p f).tasks = s.tasks := rfl
@[simp] theorem setPort_foundation (s : State) (p : Nat) (f : Port → Port) : (setPort s p f).foundation = s.foundation := rfl
@[simp] theorem setPort_sram (s : State) (p : Nat) (f : Port → Port) : (setPort s p f).sram = s.sram := rfl
@[simp] theorem setPort_seq (s : State) (p : Nat) (f : Port → Port) : (setPort s p f).seq = s.seq := rfl
@[simp] theorem setPort_collector (s : State) (p : Nat) (f : Port → Port) : (setPort s p f).collector = s.collector := rfl
@[simp] theorem setPort_journal (s : State) (p : Nat) (f : Port → Port) : (setPort s p f).journal = s.journal := rfl
@[simp] theorem setPort_suites (s : State) (p : Nat) (f : Port → Port) : (setPort s p f).suites = s.suites := rfl
@[simp] theorem setPort_sessions (s : State) (p : Nat) (f : Port → Port) : (setPort s p f).sessions = s.sessions := rfl
@[simp] theorem setPort_points (s : State) (p : Nat) (f : Port → Port) : (setPort s p f).points = s.points := rfl
@[simp] theorem setPort_values (s : State) (p : Nat) (f : Port → Port) : (setPort s p f).values = s.values := rfl
@[simp] theorem setPort_larder (s : State) (p : Nat) (f : Port → Port) : (setPort s p f).larder = s.larder := rfl
@[simp] theorem setPort_hearth (s : State) (p : Nat) (f : Port → Port) : (setPort s p f).hearth = s.hearth := rfl
@[simp] theorem setPort_cellar (s : State) (p : Nat) (f : Port → Port) : (setPort s p f).cellar = s.cellar := rfl
@[simp] theorem setPort_fuses (s : State) (p : Nat) (f : Port → Port) : (setPort s p f).fuses = s.fuses := rfl
@[simp] theorem setPort_attic (s : State) (p : Nat) (f : Port → Port) : (setPort s p f).attic = s.attic := rfl
@[simp] theorem setPort_sw (s : State) (p : Nat) (f : Port → Port) : (setPort s p f).sw = s.sw := rfl
@[simp] theorem setPort_uplinks (s : State) (p : Nat) (f : Port → Port) : (setPort s p f).uplinks = s.uplinks := rfl
@[simp] theorem setPort_halls (s : State) (p : Nat) (f : Port → Port) : (setPort s p f).halls = s.halls := rfl
@[simp] theorem setPort_hallPairs (s : State) (p : Nat) (f : Port → Port) : (setPort s p f).hallPairs = s.hallPairs := rfl
@[simp] theorem setPort_inputs (s : State) (p : Nat) (f : Port → Port) : (setPort s p f).inputs = s.inputs := rfl
@[simp] theorem setPort_banks (s : State) (p : Nat) (f : Port → Port) : (setPort s p f).banks = s.banks := rfl
@[simp] theorem setPort_outputs (s : State) (p : Nat) (f : Port → Port) : (setPort s p f).outputs = s.outputs := rfl
@[simp] theorem setPort_latches (s : State) (p : Nat) (f : Port → Port) : (setPort s p f).latches = s.latches := rfl
@[simp] theorem setPort_safeDrives (s : State) (p : Nat) (f : Port → Port) : (setPort s p f).safeDrives = s.safeDrives := rfl
@[simp] theorem setPort_meter (s : State) (p : Nat) (f : Port → Port) : (setPort s p f).meter = s.meter := rfl
@[simp] theorem setPort_mantel (s : State) (p : Nat) (f : Port → Port) : (setPort s p f).mantel = s.mantel := rfl
@[simp] theorem setPort_twin (s : State) (p : Nat) (f : Port → Port) : (setPort s p f).twin = s.twin := rfl
@[simp] theorem setPort_updates (s : State) (p : Nat) (f : Port → Port) : (setPort s p f).updates = s.updates := rfl
@[simp] theorem setPort_boot (s : State) (p : Nat) (f : Port → Port) : (setPort s p f).boot = s.boot := rfl
@[simp] theorem setPort_tap (s : State) (p : Nat) (f : Port → Port) : (setPort s p f).tap = s.tap := rfl
@[simp] theorem setPort_tests (s : State) (p : Nat) (f : Port → Port) : (setPort s p f).tests = s.tests := rfl

/-! ### setUplink -/

@[simp] theorem setUplink_pending (s : State) (i : Nat) (f : Uplink → Uplink) : (setUplink s i f).pending = s.pending := rfl
@[simp] theorem setUplink_free (s : State) (i : Nat) (f : Uplink → Uplink) : (setUplink s i f).free = s.free := rfl
@[simp] theorem setUplink_tick (s : State) (i : Nat) (f : Uplink → Uplink) : (setUplink s i f).tick = s.tick := rfl
@[simp] theorem setUplink_clock (s : State) (i : Nat) (f : Uplink → Uplink) : (setUplink s i f).clock = s.clock := rfl
@[simp] theorem setUplink_copies (s : State) (i : Nat) (f : Uplink → Uplink) : (setUplink s i f).copies = s.copies := rfl
@[simp] theorem setUplink_rooms (s : State) (i : Nat) (f : Uplink → Uplink) : (setUplink s i f).rooms = s.rooms := rfl
@[simp] theorem setUplink_links (s : State) (i : Nat) (f : Uplink → Uplink) : (setUplink s i f).links = s.links := rfl
@[simp] theorem setUplink_lanesOut (s : State) (i : Nat) (f : Uplink → Uplink) : (setUplink s i f).lanesOut = s.lanesOut := rfl
@[simp] theorem setUplink_units (s : State) (i : Nat) (f : Uplink → Uplink) : (setUplink s i f).units = s.units := rfl
@[simp] theorem setUplink_addr (s : State) (i : Nat) (f : Uplink → Uplink) : (setUplink s i f).addr = s.addr := rfl
@[simp] theorem setUplink_records (s : State) (i : Nat) (f : Uplink → Uplink) : (setUplink s i f).records = s.records := rfl
@[simp] theorem setUplink_groupCmds (s : State) (i : Nat) (f : Uplink → Uplink) : (setUplink s i f).groupCmds = s.groupCmds := rfl
@[simp] theorem setUplink_groupOut (s : State) (i : Nat) (f : Uplink → Uplink) : (setUplink s i f).groupOut = s.groupOut := rfl
@[simp] theorem setUplink_tasks (s : State) (i : Nat) (f : Uplink → Uplink) : (setUplink s i f).tasks = s.tasks := rfl
@[simp] theorem setUplink_foundation (s : State) (i : Nat) (f : Uplink → Uplink) : (setUplink s i f).foundation = s.foundation := rfl
@[simp] theorem setUplink_sram (s : State) (i : Nat) (f : Uplink → Uplink) : (setUplink s i f).sram = s.sram := rfl
@[simp] theorem setUplink_seq (s : State) (i : Nat) (f : Uplink → Uplink) : (setUplink s i f).seq = s.seq := rfl
@[simp] theorem setUplink_collector (s : State) (i : Nat) (f : Uplink → Uplink) : (setUplink s i f).collector = s.collector := rfl
@[simp] theorem setUplink_journal (s : State) (i : Nat) (f : Uplink → Uplink) : (setUplink s i f).journal = s.journal := rfl
@[simp] theorem setUplink_suites (s : State) (i : Nat) (f : Uplink → Uplink) : (setUplink s i f).suites = s.suites := rfl
@[simp] theorem setUplink_sessions (s : State) (i : Nat) (f : Uplink → Uplink) : (setUplink s i f).sessions = s.sessions := rfl
@[simp] theorem setUplink_points (s : State) (i : Nat) (f : Uplink → Uplink) : (setUplink s i f).points = s.points := rfl
@[simp] theorem setUplink_values (s : State) (i : Nat) (f : Uplink → Uplink) : (setUplink s i f).values = s.values := rfl
@[simp] theorem setUplink_larder (s : State) (i : Nat) (f : Uplink → Uplink) : (setUplink s i f).larder = s.larder := rfl
@[simp] theorem setUplink_hearth (s : State) (i : Nat) (f : Uplink → Uplink) : (setUplink s i f).hearth = s.hearth := rfl
@[simp] theorem setUplink_cellar (s : State) (i : Nat) (f : Uplink → Uplink) : (setUplink s i f).cellar = s.cellar := rfl
@[simp] theorem setUplink_fuses (s : State) (i : Nat) (f : Uplink → Uplink) : (setUplink s i f).fuses = s.fuses := rfl
@[simp] theorem setUplink_attic (s : State) (i : Nat) (f : Uplink → Uplink) : (setUplink s i f).attic = s.attic := rfl
@[simp] theorem setUplink_sw (s : State) (i : Nat) (f : Uplink → Uplink) : (setUplink s i f).sw = s.sw := rfl
@[simp] theorem setUplink_ports (s : State) (i : Nat) (f : Uplink → Uplink) : (setUplink s i f).ports = s.ports := rfl
@[simp] theorem setUplink_halls (s : State) (i : Nat) (f : Uplink → Uplink) : (setUplink s i f).halls = s.halls := rfl
@[simp] theorem setUplink_hallPairs (s : State) (i : Nat) (f : Uplink → Uplink) : (setUplink s i f).hallPairs = s.hallPairs := rfl
@[simp] theorem setUplink_inputs (s : State) (i : Nat) (f : Uplink → Uplink) : (setUplink s i f).inputs = s.inputs := rfl
@[simp] theorem setUplink_banks (s : State) (i : Nat) (f : Uplink → Uplink) : (setUplink s i f).banks = s.banks := rfl
@[simp] theorem setUplink_outputs (s : State) (i : Nat) (f : Uplink → Uplink) : (setUplink s i f).outputs = s.outputs := rfl
@[simp] theorem setUplink_latches (s : State) (i : Nat) (f : Uplink → Uplink) : (setUplink s i f).latches = s.latches := rfl
@[simp] theorem setUplink_safeDrives (s : State) (i : Nat) (f : Uplink → Uplink) : (setUplink s i f).safeDrives = s.safeDrives := rfl
@[simp] theorem setUplink_meter (s : State) (i : Nat) (f : Uplink → Uplink) : (setUplink s i f).meter = s.meter := rfl
@[simp] theorem setUplink_mantel (s : State) (i : Nat) (f : Uplink → Uplink) : (setUplink s i f).mantel = s.mantel := rfl
@[simp] theorem setUplink_twin (s : State) (i : Nat) (f : Uplink → Uplink) : (setUplink s i f).twin = s.twin := rfl
@[simp] theorem setUplink_updates (s : State) (i : Nat) (f : Uplink → Uplink) : (setUplink s i f).updates = s.updates := rfl
@[simp] theorem setUplink_boot (s : State) (i : Nat) (f : Uplink → Uplink) : (setUplink s i f).boot = s.boot := rfl
@[simp] theorem setUplink_tap (s : State) (i : Nat) (f : Uplink → Uplink) : (setUplink s i f).tap = s.tap := rfl
@[simp] theorem setUplink_tests (s : State) (i : Nat) (f : Uplink → Uplink) : (setUplink s i f).tests = s.tests := rfl

/-! ### setHall -/

@[simp] theorem setHall_pending (s : State) (h : Nat) (f : Hall → Hall) : (setHall s h f).pending = s.pending := rfl
@[simp] theorem setHall_free (s : State) (h : Nat) (f : Hall → Hall) : (setHall s h f).free = s.free := rfl
@[simp] theorem setHall_tick (s : State) (h : Nat) (f : Hall → Hall) : (setHall s h f).tick = s.tick := rfl
@[simp] theorem setHall_clock (s : State) (h : Nat) (f : Hall → Hall) : (setHall s h f).clock = s.clock := rfl
@[simp] theorem setHall_copies (s : State) (h : Nat) (f : Hall → Hall) : (setHall s h f).copies = s.copies := rfl
@[simp] theorem setHall_rooms (s : State) (h : Nat) (f : Hall → Hall) : (setHall s h f).rooms = s.rooms := rfl
@[simp] theorem setHall_links (s : State) (h : Nat) (f : Hall → Hall) : (setHall s h f).links = s.links := rfl
@[simp] theorem setHall_lanesOut (s : State) (h : Nat) (f : Hall → Hall) : (setHall s h f).lanesOut = s.lanesOut := rfl
@[simp] theorem setHall_units (s : State) (h : Nat) (f : Hall → Hall) : (setHall s h f).units = s.units := rfl
@[simp] theorem setHall_addr (s : State) (h : Nat) (f : Hall → Hall) : (setHall s h f).addr = s.addr := rfl
@[simp] theorem setHall_records (s : State) (h : Nat) (f : Hall → Hall) : (setHall s h f).records = s.records := rfl
@[simp] theorem setHall_groupCmds (s : State) (h : Nat) (f : Hall → Hall) : (setHall s h f).groupCmds = s.groupCmds := rfl
@[simp] theorem setHall_groupOut (s : State) (h : Nat) (f : Hall → Hall) : (setHall s h f).groupOut = s.groupOut := rfl
@[simp] theorem setHall_tasks (s : State) (h : Nat) (f : Hall → Hall) : (setHall s h f).tasks = s.tasks := rfl
@[simp] theorem setHall_foundation (s : State) (h : Nat) (f : Hall → Hall) : (setHall s h f).foundation = s.foundation := rfl
@[simp] theorem setHall_sram (s : State) (h : Nat) (f : Hall → Hall) : (setHall s h f).sram = s.sram := rfl
@[simp] theorem setHall_seq (s : State) (h : Nat) (f : Hall → Hall) : (setHall s h f).seq = s.seq := rfl
@[simp] theorem setHall_collector (s : State) (h : Nat) (f : Hall → Hall) : (setHall s h f).collector = s.collector := rfl
@[simp] theorem setHall_journal (s : State) (h : Nat) (f : Hall → Hall) : (setHall s h f).journal = s.journal := rfl
@[simp] theorem setHall_suites (s : State) (h : Nat) (f : Hall → Hall) : (setHall s h f).suites = s.suites := rfl
@[simp] theorem setHall_sessions (s : State) (h : Nat) (f : Hall → Hall) : (setHall s h f).sessions = s.sessions := rfl
@[simp] theorem setHall_points (s : State) (h : Nat) (f : Hall → Hall) : (setHall s h f).points = s.points := rfl
@[simp] theorem setHall_values (s : State) (h : Nat) (f : Hall → Hall) : (setHall s h f).values = s.values := rfl
@[simp] theorem setHall_larder (s : State) (h : Nat) (f : Hall → Hall) : (setHall s h f).larder = s.larder := rfl
@[simp] theorem setHall_hearth (s : State) (h : Nat) (f : Hall → Hall) : (setHall s h f).hearth = s.hearth := rfl
@[simp] theorem setHall_cellar (s : State) (h : Nat) (f : Hall → Hall) : (setHall s h f).cellar = s.cellar := rfl
@[simp] theorem setHall_fuses (s : State) (h : Nat) (f : Hall → Hall) : (setHall s h f).fuses = s.fuses := rfl
@[simp] theorem setHall_attic (s : State) (h : Nat) (f : Hall → Hall) : (setHall s h f).attic = s.attic := rfl
@[simp] theorem setHall_sw (s : State) (h : Nat) (f : Hall → Hall) : (setHall s h f).sw = s.sw := rfl
@[simp] theorem setHall_ports (s : State) (h : Nat) (f : Hall → Hall) : (setHall s h f).ports = s.ports := rfl
@[simp] theorem setHall_uplinks (s : State) (h : Nat) (f : Hall → Hall) : (setHall s h f).uplinks = s.uplinks := rfl
@[simp] theorem setHall_hallPairs (s : State) (h : Nat) (f : Hall → Hall) : (setHall s h f).hallPairs = s.hallPairs := rfl
@[simp] theorem setHall_inputs (s : State) (h : Nat) (f : Hall → Hall) : (setHall s h f).inputs = s.inputs := rfl
@[simp] theorem setHall_banks (s : State) (h : Nat) (f : Hall → Hall) : (setHall s h f).banks = s.banks := rfl
@[simp] theorem setHall_outputs (s : State) (h : Nat) (f : Hall → Hall) : (setHall s h f).outputs = s.outputs := rfl
@[simp] theorem setHall_latches (s : State) (h : Nat) (f : Hall → Hall) : (setHall s h f).latches = s.latches := rfl
@[simp] theorem setHall_safeDrives (s : State) (h : Nat) (f : Hall → Hall) : (setHall s h f).safeDrives = s.safeDrives := rfl
@[simp] theorem setHall_meter (s : State) (h : Nat) (f : Hall → Hall) : (setHall s h f).meter = s.meter := rfl
@[simp] theorem setHall_mantel (s : State) (h : Nat) (f : Hall → Hall) : (setHall s h f).mantel = s.mantel := rfl
@[simp] theorem setHall_twin (s : State) (h : Nat) (f : Hall → Hall) : (setHall s h f).twin = s.twin := rfl
@[simp] theorem setHall_updates (s : State) (h : Nat) (f : Hall → Hall) : (setHall s h f).updates = s.updates := rfl
@[simp] theorem setHall_boot (s : State) (h : Nat) (f : Hall → Hall) : (setHall s h f).boot = s.boot := rfl
@[simp] theorem setHall_tap (s : State) (h : Nat) (f : Hall → Hall) : (setHall s h f).tap = s.tap := rfl
@[simp] theorem setHall_tests (s : State) (h : Nat) (f : Hall → Hall) : (setHall s h f).tests = s.tests := rfl

/-! ### setBank -/

@[simp] theorem setBank_pending (s : State) (b : Nat) (f : Bank → Bank) : (setBank s b f).pending = s.pending := rfl
@[simp] theorem setBank_free (s : State) (b : Nat) (f : Bank → Bank) : (setBank s b f).free = s.free := rfl
@[simp] theorem setBank_tick (s : State) (b : Nat) (f : Bank → Bank) : (setBank s b f).tick = s.tick := rfl
@[simp] theorem setBank_clock (s : State) (b : Nat) (f : Bank → Bank) : (setBank s b f).clock = s.clock := rfl
@[simp] theorem setBank_copies (s : State) (b : Nat) (f : Bank → Bank) : (setBank s b f).copies = s.copies := rfl
@[simp] theorem setBank_rooms (s : State) (b : Nat) (f : Bank → Bank) : (setBank s b f).rooms = s.rooms := rfl
@[simp] theorem setBank_links (s : State) (b : Nat) (f : Bank → Bank) : (setBank s b f).links = s.links := rfl
@[simp] theorem setBank_lanesOut (s : State) (b : Nat) (f : Bank → Bank) : (setBank s b f).lanesOut = s.lanesOut := rfl
@[simp] theorem setBank_units (s : State) (b : Nat) (f : Bank → Bank) : (setBank s b f).units = s.units := rfl
@[simp] theorem setBank_addr (s : State) (b : Nat) (f : Bank → Bank) : (setBank s b f).addr = s.addr := rfl
@[simp] theorem setBank_records (s : State) (b : Nat) (f : Bank → Bank) : (setBank s b f).records = s.records := rfl
@[simp] theorem setBank_groupCmds (s : State) (b : Nat) (f : Bank → Bank) : (setBank s b f).groupCmds = s.groupCmds := rfl
@[simp] theorem setBank_groupOut (s : State) (b : Nat) (f : Bank → Bank) : (setBank s b f).groupOut = s.groupOut := rfl
@[simp] theorem setBank_tasks (s : State) (b : Nat) (f : Bank → Bank) : (setBank s b f).tasks = s.tasks := rfl
@[simp] theorem setBank_foundation (s : State) (b : Nat) (f : Bank → Bank) : (setBank s b f).foundation = s.foundation := rfl
@[simp] theorem setBank_sram (s : State) (b : Nat) (f : Bank → Bank) : (setBank s b f).sram = s.sram := rfl
@[simp] theorem setBank_seq (s : State) (b : Nat) (f : Bank → Bank) : (setBank s b f).seq = s.seq := rfl
@[simp] theorem setBank_collector (s : State) (b : Nat) (f : Bank → Bank) : (setBank s b f).collector = s.collector := rfl
@[simp] theorem setBank_journal (s : State) (b : Nat) (f : Bank → Bank) : (setBank s b f).journal = s.journal := rfl
@[simp] theorem setBank_suites (s : State) (b : Nat) (f : Bank → Bank) : (setBank s b f).suites = s.suites := rfl
@[simp] theorem setBank_sessions (s : State) (b : Nat) (f : Bank → Bank) : (setBank s b f).sessions = s.sessions := rfl
@[simp] theorem setBank_points (s : State) (b : Nat) (f : Bank → Bank) : (setBank s b f).points = s.points := rfl
@[simp] theorem setBank_values (s : State) (b : Nat) (f : Bank → Bank) : (setBank s b f).values = s.values := rfl
@[simp] theorem setBank_larder (s : State) (b : Nat) (f : Bank → Bank) : (setBank s b f).larder = s.larder := rfl
@[simp] theorem setBank_hearth (s : State) (b : Nat) (f : Bank → Bank) : (setBank s b f).hearth = s.hearth := rfl
@[simp] theorem setBank_cellar (s : State) (b : Nat) (f : Bank → Bank) : (setBank s b f).cellar = s.cellar := rfl
@[simp] theorem setBank_fuses (s : State) (b : Nat) (f : Bank → Bank) : (setBank s b f).fuses = s.fuses := rfl
@[simp] theorem setBank_attic (s : State) (b : Nat) (f : Bank → Bank) : (setBank s b f).attic = s.attic := rfl
@[simp] theorem setBank_sw (s : State) (b : Nat) (f : Bank → Bank) : (setBank s b f).sw = s.sw := rfl
@[simp] theorem setBank_ports (s : State) (b : Nat) (f : Bank → Bank) : (setBank s b f).ports = s.ports := rfl
@[simp] theorem setBank_uplinks (s : State) (b : Nat) (f : Bank → Bank) : (setBank s b f).uplinks = s.uplinks := rfl
@[simp] theorem setBank_halls (s : State) (b : Nat) (f : Bank → Bank) : (setBank s b f).halls = s.halls := rfl
@[simp] theorem setBank_hallPairs (s : State) (b : Nat) (f : Bank → Bank) : (setBank s b f).hallPairs = s.hallPairs := rfl
@[simp] theorem setBank_inputs (s : State) (b : Nat) (f : Bank → Bank) : (setBank s b f).inputs = s.inputs := rfl
@[simp] theorem setBank_outputs (s : State) (b : Nat) (f : Bank → Bank) : (setBank s b f).outputs = s.outputs := rfl
@[simp] theorem setBank_latches (s : State) (b : Nat) (f : Bank → Bank) : (setBank s b f).latches = s.latches := rfl
@[simp] theorem setBank_safeDrives (s : State) (b : Nat) (f : Bank → Bank) : (setBank s b f).safeDrives = s.safeDrives := rfl
@[simp] theorem setBank_meter (s : State) (b : Nat) (f : Bank → Bank) : (setBank s b f).meter = s.meter := rfl
@[simp] theorem setBank_mantel (s : State) (b : Nat) (f : Bank → Bank) : (setBank s b f).mantel = s.mantel := rfl
@[simp] theorem setBank_twin (s : State) (b : Nat) (f : Bank → Bank) : (setBank s b f).twin = s.twin := rfl
@[simp] theorem setBank_updates (s : State) (b : Nat) (f : Bank → Bank) : (setBank s b f).updates = s.updates := rfl
@[simp] theorem setBank_boot (s : State) (b : Nat) (f : Bank → Bank) : (setBank s b f).boot = s.boot := rfl
@[simp] theorem setBank_tap (s : State) (b : Nat) (f : Bank → Bank) : (setBank s b f).tap = s.tap := rfl
@[simp] theorem setBank_tests (s : State) (b : Nat) (f : Bank → Bank) : (setBank s b f).tests = s.tests := rfl

/-! ### setOutput -/

@[simp] theorem setOutput_pending (s : State) (n : Nat) (f : Output → Output) : (setOutput s n f).pending = s.pending := rfl
@[simp] theorem setOutput_free (s : State) (n : Nat) (f : Output → Output) : (setOutput s n f).free = s.free := rfl
@[simp] theorem setOutput_tick (s : State) (n : Nat) (f : Output → Output) : (setOutput s n f).tick = s.tick := rfl
@[simp] theorem setOutput_clock (s : State) (n : Nat) (f : Output → Output) : (setOutput s n f).clock = s.clock := rfl
@[simp] theorem setOutput_copies (s : State) (n : Nat) (f : Output → Output) : (setOutput s n f).copies = s.copies := rfl
@[simp] theorem setOutput_rooms (s : State) (n : Nat) (f : Output → Output) : (setOutput s n f).rooms = s.rooms := rfl
@[simp] theorem setOutput_links (s : State) (n : Nat) (f : Output → Output) : (setOutput s n f).links = s.links := rfl
@[simp] theorem setOutput_lanesOut (s : State) (n : Nat) (f : Output → Output) : (setOutput s n f).lanesOut = s.lanesOut := rfl
@[simp] theorem setOutput_units (s : State) (n : Nat) (f : Output → Output) : (setOutput s n f).units = s.units := rfl
@[simp] theorem setOutput_addr (s : State) (n : Nat) (f : Output → Output) : (setOutput s n f).addr = s.addr := rfl
@[simp] theorem setOutput_records (s : State) (n : Nat) (f : Output → Output) : (setOutput s n f).records = s.records := rfl
@[simp] theorem setOutput_groupCmds (s : State) (n : Nat) (f : Output → Output) : (setOutput s n f).groupCmds = s.groupCmds := rfl
@[simp] theorem setOutput_groupOut (s : State) (n : Nat) (f : Output → Output) : (setOutput s n f).groupOut = s.groupOut := rfl
@[simp] theorem setOutput_tasks (s : State) (n : Nat) (f : Output → Output) : (setOutput s n f).tasks = s.tasks := rfl
@[simp] theorem setOutput_foundation (s : State) (n : Nat) (f : Output → Output) : (setOutput s n f).foundation = s.foundation := rfl
@[simp] theorem setOutput_sram (s : State) (n : Nat) (f : Output → Output) : (setOutput s n f).sram = s.sram := rfl
@[simp] theorem setOutput_seq (s : State) (n : Nat) (f : Output → Output) : (setOutput s n f).seq = s.seq := rfl
@[simp] theorem setOutput_collector (s : State) (n : Nat) (f : Output → Output) : (setOutput s n f).collector = s.collector := rfl
@[simp] theorem setOutput_journal (s : State) (n : Nat) (f : Output → Output) : (setOutput s n f).journal = s.journal := rfl
@[simp] theorem setOutput_suites (s : State) (n : Nat) (f : Output → Output) : (setOutput s n f).suites = s.suites := rfl
@[simp] theorem setOutput_sessions (s : State) (n : Nat) (f : Output → Output) : (setOutput s n f).sessions = s.sessions := rfl
@[simp] theorem setOutput_points (s : State) (n : Nat) (f : Output → Output) : (setOutput s n f).points = s.points := rfl
@[simp] theorem setOutput_values (s : State) (n : Nat) (f : Output → Output) : (setOutput s n f).values = s.values := rfl
@[simp] theorem setOutput_larder (s : State) (n : Nat) (f : Output → Output) : (setOutput s n f).larder = s.larder := rfl
@[simp] theorem setOutput_hearth (s : State) (n : Nat) (f : Output → Output) : (setOutput s n f).hearth = s.hearth := rfl
@[simp] theorem setOutput_cellar (s : State) (n : Nat) (f : Output → Output) : (setOutput s n f).cellar = s.cellar := rfl
@[simp] theorem setOutput_fuses (s : State) (n : Nat) (f : Output → Output) : (setOutput s n f).fuses = s.fuses := rfl
@[simp] theorem setOutput_attic (s : State) (n : Nat) (f : Output → Output) : (setOutput s n f).attic = s.attic := rfl
@[simp] theorem setOutput_sw (s : State) (n : Nat) (f : Output → Output) : (setOutput s n f).sw = s.sw := rfl
@[simp] theorem setOutput_ports (s : State) (n : Nat) (f : Output → Output) : (setOutput s n f).ports = s.ports := rfl
@[simp] theorem setOutput_uplinks (s : State) (n : Nat) (f : Output → Output) : (setOutput s n f).uplinks = s.uplinks := rfl
@[simp] theorem setOutput_halls (s : State) (n : Nat) (f : Output → Output) : (setOutput s n f).halls = s.halls := rfl
@[simp] theorem setOutput_hallPairs (s : State) (n : Nat) (f : Output → Output) : (setOutput s n f).hallPairs = s.hallPairs := rfl
@[simp] theorem setOutput_inputs (s : State) (n : Nat) (f : Output → Output) : (setOutput s n f).inputs = s.inputs := rfl
@[simp] theorem setOutput_banks (s : State) (n : Nat) (f : Output → Output) : (setOutput s n f).banks = s.banks := rfl
@[simp] theorem setOutput_latches (s : State) (n : Nat) (f : Output → Output) : (setOutput s n f).latches = s.latches := rfl
@[simp] theorem setOutput_safeDrives (s : State) (n : Nat) (f : Output → Output) : (setOutput s n f).safeDrives = s.safeDrives := rfl
@[simp] theorem setOutput_meter (s : State) (n : Nat) (f : Output → Output) : (setOutput s n f).meter = s.meter := rfl
@[simp] theorem setOutput_mantel (s : State) (n : Nat) (f : Output → Output) : (setOutput s n f).mantel = s.mantel := rfl
@[simp] theorem setOutput_twin (s : State) (n : Nat) (f : Output → Output) : (setOutput s n f).twin = s.twin := rfl
@[simp] theorem setOutput_updates (s : State) (n : Nat) (f : Output → Output) : (setOutput s n f).updates = s.updates := rfl
@[simp] theorem setOutput_boot (s : State) (n : Nat) (f : Output → Output) : (setOutput s n f).boot = s.boot := rfl
@[simp] theorem setOutput_tap (s : State) (n : Nat) (f : Output → Output) : (setOutput s n f).tap = s.tap := rfl
@[simp] theorem setOutput_tests (s : State) (n : Nat) (f : Output → Output) : (setOutput s n f).tests = s.tests := rfl

/-! ### setMantel -/

@[simp] theorem setMantel_pending (s : State) (f : Mantel → Mantel) : (setMantel s f).pending = s.pending := rfl
@[simp] theorem setMantel_free (s : State) (f : Mantel → Mantel) : (setMantel s f).free = s.free := rfl
@[simp] theorem setMantel_tick (s : State) (f : Mantel → Mantel) : (setMantel s f).tick = s.tick := rfl
@[simp] theorem setMantel_clock (s : State) (f : Mantel → Mantel) : (setMantel s f).clock = s.clock := rfl
@[simp] theorem setMantel_copies (s : State) (f : Mantel → Mantel) : (setMantel s f).copies = s.copies := rfl
@[simp] theorem setMantel_rooms (s : State) (f : Mantel → Mantel) : (setMantel s f).rooms = s.rooms := rfl
@[simp] theorem setMantel_links (s : State) (f : Mantel → Mantel) : (setMantel s f).links = s.links := rfl
@[simp] theorem setMantel_lanesOut (s : State) (f : Mantel → Mantel) : (setMantel s f).lanesOut = s.lanesOut := rfl
@[simp] theorem setMantel_units (s : State) (f : Mantel → Mantel) : (setMantel s f).units = s.units := rfl
@[simp] theorem setMantel_addr (s : State) (f : Mantel → Mantel) : (setMantel s f).addr = s.addr := rfl
@[simp] theorem setMantel_records (s : State) (f : Mantel → Mantel) : (setMantel s f).records = s.records := rfl
@[simp] theorem setMantel_groupCmds (s : State) (f : Mantel → Mantel) : (setMantel s f).groupCmds = s.groupCmds := rfl
@[simp] theorem setMantel_groupOut (s : State) (f : Mantel → Mantel) : (setMantel s f).groupOut = s.groupOut := rfl
@[simp] theorem setMantel_tasks (s : State) (f : Mantel → Mantel) : (setMantel s f).tasks = s.tasks := rfl
@[simp] theorem setMantel_foundation (s : State) (f : Mantel → Mantel) : (setMantel s f).foundation = s.foundation := rfl
@[simp] theorem setMantel_sram (s : State) (f : Mantel → Mantel) : (setMantel s f).sram = s.sram := rfl
@[simp] theorem setMantel_seq (s : State) (f : Mantel → Mantel) : (setMantel s f).seq = s.seq := rfl
@[simp] theorem setMantel_collector (s : State) (f : Mantel → Mantel) : (setMantel s f).collector = s.collector := rfl
@[simp] theorem setMantel_journal (s : State) (f : Mantel → Mantel) : (setMantel s f).journal = s.journal := rfl
@[simp] theorem setMantel_suites (s : State) (f : Mantel → Mantel) : (setMantel s f).suites = s.suites := rfl
@[simp] theorem setMantel_sessions (s : State) (f : Mantel → Mantel) : (setMantel s f).sessions = s.sessions := rfl
@[simp] theorem setMantel_points (s : State) (f : Mantel → Mantel) : (setMantel s f).points = s.points := rfl
@[simp] theorem setMantel_values (s : State) (f : Mantel → Mantel) : (setMantel s f).values = s.values := rfl
@[simp] theorem setMantel_larder (s : State) (f : Mantel → Mantel) : (setMantel s f).larder = s.larder := rfl
@[simp] theorem setMantel_hearth (s : State) (f : Mantel → Mantel) : (setMantel s f).hearth = s.hearth := rfl
@[simp] theorem setMantel_cellar (s : State) (f : Mantel → Mantel) : (setMantel s f).cellar = s.cellar := rfl
@[simp] theorem setMantel_fuses (s : State) (f : Mantel → Mantel) : (setMantel s f).fuses = s.fuses := rfl
@[simp] theorem setMantel_attic (s : State) (f : Mantel → Mantel) : (setMantel s f).attic = s.attic := rfl
@[simp] theorem setMantel_sw (s : State) (f : Mantel → Mantel) : (setMantel s f).sw = s.sw := rfl
@[simp] theorem setMantel_ports (s : State) (f : Mantel → Mantel) : (setMantel s f).ports = s.ports := rfl
@[simp] theorem setMantel_uplinks (s : State) (f : Mantel → Mantel) : (setMantel s f).uplinks = s.uplinks := rfl
@[simp] theorem setMantel_halls (s : State) (f : Mantel → Mantel) : (setMantel s f).halls = s.halls := rfl
@[simp] theorem setMantel_hallPairs (s : State) (f : Mantel → Mantel) : (setMantel s f).hallPairs = s.hallPairs := rfl
@[simp] theorem setMantel_inputs (s : State) (f : Mantel → Mantel) : (setMantel s f).inputs = s.inputs := rfl
@[simp] theorem setMantel_banks (s : State) (f : Mantel → Mantel) : (setMantel s f).banks = s.banks := rfl
@[simp] theorem setMantel_outputs (s : State) (f : Mantel → Mantel) : (setMantel s f).outputs = s.outputs := rfl
@[simp] theorem setMantel_latches (s : State) (f : Mantel → Mantel) : (setMantel s f).latches = s.latches := rfl
@[simp] theorem setMantel_safeDrives (s : State) (f : Mantel → Mantel) : (setMantel s f).safeDrives = s.safeDrives := rfl
@[simp] theorem setMantel_meter (s : State) (f : Mantel → Mantel) : (setMantel s f).meter = s.meter := rfl
@[simp] theorem setMantel_twin (s : State) (f : Mantel → Mantel) : (setMantel s f).twin = s.twin := rfl
@[simp] theorem setMantel_updates (s : State) (f : Mantel → Mantel) : (setMantel s f).updates = s.updates := rfl
@[simp] theorem setMantel_boot (s : State) (f : Mantel → Mantel) : (setMantel s f).boot = s.boot := rfl
@[simp] theorem setMantel_tap (s : State) (f : Mantel → Mantel) : (setMantel s f).tap = s.tap := rfl
@[simp] theorem setMantel_tests (s : State) (f : Mantel → Mantel) : (setMantel s f).tests = s.tests := rfl

/-! ### setTwin -/

@[simp] theorem setTwin_pending (s : State) (f : Twin → Twin) : (setTwin s f).pending = s.pending := rfl
@[simp] theorem setTwin_free (s : State) (f : Twin → Twin) : (setTwin s f).free = s.free := rfl
@[simp] theorem setTwin_tick (s : State) (f : Twin → Twin) : (setTwin s f).tick = s.tick := rfl
@[simp] theorem setTwin_clock (s : State) (f : Twin → Twin) : (setTwin s f).clock = s.clock := rfl
@[simp] theorem setTwin_copies (s : State) (f : Twin → Twin) : (setTwin s f).copies = s.copies := rfl
@[simp] theorem setTwin_rooms (s : State) (f : Twin → Twin) : (setTwin s f).rooms = s.rooms := rfl
@[simp] theorem setTwin_links (s : State) (f : Twin → Twin) : (setTwin s f).links = s.links := rfl
@[simp] theorem setTwin_lanesOut (s : State) (f : Twin → Twin) : (setTwin s f).lanesOut = s.lanesOut := rfl
@[simp] theorem setTwin_units (s : State) (f : Twin → Twin) : (setTwin s f).units = s.units := rfl
@[simp] theorem setTwin_addr (s : State) (f : Twin → Twin) : (setTwin s f).addr = s.addr := rfl
@[simp] theorem setTwin_records (s : State) (f : Twin → Twin) : (setTwin s f).records = s.records := rfl
@[simp] theorem setTwin_groupCmds (s : State) (f : Twin → Twin) : (setTwin s f).groupCmds = s.groupCmds := rfl
@[simp] theorem setTwin_groupOut (s : State) (f : Twin → Twin) : (setTwin s f).groupOut = s.groupOut := rfl
@[simp] theorem setTwin_tasks (s : State) (f : Twin → Twin) : (setTwin s f).tasks = s.tasks := rfl
@[simp] theorem setTwin_foundation (s : State) (f : Twin → Twin) : (setTwin s f).foundation = s.foundation := rfl
@[simp] theorem setTwin_sram (s : State) (f : Twin → Twin) : (setTwin s f).sram = s.sram := rfl
@[simp] theorem setTwin_seq (s : State) (f : Twin → Twin) : (setTwin s f).seq = s.seq := rfl
@[simp] theorem setTwin_collector (s : State) (f : Twin → Twin) : (setTwin s f).collector = s.collector := rfl
@[simp] theorem setTwin_journal (s : State) (f : Twin → Twin) : (setTwin s f).journal = s.journal := rfl
@[simp] theorem setTwin_suites (s : State) (f : Twin → Twin) : (setTwin s f).suites = s.suites := rfl
@[simp] theorem setTwin_sessions (s : State) (f : Twin → Twin) : (setTwin s f).sessions = s.sessions := rfl
@[simp] theorem setTwin_points (s : State) (f : Twin → Twin) : (setTwin s f).points = s.points := rfl
@[simp] theorem setTwin_values (s : State) (f : Twin → Twin) : (setTwin s f).values = s.values := rfl
@[simp] theorem setTwin_larder (s : State) (f : Twin → Twin) : (setTwin s f).larder = s.larder := rfl
@[simp] theorem setTwin_hearth (s : State) (f : Twin → Twin) : (setTwin s f).hearth = s.hearth := rfl
@[simp] theorem setTwin_cellar (s : State) (f : Twin → Twin) : (setTwin s f).cellar = s.cellar := rfl
@[simp] theorem setTwin_fuses (s : State) (f : Twin → Twin) : (setTwin s f).fuses = s.fuses := rfl
@[simp] theorem setTwin_attic (s : State) (f : Twin → Twin) : (setTwin s f).attic = s.attic := rfl
@[simp] theorem setTwin_sw (s : State) (f : Twin → Twin) : (setTwin s f).sw = s.sw := rfl
@[simp] theorem setTwin_ports (s : State) (f : Twin → Twin) : (setTwin s f).ports = s.ports := rfl
@[simp] theorem setTwin_uplinks (s : State) (f : Twin → Twin) : (setTwin s f).uplinks = s.uplinks := rfl
@[simp] theorem setTwin_halls (s : State) (f : Twin → Twin) : (setTwin s f).halls = s.halls := rfl
@[simp] theorem setTwin_hallPairs (s : State) (f : Twin → Twin) : (setTwin s f).hallPairs = s.hallPairs := rfl
@[simp] theorem setTwin_inputs (s : State) (f : Twin → Twin) : (setTwin s f).inputs = s.inputs := rfl
@[simp] theorem setTwin_banks (s : State) (f : Twin → Twin) : (setTwin s f).banks = s.banks := rfl
@[simp] theorem setTwin_outputs (s : State) (f : Twin → Twin) : (setTwin s f).outputs = s.outputs := rfl
@[simp] theorem setTwin_latches (s : State) (f : Twin → Twin) : (setTwin s f).latches = s.latches := rfl
@[simp] theorem setTwin_safeDrives (s : State) (f : Twin → Twin) : (setTwin s f).safeDrives = s.safeDrives := rfl
@[simp] theorem setTwin_meter (s : State) (f : Twin → Twin) : (setTwin s f).meter = s.meter := rfl
@[simp] theorem setTwin_mantel (s : State) (f : Twin → Twin) : (setTwin s f).mantel = s.mantel := rfl
@[simp] theorem setTwin_updates (s : State) (f : Twin → Twin) : (setTwin s f).updates = s.updates := rfl
@[simp] theorem setTwin_boot (s : State) (f : Twin → Twin) : (setTwin s f).boot = s.boot := rfl
@[simp] theorem setTwin_tap (s : State) (f : Twin → Twin) : (setTwin s f).tap = s.tap := rfl
@[simp] theorem setTwin_tests (s : State) (f : Twin → Twin) : (setTwin s f).tests = s.tests := rfl

/-! ### setQueue -/

@[simp] theorem setQueue_pending (s : State) (q : Nat) (f : Queue → Queue) : (setQueue s q f).pending = s.pending := rfl
@[simp] theorem setQueue_free (s : State) (q : Nat) (f : Queue → Queue) : (setQueue s q f).free = s.free := rfl
@[simp] theorem setQueue_tick (s : State) (q : Nat) (f : Queue → Queue) : (setQueue s q f).tick = s.tick := rfl
@[simp] theorem setQueue_clock (s : State) (q : Nat) (f : Queue → Queue) : (setQueue s q f).clock = s.clock := rfl
@[simp] theorem setQueue_copies (s : State) (q : Nat) (f : Queue → Queue) : (setQueue s q f).copies = s.copies := rfl
@[simp] theorem setQueue_rooms (s : State) (q : Nat) (f : Queue → Queue) : (setQueue s q f).rooms = s.rooms := rfl
@[simp] theorem setQueue_links (s : State) (q : Nat) (f : Queue → Queue) : (setQueue s q f).links = s.links := rfl
@[simp] theorem setQueue_lanesOut (s : State) (q : Nat) (f : Queue → Queue) : (setQueue s q f).lanesOut = s.lanesOut := rfl
@[simp] theorem setQueue_units (s : State) (q : Nat) (f : Queue → Queue) : (setQueue s q f).units = s.units := rfl
@[simp] theorem setQueue_addr (s : State) (q : Nat) (f : Queue → Queue) : (setQueue s q f).addr = s.addr := rfl
@[simp] theorem setQueue_records (s : State) (q : Nat) (f : Queue → Queue) : (setQueue s q f).records = s.records := rfl
@[simp] theorem setQueue_groupCmds (s : State) (q : Nat) (f : Queue → Queue) : (setQueue s q f).groupCmds = s.groupCmds := rfl
@[simp] theorem setQueue_groupOut (s : State) (q : Nat) (f : Queue → Queue) : (setQueue s q f).groupOut = s.groupOut := rfl
@[simp] theorem setQueue_tasks (s : State) (q : Nat) (f : Queue → Queue) : (setQueue s q f).tasks = s.tasks := rfl
@[simp] theorem setQueue_foundation (s : State) (q : Nat) (f : Queue → Queue) : (setQueue s q f).foundation = s.foundation := rfl
@[simp] theorem setQueue_sram (s : State) (q : Nat) (f : Queue → Queue) : (setQueue s q f).sram = s.sram := rfl
@[simp] theorem setQueue_seq (s : State) (q : Nat) (f : Queue → Queue) : (setQueue s q f).seq = s.seq := rfl
@[simp] theorem setQueue_collector (s : State) (q : Nat) (f : Queue → Queue) : (setQueue s q f).collector = s.collector := rfl
@[simp] theorem setQueue_journal (s : State) (q : Nat) (f : Queue → Queue) : (setQueue s q f).journal = s.journal := rfl
@[simp] theorem setQueue_suites (s : State) (q : Nat) (f : Queue → Queue) : (setQueue s q f).suites = s.suites := rfl
@[simp] theorem setQueue_sessions (s : State) (q : Nat) (f : Queue → Queue) : (setQueue s q f).sessions = s.sessions := rfl
@[simp] theorem setQueue_points (s : State) (q : Nat) (f : Queue → Queue) : (setQueue s q f).points = s.points := rfl
@[simp] theorem setQueue_values (s : State) (q : Nat) (f : Queue → Queue) : (setQueue s q f).values = s.values := rfl
@[simp] theorem setQueue_hearth (s : State) (q : Nat) (f : Queue → Queue) : (setQueue s q f).hearth = s.hearth := rfl
@[simp] theorem setQueue_cellar (s : State) (q : Nat) (f : Queue → Queue) : (setQueue s q f).cellar = s.cellar := rfl
@[simp] theorem setQueue_fuses (s : State) (q : Nat) (f : Queue → Queue) : (setQueue s q f).fuses = s.fuses := rfl
@[simp] theorem setQueue_attic (s : State) (q : Nat) (f : Queue → Queue) : (setQueue s q f).attic = s.attic := rfl
@[simp] theorem setQueue_sw (s : State) (q : Nat) (f : Queue → Queue) : (setQueue s q f).sw = s.sw := rfl
@[simp] theorem setQueue_ports (s : State) (q : Nat) (f : Queue → Queue) : (setQueue s q f).ports = s.ports := rfl
@[simp] theorem setQueue_uplinks (s : State) (q : Nat) (f : Queue → Queue) : (setQueue s q f).uplinks = s.uplinks := rfl
@[simp] theorem setQueue_halls (s : State) (q : Nat) (f : Queue → Queue) : (setQueue s q f).halls = s.halls := rfl
@[simp] theorem setQueue_hallPairs (s : State) (q : Nat) (f : Queue → Queue) : (setQueue s q f).hallPairs = s.hallPairs := rfl
@[simp] theorem setQueue_inputs (s : State) (q : Nat) (f : Queue → Queue) : (setQueue s q f).inputs = s.inputs := rfl
@[simp] theorem setQueue_banks (s : State) (q : Nat) (f : Queue → Queue) : (setQueue s q f).banks = s.banks := rfl
@[simp] theorem setQueue_outputs (s : State) (q : Nat) (f : Queue → Queue) : (setQueue s q f).outputs = s.outputs := rfl
@[simp] theorem setQueue_latches (s : State) (q : Nat) (f : Queue → Queue) : (setQueue s q f).latches = s.latches := rfl
@[simp] theorem setQueue_safeDrives (s : State) (q : Nat) (f : Queue → Queue) : (setQueue s q f).safeDrives = s.safeDrives := rfl
@[simp] theorem setQueue_meter (s : State) (q : Nat) (f : Queue → Queue) : (setQueue s q f).meter = s.meter := rfl
@[simp] theorem setQueue_mantel (s : State) (q : Nat) (f : Queue → Queue) : (setQueue s q f).mantel = s.mantel := rfl
@[simp] theorem setQueue_twin (s : State) (q : Nat) (f : Queue → Queue) : (setQueue s q f).twin = s.twin := rfl
@[simp] theorem setQueue_updates (s : State) (q : Nat) (f : Queue → Queue) : (setQueue s q f).updates = s.updates := rfl
@[simp] theorem setQueue_boot (s : State) (q : Nat) (f : Queue → Queue) : (setQueue s q f).boot = s.boot := rfl
@[simp] theorem setQueue_tap (s : State) (q : Nat) (f : Queue → Queue) : (setQueue s q f).tap = s.tap := rfl
@[simp] theorem setQueue_tests (s : State) (q : Nat) (f : Queue → Queue) : (setQueue s q f).tests = s.tests := rfl

/-! ### setSlot -/

@[simp] theorem setSlot_pending (s : State) (n : Nat) (f : Slot → Slot) : (setSlot s n f).pending = s.pending := rfl
@[simp] theorem setSlot_free (s : State) (n : Nat) (f : Slot → Slot) : (setSlot s n f).free = s.free := rfl
@[simp] theorem setSlot_tick (s : State) (n : Nat) (f : Slot → Slot) : (setSlot s n f).tick = s.tick := rfl
@[simp] theorem setSlot_clock (s : State) (n : Nat) (f : Slot → Slot) : (setSlot s n f).clock = s.clock := rfl
@[simp] theorem setSlot_copies (s : State) (n : Nat) (f : Slot → Slot) : (setSlot s n f).copies = s.copies := rfl
@[simp] theorem setSlot_rooms (s : State) (n : Nat) (f : Slot → Slot) : (setSlot s n f).rooms = s.rooms := rfl
@[simp] theorem setSlot_links (s : State) (n : Nat) (f : Slot → Slot) : (setSlot s n f).links = s.links := rfl
@[simp] theorem setSlot_lanesOut (s : State) (n : Nat) (f : Slot → Slot) : (setSlot s n f).lanesOut = s.lanesOut := rfl
@[simp] theorem setSlot_units (s : State) (n : Nat) (f : Slot → Slot) : (setSlot s n f).units = s.units := rfl
@[simp] theorem setSlot_addr (s : State) (n : Nat) (f : Slot → Slot) : (setSlot s n f).addr = s.addr := rfl
@[simp] theorem setSlot_records (s : State) (n : Nat) (f : Slot → Slot) : (setSlot s n f).records = s.records := rfl
@[simp] theorem setSlot_groupCmds (s : State) (n : Nat) (f : Slot → Slot) : (setSlot s n f).groupCmds = s.groupCmds := rfl
@[simp] theorem setSlot_groupOut (s : State) (n : Nat) (f : Slot → Slot) : (setSlot s n f).groupOut = s.groupOut := rfl
@[simp] theorem setSlot_tasks (s : State) (n : Nat) (f : Slot → Slot) : (setSlot s n f).tasks = s.tasks := rfl
@[simp] theorem setSlot_foundation (s : State) (n : Nat) (f : Slot → Slot) : (setSlot s n f).foundation = s.foundation := rfl
@[simp] theorem setSlot_sram (s : State) (n : Nat) (f : Slot → Slot) : (setSlot s n f).sram = s.sram := rfl
@[simp] theorem setSlot_seq (s : State) (n : Nat) (f : Slot → Slot) : (setSlot s n f).seq = s.seq := rfl
@[simp] theorem setSlot_collector (s : State) (n : Nat) (f : Slot → Slot) : (setSlot s n f).collector = s.collector := rfl
@[simp] theorem setSlot_journal (s : State) (n : Nat) (f : Slot → Slot) : (setSlot s n f).journal = s.journal := rfl
@[simp] theorem setSlot_suites (s : State) (n : Nat) (f : Slot → Slot) : (setSlot s n f).suites = s.suites := rfl
@[simp] theorem setSlot_sessions (s : State) (n : Nat) (f : Slot → Slot) : (setSlot s n f).sessions = s.sessions := rfl
@[simp] theorem setSlot_points (s : State) (n : Nat) (f : Slot → Slot) : (setSlot s n f).points = s.points := rfl
@[simp] theorem setSlot_values (s : State) (n : Nat) (f : Slot → Slot) : (setSlot s n f).values = s.values := rfl
@[simp] theorem setSlot_larder (s : State) (n : Nat) (f : Slot → Slot) : (setSlot s n f).larder = s.larder := rfl
@[simp] theorem setSlot_cellar (s : State) (n : Nat) (f : Slot → Slot) : (setSlot s n f).cellar = s.cellar := rfl
@[simp] theorem setSlot_fuses (s : State) (n : Nat) (f : Slot → Slot) : (setSlot s n f).fuses = s.fuses := rfl
@[simp] theorem setSlot_attic (s : State) (n : Nat) (f : Slot → Slot) : (setSlot s n f).attic = s.attic := rfl
@[simp] theorem setSlot_sw (s : State) (n : Nat) (f : Slot → Slot) : (setSlot s n f).sw = s.sw := rfl
@[simp] theorem setSlot_ports (s : State) (n : Nat) (f : Slot → Slot) : (setSlot s n f).ports = s.ports := rfl
@[simp] theorem setSlot_uplinks (s : State) (n : Nat) (f : Slot → Slot) : (setSlot s n f).uplinks = s.uplinks := rfl
@[simp] theorem setSlot_halls (s : State) (n : Nat) (f : Slot → Slot) : (setSlot s n f).halls = s.halls := rfl
@[simp] theorem setSlot_hallPairs (s : State) (n : Nat) (f : Slot → Slot) : (setSlot s n f).hallPairs = s.hallPairs := rfl
@[simp] theorem setSlot_inputs (s : State) (n : Nat) (f : Slot → Slot) : (setSlot s n f).inputs = s.inputs := rfl
@[simp] theorem setSlot_banks (s : State) (n : Nat) (f : Slot → Slot) : (setSlot s n f).banks = s.banks := rfl
@[simp] theorem setSlot_outputs (s : State) (n : Nat) (f : Slot → Slot) : (setSlot s n f).outputs = s.outputs := rfl
@[simp] theorem setSlot_latches (s : State) (n : Nat) (f : Slot → Slot) : (setSlot s n f).latches = s.latches := rfl
@[simp] theorem setSlot_safeDrives (s : State) (n : Nat) (f : Slot → Slot) : (setSlot s n f).safeDrives = s.safeDrives := rfl
@[simp] theorem setSlot_meter (s : State) (n : Nat) (f : Slot → Slot) : (setSlot s n f).meter = s.meter := rfl
@[simp] theorem setSlot_mantel (s : State) (n : Nat) (f : Slot → Slot) : (setSlot s n f).mantel = s.mantel := rfl
@[simp] theorem setSlot_twin (s : State) (n : Nat) (f : Slot → Slot) : (setSlot s n f).twin = s.twin := rfl
@[simp] theorem setSlot_updates (s : State) (n : Nat) (f : Slot → Slot) : (setSlot s n f).updates = s.updates := rfl
@[simp] theorem setSlot_boot (s : State) (n : Nat) (f : Slot → Slot) : (setSlot s n f).boot = s.boot := rfl
@[simp] theorem setSlot_tap (s : State) (n : Nat) (f : Slot → Slot) : (setSlot s n f).tap = s.tap := rfl
@[simp] theorem setSlot_tests (s : State) (n : Nat) (f : Slot → Slot) : (setSlot s n f).tests = s.tests := rfl

/-! ### setKey -/

@[simp] theorem setKey_pending (s : State) (n : Nat) (f : Key → Key) : (setKey s n f).pending = s.pending := rfl
@[simp] theorem setKey_free (s : State) (n : Nat) (f : Key → Key) : (setKey s n f).free = s.free := rfl
@[simp] theorem setKey_tick (s : State) (n : Nat) (f : Key → Key) : (setKey s n f).tick = s.tick := rfl
@[simp] theorem setKey_clock (s : State) (n : Nat) (f : Key → Key) : (setKey s n f).clock = s.clock := rfl
@[simp] theorem setKey_copies (s : State) (n : Nat) (f : Key → Key) : (setKey s n f).copies = s.copies := rfl
@[simp] theorem setKey_rooms (s : State) (n : Nat) (f : Key → Key) : (setKey s n f).rooms = s.rooms := rfl
@[simp] theorem setKey_links (s : State) (n : Nat) (f : Key → Key) : (setKey s n f).links = s.links := rfl
@[simp] theorem setKey_lanesOut (s : State) (n : Nat) (f : Key → Key) : (setKey s n f).lanesOut = s.lanesOut := rfl
@[simp] theorem setKey_units (s : State) (n : Nat) (f : Key → Key) : (setKey s n f).units = s.units := rfl
@[simp] theorem setKey_addr (s : State) (n : Nat) (f : Key → Key) : (setKey s n f).addr = s.addr := rfl
@[simp] theorem setKey_records (s : State) (n : Nat) (f : Key → Key) : (setKey s n f).records = s.records := rfl
@[simp] theorem setKey_groupCmds (s : State) (n : Nat) (f : Key → Key) : (setKey s n f).groupCmds = s.groupCmds := rfl
@[simp] theorem setKey_groupOut (s : State) (n : Nat) (f : Key → Key) : (setKey s n f).groupOut = s.groupOut := rfl
@[simp] theorem setKey_tasks (s : State) (n : Nat) (f : Key → Key) : (setKey s n f).tasks = s.tasks := rfl
@[simp] theorem setKey_foundation (s : State) (n : Nat) (f : Key → Key) : (setKey s n f).foundation = s.foundation := rfl
@[simp] theorem setKey_sram (s : State) (n : Nat) (f : Key → Key) : (setKey s n f).sram = s.sram := rfl
@[simp] theorem setKey_seq (s : State) (n : Nat) (f : Key → Key) : (setKey s n f).seq = s.seq := rfl
@[simp] theorem setKey_collector (s : State) (n : Nat) (f : Key → Key) : (setKey s n f).collector = s.collector := rfl
@[simp] theorem setKey_journal (s : State) (n : Nat) (f : Key → Key) : (setKey s n f).journal = s.journal := rfl
@[simp] theorem setKey_suites (s : State) (n : Nat) (f : Key → Key) : (setKey s n f).suites = s.suites := rfl
@[simp] theorem setKey_sessions (s : State) (n : Nat) (f : Key → Key) : (setKey s n f).sessions = s.sessions := rfl
@[simp] theorem setKey_points (s : State) (n : Nat) (f : Key → Key) : (setKey s n f).points = s.points := rfl
@[simp] theorem setKey_values (s : State) (n : Nat) (f : Key → Key) : (setKey s n f).values = s.values := rfl
@[simp] theorem setKey_larder (s : State) (n : Nat) (f : Key → Key) : (setKey s n f).larder = s.larder := rfl
@[simp] theorem setKey_hearth (s : State) (n : Nat) (f : Key → Key) : (setKey s n f).hearth = s.hearth := rfl
@[simp] theorem setKey_fuses (s : State) (n : Nat) (f : Key → Key) : (setKey s n f).fuses = s.fuses := rfl
@[simp] theorem setKey_attic (s : State) (n : Nat) (f : Key → Key) : (setKey s n f).attic = s.attic := rfl
@[simp] theorem setKey_sw (s : State) (n : Nat) (f : Key → Key) : (setKey s n f).sw = s.sw := rfl
@[simp] theorem setKey_ports (s : State) (n : Nat) (f : Key → Key) : (setKey s n f).ports = s.ports := rfl
@[simp] theorem setKey_uplinks (s : State) (n : Nat) (f : Key → Key) : (setKey s n f).uplinks = s.uplinks := rfl
@[simp] theorem setKey_halls (s : State) (n : Nat) (f : Key → Key) : (setKey s n f).halls = s.halls := rfl
@[simp] theorem setKey_hallPairs (s : State) (n : Nat) (f : Key → Key) : (setKey s n f).hallPairs = s.hallPairs := rfl
@[simp] theorem setKey_inputs (s : State) (n : Nat) (f : Key → Key) : (setKey s n f).inputs = s.inputs := rfl
@[simp] theorem setKey_banks (s : State) (n : Nat) (f : Key → Key) : (setKey s n f).banks = s.banks := rfl
@[simp] theorem setKey_outputs (s : State) (n : Nat) (f : Key → Key) : (setKey s n f).outputs = s.outputs := rfl
@[simp] theorem setKey_latches (s : State) (n : Nat) (f : Key → Key) : (setKey s n f).latches = s.latches := rfl
@[simp] theorem setKey_safeDrives (s : State) (n : Nat) (f : Key → Key) : (setKey s n f).safeDrives = s.safeDrives := rfl
@[simp] theorem setKey_meter (s : State) (n : Nat) (f : Key → Key) : (setKey s n f).meter = s.meter := rfl
@[simp] theorem setKey_mantel (s : State) (n : Nat) (f : Key → Key) : (setKey s n f).mantel = s.mantel := rfl
@[simp] theorem setKey_twin (s : State) (n : Nat) (f : Key → Key) : (setKey s n f).twin = s.twin := rfl
@[simp] theorem setKey_updates (s : State) (n : Nat) (f : Key → Key) : (setKey s n f).updates = s.updates := rfl
@[simp] theorem setKey_boot (s : State) (n : Nat) (f : Key → Key) : (setKey s n f).boot = s.boot := rfl
@[simp] theorem setKey_tap (s : State) (n : Nat) (f : Key → Key) : (setKey s n f).tap = s.tap := rfl
@[simp] theorem setKey_tests (s : State) (n : Nat) (f : Key → Key) : (setKey s n f).tests = s.tests := rfl

/-! ### setPartition -/

@[simp] theorem setPartition_pending (s : State) (n : Nat) (f : Partition → Partition) : (setPartition s n f).pending = s.pending := rfl
@[simp] theorem setPartition_free (s : State) (n : Nat) (f : Partition → Partition) : (setPartition s n f).free = s.free := rfl
@[simp] theorem setPartition_tick (s : State) (n : Nat) (f : Partition → Partition) : (setPartition s n f).tick = s.tick := rfl
@[simp] theorem setPartition_clock (s : State) (n : Nat) (f : Partition → Partition) : (setPartition s n f).clock = s.clock := rfl
@[simp] theorem setPartition_copies (s : State) (n : Nat) (f : Partition → Partition) : (setPartition s n f).copies = s.copies := rfl
@[simp] theorem setPartition_rooms (s : State) (n : Nat) (f : Partition → Partition) : (setPartition s n f).rooms = s.rooms := rfl
@[simp] theorem setPartition_links (s : State) (n : Nat) (f : Partition → Partition) : (setPartition s n f).links = s.links := rfl
@[simp] theorem setPartition_lanesOut (s : State) (n : Nat) (f : Partition → Partition) : (setPartition s n f).lanesOut = s.lanesOut := rfl
@[simp] theorem setPartition_units (s : State) (n : Nat) (f : Partition → Partition) : (setPartition s n f).units = s.units := rfl
@[simp] theorem setPartition_addr (s : State) (n : Nat) (f : Partition → Partition) : (setPartition s n f).addr = s.addr := rfl
@[simp] theorem setPartition_records (s : State) (n : Nat) (f : Partition → Partition) : (setPartition s n f).records = s.records := rfl
@[simp] theorem setPartition_groupCmds (s : State) (n : Nat) (f : Partition → Partition) : (setPartition s n f).groupCmds = s.groupCmds := rfl
@[simp] theorem setPartition_groupOut (s : State) (n : Nat) (f : Partition → Partition) : (setPartition s n f).groupOut = s.groupOut := rfl
@[simp] theorem setPartition_tasks (s : State) (n : Nat) (f : Partition → Partition) : (setPartition s n f).tasks = s.tasks := rfl
@[simp] theorem setPartition_foundation (s : State) (n : Nat) (f : Partition → Partition) : (setPartition s n f).foundation = s.foundation := rfl
@[simp] theorem setPartition_sram (s : State) (n : Nat) (f : Partition → Partition) : (setPartition s n f).sram = s.sram := rfl
@[simp] theorem setPartition_seq (s : State) (n : Nat) (f : Partition → Partition) : (setPartition s n f).seq = s.seq := rfl
@[simp] theorem setPartition_collector (s : State) (n : Nat) (f : Partition → Partition) : (setPartition s n f).collector = s.collector := rfl
@[simp] theorem setPartition_journal (s : State) (n : Nat) (f : Partition → Partition) : (setPartition s n f).journal = s.journal := rfl
@[simp] theorem setPartition_suites (s : State) (n : Nat) (f : Partition → Partition) : (setPartition s n f).suites = s.suites := rfl
@[simp] theorem setPartition_sessions (s : State) (n : Nat) (f : Partition → Partition) : (setPartition s n f).sessions = s.sessions := rfl
@[simp] theorem setPartition_points (s : State) (n : Nat) (f : Partition → Partition) : (setPartition s n f).points = s.points := rfl
@[simp] theorem setPartition_values (s : State) (n : Nat) (f : Partition → Partition) : (setPartition s n f).values = s.values := rfl
@[simp] theorem setPartition_larder (s : State) (n : Nat) (f : Partition → Partition) : (setPartition s n f).larder = s.larder := rfl
@[simp] theorem setPartition_hearth (s : State) (n : Nat) (f : Partition → Partition) : (setPartition s n f).hearth = s.hearth := rfl
@[simp] theorem setPartition_cellar (s : State) (n : Nat) (f : Partition → Partition) : (setPartition s n f).cellar = s.cellar := rfl
@[simp] theorem setPartition_fuses (s : State) (n : Nat) (f : Partition → Partition) : (setPartition s n f).fuses = s.fuses := rfl
@[simp] theorem setPartition_sw (s : State) (n : Nat) (f : Partition → Partition) : (setPartition s n f).sw = s.sw := rfl
@[simp] theorem setPartition_ports (s : State) (n : Nat) (f : Partition → Partition) : (setPartition s n f).ports = s.ports := rfl
@[simp] theorem setPartition_uplinks (s : State) (n : Nat) (f : Partition → Partition) : (setPartition s n f).uplinks = s.uplinks := rfl
@[simp] theorem setPartition_halls (s : State) (n : Nat) (f : Partition → Partition) : (setPartition s n f).halls = s.halls := rfl
@[simp] theorem setPartition_hallPairs (s : State) (n : Nat) (f : Partition → Partition) : (setPartition s n f).hallPairs = s.hallPairs := rfl
@[simp] theorem setPartition_inputs (s : State) (n : Nat) (f : Partition → Partition) : (setPartition s n f).inputs = s.inputs := rfl
@[simp] theorem setPartition_banks (s : State) (n : Nat) (f : Partition → Partition) : (setPartition s n f).banks = s.banks := rfl
@[simp] theorem setPartition_outputs (s : State) (n : Nat) (f : Partition → Partition) : (setPartition s n f).outputs = s.outputs := rfl
@[simp] theorem setPartition_latches (s : State) (n : Nat) (f : Partition → Partition) : (setPartition s n f).latches = s.latches := rfl
@[simp] theorem setPartition_safeDrives (s : State) (n : Nat) (f : Partition → Partition) : (setPartition s n f).safeDrives = s.safeDrives := rfl
@[simp] theorem setPartition_meter (s : State) (n : Nat) (f : Partition → Partition) : (setPartition s n f).meter = s.meter := rfl
@[simp] theorem setPartition_mantel (s : State) (n : Nat) (f : Partition → Partition) : (setPartition s n f).mantel = s.mantel := rfl
@[simp] theorem setPartition_twin (s : State) (n : Nat) (f : Partition → Partition) : (setPartition s n f).twin = s.twin := rfl
@[simp] theorem setPartition_updates (s : State) (n : Nat) (f : Partition → Partition) : (setPartition s n f).updates = s.updates := rfl
@[simp] theorem setPartition_boot (s : State) (n : Nat) (f : Partition → Partition) : (setPartition s n f).boot = s.boot := rfl
@[simp] theorem setPartition_tap (s : State) (n : Nat) (f : Partition → Partition) : (setPartition s n f).tap = s.tap := rfl
@[simp] theorem setPartition_tests (s : State) (n : Nat) (f : Partition → Partition) : (setPartition s n f).tests = s.tests := rfl

/-! ### setPin -/

@[simp] theorem setPin_pending (s : State) (n : Nat) (f : InputPin → InputPin) : (setPin s n f).pending = s.pending := rfl
@[simp] theorem setPin_free (s : State) (n : Nat) (f : InputPin → InputPin) : (setPin s n f).free = s.free := rfl
@[simp] theorem setPin_tick (s : State) (n : Nat) (f : InputPin → InputPin) : (setPin s n f).tick = s.tick := rfl
@[simp] theorem setPin_clock (s : State) (n : Nat) (f : InputPin → InputPin) : (setPin s n f).clock = s.clock := rfl
@[simp] theorem setPin_copies (s : State) (n : Nat) (f : InputPin → InputPin) : (setPin s n f).copies = s.copies := rfl
@[simp] theorem setPin_rooms (s : State) (n : Nat) (f : InputPin → InputPin) : (setPin s n f).rooms = s.rooms := rfl
@[simp] theorem setPin_links (s : State) (n : Nat) (f : InputPin → InputPin) : (setPin s n f).links = s.links := rfl
@[simp] theorem setPin_lanesOut (s : State) (n : Nat) (f : InputPin → InputPin) : (setPin s n f).lanesOut = s.lanesOut := rfl
@[simp] theorem setPin_units (s : State) (n : Nat) (f : InputPin → InputPin) : (setPin s n f).units = s.units := rfl
@[simp] theorem setPin_addr (s : State) (n : Nat) (f : InputPin → InputPin) : (setPin s n f).addr = s.addr := rfl
@[simp] theorem setPin_records (s : State) (n : Nat) (f : InputPin → InputPin) : (setPin s n f).records = s.records := rfl
@[simp] theorem setPin_groupCmds (s : State) (n : Nat) (f : InputPin → InputPin) : (setPin s n f).groupCmds = s.groupCmds := rfl
@[simp] theorem setPin_groupOut (s : State) (n : Nat) (f : InputPin → InputPin) : (setPin s n f).groupOut = s.groupOut := rfl
@[simp] theorem setPin_tasks (s : State) (n : Nat) (f : InputPin → InputPin) : (setPin s n f).tasks = s.tasks := rfl
@[simp] theorem setPin_foundation (s : State) (n : Nat) (f : InputPin → InputPin) : (setPin s n f).foundation = s.foundation := rfl
@[simp] theorem setPin_sram (s : State) (n : Nat) (f : InputPin → InputPin) : (setPin s n f).sram = s.sram := rfl
@[simp] theorem setPin_seq (s : State) (n : Nat) (f : InputPin → InputPin) : (setPin s n f).seq = s.seq := rfl
@[simp] theorem setPin_collector (s : State) (n : Nat) (f : InputPin → InputPin) : (setPin s n f).collector = s.collector := rfl
@[simp] theorem setPin_journal (s : State) (n : Nat) (f : InputPin → InputPin) : (setPin s n f).journal = s.journal := rfl
@[simp] theorem setPin_suites (s : State) (n : Nat) (f : InputPin → InputPin) : (setPin s n f).suites = s.suites := rfl
@[simp] theorem setPin_sessions (s : State) (n : Nat) (f : InputPin → InputPin) : (setPin s n f).sessions = s.sessions := rfl
@[simp] theorem setPin_points (s : State) (n : Nat) (f : InputPin → InputPin) : (setPin s n f).points = s.points := rfl
@[simp] theorem setPin_values (s : State) (n : Nat) (f : InputPin → InputPin) : (setPin s n f).values = s.values := rfl
@[simp] theorem setPin_larder (s : State) (n : Nat) (f : InputPin → InputPin) : (setPin s n f).larder = s.larder := rfl
@[simp] theorem setPin_hearth (s : State) (n : Nat) (f : InputPin → InputPin) : (setPin s n f).hearth = s.hearth := rfl
@[simp] theorem setPin_cellar (s : State) (n : Nat) (f : InputPin → InputPin) : (setPin s n f).cellar = s.cellar := rfl
@[simp] theorem setPin_fuses (s : State) (n : Nat) (f : InputPin → InputPin) : (setPin s n f).fuses = s.fuses := rfl
@[simp] theorem setPin_attic (s : State) (n : Nat) (f : InputPin → InputPin) : (setPin s n f).attic = s.attic := rfl
@[simp] theorem setPin_sw (s : State) (n : Nat) (f : InputPin → InputPin) : (setPin s n f).sw = s.sw := rfl
@[simp] theorem setPin_ports (s : State) (n : Nat) (f : InputPin → InputPin) : (setPin s n f).ports = s.ports := rfl
@[simp] theorem setPin_uplinks (s : State) (n : Nat) (f : InputPin → InputPin) : (setPin s n f).uplinks = s.uplinks := rfl
@[simp] theorem setPin_halls (s : State) (n : Nat) (f : InputPin → InputPin) : (setPin s n f).halls = s.halls := rfl
@[simp] theorem setPin_hallPairs (s : State) (n : Nat) (f : InputPin → InputPin) : (setPin s n f).hallPairs = s.hallPairs := rfl
@[simp] theorem setPin_banks (s : State) (n : Nat) (f : InputPin → InputPin) : (setPin s n f).banks = s.banks := rfl
@[simp] theorem setPin_outputs (s : State) (n : Nat) (f : InputPin → InputPin) : (setPin s n f).outputs = s.outputs := rfl
@[simp] theorem setPin_latches (s : State) (n : Nat) (f : InputPin → InputPin) : (setPin s n f).latches = s.latches := rfl
@[simp] theorem setPin_safeDrives (s : State) (n : Nat) (f : InputPin → InputPin) : (setPin s n f).safeDrives = s.safeDrives := rfl
@[simp] theorem setPin_meter (s : State) (n : Nat) (f : InputPin → InputPin) : (setPin s n f).meter = s.meter := rfl
@[simp] theorem setPin_mantel (s : State) (n : Nat) (f : InputPin → InputPin) : (setPin s n f).mantel = s.mantel := rfl
@[simp] theorem setPin_twin (s : State) (n : Nat) (f : InputPin → InputPin) : (setPin s n f).twin = s.twin := rfl
@[simp] theorem setPin_updates (s : State) (n : Nat) (f : InputPin → InputPin) : (setPin s n f).updates = s.updates := rfl
@[simp] theorem setPin_boot (s : State) (n : Nat) (f : InputPin → InputPin) : (setPin s n f).boot = s.boot := rfl
@[simp] theorem setPin_tap (s : State) (n : Nat) (f : InputPin → InputPin) : (setPin s n f).tap = s.tap := rfl
@[simp] theorem setPin_tests (s : State) (n : Nat) (f : InputPin → InputPin) : (setPin s n f).tests = s.tests := rfl

/-! ### setCircuit -/

@[simp] theorem setCircuit_pending (s : State) (m : Nat) (f : Circuit → Circuit) : (setCircuit s m f).pending = s.pending := rfl
@[simp] theorem setCircuit_free (s : State) (m : Nat) (f : Circuit → Circuit) : (setCircuit s m f).free = s.free := rfl
@[simp] theorem setCircuit_tick (s : State) (m : Nat) (f : Circuit → Circuit) : (setCircuit s m f).tick = s.tick := rfl
@[simp] theorem setCircuit_clock (s : State) (m : Nat) (f : Circuit → Circuit) : (setCircuit s m f).clock = s.clock := rfl
@[simp] theorem setCircuit_copies (s : State) (m : Nat) (f : Circuit → Circuit) : (setCircuit s m f).copies = s.copies := rfl
@[simp] theorem setCircuit_rooms (s : State) (m : Nat) (f : Circuit → Circuit) : (setCircuit s m f).rooms = s.rooms := rfl
@[simp] theorem setCircuit_links (s : State) (m : Nat) (f : Circuit → Circuit) : (setCircuit s m f).links = s.links := rfl
@[simp] theorem setCircuit_lanesOut (s : State) (m : Nat) (f : Circuit → Circuit) : (setCircuit s m f).lanesOut = s.lanesOut := rfl
@[simp] theorem setCircuit_units (s : State) (m : Nat) (f : Circuit → Circuit) : (setCircuit s m f).units = s.units := rfl
@[simp] theorem setCircuit_addr (s : State) (m : Nat) (f : Circuit → Circuit) : (setCircuit s m f).addr = s.addr := rfl
@[simp] theorem setCircuit_records (s : State) (m : Nat) (f : Circuit → Circuit) : (setCircuit s m f).records = s.records := rfl
@[simp] theorem setCircuit_groupCmds (s : State) (m : Nat) (f : Circuit → Circuit) : (setCircuit s m f).groupCmds = s.groupCmds := rfl
@[simp] theorem setCircuit_groupOut (s : State) (m : Nat) (f : Circuit → Circuit) : (setCircuit s m f).groupOut = s.groupOut := rfl
@[simp] theorem setCircuit_tasks (s : State) (m : Nat) (f : Circuit → Circuit) : (setCircuit s m f).tasks = s.tasks := rfl
@[simp] theorem setCircuit_foundation (s : State) (m : Nat) (f : Circuit → Circuit) : (setCircuit s m f).foundation = s.foundation := rfl
@[simp] theorem setCircuit_sram (s : State) (m : Nat) (f : Circuit → Circuit) : (setCircuit s m f).sram = s.sram := rfl
@[simp] theorem setCircuit_seq (s : State) (m : Nat) (f : Circuit → Circuit) : (setCircuit s m f).seq = s.seq := rfl
@[simp] theorem setCircuit_collector (s : State) (m : Nat) (f : Circuit → Circuit) : (setCircuit s m f).collector = s.collector := rfl
@[simp] theorem setCircuit_journal (s : State) (m : Nat) (f : Circuit → Circuit) : (setCircuit s m f).journal = s.journal := rfl
@[simp] theorem setCircuit_suites (s : State) (m : Nat) (f : Circuit → Circuit) : (setCircuit s m f).suites = s.suites := rfl
@[simp] theorem setCircuit_sessions (s : State) (m : Nat) (f : Circuit → Circuit) : (setCircuit s m f).sessions = s.sessions := rfl
@[simp] theorem setCircuit_points (s : State) (m : Nat) (f : Circuit → Circuit) : (setCircuit s m f).points = s.points := rfl
@[simp] theorem setCircuit_values (s : State) (m : Nat) (f : Circuit → Circuit) : (setCircuit s m f).values = s.values := rfl
@[simp] theorem setCircuit_larder (s : State) (m : Nat) (f : Circuit → Circuit) : (setCircuit s m f).larder = s.larder := rfl
@[simp] theorem setCircuit_hearth (s : State) (m : Nat) (f : Circuit → Circuit) : (setCircuit s m f).hearth = s.hearth := rfl
@[simp] theorem setCircuit_cellar (s : State) (m : Nat) (f : Circuit → Circuit) : (setCircuit s m f).cellar = s.cellar := rfl
@[simp] theorem setCircuit_fuses (s : State) (m : Nat) (f : Circuit → Circuit) : (setCircuit s m f).fuses = s.fuses := rfl
@[simp] theorem setCircuit_attic (s : State) (m : Nat) (f : Circuit → Circuit) : (setCircuit s m f).attic = s.attic := rfl
@[simp] theorem setCircuit_sw (s : State) (m : Nat) (f : Circuit → Circuit) : (setCircuit s m f).sw = s.sw := rfl
@[simp] theorem setCircuit_ports (s : State) (m : Nat) (f : Circuit → Circuit) : (setCircuit s m f).ports = s.ports := rfl
@[simp] theorem setCircuit_uplinks (s : State) (m : Nat) (f : Circuit → Circuit) : (setCircuit s m f).uplinks = s.uplinks := rfl
@[simp] theorem setCircuit_halls (s : State) (m : Nat) (f : Circuit → Circuit) : (setCircuit s m f).halls = s.halls := rfl
@[simp] theorem setCircuit_hallPairs (s : State) (m : Nat) (f : Circuit → Circuit) : (setCircuit s m f).hallPairs = s.hallPairs := rfl
@[simp] theorem setCircuit_inputs (s : State) (m : Nat) (f : Circuit → Circuit) : (setCircuit s m f).inputs = s.inputs := rfl
@[simp] theorem setCircuit_banks (s : State) (m : Nat) (f : Circuit → Circuit) : (setCircuit s m f).banks = s.banks := rfl
@[simp] theorem setCircuit_outputs (s : State) (m : Nat) (f : Circuit → Circuit) : (setCircuit s m f).outputs = s.outputs := rfl
@[simp] theorem setCircuit_latches (s : State) (m : Nat) (f : Circuit → Circuit) : (setCircuit s m f).latches = s.latches := rfl
@[simp] theorem setCircuit_safeDrives (s : State) (m : Nat) (f : Circuit → Circuit) : (setCircuit s m f).safeDrives = s.safeDrives := rfl
@[simp] theorem setCircuit_mantel (s : State) (m : Nat) (f : Circuit → Circuit) : (setCircuit s m f).mantel = s.mantel := rfl
@[simp] theorem setCircuit_twin (s : State) (m : Nat) (f : Circuit → Circuit) : (setCircuit s m f).twin = s.twin := rfl
@[simp] theorem setCircuit_updates (s : State) (m : Nat) (f : Circuit → Circuit) : (setCircuit s m f).updates = s.updates := rfl
@[simp] theorem setCircuit_boot (s : State) (m : Nat) (f : Circuit → Circuit) : (setCircuit s m f).boot = s.boot := rfl
@[simp] theorem setCircuit_tap (s : State) (m : Nat) (f : Circuit → Circuit) : (setCircuit s m f).tap = s.tap := rfl
@[simp] theorem setCircuit_tests (s : State) (m : Nat) (f : Circuit → Circuit) : (setCircuit s m f).tests = s.tests := rfl

/-! ### setUpdate -/

@[simp] theorem setUpdate_pending (s : State) (kind suite : Nat) (f : Update → Update) : (setUpdate s kind suite f).pending = s.pending := rfl
@[simp] theorem setUpdate_free (s : State) (kind suite : Nat) (f : Update → Update) : (setUpdate s kind suite f).free = s.free := rfl
@[simp] theorem setUpdate_tick (s : State) (kind suite : Nat) (f : Update → Update) : (setUpdate s kind suite f).tick = s.tick := rfl
@[simp] theorem setUpdate_clock (s : State) (kind suite : Nat) (f : Update → Update) : (setUpdate s kind suite f).clock = s.clock := rfl
@[simp] theorem setUpdate_copies (s : State) (kind suite : Nat) (f : Update → Update) : (setUpdate s kind suite f).copies = s.copies := rfl
@[simp] theorem setUpdate_rooms (s : State) (kind suite : Nat) (f : Update → Update) : (setUpdate s kind suite f).rooms = s.rooms := rfl
@[simp] theorem setUpdate_links (s : State) (kind suite : Nat) (f : Update → Update) : (setUpdate s kind suite f).links = s.links := rfl
@[simp] theorem setUpdate_lanesOut (s : State) (kind suite : Nat) (f : Update → Update) : (setUpdate s kind suite f).lanesOut = s.lanesOut := rfl
@[simp] theorem setUpdate_units (s : State) (kind suite : Nat) (f : Update → Update) : (setUpdate s kind suite f).units = s.units := rfl
@[simp] theorem setUpdate_addr (s : State) (kind suite : Nat) (f : Update → Update) : (setUpdate s kind suite f).addr = s.addr := rfl
@[simp] theorem setUpdate_records (s : State) (kind suite : Nat) (f : Update → Update) : (setUpdate s kind suite f).records = s.records := rfl
@[simp] theorem setUpdate_groupCmds (s : State) (kind suite : Nat) (f : Update → Update) : (setUpdate s kind suite f).groupCmds = s.groupCmds := rfl
@[simp] theorem setUpdate_groupOut (s : State) (kind suite : Nat) (f : Update → Update) : (setUpdate s kind suite f).groupOut = s.groupOut := rfl
@[simp] theorem setUpdate_tasks (s : State) (kind suite : Nat) (f : Update → Update) : (setUpdate s kind suite f).tasks = s.tasks := rfl
@[simp] theorem setUpdate_foundation (s : State) (kind suite : Nat) (f : Update → Update) : (setUpdate s kind suite f).foundation = s.foundation := rfl
@[simp] theorem setUpdate_sram (s : State) (kind suite : Nat) (f : Update → Update) : (setUpdate s kind suite f).sram = s.sram := rfl
@[simp] theorem setUpdate_seq (s : State) (kind suite : Nat) (f : Update → Update) : (setUpdate s kind suite f).seq = s.seq := rfl
@[simp] theorem setUpdate_collector (s : State) (kind suite : Nat) (f : Update → Update) : (setUpdate s kind suite f).collector = s.collector := rfl
@[simp] theorem setUpdate_journal (s : State) (kind suite : Nat) (f : Update → Update) : (setUpdate s kind suite f).journal = s.journal := rfl
@[simp] theorem setUpdate_suites (s : State) (kind suite : Nat) (f : Update → Update) : (setUpdate s kind suite f).suites = s.suites := rfl
@[simp] theorem setUpdate_sessions (s : State) (kind suite : Nat) (f : Update → Update) : (setUpdate s kind suite f).sessions = s.sessions := rfl
@[simp] theorem setUpdate_points (s : State) (kind suite : Nat) (f : Update → Update) : (setUpdate s kind suite f).points = s.points := rfl
@[simp] theorem setUpdate_values (s : State) (kind suite : Nat) (f : Update → Update) : (setUpdate s kind suite f).values = s.values := rfl
@[simp] theorem setUpdate_larder (s : State) (kind suite : Nat) (f : Update → Update) : (setUpdate s kind suite f).larder = s.larder := rfl
@[simp] theorem setUpdate_hearth (s : State) (kind suite : Nat) (f : Update → Update) : (setUpdate s kind suite f).hearth = s.hearth := rfl
@[simp] theorem setUpdate_cellar (s : State) (kind suite : Nat) (f : Update → Update) : (setUpdate s kind suite f).cellar = s.cellar := rfl
@[simp] theorem setUpdate_fuses (s : State) (kind suite : Nat) (f : Update → Update) : (setUpdate s kind suite f).fuses = s.fuses := rfl
@[simp] theorem setUpdate_attic (s : State) (kind suite : Nat) (f : Update → Update) : (setUpdate s kind suite f).attic = s.attic := rfl
@[simp] theorem setUpdate_sw (s : State) (kind suite : Nat) (f : Update → Update) : (setUpdate s kind suite f).sw = s.sw := rfl
@[simp] theorem setUpdate_ports (s : State) (kind suite : Nat) (f : Update → Update) : (setUpdate s kind suite f).ports = s.ports := rfl
@[simp] theorem setUpdate_uplinks (s : State) (kind suite : Nat) (f : Update → Update) : (setUpdate s kind suite f).uplinks = s.uplinks := rfl
@[simp] theorem setUpdate_halls (s : State) (kind suite : Nat) (f : Update → Update) : (setUpdate s kind suite f).halls = s.halls := rfl
@[simp] theorem setUpdate_hallPairs (s : State) (kind suite : Nat) (f : Update → Update) : (setUpdate s kind suite f).hallPairs = s.hallPairs := rfl
@[simp] theorem setUpdate_inputs (s : State) (kind suite : Nat) (f : Update → Update) : (setUpdate s kind suite f).inputs = s.inputs := rfl
@[simp] theorem setUpdate_banks (s : State) (kind suite : Nat) (f : Update → Update) : (setUpdate s kind suite f).banks = s.banks := rfl
@[simp] theorem setUpdate_outputs (s : State) (kind suite : Nat) (f : Update → Update) : (setUpdate s kind suite f).outputs = s.outputs := rfl
@[simp] theorem setUpdate_latches (s : State) (kind suite : Nat) (f : Update → Update) : (setUpdate s kind suite f).latches = s.latches := rfl
@[simp] theorem setUpdate_safeDrives (s : State) (kind suite : Nat) (f : Update → Update) : (setUpdate s kind suite f).safeDrives = s.safeDrives := rfl
@[simp] theorem setUpdate_meter (s : State) (kind suite : Nat) (f : Update → Update) : (setUpdate s kind suite f).meter = s.meter := rfl
@[simp] theorem setUpdate_mantel (s : State) (kind suite : Nat) (f : Update → Update) : (setUpdate s kind suite f).mantel = s.mantel := rfl
@[simp] theorem setUpdate_twin (s : State) (kind suite : Nat) (f : Update → Update) : (setUpdate s kind suite f).twin = s.twin := rfl
@[simp] theorem setUpdate_boot (s : State) (kind suite : Nat) (f : Update → Update) : (setUpdate s kind suite f).boot = s.boot := rfl
@[simp] theorem setUpdate_tap (s : State) (kind suite : Nat) (f : Update → Update) : (setUpdate s kind suite f).tap = s.tap := rfl
@[simp] theorem setUpdate_tests (s : State) (kind suite : Nat) (f : Update → Update) : (setUpdate s kind suite f).tests = s.tests := rfl

end Sys2Proof.Machine
end

