-- ==== Sys2Proof/Laws/Tables.lean ====
section
/-! SUPPORT. Reading after writing in a sparse table, the canonical form of tables, and of the data SRAM under each of its
operations. -/

namespace Sys2Proof.Machine
open Sys2Proof

variable {α : Type} [DecidableEq α] (d : α)

/-- The canonical form of a table with one default. -/
abbrev TableOk (lo : Nat) (t : Table α) : Prop := tableOk (fun _ => d) lo t = true

theorem tableOk_cons {lo k : Nat} {v : α} {t : Table α} :
    TableOk d lo ((k, v) :: t) ↔ lo ≤ k ∧ v ≠ d ∧ TableOk d (k + 1) t := by
  simp [TableOk, tableOk, and_assoc]

theorem tableOk_mono {lo lo' : Nat} {t : Table α} (h : TableOk d lo t) (hl : lo' ≤ lo) : TableOk d lo' t := by
  cases t with
  | nil => rfl
  | cons e t => obtain ⟨k, v⟩ := e; rw [tableOk_cons] at *; exact ⟨by omega, h.2⟩

theorem tget_below {lo i : Nat} {t : Table α} (h : TableOk d lo t) (hi : i < lo) : tget d t i = d := by
  cases t with
  | nil => rfl
  | cons e t =>
    obtain ⟨k, v⟩ := e
    rw [tableOk_cons] at h
    simp only [tget]
    rw [if_neg (by omega), if_pos (by omega)]

/-- Writing keeps the canonical form. -/
theorem tset_ok {lo i : Nat} {t : Table α} (x : α) (h : TableOk d lo t) (hi : lo ≤ i) : TableOk d lo (tset d t i x) := by
  induction t generalizing lo with
  | nil =>
    simp only [tset]
    split
    · rfl
    · exact (tableOk_cons d).2 ⟨hi, by assumption, rfl⟩
  | cons e t ih =>
    obtain ⟨k, v⟩ := e
    have hc := (tableOk_cons d).1 h
    simp only [tset]
    split
    · split
      · exact h
      · exact (tableOk_cons d).2 ⟨hi, by assumption, (tableOk_cons d).2 ⟨by omega, hc.2⟩⟩
    · split
      · split
        · exact tableOk_mono d hc.2.2 (by omega)
        · exact (tableOk_cons d).2 ⟨by omega, by assumption, by subst_vars; exact hc.2.2⟩
      · exact (tableOk_cons d).2 ⟨hc.1, hc.2.1, ih hc.2.2 (by omega)⟩

/-- Reading what was written, in a canonical table. -/
theorem tget_tset_same {lo i : Nat} {t : Table α} (x : α) (h : TableOk d lo t) : tget d (tset d t i x) i = x := by
  induction t generalizing lo with
  | nil => simp only [tset]; split <;> simp_all [tget]
  | cons e t ih =>
    obtain ⟨k, v⟩ := e
    have hc := (tableOk_cons d).1 h
    simp only [tset]
    split
    · split
      · rename_i h1 h2
        simp only [tget]
        rw [if_neg (by omega), if_pos h1]
        exact h2.symm
      · simp [tget]
    · split
      · split
        · rename_i h1 h2 h3; subst h3; exact tget_below _ hc.2.2 (by omega)
        · simp [tget]
      · simp only [tget]; rw [if_neg (by omega), if_neg (by omega)]; exact ih hc.2.2

/-- Reading what was written, in any table, when it is not the default. -/
theorem tget_tset_ne_default {i : Nat} (t : Table α) {x : α} (hx : x ≠ d) : tget d (tset d t i x) i = x := by
  induction t with
  | nil => simp [tset, tget, hx]
  | cons e t ih =>
    obtain ⟨k, v⟩ := e
    simp only [tset, hx, if_false]
    split
    · simp [tget]
    · split
      · simp [tget]
      · simp only [tget]; rw [if_neg (by omega), if_neg (by omega)]; exact ih

/-- A write leaves every other key alone. -/
theorem tget_tset_other {lo i j : Nat} {t : Table α} (x : α) (h : TableOk d lo t) (hij : j ≠ i) : tget d (tset d t i x) j = tget d t j := by
  induction t generalizing lo with
  | nil =>
    simp only [tset]
    split
    · rfl
    · simp only [tget]; rw [if_neg hij]; split <;> rfl
  | cons e t ih =>
    obtain ⟨k, v⟩ := e
    have hc := (tableOk_cons d).1 h
    simp only [tset]
    split
    · split
      · rfl
      · simp only [tget]; rw [if_neg hij]; split
        · rw [if_neg (by omega), if_pos (by omega)]
        · rfl
    · split
      · split
        · rename_i h2 _
          simp only [tget]
          rw [if_neg (by omega)]
          split
          · exact tget_below d hc.2.2 (by omega)
          · rfl
        · rename_i h2 _
          subst h2
          simp only [tget]
          rw [if_neg hij, if_neg hij]
      · simp only [tget]
        split
        · rfl
        · split
          · rfl
          · exact ih hc.2.2

/-- Dropping entries keeps the canonical form. -/
theorem filter_ok {lo : Nat} {t : Table α} (p : Nat × α → Bool) (h : TableOk d lo t) : TableOk d lo (t.filter p) := by
  induction t generalizing lo with
  | nil => rfl
  | cons e t ih =>
    obtain ⟨k, v⟩ := e
    have hc := (tableOk_cons d).1 h
    simp only [List.filter]
    split
    · exact (tableOk_cons d).2 ⟨hc.1, hc.2.1, ih hc.2.2⟩
    · exact tableOk_mono d (ih hc.2.2) (by omega)

/-- Every entry after a write is the one written or stood before. -/
theorem mem_tset {t : Table α} {i : Nat} {x : α} {e : Nat × α} (h : e ∈ tset d t i x) : e = (i, x) ∨ e ∈ t := by
  induction t with
  | nil => simp only [tset] at h; split at h <;> simp_all
  | cons b t ih =>
    obtain ⟨k, v⟩ := b
    simp only [tset] at h
    split at h
    · split at h <;> simp_all
    · split at h
      · split at h
        · exact .inr (List.mem_cons_of_mem _ h)
        · rcases List.mem_cons.1 h with h | h
          · exact .inl h
          · exact .inr (List.mem_cons_of_mem _ h)
      · rcases List.mem_cons.1 h with h | h
        · exact .inr (h ▸ List.mem_cons_self)
        · rcases ih h with h | h
          · exact .inl h
          · exact .inr (List.mem_cons_of_mem _ h)

/-- A write leaves the entries of every other key. -/
theorem mem_tset_other {t : Table α} {i : Nat} {x : α} {e : Nat × α} (he : e.1 ≠ i) : e ∈ tset d t i x ↔ e ∈ t := by
  induction t with
  | nil => simp only [tset]; split <;> simp; intro h; exact he (h ▸ rfl)
  | cons b t ih =>
    obtain ⟨k, v⟩ := b
    simp only [tset]
    have hne : e ≠ (i, x) := fun h => he (h ▸ rfl)
    split
    · split <;> simp [hne]
    · split
      · rename_i h2
        have hne' : e ≠ (k, v) := fun h => he (h ▸ h2.symm)
        split <;> simp [hne, hne']
      · simp [ih]

theorem mem_sinsert {i j : Nat} {l : List Nat} : j ∈ sinsert i l ↔ j = i ∨ j ∈ l := by
  induction l with
  | nil => simp [sinsert]
  | cons k t ih =>
    simp only [sinsert]
    split
    · simp
    · split
      · subst_vars; simp
      · simp only [List.mem_cons, ih]; constructor <;> (rintro (h | h | h) <;> simp_all)

/-! ### The data SRAM -/

theorem Sram.wf_iff (m : Sram) : m.wf = true ↔
    TableOk (0 : Byte) 0 m.cells ∧ TableOk 0 0 m.errors ∧ ∀ e ∈ m.cells, e.1 / 4 ∈ m.valid := by
  simp [Sram.wf, and_assoc, TableOk]

/-- The empty memory has the canonical form. -/
theorem empty_wf : ({} : Sram).wf = true := by decide

theorem writeByte_wf {m : Sram} (a : Nat) (b : Byte) (h : m.wf = true) : (writeByte m a b).wf = true := by
  rw [Sram.wf_iff] at *
  obtain ⟨h1, h2, h3⟩ := h
  refine ⟨tset_ok _ _ h1 (by omega), tset_ok _ _ h2 (by omega), fun e he => ?_⟩
  rcases mem_tset _ he with rfl | he
  · exact mem_sinsert.2 (.inl rfl)
  · exact mem_sinsert.2 (.inr (h3 e he))

/-- Writing bytes keeps the canonical form. -/
theorem writeBytes_wf (bs : List Byte) {m : Sram} (a : Nat) (h : m.wf = true) : (writeBytes m a bs).wf = true := by
  induction bs generalizing m a with
  | nil => exact h
  | cons b bs ih => exact ih _ (writeByte_wf a b h)

/-- Clearing valid bits keeps the canonical form. -/
theorem invalidate_wf {m : Sram} (a n : Nat) (h : m.wf = true) : (invalidate m a n).wf = true := by
  rw [Sram.wf_iff] at *
  obtain ⟨h1, h2, h3⟩ := h
  refine ⟨filter_ok _ _ h1, filter_ok _ _ h2, fun e he => ?_⟩
  simp only [invalidate, List.mem_filter] at he ⊢
  exact ⟨h3 e he.1, he.2⟩

/-- Changing which bytes hold an error keeps the canonical form. -/
theorem setErrors_wf {m : Sram} (bad : List Nat) (x : Nat) (h : m.wf = true) :
    ({ m with errors := bad.foldl (fun e a => tset 0 e a x) m.errors } : Sram).wf = true := by
  rw [Sram.wf_iff] at *
  obtain ⟨h1, h2, h3⟩ := h
  refine ⟨h1, ?_, h3⟩
  dsimp only
  clear h1 h3
  generalize m.errors = t at *
  induction bad generalizing t with
  | nil => exact h2
  | cons b l ih => exact ih _ (tset_ok 0 x h2 (by omega))

/-- A byte reads as it was written. -/
theorem readByte_writeByte_same {m : Sram} (a : Nat) (b : Byte) (h : m.wf = true) : readByte (writeByte m a b) a = b :=
  tget_tset_same _ _ ((Sram.wf_iff m).1 h).1

/-- A write leaves every other byte alone. -/
theorem readByte_writeByte_other {m : Sram} {a c : Nat} (b : Byte) (h : m.wf = true) (hc : c ≠ a) :
    readByte (writeByte m a b) c = readByte m c :=
  tget_tset_other _ _ ((Sram.wf_iff m).1 h).1 hc

/-- Bytes outside a write read as before. -/
theorem readByte_writeBytes_outside (bs : List Byte) {m : Sram} {a c : Nat} (h : m.wf = true) (hc : c < a ∨ a + bs.length ≤ c) :
    readByte (writeBytes m a bs) c = readByte m c := by
  induction bs generalizing m a with
  | nil => rfl
  | cons b bs ih =>
    simp only [List.length_cons] at hc
    simp only [writeBytes]
    rw [ih (writeByte_wf a b h) (by omega), readByte_writeByte_other b h (by omega)]

/-- Bytes inside a write read as written. -/
theorem readByte_writeBytes_inside (bs : List Byte) {m : Sram} {a : Nat} (h : m.wf = true) (i : Nat) (hi : i < bs.length) :
    readByte (writeBytes m a bs) (a + i) = bs[i] := by
  induction bs generalizing m a i with
  | nil => simp at hi
  | cons b bs ih =>
    simp only [writeBytes]
    cases i with
    | zero => rw [readByte_writeBytes_outside bs (writeByte_wf a b h) (by omega)]; exact readByte_writeByte_same a b h
    | succ i =>
      have := ih (writeByte_wf a b h) (a := a + 1) i (by simpa using hi)
      rw [show a + (i + 1) = a + 1 + i by omega, this]; rfl

/-- Changing which bytes hold an error changes no byte. -/
theorem readByte_errors (m : Sram) (e : Table Nat) (a : Nat) : readByte { m with errors := e } a = readByte m a := rfl

end Sys2Proof.Machine
end

