-- ==== Sys2Proof/Laws/Ops.lean ====
section
/-! SUPPORT. What the shared operations do: reading an instruction's cost, running an integer instruction, signed operands, one
entry of a table, and a unit command that is served. -/

namespace Sys2Proof.Machine
open Sys2Proof

/-! ### Tables -/

section
variable {α : Type} [DecidableEq α] {d : α}

/-- Writing what an entry already holds changes nothing. -/
theorem tset_tget (t : Table α) (i : Nat) (h : tget d t i ≠ d) : tset d t i (tget d t i) = t := by
  induction t with
  | nil => simp [tget] at h
  | cons x t ih =>
    obtain ⟨k, v⟩ := x
    simp only [tget] at h ⊢
    split at h
    · subst_vars; simp [tset, h]
    · split at h
      · simp at h
      · rename_i h1 h2
        simp only [h1, h2, if_false, tset]
        rw [ih h]

theorem tget_tmod_same {lo i : Nat} {t : Table α} (f : α → α) (h : TableOk d lo t) : tget d (tmod d t i f) i = f (tget d t i) :=
  tget_tset_same d _ h

theorem tget_tmod_other {lo i j : Nat} {t : Table α} (f : α → α) (h : TableOk d lo t) (hij : j ≠ i) : tget d (tmod d t i f) j = tget d t j :=
  tget_tset_other d _ h hij

end

theorem taskAt_setTask_same {s : State} {c : Nat} (f : Task → Task) (h : TableOk {} 0 s.tasks) : taskAt (setTask s c f) c = f (taskAt s c) :=
  tget_tmod_same f h

theorem taskAt_setTask_other {s : State} {c e : Nat} (f : Task → Task) (h : TableOk {} 0 s.tasks) (hne : e ≠ c) :
    taskAt (setTask s c f) e = taskAt s e :=
  tget_tmod_other f h hne

theorem suiteAt_setSuite_self {s : State} {n : Nat} (f : Suite → Suite) (h : TableOk (suiteDefault n) 0 s.suites) :
    suiteAt (setSuite s n f) n = f (suiteAt s n) :=
  tget_tmod_same f h

/-! ### Costs of legal words (R65, R66) -/

theorem hi_even {h : BitVec 2} (h0 : h.getLsbD 0 = false) : h.toNat % 2 = 0 := by
  revert h; decide

theorem readWord_opa (m : Bool) (fn : Nat) (f : FmtA) (hf : fn < 256) :
    readWord m (encA 0x00 fn f) = opaInfo f.rs2.toNat (f.hi.toNat * 256 + fn) := by
  obtain ⟨h1, _, _, _, h5, h6, _⟩ := encA_fields 0x00 fn f (by decide) hf
  simp only [readWord, h1, h5, h6]

theorem opaInfo_cost {rs2 hi fn cost : Nat} (hf : fn < 256) (h : hi % 2 = 0)
    (h2 : fn ≤ 0x11 ∨ (0x18 ≤ fn ∧ fn ≤ 0x1A) ∨ fn = 0x20 → cost = 1) (h3 : fn = 0x12 ∨ fn = 0x13 → rs2 = 0 ∧ cost = 1)
    (h4 : 0x1C ≤ fn ∧ fn ≤ 0x1F → cost = 20) (h5 : fn ≤ 0x13 ∨ (0x18 ≤ fn ∧ fn ≤ 0x1A) ∨ (0x1C ≤ fn ∧ fn ≤ 0x20)) :
    (opaInfo rs2 (hi * 256 + fn)).map (·.cost) = some cost := by
  have e1 : (hi * 256 + fn) % 256 = fn := by omega
  have e2 : (hi * 256 + fn) / 256 = hi := by omega
  simp only [opaInfo, e1, e2, h, legalIf]
  split
  · have := h2 (by simp_all; omega); simp [this]
  · split
    · have := h3 (by simp_all); simp [this]
    · split
      · have := h4 (by simp_all); simp [this]
      · exfalso; simp_all; omega

theorem ld_cost (m : Bool) (f : FmtM) (h : f.size.toNat < 7) : (readWord m (encM 0x08 f)).map (·.cost) = some 3 := by
  obtain ⟨h1, h2, _⟩ := encM_fields 0x08 f (by decide)
  simp [readWord, h1, h2, legalIf, h]

theorem st_cost (m : Bool) (f : FmtM) (h : f.size.toNat < 4) : (readWord m (encM 0x09 f)).map (·.cost) = some 2 := by
  obtain ⟨h1, h2, _⟩ := encM_fields 0x09 f (by decide)
  simp [readWord, h1, h2, legalIf, h]

theorem atom_cost (m : Bool) (n : Nat) (f : FmtA) (hn : n ≤ 5) (h : f.hi.getLsbD 0 = false) :
    (readWord m (encA 0x0A n f)).map (·.cost) = some 6 := by
  obtain ⟨h1, _, _, _, _, h6, _⟩ := encA_fields 0x0A n f (by decide) (by omega)
  have e1 : (f.hi.toNat * 256 + n) % 256 = n := by omega
  have e2 : (f.hi.toNat * 256 + n) / 256 = f.hi.toNat := by omega
  simp only [readWord, h1, h6, legalIf, e1, e2, hi_even h]; simp [hn]

theorem pnt_cost {m : Bool} {fn : Nat} {f : FmtI} (hf : fn < 4) : (readWord m (encI 0x41 fn f)).map (·.cost) = some 2 := by
  obtain ⟨h1, h2, h3, h4⟩ := encI_fields 0x41 fn f (by decide) (by omega)
  simp only [readWord, *, legalIf]; simp

theorem dev_cost {m : Bool} {op fn cost : Nat} {f : FmtA} (h0 : f.hi = 0) (ho : op < 128) (hf : fn < 256)
    (hop : op ∈ [0x40, 0x42, 0x43, 0x44, 0x45, 0x46, 0x47])
    (hd : deviceInfo m op f.rd.toNat f.rs1.toNat f.rs2.toNat fn = some { cost := cost }) :
    (readWord m (encA op fn f)).map (·.cost) = some cost := by
  obtain ⟨h1, h2, h3, h4, h5, h6, h7⟩ := encA_fields op fn f ho hf
  simp only [readWord, h1, h2, h3, h4, h5, h6]
  simp only [h0]
  simp at hop
  rcases hop with rfl | rfl | rfl | rfl | rfl | rfl | rfl <;> simp [hd]

/-! ### Integer instructions (R67) -/

/-- A one-step integer instruction that issues writes its value to rd. -/
theorem opa_next {s : State} {k c fn : Nat} {f : FmtA} (val : Ctx → BitVec 64) (h : Issues s k c 1) (h0 : f.hi.getLsbD 0 = false)
    (hfn : fn ≤ 0x11 ∨ (0x18 ≤ fn ∧ fn ≤ 0x1A) ∨ fn = 0x20 ∨ ((fn = 0x12 ∨ fn = 0x13) ∧ f.rs2 = 0)) :
    opa k fn f val s = .next (retired s c 1 (rset (contextAt s c) f.rd (val (contextAt s c)))) := by
  have hw : (readWord (isMgmt k) (encA 0x00 fn f)).map (·.cost) = some 1 := by
    rw [readWord_opa _ _ _ (by omega)]
    apply opaInfo_cost (by omega) (hi_even h0) (by simp) <;> (try intro h) <;> try omega
    have : f.rs2 = 0 := by
      rcases hfn with h1 | h1 | h1 | ⟨_, h1⟩
      · omega
      · omega
      · omega
      · exact h1
    exact ⟨by simp [this], rfl⟩
  simp only [opa, runInsn_issues _ h hw]; rfl

theorem signed_toInt {n : Nat} (v : BitVec n) (hn : 0 < n) : signed n v.toNat = v.toInt := by
  have := v.isLt
  obtain ⟨m, rfl⟩ : ∃ m, n = m + 1 := ⟨n - 1, by omega⟩
  rw [BitVec.toInt_eq_toNat_cond]
  simp only [signed, Nat.mod_eq_of_lt this]
  have e : 2 ^ (m + 1) = 2 * 2 ^ m := by rw [Nat.pow_succ]; omega
  simp only [Nat.add_sub_cancel]
  by_cases hh : v.toNat < 2 ^ m
  · rw [if_pos hh, if_pos (by omega)]
  · rw [if_neg hh, if_neg (by omega)]

theorem signed_lo (v : BitVec 64) : signed 32 v.toNat = (v.setWidth 32).toInt := by
  rw [← signed_toInt _ (by decide)]; simp [signed]

theorem signedArgs_eq (f : FmtA) (x : Ctx) : signedArgs f x =
    if f.hi.getLsbD 1 then (((rget x f.rs1).setWidth 32).toInt, ((rget x f.rs2).setWidth 32).toInt)
    else ((rget x f.rs1).toInt, (rget x f.rs2).toInt) := by
  unfold signedArgs intWidth isW
  split
  · simp only [signed_lo]
  · simp only [signed_toInt _ (show 0 < 64 by decide)]

theorem signedResult_eq (f : FmtA) (v : Int) :
    signedResult f v = if f.hi.getLsbD 1 then (BitVec.ofInt 32 v).signExtend 64 else BitVec.ofInt 64 v := by
  unfold signedResult intWidth isW ofInt64
  split
  · have : (v % ((2 ^ 32 : Nat) : Int)).toNat = (BitVec.ofInt 32 v).toNat := by simp
    rw [this, signed_toInt _ (by decide)]; rfl
  · have : (v % ((2 ^ 64 : Nat) : Int)).toNat = (BitVec.ofInt 64 v).toNat := by simp
    rw [this, signed_toInt _ (by decide), BitVec.ofInt_toInt]

/-! ### Unit commands (R44, R97) -/

/-- A fresh command at the head of its queue, for a unit of this module: it is taken, it runs, and its reply is sent. -/
theorem unitCommand_runs {s t : State} {q : CmdQueue} {c : Cmd} {u : UnitId} {pick : Cmd → Bool} {loc : Bool}
    {run : Cmd → Target → State → CmdResult} (hr : t = takeCommand (readHead s (cmdQueueNo q)) c)
    (hh : headCommand (readHead s (cmdQueueNo q)) q = some c) (hp : pick c = true)
    (hf : findRecord t u c.tag c.replyQueue = none)
    (ht : (resolve t c.target).map (memberTarget t c) = some (.unit u))
    (hn : t.boot.phase ≠ .recovery) (hl : forwards t c (.unit u) = false) (hg : ∀ l, u ≠ .group l) :
    unitCommand q pick loc run s = finishCommand c (some u) (run c (.unit u) t) := by
  subst hr
  unfold unitCommand
  simp only [hh, hp, ht, hl, targetUnit, hf, Bool.not_true]
  have hb : (decide ((takeCommand (readHead s (cmdQueueNo q)) c).boot.phase = BootPhase.recovery) &&
      !recoveryAllows (takeCommand (readHead s (cmdQueueNo q)) c) c) = false := by simp [hn]
  simp only [hb]
  cases u with
  | group l => exact absurd rfl (hg l)
  | _ => rfl

/-! ### Cycles (R149) -/

/-- With no cancelled cycle waiting for its replies, nothing is settled. -/
theorem settleCancelled_nil {s : State} {c : Nat} {y : Cycle} (h : (taskAt s c).cycle = some y) (h2 : (taskAt s c).cancelled = []) :
    settleCancelled s c = s := by
  have hne : taskAt s c ≠ {} := by intro e; rw [e] at h; cases h
  have key : ∀ f : Task → Task, f (taskAt s c) = taskAt s c → setTask s c f = s := fun f hf => by
    have : tmod {} s.tasks c f = s.tasks := by
      show tset {} s.tasks c (f (taskAt s c)) = s.tasks
      rw [hf]; exact tset_tget s.tasks c hne
    simp only [setTask, this]
  simp only [settleCancelled, h2, List.filter_nil, List.foldl_nil]
  refine key _ ?_
  simp only [h2, List.filter_nil]
  rw [← h2]

end Sys2Proof.Machine
end

