-- ==== Sys2Proof/WellFormed.lean ====
section
/-! DEFINITION. Which commands are well formed: every number among the operands names something that the module has, and the data
that the outside gives has the widths of the spec. The meanings are total, and take other operands too. -/

namespace Sys2Proof

/-- R123, R40: a context: task `c % 32` of suite `c / 32`, or the management firmware on M0 (4128) or M1 (4129). -/
def ctxOk (c : Nat) : Bool := c < 2048 || c == 4128 || c == 4129

/-- R40: a part that exists. -/
def partOk (p : Part) : Bool :=
  match p.cls with
  | 1 => p.inst < 192
  | 2 => p.inst < 3
  | 3 => p.inst < 16
  | 4 => p.inst < 9
  | 5 => p.inst < 11
  | 6 => p.inst < 7
  | 7 => p.inst < 6 || (8 ≤ p.inst && p.inst ≤ 16)
  | _ => false

/-- R36, R40: a unit that exists; groups stand at levels 1 to 6. -/
def unitOk : UnitId → Bool
  | .module | .pair => true
  | .group l => 1 ≤ l && l ≤ 6
  | .part p => partOk p

/-- R18: 48 bits of seconds, and less than a second of nanoseconds. -/
def timeOk (t : Time80) : Bool := t.sec < 2 ^ 48 && t.ns < 1000000000

/-- R388: the image kinds. -/
def kindOk (k : Nat) : Bool := 1 ≤ k && k ≤ 3

/-- R185, R188: a producer that exists. -/
def sourceOk : EngineSrc → Bool
  | .session suite host _ => suite < 64 && host < 65536
  | .engine p => p.cls != 0 && partOk p

/-- R184: an item's priority is 0 to 7, and LENGTH has 16 bits. -/
def itemOk (it : ItemIn) : Bool := it.prio < 8 && it.data.length < 65536

/-- R247: the MAC addresses, the TCI and the EtherType have their widths. -/
def frameOk (f : Frame) : Bool :=
  f.dst < 2 ^ 48 && f.src < 2 ^ 48 && f.ethertype < 2 ^ 16 &&
  (match f.tag with
  | none => true
  | some t => t < 2 ^ 16)

/-- R247, R250: what a MAC sees. -/
def macRxOk (r : MacRx) : Bool :=
  frameOk r.frame &&
  (match r.pause with
  | none => true
  | some q => q < 2 ^ 16)

/-- R272, R273: the rate codes are 1 to 7; 0 is no link. -/
def linkChangeOk (l : LinkChange) : Bool := l.rate < 8

/-- R290: the identifiers and the data length of a CAN frame of its format. -/
def hallFrameOk (f : HallFrame) : Bool :=
  f.format < 3 && f.id < 2 ^ 29 && (f.ide || f.id < 2 ^ 11) && f.data.length ≤ (if f.format = 0 then 8 else if f.format = 1 then 64 else 2048)

/-- R303: LAST_ERROR has three bits. -/
def attemptOk : AttemptEnd → Bool
  | .success | .arbitrationLost => true
  | .error kind _ _ => kind < 8

/-- R303: LAST_ERROR has three bits. -/
def rxErrorOk (e : RxError) : Bool := e.kind < 8

/-- R322: 4 voltages, and 24 currents on either path, to a sample, in counts of 24 bits. -/
def sampleOk (x : MeterSample) : Bool :=
  x.volts.length == 4 && x.unity.length == 24 && x.high.length == 24 &&
    (x.volts ++ x.unity ++ x.high).all (fun c => -8388608 ≤ c && c < 8388608)

/-- R326: the samples of a window. -/
def windowOk (w : MeterWindow) : Bool := (w.before :: w.after :: w.samples).all sampleOk

/-- R222. -/
def partnerOk (p : PartnerInfo) : Bool := p.role < 8 && p.serial < 2 ^ 64

/-- R239: the switch instant that the active tells has its widths. -/
def toldOk : Option Time80 → Bool
  | none => true
  | some t => timeOk t

/-- R225: ROLE has three bits, ACTIVE_EPOCH and DSEQ 32; a strobe word tells no switch instant. -/
def heartbeatOk (h : Heartbeat) : Bool := h.role < 8 && h.epoch < 2 ^ 32 && h.dseq < 2 ^ 32 && toldOk h.tsw && (!h.strobe || h.tsw.isNone)

/-- R30: a requester that exists. -/
def requesterOk : Requester → Bool
  | .context c | .cfg c => ctxOk c
  | .key suite => suite < 64
  | .command _ | .engine => true

/-- R373: a line has 64 bytes. -/
def foundOk (l : List Upset) : Bool := l.all (fun x => x.offset < 64)

/-- R412: links (R40) and pace monitors that exist. -/
def bootOk (b : BootEnv) : Bool := b.linkFail.all (fun n => n < 7) && b.paceFail.all (fun n => n < 9)

/-- R8, R9: a unit that exists, or a Hearth slot. -/
def regOk : RegRef → Bool
  | .status u _ => unitOk u
  | .slot n => n < 4096

/-- R175: HOST_ID is 1 to 0xFEFF, RANK 0 to 7; a session runs over UL0, UL1 or SVC. -/
def sessionOk (h : SessionOpen) : Bool :=
  1 ≤ h.host && h.host ≤ 0xFEFF && h.suite < 64 && h.rank < 8 && (192 ≤ h.port && h.port ≤ 194) && (h.puts ++ h.takes).all (fun q => q < 65536)

/-- R335: a circuit's quantities. -/
def valsOk (l : List PointVal) : Bool := l.length ≤ 48

/-- The numbers among a command's operands, each with the count of what it can name: cores, suites, ports, queues and so on. -/
def Instr.numbers : Instr → List (Nat × Nat)
  | .addR k _ | .subR k _ | .andR k _ | .orR k _ | .xorR k _ | .andn k _ | .shl k _ | .shr k _ | .sar k _ | .ror k _ | .slt k _
  | .sltu k _ | .minR k _ | .maxR k _ | .minu k _ | .maxu k _ | .adds k _ | .subs k _ | .clz k _ | .popc k _ | .mul k _ | .mulh k _
  | .mulhu k _ | .divR k _ | .divu k _ | .rem k _ | .remu k _ | .selR k _ | .addk k _ | .addkw k _ | .andk k _ | .ork k _
  | .xork k _ | .cmpk k _ | .shk k _ | .bitk k _ | .lui k _ | .luh k _ | .adpc k _ | .ld k _ | .st k _ | .swap k _ | .aadd k _
  | .aand k _ | .aor k _ | .amax k _ | .amin k _ | .beq k _ | .bne k _ | .blt k _ | .bge k _ | .bltu k _ | .bgeu k _ | .jmp k _
  | .call k _ | .nop k _ | .ret k _ | .fence k _ | .endCycle k _ | .jt k _ | .loopN k _ | .srr k _ | .srw k _ | .qmul k _
  | .mac k _ | .msu k _ | .aclr k _ | .ald k _ | .amov k _ | .arnd k _ | .ash k _ | .qadd k _ | .qsub k _ | .qmulr k _ | .qneg k _
  | .qabs k _ | .fadd k _ | .fsub k _ | .fmul k _ | .fdiv k _ | .fsqrt k _ | .fma k _ | .fmin k _ | .fmax k _ | .fneg k _
  | .fabs k _ | .fcmp k _ | .fcmps k _ | .fkind k _ | .fminn k _ | .fmaxn k _ | .fcvtf k _ | .fcvti k _ | .fcvtp k _ | .ftoq k _
  | .qtof k _ | .cfg k _ _ | .prd k _ | .prdh k _ | .pwr k _ | .pwrh k _ | .qopen k _ | .qpw k _ | .qpb k _ | .qmark k _
  | .qrwnd k _ | .qrel k _ | .qdrop k _ | .qtake k _ | .qrd k _ | .qack k _ | .tdif k _ | .tadd k _ | .tset k _ | .ttst k _
  | .tclr k _ | .emit k _ | .key k _ _ | .hsub k _ | .brk k _ _ _ => [(k, 34)]
  | .kgen suite | .kderive suite | .kseal suite | .kopen suite | .ksign suite | .kverify suite | .kagree suite | .kexport suite
  | .kimport suite | .kdestroy suite | .kinfo suite | .electionClose suite | .leaseExpiry suite | .handoverLapse suite
  | .suiteFenceLift suite | .updateActivation _ suite | .updateRecheck _ suite | .trialExpiry _ suite | .transmitItem suite => [(suite, 64)]
  | .hearthTimerTrigger slot => [(slot, 4096)]
  | .pointRead host suite _ tag replyQueue => [(host, 65536), (suite, 64), (tag, 65536), (replyQueue, 65536)]
  | .groupMemberReply g member _ => [(g.level, 7), (member, 256)]
  | .groupMemberTimeout g => [(g.level, 7)]
  | .quietAnswer port cycle _ => [(port, 192), (cycle, 4294967296)]
  | .withdrawFrameSent port | .macReceive port _ | .pauseEnd port | .egressFrameSent port | .pauseRepeat port
  | .portLinkChange port _ | .halfRangeItem port | .uplinkEgress port | .governorWindow port _ | .rateStepDone port
  | .rateStepAbandon port | .governorResume port | .launchItem port | .launchSend port _ => [(port, 195)]
  | .itemEnter queue _ _ => [(queue, 65536)]
  | .queueControlError e => [(e.queue, 65536)]
  | .paceWindow room _ _ => [(room, 9)]
  | .linkTokenError e => [(e.link, 5), (e.bits, 40)]
  | .houseTimeAlignment die | .alignmentTimeout die => [(die, 5)]
  | .stallTimeout station lane _ => [(station, 16), (lane, 8)]
  | .pseDetection port _ | .pseDetectionRetry port | .psePowered port | .psePdLost port | .pseOverload port
  | .pseBackoffExpiry port | .linkPartnerLeavingLpi port | .eeeLpiEntry port => [(port, 192)]
  | .pseClassification port cls => [(port, 192), (cls, 16)]
  | .hallwayFrameReceived hb _ | .hallwayAttemptStart hb _ | .hallwayAttemptEnd hb _ | .busOffRecovery hb
  | .hallwayBusIntegration hb | .hallwayReceiveError hb _ | .protocolExceptionEvent hb => [(hb, 16)]
  | .hallwayTakeItem hb slot | .hallwayLifetimeExpiry hb slot => [(hb, 16), (slot, 16)]
  | .hallwayTimePair group count => [(group, 4), (count, 281474976710656)]
  | .diChange n _ | .diSelfTest n _ => [(n, 64)]
  | .serialiseTurnOn bank | .bankTrip bank | .bankRetry bank | .bankRetryCountClear bank => [(bank, 6)]
  | .outputShutdown out | .shutterTimeout out | .outputSenseFlag out _ _ => [(out, 48)]
  | .meterQuantitiesArrive circuit _ => [(circuit, 8)]
  | .pulseStart out | .pulseEnd out => [(out, 4)]
  | .deltaConfirmation dseq | .confirmationTimeout dseq => [(dseq, 4294967296)]
  | .preparedCycleCommit suite task => [(suite, 64), (task, 32)]
  | .landingFrameError lane => [(lane, 4)]
  | .hostAcknowledgement host _ queue seq => [(host, 65536), (queue, 65536), (seq, 4294967296)]
  | .cfgUnit _ | .cfgGroup _ | .cfgSuite _ | .cfgQueueSet _ | .cfgQueueLimit _ | .cfgPoint _ | .cfgTask _ | .cfgTaskRemove _
  | .cfgPort _ | .cfgFwdWrite _ | .cfgFwdInvalidate _ | .cfgUplink _ | .cfgClockSet _ | .cfgClockStep _ | .cfgClockThreshold _
  | .cfgClockIncrement _ | .cfgHallwayPort _ | .cfgHallwayFilter _ | .cfgHallwaySlot _ | .cfgInput _ | .cfgBank _
  | .cfgMeterCircuit _ | .cfgMeterPulseOut _ | .cfgMeterRegister _ | .cfgHearthSet _ | .cfgHearthCoef _ | .cfgHearthRemove _
  | .cfgHearthClear _ | .cfgCellar _ | .cfgAttic _ | .cfgScrub _ | .cfgMantelSetup _ | .cfgMantelHalt _ | .cfgMantelSetRun _
  | .cfgTwin _ | .cfgPace _ | .cfgLock _ | .cfgEnd _ | .hearthEvaluation | .describe _ | .status _ | .members _ | .unitReset _
  | .clearWorst _ | .clrWorst _ | .taskModeRun _ | .taskModeStop _ | .taskModeHold _ | .taskModeStep _
  | .modeTransition _ | .setValue _ | .setConst _ | .onlineChangeApply _ | .brkArm _ | .taskStatus _ | .ownerClaim _
  | .ownerClaimForce _ | .ownerRenew _ | .ownerRelease _ | .ownerHandover _ | .ownerAccept _ | .suiteReset _ | .suiteStatus _
  | .ownerUnlock _ | .queueStatus _ | .queueClear _ | .slotStatus _ | .pairSwitch _ | .pairResync _ | .portCounters _
  | .floorQuiet _ | .quietEntry | .floorWake _ | .clockTrimIncrement _ | .clockTrimSlew _ | .clockTrimStep _ | .clockChangeTick
  | .slewEnd | .hbCancel _ | .diCounts _ | .meterRead _ | .identity _ | .lifecycleAdvance _ _ | .tamperClear _ | .atticRead _
  | .atticClear _ | .updateBegin _ | .updateStage _ | .updateCheck _ | .updateActivate _ | .updateConfirm _ _ | .updateAbort _
  | .updateStatus _ | .loopTest _ | .loopTestEnd _ _ | .registerWrite _ _ | .cycleStart _ | .cycleAccept | .commit _
  | .holdRerelease _ | .stopSafeState _ | .holdMaxTimeout _ | .foundationTimeout | .journalWrite | .creditReservationExpiry _
  | .refclkFailure | .portSwitchIngress | .epochInstall | .epochDrained | .meterWindowEnd _ | .meterFlashWrite | .heartbeatSend
  | .heartbeatReceived _ | .pathDead _ | .partnerMet _ | .seekingTimeout | .deltaShip | .deltaApply _ | .twinClockExchange _
  | .reclaim | .switchInstant | .switchHandover | .tamper | .atticRecordWrite | .atticFlush _ | .scrubLine _ | .backupSwitch _
  | .vbakMeasure _ | .oscStop | .setRunRelease | .trimWindowEnd _ | .mantelWake | .pfail | .powerOnReset | .resetNLow _
  | .managementWatchdog | .startSequence _ | .tapReset | .extest | .samplePreload _ _ | .idcode | .clamp | .highz | .extestPulse
  | .extestTrain | .ident | .bypass | .holdingExit | .pfailNRise | .vfieldLoss | .vfieldReturn | .hostSessionOpen _ | .hostSessionClose _ _
  | .pairUpdateSwitchover | .pairUpdateTimeout | .mwakeNRelease => []

/-- The other operands have the shape that the spec gives them. -/
def Instr.shape : Instr → Bool
  | .cfgUnit c | .cfgGroup c | .cfgSuite c | .cfgQueueSet c | .cfgQueueLimit c | .cfgPoint c | .cfgTask c | .cfgTaskRemove c
  | .cfgPort c | .cfgFwdWrite c | .cfgFwdInvalidate c | .cfgUplink c | .cfgClockSet c | .cfgClockStep c | .cfgClockThreshold c
  | .cfgClockIncrement c | .cfgHallwayPort c | .cfgHallwayFilter c | .cfgHallwaySlot c | .cfgInput c | .cfgBank c
  | .cfgMeterCircuit c | .cfgMeterPulseOut c | .cfgMeterRegister c | .cfgHearthSet c | .cfgHearthCoef c | .cfgHearthRemove c
  | .cfgHearthClear c | .cfgCellar c | .cfgAttic c | .cfgScrub c | .cfgMantelSetup c | .cfgMantelHalt c | .cfgMantelSetRun c
  | .cfgTwin c | .cfgPace c | .cfgLock c | .cfgEnd c | .modeTransition c | .onlineChangeApply c | .cycleStart c | .commit c
  | .holdRerelease c | .stopSafeState c | .holdMaxTimeout c | .creditReservationExpiry c => ctxOk c
  | .clrWorst u | .loopTestEnd u _ => unitOk u
  | .updateActivation kind _ | .updateRecheck kind _ | .trialExpiry kind _ => kindOk kind
  | .registerWrite r _ => regOk r
  | .itemEnter _ src it => sourceOk src && itemOk it
  | .stallTimeout _ _ requester => requesterOk requester
  | .macReceive _ r => macRxOk r
  | .portLinkChange _ l => linkChangeOk l
  | .pseClassification _ cls => decide (10 ≤ cls)
  | .hallwayFrameReceived _ fr => hallFrameOk fr
  | .hallwayAttemptEnd _ e => attemptOk e
  | .meterWindowEnd w => windowOk w
  | .meterQuantitiesArrive _ vals => valsOk vals
  | .heartbeatReceived hb => heartbeatOk hb
  | .partnerMet p => partnerOk p
  | .twinClockExchange activeTime => timeOk activeTime
  | .scrubLine found => foundOk found
  | .startSequence b => bootOk b
  | .hallwayReceiveError _ e => rxErrorOk e
  | .hostSessionOpen h => sessionOk h
  | .addR _ _ | .subR _ _ | .andR _ _ | .orR _ _ | .xorR _ _ | .andn _ _ | .shl _ _ | .shr _ _ | .sar _ _ | .ror _ _ | .slt _ _
  | .sltu _ _ | .minR _ _ | .maxR _ _ | .minu _ _ | .maxu _ _ | .adds _ _ | .subs _ _ | .clz _ _ | .popc _ _ | .mul _ _ | .mulh _ _
  | .mulhu _ _ | .divR _ _ | .divu _ _ | .rem _ _ | .remu _ _ | .selR _ _ | .addk _ _ | .addkw _ _ | .andk _ _ | .ork _ _
  | .xork _ _ | .cmpk _ _ | .shk _ _ | .bitk _ _ | .lui _ _ | .luh _ _ | .adpc _ _ | .ld _ _ | .st _ _ | .swap _ _ | .aadd _ _
  | .aand _ _ | .aor _ _ | .amax _ _ | .amin _ _ | .beq _ _ | .bne _ _ | .blt _ _ | .bge _ _ | .bltu _ _ | .bgeu _ _ | .jmp _ _
  | .call _ _ | .nop _ _ | .ret _ _ | .fence _ _ | .endCycle _ _ | .jt _ _ | .loopN _ _ | .srr _ _ | .srw _ _ | .qmul _ _
  | .mac _ _ | .msu _ _ | .aclr _ _ | .ald _ _ | .amov _ _ | .arnd _ _ | .ash _ _ | .qadd _ _ | .qsub _ _ | .qmulr _ _ | .qneg _ _
  | .qabs _ _ | .fadd _ _ | .fsub _ _ | .fmul _ _ | .fdiv _ _ | .fsqrt _ _ | .fma _ _ | .fmin _ _ | .fmax _ _ | .fneg _ _
  | .fabs _ _ | .fcmp _ _ | .fcmps _ _ | .fkind _ _ | .fminn _ _ | .fmaxn _ _ | .fcvtf _ _ | .fcvti _ _ | .fcvtp _ _ | .ftoq _ _
  | .qtof _ _ | .cfg _ _ _ | .prd _ _ | .prdh _ _ | .pwr _ _ | .pwrh _ _ | .qopen _ _ | .qpw _ _ | .qpb _ _ | .qmark _ _
  | .qrwnd _ _ | .qrel _ _ | .qdrop _ _ | .qtake _ _ | .qrd _ _ | .qack _ _ | .tdif _ _ | .tadd _ _ | .tset _ _ | .ttst _ _
  | .tclr _ _ | .emit _ _ | .key _ _ _ | .kgen _ | .kderive _ | .kseal _ | .kopen _ | .ksign _ | .kverify _ | .kagree _
  | .kexport _ | .kimport _ | .kdestroy _ | .kinfo _ | .hsub _ _ | .brk _ _ _ _ | .hearthEvaluation | .hearthTimerTrigger _
  | .describe _ | .status _ | .members _ | .unitReset _ | .clearWorst _ | .pointRead _ _ _ _ _ | .groupMemberReply _ _ _
  | .groupMemberTimeout _ | .taskModeRun _ | .taskModeStop _ | .taskModeHold _ | .taskModeStep _ | .setValue _ | .setConst _
  | .brkArm _ | .taskStatus _ | .ownerClaim _ | .ownerClaimForce _ | .electionClose _ | .ownerRenew _ | .leaseExpiry _
  | .ownerRelease _ | .ownerHandover _ | .ownerAccept _ | .handoverLapse _ | .suiteReset _ | .suiteFenceLift _ | .suiteStatus _
  | .ownerUnlock _ | .queueStatus _ | .queueClear _ | .slotStatus _ | .pairSwitch _ | .pairResync _ | .portCounters _
  | .floorQuiet _ | .quietAnswer _ _ _ | .quietEntry | .floorWake _ | .clockTrimIncrement _ | .clockTrimSlew _ | .clockTrimStep _
  | .clockChangeTick | .slewEnd | .hbCancel _ | .diCounts _ | .meterRead _ | .identity _ | .lifecycleAdvance _ _ | .tamperClear _
  | .atticRead _ | .atticClear _ | .updateBegin _ | .updateStage _ | .updateCheck _ | .updateActivate _ | .updateConfirm _ _
  | .updateAbort _ | .updateStatus _ | .loopTest _ | .cycleAccept | .withdrawFrameSent _ | .foundationTimeout | .journalWrite
  | .queueControlError _ | .paceWindow _ _ _ | .linkTokenError _ | .houseTimeAlignment _ | .alignmentTimeout _ | .refclkFailure
  | .pauseEnd _ | .portSwitchIngress | .egressFrameSent _ | .pauseRepeat _ | .halfRangeItem _ | .epochInstall | .epochDrained
  | .transmitItem _ | .pseDetection _ _ | .pseDetectionRetry _ | .psePowered _ | .psePdLost _ | .pseOverload _
  | .pseBackoffExpiry _ | .uplinkEgress _ | .governorWindow _ _ | .rateStepDone _ | .rateStepAbandon _ | .governorResume _
  | .launchItem _ | .launchSend _ _ | .deltaApply _ | .hallwayTakeItem _ _ | .hallwayAttemptStart _ _ | .hallwayLifetimeExpiry _ _ | .busOffRecovery _
  | .hallwayTimePair _ _ | .diChange _ _ | .diSelfTest _ _ | .serialiseTurnOn _ | .bankTrip _ | .bankRetry _
  | .bankRetryCountClear _ | .outputShutdown _ | .shutterTimeout _ | .outputSenseFlag _ _ _ | .meterFlashWrite | .pulseStart _
  | .pulseEnd _ | .heartbeatSend | .pathDead _ | .seekingTimeout | .deltaShip | .deltaConfirmation _ | .confirmationTimeout _
  | .preparedCycleCommit _ _ | .landingFrameError _ | .reclaim | .switchInstant | .switchHandover | .tamper | .atticRecordWrite
  | .atticFlush _ | .backupSwitch _ | .vbakMeasure _ | .oscStop | .setRunRelease | .trimWindowEnd _ | .mantelWake | .pfail
  | .powerOnReset | .resetNLow _ | .managementWatchdog | .tapReset | .extest | .samplePreload _ _ | .idcode | .clamp | .highz
  | .extestPulse | .extestTrain | .ident | .bypass | .holdingExit | .pfailNRise | .vfieldLoss | .vfieldReturn
  | .linkPartnerLeavingLpi _ | .eeeLpiEntry _ | .hallwayBusIntegration _ | .protocolExceptionEvent _ | .hostSessionClose _ _
  | .hostAcknowledgement _ _ _ _ | .pairUpdateSwitchover | .pairUpdateTimeout | .mwakeNRelease => true

/-- A well-formed command. -/
def Instr.wf (i : Instr) : Bool := i.numbers.all (fun e => e.1 < e.2) && i.shape

end Sys2Proof
end

