-- ==== Sys2Proof/Laws/PerInstr.lean ====
section
/-! SUPPORT. What well-formedness says of a command, constructor by constructor. -/

namespace Sys2Proof.Laws.Wf
open Sys2Proof

/-- Every number among the operands of a well-formed command names something that exists, and the rest has its shape; and a command
of which both hold is well formed. -/
def Statement (i : Instr) : Prop := i.wf = true ↔ (∀ e ∈ i.numbers, e.1 < e.2) ∧ i.shape = true

theorem statement_of_wf (i : Instr) : Statement i := by
  simp [Statement, Instr.wf]

theorem addR (k : Nat) (f : FmtA) : Statement (.addR k f) := statement_of_wf _
theorem subR (k : Nat) (f : FmtA) : Statement (.subR k f) := statement_of_wf _
theorem andR (k : Nat) (f : FmtA) : Statement (.andR k f) := statement_of_wf _
theorem orR (k : Nat) (f : FmtA) : Statement (.orR k f) := statement_of_wf _
theorem xorR (k : Nat) (f : FmtA) : Statement (.xorR k f) := statement_of_wf _
theorem andn (k : Nat) (f : FmtA) : Statement (.andn k f) := statement_of_wf _
theorem shl (k : Nat) (f : FmtA) : Statement (.shl k f) := statement_of_wf _
theorem shr (k : Nat) (f : FmtA) : Statement (.shr k f) := statement_of_wf _
theorem sar (k : Nat) (f : FmtA) : Statement (.sar k f) := statement_of_wf _
theorem ror (k : Nat) (f : FmtA) : Statement (.ror k f) := statement_of_wf _
theorem slt (k : Nat) (f : FmtA) : Statement (.slt k f) := statement_of_wf _
theorem sltu (k : Nat) (f : FmtA) : Statement (.sltu k f) := statement_of_wf _
theorem minR (k : Nat) (f : FmtA) : Statement (.minR k f) := statement_of_wf _
theorem maxR (k : Nat) (f : FmtA) : Statement (.maxR k f) := statement_of_wf _
theorem minu (k : Nat) (f : FmtA) : Statement (.minu k f) := statement_of_wf _
theorem maxu (k : Nat) (f : FmtA) : Statement (.maxu k f) := statement_of_wf _
theorem adds (k : Nat) (f : FmtA) : Statement (.adds k f) := statement_of_wf _
theorem subs (k : Nat) (f : FmtA) : Statement (.subs k f) := statement_of_wf _
theorem clz (k : Nat) (f : FmtA) : Statement (.clz k f) := statement_of_wf _
theorem popc (k : Nat) (f : FmtA) : Statement (.popc k f) := statement_of_wf _
theorem mul (k : Nat) (f : FmtA) : Statement (.mul k f) := statement_of_wf _
theorem mulh (k : Nat) (f : FmtA) : Statement (.mulh k f) := statement_of_wf _
theorem mulhu (k : Nat) (f : FmtA) : Statement (.mulhu k f) := statement_of_wf _
theorem divR (k : Nat) (f : FmtA) : Statement (.divR k f) := statement_of_wf _
theorem divu (k : Nat) (f : FmtA) : Statement (.divu k f) := statement_of_wf _
theorem rem (k : Nat) (f : FmtA) : Statement (.rem k f) := statement_of_wf _
theorem remu (k : Nat) (f : FmtA) : Statement (.remu k f) := statement_of_wf _
theorem selR (k : Nat) (f : FmtA) : Statement (.selR k f) := statement_of_wf _
theorem addk (k : Nat) (f : FmtI) : Statement (.addk k f) := statement_of_wf _
theorem addkw (k : Nat) (f : FmtI) : Statement (.addkw k f) := statement_of_wf _
theorem andk (k : Nat) (f : FmtI) : Statement (.andk k f) := statement_of_wf _
theorem ork (k : Nat) (f : FmtI) : Statement (.ork k f) := statement_of_wf _
theorem xork (k : Nat) (f : FmtI) : Statement (.xork k f) := statement_of_wf _
theorem cmpk (k : Nat) (f : FmtI) : Statement (.cmpk k f) := statement_of_wf _
theorem shk (k : Nat) (f : FmtI) : Statement (.shk k f) := statement_of_wf _
theorem bitk (k : Nat) (f : FmtI) : Statement (.bitk k f) := statement_of_wf _
theorem lui (k : Nat) (f : FmtU) : Statement (.lui k f) := statement_of_wf _
theorem luh (k : Nat) (f : FmtU) : Statement (.luh k f) := statement_of_wf _
theorem adpc (k : Nat) (f : FmtU) : Statement (.adpc k f) := statement_of_wf _
theorem ld (k : Nat) (f : FmtM) : Statement (.ld k f) := statement_of_wf _
theorem st (k : Nat) (f : FmtM) : Statement (.st k f) := statement_of_wf _
theorem swap (k : Nat) (f : FmtA) : Statement (.swap k f) := statement_of_wf _
theorem aadd (k : Nat) (f : FmtA) : Statement (.aadd k f) := statement_of_wf _
theorem aand (k : Nat) (f : FmtA) : Statement (.aand k f) := statement_of_wf _
theorem aor (k : Nat) (f : FmtA) : Statement (.aor k f) := statement_of_wf _
theorem amax (k : Nat) (f : FmtA) : Statement (.amax k f) := statement_of_wf _
theorem amin (k : Nat) (f : FmtA) : Statement (.amin k f) := statement_of_wf _
theorem beq (k : Nat) (f : FmtB) : Statement (.beq k f) := statement_of_wf _
theorem bne (k : Nat) (f : FmtB) : Statement (.bne k f) := statement_of_wf _
theorem blt (k : Nat) (f : FmtB) : Statement (.blt k f) := statement_of_wf _
theorem bge (k : Nat) (f : FmtB) : Statement (.bge k f) := statement_of_wf _
theorem bltu (k : Nat) (f : FmtB) : Statement (.bltu k f) := statement_of_wf _
theorem bgeu (k : Nat) (f : FmtB) : Statement (.bgeu k f) := statement_of_wf _
theorem jmp (k : Nat) (f : FmtJ) : Statement (.jmp k f) := statement_of_wf _
theorem call (k : Nat) (f : FmtJ) : Statement (.call k f) := statement_of_wf _
theorem nop (k : Nat) (f : FmtA) : Statement (.nop k f) := statement_of_wf _
theorem ret (k : Nat) (f : FmtA) : Statement (.ret k f) := statement_of_wf _
theorem fence (k : Nat) (f : FmtA) : Statement (.fence k f) := statement_of_wf _
theorem endCycle (k : Nat) (f : FmtA) : Statement (.endCycle k f) := statement_of_wf _
theorem jt (k : Nat) (f : FmtT) : Statement (.jt k f) := statement_of_wf _
theorem loopN (k : Nat) (f : FmtL) : Statement (.loopN k f) := statement_of_wf _
theorem srr (k : Nat) (f : FmtS) : Statement (.srr k f) := statement_of_wf _
theorem srw (k : Nat) (f : FmtS) : Statement (.srw k f) := statement_of_wf _
theorem qmul (k : Nat) (f : FmtQ) : Statement (.qmul k f) := statement_of_wf _
theorem mac (k : Nat) (f : FmtQ) : Statement (.mac k f) := statement_of_wf _
theorem msu (k : Nat) (f : FmtQ) : Statement (.msu k f) := statement_of_wf _
theorem aclr (k : Nat) (f : FmtQ) : Statement (.aclr k f) := statement_of_wf _
theorem ald (k : Nat) (f : FmtQ) : Statement (.ald k f) := statement_of_wf _
theorem amov (k : Nat) (f : FmtQ) : Statement (.amov k f) := statement_of_wf _
theorem arnd (k : Nat) (f : FmtQ) : Statement (.arnd k f) := statement_of_wf _
theorem ash (k : Nat) (f : FmtQ) : Statement (.ash k f) := statement_of_wf _
theorem qadd (k : Nat) (f : FmtQ) : Statement (.qadd k f) := statement_of_wf _
theorem qsub (k : Nat) (f : FmtQ) : Statement (.qsub k f) := statement_of_wf _
theorem qmulr (k : Nat) (f : FmtQ) : Statement (.qmulr k f) := statement_of_wf _
theorem qneg (k : Nat) (f : FmtQ) : Statement (.qneg k f) := statement_of_wf _
theorem qabs (k : Nat) (f : FmtQ) : Statement (.qabs k f) := statement_of_wf _
theorem fadd (k : Nat) (f : FmtA) : Statement (.fadd k f) := statement_of_wf _
theorem fsub (k : Nat) (f : FmtA) : Statement (.fsub k f) := statement_of_wf _
theorem fmul (k : Nat) (f : FmtA) : Statement (.fmul k f) := statement_of_wf _
theorem fdiv (k : Nat) (f : FmtA) : Statement (.fdiv k f) := statement_of_wf _
theorem fsqrt (k : Nat) (f : FmtA) : Statement (.fsqrt k f) := statement_of_wf _
theorem fma (k : Nat) (f : FmtA) : Statement (.fma k f) := statement_of_wf _
theorem fmin (k : Nat) (f : FmtA) : Statement (.fmin k f) := statement_of_wf _
theorem fmax (k : Nat) (f : FmtA) : Statement (.fmax k f) := statement_of_wf _
theorem fneg (k : Nat) (f : FmtA) : Statement (.fneg k f) := statement_of_wf _
theorem fabs (k : Nat) (f : FmtA) : Statement (.fabs k f) := statement_of_wf _
theorem fcmp (k : Nat) (f : FmtA) : Statement (.fcmp k f) := statement_of_wf _
theorem fcmps (k : Nat) (f : FmtA) : Statement (.fcmps k f) := statement_of_wf _
theorem fkind (k : Nat) (f : FmtA) : Statement (.fkind k f) := statement_of_wf _
theorem fminn (k : Nat) (f : FmtA) : Statement (.fminn k f) := statement_of_wf _
theorem fmaxn (k : Nat) (f : FmtA) : Statement (.fmaxn k f) := statement_of_wf _
theorem fcvtf (k : Nat) (f : FmtA) : Statement (.fcvtf k f) := statement_of_wf _
theorem fcvti (k : Nat) (f : FmtA) : Statement (.fcvti k f) := statement_of_wf _
theorem fcvtp (k : Nat) (f : FmtA) : Statement (.fcvtp k f) := statement_of_wf _
theorem ftoq (k : Nat) (f : FmtA) : Statement (.ftoq k f) := statement_of_wf _
theorem qtof (k : Nat) (f : FmtA) : Statement (.qtof k f) := statement_of_wf _
theorem cfg (k : Nat) (code : BitVec 8) (f : FmtA) : Statement (.cfg k code f) := statement_of_wf _
theorem cfgUnit (c : Nat) : Statement (.cfgUnit c) := statement_of_wf _
theorem cfgGroup (c : Nat) : Statement (.cfgGroup c) := statement_of_wf _
theorem cfgSuite (c : Nat) : Statement (.cfgSuite c) := statement_of_wf _
theorem cfgQueueSet (c : Nat) : Statement (.cfgQueueSet c) := statement_of_wf _
theorem cfgQueueLimit (c : Nat) : Statement (.cfgQueueLimit c) := statement_of_wf _
theorem cfgPoint (c : Nat) : Statement (.cfgPoint c) := statement_of_wf _
theorem cfgTask (c : Nat) : Statement (.cfgTask c) := statement_of_wf _
theorem cfgTaskRemove (c : Nat) : Statement (.cfgTaskRemove c) := statement_of_wf _
theorem cfgPort (c : Nat) : Statement (.cfgPort c) := statement_of_wf _
theorem cfgFwdWrite (c : Nat) : Statement (.cfgFwdWrite c) := statement_of_wf _
theorem cfgFwdInvalidate (c : Nat) : Statement (.cfgFwdInvalidate c) := statement_of_wf _
theorem cfgUplink (c : Nat) : Statement (.cfgUplink c) := statement_of_wf _
theorem cfgClockSet (c : Nat) : Statement (.cfgClockSet c) := statement_of_wf _
theorem cfgClockStep (c : Nat) : Statement (.cfgClockStep c) := statement_of_wf _
theorem cfgClockThreshold (c : Nat) : Statement (.cfgClockThreshold c) := statement_of_wf _
theorem cfgClockIncrement (c : Nat) : Statement (.cfgClockIncrement c) := statement_of_wf _
theorem cfgHallwayPort (c : Nat) : Statement (.cfgHallwayPort c) := statement_of_wf _
theorem cfgHallwayFilter (c : Nat) : Statement (.cfgHallwayFilter c) := statement_of_wf _
theorem cfgHallwaySlot (c : Nat) : Statement (.cfgHallwaySlot c) := statement_of_wf _
theorem cfgInput (c : Nat) : Statement (.cfgInput c) := statement_of_wf _
theorem cfgBank (c : Nat) : Statement (.cfgBank c) := statement_of_wf _
theorem cfgMeterCircuit (c : Nat) : Statement (.cfgMeterCircuit c) := statement_of_wf _
theorem cfgMeterPulseOut (c : Nat) : Statement (.cfgMeterPulseOut c) := statement_of_wf _
theorem cfgMeterRegister (c : Nat) : Statement (.cfgMeterRegister c) := statement_of_wf _
theorem cfgHearthSet (c : Nat) : Statement (.cfgHearthSet c) := statement_of_wf _
theorem cfgHearthCoef (c : Nat) : Statement (.cfgHearthCoef c) := statement_of_wf _
theorem cfgHearthRemove (c : Nat) : Statement (.cfgHearthRemove c) := statement_of_wf _
theorem cfgHearthClear (c : Nat) : Statement (.cfgHearthClear c) := statement_of_wf _
theorem cfgCellar (c : Nat) : Statement (.cfgCellar c) := statement_of_wf _
theorem cfgAttic (c : Nat) : Statement (.cfgAttic c) := statement_of_wf _
theorem cfgScrub (c : Nat) : Statement (.cfgScrub c) := statement_of_wf _
theorem cfgMantelSetup (c : Nat) : Statement (.cfgMantelSetup c) := statement_of_wf _
theorem cfgMantelHalt (c : Nat) : Statement (.cfgMantelHalt c) := statement_of_wf _
theorem cfgMantelSetRun (c : Nat) : Statement (.cfgMantelSetRun c) := statement_of_wf _
theorem cfgTwin (c : Nat) : Statement (.cfgTwin c) := statement_of_wf _
theorem cfgPace (c : Nat) : Statement (.cfgPace c) := statement_of_wf _
theorem cfgLock (c : Nat) : Statement (.cfgLock c) := statement_of_wf _
theorem cfgEnd (c : Nat) : Statement (.cfgEnd c) := statement_of_wf _
theorem prd (k : Nat) (f : FmtI) : Statement (.prd k f) := statement_of_wf _
theorem prdh (k : Nat) (f : FmtI) : Statement (.prdh k f) := statement_of_wf _
theorem pwr (k : Nat) (f : FmtI) : Statement (.pwr k f) := statement_of_wf _
theorem pwrh (k : Nat) (f : FmtI) : Statement (.pwrh k f) := statement_of_wf _
theorem qopen (k : Nat) (f : FmtA) : Statement (.qopen k f) := statement_of_wf _
theorem qpw (k : Nat) (f : FmtA) : Statement (.qpw k f) := statement_of_wf _
theorem qpb (k : Nat) (f : FmtA) : Statement (.qpb k f) := statement_of_wf _
theorem qmark (k : Nat) (f : FmtA) : Statement (.qmark k f) := statement_of_wf _
theorem qrwnd (k : Nat) (f : FmtA) : Statement (.qrwnd k f) := statement_of_wf _
theorem qrel (k : Nat) (f : FmtA) : Statement (.qrel k f) := statement_of_wf _
theorem qdrop (k : Nat) (f : FmtA) : Statement (.qdrop k f) := statement_of_wf _
theorem qtake (k : Nat) (f : FmtA) : Statement (.qtake k f) := statement_of_wf _
theorem qrd (k : Nat) (f : FmtA) : Statement (.qrd k f) := statement_of_wf _
theorem qack (k : Nat) (f : FmtA) : Statement (.qack k f) := statement_of_wf _
theorem tdif (k : Nat) (f : FmtA) : Statement (.tdif k f) := statement_of_wf _
theorem tadd (k : Nat) (f : FmtA) : Statement (.tadd k f) := statement_of_wf _
theorem tset (k : Nat) (f : FmtA) : Statement (.tset k f) := statement_of_wf _
theorem ttst (k : Nat) (f : FmtA) : Statement (.ttst k f) := statement_of_wf _
theorem tclr (k : Nat) (f : FmtA) : Statement (.tclr k f) := statement_of_wf _
theorem emit (k : Nat) (f : FmtA) : Statement (.emit k f) := statement_of_wf _
theorem key (k : Nat) (op : BitVec 8) (f : FmtA) : Statement (.key k op f) := statement_of_wf _
theorem kgen (suite : Nat) : Statement (.kgen suite) := statement_of_wf _
theorem kderive (suite : Nat) : Statement (.kderive suite) := statement_of_wf _
theorem kseal (suite : Nat) : Statement (.kseal suite) := statement_of_wf _
theorem kopen (suite : Nat) : Statement (.kopen suite) := statement_of_wf _
theorem ksign (suite : Nat) : Statement (.ksign suite) := statement_of_wf _
theorem kverify (suite : Nat) : Statement (.kverify suite) := statement_of_wf _
theorem kagree (suite : Nat) : Statement (.kagree suite) := statement_of_wf _
theorem kexport (suite : Nat) : Statement (.kexport suite) := statement_of_wf _
theorem kimport (suite : Nat) : Statement (.kimport suite) := statement_of_wf _
theorem kdestroy (suite : Nat) : Statement (.kdestroy suite) := statement_of_wf _
theorem kinfo (suite : Nat) : Statement (.kinfo suite) := statement_of_wf _
theorem hsub (k : Nat) (f : FmtA) : Statement (.hsub k f) := statement_of_wf _
theorem brk (k : Nat) (n : BitVec 4) (lo : BitVec 4) (f : FmtA) : Statement (.brk k n lo f) := statement_of_wf _
theorem hearthEvaluation : Statement (.hearthEvaluation) := statement_of_wf _
theorem hearthTimerTrigger (slot : Nat) : Statement (.hearthTimerTrigger slot) := statement_of_wf _
theorem describe (q : CmdQueue) : Statement (.describe q) := statement_of_wf _
theorem status (q : CmdQueue) : Statement (.status q) := statement_of_wf _
theorem members (q : CmdQueue) : Statement (.members q) := statement_of_wf _
theorem unitReset (q : CmdQueue) : Statement (.unitReset q) := statement_of_wf _
theorem clearWorst (q : CmdQueue) : Statement (.clearWorst q) := statement_of_wf _
theorem clrWorst (u : UnitId) : Statement (.clrWorst u) := statement_of_wf _
theorem pointRead (host suite : Nat) (target : BitVec 64) (tag replyQueue : Nat) : Statement (.pointRead host suite target tag replyQueue) := statement_of_wf _
theorem groupMemberReply (g : GroupTag) (member : Nat) (a : MemberAnswer) : Statement (.groupMemberReply g member a) := statement_of_wf _
theorem groupMemberTimeout (g : GroupTag) : Statement (.groupMemberTimeout g) := statement_of_wf _
theorem taskModeRun (q : CmdQueue) : Statement (.taskModeRun q) := statement_of_wf _
theorem taskModeStop (q : CmdQueue) : Statement (.taskModeStop q) := statement_of_wf _
theorem taskModeHold (q : CmdQueue) : Statement (.taskModeHold q) := statement_of_wf _
theorem taskModeStep (q : CmdQueue) : Statement (.taskModeStep q) := statement_of_wf _
theorem modeTransition (c : Nat) : Statement (.modeTransition c) := statement_of_wf _
theorem setValue (q : CmdQueue) : Statement (.setValue q) := statement_of_wf _
theorem setConst (q : CmdQueue) : Statement (.setConst q) := statement_of_wf _
theorem onlineChangeApply (c : Nat) : Statement (.onlineChangeApply c) := statement_of_wf _
theorem brkArm (q : CmdQueue) : Statement (.brkArm q) := statement_of_wf _
theorem taskStatus (q : CmdQueue) : Statement (.taskStatus q) := statement_of_wf _
theorem ownerClaim (q : CmdQueue) : Statement (.ownerClaim q) := statement_of_wf _
theorem ownerClaimForce (q : CmdQueue) : Statement (.ownerClaimForce q) := statement_of_wf _
theorem electionClose (suite : Nat) : Statement (.electionClose suite) := statement_of_wf _
theorem ownerRenew (q : CmdQueue) : Statement (.ownerRenew q) := statement_of_wf _
theorem leaseExpiry (suite : Nat) : Statement (.leaseExpiry suite) := statement_of_wf _
theorem ownerRelease (q : CmdQueue) : Statement (.ownerRelease q) := statement_of_wf _
theorem ownerHandover (q : CmdQueue) : Statement (.ownerHandover q) := statement_of_wf _
theorem ownerAccept (q : CmdQueue) : Statement (.ownerAccept q) := statement_of_wf _
theorem handoverLapse (suite : Nat) : Statement (.handoverLapse suite) := statement_of_wf _
theorem suiteReset (q : CmdQueue) : Statement (.suiteReset q) := statement_of_wf _
theorem suiteFenceLift (suite : Nat) : Statement (.suiteFenceLift suite) := statement_of_wf _
theorem suiteStatus (q : CmdQueue) : Statement (.suiteStatus q) := statement_of_wf _
theorem ownerUnlock (q : CmdQueue) : Statement (.ownerUnlock q) := statement_of_wf _
theorem queueStatus (q : CmdQueue) : Statement (.queueStatus q) := statement_of_wf _
theorem queueClear (q : CmdQueue) : Statement (.queueClear q) := statement_of_wf _
theorem slotStatus (q : CmdQueue) : Statement (.slotStatus q) := statement_of_wf _
theorem pairSwitch (q : CmdQueue) : Statement (.pairSwitch q) := statement_of_wf _
theorem pairResync (q : CmdQueue) : Statement (.pairResync q) := statement_of_wf _
theorem portCounters (q : CmdQueue) : Statement (.portCounters q) := statement_of_wf _
theorem floorQuiet (q : CmdQueue) : Statement (.floorQuiet q) := statement_of_wf _
theorem quietAnswer (port : Nat) (cycle : Nat) (agree : Bool) : Statement (.quietAnswer port cycle agree) := statement_of_wf _
theorem quietEntry : Statement (.quietEntry) := statement_of_wf _
theorem floorWake (q : CmdQueue) : Statement (.floorWake q) := statement_of_wf _
theorem clockTrimIncrement (q : CmdQueue) : Statement (.clockTrimIncrement q) := statement_of_wf _
theorem clockTrimSlew (q : CmdQueue) : Statement (.clockTrimSlew q) := statement_of_wf _
theorem clockTrimStep (q : CmdQueue) : Statement (.clockTrimStep q) := statement_of_wf _
theorem clockChangeTick : Statement (.clockChangeTick) := statement_of_wf _
theorem slewEnd : Statement (.slewEnd) := statement_of_wf _
theorem hbCancel (q : CmdQueue) : Statement (.hbCancel q) := statement_of_wf _
theorem diCounts (q : CmdQueue) : Statement (.diCounts q) := statement_of_wf _
theorem meterRead (q : CmdQueue) : Statement (.meterRead q) := statement_of_wf _
theorem identity (q : CmdQueue) : Statement (.identity q) := statement_of_wf _
theorem lifecycleAdvance (q : CmdQueue) (rb : FuseReads) : Statement (.lifecycleAdvance q rb) := statement_of_wf _
theorem tamperClear (q : CmdQueue) : Statement (.tamperClear q) := statement_of_wf _
theorem atticRead (q : CmdQueue) : Statement (.atticRead q) := statement_of_wf _
theorem atticClear (q : CmdQueue) : Statement (.atticClear q) := statement_of_wf _
theorem updateBegin (q : CmdQueue) : Statement (.updateBegin q) := statement_of_wf _
theorem updateStage (q : CmdQueue) : Statement (.updateStage q) := statement_of_wf _
theorem updateCheck (q : CmdQueue) : Statement (.updateCheck q) := statement_of_wf _
theorem updateActivate (q : CmdQueue) : Statement (.updateActivate q) := statement_of_wf _
theorem updateConfirm (q : CmdQueue) (rb : FuseReads) : Statement (.updateConfirm q rb) := statement_of_wf _
theorem updateAbort (q : CmdQueue) : Statement (.updateAbort q) := statement_of_wf _
theorem updateStatus (q : CmdQueue) : Statement (.updateStatus q) := statement_of_wf _
theorem updateActivation (kind suite : Nat) : Statement (.updateActivation kind suite) := statement_of_wf _
theorem updateRecheck (kind suite : Nat) : Statement (.updateRecheck kind suite) := statement_of_wf _
theorem trialExpiry (kind suite : Nat) : Statement (.trialExpiry kind suite) := statement_of_wf _
theorem loopTest (q : CmdQueue) : Statement (.loopTest q) := statement_of_wf _
theorem loopTestEnd (u : UnitId) (r : LoopResult) : Statement (.loopTestEnd u r) := statement_of_wf _
theorem registerWrite (r : RegRef) (value : BitVec 64) : Statement (.registerWrite r value) := statement_of_wf _
theorem cycleStart (c : Nat) : Statement (.cycleStart c) := statement_of_wf _
theorem cycleAccept : Statement (.cycleAccept) := statement_of_wf _
theorem withdrawFrameSent (port : Nat) : Statement (.withdrawFrameSent port) := statement_of_wf _
theorem commit (c : Nat) : Statement (.commit c) := statement_of_wf _
theorem holdRerelease (c : Nat) : Statement (.holdRerelease c) := statement_of_wf _
theorem stopSafeState (c : Nat) : Statement (.stopSafeState c) := statement_of_wf _
theorem holdMaxTimeout (c : Nat) : Statement (.holdMaxTimeout c) := statement_of_wf _
theorem foundationTimeout : Statement (.foundationTimeout) := statement_of_wf _
theorem journalWrite : Statement (.journalWrite) := statement_of_wf _
theorem creditReservationExpiry (c : Nat) : Statement (.creditReservationExpiry c) := statement_of_wf _
theorem itemEnter (queue : Nat) (src : EngineSrc) (it : ItemIn) : Statement (.itemEnter queue src it) := statement_of_wf _
theorem queueControlError (e : LarderError) : Statement (.queueControlError e) := statement_of_wf _
theorem paceWindow (room : Nat) (steps : Nat) (tj : Int) : Statement (.paceWindow room steps tj) := statement_of_wf _
theorem linkTokenError (e : TokenError) : Statement (.linkTokenError e) := statement_of_wf _
theorem houseTimeAlignment (die : Nat) : Statement (.houseTimeAlignment die) := statement_of_wf _
theorem alignmentTimeout (die : Nat) : Statement (.alignmentTimeout die) := statement_of_wf _
theorem refclkFailure : Statement (.refclkFailure) := statement_of_wf _
theorem stallTimeout (station lane : Nat) (requester : Requester) : Statement (.stallTimeout station lane requester) := statement_of_wf _
theorem macReceive (port : Nat) (r : MacRx) : Statement (.macReceive port r) := statement_of_wf _
theorem pauseEnd (port : Nat) : Statement (.pauseEnd port) := statement_of_wf _
theorem portSwitchIngress : Statement (.portSwitchIngress) := statement_of_wf _
theorem egressFrameSent (port : Nat) : Statement (.egressFrameSent port) := statement_of_wf _
theorem pauseRepeat (port : Nat) : Statement (.pauseRepeat port) := statement_of_wf _
theorem portLinkChange (port : Nat) (l : LinkChange) : Statement (.portLinkChange port l) := statement_of_wf _
theorem halfRangeItem (port : Nat) : Statement (.halfRangeItem port) := statement_of_wf _
theorem epochInstall : Statement (.epochInstall) := statement_of_wf _
theorem epochDrained : Statement (.epochDrained) := statement_of_wf _
theorem transmitItem (suite : Nat) : Statement (.transmitItem suite) := statement_of_wf _
theorem pseDetection (port : Nat) (valid : Bool) : Statement (.pseDetection port valid) := statement_of_wf _
theorem pseDetectionRetry (port : Nat) : Statement (.pseDetectionRetry port) := statement_of_wf _
theorem pseClassification (port : Nat) (cls : Nat) : Statement (.pseClassification port cls) := statement_of_wf _
theorem psePowered (port : Nat) : Statement (.psePowered port) := statement_of_wf _
theorem psePdLost (port : Nat) : Statement (.psePdLost port) := statement_of_wf _
theorem pseOverload (port : Nat) : Statement (.pseOverload port) := statement_of_wf _
theorem pseBackoffExpiry (port : Nat) : Statement (.pseBackoffExpiry port) := statement_of_wf _
theorem uplinkEgress (port : Nat) : Statement (.uplinkEgress port) := statement_of_wf _
theorem governorWindow (port : Nat) (short : Bool) : Statement (.governorWindow port short) := statement_of_wf _
theorem rateStepDone (port : Nat) : Statement (.rateStepDone port) := statement_of_wf _
theorem rateStepAbandon (port : Nat) : Statement (.rateStepAbandon port) := statement_of_wf _
theorem governorResume (port : Nat) : Statement (.governorResume port) := statement_of_wf _
theorem launchItem (port : Nat) : Statement (.launchItem port) := statement_of_wf _
theorem launchSend (port : Nat) (error : Int) : Statement (.launchSend port error) := statement_of_wf _
theorem hallwayFrameReceived (hb : Nat) (fr : HallFrame) : Statement (.hallwayFrameReceived hb fr) := statement_of_wf _
theorem hallwayTakeItem (hb slot : Nat) : Statement (.hallwayTakeItem hb slot) := statement_of_wf _
theorem hallwayAttemptStart (hb ago : Nat) : Statement (.hallwayAttemptStart hb ago) := statement_of_wf _
theorem hallwayAttemptEnd (hb : Nat) (e : AttemptEnd) : Statement (.hallwayAttemptEnd hb e) := statement_of_wf _
theorem hallwayLifetimeExpiry (hb slot : Nat) : Statement (.hallwayLifetimeExpiry hb slot) := statement_of_wf _
theorem busOffRecovery (hb : Nat) : Statement (.busOffRecovery hb) := statement_of_wf _
theorem hallwayTimePair (group count : Nat) : Statement (.hallwayTimePair group count) := statement_of_wf _
theorem diChange (n : Nat) (mv : Nat) : Statement (.diChange n mv) := statement_of_wf _
theorem diSelfTest (n : Nat) (pass : Bool) : Statement (.diSelfTest n pass) := statement_of_wf _
theorem serialiseTurnOn (bank : Nat) : Statement (.serialiseTurnOn bank) := statement_of_wf _
theorem bankTrip (bank : Nat) : Statement (.bankTrip bank) := statement_of_wf _
theorem bankRetry (bank : Nat) : Statement (.bankRetry bank) := statement_of_wf _
theorem bankRetryCountClear (bank : Nat) : Statement (.bankRetryCountClear bank) := statement_of_wf _
theorem outputShutdown (out : Nat) : Statement (.outputShutdown out) := statement_of_wf _
theorem shutterTimeout (out : Nat) : Statement (.shutterTimeout out) := statement_of_wf _
theorem outputSenseFlag (out : Nat) (isOpen rise : Bool) : Statement (.outputSenseFlag out isOpen rise) := statement_of_wf _
theorem meterWindowEnd (w : MeterWindow) : Statement (.meterWindowEnd w) := statement_of_wf _
theorem meterQuantitiesArrive (circuit : Nat) (vals : List PointVal) : Statement (.meterQuantitiesArrive circuit vals) := statement_of_wf _
theorem meterFlashWrite : Statement (.meterFlashWrite) := statement_of_wf _
theorem pulseStart (out : Nat) : Statement (.pulseStart out) := statement_of_wf _
theorem pulseEnd (out : Nat) : Statement (.pulseEnd out) := statement_of_wf _
theorem heartbeatSend : Statement (.heartbeatSend) := statement_of_wf _
theorem heartbeatReceived (hb : Heartbeat) : Statement (.heartbeatReceived hb) := statement_of_wf _
theorem pathDead (strobe : Bool) : Statement (.pathDead strobe) := statement_of_wf _
theorem partnerMet (p : PartnerInfo) : Statement (.partnerMet p) := statement_of_wf _
theorem seekingTimeout : Statement (.seekingTimeout) := statement_of_wf _
theorem deltaShip : Statement (.deltaShip) := statement_of_wf _
theorem deltaApply (d : DeltaItems) : Statement (.deltaApply d) := statement_of_wf _
theorem deltaConfirmation (dseq : Nat) : Statement (.deltaConfirmation dseq) := statement_of_wf _
theorem confirmationTimeout (dseq : Nat) : Statement (.confirmationTimeout dseq) := statement_of_wf _
theorem preparedCycleCommit (suite task : Nat) : Statement (.preparedCycleCommit suite task) := statement_of_wf _
theorem twinClockExchange (activeTime : Time80) : Statement (.twinClockExchange activeTime) := statement_of_wf _
theorem landingFrameError (lane : Nat) : Statement (.landingFrameError lane) := statement_of_wf _
theorem reclaim : Statement (.reclaim) := statement_of_wf _
theorem switchInstant : Statement (.switchInstant) := statement_of_wf _
theorem switchHandover : Statement (.switchHandover) := statement_of_wf _
theorem tamper : Statement (.tamper) := statement_of_wf _
theorem atticRecordWrite : Statement (.atticRecordWrite) := statement_of_wf _
theorem atticFlush (fails : List Nat) : Statement (.atticFlush fails) := statement_of_wf _
theorem scrubLine (found : List Upset) : Statement (.scrubLine found) := statement_of_wf _
theorem backupSwitch (toBackup : Bool) : Statement (.backupSwitch toBackup) := statement_of_wf _
theorem vbakMeasure (millivolts : Nat) : Statement (.vbakMeasure millivolts) := statement_of_wf _
theorem oscStop : Statement (.oscStop) := statement_of_wf _
theorem setRunRelease : Statement (.setRunRelease) := statement_of_wf _
theorem trimWindowEnd (counted : Nat) : Statement (.trimWindowEnd counted) := statement_of_wf _
theorem mantelWake : Statement (.mantelWake) := statement_of_wf _
theorem pfail : Statement (.pfail) := statement_of_wf _
theorem powerOnReset : Statement (.powerOnReset) := statement_of_wf _
theorem resetNLow (nanoseconds : Nat) : Statement (.resetNLow nanoseconds) := statement_of_wf _
theorem managementWatchdog : Statement (.managementWatchdog) := statement_of_wf _
theorem startSequence (b : BootEnv) : Statement (.startSequence b) := statement_of_wf _
theorem tapReset : Statement (.tapReset) := statement_of_wf _
theorem extest : Statement (.extest) := statement_of_wf _
theorem samplePreload (capture : List Bool) (update : List Bool) : Statement (.samplePreload capture update) := statement_of_wf _
theorem idcode : Statement (.idcode) := statement_of_wf _
theorem clamp : Statement (.clamp) := statement_of_wf _
theorem highz : Statement (.highz) := statement_of_wf _
theorem extestPulse : Statement (.extestPulse) := statement_of_wf _
theorem extestTrain : Statement (.extestTrain) := statement_of_wf _
theorem ident : Statement (.ident) := statement_of_wf _
theorem bypass : Statement (.bypass) := statement_of_wf _
theorem holdingExit : Statement (.holdingExit) := statement_of_wf _
theorem pfailNRise : Statement (.pfailNRise) := statement_of_wf _
theorem vfieldLoss : Statement (.vfieldLoss) := statement_of_wf _
theorem vfieldReturn : Statement (.vfieldReturn) := statement_of_wf _
theorem linkPartnerLeavingLpi (port : Nat) : Statement (.linkPartnerLeavingLpi port) := statement_of_wf _
theorem eeeLpiEntry (port : Nat) : Statement (.eeeLpiEntry port) := statement_of_wf _
theorem hallwayBusIntegration (hb : Nat) : Statement (.hallwayBusIntegration hb) := statement_of_wf _
theorem hallwayReceiveError (hb : Nat) (e : RxError) : Statement (.hallwayReceiveError hb e) := statement_of_wf _
theorem protocolExceptionEvent (hb : Nat) : Statement (.protocolExceptionEvent hb) := statement_of_wf _
theorem hostSessionOpen (h : SessionOpen) : Statement (.hostSessionOpen h) := statement_of_wf _
theorem hostSessionClose (host number : Nat) : Statement (.hostSessionClose host number) := statement_of_wf _
theorem hostAcknowledgement (host number queue seq : Nat) : Statement (.hostAcknowledgement host number queue seq) := statement_of_wf _
theorem pairUpdateSwitchover : Statement (.pairUpdateSwitchover) := statement_of_wf _
theorem pairUpdateTimeout : Statement (.pairUpdateTimeout) := statement_of_wf _
theorem mwakeNRelease : Statement (.mwakeNRelease) := statement_of_wf _

end Sys2Proof.Laws.Wf
end

