-- ==== Sys2Proof/Laws/SramSame.lean ====
section
/-! SUPPORT. The operations that leave the data SRAM as it is: one lemma for each, which every caller cites. -/

namespace Sys2Proof.Machine
open Sys2Proof

theorem ite_agrees {α β : Type} {f : α → β} (c : Prop) [Decidable c] {a b : α} {x : β} (ha : f a = x) (hb : f b = x) : f (if c then a else b) = x := by
  split
  · exact ha
  · exact hb
def CfgOut.state : CfgOut → State
  | .ends e => e.s
  | .waits s => s
def Did.after (s : State) : Did → State
  | .fault _ _ _ => s
  | .denied _ => s
  | .memory _ _ => s
  | .next s' _ => s'
  | .goto s' _ _ => s'
  | .ends s' _ => s'
  | .waits s' => s'
@[simp] theorem state_ends (e : CfgEnd) : (CfgOut.ends e).state = e.s := rfl
@[simp] theorem state_waits (s : State) : (CfgOut.waits s).state = s := rfl
@[simp] theorem after_fault (s : State) (a : FClass) (b : Reason) (c : BitVec 64) : (Did.fault a b c).after s = s := rfl
@[simp] theorem after_denied (s : State) (a : Reason) : (Did.denied a).after s = s := rfl
@[simp] theorem after_memory (s : State) (a : BitVec 64) (b : Nat) : (Did.memory a b).after s = s := rfl
@[simp] theorem after_next (s t : State) (x : Ctx) : (Did.next t x).after s = t := rfl
@[simp] theorem after_goto (s t : State) (x : Ctx) (p : BitVec 32) : (Did.goto t x p).after s = t := rfl
@[simp] theorem after_ends (s t : State) (x : Ctx) : (Did.ends t x).after s = t := rfl
@[simp] theorem after_waits (s t : State) : (Did.waits t).after s = t := rfl
@[simp] theorem ite_state (c : Prop) [Decidable c] (a b : CfgOut) : (if c then a else b).state = if c then a.state else b.state := by split <;> rfl
@[simp] theorem ite_after (s : State) (c : Prop) [Decidable c] (a b : Did) : (if c then a else b).after s = if c then a.after s else b.after s := by split <;> rfl
@[simp] theorem ite_cmd_s (c : Prop) [Decidable c] (a b : CmdResult) : (if c then a else b).s = if c then a.s else b.s := by split <;> rfl
@[simp] theorem ite_key_s (c : Prop) [Decidable c] (a b : KeyEnd) : (if c then a else b).s = if c then a.s else b.s := by split <;> rfl
@[simp] theorem ite_fst {β : Type} (c : Prop) [Decidable c] (a b : State × β) : (if c then a else b).1 = if c then a.1 else b.1 := by split <;> rfl
@[simp] theorem ite_cmd_fst {β : Type} (c : Prop) [Decidable c] (a b : CmdResult × β) : (if c then a else b).1 = if c then a.1 else b.1 := by split <;> rfl
@[simp] theorem foldl_sram {β : Type} (f : State → β → State) (h : ∀ s b, (f s b).sram = s.sram) (l : List β) (s : State) : (l.foldl f s).sram = s.sram := by
  induction l generalizing s with
  | nil => rfl
  | cons b l ih => simp [ih, h]
@[simp] theorem foldl_fst_sram {β γ : Type} (f : State × γ → β → State × γ) (h : ∀ p b, (f p b).1.sram = p.1.sram) (l : List β) (p : State × γ) : (l.foldl f p).1.sram = p.1.sram := by
  induction l generalizing p with
  | nil => rfl
  | cons b l ih => simp [ih, h]
@[simp] theorem ite_sram (c : Prop) [Decidable c] (a b : State) : (if c then a else b).sram = if c then a.sram else b.sram := by split <;> rfl

@[simp] theorem clocked_sram (a0 a1 : State) (h : a1.sram = a0.sram) : (clocked a0 a1).sram = a0.sram := by
  unfold clocked; split
  · rfl
  · exact h
@[simp] theorem State_withFetchWord_sram (a0 : State) (a1 : _) (a2 : _) : (State.withFetchWord a0 a1 a2).sram = a0.sram := by
  unfold State.withFetchWord
  repeat' first
    | with_reducible rfl
    | with_reducible refine ite_agrees (f := State.sram) _ ?_ ?_
    | with_reducible refine (foldl_sram _ ?_ _ _).trans ?_
    | with_reducible refine (foldl_fst_sram _ ?_ _ _).trans ?_
    | intro _
    | split
@[simp] theorem postEvent_sram (a0 : State) (a1 : _) : (postEvent a0 a1).sram = a0.sram := by simp [postEvent]
@[simp] theorem noteSeverity_sram (a0 : State) (a1 : _) (a2 : _) (a3 : _) : (noteSeverity a0 a1 a2 a3).sram = a0.sram := by
  unfold noteSeverity
  repeat' first
    | with_reducible rfl
    | with_reducible refine (setUnitStat_sram _ _ _ ).trans ?_
    | with_reducible refine ite_agrees (f := State.sram) _ ?_ ?_
    | with_reducible refine (foldl_sram _ ?_ _ _).trans ?_
    | with_reducible refine (foldl_fst_sram _ ?_ _ _).trans ?_
    | intro _
    | split
@[simp] theorem raiseEvent_sram (a0 : State) (a1 : _) (a2 : _) (a3 : _) (a4 : _) (a5 : _) : (raiseEvent a0 a1 a2 a3 a4 a5).sram = a0.sram := by simp [raiseEvent]
@[simp] theorem tellOutcome_sram (a0 : State) (a1 : _) (a2 : _) (a3 : _) : (tellOutcome a0 a1 a2 a3).sram = a0.sram := by simp [tellOutcome]
@[simp] theorem endActivation_sram (a0 : State) (a1 : _) (a2 : _) (a3 : _) : (endActivation a0 a1 a2 a3).sram = a0.sram := by simp [endActivation]
@[simp] theorem abandonHalf_sram (a0 : State) : (abandonHalf a0).sram = a0.sram := by simp [abandonHalf]
@[simp] theorem dropPacket_sram (a0 : State) (a1 : _) : (dropPacket a0 a1).sram = a0.sram := by
  unfold dropPacket
  repeat' first
    | with_reducible rfl
    | with_reducible refine (setQueue_sram _ _ _ ).trans ?_
    | with_reducible refine (setCtx_sram _ _ _ ).trans ?_
    | with_reducible refine ite_agrees (f := State.sram) _ ?_ ?_
    | with_reducible refine (foldl_sram _ ?_ _ _).trans ?_
    | with_reducible refine (foldl_fst_sram _ ?_ _ _).trans ?_
    | intro _
    | split
@[simp] theorem mirror_sram (a0 : State) (a1 : _) : (mirror a0 a1).sram = a0.sram := by simp [mirror]
@[simp] theorem mirrorMode_sram (a0 : State) (a1 : _) : (mirrorMode a0 a1).sram = a0.sram := by simp [mirrorMode]
@[simp] theorem enterHold_sram (a0 : State) (a1 : _) : (enterHold a0 a1).sram = a0.sram := by simp [enterHold]
@[simp] theorem countPort_sram (a0 : State) (a1 : _) (a2 : _) (a3 : _) (a4 : _) : (countPort a0 a1 a2 a3 a4).sram = a0.sram := by simp [countPort]
@[simp] theorem sendPause_sram (a0 : State) (a1 : _) (a2 : _) : (sendPause a0 a1 a2).sram = a0.sram := by simp [sendPause]
@[simp] theorem pauseOn_sram (a0 : State) (a1 : _) (a2 : _) : (pauseOn a0 a1 a2).sram = a0.sram := by simp [pauseOn]
@[simp] theorem judgeLater_sram (a0 : State) (a1 : _) : (judgeLater a0 a1).sram = a0.sram := by
  unfold judgeLater
  repeat' first
    | with_reducible rfl
    | with_reducible refine (setQueue_sram _ _ _ ).trans ?_
    | with_reducible refine ite_agrees (f := State.sram) _ ?_ ?_
    | with_reducible refine (foldl_sram _ ?_ _ _).trans ?_
    | with_reducible refine (foldl_fst_sram _ ?_ _ _).trans ?_
    | intro _
    | split
@[simp] theorem mirrorAcks_sram (a0 : State) (a1 : _) (a2 : _) : (mirrorAcks a0 a1 a2).sram = a0.sram := by simp [mirrorAcks]
@[simp] theorem dropItems_sram (a0 : State) (a1 : _) (a2 : _) : (dropItems a0 a1 a2).sram = a0.sram := by
  unfold dropItems
  repeat' first
    | with_reducible rfl
    | with_reducible refine (setQueue_sram _ _ _ ).trans ?_
    | with_reducible refine (judgeLater_sram _ _ ).trans ?_
    | with_reducible refine (mirrorAcks_sram _ _ _ ).trans ?_
    | with_reducible refine ite_agrees (f := State.sram) _ ?_ ?_
    | with_reducible refine (foldl_sram _ ?_ _ _).trans ?_
    | with_reducible refine (foldl_fst_sram _ ?_ _ _).trans ?_
    | intro _
    | split
@[simp] theorem resetQueues_sram (a0 : State) (a1 : _) (a2 : _) : (resetQueues a0 a1 a2).sram = a0.sram := by simp [resetQueues]
@[simp] theorem conduct_sram (a0 : State) (a1 : _) (a2 : _) : (conduct a0 a1 a2).sram = a0.sram := by
  unfold conduct
  repeat' first
    | with_reducible rfl
    | with_reducible refine (setOutput_sram _ _ _ ).trans ?_
    | with_reducible refine ite_agrees (f := State.sram) _ ?_ ?_
    | with_reducible refine (foldl_sram _ ?_ _ _).trans ?_
    | with_reducible refine (foldl_fst_sram _ ?_ _ _).trans ?_
    | intro _
    | split
@[simp] theorem turnOff_sram (a0 : State) (a1 : _) : (turnOff a0 a1).sram = a0.sram := by simp [turnOff]
@[simp] theorem driveSafe_sram (a0 : State) (a1 : _) : (driveSafe a0 a1).sram = a0.sram := by simp [driveSafe]
@[simp] theorem wakePort_sram (a0 : State) (a1 : _) : (wakePort a0 a1).sram = a0.sram := by simp [wakePort]
@[simp] theorem mirrorEntry_sram (a0 : State) (a1 : _) (a2 : _) : (mirrorEntry a0 a1 a2).sram = a0.sram := by simp [mirrorEntry]
@[simp] theorem enterItem_sram (a0 : State) (a1 : _) (a2 : _) : (enterItem a0 a1 a2).sram = a0.sram := by simp [enterItem]
@[simp] theorem spendAndEnter_sram (a0 : State) (a1 : _) (a2 : _) : (spendAndEnter a0 a1 a2).sram = a0.sram := by
  unfold spendAndEnter
  repeat' first
    | with_reducible rfl
    | with_reducible refine (setQueue_sram _ _ _ ).trans ?_
    | with_reducible refine (enterItem_sram _ _ _ ).trans ?_
    | with_reducible refine ite_agrees (f := State.sram) _ ?_ ?_
    | with_reducible refine (foldl_sram _ ?_ _ _).trans ?_
    | with_reducible refine (foldl_fst_sram _ ?_ _ _).trans ?_
    | intro _
    | split
@[simp] theorem putItem_sram (a0 : State) (a1 : _) (a2 : _) (a3 : _) (a4 : _) (a5 : _) (a6 : _) (a7 : _) : (putItem a0 a1 a2 a3 a4 a5 a6 a7).1.sram = a0.sram := by
  unfold putItem; split <;> simp
@[simp] theorem enterCompletion_sram (a0 : State) (a1 : _) (a2 : _) (a3 : _) (a4 : _) : (enterCompletion a0 a1 a2 a3 a4).sram = a0.sram := by
  unfold enterCompletion
  repeat' first
    | with_reducible rfl
    | with_reducible refine (setQueue_sram _ _ _ ).trans ?_
    | with_reducible refine (spendAndEnter_sram _ _ _ ).trans ?_
    | with_reducible refine (enterItem_sram _ _ _ ).trans ?_
    | with_reducible refine (putItem_sram _ _ _ _ _ _ _ _ ).trans ?_
    | with_reducible refine ite_agrees (f := State.sram) _ ?_ ?_
    | with_reducible refine (foldl_sram _ ?_ _ _).trans ?_
    | with_reducible refine (foldl_fst_sram _ ?_ _ _).trans ?_
    | intro _
    | split
@[simp] theorem reportBroken_sram (a0 : State) (a1 : _) (a2 : _) : (reportBroken a0 a1 a2).1.sram = a0.sram := by simp [reportBroken]
@[simp] theorem sendCompletion_sram (a0 : State) (a1 : _) (a2 : _) (a3 : _) : (sendCompletion a0 a1 a2 a3).sram = a0.sram := by
  unfold sendCompletion
  repeat' first
    | with_reducible rfl
    | with_reducible refine (setSuite_sram _ _ _ ).trans ?_
    | with_reducible refine (enterCompletion_sram _ _ _ _ _ ).trans ?_
    | with_reducible refine (reportBroken_sram _ _ _ ).trans ?_
    | with_reducible refine ite_agrees (f := State.sram) _ ?_ ?_
    | with_reducible refine (foldl_sram _ ?_ _ _).trans ?_
    | with_reducible refine (foldl_fst_sram _ ?_ _ _).trans ?_
    | intro _
    | split
@[simp] theorem keepRecord_sram (a0 : State) (a1 : _) : (keepRecord a0 a1).sram = a0.sram := by
  unfold keepRecord
  repeat' first
    | with_reducible rfl
    | with_reducible refine ite_agrees (f := State.sram) _ ?_ ?_
    | with_reducible refine (foldl_sram _ ?_ _ _).trans ?_
    | with_reducible refine (foldl_fst_sram _ ?_ _ _).trans ?_
    | intro _
    | split
@[simp] theorem recordReply_sram (a0 : State) (a1 : _) (a2 : _) (a3 : _) (a4 : _) (a5 : _) (a6 : _) (a7 : _) : (recordReply a0 a1 a2 a3 a4 a5 a6 a7).sram = a0.sram := by
  unfold recordReply; dsimp only; repeat' split
  all_goals simp
@[simp] theorem wakeFloor_sram (a0 : State) : (wakeFloor a0).sram = a0.sram := by
  unfold wakeFloor
  repeat' first
    | with_reducible rfl
    | with_reducible refine (setUnitStat_sram _ _ _ ).trans ?_
    | with_reducible refine (sendCompletion_sram _ _ _ _ ).trans ?_
    | with_reducible refine (raiseEvent_sram _ _ _ _ _ _ ).trans ?_
    | with_reducible refine (wakePort_sram _ _ ).trans ?_
    | with_reducible refine (recordReply_sram _ _ _ _ _ _ _ _ ).trans ?_
    | with_reducible refine ite_agrees (f := State.sram) _ ?_ ?_
    | with_reducible refine (foldl_sram _ ?_ _ _).trans ?_
    | with_reducible refine (foldl_fst_sram _ ?_ _ _).trans ?_
    | intro _
    | split
@[simp] theorem enterEgress_sram (a0 : State) (a1 : _) (a2 : _) : (enterEgress a0 a1 a2).1.sram = a0.sram := by
  unfold enterEgress; dsimp only; repeat' split
  all_goals simp
@[simp] theorem withdrawFrames_sram (a0 : State) (a1 : _) (a2 : _) (a3 : _) (a4 : _) : (withdrawFrames a0 a1 a2 a3 a4).1.sram = a0.sram := by simp [withdrawFrames]
@[simp] theorem mirrorCycle_sram (a0 : State) (a1 : _) (a2 : _) (a3 : _) (a4 : _) : (mirrorCycle a0 a1 a2 a3 a4).sram = a0.sram := by
  unfold mirrorCycle
  repeat' first
    | with_reducible rfl
    | with_reducible refine (mirror_sram _ _ ).trans ?_
    | with_reducible refine ite_agrees (f := State.sram) _ ?_ ?_
    | with_reducible refine (foldl_sram _ ?_ _ _).trans ?_
    | with_reducible refine (foldl_fst_sram _ ?_ _ _).trans ?_
    | intro _
    | split
@[simp] theorem outcomeEvent_sram (a0 : State) (a1 : _) (a2 : _) : (outcomeEvent a0 a1 a2).sram = a0.sram := by
  unfold outcomeEvent
  repeat' first
    | with_reducible rfl
    | with_reducible refine (raiseEvent_sram _ _ _ _ _ _ ).trans ?_
    | with_reducible refine ite_agrees (f := State.sram) _ ?_ ?_
    | with_reducible refine (foldl_sram _ ?_ _ _).trans ?_
    | with_reducible refine (foldl_fst_sram _ ?_ _ _).trans ?_
    | intro _
    | split
@[simp] theorem tellCycleOutcome_sram (a0 : State) (a1 : _) (a2 : _) : (tellCycleOutcome a0 a1 a2).sram = a0.sram := by
  unfold tellCycleOutcome
  repeat' first
    | with_reducible rfl
    | with_reducible refine (setTask_sram _ _ _ ).trans ?_
    | with_reducible refine (outcomeEvent_sram _ _ _ ).trans ?_
    | with_reducible refine ite_agrees (f := State.sram) _ ?_ ?_
    | with_reducible refine (foldl_sram _ ?_ _ _).trans ?_
    | with_reducible refine (foldl_fst_sram _ ?_ _ _).trans ?_
    | intro _
    | split
@[simp] theorem shipDelta_sram (a0 : State) (a1 : _) (a2 : _) (a3 : _) (a4 : _) (a5 : _) : (shipDelta a0 a1 a2 a3 a4 a5).sram = a0.sram := by simp [shipDelta]
@[simp] theorem tellWinner_sram (a0 : State) (a1 : _) (a2 : _) : (tellWinner a0 a1 a2).sram = a0.sram := by
  unfold tellWinner
  repeat' first
    | with_reducible rfl
    | with_reducible refine (shipDelta_sram _ _ _ _ _ _ ).trans ?_
    | with_reducible refine (outcomeEvent_sram _ _ _ ).trans ?_
    | with_reducible refine ite_agrees (f := State.sram) _ ?_ ?_
    | with_reducible refine (foldl_sram _ ?_ _ _).trans ?_
    | with_reducible refine (foldl_fst_sram _ ?_ _ _).trans ?_
    | intro _
    | split
@[simp] theorem makeOutcome_sram (a0 : State) (a1 : _) (a2 : _) (a3 : _) (a4 : _) : (makeOutcome a0 a1 a2 a3 a4).sram = a0.sram := by
  unfold makeOutcome; dsimp only; repeat' split
  all_goals simp
@[simp] theorem settleCancelled_sram (a0 : State) (a1 : _) : (settleCancelled a0 a1).sram = a0.sram := by
  unfold settleCancelled
  repeat' first
    | with_reducible rfl
    | with_reducible refine (setTask_sram _ _ _ ).trans ?_
    | with_reducible refine (setPoint_sram _ _ _ ).trans ?_
    | with_reducible refine (makeOutcome_sram _ _ _ _ _ ).trans ?_
    | with_reducible refine ite_agrees (f := State.sram) _ ?_ ?_
    | with_reducible refine (foldl_sram _ ?_ _ _).trans ?_
    | with_reducible refine (foldl_fst_sram _ ?_ _ _).trans ?_
    | intro _
    | split
@[simp] theorem cancelCycle_sram (a0 : State) (a1 : _) (a2 : _) (a3 : _) : (cancelCycle a0 a1 a2 a3).sram = a0.sram := by
  unfold cancelCycle
  repeat' first
    | with_reducible rfl
    | with_reducible refine (setQueue_sram _ _ _ ).trans ?_
    | with_reducible refine (mirror_sram _ _ ).trans ?_
    | with_reducible refine (withdrawFrames_sram _ _ _ _ _ ).trans ?_
    | with_reducible refine (mirrorCycle_sram _ _ _ _ _ ).trans ?_
    | with_reducible refine (setTask_sram _ _ _ ).trans ?_
    | with_reducible refine (settleCancelled_sram _ _ ).trans ?_
    | with_reducible refine ite_agrees (f := State.sram) _ ?_ ?_
    | with_reducible refine (foldl_sram _ ?_ _ _).trans ?_
    | with_reducible refine (foldl_fst_sram _ ?_ _ _).trans ?_
    | intro _
    | split
@[simp] theorem cancelOpen_sram (a0 : State) (a1 : _) : (cancelOpen a0 a1).sram = a0.sram := by
  unfold cancelOpen
  repeat' first
    | with_reducible rfl
    | with_reducible refine (cancelCycle_sram _ _ _ _ ).trans ?_
    | with_reducible refine ite_agrees (f := State.sram) _ ?_ ?_
    | with_reducible refine (foldl_sram _ ?_ _ _).trans ?_
    | with_reducible refine (foldl_fst_sram _ ?_ _ _).trans ?_
    | intro _
    | split
@[simp] theorem wipeSlot_sram (a0 : State) (a1 : _) : (wipeSlot a0 a1).sram = a0.sram := by simp [wipeSlot]
@[simp] theorem destroyKeys_sram (a0 : State) (a1 : _) : (destroyKeys a0 a1).sram = a0.sram := by simp [destroyKeys]
@[simp] theorem noteStatus_sram (a0 : State) (a1 : _) (a2 : _) : (noteStatus a0 a1 a2).sram = a0.sram := by
  unfold noteStatus
  repeat' first
    | with_reducible rfl
    | with_reducible refine (setUnitStat_sram _ _ _ ).trans ?_
    | with_reducible refine ite_agrees (f := State.sram) _ ?_ ?_
    | with_reducible refine (foldl_sram _ ?_ _ _).trans ?_
    | with_reducible refine (foldl_fst_sram _ ?_ _ _).trans ?_
    | intro _
    | split
@[simp] theorem noteReply_sram (a0 : State) (a1 : _) (a2 : _) (a3 : _) (a4 : _) (a5 : _) (a6 : _) (a7 : _) : (noteReply a0 a1 a2 a3 a4 a5 a6 a7).sram = a0.sram := by
  unfold noteReply
  repeat' first
    | with_reducible rfl
    | with_reducible refine (recordReply_sram _ _ _ _ _ _ _ _ ).trans ?_
    | with_reducible refine (noteStatus_sram _ _ _ ).trans ?_
    | with_reducible refine ite_agrees (f := State.sram) _ ?_ ?_
    | with_reducible refine (foldl_sram _ ?_ _ _).trans ?_
    | with_reducible refine (foldl_fst_sram _ ?_ _ _).trans ?_
    | intro _
    | split
@[simp] theorem lateReply_sram (a0 : State) (a1 : _) (a2 : _) (a3 : _) (a4 : _) (a5 : _) (a6 : _) (a7 : _) (a8 : _) : (lateReply a0 a1 a2 a3 a4 a5 a6 a7 a8).sram = a0.sram := by
  unfold lateReply
  repeat' first
    | with_reducible rfl
    | with_reducible refine (noteReply_sram _ _ _ _ _ _ _ _ ).trans ?_
    | with_reducible refine (sendCompletion_sram _ _ _ _ ).trans ?_
    | with_reducible refine ite_agrees (f := State.sram) _ ?_ ?_
    | with_reducible refine (foldl_sram _ ?_ _ _).trans ?_
    | with_reducible refine (foldl_fst_sram _ ?_ _ _).trans ?_
    | intro _
    | split
@[simp] theorem completeKey_sram (a0 : State) (a1 : _) (a2 : _) (a3 : _) : (completeKey a0 a1 a2 a3).sram = a0.sram := by simp [completeKey]
@[simp] theorem ackItem_sram (a0 : State) (a1 : _) (a2 : _) : (ackItem a0 a1 a2).sram = a0.sram := by simp [ackItem]
@[simp] theorem completeLaunch_sram (a0 : State) (a1 : _) (a2 : _) (a3 : _) (a4 : _) (a5 : _) : (completeLaunch a0 a1 a2 a3 a4 a5).sram = a0.sram := by simp [completeLaunch]
@[simp] theorem completeOffered_sram (a0 : State) (a1 : _) (a2 : _) (a3 : _) (a4 : _) : (completeOffered a0 a1 a2 a3 a4).sram = a0.sram := by simp [completeOffered]
@[simp] theorem completeCfg_sram (a0 : State) (a1 : _) (a2 : _) (a3 : _) (a4 : _) : (completeCfg a0 a1 a2 a3 a4).sram = a0.sram := by simp [completeCfg]
@[simp] theorem clearSlots_sram (a0 : State) (a1 : _) (a2 : _) : (clearSlots a0 a1 a2).sram = a0.sram := by simp [clearSlots]
@[simp] theorem noteTarget_sram (a0 : State) (a1 : _) (a2 : _) : (noteTarget a0 a1 a2).sram = a0.sram := by
  unfold noteTarget
  repeat' first
    | with_reducible rfl
    | with_reducible refine (noteStatus_sram _ _ _ ).trans ?_
    | with_reducible refine ite_agrees (f := State.sram) _ ?_ ?_
    | with_reducible refine (foldl_sram _ ?_ _ _).trans ?_
    | with_reducible refine (foldl_fst_sram _ ?_ _ _).trans ?_
    | intro _
    | split
@[simp] theorem finishCfg_sram (a0 : _) (a1 : _) : (finishCfg a0 a1).sram = a1.s.sram := by simp [finishCfg]
@[simp] theorem endWaiting_sram (a0 : _) (a1 : _) (a2 : State) : (endWaiting a0 a1 a2).sram = a2.sram := by
  unfold endWaiting
  repeat' first
    | with_reducible rfl
    | with_reducible refine (finishCfg_sram _ _ ).trans ?_
    | with_reducible refine ite_agrees (f := State.sram) _ ?_ ?_
    | with_reducible refine (foldl_sram _ ?_ _ _).trans ?_
    | with_reducible refine (foldl_fst_sram _ ?_ _ _).trans ?_
    | intro _
    | split
@[simp] theorem engineConsumes_sram (a0 : State) (a1 : _) (a2 : _) : (engineConsumes a0 a1 a2).sram = a0.sram := by simp [engineConsumes]
@[simp] theorem undeliver_sram (a0 : State) (a1 : _) (a2 : _) : (undeliver a0 a1 a2).sram = a0.sram := by simp [undeliver]
@[simp] theorem engineLeaves_sram (a0 : State) (a1 : _) (a2 : _) : (engineLeaves a0 a1 a2).sram = a0.sram := by simp [engineLeaves]
@[simp] theorem moveConsumer_sram (a0 : State) (a1 : _) (a2 : _) (a3 : _) : (moveConsumer a0 a1 a2 a3).sram = a0.sram := by simp [moveConsumer]
@[simp] theorem applyHallSlot_sram (a0 : State) (a1 : _) (a2 : _) (a3 : _) : (applyHallSlot a0 a1 a2 a3).sram = a0.sram := by simp [applyHallSlot]
@[simp] theorem settleSlots_sram (a0 : State) (a1 : _) : (settleSlots a0 a1).sram = a0.sram := by
  unfold settleSlots
  repeat' first
    | with_reducible rfl
    | with_reducible refine (endWaiting_sram _ _ _ ).trans ?_
    | with_reducible refine (applyHallSlot_sram _ _ _ _ ).trans ?_
    | with_reducible refine ite_agrees (f := State.sram) _ ?_ ?_
    | with_reducible refine (foldl_sram _ ?_ _ _).trans ?_
    | with_reducible refine (foldl_fst_sram _ ?_ _ _).trans ?_
    | intro _
    | split
@[simp] theorem discardRequests_sram (a0 : State) (a1 : _) : (discardRequests a0 a1).1.sram = a0.sram := by
  unfold discardRequests
  repeat' first
    | with_reducible rfl
    | with_reducible refine (lateReply_sram _ _ _ _ _ _ _ _ _ ).trans ?_
    | with_reducible refine (sendCompletion_sram _ _ _ _ ).trans ?_
    | with_reducible refine (completeKey_sram _ _ _ _ ).trans ?_
    | with_reducible refine (completeLaunch_sram _ _ _ _ _ _ ).trans ?_
    | with_reducible refine (completeOffered_sram _ _ _ _ _ ).trans ?_
    | with_reducible refine (completeCfg_sram _ _ _ _ _ ).trans ?_
    | with_reducible refine (setTask_sram _ _ _ ).trans ?_
    | with_reducible refine (clearSlots_sram _ _ _ ).trans ?_
    | with_reducible refine (settleSlots_sram _ _ ).trans ?_
    | with_reducible refine ite_agrees (f := State.sram) _ ?_ ?_
    | with_reducible refine (foldl_sram _ ?_ _ _).trans ?_
    | with_reducible refine (foldl_fst_sram _ ?_ _ _).trans ?_
    | intro _
    | split
@[simp] theorem undeliverTask_sram (a0 : State) (a1 : _) : (undeliverTask a0 a1).sram = a0.sram := by simp [undeliverTask]
@[simp] theorem breakJournal_sram (a0 : State) : (breakJournal a0).sram = a0.sram := by simp [breakJournal]
@[simp] theorem cutRecord_sram (a0 : State) (a1 : _) : (cutRecord a0 a1).sram = a0.sram := by simp [cutRecord]
@[simp] theorem takeLines_sram (a0 : State) (a1 : _) : (takeLines a0 a1).1.sram = a0.sram := by simp [takeLines]
@[simp] theorem countThreshold_sram (a0 : State) (a1 : _) : (countThreshold a0 a1).sram = a0.sram := by simp [countThreshold]
@[simp] theorem endFoundation_sram (a0 : State) (a1 : _) : (endFoundation a0 a1).sram = a0.sram := by simp [endFoundation]
@[simp] theorem takeCommand_sram (a0 : State) (a1 : _) : (takeCommand a0 a1).sram = a0.sram := by simp [takeCommand]
@[simp] theorem takeRequest_sram (a0 : State) (a1 : _) : (takeRequest a0 a1).sram = a0.sram := by simp [takeRequest]
@[simp] theorem sendReply_sram (a0 : State) (a1 : _) (a2 : _) (a3 : _) : (sendReply a0 a1 a2 a3).sram = a0.sram := by
  unfold sendReply
  repeat' first
    | with_reducible rfl
    | with_reducible refine (sendCompletion_sram _ _ _ _ ).trans ?_
    | with_reducible refine ite_agrees (f := State.sram) _ ?_ ?_
    | with_reducible refine (foldl_sram _ ?_ _ _).trans ?_
    | with_reducible refine (foldl_fst_sram _ ?_ _ _).trans ?_
    | intro _
    | split
@[simp] theorem finishCommand_sram (a0 : _) (a1 : _) (a2 : _) : (finishCommand a0 a1 a2).sram = a2.s.sram := by
  unfold finishCommand
  repeat' first
    | with_reducible rfl
    | with_reducible refine (noteReply_sram _ _ _ _ _ _ _ _ ).trans ?_
    | with_reducible refine (sendReply_sram _ _ _ _ ).trans ?_
    | with_reducible refine ite_agrees (f := State.sram) _ ?_ ?_
    | with_reducible refine (foldl_sram _ ?_ _ _).trans ?_
    | with_reducible refine (foldl_fst_sram _ ?_ _ _).trans ?_
    | intro _
    | split
@[simp] theorem abandonTrim_sram (a0 : State) (a1 : _) : (abandonTrim a0 a1).sram = a0.sram := by simp [abandonTrim]
@[simp] theorem refuse_sram (a0 : State) (a1 : _) : (refuse a0 a1).s.sram = a0.sram := by simp [refuse]
@[simp] theorem resetLater_sram (a0 : State) (a1 : _) (a2 : _) : (resetLater a0 a1 a2).sram = a0.sram := by simp [resetLater]
@[simp] theorem loseKeys_sram (a0 : State) : (loseKeys a0).sram = a0.sram := by simp [loseKeys]
@[simp] theorem keepWarm_sram1 (a0 : State) (a1 : State) : (keepWarm a0 a1).sram = a1.sram := by simp [keepWarm]
@[simp] theorem noteDeadline_sram (a0 : State) (a1 : _) (a2 : _) : (noteDeadline a0 a1 a2).sram = a0.sram := by
  delta noteDeadline
  exact ite_agrees _ ((raiseEvent_sram _ _ _ _ _ _).trans rfl) rfl
@[simp] theorem cutCycle_sram (a0 : State) (a1 : _) (a2 : _) : (cutCycle a0 a1 a2).sram = a0.sram := by simp [cutCycle]
@[simp] theorem noteAccepted_sram (a0 : State) (a1 : _) (a2 : _) : (noteAccepted a0 a1 a2).sram = a0.sram := by
  unfold noteAccepted
  repeat' first
    | with_reducible rfl
    | with_reducible refine (cutCycle_sram _ _ _ ).trans ?_
    | with_reducible refine (setTask_sram _ _ _ ).trans ?_
    | with_reducible refine ite_agrees (f := State.sram) _ ?_ ?_
    | with_reducible refine (foldl_sram _ ?_ _ _).trans ?_
    | with_reducible refine (foldl_fst_sram _ ?_ _ _).trans ?_
    | intro _
    | split
@[simp] theorem armLatches_sram (a0 : State) (a1 : _) (a2 : _) (a3 : _) : (armLatches a0 a1 a2 a3).sram = a0.sram := by
  unfold armLatches
  repeat' first
    | with_reducible rfl
    | with_reducible refine ite_agrees (f := State.sram) _ ?_ ?_
    | with_reducible refine (foldl_sram _ ?_ _ _).trans ?_
    | with_reducible refine (foldl_fst_sram _ ?_ _ _).trans ?_
    | intro _
    | split
@[simp] theorem newFrameId_sram (a0 : State) : (newFrameId a0).1.sram = a0.sram := by simp [newFrameId]
@[simp] theorem queueTimed_sram (a0 : State) (a1 : _) (a2 : _) (a3 : _) (a4 : _) (a5 : _) : (queueTimed a0 a1 a2 a3 a4 a5).1.sram = a0.sram := by simp [queueTimed]
@[simp] theorem buildTimed_sram (a0 : State) (a1 : _) (a2 : _) (a3 : _) (a4 : _) : (buildTimed a0 a1 a2 a3 a4).1.sram = a0.sram := by simp [buildTimed]
@[simp] theorem awaitCommit_sram (a0 : State) (a1 : _) (a2 : _) (a3 : _) : (awaitCommit a0 a1 a2 a3).sram = a0.sram := by simp [awaitCommit]
@[simp] theorem reportOverrun_sram (a0 : State) (a1 : _) (a2 : _) : (reportOverrun a0 a1 a2).sram = a0.sram := by simp [reportOverrun]
@[simp] theorem countSkipped_sram (a0 : State) (a1 : _) (a2 : _) : (countSkipped a0 a1 a2).sram = a0.sram := by simp [countSkipped]
@[simp] theorem stretchOverrun_sram (a0 : State) (a1 : _) (a2 : _) : (stretchOverrun a0 a1 a2).sram = a0.sram := by simp [stretchOverrun]
@[simp] theorem servePort_sram (a0 : _) (a1 : State) (a2 : _) : (servePort a0 a1 a2).sram = a1.sram := by simp [servePort]
@[simp] theorem serveRail_sram (a0 : State) (a1 : _) : (serveRail a0 a1).sram = a0.sram := by simp [serveRail]
@[simp] theorem shed_sram (a0 : _) (a1 : _) (a2 : State) : (shed a0 a1 a2).sram = a2.sram := by
  induction a1 generalizing a2 with
  | zero => rfl
  | succ n ih =>
    unfold shed
    split
    · rfl
    · split
      · rfl
      · rw [ih]; rfl
@[simp] theorem budgetWritten_sram (a0 : State) (a1 : _) : (budgetWritten a0 a1).sram = a0.sram := by
  unfold budgetWritten
  repeat' first
    | with_reducible rfl
    | with_reducible refine (serveRail_sram _ _ ).trans ?_
    | with_reducible refine (shed_sram _ _ _ ).trans ?_
    | with_reducible refine ite_agrees (f := State.sram) _ ?_ ?_
    | with_reducible refine (foldl_sram _ ?_ _ _).trans ?_
    | with_reducible refine (foldl_fst_sram _ ?_ _ _).trans ?_
    | intro _
    | split
@[simp] theorem setGlobal_sram (a0 : State) (a1 : _) (a2 : _) : (setGlobal a0 a1 a2).sram = a0.sram := by
  unfold setGlobal
  repeat' first
    | with_reducible rfl
    | with_reducible refine (budgetWritten_sram _ _ ).trans ?_
    | with_reducible refine ite_agrees (f := State.sram) _ ?_ ?_
    | with_reducible refine (foldl_sram _ ?_ _ _).trans ?_
    | with_reducible refine (foldl_fst_sram _ ?_ _ _).trans ?_
    | intro _
    | split
@[simp] theorem cfgDone_sram (a0 : State) : (cfgDone a0).state.sram = a0.sram := by simp [cfgDone]
@[simp] theorem detachEngine_sram (a0 : State) (a1 : _) (a2 : _) : (detachEngine a0 a1 a2).sram = a0.sram := by simp [detachEngine]
@[simp] theorem attachEngine_sram (a0 : State) (a1 : _) (a2 : _) : (attachEngine a0 a1 a2).sram = a0.sram := by simp [attachEngine]
@[simp] theorem redirect_sram (a0 : State) (a1 : _) (a2 : _) (a3 : _) (a4 : _) : (redirect a0 a1 a2 a3 a4).sram = a0.sram := by simp [redirect]
@[simp] theorem directSwitch_sram (a0 : State) (a1 : _) (a2 : _) : (directSwitch a0 a1 a2).sram = a0.sram := by simp [directSwitch]
@[simp] theorem setTxq_sram (a0 : State) (a1 : _) (a2 : _) : (setTxq a0 a1 a2).sram = a0.sram := by simp [setTxq]
@[simp] theorem acceptFwd_sram (a0 : _) (a1 : _) (a2 : _) (a3 : _) (a4 : State) : (acceptFwd a0 a1 a2 a3 a4).state.sram = a4.sram := by
  unfold acceptFwd; split <;> simp
@[simp] theorem noteSuite_sram (a0 : _) (a1 : _) : (noteSuite a0 a1).s.sram = a1.s.sram := by simp [noteSuite]
@[simp] theorem onUnit_sram (a0 : _) (a1 : _) (a2 : State) (a3 : _) (ha3 : a3.s.sram = a2.sram) : (onUnit a0 a1 a2 a3).s.sram = a2.sram := by
  unfold onUnit
  repeat' first
    | with_reducible rfl
    | with_reducible apply ha3
    | with_reducible refine (refuse_sram _ _ ).trans ?_
    | with_reducible refine ite_agrees (f := State.sram) _ ?_ ?_
    | with_reducible refine (foldl_sram _ ?_ _ _).trans ?_
    | with_reducible refine (foldl_fst_sram _ ?_ _ _).trans ?_
    | intro _
    | split
@[simp] theorem onSuite_sram (a0 : _) (a1 : _) (a2 : State) (a3 : _) (ha3 : ∀ y0, (a3 y0).s.sram = a2.sram) : (onSuite a0 a1 a2 a3).s.sram = a2.sram := by simp [onSuite, ha3]
@[simp] theorem mirrorOwner_sram (a0 : State) (a1 : _) : (mirrorOwner a0 a1).sram = a0.sram := by simp [mirrorOwner]
@[simp] theorem becomeOwner_sram (a0 : State) (a1 : _) (a2 : _) (a3 : _) : (becomeOwner a0 a1 a2 a3).sram = a0.sram := by simp [becomeOwner]
@[simp] theorem acceptHandover_sram (a0 : _) (a1 : _) (a2 : State) : (acceptHandover a0 a1 a2).s.sram = a2.sram := by simp [acceptHandover]
@[simp] theorem answer_sram (a0 : _) (a1 : _) (a2 : _) (a3 : _) (a4 : State) (a5 : _) (bb : State) (hbb : bb.sram = a4.sram) : ((answer a0 a1 a2 a3 a4 a5).after bb).sram = a4.sram := by simp [answer, hbb]
@[simp] theorem stage_sram (a0 : State) (a1 : _) (a2 : _) : (stage a0 a1 a2).sram = a0.sram := by simp [stage]
@[simp] theorem setTake_sram (a0 : State) (a1 : _) (a2 : _) (a3 : _) : (setTake a0 a1 a2 a3).sram = a0.sram := by simp [setTake]
@[simp] theorem acknowledge_sram (a0 : _) (a1 : _) (a2 : _) (a3 : _) (a4 : State) : (acknowledge a0 a1 a2 a3 a4).sram = a4.sram := by
  unfold acknowledge
  repeat' first
    | with_reducible rfl
    | with_reducible refine (ackItem_sram _ _ _ ).trans ?_
    | with_reducible refine ite_agrees (f := State.sram) _ ?_ ?_
    | with_reducible refine (foldl_sram _ ?_ _ _).trans ?_
    | with_reducible refine (foldl_fst_sram _ ?_ _ _).trans ?_
    | intro _
    | split
@[simp] theorem wipeCellar_sram (a0 : State) : (wipeCellar a0).sram = a0.sram := by
  unfold wipeCellar
  repeat' first
    | with_reducible rfl
    | with_reducible refine (setKey_sram _ _ _ ).trans ?_
    | with_reducible refine (completeKey_sram _ _ _ _ ).trans ?_
    | with_reducible refine (wipeSlot_sram _ _ ).trans ?_
    | with_reducible refine ite_agrees (f := State.sram) _ ?_ ?_
    | with_reducible refine (foldl_sram _ ?_ _ _).trans ?_
    | with_reducible refine (foldl_fst_sram _ ?_ _ _).trans ?_
    | intro _
    | split
@[simp] theorem actOnTamper_sram (a0 : State) : (actOnTamper a0).sram = a0.sram := by
  unfold actOnTamper
  repeat' first
    | with_reducible rfl
    | with_reducible refine (destroyKeys_sram _ _ ).trans ?_
    | with_reducible refine (raiseEvent_sram _ _ _ _ _ _ ).trans ?_
    | with_reducible refine (wipeCellar_sram _ ).trans ?_
    | with_reducible refine ite_agrees (f := State.sram) _ ?_ ?_
    | with_reducible refine (foldl_sram _ ?_ _ _).trans ?_
    | with_reducible refine (foldl_fst_sram _ ?_ _ _).trans ?_
    | intro _
    | split
@[simp] theorem settleAll_sram (a0 : State) : (settleAll a0).sram = a0.sram := by
  unfold settleAll
  repeat' first
    | with_reducible rfl
    | with_reducible refine (settleCancelled_sram _ _ ).trans ?_
    | with_reducible refine ite_agrees (f := State.sram) _ ?_ ?_
    | with_reducible refine (foldl_sram _ ?_ _ _).trans ?_
    | with_reducible refine (foldl_fst_sram _ ?_ _ _).trans ?_
    | intro _
    | split
@[simp] theorem answerGroup_sram (a0 : State) (a1 : _) (a2 : _) : (answerGroup a0 a1 a2).sram = a0.sram := by simp [answerGroup]
@[simp] theorem addAnswer_sram (a0 : State) (a1 : _) (a2 : _) (a3 : _) : (addAnswer a0 a1 a2 a3).sram = a0.sram := by
  unfold addAnswer
  repeat' first
    | with_reducible rfl
    | with_reducible refine (answerGroup_sram _ _ _ ).trans ?_
    | with_reducible refine ite_agrees (f := State.sram) _ ?_ ?_
    | with_reducible refine (foldl_sram _ ?_ _ _).trans ?_
    | with_reducible refine (foldl_fst_sram _ ?_ _ _).trans ?_
    | intro _
    | split
@[simp] theorem addDemand_sram (a0 : State) (a1 : _) (a2 : _) (a3 : _) : (addDemand a0 a1 a2 a3).sram = a0.sram := by simp [addDemand]
@[simp] theorem addEnergies_sram (a0 : State) (a1 : _) (a2 : _) : (addEnergies a0 a1 a2).sram = a0.sram := by
  unfold addEnergies
  repeat' first
    | with_reducible rfl
    | with_reducible refine (setCircuit_sram _ _ _ ).trans ?_
    | with_reducible refine (setPoint_sram _ _ _ ).trans ?_
    | with_reducible refine ite_agrees (f := State.sram) _ ?_ ?_
    | with_reducible refine (foldl_sram _ ?_ _ _).trans ?_
    | with_reducible refine (foldl_fst_sram _ ?_ _ _).trans ?_
    | intro _
    | split
@[simp] theorem fallOutOfStep_sram (a0 : State) : (fallOutOfStep a0).sram = a0.sram := by simp [fallOutOfStep]
@[simp] theorem cfgDeny_sram (a0 : State) (a1 : _) : (cfgDeny a0 a1).state.sram = a0.sram := by simp [cfgDeny]
@[simp] theorem recheckSuite_sram (a0 : State) (a1 : _) : (recheckSuite a0 a1).sram = a0.sram := by simp [recheckSuite]
@[simp] theorem enterRun_sram (a0 : State) (a1 : _) (a2 : _) : (enterRun a0 a1 a2).sram = a0.sram := by simp [enterRun]
@[simp] theorem settleWindow_sram (a0 : State) : (settleWindow a0).sram = a0.sram := by simp [settleWindow]
@[simp] theorem placeTask_sram (a0 : State) (a1 : _) (a2 : _) (a3 : _) : (placeTask a0 a1 a2 a3).sram = a0.sram := by simp [placeTask]
@[simp] theorem advanceCopies_sram (a0 : State) : (advanceCopies a0).sram = a0.sram := by
  unfold advanceCopies
  repeat' first
    | with_reducible rfl
    | with_reducible refine ite_agrees (f := State.sram) _ ?_ ?_
    | with_reducible refine (foldl_sram _ ?_ _ _).trans ?_
    | with_reducible refine (foldl_fst_sram _ ?_ _ _).trans ?_
    | intro _
    | split
@[simp] theorem programLifecycle_sram (a0 : State) (a1 : _) : (programLifecycle a0 a1).sram = a0.sram := by simp [programLifecycle]
@[simp] theorem noteMarginal_sram (a0 : State) (a1 : _) : (noteMarginal a0 a1).sram = a0.sram := by simp [noteMarginal]
@[simp] theorem readBack_sram (a0 : State) (a1 : _) : (readBack a0 a1).sram = a0.sram := by simp [readBack]
@[simp] theorem refuseOwner_sram (a0 : State) (a1 : _) (a2 : _) : (refuseOwner a0 a1 a2).s.sram = a0.sram := by simp [refuseOwner]
@[simp] theorem advanceLifecycle_sram (a0 : _) (a1 : _) (a2 : _) (a3 : State) : (advanceLifecycle a0 a1 a2 a3).s.sram = a3.sram := by
  unfold advanceLifecycle; repeat' split
  all_goals simp
@[simp] theorem afterAttempt_sram (a0 : State) (a1 : _) (a2 : _) (a3 : _) : (afterAttempt a0 a1 a2 a3).sram = a0.sram := by
  unfold afterAttempt
  repeat' first
    | with_reducible rfl
    | with_reducible refine (setHall_sram _ _ _ ).trans ?_
    | with_reducible refine (completeOffered_sram _ _ _ _ _ ).trans ?_
    | with_reducible refine ite_agrees (f := State.sram) _ ?_ ?_
    | with_reducible refine (foldl_sram _ ?_ _ _).trans ?_
    | with_reducible refine (foldl_fst_sram _ ?_ _ _).trans ?_
    | intro _
    | split
@[simp] theorem randomBytes_sram (a0 : State) (a1 : _) : (randomBytes a0 a1).1.sram = a0.sram := by simp [randomBytes]
@[simp] theorem agreeKey_sram (a0 : State) : (agreeKey a0).sram = a0.sram := by simp [agreeKey]
@[simp] theorem alignCopy_sram (a0 : _) (a1 : State) : (alignCopy a0 a1).sram = a1.sram := by simp [alignCopy]
@[simp] theorem announce_sram (a0 : State) (a1 : _) : (announce a0 a1).sram = a0.sram := by simp [announce]
@[simp] theorem answerClaim_sram (a0 : _) (a1 : _) (a2 : State) (a3 : _) : (answerClaim a0 a1 a2 a3).sram = a2.sram := by simp [answerClaim]
@[simp] theorem answerRead_sram (a0 : State) (a1 : _) (a2 : _) (a3 : _) (a4 : _) (a5 : _) (a6 : _) : (answerRead a0 a1 a2 a3 a4 a5 a6).sram = a0.sram := by
  unfold answerRead
  repeat' first
    | with_reducible rfl
    | with_reducible refine (noteReply_sram _ _ _ _ _ _ _ _ ).trans ?_
    | with_reducible refine (sendCompletion_sram _ _ _ _ ).trans ?_
    | with_reducible refine (countThreshold_sram _ _ ).trans ?_
    | with_reducible refine ite_agrees (f := State.sram) _ ?_ ?_
    | with_reducible refine (foldl_sram _ ?_ _ _).trans ?_
    | with_reducible refine (foldl_fst_sram _ ?_ _ _).trans ?_
    | intro _
    | split
@[simp] theorem answerReads_sram (a0 : State) : (answerReads a0).sram = a0.sram := by simp [answerReads]
@[simp] theorem appendBytes_sram (a0 : _) (a1 : _) (a2 : State) (a3 : _) (bb : State) (hbb : bb.sram = a2.sram) : ((appendBytes a0 a1 a2 a3).after bb).sram = a2.sram := by
  unfold appendBytes; split <;> simp [hbb]
@[simp] theorem appendRecord_sram (a0 : State) (a1 : _) (a2 : _) (a3 : _) : (appendRecord a0 a1 a2 a3).sram = a0.sram := by simp [appendRecord]
@[simp] theorem noteDiscarded_sram (a0 : State) (a1 : _) (a2 : _) : (noteDiscarded a0 a1 a2).sram = a0.sram := by
  unfold noteDiscarded
  repeat' first
    | with_reducible rfl
    | with_reducible refine (setTask_sram _ _ _ ).trans ?_
    | with_reducible refine ite_agrees (f := State.sram) _ ?_ ?_
    | with_reducible refine (foldl_sram _ ?_ _ _).trans ?_
    | with_reducible refine (foldl_fst_sram _ ?_ _ _).trans ?_
    | intro _
    | split
@[simp] theorem dropLink_sram (a0 : State) (a1 : _) (a2 : _) : (dropLink a0 a1 a2).sram = a0.sram := by simp [dropLink]
@[simp] theorem retrain_sram (a0 : State) (a1 : _) (a2 : _) : (retrain a0 a1 a2).sram = a0.sram := by simp [retrain]
@[simp] theorem renegotiate_sram (a0 : State) (a1 : _) : (renegotiate a0 a1).sram = a0.sram := by simp [renegotiate]
@[simp] theorem applyUplink_sram (a0 : State) (a1 : _) (a2 : _) (a3 : _) : (applyUplink a0 a1 a2 a3).sram = a0.sram := by simp [applyUplink]
@[simp] theorem buildingCfg_sram (a0 : State) (a1 : _) (ha1 : a1.state.sram = a0.sram) : (buildingCfg a0 a1).state.sram = a0.sram := by simp [buildingCfg, ha1]
@[simp] theorem cfgUnitOnly_sram (a0 : _) (a1 : State) (a2 : _) (a3 : _) (ha3 : ∀ y0, (a3 y0).state.sram = a1.sram) : (cfgUnitOnly a0 a1 a2 a3).state.sram = a1.sram := by
  unfold cfgUnitOnly
  repeat' first
    | with_reducible rfl
    | with_reducible apply ha3
    | with_reducible refine (cfgDeny_sram _ _ ).trans ?_
    | with_reducible refine ite_agrees (f := State.sram) _ ?_ ?_
    | with_reducible refine (foldl_sram _ ?_ _ _).trans ?_
    | with_reducible refine (foldl_fst_sram _ ?_ _ _).trans ?_
    | intro _
    | split
@[simp] theorem configureUplink_sram (a0 : _) (a1 : State) : (configureUplink a0 a1).state.sram = a1.sram := by simp [configureUplink]
@[simp] theorem publishInput_sram (a0 : State) (a1 : _) (a2 : _) : (publishInput a0 a1 a2).sram = a0.sram := by simp [publishInput]
@[simp] theorem resample_sram (a0 : State) (a1 : _) : (resample a0 a1).sram = a0.sram := by
  unfold resample
  repeat' first
    | with_reducible rfl
    | with_reducible refine (setPin_sram _ _ _ ).trans ?_
    | with_reducible refine ite_agrees (f := State.sram) _ ?_ ?_
    | with_reducible refine (foldl_sram _ ?_ _ _).trans ?_
    | with_reducible refine (foldl_fst_sram _ ?_ _ _).trans ?_
    | intro _
    | split
@[simp] theorem repin_sram (a0 : State) (a1 : _) (a2 : _) (a3 : _) : (repin a0 a1 a2 a3).sram = a0.sram := by
  unfold repin
  repeat' first
    | with_reducible rfl
    | with_reducible refine (setPin_sram _ _ _ ).trans ?_
    | with_reducible refine (resample_sram _ _ ).trans ?_
    | with_reducible refine ite_agrees (f := State.sram) _ ?_ ?_
    | with_reducible refine (foldl_sram _ ?_ _ _).trans ?_
    | with_reducible refine (foldl_fst_sram _ ?_ _ _).trans ?_
    | intro _
    | split
@[simp] theorem configureInput_sram (a0 : _) (a1 : State) : (configureInput a0 a1).state.sram = a1.sram := by
  unfold configureInput
  try dsimp only
  repeat' first
    | with_reducible rfl
    | with_reducible assumption
    | (simp; done)
    | split
    | (refine (foldl_sram _ ?_ _ _).trans ?_ <;> (try intro _ _) <;> (try dsimp only))
    | (refine (foldl_fst_sram _ ?_ _ _).trans ?_ <;> (try intro _ _) <;> (try dsimp only))
    | (rw [buildingCfg_sram] <;> intros <;> (try dsimp only))
    | (rw [cfgUnitOnly_sram] <;> intros <;> (try dsimp only))
    | simp

@[simp] theorem fitPartition_sram (a0 : State) (a1 : _) : (fitPartition a0 a1).sram = a0.sram := by simp [fitPartition]
@[simp] theorem restorePartition_sram (a0 : State) (a1 : _) : (restorePartition a0 a1).sram = a0.sram := by simp [restorePartition]
@[simp] theorem relayout_sram (a0 : State) (a1 : _) (a2 : _) : (relayout a0 a1 a2).sram = a0.sram := by simp [relayout]
@[simp] theorem windowOfImage_sram (a0 : State) (a1 : _) (a2 : _) : (windowOfImage a0 a1 a2).sram = a0.sram := by simp [windowOfImage]
@[simp] theorem mirrorKey_sram (a0 : State) (a1 : _) : (mirrorKey a0 a1).sram = a0.sram := by
  unfold mirrorKey
  repeat' first
    | with_reducible rfl
    | with_reducible refine (randomBytes_sram _ _ ).trans ?_
    | with_reducible refine (mirror_sram _ _ ).trans ?_
    | with_reducible refine ite_agrees (f := State.sram) _ ?_ ?_
    | with_reducible refine (foldl_sram _ ?_ _ _).trans ?_
    | with_reducible refine (foldl_fst_sram _ ?_ _ _).trans ?_
    | intro _
    | split
@[simp] theorem mirrorChanges_sram1 (a0 : State) (a1 : State) (a2 : _) : (mirrorChanges a0 a1 a2).sram = a1.sram := by simp [mirrorChanges]
@[simp] theorem placeKey_sram (a0 : State) (a1 : _) (a2 : _) : (placeKey a0 a1 a2).sram = a0.sram := by simp [placeKey]
@[simp] theorem createRoot_sram (a0 : State) (a1 : _) : (createRoot a0 a1).sram = a0.sram := by simp [createRoot]
@[simp] theorem ensureRoot_sram (a0 : State) (a1 : _) : (ensureRoot a0 a1).sram = a0.sram := by simp [ensureRoot]
@[simp] theorem unbindTask_sram (a0 : State) (a1 : _) (a2 : _) : (unbindTask a0 a1 a2).sram = a0.sram := by
  unfold unbindTask
  repeat' first
    | with_reducible rfl
    | with_reducible refine (setQueue_sram _ _ _ ).trans ?_
    | with_reducible refine (undeliver_sram _ _ _ ).trans ?_
    | with_reducible refine ite_agrees (f := State.sram) _ ?_ ?_
    | with_reducible refine (foldl_sram _ ?_ _ _).trans ?_
    | with_reducible refine (foldl_fst_sram _ ?_ _ _).trans ?_
    | intro _
    | split
@[simp] theorem bindTask_sram (a0 : State) (a1 : _) (a2 : _) : (bindTask a0 a1 a2).1.sram = a0.sram := by
  unfold bindTask
  repeat' first
    | with_reducible rfl
    | with_reducible refine (setQueue_sram _ _ _ ).trans ?_
    | with_reducible refine ite_agrees (f := State.sram) _ ?_ ?_
    | with_reducible refine (foldl_sram _ ?_ _ _).trans ?_
    | with_reducible refine (foldl_fst_sram _ ?_ _ _).trans ?_
    | intro _
    | split
@[simp] theorem mantelSetup_sram (a0 : _) (a1 : State) : (mantelSetup a0 a1).state.sram = a1.sram := by simp [mantelSetup]
@[simp] theorem configureClock_sram (a0 : _) (a1 : State) (a2 : _) (ha2 : a2.state.sram = a1.sram) : (configureClock a0 a1 a2).state.sram = a1.sram := by simp [configureClock, ha2]
@[simp] theorem refuseJump_sram (a0 : State) (a1 : _) : (refuseJump a0 a1).sram = a0.sram := by simp [refuseJump]
@[simp] theorem setJump_sram (a0 : State) (a1 : _) (a2 : _) : (setJump a0 a1 a2).1.sram = a0.sram := by simp [setJump]
@[simp] theorem clockSet_sram (a0 : _) (a1 : State) : (clockSet a0 a1).state.sram = a1.sram := by simp [clockSet]
@[simp] theorem removeTask_sram (a0 : State) (a1 : _) : (removeTask a0 a1).sram = a0.sram := by simp [removeTask]
@[simp] theorem configureAttic_sram (a0 : _) (a1 : State) : (configureAttic a0 a1).state.sram = a1.sram := by simp [configureAttic]
@[simp] theorem restandSafe_sram (a0 : State) (a1 : _) : (restandSafe a0 a1).sram = a0.sram := by simp [restandSafe]
@[simp] theorem turnOn_sram (a0 : State) (a1 : _) : (turnOn a0 a1).sram = a0.sram := by simp [turnOn]
@[simp] theorem repolice_sram (a0 : State) (a1 : _) : (repolice a0 a1).sram = a0.sram := by
  unfold repolice
  repeat' first
    | with_reducible rfl
    | with_reducible refine (turnOn_sram _ _ ).trans ?_
    | with_reducible refine (raiseEvent_sram _ _ _ _ _ _ ).trans ?_
    | with_reducible refine (setOutput_sram _ _ _ ).trans ?_
    | with_reducible refine ite_agrees (f := State.sram) _ ?_ ?_
    | with_reducible refine (foldl_sram _ ?_ _ _).trans ?_
    | with_reducible refine (foldl_fst_sram _ ?_ _ _).trans ?_
    | intro _
    | split
@[simp] theorem openBank_sram (a0 : State) (a1 : _) (a2 : _) : (openBank a0 a1 a2).sram = a0.sram := by simp [openBank]
@[simp] theorem requestOutput_sram (a0 : State) (a1 : _) : (requestOutput a0 a1).sram = a0.sram := by simp [requestOutput]
@[simp] theorem closeBank_sram (a0 : State) (a1 : _) : (closeBank a0 a1).sram = a0.sram := by simp [closeBank]
@[simp] theorem settleBank_sram (a0 : State) (a1 : _) : (settleBank a0 a1).sram = a0.sram := by simp [settleBank]
@[simp] theorem configureBank_sram (a0 : _) (a1 : State) : (configureBank a0 a1).state.sram = a1.sram := by simp [configureBank]
@[simp] theorem clockIncrement_sram (a0 : _) (a1 : State) : (clockIncrement a0 a1).state.sram = a1.sram := by simp [clockIncrement]
@[simp] theorem waitCfg_sram (a0 : State) (a1 : _) : (waitCfg a0 a1).state.sram = a0.sram := by simp [waitCfg]
@[simp] theorem endOffered_sram (a0 : State) (a1 : _) (a2 : _) : (endOffered a0 a1 a2).sram = a0.sram := by simp [endOffered]
@[simp] theorem applyHall_sram (a0 : State) (a1 : _) (a2 : _) : (applyHall a0 a1 a2).sram = a0.sram := by simp [applyHall]
@[simp] theorem configureHallPort_sram (a0 : _) (a1 : _) (a2 : State) : (configureHallPort a0 a1 a2).state.sram = a2.sram := by simp [configureHallPort]
@[simp] theorem configureFilter_sram (a0 : _) (a1 : _) (a2 : State) : (configureFilter a0 a1 a2).state.sram = a2.sram := by simp [configureFilter]
@[simp] theorem configureMantel_sram (a0 : _) (a1 : _) (a2 : State) (ha0 : ∀ y0 y1, (a0 y0 y1).state.sram = y1.sram) : (configureMantel a0 a1 a2).state.sram = a2.sram := by simp [configureMantel, ha0]
@[simp] theorem configureHall_sram (a0 : _) (a1 : _) (a2 : State) (ha0 : ∀ y0 y1 y2, (a0 y0 y1 y2).state.sram = y2.sram) : (configureHall a0 a1 a2).state.sram = a2.sram := by
  unfold configureHall
  repeat' first
    | with_reducible rfl
    | with_reducible apply ha0
    | with_reducible refine (cfgDeny_sram _ _ ).trans ?_
    | with_reducible refine (buildingCfg_sram _ _ ?_ ).trans ?_
    | with_reducible refine (cfgUnitOnly_sram _ _ _ _ ?_ ).trans ?_
    | with_reducible refine ite_agrees (f := State.sram) _ ?_ ?_
    | with_reducible refine (foldl_sram _ ?_ _ _).trans ?_
    | with_reducible refine (foldl_fst_sram _ ?_ _ _).trans ?_
    | intro _
    | split
@[simp] theorem configureCircuit_sram (a0 : _) (a1 : _) (a2 : State) : (configureCircuit a0 a1 a2).state.sram = a2.sram := by simp [configureCircuit]
@[simp] theorem configurePoint_sram (a0 : _) (a1 : State) : (configurePoint a0 a1).state.sram = a1.sram := by
  unfold configurePoint; dsimp only; repeat' split
  all_goals simp
@[simp] theorem configureRegister_sram (a0 : _) (a1 : _) (a2 : State) : (configureRegister a0 a1 a2).state.sram = a2.sram := by simp [configureRegister]
@[simp] theorem configureFwd_sram (a0 : _) (a1 : _) (a2 : State) : (configureFwd a0 a1 a2).state.sram = a2.sram := by simp [configureFwd]
@[simp] theorem configurePace_sram (a0 : _) (a1 : State) : (configurePace a0 a1).state.sram = a1.sram := by
  unfold configurePace
  refine (buildingCfg_sram _ _ ?_).trans rfl
  refine cfgUnitOnly_sram _ _ _ _ (fun _ => ?_)
  extract_lets w set
  split
  · exact cfgDeny_sram _ _
  · exact (cfgDone_sram _).trans (foldl_sram _ (fun s n => setRoom_sram _ _ _) _ _)
@[simp] theorem setLimit_sram (a0 : _) (a1 : State) : (setLimit a0 a1).state.sram = a1.sram := by simp [setLimit]
@[simp] theorem judgeHigh_sram (a0 : State) (a1 : _) : (judgeHigh a0 a1).sram = a0.sram := by simp [judgeHigh]
@[simp] theorem setUpQueue_sram (a0 : _) (a1 : State) : (setUpQueue a0 a1).state.sram = a1.sram := by
  unfold setUpQueue; dsimp only; repeat' split
  all_goals simp
@[simp] theorem configureHallSlot_sram (a0 : _) (a1 : _) (a2 : State) : (configureHallSlot a0 a1 a2).state.sram = a2.sram := by simp [configureHallSlot]
@[simp] theorem onTask_sram (a0 : _) (a1 : State) (a2 : _) (ha2 : ∀ y0, (a2 y0).state.sram = a1.sram) : (onTask a0 a1 a2).state.sram = a1.sram := by simp [onTask, ha2]
@[simp] theorem configureCellar_sram (a0 : _) (a1 : State) : (configureCellar a0 a1).state.sram = a1.sram := by simp [configureCellar]
@[simp] theorem configureLock_sram (a0 : _) (a1 : State) : (configureLock a0 a1).state.sram = a1.sram := by simp [configureLock]
@[simp] theorem configurePulse_sram (a0 : _) (a1 : _) (a2 : State) : (configurePulse a0 a1 a2).state.sram = a2.sram := by simp [configurePulse]
@[simp] theorem stepJump_sram (a0 : State) (a1 : _) (a2 : _) : (stepJump a0 a1 a2).1.sram = a0.sram := by simp [stepJump]
@[simp] theorem clockStep_sram (a0 : _) (a1 : State) : (clockStep a0 a1).state.sram = a1.sram := by simp [clockStep]
@[simp] theorem mantelHalt_sram (a0 : _) (a1 : State) : (mantelHalt a0 a1).state.sram = a1.sram := by simp [mantelHalt]
@[simp] theorem clockThreshold_sram (a0 : _) (a1 : State) : (clockThreshold a0 a1).state.sram = a1.sram := by simp [clockThreshold]
@[simp] theorem bumpEpoch_sram (a0 : State) (a1 : _) : (bumpEpoch a0 a1).sram = a0.sram := by simp [bumpEpoch]
@[simp] theorem settleEpochs_sram1 (a0 : State) (a1 : State) : (settleEpochs a0 a1).sram = a1.sram := by
  unfold settleEpochs
  repeat' first
    | with_reducible rfl
    | with_reducible refine (bumpEpoch_sram _ _ ).trans ?_
    | with_reducible refine ite_agrees (f := State.sram) _ ?_ ?_
    | with_reducible refine (foldl_sram _ ?_ _ _).trans ?_
    | with_reducible refine (foldl_fst_sram _ ?_ _ _).trans ?_
    | intro _
    | split
@[simp] theorem configureTwin_sram (a0 : _) (a1 : State) : (configureTwin a0 a1).state.sram = a1.sram := by simp [configureTwin]
@[simp] theorem removePower_sram (a0 : State) (a1 : _) (a2 : _) : (removePower a0 a1 a2).sram = a0.sram := by simp [removePower]
@[simp] theorem repower_sram (a0 : State) (a1 : _) (a2 : _) (a3 : _) : (repower a0 a1 a2 a3).sram = a0.sram := by simp [repower]
@[simp] theorem applyPort_sram (a0 : State) (a1 : _) (a2 : _) : (applyPort a0 a1 a2).sram = a0.sram := by simp [applyPort]
@[simp] theorem configurePort_sram (a0 : _) (a1 : State) : (configurePort a0 a1).state.sram = a1.sram := by simp [configurePort]
@[simp] theorem directSlot_sram (a0 : State) (a1 : _) (a2 : _) (a3 : _) : (directSlot a0 a1 a2 a3).sram = a0.sram := by simp [directSlot]
@[simp] theorem configureSlot_sram (a0 : _) (a1 : _) (a2 : State) : (configureSlot a0 a1 a2).state.sram = a2.sram := by
  unfold configureSlot; dsimp only; repeat' split
  all_goals simp
@[simp] theorem configureMeter_sram (a0 : _) (a1 : _) (a2 : State) (ha0 : ∀ y0 y1 y2, (a0 y0 y1 y2).state.sram = y2.sram) : (configureMeter a0 a1 a2).state.sram = a2.sram := by
  unfold configureMeter
  repeat' first
    | with_reducible rfl
    | with_reducible apply ha0
    | with_reducible refine (cfgDeny_sram _ _ ).trans ?_
    | with_reducible refine (buildingCfg_sram _ _ ?_ ).trans ?_
    | with_reducible refine (cfgUnitOnly_sram _ _ _ _ ?_ ).trans ?_
    | with_reducible refine ite_agrees (f := State.sram) _ ?_ ?_
    | with_reducible refine (foldl_sram _ ?_ _ _).trans ?_
    | with_reducible refine (foldl_fst_sram _ ?_ _ _).trans ?_
    | intro _
    | split
@[simp] theorem mantelLoad_sram (a0 : State) (a1 : _) (a2 : _) : (mantelLoad a0 a1 a2).sram = a0.sram := by simp [mantelLoad]
@[simp] theorem mantelSetRun_sram (a0 : _) (a1 : State) : (mantelSetRun a0 a1).state.sram = a1.sram := by simp [mantelSetRun]
@[simp] theorem configureScrub_sram (a0 : _) (a1 : State) : (configureScrub a0 a1).state.sram = a1.sram := by simp [configureScrub]
@[simp] theorem storePrepared_sram (a0 : _) (a1 : State) : (storePrepared a0 a1).sram = a1.sram := by
  unfold storePrepared
  repeat' first
    | with_reducible rfl
    | with_reducible refine (setTwin_sram _ _ ).trans ?_
    | with_reducible refine ite_agrees (f := State.sram) _ ?_ ?_
    | with_reducible refine (foldl_sram _ ?_ _ _).trans ?_
    | with_reducible refine (foldl_fst_sram _ ?_ _ _).trans ?_
    | intro _
    | split
@[simp] theorem fallOut_sram (a0 : State) : (fallOut a0).sram = a0.sram := by simp [fallOut]
@[simp] theorem confirmed_sram (a0 : _) (a1 : State) : (confirmed a0 a1).sram = a1.sram := by simp [confirmed]
@[simp] theorem applyPoint_sram (a0 : State) (a1 : _) : (applyPoint a0 a1).sram = a0.sram := by simp [applyPoint]
@[simp] theorem ownerOnly_sram (a0 : State) (a1 : _) (a2 : _) (a3 : _) (ha3 : a3.s.sram = a0.sram) : (ownerOnly a0 a1 a2 a3).s.sram = a0.sram := by simp [ownerOnly, ha3]
@[simp] theorem onTasks_sram (a0 : _) (a1 : _) (a2 : State) (a3 : _) (ha3 : ∀ y0 y1, (a3 y0 y1).s.sram = a2.sram) : (onTasks a0 a1 a2 a3).s.sram = a2.sram := by simp [onTasks, ha3]
@[simp] theorem armBreakpoints_sram (a0 : _) (a1 : _) (a2 : State) : (armBreakpoints a0 a1 a2).s.sram = a2.sram := by
  unfold armBreakpoints
  refine onTasks_sram _ _ _ _ (fun _ keys => ?_)
  extract_lets arm hold
  split
  · exact refuse_sram _ _
  · exact foldl_sram _ (fun s n => setTask_sram _ _ _) _ _
@[simp] theorem attachSession_sram (a0 : State) (a1 : _) : (attachSession a0 a1).sram = a0.sram := by
  unfold attachSession
  repeat' first
    | with_reducible rfl
    | with_reducible refine (setQueue_sram _ _ _ ).trans ?_
    | with_reducible refine ite_agrees (f := State.sram) _ ?_ ?_
    | with_reducible refine (foldl_sram _ ?_ _ _).trans ?_
    | with_reducible refine (foldl_fst_sram _ ?_ _ _).trans ?_
    | intro _
    | split
@[simp] theorem settleHall_sram (a0 : State) (a1 : _) : (settleHall a0 a1).sram = a0.sram := by simp [settleHall]
@[simp] theorem enterBusOff_sram (a0 : State) (a1 : _) : (enterBusOff a0 a1).sram = a0.sram := by simp [enterBusOff]
@[simp] theorem endAfterReset_sram (a0 : State) (a1 : _) (a2 : _) (a3 : _) (a4 : _) : (endAfterReset a0 a1 a2 a3 a4).sram = a0.sram := by
  unfold endAfterReset
  repeat' first
    | with_reducible rfl
    | with_reducible refine (completeOffered_sram _ _ _ _ _ ).trans ?_
    | with_reducible refine ite_agrees (f := State.sram) _ ?_ ?_
    | with_reducible refine (foldl_sram _ ?_ _ _).trans ?_
    | with_reducible refine (foldl_fst_sram _ ?_ _ _).trans ?_
    | intro _
    | split
@[simp] theorem attemptEnd_sram (a0 : _) (a1 : _) (a2 : State) : (attemptEnd a0 a1 a2).sram = a2.sram := by
  unfold attemptEnd
  repeat' first
    | with_reducible rfl
    | with_reducible refine (setHall_sram _ _ _ ).trans ?_
    | with_reducible refine (afterAttempt_sram _ _ _ _ ).trans ?_
    | with_reducible refine (completeOffered_sram _ _ _ _ _ ).trans ?_
    | with_reducible refine (settleHall_sram _ _ ).trans ?_
    | with_reducible refine (enterBusOff_sram _ _ ).trans ?_
    | with_reducible refine (endAfterReset_sram _ _ _ _ _ ).trans ?_
    | with_reducible refine ite_agrees (f := State.sram) _ ?_ ?_
    | with_reducible refine (foldl_sram _ ?_ _ _).trans ?_
    | with_reducible refine (foldl_fst_sram _ ?_ _ _).trans ?_
    | intro _
    | split
@[simp] theorem attemptStart_sram (a0 : _) (a1 : _) (a2 : State) : (attemptStart a0 a1 a2).sram = a2.sram := by
  unfold attemptStart
  repeat' first
    | with_reducible rfl
    | with_reducible refine (setHall_sram _ _ _ ).trans ?_
    | with_reducible refine ite_agrees (f := State.sram) _ ?_ ?_
    | with_reducible refine (foldl_sram _ ?_ _ _).trans ?_
    | with_reducible refine (foldl_fst_sram _ ?_ _ _).trans ?_
    | intro _
    | split
@[simp] theorem atticRead_sram (a0 : _) (a1 : _) (a2 : State) : (atticRead a0 a1 a2).s.sram = a2.sram := by simp [atticRead]
@[simp] theorem backupSwitch_sram (a0 : _) (a1 : State) : (backupSwitch a0 a1).sram = a1.sram := by simp [backupSwitch]
@[simp] theorem bankRetry_sram (a0 : _) (a1 : State) : (bankRetry a0 a1).sram = a1.sram := by simp [bankRetry]
@[simp] theorem bankTrip_sram (a0 : _) (a1 : State) : (bankTrip a0 a1).sram = a1.sram := by simp [bankTrip]
@[simp] theorem settleBanks_sram (a0 : State) : (settleBanks a0).sram = a0.sram := by simp [settleBanks]
@[simp] theorem dropBacklog_sram (a0 : State) : (dropBacklog a0).sram = a0.sram := by simp [dropBacklog]
@[simp] theorem rearmOutputs_sram (a0 : State) : (rearmOutputs a0).sram = a0.sram := by simp [rearmOutputs]
@[simp] theorem sampleInputs_sram (a0 : State) : (sampleInputs a0).sram = a0.sram := by
  unfold sampleInputs
  repeat' first
    | with_reducible rfl
    | with_reducible refine (setPoint_sram _ _ _ ).trans ?_
    | with_reducible refine ite_agrees (f := State.sram) _ ?_ ?_
    | with_reducible refine (foldl_sram _ ?_ _ _).trans ?_
    | with_reducible refine (foldl_fst_sram _ ?_ _ _).trans ?_
    | intro _
    | split
@[simp] theorem becomeActive_sram (a0 : State) : (becomeActive a0).sram = a0.sram := by simp [becomeActive]
@[simp] theorem becomeStandby_sram (a0 : State) : (becomeStandby a0).sram = a0.sram := by simp [becomeStandby]
@[simp] theorem sendOutcome_sram (a0 : State) (a1 : _) (a2 : _) : (sendOutcome a0 a1 a2).sram = a0.sram := by
  unfold sendOutcome
  repeat' first
    | with_reducible rfl
    | with_reducible refine (sendCompletion_sram _ _ _ _ ).trans ?_
    | with_reducible refine ite_agrees (f := State.sram) _ ?_ ?_
    | with_reducible refine (foldl_sram _ ?_ _ _).trans ?_
    | with_reducible refine (foldl_fst_sram _ ?_ _ _).trans ?_
    | intro _
    | split
@[simp] theorem sendOutcomes_sram (a0 : State) (a1 : _) : (sendOutcomes a0 a1).sram = a0.sram := by simp [sendOutcomes]
@[simp] theorem readItems_sram (a0 : State) (a1 : _) (a2 : _) : (readItems a0 a1 a2).sram = a0.sram := by
  unfold readItems
  repeat' first
    | with_reducible rfl
    | with_reducible refine (setQueue_sram _ _ _ ).trans ?_
    | with_reducible refine ite_agrees (f := State.sram) _ ?_ ?_
    | with_reducible refine (foldl_sram _ ?_ _ _).trans ?_
    | with_reducible refine (foldl_fst_sram _ ?_ _ _).trans ?_
    | intro _
    | split
@[simp] theorem dropLost_sram (a0 : State) (a1 : _) : (dropLost a0 a1).sram = a0.sram := by simp [dropLost]
@[simp] theorem deliver_sram (a0 : State) (a1 : _) (a2 : _) : (deliver a0 a1 a2).sram = a0.sram := by simp [deliver]
@[simp] theorem commandReset_sram (a0 : State) (a1 : _) : (commandReset a0 a1).sram = a0.sram := by simp [commandReset]
@[simp] theorem releasePair_sram (a0 : State) : (releasePair a0).sram = a0.sram := by
  unfold releasePair
  repeat' first
    | with_reducible rfl
    | with_reducible refine (setTwin_sram _ _ ).trans ?_
    | with_reducible refine (commandReset_sram _ _ ).trans ?_
    | with_reducible refine ite_agrees (f := State.sram) _ ?_ ?_
    | with_reducible refine (foldl_sram _ ?_ _ _).trans ?_
    | with_reducible refine (foldl_fst_sram _ ?_ _ _).trans ?_
    | intro _
    | split
@[simp] theorem releaseHeld_sram (a0 : State) : (releaseHeld a0).sram = a0.sram := by
  unfold releaseHeld
  repeat' first
    | with_reducible rfl
    | with_reducible refine (lateReply_sram _ _ _ _ _ _ _ _ _ ).trans ?_
    | with_reducible refine (commandReset_sram _ _ ).trans ?_
    | with_reducible refine ite_agrees (f := State.sram) _ ?_ ?_
    | with_reducible refine (foldl_sram _ ?_ _ _).trans ?_
    | with_reducible refine (foldl_fst_sram _ ?_ _ _).trans ?_
    | intro _
    | split
@[simp] theorem beginStep_sram (a0 : State) (a1 : _) (a2 : _) (a3 : _) : (beginStep a0 a1 a2 a3).sram = a0.sram := by simp [beginStep]
@[simp] theorem beginSwitch_sram (a0 : State) : (beginSwitch a0).sram = a0.sram := by simp [beginSwitch]
@[simp] theorem takeDown_sram (a0 : State) (a1 : _) : (takeDown a0 a1).sram = a0.sram := by
  unfold takeDown
  repeat' first
    | with_reducible rfl
    | with_reducible refine (setHall_sram _ _ _ ).trans ?_
    | with_reducible refine (setUplink_sram _ _ _ ).trans ?_
    | with_reducible refine (dropLink_sram _ _ _ ).trans ?_
    | with_reducible refine ite_agrees (f := State.sram) _ ?_ ?_
    | with_reducible refine (foldl_sram _ ?_ _ _).trans ?_
    | with_reducible refine (foldl_fst_sram _ ?_ _ _).trans ?_
    | intro _
    | split
@[simp] theorem beginTest_sram (a0 : _) (a1 : _) (a2 : State) : (beginTest a0 a1 a2).s.sram = a2.sram := by simp [beginTest]
@[simp] theorem beginUpdate_sram (a0 : _) (a1 : State) (a2 : _) (a3 : _) : (beginUpdate a0 a1 a2 a3).s.sram = a1.sram := by simp [beginUpdate]
@[simp] theorem halfAnswer_sram (a0 : _) : (halfAnswer a0).s.sram = a0.s.sram := by
  unfold halfAnswer
  repeat' first
    | with_reducible rfl
    | with_reducible refine ite_agrees (f := State.sram) _ ?_ ?_
    | with_reducible refine (foldl_sram _ ?_ _ _).trans ?_
    | with_reducible refine (foldl_fst_sram _ ?_ _ _).trans ?_
    | intro _
    | split
@[simp] theorem bothMembers_sram (a0 : _) (a1 : _) (a2 : _) : (bothMembers a0 a1 a2).s.sram = a2.s.sram := by simp [bothMembers]
@[simp] theorem breakpoint_sram (a0 : _) (a1 : _) (a2 : State) (a3 : _) (bb : State) (hbb : bb.sram = a2.sram) : ((breakpoint a0 a1 a2 a3).after bb).sram = a2.sram := by simp [breakpoint, hbb]
@[simp] theorem builtInTests_sram (a0 : _) (a1 : State) : (builtInTests a0 a1).sram = a1.sram := by simp [builtInTests]
@[simp] theorem bumpAllEpochs_sram (a0 : State) : (bumpAllEpochs a0).sram = a0.sram := by simp [bumpAllEpochs]
@[simp] theorem busOffRecovery_sram (a0 : _) (a1 : State) : (busOffRecovery a0 a1).sram = a1.sram := by simp [busOffRecovery]
@[simp] theorem strayCopies_sram (a0 : State) (a1 : _) : (strayCopies a0 a1).sram = a0.sram := by
  unfold strayCopies
  repeat' first
    | with_reducible rfl
    | with_reducible refine ite_agrees (f := State.sram) _ ?_ ?_
    | with_reducible refine (foldl_sram _ ?_ _ _).trans ?_
    | with_reducible refine (foldl_fst_sram _ ?_ _ _).trans ?_
    | intro _
    | split
@[simp] theorem recordJump_sram (a0 : State) (a1 : _) : (recordJump a0 a1).sram = a0.sram := by
  unfold recordJump
  repeat' first
    | with_reducible rfl
    | with_reducible refine (raiseEvent_sram _ _ _ _ _ _ ).trans ?_
    | with_reducible refine ite_agrees (f := State.sram) _ ?_ ?_
    | with_reducible refine (foldl_sram _ ?_ _ _).trans ?_
    | with_reducible refine (foldl_fst_sram _ ?_ _ _).trans ?_
    | intro _
    | split
@[simp] theorem changeTick_sram (a0 : State) : (changeTick a0).sram = a0.sram := by
  unfold changeTick
  repeat' first
    | with_reducible rfl
    | with_reducible refine (strayCopies_sram _ _ ).trans ?_
    | with_reducible refine (setClock_sram _ _ ).trans ?_
    | with_reducible refine (recordJump_sram _ _ ).trans ?_
    | with_reducible refine (abandonTrim_sram _ _ ).trans ?_
    | with_reducible refine ite_agrees (f := State.sram) _ ?_ ?_
    | with_reducible refine (foldl_sram _ ?_ _ _).trans ?_
    | with_reducible refine (foldl_fst_sram _ ?_ _ _).trans ?_
    | intro _
    | split
@[simp] theorem checkUpdate_sram (a0 : State) (a1 : _) (a2 : _) : (checkUpdate a0 a1 a2).s.sram = a0.sram := by
  unfold checkUpdate; dsimp only; repeat' split
  all_goals simp
@[simp] theorem claim_sram (a0 : _) (a1 : _) (a2 : State) : (claim a0 a1 a2).s.sram = a2.sram := by
  unfold claim
  refine onSuite_sram _ _ _ _ (fun n => ?_)
  extract_lets u cl
  split
  · split
    · exact refuse_sram _ _
    · split <;> rfl
  · exact refuseOwner_sram _ _ _
@[simp] theorem claimForce_sram (a0 : _) (a1 : _) (a2 : State) : (claimForce a0 a1 a2).s.sram = a2.sram := by simp [claimForce]
@[simp] theorem classKnown_sram (a0 : State) (a1 : _) (a2 : _) : (classKnown a0 a1 a2).sram = a0.sram := by simp [classKnown]
@[simp] theorem clearCircuit_sram (a0 : State) (a1 : _) : (clearCircuit a0 a1).sram = a0.sram := by
  unfold clearCircuit
  repeat' first
    | with_reducible rfl
    | with_reducible refine (setCircuit_sram _ _ _ ).trans ?_
    | with_reducible refine (raiseEvent_sram _ _ _ _ _ _ ).trans ?_
    | with_reducible refine (setPoint_sram _ _ _ ).trans ?_
    | with_reducible refine ite_agrees (f := State.sram) _ ?_ ?_
    | with_reducible refine (foldl_sram _ ?_ _ _).trans ?_
    | with_reducible refine (foldl_fst_sram _ ?_ _ _).trans ?_
    | intro _
    | split
@[simp] theorem clearHalf_sram (a0 : State) (a1 : _) (a2 : _) : (clearHalf a0 a1 a2).sram = a0.sram := by simp [clearHalf]
@[simp] theorem clearQueue_sram (a0 : State) (a1 : _) : (clearQueue a0 a1).s.sram = a0.sram := by simp [clearQueue]
@[simp] theorem writeRecord_sram (a0 : State) (a1 : _) : (writeRecord a0 a1).sram = a0.sram := by
  unfold writeRecord
  repeat' first
    | with_reducible rfl
    | with_reducible refine (appendRecord_sram _ _ _ _ ).trans ?_
    | with_reducible refine (setPartition_sram _ _ _ ).trans ?_
    | with_reducible refine ite_agrees (f := State.sram) _ ?_ ?_
    | with_reducible refine (foldl_sram _ ?_ _ _).trans ?_
    | with_reducible refine (foldl_fst_sram _ ?_ _ _).trans ?_
    | intro _
    | split
@[simp] theorem clearRecords_sram (a0 : State) (a1 : _) (a2 : _) : (clearRecords a0 a1 a2).s.sram = a0.sram := by simp [clearRecords]
@[simp] theorem clearTamper_sram (a0 : _) (a1 : _) (a2 : State) : (clearTamper a0 a1 a2).s.sram = a2.sram := by
  unfold clearTamper
  repeat' first
    | with_reducible rfl
    | with_reducible refine (ownerOnly_sram _ _ _ _ ?_ ).trans ?_
    | with_reducible refine (onUnit_sram _ _ _ _ ?_ ).trans ?_
    | with_reducible refine (ensureRoot_sram _ _ ).trans ?_
    | with_reducible refine (refuse_sram _ _ ).trans ?_
    | with_reducible refine ite_agrees (f := State.sram) _ ?_ ?_
    | with_reducible refine (foldl_sram _ ?_ _ _).trans ?_
    | with_reducible refine (foldl_fst_sram _ ?_ _ _).trans ?_
    | intro _
    | split
@[simp] theorem clearWorst_sram (a0 : State) (a1 : _) : (clearWorst a0 a1).sram = a0.sram := by simp [clearWorst]
@[simp] theorem closeElection_sram (a0 : _) (a1 : State) : (closeElection a0 a1).sram = a1.sram := by
  unfold closeElection; dsimp only; repeat' split
  all_goals simp
@[simp] theorem closeSession_sram (a0 : _) (a1 : State) : (closeSession a0 a1).sram = a1.sram := by
  unfold closeSession
  repeat' first
    | with_reducible rfl
    | with_reducible refine (setQueue_sram _ _ _ ).trans ?_
    | with_reducible refine (undeliver_sram _ _ _ ).trans ?_
    | with_reducible refine ite_agrees (f := State.sram) _ ?_ ?_
    | with_reducible refine (foldl_sram _ ?_ _ _).trans ?_
    | with_reducible refine (foldl_fst_sram _ ?_ _ _).trans ?_
    | intro _
    | split
@[simp] theorem endCollectorCycle_sram (a0 : State) : (endCollectorCycle a0).sram = a0.sram := by simp [endCollectorCycle]
@[simp] theorem suiteCommitted_sram (a0 : State) (a1 : _) : (suiteCommitted a0 a1).sram = a0.sram := by simp [suiteCommitted]
@[simp] theorem journalPoints_sram (a0 : State) (a1 : _) (a2 : _) (a3 : _) : (journalPoints a0 a1 a2 a3).sram = a0.sram := by simp [journalPoints]
@[simp] theorem commitPoints_sram (a0 : State) (a1 : _) (a2 : _) (a3 : _) : (commitPoints a0 a1 a2 a3).sram = a0.sram := by
  unfold commitPoints
  repeat' first
    | with_reducible rfl
    | with_reducible refine (journalPoints_sram _ _ _ _ ).trans ?_
    | with_reducible refine (releaseOutputs_sram _ _ ).trans ?_
    | with_reducible refine (setPoint_sram _ _ _ ).trans ?_
    | with_reducible refine ite_agrees (f := State.sram) _ ?_ ?_
    | with_reducible refine (foldl_sram _ ?_ _ _).trans ?_
    | with_reducible refine (foldl_fst_sram _ ?_ _ _).trans ?_
    | intro _
    | split
@[simp] theorem stopSafe_sram (a0 : State) (a1 : _) : (stopSafe a0 a1).sram = a0.sram := by
  unfold stopSafe
  repeat' first
    | with_reducible rfl
    | with_reducible refine (driveSafe_sram _ _ ).trans ?_
    | with_reducible refine (setTask_sram _ _ _ ).trans ?_
    | with_reducible refine ite_agrees (f := State.sram) _ ?_ ?_
    | with_reducible refine (foldl_sram _ ?_ _ _).trans ?_
    | with_reducible refine (foldl_fst_sram _ ?_ _ _).trans ?_
    | intro _
    | split
@[simp] theorem shipWaiting_sram (a0 : State) (a1 : _) : (shipWaiting a0 a1).sram = a0.sram := by
  unfold shipWaiting
  repeat' first
    | with_reducible rfl
    | with_reducible refine (shipDelta_sram _ _ _ _ _ _ ).trans ?_
    | with_reducible refine ite_agrees (f := State.sram) _ ?_ ?_
    | with_reducible refine (foldl_sram _ ?_ _ _).trans ?_
    | with_reducible refine (foldl_fst_sram _ ?_ _ _).trans ?_
    | intro _
    | split
@[simp] theorem openInstant_sram (a0 : State) (a1 : _) : (openInstant a0 a1).sram = a0.sram := by
  unfold openInstant
  repeat' first
    | with_reducible rfl
    | with_reducible refine (shipWaiting_sram _ _ ).trans ?_
    | with_reducible refine ite_agrees (f := State.sram) _ ?_ ?_
    | with_reducible refine (foldl_sram _ ?_ _ _).trans ?_
    | with_reducible refine (foldl_fst_sram _ ?_ _ _).trans ?_
    | intro _
    | split
@[simp] theorem releaseOne_sram (a0 : State) (a1 : _) (a2 : _) : (releaseOne a0 a1 a2).1.sram = a0.sram := by simp [releaseOne]
@[simp] theorem releaseOutputs_sram (a0 : State) (a1 : _) : (releaseOutputs a0 a1).sram = a0.sram := by simp [releaseOutputs]
@[simp] theorem keepDriven_sram (a0 : State) (a1 : _) : (keepDriven a0 a1).sram = a0.sram := by
  unfold keepDriven
  repeat' first
    | with_reducible rfl
    | with_reducible refine ite_agrees (f := State.sram) _ ?_ ?_
    | with_reducible refine (foldl_sram _ ?_ _ _).trans ?_
    | with_reducible refine (foldl_fst_sram _ ?_ _ _).trans ?_
    | intro _
    | split
@[simp] theorem releaseAt_sram (a0 : State) (a1 : _) (a2 : _) : (releaseAt a0 a1 a2).sram = a0.sram := by
  unfold releaseAt
  repeat' first
    | with_reducible rfl
    | with_reducible refine (releaseOutputs_sram _ _ ).trans ?_
    | with_reducible refine (keepDriven_sram _ _ ).trans ?_
    | with_reducible refine ite_agrees (f := State.sram) _ ?_ ?_
    | with_reducible refine (foldl_sram _ ?_ _ _).trans ?_
    | with_reducible refine (foldl_fst_sram _ ?_ _ _).trans ?_
    | intro _
    | split
@[simp] theorem switchLatches_sram (a0 : State) : (switchLatches a0).sram = a0.sram := by
  unfold switchLatches
  repeat' first
    | with_reducible rfl
    | with_reducible refine (releaseAt_sram _ _ _ ).trans ?_
    | with_reducible refine ite_agrees (f := State.sram) _ ?_ ?_
    | with_reducible refine (foldl_sram _ ?_ _ _).trans ?_
    | with_reducible refine (foldl_fst_sram _ ?_ _ _).trans ?_
    | intro _
    | split
@[simp] theorem mirrorSlots_sram (a0 : State) (a1 : _) : (mirrorSlots a0 a1).sram = a0.sram := by simp [mirrorSlots]
@[simp] theorem enterCommitted_sram (a0 : State) (a1 : _) (a2 : _) : (enterCommitted a0 a1 a2).sram = a0.sram := by
  unfold enterCommitted
  repeat' first
    | with_reducible rfl
    | with_reducible refine (setQueue_sram _ _ _ ).trans ?_
    | with_reducible refine (enterItem_sram _ _ _ ).trans ?_
    | with_reducible refine (mirrorEntry_sram _ _ _ ).trans ?_
    | with_reducible refine ite_agrees (f := State.sram) _ ?_ ?_
    | with_reducible refine (foldl_sram _ ?_ _ _).trans ?_
    | with_reducible refine (foldl_fst_sram _ ?_ _ _).trans ?_
    | intro _
    | split
@[simp] theorem commitQueues_sram (a0 : State) (a1 : _) (a2 : _) : (commitQueues a0 a1 a2).sram = a0.sram := by simp [commitQueues]
@[simp] theorem postRequest_sram (a0 : _) (a1 : _) (a2 : State) (a3 : _) (bb : State) (ha1 : ∀ y0 y1, (a1 y0 y1).sram = y0.sram) (hbb : bb.sram = a2.sram) : ((postRequest a0 a1 a2 a3).after bb).sram = a2.sram := by simp [postRequest, ha1, hbb]
@[simp] theorem declareGroup_sram (a0 : State) (a1 : _) (a2 : _) (a3 : _) : (declareGroup a0 a1 a2 a3).sram = a0.sram := by
  unfold declareGroup
  repeat' first
    | with_reducible rfl
    | with_reducible refine (settleEpochs_sram1 _ _ ).trans ?_
    | with_reducible refine ite_agrees (f := State.sram) _ ?_ ?_
    | with_reducible refine (foldl_sram _ ?_ _ _).trans ?_
    | with_reducible refine (foldl_fst_sram _ ?_ _ _).trans ?_
    | intro _
    | split
@[simp] theorem configureGroup_sram (a0 : _) (a1 : State) : (configureGroup a0 a1).state.sram = a1.sram := by simp [configureGroup]
@[simp] theorem takeAddress_sram (a0 : State) (a1 : _) (a2 : _) : (takeAddress a0 a1 a2).sram = a0.sram := by
  unfold takeAddress
  repeat' first
    | with_reducible rfl
    | with_reducible refine (setUnitStat_sram _ _ _ ).trans ?_
    | with_reducible refine (settleBanks_sram _ ).trans ?_
    | with_reducible refine (settleEpochs_sram1 _ _ ).trans ?_
    | with_reducible refine (bumpAllEpochs_sram _ ).trans ?_
    | with_reducible refine ite_agrees (f := State.sram) _ ?_ ?_
    | with_reducible refine (foldl_sram _ ?_ _ _).trans ?_
    | with_reducible refine (foldl_fst_sram _ ?_ _ _).trans ?_
    | intro _
    | split
@[simp] theorem configureUnit_sram (a0 : _) (a1 : State) : (configureUnit a0 a1).state.sram = a1.sram := by simp [configureUnit]
@[simp] theorem confirmCycle_sram (a0 : State) (a1 : _) : (confirmCycle a0 a1).sram = a0.sram := by
  unfold confirmCycle
  repeat' first
    | with_reducible rfl
    | with_reducible refine (setTask_sram _ _ _ ).trans ?_
    | with_reducible refine ite_agrees (f := State.sram) _ ?_ ?_
    | with_reducible refine (foldl_sram _ ?_ _ _).trans ?_
    | with_reducible refine (foldl_fst_sram _ ?_ _ _).trans ?_
    | intro _
    | split
@[simp] theorem snapshotEntries_sram (a0 : State) : (snapshotEntries a0).1.sram = a0.sram := by
  unfold snapshotEntries
  repeat' first
    | with_reducible rfl
    | with_reducible refine (randomBytes_sram _ _ ).trans ?_
    | with_reducible refine ite_agrees (f := State.sram) _ ?_ ?_
    | with_reducible refine (foldl_sram _ ?_ _ _).trans ?_
    | with_reducible refine (foldl_fst_sram _ ?_ _ _).trans ?_
    | intro _
    | split
@[simp] theorem shipPrepared_sram (a0 : State) : (shipPrepared a0).sram = a0.sram := by
  unfold shipPrepared
  repeat' first
    | with_reducible rfl
    | with_reducible refine (shipDelta_sram _ _ _ _ _ _ ).trans ?_
    | with_reducible refine ite_agrees (f := State.sram) _ ?_ ?_
    | with_reducible refine (foldl_sram _ ?_ _ _).trans ?_
    | with_reducible refine (foldl_fst_sram _ ?_ _ _).trans ?_
    | intro _
    | split
@[simp] theorem synchronise_sram (a0 : State) : (synchronise a0).sram = a0.sram := by simp [synchronise]
@[simp] theorem loseStep_sram (a0 : State) : (loseStep a0).sram = a0.sram := by simp [loseStep]
@[simp] theorem confirmDelta_sram (a0 : _) (a1 : State) : (confirmDelta a0 a1).sram = a1.sram := by
  unfold confirmDelta
  repeat' first
    | with_reducible rfl
    | with_reducible refine (setTwin_sram _ _ ).trans ?_
    | with_reducible refine (confirmCycle_sram _ _ ).trans ?_
    | with_reducible refine (loseStep_sram _ ).trans ?_
    | with_reducible refine ite_agrees (f := State.sram) _ ?_ ?_
    | with_reducible refine (foldl_sram _ ?_ _ _).trans ?_
    | with_reducible refine (foldl_fst_sram _ ?_ _ _).trans ?_
    | intro _
    | split
@[simp] theorem programAntiroll_sram (a0 : State) (a1 : _) : (programAntiroll a0 a1).sram = a0.sram := by simp [programAntiroll]
@[simp] theorem raiseAntiroll_sram (a0 : State) (a1 : _) (a2 : _) : (raiseAntiroll a0 a1 a2).1.sram = a0.sram := by simp [raiseAntiroll]
@[simp] theorem confirmUpdate_sram (a0 : _) (a1 : State) (a2 : _) (a3 : _) : (confirmUpdate a0 a1 a2 a3).s.sram = a1.sram := by simp [confirmUpdate]
@[simp] theorem confirmationLate_sram (a0 : _) (a1 : State) : (confirmationLate a0 a1).sram = a1.sram := by simp [confirmationLate]
@[simp] theorem handItems_sram (a0 : State) (a1 : _) : (handItems a0 a1).sram = a0.sram := by
  unfold handItems
  repeat' first
    | with_reducible rfl
    | with_reducible refine (setQueue_sram _ _ _ ).trans ?_
    | with_reducible refine (readItems_sram _ _ _ ).trans ?_
    | with_reducible refine (dropLost_sram _ _ ).trans ?_
    | with_reducible refine ite_agrees (f := State.sram) _ ?_ ?_
    | with_reducible refine (foldl_sram _ ?_ _ _).trans ?_
    | with_reducible refine (foldl_fst_sram _ ?_ _ _).trans ?_
    | intro _
    | split
@[simp] theorem consumeFor_sram (a0 : State) (a1 : _) : (consumeFor a0 a1).sram = a0.sram := by simp [consumeFor]
@[simp] theorem controlError_sram (a0 : State) (a1 : _) : (controlError a0 a1).sram = a0.sram := by
  unfold controlError
  repeat' first
    | with_reducible rfl
    | with_reducible refine (setQueue_sram _ _ _ ).trans ?_
    | with_reducible refine (setUnitStat_sram _ _ _ ).trans ?_
    | with_reducible refine (raiseEvent_sram _ _ _ _ _ _ ).trans ?_
    | with_reducible refine ite_agrees (f := State.sram) _ ?_ ?_
    | with_reducible refine (foldl_sram _ ?_ _ _).trans ?_
    | with_reducible refine (foldl_fst_sram _ ?_ _ _).trans ?_
    | intro _
    | split
@[simp] theorem copyRecord_sram (a0 : State) (a1 : _) : (copyRecord a0 a1).sram = a0.sram := by
  unfold copyRecord
  repeat' first
    | with_reducible rfl
    | with_reducible refine (setPartition_sram _ _ _ ).trans ?_
    | with_reducible refine ite_agrees (f := State.sram) _ ?_ ?_
    | with_reducible refine (foldl_sram _ ?_ _ _).trans ?_
    | with_reducible refine (foldl_fst_sram _ ?_ _ _).trans ?_
    | intro _
    | split
@[simp] theorem copyRecords_sram (a0 : State) (a1 : _) (a2 : _) : (copyRecords a0 a1 a2).sram = a0.sram := by simp [copyRecords]
@[simp] theorem countAll_sram (a0 : State) (a1 : _) (a2 : _) (a3 : _) : (countAll a0 a1 a2 a3).sram = a0.sram := by simp [countAll]
@[simp] theorem countSent_sram (a0 : State) (a1 : _) (a2 : _) : (countSent a0 a1 a2).sram = a0.sram := by simp [countSent]
@[simp] theorem useKey_sram (a0 : State) (a1 : _) : (useKey a0 a1).sram = a0.sram := by simp [useKey]
@[simp] theorem countUses_sram (a0 : _) (a1 : _) : (countUses a0 a1).s.sram = a1.s.sram := by simp [countUses]
@[simp] theorem keyDone_sram (a0 : State) (a1 : _) : (keyDone a0 a1).s.sram = a0.sram := by simp [keyDone]
@[simp] theorem keyStop_sram (a0 : State) (a1 : _) : (keyStop a0 a1).s.sram = a0.sram := by simp [keyStop]
@[simp] theorem createKey_sram (a0 : State) (a1 : _) (a2 : _) (a3 : _) : (createKey a0 a1 a2 a3).s.sram = a0.sram := by
  unfold createKey; split <;> simp
@[simp] theorem followPartner_sram (a0 : State) : (followPartner a0).sram = a0.sram := by simp [followPartner]
@[simp] theorem startTasksAt_sram (a0 : State) (a1 : _) : (startTasksAt a0 a1).sram = a0.sram := by
  unfold startTasksAt
  repeat' first
    | with_reducible rfl
    | with_reducible refine (setTask_sram _ _ _ ).trans ?_
    | with_reducible refine ite_agrees (f := State.sram) _ ?_ ?_
    | with_reducible refine (foldl_sram _ ?_ _ _).trans ?_
    | with_reducible refine (foldl_fst_sram _ ?_ _ _).trans ?_
    | intro _
    | split
@[simp] theorem decideRoles_sram (a0 : State) : (decideRoles a0).sram = a0.sram := by
  unfold decideRoles
  repeat' first
    | with_reducible rfl
    | with_reducible refine (followPartner_sram _ ).trans ?_
    | with_reducible refine (synchronise_sram _ ).trans ?_
    | with_reducible refine (becomeActive_sram _ ).trans ?_
    | with_reducible refine (startTasksAt_sram _ _ ).trans ?_
    | with_reducible refine ite_agrees (f := State.sram) _ ?_ ?_
    | with_reducible refine (foldl_sram _ ?_ _ _).trans ?_
    | with_reducible refine (foldl_fst_sram _ ?_ _ _).trans ?_
    | intro _
    | split
@[simp] theorem linkFault_sram (a0 : State) (a1 : _) : (linkFault a0 a1).sram = a0.sram := by simp [linkFault]
@[simp] theorem wingDown_sram (a0 : State) (a1 : _) : (wingDown a0 a1).sram = a0.sram := by simp [wingDown]
@[simp] theorem declareDown_sram (a0 : State) (a1 : _) : (declareDown a0 a1).sram = a0.sram := by simp [declareDown]
@[simp] theorem takeOutcomes_sram (a0 : _) (a1 : State) : (takeOutcomes a0 a1).sram = a1.sram := by
  unfold takeOutcomes
  repeat' first
    | with_reducible rfl
    | with_reducible refine (tellCycleOutcome_sram _ _ _ ).trans ?_
    | with_reducible refine ite_agrees (f := State.sram) _ ?_ ?_
    | with_reducible refine (foldl_sram _ ?_ _ _).trans ?_
    | with_reducible refine (foldl_fst_sram _ ?_ _ _).trans ?_
    | intro _
    | split
@[simp] theorem onAnyUnit_sram (a0 : _) (a1 : State) (a2 : _) (ha2 : ∀ y0, (a2 y0).s.sram = a1.sram) : (onAnyUnit a0 a1 a2).s.sram = a1.sram := by
  unfold onAnyUnit
  repeat' first
    | with_reducible rfl
    | with_reducible apply ha2
    | with_reducible refine (refuse_sram _ _ ).trans ?_
    | with_reducible refine ite_agrees (f := State.sram) _ ?_ ?_
    | with_reducible refine (foldl_sram _ ?_ _ _).trans ?_
    | with_reducible refine (foldl_fst_sram _ ?_ _ _).trans ?_
    | intro _
    | split
@[simp] theorem describe_sram (a0 : _) (a1 : _) (a2 : State) : (describe a0 a1 a2).s.sram = a2.sram := by simp [describe]
@[simp] theorem detection_sram (a0 : _) (a1 : _) (a2 : State) : (detection a0 a1 a2).sram = a2.sram := by simp [detection]
@[simp] theorem differ_sram (a0 : State) : (differ a0).sram = a0.sram := by
  unfold differ
  repeat' first
    | with_reducible rfl
    | with_reducible refine (setTwin_sram _ _ ).trans ?_
    | with_reducible refine (raiseEvent_sram _ _ _ _ _ _ ).trans ?_
    | with_reducible refine ite_agrees (f := State.sram) _ ?_ ?_
    | with_reducible refine (foldl_sram _ ?_ _ _).trans ?_
    | with_reducible refine (foldl_fst_sram _ ?_ _ _).trans ?_
    | intro _
    | split
@[simp] theorem discardPacket_sram (a0 : _) (a1 : _) (a2 : State) (a3 : _) (bb : State) (hbb : bb.sram = a2.sram) : ((discardPacket a0 a1 a2 a3).after bb).sram = a2.sram := by
  unfold discardPacket
  try dsimp only
  repeat' first
    | with_reducible rfl
    | with_reducible assumption
    | (simp [hbb]; done)
    | split
    | (refine (foldl_sram _ ?_ _ _).trans ?_ <;> (try intro _ _) <;> (try dsimp only))
    | (refine (foldl_fst_sram _ ?_ _ _).trans ?_ <;> (try intro _ _) <;> (try dsimp only))
    | (rw [answer_sram] <;> intros <;> (try dsimp only))
    | simp [hbb]

@[simp] theorem finishTest_sram (a0 : State) (a1 : _) (a2 : _) (a3 : _) (a4 : _) : (finishTest a0 a1 a2 a3 a4).sram = a0.sram := by simp [finishTest]
@[simp] theorem discardTest_sram (a0 : State) (a1 : _) : (discardTest a0 a1).sram = a0.sram := by
  unfold discardTest
  repeat' first
    | with_reducible rfl
    | with_reducible refine (finishTest_sram _ _ _ _ _ ).trans ?_
    | with_reducible refine ite_agrees (f := State.sram) _ ?_ ?_
    | with_reducible refine (foldl_sram _ ?_ _ _).trans ?_
    | with_reducible refine (foldl_fst_sram _ ?_ _ _).trans ?_
    | intro _
    | split
@[simp] theorem noteLines_sram (a0 : State) (a1 : _) (a2 : _) (a3 : _) (a4 : _) : (noteLines a0 a1 a2 a3 a4).sram = a0.sram := by simp [noteLines]
@[simp] theorem setPulse_sram (a0 : State) (a1 : _) (a2 : _) : (setPulse a0 a1 a2).sram = a0.sram := by simp [setPulse]
@[simp] theorem duePulses_sram (a0 : State) (a1 : _) (a2 : _) (a3 : _) : (duePulses a0 a1 a2 a3).sram = a0.sram := by simp [duePulses]
@[simp] theorem frameSent_sram (a0 : State) (a1 : _) (a2 : _) : (frameSent a0 a1 a2).sram = a0.sram := by simp [frameSent]
@[simp] theorem egressSent_sram (a0 : _) (a1 : State) : (egressSent a0 a1).sram = a1.sram := by
  unfold egressSent
  repeat' first
    | with_reducible rfl
    | with_reducible refine (countAll_sram _ _ _ _ ).trans ?_
    | with_reducible refine (frameSent_sram _ _ _ ).trans ?_
    | with_reducible refine (setPort_sram _ _ _ ).trans ?_
    | with_reducible refine ite_agrees (f := State.sram) _ ?_ ?_
    | with_reducible refine (foldl_sram _ ?_ _ _).trans ?_
    | with_reducible refine (foldl_fst_sram _ ?_ _ _).trans ?_
    | intro _
    | split
@[simp] theorem endOf_sram (a0 : State) (a1 : _) : (endOf a0 a1).sram = a0.sram := by simp [endOf]
@[simp] theorem endOwnership_sram (a0 : State) (a1 : _) : (endOwnership a0 a1).sram = a0.sram := by simp [endOwnership]
@[simp] theorem seek_sram (a0 : State) : (seek a0).sram = a0.sram := by simp [seek]
@[simp] theorem startLoaded_sram (a0 : State) : (startLoaded a0).sram = a0.sram := by simp [startLoaded]
@[simp] theorem endPass_sram (a0 : _) (a1 : State) : (endPass a0 a1).state.sram = a1.sram := by
  unfold endPass; repeat' split
  all_goals simp
@[simp] theorem endTrials_sram (a0 : State) : (endTrials a0).sram = a0.sram := by simp [endTrials]
@[simp] theorem readHead_sram (a0 : State) (a1 : _) : (readHead a0 a1).sram = a0.sram := by
  unfold readHead; dsimp only; repeat' split
  all_goals simp
@[simp] theorem engineReads_sram (a0 : State) (a1 : _) (a2 : _) : (engineReads a0 a1 a2).sram = a0.sram := by
  unfold engineReads
  repeat' first
    | with_reducible rfl
    | with_reducible refine (readHead_sram _ _ ).trans ?_
    | with_reducible refine ite_agrees (f := State.sram) _ ?_ ?_
    | with_reducible refine (foldl_sram _ ?_ _ _).trans ?_
    | with_reducible refine (foldl_fst_sram _ ?_ _ _).trans ?_
    | intro _
    | split
@[simp] theorem markWaiting_sram (a0 : State) (a1 : _) (a2 : _) : (markWaiting a0 a1 a2).sram = a0.sram := by simp [markWaiting]
@[simp] theorem enterFrom_sram (a0 : State) (a1 : _) (a2 : _) (a3 : _) : (enterFrom a0 a1 a2 a3).sram = a0.sram := by
  unfold enterFrom
  repeat' first
    | with_reducible rfl
    | with_reducible refine (setQueue_sram _ _ _ ).trans ?_
    | with_reducible refine (spendAndEnter_sram _ _ _ ).trans ?_
    | with_reducible refine (countThreshold_sram _ _ ).trans ?_
    | with_reducible refine (markWaiting_sram _ _ _ ).trans ?_
    | with_reducible refine ite_agrees (f := State.sram) _ ?_ ?_
    | with_reducible refine (foldl_sram _ ?_ _ _).trans ?_
    | with_reducible refine (foldl_fst_sram _ ?_ _ _).trans ?_
    | intro _
    | split
@[simp] theorem enterLpi_sram (a0 : State) (a1 : _) : (enterLpi a0 a1).sram = a0.sram := by simp [enterLpi]
@[simp] theorem setUpService_sram (a0 : State) (a1 : _) : (setUpService a0 a1).sram = a0.sram := by simp [setUpService]
@[simp] theorem setUpServices_sram (a0 : State) : (setUpServices a0).sram = a0.sram := by
  delta setUpServices
  generalize servicePuts = l, serviceTable = t
  dsimp only
  rw [setQueue_sram]
  with_reducible refine (foldl_sram _ ?_ _ _).trans (foldl_sram _ ?_ _ _)
  · intro s e; exact attachEngine_sram s e.1 e.2
  · exact setUpService_sram
@[simp] theorem enterRecovery_sram (a0 : State) : (enterRecovery a0).sram = a0.sram := by
  unfold enterRecovery; dsimp only
  split
  · rw [setUnitStat_sram, setUpServices_sram]
  · rw [setUpServices_sram]
@[simp] theorem epochOver_sram (a0 : State) : (epochOver a0).sram = a0.sram := by simp [epochOver]
@[simp] theorem writeDestinations_sram (a0 : State) (a1 : _) (a2 : _) (a3 : _) : (writeDestinations a0 a1 a2 a3).sram = a0.sram := by simp [writeDestinations]
@[simp] theorem evaluateSlot_sram (a0 : State) (a1 : _) (a2 : _) : (evaluateSlot a0 a1 a2).sram = a0.sram := by simp [evaluateSlot]
@[simp] theorem resumeTask_sram (a0 : _) (a1 : _) (a2 : State) (a3 : _) : (resumeTask a0 a1 a2 a3).sram = a2.sram := by
  unfold resumeTask
  repeat' first
    | with_reducible rfl
    | with_reducible refine (countSkipped_sram _ _ _ ).trans ?_
    | with_reducible refine (setTask_sram _ _ _ ).trans ?_
    | with_reducible refine ite_agrees (f := State.sram) _ ?_ ?_
    | with_reducible refine (foldl_sram _ ?_ _ _).trans ?_
    | with_reducible refine (foldl_fst_sram _ ?_ _ _).trans ?_
    | intro _
    | split
@[simp] theorem exchangeRoles_sram (a0 : _) (a1 : _) (a2 : State) : (exchangeRoles a0 a1 a2).sram = a2.sram := by
  unfold exchangeRoles; dsimp only
  split
  · rw [setTwin_sram, becomeStandby_sram]; rfl
  · refine (foldl_sram _ (fun s b => resumeTask_sram _ _ _ _) _ _).trans ?_
    rw [setTwin_sram, becomeActive_sram]; rfl
  · rfl
@[simp] theorem onKey_sram (a0 : State) (a1 : _) (a2 : _) (ha2 : ∀ y0, (a2 y0).s.sram = a0.sram) : (onKey a0 a1 a2).s.sram = a0.sram := by
  unfold onKey
  repeat' first
    | with_reducible rfl
    | with_reducible apply ha2
    | with_reducible refine (keyStop_sram _ _ ).trans ?_
    | with_reducible refine ite_agrees (f := State.sram) _ ?_ ?_
    | with_reducible refine (foldl_sram _ ?_ _ _).trans ?_
    | with_reducible refine (foldl_fst_sram _ ?_ _ _).trans ?_
    | intro _
    | split
@[simp] theorem onTyped_sram (a0 : State) (a1 : _) (a2 : _) (a3 : _) (ha3 : ∀ y0, (a3 y0).s.sram = a0.sram) : (onTyped a0 a1 a2 a3).s.sram = a0.sram := by
  unfold onTyped
  repeat' first
    | with_reducible rfl
    | with_reducible apply ha3
    | with_reducible refine (keyStop_sram _ _ ).trans ?_
    | with_reducible refine (onKey_sram _ _ _ ?_ ).trans ?_
    | with_reducible refine ite_agrees (f := State.sram) _ ?_ ?_
    | with_reducible refine (foldl_sram _ ?_ _ _).trans ?_
    | with_reducible refine (foldl_fst_sram _ ?_ _ _).trans ?_
    | intro _
    | split
@[simp] theorem propose_sram (a0 : _) (a1 : _) (a2 : State) (a3 : _) : (propose a0 a1 a2 a3).sram = a2.sram := by simp [propose]
@[simp] theorem floorQuiet_sram (a0 : _) (a1 : _) (a2 : State) : (floorQuiet a0 a1 a2).s.sram = a2.sram := by simp [floorQuiet]
@[simp] theorem floorWake_sram (a0 : _) (a1 : _) (a2 : State) : (floorWake a0 a1 a2).s.sram = a2.sram := by simp [floorWake]
@[simp] theorem followClock_sram (a0 : _) (a1 : State) : (followClock a0 a1).sram = a1.sram := by simp [followClock]
@[simp] theorem queueFrame_sram (a0 : State) (a1 : _) (a2 : _) (a3 : _) (a4 : _) (a5 : _) : (queueFrame a0 a1 a2 a3 a4 a5).sram = a0.sram := by simp [queueFrame]
@[simp] theorem offerCopy_sram (a0 : State) (a1 : _) (a2 : _) (a3 : _) : (offerCopy a0 a1 a2 a3).1.sram = a0.sram := by simp [offerCopy]
@[simp] theorem sendCopies_sram (a0 : State) (a1 : _) (a2 : _) (a3 : _) : (sendCopies a0 a1 a2 a3).1.sram = a0.sram := by simp [sendCopies]
@[simp] theorem forwardFrame_sram (a0 : State) (a1 : _) (a2 : _) : (forwardFrame a0 a1 a2).sram = a0.sram := by
  unfold forwardFrame
  repeat' first
    | with_reducible rfl
    | with_reducible refine (queueFrame_sram _ _ _ _ _ _ ).trans ?_
    | with_reducible refine (sendCopies_sram _ _ _ _ ).trans ?_
    | with_reducible refine ite_agrees (f := State.sram) _ ?_ ?_
    | with_reducible refine (foldl_sram _ ?_ _ _).trans ?_
    | with_reducible refine (foldl_fst_sram _ ?_ _ _).trans ?_
    | intro _
    | split
@[simp] theorem governorResume_sram (a0 : _) (a1 : State) : (governorResume a0 a1).sram = a1.sram := by simp [governorResume]
@[simp] theorem governorWindow_sram (a0 : _) (a1 : _) (a2 : State) : (governorWindow a0 a1 a2).sram = a2.sram := by
  unfold governorWindow; dsimp only
  repeat' split
  all_goals first
    | rfl
    | rw [beginStep_sram, setUplink_sram]
    | rw [setUplink_sram]
@[simp] theorem passGroup_sram (a0 : _) (a1 : _) (a2 : State) (a3 : _) (a4 : _) (ha0 : ∀ y0 y1 y2, (a0 y0 y1 y2).s.sram = y2.sram) : (passGroup a0 a1 a2 a3 a4).s.sram = a2.sram := by
  induction a1 generalizing a2 a3 a4 with
  | zero => rfl
  | succ n ih =>
    unfold passGroup
    split
    · rfl
    · refine ite_agrees (f := fun r : CmdResult => r.s.sram) _ rfl ?_
      refine ite_agrees (f := fun r : CmdResult => r.s.sram) _ ?_ ?_
      all_goals
        refine ite_agrees (f := fun r : CmdResult => r.s.sram) _ rfl ?_
        split
        · exact ih _ _ _
        · refine ite_agrees (f := fun r : CmdResult => r.s.sram) _ ?_ (ha0 _ _ _)
          rw [noteStatus_sram]; exact ha0 _ _ _
@[simp] theorem groupCommand_sram (a0 : _) (a1 : State) (a2 : _) (a3 : _) (ha0 : ∀ y0 y1 y2, (a0 y0 y1 y2).s.sram = y2.sram) : (groupCommand a0 a1 a2 a3).s.sram = a1.sram := by
  unfold groupCommand
  repeat' first
    | with_reducible rfl
    | with_reducible apply ha0
    | with_reducible refine (passGroup_sram _ _ _ _ _ ?_ ).trans ?_
    | with_reducible refine (ownerOnly_sram _ _ _ _ ?_ ).trans ?_
    | with_reducible refine ite_agrees (f := State.sram) _ ?_ ?_
    | with_reducible refine (foldl_sram _ ?_ _ _).trans ?_
    | with_reducible refine (foldl_fst_sram _ ?_ _ _).trans ?_
    | intro _
    | split
@[simp] theorem halfItem_sram (a0 : _) (a1 : State) : (halfItem a0 a1).sram = a1.sram := by simp [halfItem]
@[simp] theorem withdrawOffered_sram (a0 : State) (a1 : _) (a2 : _) (a3 : _) : (withdrawOffered a0 a1 a2 a3).sram = a0.sram := by simp [withdrawOffered]
@[simp] theorem hallCancel_sram (a0 : _) (a1 : _) (a2 : State) : (hallCancel a0 a1 a2).s.sram = a2.sram := by
  unfold hallCancel
  repeat' first
    | with_reducible rfl
    | with_reducible refine (ownerOnly_sram _ _ _ _ ?_ ).trans ?_
    | with_reducible refine (refuse_sram _ _ ).trans ?_
    | with_reducible refine (withdrawOffered_sram _ _ _ _ ).trans ?_
    | with_reducible refine ite_agrees (f := State.sram) _ ?_ ?_
    | with_reducible refine (foldl_sram _ ?_ _ _).trans ?_
    | with_reducible refine (foldl_fst_sram _ ?_ _ _).trans ?_
    | intro _
    | split
@[simp] theorem hallEnter_sram (a0 : State) (a1 : _) (a2 : _) (a3 : _) (a4 : _) (a5 : _) : (hallEnter a0 a1 a2 a3 a4 a5).sram = a0.sram := by simp [hallEnter]
@[simp] theorem hallReceive_sram (a0 : _) (a1 : _) (a2 : State) : (hallReceive a0 a1 a2).sram = a2.sram := by
  unfold hallReceive
  repeat' first
    | with_reducible rfl
    | with_reducible refine (setHall_sram _ _ _ ).trans ?_
    | with_reducible refine (hallEnter_sram _ _ _ _ _ _ ).trans ?_
    | with_reducible refine ite_agrees (f := State.sram) _ ?_ ?_
    | with_reducible refine (foldl_sram _ ?_ _ _).trans ?_
    | with_reducible refine (foldl_fst_sram _ ?_ _ _).trans ?_
    | intro _
    | split
@[simp] theorem hallTake_sram (a0 : _) (a1 : _) (a2 : State) : (hallTake a0 a1 a2).sram = a2.sram := by
  unfold hallTake; dsimp only; repeat' split
  all_goals simp
@[simp] theorem handOn_sram (a0 : State) (a1 : _) (a2 : _) : (handOn a0 a1 a2).sram = a0.sram := by simp [handOn]
@[simp] theorem ownerCommand_sram (a0 : _) (a1 : _) (a2 : State) (a3 : _) (ha3 : ∀ y0, (a3 y0).s.sram = a2.sram) : (ownerCommand a0 a1 a2 a3).s.sram = a2.sram := by simp [ownerCommand, ha3]
@[simp] theorem handOver_sram (a0 : _) (a1 : _) (a2 : State) : (handOver a0 a1 a2).s.sram = a2.sram := by simp [handOver]
@[simp] theorem writeIngress_sram (a0 : State) (a1 : _) (a2 : _) (a3 : _) (a4 : _) : (writeIngress a0 a1 a2 a3 a4).1.sram = a0.sram := by
  unfold writeIngress
  repeat' first
    | with_reducible rfl
    | with_reducible refine (countPort_sram _ _ _ _ _ ).trans ?_
    | with_reducible refine (mirror_sram _ _ ).trans ?_
    | with_reducible refine (countThreshold_sram _ _ ).trans ?_
    | with_reducible refine (setPoint_sram _ _ _ ).trans ?_
    | with_reducible refine ite_agrees (f := State.sram) _ ?_ ?_
    | with_reducible refine (foldl_sram _ ?_ _ _).trans ?_
    | with_reducible refine (foldl_fst_sram _ ?_ _ _).trans ?_
    | intro _
    | split
@[simp] theorem ingressPoints_sram (a0 : State) (a1 : _) (a2 : _) : (ingressPoints a0 a1 a2).sram = a0.sram := by simp [ingressPoints]
@[simp] theorem handleFrame_sram (a0 : State) (a1 : _) : (handleFrame a0 a1).sram = a0.sram := by
  unfold handleFrame; dsimp only; repeat' split
  all_goals simp
@[simp] theorem tellOutcomes_sram (a0 : State) : (tellOutcomes a0).sram = a0.sram := by
  unfold tellOutcomes
  repeat' first
    | with_reducible rfl
    | with_reducible refine (tellWinner_sram _ _ _ ).trans ?_
    | with_reducible refine (setTask_sram _ _ _ ).trans ?_
    | with_reducible refine ite_agrees (f := State.sram) _ ?_ ?_
    | with_reducible refine (foldl_sram _ ?_ _ _).trans ?_
    | with_reducible refine (foldl_fst_sram _ ?_ _ _).trans ?_
    | intro _
    | split
@[simp] theorem stepDown_sram (a0 : State) : (stepDown a0).sram = a0.sram := by simp [stepDown]
@[simp] theorem setPath_sram (a0 : State) (a1 : _) (a2 : _) : (setPath a0 a1 a2).sram = a0.sram := by simp [setPath]
@[simp] theorem learnSwitch_sram (a0 : _) (a1 : State) : (learnSwitch a0 a1).sram = a1.sram := by
  unfold learnSwitch
  repeat' first
    | with_reducible rfl
    | with_reducible refine (setTwin_sram _ _ ).trans ?_
    | with_reducible refine ite_agrees (f := State.sram) _ ?_ ?_
    | with_reducible refine (foldl_sram _ ?_ _ _).trans ?_
    | with_reducible refine (foldl_fst_sram _ ?_ _ _).trans ?_
    | intro _
    | split
@[simp] theorem hearPartner_sram (a0 : _) (a1 : State) : (hearPartner a0 a1).sram = a1.sram := by simp [hearPartner]
@[simp] theorem holdRerelease_sram (a0 : State) (a1 : _) : (holdRerelease a0 a1).sram = a0.sram := by simp [holdRerelease]
@[simp] theorem pauseOver_sram (a0 : State) (a1 : _) : (pauseOver a0 a1).sram = a0.sram := by
  unfold pauseOver
  repeat' first
    | with_reducible rfl
    | with_reducible refine (setPort_sram _ _ _ ).trans ?_
    | with_reducible refine ite_agrees (f := State.sram) _ ?_ ?_
    | with_reducible refine (foldl_sram _ ?_ _ _).trans ?_
    | with_reducible refine (foldl_fst_sram _ ?_ _ _).trans ?_
    | intro _
    | split
@[simp] theorem honourPause_sram (a0 : State) (a1 : _) (a2 : _) : (honourPause a0 a1 a2).sram = a0.sram := by simp [honourPause]
@[simp] theorem inputChange_sram (a0 : _) (a1 : _) (a2 : State) : (inputChange a0 a1 a2).sram = a2.sram := by simp [inputChange]
@[simp] theorem inputPin_sram (a0 : _) (a1 : _) (a2 : State) : (inputPin a0 a1 a2).sram = a2.sram := by
  unfold inputPin; dsimp only; repeat' split
  all_goals simp
@[simp] theorem inputTest_sram (a0 : _) (a1 : _) (a2 : State) : (inputTest a0 a1 a2).sram = a2.sram := by simp [inputTest]
@[simp] theorem installNext_sram (a0 : State) : (installNext a0).sram = a0.sram := by
  unfold installNext
  repeat' first
    | with_reducible rfl
    | with_reducible refine (endWaiting_sram _ _ _ ).trans ?_
    | with_reducible refine (directSwitch_sram _ _ _ ).trans ?_
    | with_reducible refine ite_agrees (f := State.sram) _ ?_ ?_
    | with_reducible refine (foldl_sram _ ?_ _ _).trans ?_
    | with_reducible refine (foldl_fst_sram _ ?_ _ _).trans ?_
    | intro _
    | split
@[simp] theorem itemError_sram (a0 : State) (a1 : _) (a2 : _) (a3 : _) : (itemError a0 a1 a2 a3).sram = a0.sram := by
  unfold itemError
  repeat' first
    | with_reducible rfl
    | with_reducible refine (setQueue_sram _ _ _ ).trans ?_
    | with_reducible refine ite_agrees (f := State.sram) _ ?_ ?_
    | with_reducible refine (foldl_sram _ ?_ _ _).trans ?_
    | with_reducible refine (foldl_fst_sram _ ?_ _ _).trans ?_
    | intro _
    | split
@[simp] theorem journalWrite_sram (a0 : State) : (journalWrite a0).sram = a0.sram := by
  unfold journalWrite
  repeat' first
    | with_reducible rfl
    | with_reducible refine ite_agrees (f := State.sram) _ ?_ ?_
    | with_reducible refine (foldl_sram _ ?_ _ _).trans ?_
    | with_reducible refine (foldl_fst_sram _ ?_ _ _).trans ?_
    | intro _
    | split
@[simp] theorem judgeMember_sram (a0 : State) (a1 : _) (a2 : _) (a3 : _) : (judgeMember a0 a1 a2 a3).sram = a0.sram := by
  unfold judgeMember
  repeat' first
    | with_reducible rfl
    | with_reducible refine (raiseEvent_sram _ _ _ _ _ _ ).trans ?_
    | with_reducible refine ite_agrees (f := State.sram) _ ?_ ?_
    | with_reducible refine (foldl_sram _ ?_ _ _).trans ?_
    | with_reducible refine (foldl_fst_sram _ ?_ _ _).trans ?_
    | intro _
    | split
@[simp] theorem judgeQueues_sram (a0 : State) : (judgeQueues a0).sram = a0.sram := by
  unfold judgeQueues
  repeat' first
    | with_reducible rfl
    | with_reducible refine (judgeHigh_sram _ _ ).trans ?_
    | with_reducible refine ite_agrees (f := State.sram) _ ?_ ?_
    | with_reducible refine (foldl_sram _ ?_ _ _).trans ?_
    | with_reducible refine (foldl_fst_sram _ ?_ _ _).trans ?_
    | intro _
    | split
@[simp] theorem onParent_sram (a0 : State) (a1 : _) (a2 : _) (ha2 : ∀ y0, (a2 y0).s.sram = a0.sram) : (onParent a0 a1 a2).s.sram = a0.sram := by
  unfold onParent
  repeat' first
    | with_reducible rfl
    | with_reducible apply ha2
    | with_reducible refine (keyStop_sram _ _ ).trans ?_
    | with_reducible refine (onKey_sram _ _ _ ?_ ).trans ?_
    | with_reducible refine ite_agrees (f := State.sram) _ ?_ ?_
    | with_reducible refine (foldl_sram _ ?_ _ _).trans ?_
    | with_reducible refine (foldl_fst_sram _ ?_ _ _).trans ?_
    | intro _
    | split
@[simp] theorem keyDestroy_sram (a0 : _) (a1 : State) : (keyDestroy a0 a1).s.sram = a1.sram := by
  unfold keyDestroy
  repeat' first
    | with_reducible rfl
    | with_reducible refine (keyDone_sram _ _ ).trans ?_
    | with_reducible refine (destroyKeys_sram _ _ ).trans ?_
    | with_reducible refine (keyStop_sram _ _ ).trans ?_
    | with_reducible refine (createRoot_sram _ _ ).trans ?_
    | with_reducible refine (onKey_sram _ _ _ ?_ ).trans ?_
    | with_reducible refine ite_agrees (f := State.sram) _ ?_ ?_
    | with_reducible refine (foldl_sram _ ?_ _ _).trans ?_
    | with_reducible refine (foldl_fst_sram _ ?_ _ _).trans ?_
    | intro _
    | split
@[simp] theorem keyGen_sram (a0 : _) (a1 : State) : (keyGen a0 a1).s.sram = a1.sram := by simp [keyGen]
@[simp] theorem takeOverTask_sram (a0 : _) (a1 : State) (a2 : _) : (takeOverTask a0 a1 a2).sram = a1.sram := by
  unfold takeOverTask
  repeat' first
    | with_reducible rfl
    | with_reducible refine (tellCycleOutcome_sram _ _ _ ).trans ?_
    | with_reducible refine (countSkipped_sram _ _ _ ).trans ?_
    | with_reducible refine (setTask_sram _ _ _ ).trans ?_
    | with_reducible refine ite_agrees (f := State.sram) _ ?_ ?_
    | with_reducible refine (foldl_sram _ ?_ _ _).trans ?_
    | with_reducible refine (foldl_fst_sram _ ?_ _ _).trans ?_
    | intro _
    | split
@[simp] theorem markStale_sram (a0 : State) (a1 : _) : (markStale a0 a1).sram = a0.sram := by
  unfold markStale
  repeat' first
    | with_reducible rfl
    | with_reducible refine (tellCycleOutcome_sram _ _ _ ).trans ?_
    | with_reducible refine (setTask_sram _ _ _ ).trans ?_
    | with_reducible refine ite_agrees (f := State.sram) _ ?_ ?_
    | with_reducible refine (foldl_sram _ ?_ _ _).trans ?_
    | with_reducible refine (foldl_fst_sram _ ?_ _ _).trans ?_
    | intro _
    | split
@[simp] theorem laneError_sram (a0 : _) (a1 : State) : (laneError a0 a1).sram = a1.sram := by simp [laneError]
@[simp] theorem larderError_sram (a0 : State) (a1 : _) (a2 : _) : (larderError a0 a1 a2).sram = a0.sram := by
  unfold larderError
  repeat' first
    | with_reducible rfl
    | with_reducible refine (itemError_sram _ _ _ _ ).trans ?_
    | with_reducible refine (controlError_sram _ _ ).trans ?_
    | with_reducible refine ite_agrees (f := State.sram) _ ?_ ?_
    | with_reducible refine (foldl_sram _ ?_ _ _).trans ?_
    | with_reducible refine (foldl_fst_sram _ ?_ _ _).trans ?_
    | intro _
    | split
@[simp] theorem launchItem_sram (a0 : _) (a1 : State) : (launchItem a0 a1).sram = a1.sram := by
  unfold launchItem; dsimp only; repeat' split
  all_goals simp
@[simp] theorem launchMissed_sram (a0 : State) (a1 : _) : (launchMissed a0 a1).sram = a0.sram := by
  unfold launchMissed
  repeat' first
    | with_reducible rfl
    | with_reducible refine (completeLaunch_sram _ _ _ _ _ _ ).trans ?_
    | with_reducible refine ite_agrees (f := State.sram) _ ?_ ?_
    | with_reducible refine (foldl_sram _ ?_ _ _).trans ?_
    | with_reducible refine (foldl_fst_sram _ ?_ _ _).trans ?_
    | intro _
    | split
@[simp] theorem launchSend_sram (a0 : _) (a1 : _) (a2 : State) : (launchSend a0 a1 a2).sram = a2.sram := by
  unfold launchSend
  repeat' first
    | with_reducible rfl
    | with_reducible refine (completeLaunch_sram _ _ _ _ _ _ ).trans ?_
    | with_reducible refine (countSent_sram _ _ _ ).trans ?_
    | with_reducible refine (countAll_sram _ _ _ _ ).trans ?_
    | with_reducible refine (setPort_sram _ _ _ ).trans ?_
    | with_reducible refine ite_agrees (f := State.sram) _ ?_ ?_
    | with_reducible refine (foldl_sram _ ?_ _ _).trans ?_
    | with_reducible refine (foldl_fst_sram _ ?_ _ _).trans ?_
    | intro _
    | split
@[simp] theorem lifetimeExpiry_sram (a0 : _) (a1 : _) (a2 : State) : (lifetimeExpiry a0 a1 a2).sram = a2.sram := by
  unfold lifetimeExpiry
  repeat' first
    | with_reducible rfl
    | with_reducible refine (withdrawOffered_sram _ _ _ _ ).trans ?_
    | with_reducible refine ite_agrees (f := State.sram) _ ?_ ?_
    | with_reducible refine (foldl_sram _ ?_ _ _).trans ?_
    | with_reducible refine (foldl_fst_sram _ ?_ _ _).trans ?_
    | intro _
    | split
@[simp] theorem zeroPoints_sram (a0 : State) (a1 : _) : (zeroPoints a0 a1).sram = a0.sram := by simp [zeroPoints]
@[simp] theorem liftQueue_sram (a0 : State) (a1 : _) : (liftQueue a0 a1).sram = a0.sram := by simp [liftQueue]
@[simp] theorem restartTask_sram (a0 : _) (a1 : State) (a2 : _) : (restartTask a0 a1 a2).sram = a1.sram := by simp [restartTask]
@[simp] theorem linkChange_sram (a0 : _) (a1 : _) (a2 : State) : (linkChange a0 a1 a2).sram = a2.sram := by
  unfold linkChange
  repeat' first
    | with_reducible rfl
    | with_reducible refine (launchMissed_sram _ _ ).trans ?_
    | with_reducible refine (setPort_sram _ _ _ ).trans ?_
    | with_reducible refine (dropLink_sram _ _ _ ).trans ?_
    | with_reducible refine ite_agrees (f := State.sram) _ ?_ ?_
    | with_reducible refine (foldl_sram _ ?_ _ _).trans ?_
    | with_reducible refine (foldl_fst_sram _ ?_ _ _).trans ?_
    | intro _
    | split
@[simp] theorem rejoinHall_sram (a0 : State) (a1 : _) : (rejoinHall a0 a1).sram = a0.sram := by simp [rejoinHall]
@[simp] theorem retrainUnit_sram (a0 : State) (a1 : _) : (retrainUnit a0 a1).sram = a0.sram := by
  unfold retrainUnit
  repeat' first
    | with_reducible rfl
    | with_reducible refine (rejoinHall_sram _ _ ).trans ?_
    | with_reducible refine (renegotiate_sram _ _ ).trans ?_
    | with_reducible refine (retrain_sram _ _ _ ).trans ?_
    | with_reducible refine ite_agrees (f := State.sram) _ ?_ ?_
    | with_reducible refine (foldl_sram _ ?_ _ _).trans ?_
    | with_reducible refine (foldl_fst_sram _ ?_ _ _).trans ?_
    | intro _
    | split
@[simp] theorem loopEnd_sram (a0 : _) (a1 : _) (a2 : State) : (loopEnd a0 a1 a2).sram = a2.sram := by
  unfold loopEnd
  repeat' first
    | with_reducible rfl
    | with_reducible refine (finishTest_sram _ _ _ _ _ ).trans ?_
    | with_reducible refine (retrainUnit_sram _ _ ).trans ?_
    | with_reducible refine ite_agrees (f := State.sram) _ ?_ ?_
    | with_reducible refine (foldl_sram _ ?_ _ _).trans ?_
    | with_reducible refine (foldl_fst_sram _ ?_ _ _).trans ?_
    | intro _
    | split
@[simp] theorem loopTest_sram (a0 : _) (a1 : _) (a2 : State) : (loopTest a0 a1 a2).s.sram = a2.sram := by
  unfold loopTest
  repeat' first
    | with_reducible rfl
    | with_reducible refine (ownerOnly_sram _ _ _ _ ?_ ).trans ?_
    | with_reducible refine (beginTest_sram _ _ _ ).trans ?_
    | with_reducible refine (refuse_sram _ _ ).trans ?_
    | with_reducible refine ite_agrees (f := State.sram) _ ?_ ?_
    | with_reducible refine (foldl_sram _ ?_ _ _).trans ?_
    | with_reducible refine (foldl_fst_sram _ ?_ _ _).trans ?_
    | intro _
    | split
@[simp] theorem loseAlignment_sram (a0 : _) (a1 : State) : (loseAlignment a0 a1).sram = a1.sram := by simp [loseAlignment]
@[simp] theorem mantelWake_sram (a0 : State) : (mantelWake a0).sram = a0.sram := by simp [mantelWake]
@[simp] theorem measureBank_sram (a0 : State) (a1 : _) : (measureBank a0 a1).sram = a0.sram := by simp [measureBank]
@[simp] theorem windowStatus_sram (a0 : State) (a1 : _) (a2 : _) (a3 : _) : (windowStatus a0 a1 a2 a3).sram = a0.sram := by simp [windowStatus]
@[simp] theorem writeStatus_sram (a0 : State) (a1 : _) : (writeStatus a0 a1).sram = a0.sram := by simp [writeStatus]
@[simp] theorem measureCircuit_sram (a0 : State) (a1 : _) (a2 : _) : (measureCircuit a0 a1 a2).sram = a0.sram := by
  unfold measureCircuit
  repeat' first
    | with_reducible rfl
    | with_reducible refine (clearCircuit_sram _ _ ).trans ?_
    | with_reducible refine (addDemand_sram _ _ _ _ ).trans ?_
    | with_reducible refine (setCircuit_sram _ _ _ ).trans ?_
    | with_reducible refine (windowStatus_sram _ _ _ _ ).trans ?_
    | with_reducible refine (duePulses_sram _ _ _ _ ).trans ?_
    | with_reducible refine (addEnergies_sram _ _ _ ).trans ?_
    | with_reducible refine (setPoint_sram _ _ _ ).trans ?_
    | with_reducible refine (writeStatus_sram _ _ ).trans ?_
    | with_reducible refine ite_agrees (f := State.sram) _ ?_ ?_
    | with_reducible refine (foldl_sram _ ?_ _ _).trans ?_
    | with_reducible refine (foldl_fst_sram _ ?_ _ _).trans ?_
    | intro _
    | split
@[simp] theorem measurePort_sram (a0 : State) (a1 : _) : (measurePort a0 a1).sram = a0.sram := by simp [measurePort]
@[simp] theorem measureUnit_sram (a0 : State) (a1 : _) : (measureUnit a0 a1).sram = a0.sram := by
  unfold measureUnit
  repeat' first
    | with_reducible rfl
    | with_reducible refine (measureBank_sram _ _ ).trans ?_
    | with_reducible refine (measurePort_sram _ _ ).trans ?_
    | with_reducible refine ite_agrees (f := State.sram) _ ?_ ?_
    | with_reducible refine (foldl_sram _ ?_ _ _).trans ?_
    | with_reducible refine (foldl_fst_sram _ ?_ _ _).trans ?_
    | intro _
    | split
@[simp] theorem meetPartner_sram (a0 : _) (a1 : State) : (meetPartner a0 a1).sram = a1.sram := by
  unfold meetPartner
  repeat' first
    | with_reducible rfl
    | with_reducible refine (agreeKey_sram _ ).trans ?_
    | with_reducible refine (followPartner_sram _ ).trans ?_
    | with_reducible refine (synchronise_sram _ ).trans ?_
    | with_reducible refine (differ_sram _ ).trans ?_
    | with_reducible refine (decideRoles_sram _ ).trans ?_
    | with_reducible refine ite_agrees (f := State.sram) _ ?_ ?_
    | with_reducible refine (foldl_sram _ ?_ _ _).trans ?_
    | with_reducible refine (foldl_fst_sram _ ?_ _ _).trans ?_
    | intro _
    | split
@[simp] theorem memberReply_sram (a0 : _) (a1 : _) (a2 : _) (a3 : _) (a4 : _) (a5 : State) : (memberReply a0 a1 a2 a3 a4 a5).sram = a5.sram := by
  unfold memberReply
  repeat' first
    | with_reducible rfl
    | with_reducible refine (judgeMember_sram _ _ _ _ ).trans ?_
    | with_reducible refine (addAnswer_sram _ _ _ _ ).trans ?_
    | with_reducible refine ite_agrees (f := State.sram) _ ?_ ?_
    | with_reducible refine (foldl_sram _ ?_ _ _).trans ?_
    | with_reducible refine (foldl_fst_sram _ ?_ _ _).trans ?_
    | intro _
    | split
@[simp] theorem meterRead_sram (a0 : _) (a1 : _) (a2 : State) : (meterRead a0 a1 a2).s.sram = a2.sram := by simp [meterRead]
@[simp] theorem mirrorAck_sram (a0 : State) (a1 : _) (a2 : _) : (mirrorAck a0 a1 a2).sram = a0.sram := by
  unfold mirrorAck
  repeat' first
    | with_reducible rfl
    | with_reducible refine (dropItems_sram _ _ _ ).trans ?_
    | with_reducible refine ite_agrees (f := State.sram) _ ?_ ?_
    | with_reducible refine (foldl_sram _ ?_ _ _).trans ?_
    | with_reducible refine (foldl_fst_sram _ ?_ _ _).trans ?_
    | intro _
    | split
@[simp] theorem mirrorEnter_sram (a0 : State) (a1 : _) (a2 : _) (a3 : _) : (mirrorEnter a0 a1 a2 a3).sram = a0.sram := by simp [mirrorEnter]
@[simp] theorem missCircuit_sram (a0 : State) (a1 : _) : (missCircuit a0 a1).sram = a0.sram := by simp [missCircuit]
@[simp] theorem modeCommand_sram (a0 : State) (a1 : _) (a2 : _) (ha2 : ∀ y0 y1, (a2 y0 y1).1.sram = y0.sram) : (modeCommand a0 a1 a2).s.sram = a0.sram := by simp [modeCommand, ha2]
@[simp] theorem modeTransition_sram (a0 : State) (a1 : _) : (modeTransition a0 a1).sram = a0.sram := by
  unfold modeTransition; dsimp only; repeat' split
  all_goals simp
@[simp] theorem nextLine_sram (a0 : State) : (nextLine a0).sram = a0.sram := by simp [nextLine]
@[simp] theorem onPacket_sram (a0 : _) (a1 : _) (a2 : State) (a3 : _) (bb : State) (hbb : bb.sram = a2.sram) : ((onPacket a0 a1 a2 a3).after bb).sram = a2.sram := by
  unfold onPacket; split <;> simp [hbb]
@[simp] theorem onQueue_sram (a0 : _) (a1 : _) (a2 : State) (a3 : _) (ha3 : ∀ y0, (a3 y0).s.sram = a2.sram) : (onQueue a0 a1 a2 a3).s.sram = a2.sram := by
  unfold onQueue; dsimp only; repeat' split
  all_goals simp [ha3]
@[simp] theorem openLoop_sram (a0 : _) (a1 : State) (a2 : _) (bb : State) (hbb : bb.sram = a1.sram) : ((openLoop a0 a1 a2).after bb).sram = a1.sram := by simp [openLoop, hbb]
@[simp] theorem openSession_sram (a0 : _) (a1 : State) : (openSession a0 a1).sram = a1.sram := by simp [openSession]
@[simp] theorem orderHold_sram (a0 : State) (a1 : _) : (orderHold a0 a1).1.sram = a0.sram := by simp [orderHold]
@[simp] theorem orderStart_sram (a0 : _) (a1 : _) (a2 : State) (a3 : _) : (orderStart a0 a1 a2 a3).1.sram = a2.sram := by simp [orderStart]
@[simp] theorem oscStopped_sram (a0 : _) (a1 : State) : (oscStopped a0 a1).sram = a1.sram := by simp [oscStopped]
@[simp] theorem outputShutdown_sram (a0 : _) (a1 : State) : (outputShutdown a0 a1).sram = a1.sram := by simp [outputShutdown]
@[simp] theorem overload_sram (a0 : _) (a1 : State) : (overload a0 a1).sram = a1.sram := by simp [overload]
@[simp] theorem ownerOrBuilding_sram (a0 : State) (a1 : _) (a2 : _) (a3 : _) (ha3 : a3.s.sram = a0.sram) : (ownerOrBuilding a0 a1 a2 a3).s.sram = a0.sram := by simp [ownerOrBuilding, ha3]
@[simp] theorem paceWindow_sram (a0 : _) (a1 : _) (a2 : _) (a3 : State) : (paceWindow a0 a1 a2 a3).sram = a3.sram := by simp [paceWindow]
@[simp] theorem pairCommand_sram (a0 : _) (a1 : _) (a2 : State) (a3 : _) (ha3 : a3.s.sram = a2.sram) : (pairCommand a0 a1 a2 a3).s.sram = a2.sram := by simp [pairCommand, ha3]
@[simp] theorem pairSwitchover_sram (a0 : State) : (pairSwitchover a0).sram = a0.sram := by
  unfold pairSwitchover
  repeat' first
    | with_reducible rfl
    | with_reducible refine (beginSwitch_sram _ ).trans ?_
    | with_reducible refine ite_agrees (f := State.sram) _ ?_ ?_
    | with_reducible refine (foldl_sram _ ?_ _ _).trans ?_
    | with_reducible refine (foldl_fst_sram _ ?_ _ _).trans ?_
    | intro _
    | split
@[simp] theorem pointRead_sram (a0 : _) (a1 : _) (a2 : _) (a3 : _) (a4 : _) (a5 : State) : (pointRead a0 a1 a2 a3 a4 a5).sram = a5.sram := by
  unfold pointRead
  repeat' first
    | with_reducible rfl
    | with_reducible refine (settleAll_sram _ ).trans ?_
    | with_reducible refine (sendCompletion_sram _ _ _ _ ).trans ?_
    | with_reducible refine (answerRead_sram _ _ _ _ _ _ _ ).trans ?_
    | with_reducible refine (noteStatus_sram _ _ _ ).trans ?_
    | with_reducible refine ite_agrees (f := State.sram) _ ?_ ?_
    | with_reducible refine (foldl_sram _ ?_ _ _).trans ?_
    | with_reducible refine (foldl_fst_sram _ ?_ _ _).trans ?_
    | intro _
    | split
@[simp] theorem saveMeter_sram (a0 : State) : (saveMeter a0).sram = a0.sram := by simp [saveMeter]
@[simp] theorem powerFail_sram (a0 : State) : (powerFail a0).sram = a0.sram := by simp [powerFail]
@[simp] theorem pulseEnd_sram (a0 : _) (a1 : State) : (pulseEnd a0 a1).sram = a1.sram := by simp [pulseEnd]
@[simp] theorem pulseStart_sram (a0 : _) (a1 : State) : (pulseStart a0 a1).sram = a1.sram := by
  unfold pulseStart; dsimp only; repeat' split
  all_goals simp
@[simp] theorem quantitiesArrive_sram (a0 : _) (a1 : _) (a2 : State) : (quantitiesArrive a0 a1 a2).sram = a2.sram := by
  unfold quantitiesArrive
  repeat' first
    | with_reducible rfl
    | with_reducible refine (setCircuit_sram _ _ _ ).trans ?_
    | with_reducible refine (setPoint_sram _ _ _ ).trans ?_
    | with_reducible refine ite_agrees (f := State.sram) _ ?_ ?_
    | with_reducible refine (foldl_sram _ ?_ _ _).trans ?_
    | with_reducible refine (foldl_fst_sram _ ?_ _ _).trans ?_
    | intro _
    | split
@[simp] theorem quietAnswer_sram (a0 : _) (a1 : _) (a2 : _) (a3 : State) : (quietAnswer a0 a1 a2 a3).sram = a3.sram := by
  unfold quietAnswer
  repeat' first
    | with_reducible rfl
    | with_reducible refine ite_agrees (f := State.sram) _ ?_ ?_
    | with_reducible refine (foldl_sram _ ?_ _ _).trans ?_
    | with_reducible refine (foldl_fst_sram _ ?_ _ _).trans ?_
    | intro _
    | split
@[simp] theorem quietComplete_sram (a0 : _) (a1 : State) : (quietComplete a0 a1).sram = a1.sram := by
  unfold quietComplete
  repeat' first
    | with_reducible rfl
    | with_reducible refine (setUnitStat_sram _ _ _ ).trans ?_
    | with_reducible refine (sendCompletion_sram _ _ _ _ ).trans ?_
    | with_reducible refine (recordReply_sram _ _ _ _ _ _ _ _ ).trans ?_
    | with_reducible refine ite_agrees (f := State.sram) _ ?_ ?_
    | with_reducible refine (foldl_sram _ ?_ _ _).trans ?_
    | with_reducible refine (foldl_fst_sram _ ?_ _ _).trans ?_
    | intro _
    | split
@[simp] theorem quietEntry_sram (a0 : State) : (quietEntry a0).sram = a0.sram := by
  unfold quietEntry; dsimp only; repeat' split
  all_goals simp
@[simp] theorem readMembers_sram (a0 : _) (a1 : _) (a2 : State) : (readMembers a0 a1 a2).s.sram = a2.sram := by simp [readMembers]
@[simp] theorem readStatus_sram (a0 : _) (a1 : _) (a2 : State) : (readStatus a0 a1 a2).s.sram = a2.sram := by
  unfold readStatus; split <;> simp
@[simp] theorem receive_sram (a0 : _) (a1 : _) (a2 : State) : (receive a0 a1 a2).sram = a2.sram := by
  unfold receive
  repeat' first
    | with_reducible rfl
    | with_reducible refine (countPort_sram _ _ _ _ _ ).trans ?_
    | with_reducible refine (quietAnswer_sram _ _ _ _ ).trans ?_
    | with_reducible refine (countAll_sram _ _ _ _ ).trans ?_
    | with_reducible refine (wakeFloor_sram _ ).trans ?_
    | with_reducible refine (honourPause_sram _ _ _ ).trans ?_
    | with_reducible refine (handOn_sram _ _ _ ).trans ?_
    | with_reducible refine (setPort_sram _ _ _ ).trans ?_
    | with_reducible refine ite_agrees (f := State.sram) _ ?_ ?_
    | with_reducible refine (foldl_sram _ ?_ _ _).trans ?_
    | with_reducible refine (foldl_fst_sram _ ?_ _ _).trans ?_
    | intro _
    | split
@[simp] theorem recordPair_sram (a0 : _) (a1 : State) : (recordPair a0 a1).sram = a1.sram := by
  unfold recordPair; dsimp only; repeat' split
  all_goals simp
@[simp] theorem refclkFails_sram (a0 : State) : (refclkFails a0).sram = a0.sram := by simp [refclkFails]
@[simp] theorem trimTick_sram (a0 : State) : (trimTick a0).sram = a0.sram := by
  unfold trimTick
  repeat' first
    | with_reducible rfl
    | with_reducible refine ite_agrees (f := State.sram) _ ?_ ?_
    | with_reducible refine (foldl_sram _ ?_ _ _).trans ?_
    | with_reducible refine (foldl_fst_sram _ ?_ _ _).trans ?_
    | intro _
    | split
@[simp] theorem release_sram (a0 : _) (a1 : _) (a2 : State) : (release a0 a1 a2).s.sram = a2.sram := by simp [release]
@[simp] theorem releaseReservation_sram (a0 : State) (a1 : _) : (releaseReservation a0 a1).sram = a0.sram := by simp [releaseReservation]
@[simp] theorem renew_sram (a0 : _) (a1 : _) (a2 : State) : (renew a0 a1 a2).s.sram = a2.sram := by simp [renew]
@[simp] theorem repeatReply_sram (a0 : State) (a1 : _) (a2 : _) : (repeatReply a0 a1 a2).sram = a0.sram := by
  unfold repeatReply
  repeat' first
    | with_reducible rfl
    | with_reducible refine (sendReply_sram _ _ _ _ ).trans ?_
    | with_reducible refine (noteStatus_sram _ _ _ ).trans ?_
    | with_reducible refine ite_agrees (f := State.sram) _ ?_ ?_
    | with_reducible refine (foldl_sram _ ?_ _ _).trans ?_
    | with_reducible refine (foldl_fst_sram _ ?_ _ _).trans ?_
    | intro _
    | split
@[simp] theorem replayPoints_sram (a0 : State) : (replayPoints a0).sram = a0.sram := by
  unfold replayPoints
  repeat' first
    | with_reducible rfl
    | with_reducible refine (setPoint_sram _ _ _ ).trans ?_
    | with_reducible refine ite_agrees (f := State.sram) _ ?_ ?_
    | with_reducible refine (foldl_sram _ ?_ _ _).trans ?_
    | with_reducible refine (foldl_fst_sram _ ?_ _ _).trans ?_
    | intro _
    | split
@[simp] theorem resetAttic_sram (a0 : State) : (resetAttic a0).sram = a0.sram := by simp [resetAttic]
@[simp] theorem resetBank_sram (a0 : State) (a1 : _) : (resetBank a0 a1).sram = a0.sram := by
  unfold resetBank
  repeat' first
    | with_reducible rfl
    | with_reducible refine (driveSafe_sram _ _ ).trans ?_
    | with_reducible refine (setBank_sram _ _ _ ).trans ?_
    | with_reducible refine (setOutput_sram _ _ _ ).trans ?_
    | with_reducible refine (settleBank_sram _ _ ).trans ?_
    | with_reducible refine ite_agrees (f := State.sram) _ ?_ ?_
    | with_reducible refine (foldl_sram _ ?_ _ _).trans ?_
    | with_reducible refine (foldl_fst_sram _ ?_ _ _).trans ?_
    | intro _
    | split
@[simp] theorem resetCellar_sram (a0 : State) : (resetCellar a0).sram = a0.sram := by simp [resetCellar]
@[simp] theorem resetCircuit_sram (a0 : State) (a1 : _) : (resetCircuit a0 a1).sram = a0.sram := by simp [resetCircuit]
@[simp] theorem resetHall_sram (a0 : State) (a1 : _) : (resetHall a0 a1).sram = a0.sram := by simp [resetHall]
@[simp] theorem resetHearth_sram (a0 : State) : (resetHearth a0).sram = a0.sram := by simp [resetHearth]
@[simp] theorem resetInputs_sram (a0 : State) : (resetInputs a0).sram = a0.sram := by simp [resetInputs]
@[simp] theorem resetPair_sram (a0 : _) (a1 : State) : (resetPair a0 a1).s.sram = a1.sram := by simp [resetPair]
@[simp] theorem resetPort_sram (a0 : State) (a1 : _) : (resetPort a0 a1).sram = a0.sram := by simp [resetPort]
@[simp] theorem resetUplink_sram (a0 : State) (a1 : _) : (resetUplink a0 a1).sram = a0.sram := by simp [resetUplink]
@[simp] theorem resetStat_sram (a0 : State) (a1 : _) : (resetStat a0 a1).sram = a0.sram := by simp [resetStat]
@[simp] theorem resetPart_sram (a0 : State) (a1 : _) : (resetPart a0 a1).sram = a0.sram := by
  unfold resetPart
  repeat' first
    | with_reducible rfl
    | with_reducible refine (resetPort_sram _ _ ).trans ?_
    | with_reducible refine (resetUplink_sram _ _ ).trans ?_
    | with_reducible refine (resetCircuit_sram _ _ ).trans ?_
    | with_reducible refine (resetHall_sram _ _ ).trans ?_
    | with_reducible refine (resetBank_sram _ _ ).trans ?_
    | with_reducible refine (resetAttic_sram _ ).trans ?_
    | with_reducible refine (resetInputs_sram _ ).trans ?_
    | with_reducible refine (resetHearth_sram _ ).trans ?_
    | with_reducible refine (resetCellar_sram _ ).trans ?_
    | with_reducible refine (resetStat_sram _ _ ).trans ?_
    | with_reducible refine ite_agrees (f := State.sram) _ ?_ ?_
    | with_reducible refine (foldl_sram _ ?_ _ _).trans ?_
    | with_reducible refine (foldl_fst_sram _ ?_ _ _).trans ?_
    | intro _
    | split
@[simp] theorem resetPartCommand_sram (a0 : _) (a1 : _) (a2 : State) : (resetPartCommand a0 a1 a2).s.sram = a2.sram := by simp [resetPartCommand]
@[simp] theorem resetSelf_sram (a0 : _) (a1 : State) : (resetSelf a0 a1).s.sram = a1.sram := by simp [resetSelf]
@[simp] theorem restoreMeter_sram (a0 : State) : (restoreMeter a0).sram = a0.sram := by
  unfold restoreMeter
  repeat' first
    | with_reducible rfl
    | with_reducible refine (setPoint_sram _ _ _ ).trans ?_
    | with_reducible refine ite_agrees (f := State.sram) _ ?_ ?_
    | with_reducible refine (foldl_sram _ ?_ _ _).trans ?_
    | with_reducible refine (foldl_fst_sram _ ?_ _ _).trans ?_
    | intro _
    | split
@[simp] theorem setFromMantel_sram (a0 : State) : (setFromMantel a0).sram = a0.sram := by simp [setFromMantel]
@[simp] theorem restoreCold_sram (a0 : State) : (restoreCold a0).sram = a0.sram := by simp [restoreCold]
@[simp] theorem restoreKeys_sram (a0 : State) : (restoreKeys a0).sram = a0.sram := by
  unfold restoreKeys
  repeat' first
    | with_reducible rfl
    | with_reducible refine (setKey_sram _ _ _ ).trans ?_
    | with_reducible refine ite_agrees (f := State.sram) _ ?_ ?_
    | with_reducible refine (foldl_sram _ ?_ _ _).trans ?_
    | with_reducible refine (foldl_fst_sram _ ?_ _ _).trans ?_
    | intro _
    | split
@[simp] theorem ringError_sram (a0 : State) (a1 : _) : (ringError a0 a1).sram = a0.sram := by
  unfold ringError; dsimp only; repeat' split
  all_goals simp
@[simp] theorem scheduleUpdate_sram (a0 : _) (a1 : _) (a2 : State) (a3 : _) (a4 : _) : (scheduleUpdate a0 a1 a2 a3 a4).s.sram = a2.sram := by simp [scheduleUpdate]
@[simp] theorem scrubRing_sram (a0 : State) (a1 : _) (a2 : _) : (scrubRing a0 a1 a2).sram = a0.sram := by simp [scrubRing]
@[simp] theorem seekAlone_sram (a0 : State) : (seekAlone a0).sram = a0.sram := by simp [seekAlone]
@[simp] theorem sendHeartbeat_sram (a0 : State) : (sendHeartbeat a0).sram = a0.sram := by
  unfold sendHeartbeat
  repeat' first
    | with_reducible rfl
    | with_reducible refine (setTwin_sram _ _ ).trans ?_
    | with_reducible refine (beginSwitch_sram _ ).trans ?_
    | with_reducible refine ite_agrees (f := State.sram) _ ?_ ?_
    | with_reducible refine (foldl_sram _ ?_ _ _).trans ?_
    | with_reducible refine (foldl_fst_sram _ ?_ _ _).trans ?_
    | intro _
    | split
@[simp] theorem senseFlag_sram (a0 : _) (a1 : _) (a2 : _) (a3 : State) : (senseFlag a0 a1 a2 a3).sram = a3.sram := by simp [senseFlag]
@[simp] theorem serialiseTurnOn_sram (a0 : _) (a1 : State) : (serialiseTurnOn a0 a1).sram = a1.sram := by
  unfold serialiseTurnOn
  repeat' first
    | with_reducible rfl
    | with_reducible refine (turnOn_sram _ _ ).trans ?_
    | with_reducible refine ite_agrees (f := State.sram) _ ?_ ?_
    | with_reducible refine (foldl_sram _ ?_ _ _).trans ?_
    | with_reducible refine (foldl_fst_sram _ ?_ _ _).trans ?_
    | intro _
    | split
@[simp] theorem serveKey_sram (a0 : _) (a1 : _) (a2 : _) (a3 : State) (ha2 : ∀ y0 y1, (a2 y0 y1).s.sram = y1.sram) : (serveKey a0 a1 a2 a3).sram = a3.sram := by
  unfold serveKey
  repeat' first
    | with_reducible rfl
    | with_reducible apply ha2
    | with_reducible refine (countUses_sram _ _ ).trans ?_
    | with_reducible refine (completeKey_sram _ _ _ _ ).trans ?_
    | with_reducible refine (keyStop_sram _ _ ).trans ?_
    | with_reducible refine (mirrorChanges_sram1 _ _ _ ).trans ?_
    | with_reducible refine ite_agrees (f := State.sram) _ ?_ ?_
    | with_reducible refine (foldl_sram _ ?_ _ _).trans ?_
    | with_reducible refine (foldl_fst_sram _ ?_ _ _).trans ?_
    | intro _
    | split
@[simp] theorem setRunRelease_sram (a0 : State) : (setRunRelease a0).sram = a0.sram := by
  unfold setRunRelease
  repeat' first
    | with_reducible rfl
    | with_reducible refine (endWaiting_sram _ _ _ ).trans ?_
    | with_reducible refine (mantelLoad_sram _ _ _ ).trans ?_
    | with_reducible refine (setMantel_sram _ _ ).trans ?_
    | with_reducible refine ite_agrees (f := State.sram) _ ?_ ?_
    | with_reducible refine (foldl_sram _ ?_ _ _).trans ?_
    | with_reducible refine (foldl_fst_sram _ ?_ _ _).trans ?_
    | intro _
    | split
@[simp] theorem settleFuses_sram (a0 : State) (a1 : _) : (settleFuses a0 a1).sram = a0.sram := by simp [settleFuses]
@[simp] theorem shipDue_sram (a0 : State) : (shipDue a0).sram = a0.sram := by
  unfold shipDue
  repeat' first
    | with_reducible rfl
    | with_reducible refine (shipWaiting_sram _ _ ).trans ?_
    | with_reducible refine ite_agrees (f := State.sram) _ ?_ ?_
    | with_reducible refine (foldl_sram _ ?_ _ _).trans ?_
    | with_reducible refine (foldl_fst_sram _ ?_ _ _).trans ?_
    | intro _
    | split
@[simp] theorem shutterTimeout_sram (a0 : _) (a1 : State) : (shutterTimeout a0 a1).sram = a1.sram := by simp [shutterTimeout]
@[simp] theorem stageUpdate_sram (a0 : _) (a1 : State) (a2 : _) (a3 : _) : (stageUpdate a0 a1 a2 a3).s.sram = a1.sram := by simp [stageUpdate]
@[simp] theorem updateCommand_sram (a0 : _) (a1 : _) (a2 : State) (a3 : _) (ha3 : ∀ y0 y1, (a3 y0 y1).s.sram = a2.sram) : (updateCommand a0 a1 a2 a3).s.sram = a2.sram := by
  unfold updateCommand
  repeat' first
    | with_reducible rfl
    | with_reducible apply ha3
    | with_reducible refine (ownerOnly_sram _ _ _ _ ?_ ).trans ?_
    | with_reducible refine (onUnit_sram _ _ _ _ ?_ ).trans ?_
    | with_reducible refine (refuse_sram _ _ ).trans ?_
    | with_reducible refine ite_agrees (f := State.sram) _ ?_ ?_
    | with_reducible refine (foldl_sram _ ?_ _ _).trans ?_
    | with_reducible refine (foldl_fst_sram _ ?_ _ _).trans ?_
    | intro _
    | split
@[simp] theorem unitCommand_sram (a0 : _) (a1 : _) (a2 : _) (a3 : _) (a4 : State) (ha3 : ∀ y0 y1 y2, (a3 y0 y1 y2).s.sram = y2.sram) : (unitCommand a0 a1 a2 a3 a4).sram = a4.sram := by
  unfold unitCommand; dsimp only; repeat' split
  all_goals simp [ha3]
@[simp] theorem stagingCommand_sram (a0 : _) (a1 : _) (a2 : _) (a3 : State) (ha2 : ∀ y0 y1 y2 y3 y4, (a2 y0 y1 y2 y3 y4).s.sram = y2.sram) : (stagingCommand a0 a1 a2 a3).sram = a3.sram := by simp [stagingCommand, ha2]
@[simp] theorem startFoundation_sram (a0 : State) : (startFoundation a0).sram = a0.sram := by simp [startFoundation]
@[simp] theorem tellBackup_sram (a0 : State) : (tellBackup a0).sram = a0.sram := by simp [tellBackup]
@[simp] theorem tellOutcomes0_sram (a0 : State) : (tellOutcomes0 a0).sram = a0.sram := by simp [tellOutcomes0]
@[simp] theorem takeTamper_sram (a0 : State) : (takeTamper a0).sram = a0.sram := by simp [takeTamper]
@[simp] theorem startUnits_sram (a0 : State) : (startUnits a0).sram = a0.sram := by
  unfold startUnits
  repeat' first
    | with_reducible rfl
    | with_reducible refine (setUnitStat_sram _ _ _ ).trans ?_
    | with_reducible refine ite_agrees (f := State.sram) _ ?_ ?_
    | with_reducible refine (foldl_sram _ ?_ _ _).trans ?_
    | with_reducible refine (foldl_fst_sram _ ?_ _ _).trans ?_
    | intro _
    | split
@[simp] theorem stepAbandoned_sram (a0 : _) (a1 : State) : (stepAbandoned a0 a1).sram = a1.sram := by simp [stepAbandoned]
@[simp] theorem stepDone_sram (a0 : _) (a1 : State) : (stepDone a0 a1).sram = a1.sram := by simp [stepDone]
@[simp] theorem switchHandover_sram (a0 : State) : (switchHandover a0).sram = a0.sram := by
  unfold switchHandover
  repeat' first
    | with_reducible rfl
    | with_reducible refine (exchangeRoles_sram _ _ _ ).trans ?_
    | with_reducible refine ite_agrees (f := State.sram) _ ?_ ?_
    | with_reducible refine (foldl_sram _ ?_ _ _).trans ?_
    | with_reducible refine (foldl_fst_sram _ ?_ _ _).trans ?_
    | intro _
    | split
@[simp] theorem switchIngress_sram (a0 : State) : (switchIngress a0).sram = a0.sram := by
  unfold switchIngress
  repeat' first
    | with_reducible rfl
    | with_reducible refine (handleFrame_sram _ _ ).trans ?_
    | with_reducible refine ite_agrees (f := State.sram) _ ?_ ?_
    | with_reducible refine (foldl_sram _ ?_ _ _).trans ?_
    | with_reducible refine (foldl_fst_sram _ ?_ _ _).trans ?_
    | intro _
    | split
@[simp] theorem switchInstant_sram (a0 : State) : (switchInstant a0).sram = a0.sram := by
  unfold switchInstant; repeat' split
  all_goals simp
@[simp] theorem takeCircuit_sram (a0 : State) (a1 : _) : (takeCircuit a0 a1).sram = a0.sram := by
  unfold takeCircuit
  repeat' first
    | with_reducible rfl
    | with_reducible refine (clearCircuit_sram _ _ ).trans ?_
    | with_reducible refine (setCircuit_sram _ _ _ ).trans ?_
    | with_reducible refine (bumpEpoch_sram _ _ ).trans ?_
    | with_reducible refine ite_agrees (f := State.sram) _ ?_ ?_
    | with_reducible refine (foldl_sram _ ?_ _ _).trans ?_
    | with_reducible refine (foldl_fst_sram _ ?_ _ _).trans ?_
    | intro _
    | split
@[simp] theorem tellLost_sram (a0 : State) : (tellLost a0).sram = a0.sram := by simp [tellLost]
@[simp] theorem takeEvent_sram (a0 : State) : (takeEvent a0).sram = a0.sram := by
  unfold takeEvent
  repeat' first
    | with_reducible rfl
    | with_reducible refine (writeRecord_sram _ _ ).trans ?_
    | with_reducible refine (tellLost_sram _ ).trans ?_
    | with_reducible refine (setCtx_sram _ _ _ ).trans ?_
    | with_reducible refine ite_agrees (f := State.sram) _ ?_ ?_
    | with_reducible refine (foldl_sram _ ?_ _ _).trans ?_
    | with_reducible refine (foldl_fst_sram _ ?_ _ _).trans ?_
    | intro _
    | split
@[simp] theorem takePulses_sram (a0 : State) : (takePulses a0).sram = a0.sram := by simp [takePulses]
@[simp] theorem takeRegisters_sram (a0 : State) : (takeRegisters a0).sram = a0.sram := by simp [takeRegisters]
@[simp] theorem taskMode_sram (a0 : _) (a1 : _) (a2 : _) (a3 : _) (a4 : State) (ha1 : ∀ y0 y1 y2, (a1 y0 y1 y2).1.sram = y1.sram) : (taskMode a0 a1 a2 a3 a4).s.sram = a4.sram := by simp [taskMode, ha1]
@[simp] theorem taskStatus_sram (a0 : _) (a1 : _) (a2 : State) : (taskStatus a0 a1 a2).s.sram = a2.sram := by simp [taskStatus]
@[simp] theorem timerTrigger_sram (a0 : State) (a1 : _) : (timerTrigger a0 a1).sram = a0.sram := by
  unfold timerTrigger
  try dsimp only
  repeat' first
    | with_reducible rfl
    | with_reducible assumption
    | (simp; done)
    | split
    | (refine (foldl_sram _ ?_ _ _).trans ?_ <;> (try intro _ _) <;> (try dsimp only))
    | (refine (foldl_fst_sram _ ?_ _ _).trans ?_ <;> (try intro _ _) <;> (try dsimp only))
    | simp

@[simp] theorem tokenError_sram (a0 : _) (a1 : _) (a2 : State) : (tokenError a0 a1 a2).sram = a2.sram := by simp [tokenError]
@[simp] theorem transfer_sram (a0 : _) (a1 : State) (a2 : _) (a3 : _) (bb : State) (hbb : bb.sram = a1.sram) : ((transfer a0 a1 a2 a3).after bb).sram = a1.sram := by simp [transfer, hbb]
@[simp] theorem transmitFrame_sram (a0 : State) (a1 : _) (a2 : _) (a3 : _) : (transmitFrame a0 a1 a2 a3).1.sram = a0.sram := by
  unfold transmitFrame; dsimp only; repeat' split
  all_goals simp
@[simp] theorem transmit_sram (a0 : _) (a1 : State) : (transmit a0 a1).sram = a1.sram := by
  unfold transmit; dsimp only; repeat' split
  all_goals simp
@[simp] theorem trimCommand_sram (a0 : _) (a1 : _) (a2 : State) (a3 : _) (ha3 : a3.s.sram = a2.sram) : (trimCommand a0 a1 a2 a3).s.sram = a2.sram := by simp [trimCommand, ha3]
@[simp] theorem trimIncrement_sram (a0 : _) (a1 : _) (a2 : State) : (trimIncrement a0 a1 a2).s.sram = a2.sram := by simp [trimIncrement]
@[simp] theorem trimMains_sram (a0 : State) (a1 : _) (a2 : _) : (trimMains a0 a1 a2).sram = a0.sram := by
  unfold trimMains
  repeat' first
    | with_reducible rfl
    | with_reducible refine ite_agrees (f := State.sram) _ ?_ ?_
    | with_reducible refine (foldl_sram _ ?_ _ _).trans ?_
    | with_reducible refine (foldl_fst_sram _ ?_ _ _).trans ?_
    | intro _
    | split
@[simp] theorem trimSlew_sram (a0 : _) (a1 : _) (a2 : State) : (trimSlew a0 a1 a2).s.sram = a2.sram := by simp [trimSlew]
@[simp] theorem trimStep_sram (a0 : _) (a1 : _) (a2 : State) : (trimStep a0 a1 a2).s.sram = a2.sram := by simp [trimStep]
@[simp] theorem trimWindowEnd_sram (a0 : State) : (trimWindowEnd a0).sram = a0.sram := by
  unfold trimWindowEnd
  repeat' first
    | with_reducible rfl
    | with_reducible refine (setMantel_sram _ _ ).trans ?_
    | with_reducible refine ite_agrees (f := State.sram) _ ?_ ?_
    | with_reducible refine (foldl_sram _ ?_ _ _).trans ?_
    | with_reducible refine (foldl_fst_sram _ ?_ _ _).trans ?_
    | intro _
    | split
@[simp] theorem unitReset_sram (a0 : _) (a1 : _) (a2 : State) : (unitReset a0 a1 a2).s.sram = a2.sram := by
  unfold unitReset
  repeat' first
    | with_reducible rfl
    | with_reducible refine (resetPartCommand_sram _ _ _ ).trans ?_
    | with_reducible refine (resetSelf_sram _ _ ).trans ?_
    | with_reducible refine (ownerOnly_sram _ _ _ _ ?_ ).trans ?_
    | with_reducible refine (resetPair_sram _ _ ).trans ?_
    | with_reducible refine (refuse_sram _ _ ).trans ?_
    | with_reducible refine ite_agrees (f := State.sram) _ ?_ ?_
    | with_reducible refine (foldl_sram _ ?_ _ _).trans ?_
    | with_reducible refine (foldl_fst_sram _ ?_ _ _).trans ?_
    | intro _
    | split
@[simp] theorem unlock_sram (a0 : _) (a1 : _) (a2 : State) : (unlock a0 a1 a2).s.sram = a2.sram := by simp [unlock]
@[simp] theorem uplinkEgress_sram (a0 : _) (a1 : State) : (uplinkEgress a0 a1).sram = a1.sram := by
  unfold uplinkEgress; dsimp only; repeat' split
  all_goals simp
@[simp] theorem writeRegisters_sram (a0 : State) : (writeRegisters a0).sram = a0.sram := by
  unfold writeRegisters
  repeat' first
    | with_reducible rfl
    | with_reducible refine (setPoint_sram _ _ _ ).trans ?_
    | with_reducible refine ite_agrees (f := State.sram) _ ?_ ?_
    | with_reducible refine (foldl_sram _ ?_ _ _).trans ?_
    | with_reducible refine (foldl_fst_sram _ ?_ _ _).trans ?_
    | intro _
    | split
@[simp] theorem windowEnd_sram (a0 : _) (a1 : State) : (windowEnd a0 a1).sram = a1.sram := by simp [windowEnd]
@[simp] theorem withConds_sram (a0 : _) (a1 : State) (a2 : _) (a3 : _) (bb : State) (hbb : bb.sram = a1.sram) : ((withConds a0 a1 a2 a3).after bb).sram = a1.sram := by simp [withConds, hbb]
@[simp] theorem withdrawSent_sram (a0 : _) (a1 : State) : (withdrawSent a0 a1).sram = a1.sram := by
  unfold withdrawSent
  repeat' first
    | with_reducible rfl
    | with_reducible refine (countPort_sram _ _ _ _ _ ).trans ?_
    | with_reducible refine (setTask_sram _ _ _ ).trans ?_
    | with_reducible refine (frameSent_sram _ _ _ ).trans ?_
    | with_reducible refine (settleCancelled_sram _ _ ).trans ?_
    | with_reducible refine ite_agrees (f := State.sram) _ ?_ ?_
    | with_reducible refine (foldl_sram _ ?_ _ _).trans ?_
    | with_reducible refine (foldl_fst_sram _ ?_ _ _).trans ?_
    | intro _
    | split
@[simp] theorem writeRegister_sram (a0 : _) (a1 : _) (a2 : State) : (writeRegister a0 a1 a2).sram = a2.sram := by
  unfold writeRegister
  repeat' first
    | with_reducible rfl
    | with_reducible refine (clearHalf_sram _ _ _ ).trans ?_
    | with_reducible refine (setClock_sram _ _ ).trans ?_
    | with_reducible refine (setSlot_sram _ _ _ ).trans ?_
    | with_reducible refine ite_agrees (f := State.sram) _ ?_ ?_
    | with_reducible refine (foldl_sram _ ?_ _ _).trans ?_
    | with_reducible refine (foldl_fst_sram _ ?_ _ _).trans ?_
    | intro _
    | split
@[simp] theorem writeSr_sram (a0 : _) (a1 : State) (a2 : _) (bb : State) (hbb : bb.sram = a1.sram) : ((writeSr a0 a1 a2).after bb).sram = a1.sram := by simp [writeSr, hbb]
@[simp] theorem writes_sram (a0 : _) (a1 : _) (a2 : _) (a3 : State) (a4 : _) (bb : State) (hbb : bb.sram = a3.sram) : ((writes a0 a1 a2 a3 a4).after bb).sram = a3.sram := by simp [writes, hbb]

end Sys2Proof.Machine
end

