-- ==== Sys2Proof/Laws/SramWf.lean ====
section
/-! SUPPORT. The operations that write the data SRAM keep its canonical form: one lemma for each, which every caller cites. -/

namespace Sys2Proof.Machine
open Sys2Proof

theorem wf_of_same_sram {a b : State} (e : a.sram = b.sram) (h : b.sram.wf = true) : a.sram.wf = true := e ▸ h
theorem foldl_wf {β : Type} (f : State → β → State) (h : ∀ s b, s.sram.wf = true → (f s b).sram.wf = true) (l : List β) (s : State) (hs : s.sram.wf = true) : (l.foldl f s).sram.wf = true := by
  induction l generalizing s with
  | nil => exact hs
  | cons b l ih => exact ih _ (h s b hs)
theorem foldl_fst_wf {β γ : Type} (f : State × γ → β → State × γ) (h : ∀ p b, p.1.sram.wf = true → (f p b).1.sram.wf = true) (l : List β) (p : State × γ) (hs : p.1.sram.wf = true) : (l.foldl f p).1.sram.wf = true := by
  induction l generalizing p with
  | nil => exact hs
  | cons b l ih => exact ih _ (h p b hs)

theorem clearRetain_wf (a0 : State) (a1 : Nat) (hwf : a0.sram.wf = true) : (clearRetain a0 a1).sram.wf = true := by
  exact invalidate_wf _ _ hwf
theorem dataFault_after {e : Env} {kind : Access} {a : BitVec 64} {n : Nat} {d : Did} (h : dataFault e kind a n = some d) (b : State) : d.after b = b := by
  unfold dataFault at h; split at h
  · cases h; rfl
  · split at h
    · cases h; rfl
    · cases h
theorem memoryFault_after {e : Env} {s : State} {a : BitVec 64} {n : Nat} {d : Did} (h : memoryFault e s a n = some d) (b : State) : d.after b = b := by
  unfold memoryFault at h
  obtain ⟨x, _, rfl⟩ := Option.map_eq_some_iff.1 h
  rfl
theorem blockFault_after {e : Env} {s : State} {a : BitVec 64} {n : Nat} {d : Did} (h : blockFault e s a n = some d) (b : State) : d.after b = b := by
  unfold blockFault at h; split at h
  · cases h; rfl
  · split at h
    · cases h; rfl
    · exact memoryFault_after h b
theorem ite_keeps {P : State → Prop} (c : Prop) [Decidable c] {a b : State} (ha : P a) (hb : P b) : P (if c then a else b) := by
  split
  · exact ha
  · exact hb

theorem cleanWindow_wf (a0 : State) (a1 : Nat) (a2 : Bool) (hwf : a0.sram.wf = true) : (cleanWindow a0 a1 a2).sram.wf = true := by
  exact invalidate_wf _ _ hwf

theorem resetSuite_wf (a0 : State) (a1 : Nat) (a2 : Bool)  (hwf : a0.sram.wf = true) : (resetSuite a0 a1 a2).sram.wf = true := by
  unfold resetSuite
  split
  · exact hwf
  · split
    · split
      · simp only [mirror_sram, setSuite_sram]; exact cleanWindow_wf _ _ _ (by simpa using hwf)
      · exact hwf
    · dsimp only
      simp only [mirror_sram]
      refine foldl_wf _ (fun s b h => by simpa using h) _ _ ?_
      have key : ∀ t : State, t.sram.wf = true → (destroyKeys (resetQueues t a1 a2) ((((resetQueues t a1 a2).cellar.keys.filter (fun e => e.2.present && e.2.suite == a1 && e.2.attr.getLsbD 8)).map (·.1)))).sram.wf = true := fun t ht => by simpa using ht
      have fin : ∀ t : State, t.sram.wf = true → (if a2 = true then clearSlots t (fun x => x.suite == a1 && x.inUse) true else t).sram.wf = true := fun t ht => by
        split
        · simpa using ht
        · exact ht
      refine fin _ (key _ ?_)
      refine cleanWindow_wf _ _ _ ?_
      refine foldl_wf _ (fun s b h => by simpa using h) _ _ ?_
      refine foldl_wf _ (fun s b h => by simpa using h) _ _ ?_
      simp only [setSuite_sram, discardRequests_sram]
      refine foldl_wf _ (fun s b h => by simpa using h) _ _ ?_
      refine foldl_wf _ (fun s b h => by simpa using h) _ _ ?_
      refine foldl_wf _ (fun s b h => by simpa using h) _ _ ?_
      exact hwf

theorem faultSuite_wf (a0 : State) (a1 : _) (a2 : _)  (hwf : a0.sram.wf = true) : (faultSuite a0 a1 a2).sram.wf = true := by
  unfold faultSuite
  repeat' first
    | with_reducible assumption
    | with_reducible apply resetSuite_wf
    | with_reducible refine wf_of_same_sram (setSuite_sram _ _ _ ) ?_
    | with_reducible refine wf_of_same_sram (raiseEvent_sram _ _ _ _ _ _ ) ?_
    | with_reducible refine ite_keeps (P := fun s => s.sram.wf = true) _ ?_ ?_
    | with_reducible refine foldl_wf _ ?_ _ _ ?_
    | intro _
    | simp only [after_fault, after_denied, after_memory, after_next, after_goto, after_ends, after_waits, state_ends, state_waits]
    | split
theorem enterStop_wf (a0 : State) (a1 : _) (a2 : _) (a3 : _)  (hwf : a0.sram.wf = true) : (enterStop a0 a1 a2 a3).sram.wf = true := by
  unfold enterStop
  repeat' first
    | with_reducible assumption
    | with_reducible apply faultSuite_wf
    | with_reducible refine wf_of_same_sram (setTask_sram _ _ _ ) ?_
    | with_reducible refine wf_of_same_sram (mirrorMode_sram _ _ ) ?_
    | with_reducible refine ite_keeps (P := fun s => s.sram.wf = true) _ ?_ ?_
    | with_reducible refine foldl_wf _ ?_ _ _ ?_
    | intro _
    | simp only [after_fault, after_denied, after_memory, after_next, after_goto, after_ends, after_waits, state_ends, state_waits]
    | split
theorem afterCycle_wf (a0 : State) (a1 : _)  (hwf : a0.sram.wf = true) : (afterCycle a0 a1).sram.wf = true := by
  unfold afterCycle
  repeat' first
    | with_reducible assumption
    | with_reducible apply enterStop_wf
    | with_reducible refine wf_of_same_sram (enterHold_sram _ _ ) ?_
    | with_reducible refine ite_keeps (P := fun s => s.sram.wf = true) _ ?_ ?_
    | with_reducible refine foldl_wf _ ?_ _ _ ?_
    | intro _
    | simp only [after_fault, after_denied, after_memory, after_next, after_goto, after_ends, after_waits, state_ends, state_waits]
    | split
theorem faultCycle_wf (a0 : State) (a1 : Nat) (a2 : Status)  (hwf : a0.sram.wf = true) : (faultCycle a0 a1 a2).sram.wf = true := by
  unfold faultCycle
  split
  · exact hwf
  · extract_lets s1 l s2 s3 s4 s5 s6
    have h6 : s6.sram.wf = true := by
      simp only [s6, s5, s4, s3, s2, l, s1, cancelCycle_sram, setTask_sram, cutRecord_sram, mirrorCycle_sram, takeLines_sram, dropPacket_sram]; exact hwf
    exact ite_keeps (P := fun s => s.sram.wf = true) _ h6 (ite_keeps (P := fun s => s.sram.wf = true) _ (enterStop_wf _ _ _ _ h6) (afterCycle_wf _ _ h6))

theorem takeFault_wf (s : State) (c core : Nat) (cls : FClass) (device : Reason) (addr : BitVec 64) (insn : BitVec 32) (h : s.sram.wf = true) :
    (takeFault s c core cls device addr insn).sram.wf = true := by
  unfold takeFault
  extract_lets st x s1 s2 s3
  have h3 : s3.sram.wf = true := by
    simp only [s3, raiseEvent_sram]
    refine ite_keeps (P := fun s => s.sram.wf = true) _ ?_ ?_
    · simp only [countThreshold_sram, s1, setCtx_sram]; exact h
    · simp only [s1, setCtx_sram]; exact h
  refine ite_keeps (P := fun s => s.sram.wf = true) _ ?_ (ite_keeps (P := fun s => s.sram.wf = true) _ (faultCycle_wf _ _ _ h3) ?_)
  · rw [endFoundation_sram]; exact h3
  · rw [dropPacket_sram]; exact h3

theorem abandonRequest_wf (s : State) (who : Requester) (h : s.sram.wf = true) : (abandonRequest s who).sram.wf = true := by
  cases who with
  | context c => exact ite_keeps (P := fun s => s.sram.wf = true) _ (takeFault_wf _ _ _ _ _ _ _ h) h
  | engine => exact h
  | cfg c => unfold abandonRequest; dsimp only; split <;> simp [h]
  | key n => unfold abandonRequest; dsimp only; split <;> simp [h]
  | command q => unfold abandonRequest; dsimp only; split <;> simp [h]

theorem afterReset_wf (a0 : State) (a1 : ResetClass) (a2 : Nat) (hwf : a0.sram.wf = true) : (afterReset a0 a1 a2).sram.wf = true := by
  exact empty_wf

theorem resetModule_wf (a0 : State) (a1 : _) (a2 : _)  (hwf : a0.sram.wf = true) : (resetModule a0 a1 a2).sram.wf = true := by
  unfold resetModule
  repeat' first
    | with_reducible assumption
    | with_reducible apply afterReset_wf
    | with_reducible refine wf_of_same_sram (loseKeys_sram _ ) ?_
    | with_reducible refine wf_of_same_sram (keepWarm_sram1 _ _ ) ?_
    | with_reducible refine ite_keeps (P := fun s => s.sram.wf = true) _ ?_ ?_
    | with_reducible refine foldl_wf _ ?_ _ _ ?_
    | intro _
    | simp only [after_fault, after_denied, after_memory, after_next, after_goto, after_ends, after_waits, state_ends, state_waits]
    | split
theorem warmForUpdate_wf (a0 : State)  (hwf : a0.sram.wf = true) : (warmForUpdate a0).sram.wf = true := by
  unfold warmForUpdate
  repeat' first
    | with_reducible assumption
    | with_reducible apply resetModule_wf
    | with_reducible refine wf_of_same_sram (setTwin_sram _ _ ) ?_
    | with_reducible refine ite_keeps (P := fun s => s.sram.wf = true) _ ?_ ?_
    | with_reducible refine foldl_wf _ ?_ _ _ ?_
    | intro _
    | simp only [after_fault, after_denied, after_memory, after_next, after_goto, after_ends, after_waits, state_ends, state_waits]
    | split
theorem revert_wf (a0 : State) (a1 : _) (a2 : _)  (hwf : a0.sram.wf = true) : (revert a0 a1 a2).sram.wf = true := by
  unfold revert
  repeat' first
    | with_reducible assumption
    | with_reducible apply resetSuite_wf
    | with_reducible apply warmForUpdate_wf
    | with_reducible refine wf_of_same_sram (tellOutcome_sram _ _ _ _ ) ?_
    | with_reducible refine wf_of_same_sram (setUpdate_sram _ _ _ _ ) ?_
    | with_reducible refine ite_keeps (P := fun s => s.sram.wf = true) _ ?_ ?_
    | with_reducible refine foldl_wf _ ?_ _ _ ?_
    | intro _
    | simp only [after_fault, after_denied, after_memory, after_next, after_goto, after_ends, after_waits, state_ends, state_waits]
    | split
theorem revertLater_wf (a0 : State) (a1 : _) (a2 : _)  (hwf : a0.sram.wf = true) : (revertLater a0 a1 a2).sram.wf = true := by
  unfold revertLater
  repeat' first
    | with_reducible assumption
    | with_reducible apply revert_wf
    | with_reducible refine wf_of_same_sram (resetLater_sram _ _ _ ) ?_
    | with_reducible refine wf_of_same_sram (setTwin_sram _ _ ) ?_
    | with_reducible refine wf_of_same_sram (setUpdate_sram _ _ _ _ ) ?_
    | with_reducible refine ite_keeps (P := fun s => s.sram.wf = true) _ ?_ ?_
    | with_reducible refine foldl_wf _ ?_ _ _ ?_
    | intro _
    | simp only [after_fault, after_denied, after_memory, after_next, after_goto, after_ends, after_waits, state_ends, state_waits]
    | split
theorem abortUpdate_wf (a0 : State) (a1 : _) (a2 : _)  (hwf : a0.sram.wf = true) : (abortUpdate a0 a1 a2).s.sram.wf = true := by
  unfold abortUpdate
  repeat' first
    | with_reducible assumption
    | with_reducible apply revertLater_wf
    | with_reducible refine wf_of_same_sram (setUpdate_sram _ _ _ _ ) ?_
    | with_reducible refine wf_of_same_sram (refuse_sram _ _ ) ?_
    | with_reducible refine ite_keeps (P := fun s => s.sram.wf = true) _ ?_ ?_
    | with_reducible refine foldl_wf _ ?_ _ _ ?_
    | intro _
    | simp only [after_fault, after_denied, after_memory, after_next, after_goto, after_ends, after_waits, state_ends, state_waits]
    | split
theorem skipOverrun_wf (a0 : State) (a1 : _) (a2 : _)  (hwf : a0.sram.wf = true) : (skipOverrun a0 a1 a2).sram.wf = true := by
  unfold skipOverrun
  repeat' first
    | with_reducible assumption
    | with_reducible apply afterCycle_wf
    | with_reducible refine wf_of_same_sram (reportOverrun_sram _ _ _ ) ?_
    | with_reducible refine wf_of_same_sram (countSkipped_sram _ _ _ ) ?_
    | with_reducible refine wf_of_same_sram (setTask_sram _ _ _ ) ?_
    | with_reducible refine wf_of_same_sram (cancelCycle_sram _ _ _ _ ) ?_
    | with_reducible refine ite_keeps (P := fun s => s.sram.wf = true) _ ?_ ?_
    | with_reducible refine foldl_wf _ ?_ _ _ ?_
    | intro _
    | simp only [after_fault, after_denied, after_memory, after_next, after_goto, after_ends, after_waits, state_ends, state_waits]
    | split
theorem faultOverrun_wf (a0 : State) (a1 : _) (a2 : _)  (hwf : a0.sram.wf = true) : (faultOverrun a0 a1 a2).sram.wf = true := by
  unfold faultOverrun
  repeat' first
    | with_reducible assumption
    | with_reducible apply enterStop_wf
    | with_reducible refine wf_of_same_sram (reportOverrun_sram _ _ _ ) ?_
    | with_reducible refine wf_of_same_sram (cancelCycle_sram _ _ _ _ ) ?_
    | with_reducible refine ite_keeps (P := fun s => s.sram.wf = true) _ ?_ ?_
    | with_reducible refine foldl_wf _ ?_ _ _ ?_
    | intro _
    | simp only [after_fault, after_denied, after_memory, after_next, after_goto, after_ends, after_waits, state_ends, state_waits]
    | split
theorem settleOverrun_wf (a0 : State) (a1 : _) (a2 : _) (a3 : _)  (hwf : a0.sram.wf = true) : (settleOverrun a0 a1 a2 a3).sram.wf = true := by
  unfold settleOverrun
  repeat' first
    | with_reducible assumption
    | with_reducible apply skipOverrun_wf
    | with_reducible apply faultOverrun_wf
    | with_reducible refine wf_of_same_sram (stretchOverrun_sram _ _ _ ) ?_
    | with_reducible refine ite_keeps (P := fun s => s.sram.wf = true) _ ?_ ?_
    | with_reducible refine foldl_wf _ ?_ _ _ ?_
    | intro _
    | simp only [after_fault, after_denied, after_memory, after_next, after_goto, after_ends, after_waits, state_ends, state_waits]
    | split
theorem acceptCycle_wf (a0 : State) (a1 : Nat) (a2 : Cycle)  (hwf : a0.sram.wf = true) : (acceptCycle a0 a1 a2).sram.wf = true := by
  have h1 : ∀ y, (noteAccepted a0 a1 y).sram.wf = true := fun y => by rw [noteAccepted_sram]; exact hwf
  have h2 : ∀ (s : State) y z t, s.sram.wf = true → (awaitCommit (noteDeadline s a1 y) a1 z t).sram.wf = true := fun s y z t h => by
    rw [awaitCommit_sram, noteDeadline_sram]; exact h
  unfold acceptCycle
  exact ite_keeps (P := fun s => s.sram.wf = true) _ (h2 _ _ _ _ (h1 _)) (settleOverrun_wf _ _ _ _ (h1 _))

theorem shed_wf (a0 : Bool) (a1 : Nat) (a2 : State) (hwf : a2.sram.wf = true) : (shed a0 a1 a2).sram.wf = true := by
  induction a1 generalizing a2 with
  | zero => exact hwf
  | succ n ih =>
    unfold shed
    split
    · exact hwf
    · split
      · exact hwf
      · exact ih _ (by simpa using hwf)

theorem onUnit_wf (a0 : _) (a1 : _) (a2 : State) (a3 : _) (ha3 : a3.s.sram.wf = true) (hwf : a2.sram.wf = true) : (onUnit a0 a1 a2 a3).s.sram.wf = true := by
  unfold onUnit
  repeat' first
    | with_reducible assumption
    | with_reducible apply ha3
    | with_reducible refine wf_of_same_sram (refuse_sram _ _ ) ?_
    | with_reducible refine ite_keeps (P := fun s => s.sram.wf = true) _ ?_ ?_
    | with_reducible refine foldl_wf _ ?_ _ _ ?_
    | intro _
    | simp only [after_fault, after_denied, after_memory, after_next, after_goto, after_ends, after_waits, state_ends, state_waits]
    | split
theorem onSuite_wf (a0 : _) (a1 : _) (a2 : State) (a3 : _) (ha3 : ∀ y0, a2.sram.wf = true → (a3 y0).s.sram.wf = true) (hwf : a2.sram.wf = true) : (onSuite a0 a1 a2 a3).s.sram.wf = true := by
  unfold onSuite
  repeat' first
    | with_reducible assumption
    | with_reducible apply onUnit_wf
    | with_reducible apply ha3
    | with_reducible refine wf_of_same_sram (noteSuite_sram _ _ ) ?_
    | with_reducible refine ite_keeps (P := fun s => s.sram.wf = true) _ ?_ ?_
    | with_reducible refine foldl_wf _ ?_ _ _ ?_
    | intro _
    | simp only [after_fault, after_denied, after_memory, after_next, after_goto, after_ends, after_waits, state_ends, state_waits]
    | split
theorem answer_wf (a0 : _) (a1 : _) (a2 : _) (a3 : _) (a4 : State) (a5 : _) (bb : State) (hbb : bb.sram.wf = true) (hwf : a4.sram.wf = true) : ((answer a0 a1 a2 a3 a4 a5).after bb).sram.wf = true := by
  unfold answer
  repeat' first
    | with_reducible assumption
    | with_reducible apply hbb
    | with_reducible refine ite_keeps (P := fun s => s.sram.wf = true) _ ?_ ?_
    | with_reducible refine foldl_wf _ ?_ _ _ ?_
    | intro _
    | simp only [after_fault, after_denied, after_memory, after_next, after_goto, after_ends, after_waits, state_ends, state_waits]
    | split
theorem deviceFault_wf (a0 : Reason) (bb : State) (hbb : bb.sram.wf = true) : ((deviceFault a0).after bb).sram.wf = true := hbb

theorem ackCurrent_wf (a0 : _) (a1 : _) (a2 : State) (a3 : _) (bb : State) (hbb : bb.sram.wf = true) (hwf : a2.sram.wf = true) : ((ackCurrent a0 a1 a2 a3).after bb).sram.wf = true := by
  unfold ackCurrent
  repeat' first
    | with_reducible assumption
    | with_reducible apply answer_wf
    | with_reducible apply deviceFault_wf
    | with_reducible apply hbb
    | with_reducible refine wf_of_same_sram (ackItem_sram _ _ _ ) ?_
    | with_reducible refine wf_of_same_sram (stage_sram _ _ _ ) ?_
    | with_reducible refine wf_of_same_sram (setTake_sram _ _ _ _ ) ?_
    | with_reducible refine ite_keeps (P := fun s => s.sram.wf = true) _ ?_ ?_
    | with_reducible refine foldl_wf _ ?_ _ _ ?_
    | intro _
    | simp only [after_fault, after_denied, after_memory, after_next, after_goto, after_ends, after_waits, state_ends, state_waits]
    | split
theorem activateNow_wf (a0 : State) (a1 : _) (a2 : _)  (hwf : a0.sram.wf = true) : (activateNow a0 a1 a2).sram.wf = true := by
  unfold activateNow
  repeat' first
    | with_reducible assumption
    | with_reducible apply resetSuite_wf
    | with_reducible apply warmForUpdate_wf
    | with_reducible refine wf_of_same_sram (tellOutcome_sram _ _ _ _ ) ?_
    | with_reducible refine wf_of_same_sram (setUpdate_sram _ _ _ _ ) ?_
    | with_reducible refine ite_keeps (P := fun s => s.sram.wf = true) _ ?_ ?_
    | with_reducible refine foldl_wf _ ?_ _ _ ?_
    | intro _
    | simp only [after_fault, after_denied, after_memory, after_next, after_goto, after_ends, after_waits, state_ends, state_waits]
    | split
theorem judgeActivation_wf (a0 : State) (a1 : _) (a2 : _)  (hwf : a0.sram.wf = true) : (judgeActivation a0 a1 a2).sram.wf = true := by
  unfold judgeActivation
  repeat' first
    | with_reducible assumption
    | with_reducible apply activateNow_wf
    | with_reducible refine wf_of_same_sram (setUpdate_sram _ _ _ _ ) ?_
    | with_reducible refine wf_of_same_sram (endActivation_sram _ _ _ _ ) ?_
    | with_reducible refine ite_keeps (P := fun s => s.sram.wf = true) _ ?_ ?_
    | with_reducible refine foldl_wf _ ?_ _ _ ?_
    | intro _
    | simp only [after_fault, after_denied, after_memory, after_next, after_goto, after_ends, after_waits, state_ends, state_waits]
    | split
theorem activation_wf (a0 : _) (a1 : _) (a2 : State)  (hwf : a2.sram.wf = true) : (activation a0 a1 a2).sram.wf = true := by
  unfold activation
  repeat' first
    | with_reducible assumption
    | with_reducible apply judgeActivation_wf
    | with_reducible apply activateNow_wf
    | with_reducible refine wf_of_same_sram (settleAll_sram _ ) ?_
    | with_reducible refine wf_of_same_sram (endActivation_sram _ _ _ _ ) ?_
    | with_reducible refine ite_keeps (P := fun s => s.sram.wf = true) _ ?_ ?_
    | with_reducible refine foldl_wf _ ?_ _ _ ?_
    | intro _
    | simp only [after_fault, after_denied, after_memory, after_next, after_goto, after_ends, after_waits, state_ends, state_waits]
    | split
theorem meetError_wf (a0 : State) (a1 : _) (a2 : _)  (hwf : a0.sram.wf = true) : (meetError a0 a1 a2).sram.wf = true := by
  unfold meetError
  repeat' first
    | with_reducible assumption
    | with_reducible apply faultSuite_wf
    | with_reducible refine wf_of_same_sram (breakJournal_sram _ ) ?_
    | with_reducible refine wf_of_same_sram (raiseEvent_sram _ _ _ _ _ _ ) ?_
    | with_reducible refine wf_of_same_sram (fallOutOfStep_sram _ ) ?_
    | with_reducible refine ite_keeps (P := fun s => s.sram.wf = true) _ ?_ ?_
    | with_reducible refine foldl_wf _ ?_ _ _ ?_
    | intro _
    | simp only [after_fault, after_denied, after_memory, after_next, after_goto, after_ends, after_waits, state_ends, state_waits]
    | split
theorem brokenLoad_wf (a0 : State) (a1 : _)  (hwf : a0.sram.wf = true) : (brokenLoad a0 a1).state.sram.wf = true := by
  unfold brokenLoad
  repeat' first
    | with_reducible assumption
    | with_reducible apply meetError_wf
    | with_reducible refine wf_of_same_sram (cfgDeny_sram _ _ ) ?_
    | with_reducible refine ite_keeps (P := fun s => s.sram.wf = true) _ ?_ ?_
    | with_reducible refine foldl_wf _ ?_ _ _ ?_
    | intro _
    | simp only [after_fault, after_denied, after_memory, after_next, after_goto, after_ends, after_waits, state_ends, state_waits]
    | split
theorem admitTask_wf (a0 : CfgReq) (a1 : State) (a2 : Nat) (a3 : TaskDesc) (a4 : State) (h1 : a1.sram.wf = true) (h4 : a4.sram.wf = true) : (admitTask a0 a1 a2 a3 a4).state.sram.wf = true := by
  unfold admitTask
  split
  · split
    · exact brokenLoad_wf _ _ h1
    · exact h1
  · dsimp only; split
    · exact h1
    · simp only [state_ends, placeTask_sram]; exact h4

theorem appendBytes_wf (a0 : _) (a1 : _) (a2 : State) (a3 : _) (bb : State) (hbb : bb.sram.wf = true) (hwf : a2.sram.wf = true) : ((appendBytes a0 a1 a2 a3).after bb).sram.wf = true := by
  unfold appendBytes
  repeat' first
    | with_reducible assumption
    | with_reducible apply answer_wf
    | with_reducible apply hbb
    | with_reducible refine ite_keeps (P := fun s => s.sram.wf = true) _ ?_ ?_
    | with_reducible refine foldl_wf _ ?_ _ _ ?_
    | intro _
    | simp only [after_fault, after_denied, after_memory, after_next, after_goto, after_ends, after_waits, state_ends, state_waits]
    | split
theorem correctErrors_wf (a0 : State) (a1 a2 : Nat) (hwf : a0.sram.wf = true) : (correctErrors a0 a1 a2).sram.wf = true := by
  unfold correctErrors; dsimp only; split
  · exact hwf
  · exact setErrors_wf _ _ hwf

theorem appendBlock_wf (a0 : _) (a1 : _) (a2 : State) (a3 : _) (bb : State) (hbb : bb.sram.wf = true) (hwf : a2.sram.wf = true) : ((appendBlock a0 a1 a2 a3).after bb).sram.wf = true := by
  unfold appendBlock
  repeat' first
    | with_reducible assumption
    | (rw [dataFault_after (by assumption)]; with_reducible assumption)
    | (rw [blockFault_after (by assumption)]; with_reducible assumption)
    | (rw [memoryFault_after (by assumption)]; with_reducible assumption)
    | with_reducible apply deviceFault_wf
    | with_reducible apply appendBytes_wf
    | with_reducible apply correctErrors_wf
    | with_reducible apply hbb
    | (simp only [after_fault, after_denied, after_memory, after_next, after_goto, after_ends, after_waits, state_ends, state_waits]; with_reducible assumption)
    | with_reducible refine ite_keeps (P := fun s => s.sram.wf = true) _ ?_ ?_
    | with_reducible refine foldl_wf _ ?_ _ _ ?_
    | intro _
    | split
    | simp
theorem applyOnline_wf (a0 : State) (a1 : Nat) (a2 : OnlineWrite) (hwf : a0.sram.wf = true) : (applyOnline a0 a1 a2).sram.wf = true := by
  unfold applyOnline; dsimp only; simp only [lateReply_sram, mirror_sram, ite_sram, cutRecord_sram, ite_self]; exact writeBytes_wf _ _ hwf

theorem applyAllOnline_wf (a0 : State) (a1 : _)  (hwf : a0.sram.wf = true) : (applyAllOnline a0 a1).sram.wf = true := by
  unfold applyAllOnline
  repeat' first
    | with_reducible assumption
    | with_reducible apply applyOnline_wf
    | with_reducible refine wf_of_same_sram (setTask_sram _ _ _ ) ?_
    | with_reducible refine ite_keeps (P := fun s => s.sram.wf = true) _ ?_ ?_
    | with_reducible refine foldl_wf _ ?_ _ _ ?_
    | intro _
    | simp only [after_fault, after_denied, after_memory, after_next, after_goto, after_ends, after_waits, state_ends, state_waits]
    | split
theorem buildingCfg_wf (a0 : State) (a1 : _) (ha1 : a1.state.sram.wf = true) (hwf : a0.sram.wf = true) : (buildingCfg a0 a1).state.sram.wf = true := by
  unfold buildingCfg
  repeat' first
    | with_reducible assumption
    | with_reducible apply ha1
    | with_reducible refine wf_of_same_sram (cfgDeny_sram _ _ ) ?_
    | with_reducible refine ite_keeps (P := fun s => s.sram.wf = true) _ ?_ ?_
    | with_reducible refine foldl_wf _ ?_ _ _ ?_
    | intro _
    | simp only [after_fault, after_denied, after_memory, after_next, after_goto, after_ends, after_waits, state_ends, state_waits]
    | split
theorem cfgUnitOnly_wf (a0 : _) (a1 : State) (a2 : _) (a3 : _) (ha3 : ∀ y0, a1.sram.wf = true → (a3 y0).state.sram.wf = true) (hwf : a1.sram.wf = true) : (cfgUnitOnly a0 a1 a2 a3).state.sram.wf = true := by
  unfold cfgUnitOnly
  repeat' first
    | with_reducible assumption
    | with_reducible apply ha3
    | with_reducible refine wf_of_same_sram (cfgDeny_sram _ _ ) ?_
    | with_reducible refine ite_keeps (P := fun s => s.sram.wf = true) _ ?_ ?_
    | with_reducible refine foldl_wf _ ?_ _ _ ?_
    | intro _
    | simp only [after_fault, after_denied, after_memory, after_next, after_goto, after_ends, after_waits, state_ends, state_waits]
    | split
theorem placeImage_wf (a0 : State) (a1 a2 : Nat) (a3 : FlashImage) (hwf : a0.sram.wf = true) : (placeImage a0 a1 a2 a3).sram.wf = true := by
  unfold placeImage; dsimp only; simp only [windowOfImage_sram]; exact writeBytes_wf _ _ (writeBytes_wf _ _ (invalidate_wf _ _ hwf))

theorem copyImage_wf (a0 : State) (a1 a2 : Nat)  (hwf : a0.sram.wf = true) : (copyImage a0 a1 a2).1.sram.wf = true := by
  unfold copyImage; dsimp only
  split
  · exact placeImage_wf _ _ _ _ hwf
  · split
    · exact placeImage_wf _ _ _ _ (by simpa using hwf)
    · exact invalidate_wf _ _ hwf
  · exact hwf

theorem replayRetain_wf (a0 : State) (a1 : Nat) (hwf : a0.sram.wf = true) : (replayRetain a0 a1).sram.wf = true := by
  unfold replayRetain; dsimp only
  refine foldl_wf _ (fun s b hs => ?_) _ _ hwf
  split
  · exact writeBytes_wf _ _ hs
  · exact hs

theorem loadProgram_wf (a0 : State) (a1 : _)  (hwf : a0.sram.wf = true) : (loadProgram a0 a1).sram.wf = true := by
  unfold loadProgram
  repeat' first
    | with_reducible assumption
    | with_reducible apply copyImage_wf
    | with_reducible apply replayRetain_wf
    | with_reducible refine ite_keeps (P := fun s => s.sram.wf = true) _ ?_ ?_
    | with_reducible refine foldl_wf _ ?_ _ _ ?_
    | intro _
    | simp only [after_fault, after_denied, after_memory, after_next, after_goto, after_ends, after_waits, state_ends, state_waits]
    | split
theorem applySuite_wf (a0 : State) (a1 : Nat) (a2 : Suite)  (hwf : a0.sram.wf = true) : (applySuite a0 a1 a2).sram.wf = true := by
  have ha : ∀ (c : Prop) [Decidable c] (s : State), s.sram.wf = true → (if c then loadProgram s a1 else s).sram.wf = true :=
    fun c _ s h => ite_keeps (P := fun s => s.sram.wf = true) c (loadProgram_wf _ _ h) h
  have hb : ∀ (c : Prop) [Decidable c] (s : State), s.sram.wf = true → (if c then ensureRoot s a1 else s).sram.wf = true :=
    fun c _ s h => ite_keeps (P := fun s => s.sram.wf = true) c (by rw [ensureRoot_sram]; exact h) h
  have hc : ∀ (c : Prop) [Decidable c] (s : State) (o : Bool), s.sram.wf = true → (if c then relayout s a1 o else s).sram.wf = true :=
    fun c _ s o h => ite_keeps (P := fun s => s.sram.wf = true) c (by rw [relayout_sram]; exact h) h
  unfold applySuite
  exact hc _ _ _ (hb _ _ (ha _ _ (by rw [redirect_sram]; exact hwf)))

theorem configureSuite_wf (a0 : _) (a1 : State)  (hwf : a1.sram.wf = true) : (configureSuite a0 a1).state.sram.wf = true := by
  unfold configureSuite
  repeat' first
    | with_reducible assumption
    | with_reducible apply applySuite_wf
    | with_reducible apply buildingCfg_wf
    | with_reducible apply cfgUnitOnly_wf
    | with_reducible refine wf_of_same_sram (cfgDeny_sram _ _ ) ?_
    | with_reducible refine wf_of_same_sram (cfgDone_sram _ ) ?_
    | with_reducible refine ite_keeps (P := fun s => s.sram.wf = true) _ ?_ ?_
    | with_reducible refine foldl_wf _ ?_ _ _ ?_
    | intro _
    | simp only [after_fault, after_denied, after_memory, after_next, after_goto, after_ends, after_waits, state_ends, state_waits]
    | split
theorem ite_ends {P : CfgOut → Prop} (c : Prop) [Decidable c] {a b : CfgOut} (ha : P a) (hb : P b) : P (if c then a else b) := by
  split
  · exact ha
  · exact hb
theorem loadTask_wf (a0 : CfgReq) (a1 : State) (a2 : Nat)  (hwf : a1.sram.wf = true) : (loadTask a0 a1 a2).state.sram.wf = true := by
  have no : ∀ st, (cfgDeny a1 st).state.sram.wf = true := fun st => hwf
  have yes : ∀ b c d e, (bindTask (unbindTask a1 b c) d e).1.sram.wf = true := fun b c d e => by rw [bindTask_sram, unbindTask_sram]; exact hwf
  unfold loadTask
  refine ite_ends (P := fun o => o.state.sram.wf = true) _ (no _) ?_
  split
  · exact brokenLoad_wf _ _ hwf
  · refine ite_ends (P := fun o => o.state.sram.wf = true) _ (no _) (ite_ends (P := fun o => o.state.sram.wf = true) _ (no _)
      (ite_ends (P := fun o => o.state.sram.wf = true) _ (no _) (ite_ends (P := fun o => o.state.sram.wf = true) _ (no _)
        (ite_ends (P := fun o => o.state.sram.wf = true) _ (no _) ?_))))
    exact admitTask_wf _ _ _ _ _ hwf (yes _ _ _ _)

theorem configureClock_wf (a0 : _) (a1 : State) (a2 : _) (ha2 : a2.state.sram.wf = true) (hwf : a1.sram.wf = true) : (configureClock a0 a1 a2).state.sram.wf = true := by
  unfold configureClock
  repeat' first
    | with_reducible assumption
    | with_reducible apply buildingCfg_wf
    | with_reducible apply cfgUnitOnly_wf
    | with_reducible apply ha2
    | with_reducible refine wf_of_same_sram (cfgDeny_sram _ _ ) ?_
    | with_reducible refine ite_keeps (P := fun s => s.sram.wf = true) _ ?_ ?_
    | with_reducible refine foldl_wf _ ?_ _ _ ?_
    | intro _
    | simp only [after_fault, after_denied, after_memory, after_next, after_goto, after_ends, after_waits, state_ends, state_waits]
    | split
theorem configureMantel_wf (a0 : _) (a1 : _) (a2 : State) (ha0 : ∀ y0 y1, y1.sram.wf = true → (a0 y0 y1).state.sram.wf = true) (hwf : a2.sram.wf = true) : (configureMantel a0 a1 a2).state.sram.wf = true := by
  unfold configureMantel
  repeat' first
    | with_reducible assumption
    | with_reducible apply buildingCfg_wf
    | with_reducible apply cfgUnitOnly_wf
    | with_reducible apply ha0
    | with_reducible refine ite_keeps (P := fun s => s.sram.wf = true) _ ?_ ?_
    | with_reducible refine foldl_wf _ ?_ _ _ ?_
    | intro _
    | simp only [after_fault, after_denied, after_memory, after_next, after_goto, after_ends, after_waits, state_ends, state_waits]
    | split
theorem configureHall_wf (a0 : _) (a1 : _) (a2 : State) (ha0 : ∀ y0 y1 y2, y2.sram.wf = true → (a0 y0 y1 y2).state.sram.wf = true) (hwf : a2.sram.wf = true) : (configureHall a0 a1 a2).state.sram.wf = true := by
  unfold configureHall
  repeat' first
    | with_reducible assumption
    | with_reducible apply buildingCfg_wf
    | with_reducible apply cfgUnitOnly_wf
    | with_reducible apply ha0
    | with_reducible refine wf_of_same_sram (cfgDeny_sram _ _ ) ?_
    | with_reducible refine ite_keeps (P := fun s => s.sram.wf = true) _ ?_ ?_
    | with_reducible refine foldl_wf _ ?_ _ _ ?_
    | intro _
    | simp only [after_fault, after_denied, after_memory, after_next, after_goto, after_ends, after_waits, state_ends, state_waits]
    | split
theorem onTask_wf (a0 : _) (a1 : State) (a2 : _) (ha2 : ∀ y0, a1.sram.wf = true → (a2 y0).state.sram.wf = true) (hwf : a1.sram.wf = true) : (onTask a0 a1 a2).state.sram.wf = true := by
  unfold onTask
  repeat' first
    | with_reducible assumption
    | with_reducible apply cfgUnitOnly_wf
    | with_reducible apply ha2
    | with_reducible refine wf_of_same_sram (cfgDeny_sram _ _ ) ?_
    | with_reducible refine ite_keeps (P := fun s => s.sram.wf = true) _ ?_ ?_
    | with_reducible refine foldl_wf _ ?_ _ _ ?_
    | intro _
    | simp only [after_fault, after_denied, after_memory, after_next, after_goto, after_ends, after_waits, state_ends, state_waits]
    | split
theorem configureMeter_wf (a0 : _) (a1 : _) (a2 : State) (ha0 : ∀ y0 y1 y2, y2.sram.wf = true → (a0 y0 y1 y2).state.sram.wf = true) (hwf : a2.sram.wf = true) : (configureMeter a0 a1 a2).state.sram.wf = true := by
  unfold configureMeter
  repeat' first
    | with_reducible assumption
    | with_reducible apply buildingCfg_wf
    | with_reducible apply cfgUnitOnly_wf
    | with_reducible apply ha0
    | with_reducible refine wf_of_same_sram (cfgDeny_sram _ _ ) ?_
    | with_reducible refine ite_keeps (P := fun s => s.sram.wf = true) _ ?_ ?_
    | with_reducible refine foldl_wf _ ?_ _ _ ?_
    | intro _
    | simp only [after_fault, after_denied, after_memory, after_next, after_goto, after_ends, after_waits, state_ends, state_waits]
    | split
theorem configureBy_wf (r : CfgReq) (s : State)  (h : s.sram.wf = true) : (configureBy r s).state.sram.wf = true := by
  have eq : ∀ {o : CfgOut}, o.state.sram = s.sram → o.state.sram.wf = true := fun e => e ▸ h
  unfold configureBy
  extract_lets op
  split
  · exact configureSuite_wf _ _ h
  · refine cfgUnitOnly_wf _ _ _ _ (fun _ _ => ?_) h
    split
    · exact eq (setLimit_sram _ _)
    · exact eq (setUpQueue_sram _ _)
  · exact eq (configurePoint_sram _ _)
  · refine onTask_wf _ _ _ (fun room _ => ?_) h
    split
    · rw [cfgDone_sram, removeTask_sram]; exact h
    · exact loadTask_wf _ _ _ h
  · exact eq (configurePort_sram _ _)
  · exact eq (configureFwd_sram _ _ _)
  · exact eq (configureUplink_sram _ _)
  · repeat' split
    · exact eq (clockSet_sram _ _)
    · exact eq (clockStep_sram _ _)
    · exact eq (clockThreshold_sram _ _)
    · exact eq (clockIncrement_sram _ _)
  · refine eq (configureHall_sram _ _ _ (fun a b t => ?_))
    repeat' split
    · exact configureFilter_sram _ _ _
    · exact configureHallSlot_sram _ _ _
    · exact configureHallPort_sram _ _ _
  · exact eq (configureInput_sram _ _)
  · exact eq (configureBank_sram _ _)
  · refine eq (configureMeter_sram _ _ _ (fun a b t => ?_))
    repeat' split
    · exact configurePulse_sram _ _ _
    · exact configureRegister_sram _ _ _
    · exact configureCircuit_sram _ _ _
  · exact eq (configureSlot_sram _ _ _)
  · exact eq (configureCellar_sram _ _)
  · exact eq (configureAttic_sram _ _)
  · exact eq (configureScrub_sram _ _)
  · refine eq (configureMantel_sram _ _ _ (fun a t => ?_))
    repeat' split
    · exact mantelHalt_sram _ _
    · exact mantelSetRun_sram _ _
    · exact mantelSetup_sram _ _
  · exact eq (configureTwin_sram _ _)
  · exact eq (configurePace_sram _ _)
  · exact eq (configureLock_sram _ _)
  · exact eq (cfgDeny_sram _ _)

theorem applyConfig_wf (a0 : _) (a1 : _) (a2 : State)  (hwf : a2.sram.wf = true) : (applyConfig a0 a1 a2).sram.wf = true := by
  unfold applyConfig; extract_lets t h r
  have := configureBy_wf r _ hwf
  split <;> rename_i e <;> rw [e] at this <;> exact this
theorem applyCycle_wf (a0 : State) (a1 : Time80) (a2 : Nat) (a3 : Status) (a4 : Nat) (a5 : List (Option Time80)) (a6 : BitVec 4) (a7 : List (Nat × List Byte)) (hwf : a0.sram.wf = true) : (applyCycle a0 a1 a2 a3 a4 a5 a6 a7).sram.wf = true := by
  unfold applyCycle; dsimp only; simp only [setTask_sram]
  generalize (suiteAt a0 (ctxSuite a2)).winBase = b
  generalize a0.sram = m at *
  induction a7 generalizing m with
  | nil => exact hwf
  | cons l ls ih => exact ih _ (writeBytes_wf _ _ hwf)

theorem clearMirrored_wf (a0 : State)  (hwf : a0.sram.wf = true) : (clearMirrored a0).sram.wf = true := by
  unfold clearMirrored
  repeat' first
    | with_reducible assumption
    | with_reducible apply clearRetain_wf
    | with_reducible refine wf_of_same_sram (setTwin_sram _ _ ) ?_
    | with_reducible refine wf_of_same_sram (dropItems_sram _ _ _ ) ?_
    | with_reducible refine ite_keeps (P := fun s => s.sram.wf = true) _ ?_ ?_
    | with_reducible refine foldl_wf _ ?_ _ _ ?_
    | intro _
    | simp only [after_fault, after_denied, after_memory, after_next, after_goto, after_ends, after_waits, state_ends, state_waits]
    | split
theorem applyKey_wf {s t : State} (n : Nat) (w : List Byte) (hwf : s.sram.wf = true) (h : applyKey s n w = some t) : t.sram.wf = true := by
  unfold applyKey at h
  split at h
  · cases h
  · obtain ⟨b, _, rfl⟩ := Option.map_eq_some_iff.1 h
    dsimp only; rw [setKey_sram]; exact hwf
theorem applyEntry_wf {config : Nat → List (BitVec 64) → State → State} (hc : ∀ n ws s, s.sram.wf = true → (config n ws s).sram.wf = true)
    {fresh : Bool} {t80 : Time80} {s t : State} {e : DeltaEntry} (hwf : s.sram.wf = true) (h : applyEntry config fresh t80 s e = some t) : t.sram.wf = true := by
  cases e <;> simp only [applyEntry, Option.some.injEq] at h <;> try subst h
  case cycle => exact applyCycle_wf _ _ _ _ _ _ _ _ hwf
  case points => exact foldl_wf _ (fun s b h => by rw [applyPoint_sram]; exact h) _ _ hwf
  case key => exact applyKey_wf _ _ hwf h
  case config => exact hc _ _ _ hwf
  case suiteReset => exact resetSuite_wf _ _ _ hwf
  case onlineChange => exact writeBytes_wf _ _ hwf
  case unknown => cases h
  all_goals first
    | exact hwf
    | (simp; exact hwf)
theorem applyEntries_wf {config : Nat → List (BitVec 64) → State → State} (hc : ∀ n ws s, s.sram.wf = true → (config n ws s).sram.wf = true)
    {fresh : Bool} {t80 : Time80} {es : List DeltaEntry} {s t : State} (hwf : s.sram.wf = true) (h : applyEntries config fresh t80 es s = some t) : t.sram.wf = true := by
  induction es generalizing s with
  | nil => cases h; exact hwf
  | cons e es ih =>
    unfold applyEntries at h
    split at h
    · cases h
    · rename_i s' he
      exact ih (applyEntry_wf hc hwf he) h
theorem applyDelta_wf (d : Delta) (s : State)  (h : s.sram.wf = true) : (applyDelta d s).sram.wf = true := by
  have h1 : (if opensSnapshot d s then clearMirrored s else s).sram.wf = true := ite_keeps (P := fun s => s.sram.wf = true) _ (clearMirrored_wf _ h) h
  have hf : (fallOut s).sram.wf = true := by rw [fallOut_sram]; exact h
  unfold applyDelta
  refine ite_keeps (P := fun s => s.sram.wf = true) _ h (ite_keeps (P := fun s => s.sram.wf = true) _ hf (ite_keeps (P := fun s => s.sram.wf = true) _
    (ite_keeps (P := fun s => s.sram.wf = true) _ ?_ hf) ?_))
  · rw [confirmed_sram, storePrepared_sram]; exact h
  · split
    · exact hf
    · rename_i t e
      rw [confirmed_sram]
      exact applyEntries_wf (fun n ws s h => applyConfig_wf _ _ _ h) h1 e

theorem applyPrepared_wf (a0 : Nat → List (BitVec 64) → State → State) (a1 : State) (a2 : Prepared) (ha0 : ∀ y0 y1 y2, y2.sram.wf = true → (a0 y0 y1 y2).sram.wf = true) (hwf : a1.sram.wf = true) : (applyPrepared a0 a1 a2).sram.wf = true := by
  unfold applyPrepared; dsimp only
  have h1 : (setTwin a1 (fun w => { w with prepared := w.prepared.filter (· != a2) })).sram.wf = true := hwf
  cases h : applyEntries a0 true a2.commit a2.entries (setTwin a1 (fun w => { w with prepared := w.prepared.filter (· != a2) })) with
  | none => exact h1
  | some t => exact applyEntries_wf ha0 h1 h

theorem ownerOnly_wf (a0 : State) (a1 : _) (a2 : _) (a3 : _) (ha3 : a3.s.sram.wf = true) (hwf : a0.sram.wf = true) : (ownerOnly a0 a1 a2 a3).s.sram.wf = true := by
  unfold ownerOnly
  repeat' first
    | with_reducible assumption
    | with_reducible apply ha3
    | with_reducible refine wf_of_same_sram (refuseOwner_sram _ _ _ ) ?_
    | with_reducible refine ite_keeps (P := fun s => s.sram.wf = true) _ ?_ ?_
    | with_reducible refine foldl_wf _ ?_ _ _ ?_
    | intro _
    | simp only [after_fault, after_denied, after_memory, after_next, after_goto, after_ends, after_waits, state_ends, state_waits]
    | split
theorem onTasks_wf (a0 : _) (a1 : _) (a2 : State) (a3 : _) (ha3 : ∀ y0 y1, a2.sram.wf = true → (a3 y0 y1).s.sram.wf = true) (hwf : a2.sram.wf = true) : (onTasks a0 a1 a2 a3).s.sram.wf = true := by
  unfold onTasks
  repeat' first
    | with_reducible assumption
    | with_reducible apply ownerOnly_wf
    | with_reducible apply onUnit_wf
    | with_reducible apply ha3
    | with_reducible refine wf_of_same_sram (refuse_sram _ _ ) ?_
    | with_reducible refine ite_keeps (P := fun s => s.sram.wf = true) _ ?_ ?_
    | with_reducible refine foldl_wf _ ?_ _ _ ?_
    | intro _
    | simp only [after_fault, after_denied, after_memory, after_next, after_goto, after_ends, after_waits, state_ends, state_waits]
    | split
theorem beginCycle_wf (a0 : State) (a1 : _) (a2 : _)  (hwf : a0.sram.wf = true) : (beginCycle a0 a1 a2).sram.wf = true := by
  unfold beginCycle
  repeat' first
    | with_reducible assumption
    | with_reducible apply applyAllOnline_wf
    | with_reducible refine wf_of_same_sram (sendOutcomes_sram _ _ ) ?_
    | with_reducible refine wf_of_same_sram (settleAll_sram _ ) ?_
    | with_reducible refine wf_of_same_sram (setTask_sram _ _ _ ) ?_
    | with_reducible refine wf_of_same_sram (deliver_sram _ _ _ ) ?_
    | with_reducible refine ite_keeps (P := fun s => s.sram.wf = true) _ ?_ ?_
    | with_reducible refine foldl_wf _ ?_ _ _ ?_
    | intro _
    | simp only [after_fault, after_denied, after_memory, after_next, after_goto, after_ends, after_waits, state_ends, state_waits]
    | split
theorem requestReset_wf (a0 : State) (a1 : _) (a2 : _)  (hwf : a0.sram.wf = true) : (requestReset a0 a1 a2).sram.wf = true := by
  unfold requestReset
  repeat' first
    | with_reducible assumption
    | with_reducible apply resetModule_wf
    | with_reducible refine ite_keeps (P := fun s => s.sram.wf = true) _ ?_ ?_
    | with_reducible refine foldl_wf _ ?_ _ _ ?_
    | intro _
    | simp only [after_fault, after_denied, after_memory, after_next, after_goto, after_ends, after_waits, state_ends, state_waits]
    | split
theorem beginReset_wf (a0 : State)  (hwf : a0.sram.wf = true) : (beginReset a0).sram.wf = true := by
  unfold beginReset
  repeat' first
    | with_reducible assumption
    | with_reducible apply requestReset_wf
    | with_reducible refine wf_of_same_sram (releasePair_sram _ ) ?_
    | with_reducible refine wf_of_same_sram (releaseHeld_sram _ ) ?_
    | with_reducible refine ite_keeps (P := fun s => s.sram.wf = true) _ ?_ ?_
    | with_reducible refine foldl_wf _ ?_ _ _ ?_
    | intro _
    | simp only [after_fault, after_denied, after_memory, after_next, after_goto, after_ends, after_waits, state_ends, state_waits]
    | split
theorem bootFoundation_wf (a0 : State)  (hwf : a0.sram.wf = true) : (bootFoundation a0).sram.wf = true := by
  unfold bootFoundation
  repeat' first
    | with_reducible assumption
    | with_reducible apply copyImage_wf
    | with_reducible refine wf_of_same_sram (setUpdate_sram _ _ _ _ ) ?_
    | with_reducible refine ite_keeps (P := fun s => s.sram.wf = true) _ ?_ ?_
    | with_reducible refine foldl_wf _ ?_ _ _ ?_
    | intro _
    | simp only [after_fault, after_denied, after_memory, after_next, after_goto, after_ends, after_waits, state_ends, state_waits]
    | split
theorem breakpoint_wf (a0 : _) (a1 : _) (a2 : State) (a3 : _) (bb : State) (hbb : bb.sram.wf = true) (hwf : a2.sram.wf = true) : ((breakpoint a0 a1 a2 a3).after bb).sram.wf = true := by
  unfold breakpoint
  repeat' first
    | with_reducible assumption
    | with_reducible apply hbb
    | with_reducible refine wf_of_same_sram (putItem_sram _ _ _ _ _ _ _ _ ) ?_
    | with_reducible refine wf_of_same_sram (setTask_sram _ _ _ ) ?_
    | with_reducible refine ite_keeps (P := fun s => s.sram.wf = true) _ ?_ ?_
    | with_reducible refine foldl_wf _ ?_ _ _ ?_
    | intro _
    | simp only [after_fault, after_denied, after_memory, after_next, after_goto, after_ends, after_waits, state_ends, state_waits]
    | split
theorem clocked_wf (a0 a1 : State) (h0 : a0.sram.wf = true) (h1 : a1.sram.wf = true) : (clocked a0 a1).sram.wf = true := by
  unfold clocked; split
  · exact h0
  · exact h1

theorem collect_wf (a0 : State)  (hwf : a0.sram.wf = true) : (collect a0).sram.wf = true := by
  unfold collect
  repeat' first
    | with_reducible assumption
    | with_reducible apply acceptCycle_wf
    | with_reducible refine wf_of_same_sram (endCollectorCycle_sram _ ) ?_
    | with_reducible refine ite_keeps (P := fun s => s.sram.wf = true) _ ?_ ?_
    | with_reducible refine foldl_wf _ ?_ _ _ ?_
    | intro _
    | simp only [after_fault, after_denied, after_memory, after_next, after_goto, after_ends, after_waits, state_ends, state_waits]
    | split
theorem commitCycle_wf (a0 : State) (a1 : Nat) (a2 : Cycle)  (hwf : a0.sram.wf = true) : (commitCycle a0 a1 a2).sram.wf = true := by
  have h2 : ∀ (c : Prop) [Decidable c] (s : State) (es : List DeltaEntry), s.sram.wf = true → (if c then s else es.foldl mirror s).sram.wf = true :=
    fun c _ s es h => ite_keeps (P := fun s => s.sram.wf = true) c h (foldl_wf _ (fun s b h => by rw [mirror_sram]; exact h) _ _ h)
  have h6 : ∀ (c : Prop) [Decidable c] (s : State) (w : _), s.sram.wf = true →
      (if c then { s with twin := { s.twin with waiting := w } } else s).sram.wf = true :=
    fun c _ s w h => ite_keeps (P := fun s => s.sram.wf = true) c h h
  unfold commitCycle
  extract_lets vals s1 s2 waiting s3 src s4 s5 s6
  have e2 : s2.sram.wf = true := h2 _ _ _ (by rw [openInstant_sram, stopSafe_sram]; exact hwf)
  clear_value s2
  have e4 : s4.sram.wf = true := h6 _ _ _ (by rw [commitQueues_sram, commitPoints_sram]; exact e2)
  clear_value s4
  have e6 : s6.sram.wf = true := by
    simp only [s6, s5]
    rw [setTask_sram, mirrorSlots_sram]; exact e4
  clear_value s6
  rw [switchLatches_sram]
  exact afterCycle_wf _ _ (by rw [suiteCommitted_sram]; exact e6)

theorem missingConfirmation_wf (a0 : State) (a1 : Nat) (a2 : Cycle)  (hwf : a0.sram.wf = true) : (missingConfirmation a0 a1 a2).sram.wf = true := by
  unfold missingConfirmation
  split
  · exact faultOverrun_wf _ _ _ hwf
  · exact skipOverrun_wf _ _ _ hwf

theorem commitDue_wf (s : State) (c : Nat)  (h : s.sram.wf = true) : (commitDue s c).sram.wf = true := by
  have h1 : (switchLatches (settleAll s)).sram.wf = true := by rw [switchLatches_sram, settleAll_sram]; exact h
  have key : ∀ {P : State → Prop} (o : Option Cycle) (t : State) (f : Cycle → State), P t → (∀ y, P (f y)) → P (match o with | none => t | some y => f y) :=
    fun o t f a b => by cases o <;> simp_all
  have h2 : ∀ y, (missingConfirmation (switchLatches (settleAll s)) c y).sram.wf = true := fun y => missingConfirmation_wf _ _ _ h1
  have h3 : ∀ y, (commitCycle (switchLatches (settleAll s)) c y).sram.wf = true := fun y => commitCycle_wf _ _ _ h1
  unfold commitDue
  exact key (P := fun s => s.sram.wf = true) _ _ _ h1 (fun y => ite_keeps (P := fun s => s.sram.wf = true) _ h1
    (ite_keeps (P := fun s => s.sram.wf = true) _ (h2 y) (h3 y)))

theorem postRequest_wf (a0 : _) (a1 : _) (a2 : State) (a3 : _) (bb : State) (ha1 : ∀ y0 y1, y0.sram.wf = true → (a1 y0 y1).sram.wf = true) (hbb : bb.sram.wf = true) (hwf : a2.sram.wf = true) : ((postRequest a0 a1 a2 a3).after bb).sram.wf = true := by
  unfold postRequest
  repeat' first
    | with_reducible assumption
    | with_reducible apply answer_wf
    | with_reducible apply ha1
    | with_reducible apply hbb
    | with_reducible refine ite_keeps (P := fun s => s.sram.wf = true) _ ?_ ?_
    | with_reducible refine foldl_wf _ ?_ _ _ ?_
    | intro _
    | simp only [after_fault, after_denied, after_memory, after_next, after_goto, after_ends, after_waits, state_ends, state_waits]
    | split
theorem configure_wf (a0 : _) (a1 : _) (a2 : _) (a3 : State) (a4 : _) (bb : State) (hbb : bb.sram.wf = true) (hwf : a3.sram.wf = true) : ((configure a0 a1 a2 a3 a4).after bb).sram.wf = true := by
  unfold configure
  repeat' first
    | with_reducible assumption
    | (rw [dataFault_after (by assumption)]; with_reducible assumption)
    | (rw [blockFault_after (by assumption)]; with_reducible assumption)
    | (rw [memoryFault_after (by assumption)]; with_reducible assumption)
    | with_reducible apply deviceFault_wf
    | with_reducible apply correctErrors_wf
    | with_reducible apply postRequest_wf
    | with_reducible apply hbb
    | (simp only [after_fault, after_denied, after_memory, after_next, after_goto, after_ends, after_waits, state_ends, state_waits]; with_reducible assumption)
    | with_reducible refine ite_keeps (P := fun s => s.sram.wf = true) _ ?_ ?_
    | with_reducible refine foldl_wf _ ?_ _ _ ?_
    | intro _
    | split
    | simp
theorem cycleStart_cases {P : State → Prop} {s : State} {c : Nat} (h0 : P s) (hb : ∀ t, P (beginCycle s c t))
    (hc : ∀ n t, P (beginCycle (countSkipped s c n) c t)) (hs : ∀ n f, P (setTask (countSkipped s c n) c f)) : P (cycleStart s c) := by
  unfold cycleStart
  refine ite_keeps _ h0 ?_
  cases (taskAt s c).nextStart with
  | none => exact h0
  | some start => exact ite_keeps _ h0 (ite_keeps _ (hb _) (ite_keeps _ (hc _ _) (hs _ _)))
theorem cycleStart_wf (a0 : State) (a1 : Nat)  (hwf : a0.sram.wf = true) : (cycleStart a0 a1).sram.wf = true := by
  have hc : ∀ n, (countSkipped a0 a1 n).sram.wf = true := fun n => by rw [countSkipped_sram]; exact hwf
  exact cycleStart_cases (P := fun s => s.sram.wf = true) hwf (fun t => beginCycle_wf _ _ _ hwf) (fun n t => beginCycle_wf _ _ _ (hc n))
    (fun n f => by rw [setTask_sram]; exact hc n)

theorem deltaArrives_wf (a0 : _) (a1 : State)  (hwf : a1.sram.wf = true) : (deltaArrives a0 a1).sram.wf = true := by
  unfold deltaArrives
  repeat' first
    | with_reducible assumption
    | with_reducible apply applyDelta_wf
    | with_reducible refine wf_of_same_sram (fallOut_sram _ ) ?_
    | with_reducible refine wf_of_same_sram (takeOutcomes_sram _ _ ) ?_
    | with_reducible refine ite_keeps (P := fun s => s.sram.wf = true) _ ?_ ?_
    | with_reducible refine foldl_wf _ ?_ _ _ ?_
    | intro _
    | simp only [after_fault, after_denied, after_memory, after_next, after_goto, after_ends, after_waits, state_ends, state_waits]
    | split
theorem onAnyUnit_wf (a0 : _) (a1 : State) (a2 : _) (ha2 : ∀ y0, a1.sram.wf = true → (a2 y0).s.sram.wf = true) (hwf : a1.sram.wf = true) : (onAnyUnit a0 a1 a2).s.sram.wf = true := by
  unfold onAnyUnit
  repeat' first
    | with_reducible assumption
    | with_reducible apply ha2
    | with_reducible refine wf_of_same_sram (refuse_sram _ _ ) ?_
    | with_reducible refine ite_keeps (P := fun s => s.sram.wf = true) _ ?_ ?_
    | with_reducible refine foldl_wf _ ?_ _ _ ?_
    | intro _
    | simp only [after_fault, after_denied, after_memory, after_next, after_goto, after_ends, after_waits, state_ends, state_waits]
    | split
theorem discardPacket_wf (a0 : _) (a1 : _) (a2 : State) (a3 : _) (bb : State) (hbb : bb.sram.wf = true) (hwf : a2.sram.wf = true) : ((discardPacket a0 a1 a2 a3).after bb).sram.wf = true := by
  unfold discardPacket
  repeat' first
    | with_reducible assumption
    | with_reducible apply answer_wf
    | with_reducible apply hbb
    | with_reducible refine wf_of_same_sram (setQueue_sram _ _ _ ) ?_
    | with_reducible refine ite_keeps (P := fun s => s.sram.wf = true) _ ?_ ?_
    | with_reducible refine foldl_wf _ ?_ _ _ ?_
    | intro _
    | simp only [after_fault, after_denied, after_memory, after_next, after_goto, after_ends, after_waits, state_ends, state_waits]
    | split
theorem storeBytes_wf (a0 : State) (a1 : Nat) (a2 : Suite) (a3 : Nat) (a4 : List Byte) (hwf : a0.sram.wf = true) : (storeBytes a0 a1 a2 a3 a4).sram.wf = true := by
  unfold storeBytes; rw [noteLines_sram]; exact writeBytes_wf _ _ hwf

theorem doAtomic_wf (a0 : _) (a1 : _) (a2 : _) (a3 : _) (a4 : State) (a5 : _) (bb : State) (hbb : bb.sram.wf = true) (hwf : a4.sram.wf = true) : ((doAtomic a0 a1 a2 a3 a4 a5).after bb).sram.wf = true := by
  unfold doAtomic
  repeat' first
    | with_reducible assumption
    | (rw [dataFault_after (by assumption)]; with_reducible assumption)
    | (rw [blockFault_after (by assumption)]; with_reducible assumption)
    | (rw [memoryFault_after (by assumption)]; with_reducible assumption)
    | with_reducible apply storeBytes_wf
    | with_reducible apply correctErrors_wf
    | with_reducible apply hbb
    | (simp only [after_fault, after_denied, after_memory, after_next, after_goto, after_ends, after_waits, state_ends, state_waits]; with_reducible assumption)
    | with_reducible refine ite_keeps (P := fun s => s.sram.wf = true) _ ?_ ?_
    | with_reducible refine foldl_wf _ ?_ _ _ ?_
    | intro _
    | split
    | simp
theorem doLoad_wf (a0 : _) (a1 : _) (a2 : State) (a3 : _) (bb : State) (hbb : bb.sram.wf = true) (hwf : a2.sram.wf = true) : ((doLoad a0 a1 a2 a3).after bb).sram.wf = true := by
  unfold doLoad
  repeat' first
    | with_reducible assumption
    | (rw [dataFault_after (by assumption)]; with_reducible assumption)
    | (rw [blockFault_after (by assumption)]; with_reducible assumption)
    | (rw [memoryFault_after (by assumption)]; with_reducible assumption)
    | with_reducible apply correctErrors_wf
    | with_reducible apply hbb
    | (simp only [after_fault, after_denied, after_memory, after_next, after_goto, after_ends, after_waits, state_ends, state_waits]; with_reducible assumption)
    | with_reducible refine ite_keeps (P := fun s => s.sram.wf = true) _ ?_ ?_
    | with_reducible refine foldl_wf _ ?_ _ _ ?_
    | intro _
    | split
    | simp
theorem doStore_wf (a0 : _) (a1 : _) (a2 : State) (a3 : _) (bb : State) (hbb : bb.sram.wf = true) (hwf : a2.sram.wf = true) : ((doStore a0 a1 a2 a3).after bb).sram.wf = true := by
  unfold doStore
  repeat' first
    | with_reducible assumption
    | (rw [dataFault_after (by assumption)]; with_reducible assumption)
    | (rw [blockFault_after (by assumption)]; with_reducible assumption)
    | (rw [memoryFault_after (by assumption)]; with_reducible assumption)
    | with_reducible apply storeBytes_wf
    | with_reducible apply hbb
    | (simp only [after_fault, after_denied, after_memory, after_next, after_goto, after_ends, after_waits, state_ends, state_waits]; with_reducible assumption)
    | with_reducible refine ite_keeps (P := fun s => s.sram.wf = true) _ ?_ ?_
    | with_reducible refine foldl_wf _ ?_ _ _ ?_
    | intro _
    | split
    | simp
theorem emitEvent_wf (a0 : _) (a1 : _) (a2 : State) (a3 : _) (bb : State) (hbb : bb.sram.wf = true) (hwf : a2.sram.wf = true) : ((emitEvent a0 a1 a2 a3).after bb).sram.wf = true := by
  unfold emitEvent
  repeat' first
    | with_reducible assumption
    | (rw [dataFault_after (by assumption)]; with_reducible assumption)
    | (rw [blockFault_after (by assumption)]; with_reducible assumption)
    | (rw [memoryFault_after (by assumption)]; with_reducible assumption)
    | with_reducible apply answer_wf
    | with_reducible apply deviceFault_wf
    | with_reducible apply correctErrors_wf
    | with_reducible apply hbb
    | (simp only [after_fault, after_denied, after_memory, after_next, after_goto, after_ends, after_waits, state_ends, state_waits]; with_reducible assumption)
    | with_reducible refine ite_keeps (P := fun s => s.sram.wf = true) _ ?_ ?_
    | with_reducible refine foldl_wf _ ?_ _ _ ?_
    | intro _
    | split
    | simp
theorem exchangeRoles_wf (a0 a1 : Time80) (a2 : State)  (hwf : a2.sram.wf = true) : (exchangeRoles a0 a1 a2).sram.wf = true := by
  unfold exchangeRoles
  extract_lets s1 last s2
  have h1 : s1.sram.wf = true := hwf
  have h2 : s2.sram.wf = true := by simp only [s2, setTwin_sram, becomeActive_sram]; exact h1
  split
  · simp only [setTwin_sram, becomeStandby_sram]; exact h1
  · exact foldl_wf _ (fun s b h => by simp only [resumeTask_sram]; exact h) _ _ h2
  · exact h1

theorem putOut_wf (a0 : _) (a1 : _) (a2 : State) (a3 : _) (ha3 : ∀ y0, y0.sram.wf = true → (a3 y0).s.sram.wf = true) (hwf : a2.sram.wf = true) : (putOut a0 a1 a2 a3).s.sram.wf = true := by
  unfold putOut
  repeat' first
    | with_reducible assumption
    | with_reducible apply storeBytes_wf
    | with_reducible apply ha3
    | with_reducible refine wf_of_same_sram (countThreshold_sram _ _ ) ?_
    | with_reducible refine wf_of_same_sram (keyStop_sram _ _ ) ?_
    | with_reducible refine ite_keeps (P := fun s => s.sram.wf = true) _ ?_ ?_
    | with_reducible refine foldl_wf _ ?_ _ _ ?_
    | intro _
    | simp only [after_fault, after_denied, after_memory, after_next, after_goto, after_ends, after_waits, state_ends, state_waits]
    | split
theorem exportPublic_wf (a0 : _) (a1 : _) (a2 : State)  (hwf : a2.sram.wf = true) : (exportPublic a0 a1 a2).s.sram.wf = true := by
  unfold exportPublic
  repeat' first
    | with_reducible assumption
    | with_reducible apply putOut_wf
    | with_reducible refine wf_of_same_sram (keyDone_sram _ _ ) ?_
    | with_reducible refine wf_of_same_sram (countUses_sram _ _ ) ?_
    | with_reducible refine ite_keeps (P := fun s => s.sram.wf = true) _ ?_ ?_
    | with_reducible refine foldl_wf _ ?_ _ _ ?_
    | intro _
    | simp only [after_fault, after_denied, after_memory, after_next, after_goto, after_ends, after_waits, state_ends, state_waits]
    | split
theorem onKey_wf (a0 : State) (a1 : _) (a2 : _) (ha2 : ∀ y0, a0.sram.wf = true → (a2 y0).s.sram.wf = true) (hwf : a0.sram.wf = true) : (onKey a0 a1 a2).s.sram.wf = true := by
  unfold onKey
  repeat' first
    | with_reducible assumption
    | with_reducible apply ha2
    | with_reducible refine wf_of_same_sram (keyStop_sram _ _ ) ?_
    | with_reducible refine ite_keeps (P := fun s => s.sram.wf = true) _ ?_ ?_
    | with_reducible refine foldl_wf _ ?_ _ _ ?_
    | intro _
    | simp only [after_fault, after_denied, after_memory, after_next, after_goto, after_ends, after_waits, state_ends, state_waits]
    | split
theorem onTyped_wf (a0 : State) (a1 : _) (a2 : _) (a3 : _) (ha3 : ∀ y0, a0.sram.wf = true → (a3 y0).s.sram.wf = true) (hwf : a0.sram.wf = true) : (onTyped a0 a1 a2 a3).s.sram.wf = true := by
  unfold onTyped
  repeat' first
    | with_reducible assumption
    | with_reducible apply onKey_wf
    | with_reducible apply ha3
    | with_reducible refine wf_of_same_sram (keyStop_sram _ _ ) ?_
    | with_reducible refine ite_keeps (P := fun s => s.sram.wf = true) _ ?_ ?_
    | with_reducible refine foldl_wf _ ?_ _ _ ?_
    | intro _
    | simp only [after_fault, after_denied, after_memory, after_next, after_goto, after_ends, after_waits, state_ends, state_waits]
    | split
theorem exportWrapped_wf (a0 : _) (a1 : _) (a2 : State)  (hwf : a2.sram.wf = true) : (exportWrapped a0 a1 a2).s.sram.wf = true := by
  unfold exportWrapped
  repeat' first
    | with_reducible assumption
    | with_reducible apply onTyped_wf
    | with_reducible apply putOut_wf
    | with_reducible refine wf_of_same_sram (keyDone_sram _ _ ) ?_
    | with_reducible refine wf_of_same_sram (randomBytes_sram _ _ ) ?_
    | with_reducible refine wf_of_same_sram (countUses_sram _ _ ) ?_
    | with_reducible refine wf_of_same_sram (keyStop_sram _ _ ) ?_
    | with_reducible refine ite_keeps (P := fun s => s.sram.wf = true) _ ?_ ?_
    | with_reducible refine foldl_wf _ ?_ _ _ ?_
    | intro _
    | simp only [after_fault, after_denied, after_memory, after_next, after_goto, after_ends, after_waits, state_ends, state_waits]
    | split
theorem ite_answer {P : CmdResult → Prop} (c : Prop) [Decidable c] {a b : CmdResult} (ha : P a) (hb : P b) : P (if c then a else b) := by
  split
  · exact ha
  · exact hb
theorem passGroup_wf (a0 : Cmd → Target → State → CmdResult) (a1 : Nat) (a2 : State) (a3 : Cmd) (a4 : Nat) (ha0 : ∀ (y0 : Cmd) (y1 : Target) (y2 : State), y2.sram.wf = true → (a0 y0 y1 y2).s.sram.wf = true) (hwf : a2.sram.wf = true) : (passGroup a0 a1 a2 a3 a4).s.sram.wf = true := by
  induction a1 generalizing a2 a3 a4 with
  | zero => exact hwf
  | succ n ih =>
    unfold passGroup
    split
    · exact hwf
    · have own : ∀ (c : Prop) [Decidable c] (k : Cmd) (u : UnitId), (if c then ({ s := a2, st := stDone, reply := false } : CmdResult) else match u with
          | .group l => passGroup a0 n a2 k l
          | u => let r := a0 k (.unit u) a2
                 if r.reply then { r with s := noteStatus r.s u r.st } else r).s.sram.wf = true := fun c _ k u => by
        refine ite_answer (P := fun r => r.s.sram.wf = true) c hwf ?_
        split
        · exact ih _ _ _ hwf
        · refine ite_answer (P := fun r => r.s.sram.wf = true) _ ?_ (ha0 _ _ _ hwf)
          dsimp only; rw [noteStatus_sram]; exact ha0 _ _ _ hwf
      refine ite_answer (P := fun r => r.s.sram.wf = true) _ hwf ?_
      exact ite_answer (P := fun r => r.s.sram.wf = true) _ (own _ _ _) (own _ _ _)

theorem groupCommand_wf (a0 : _) (a1 : State) (a2 : _) (a3 : _) (ha0 : ∀ y0 y1 y2, y2.sram.wf = true → (a0 y0 y1 y2).s.sram.wf = true) (hwf : a1.sram.wf = true) : (groupCommand a0 a1 a2 a3).s.sram.wf = true := by
  unfold groupCommand
  repeat' first
    | with_reducible assumption
    | with_reducible apply passGroup_wf
    | with_reducible apply ownerOnly_wf
    | with_reducible apply ha0
    | with_reducible refine ite_keeps (P := fun s => s.sram.wf = true) _ ?_ ?_
    | with_reducible refine foldl_wf _ ?_ _ _ ?_
    | intro _
    | simp only [after_fault, after_denied, after_memory, after_next, after_goto, after_ends, after_waits, state_ends, state_waits]
    | split
theorem ownerCommand_wf (a0 : _) (a1 : _) (a2 : State) (a3 : _) (ha3 : ∀ y0, a2.sram.wf = true → (a3 y0).s.sram.wf = true) (hwf : a2.sram.wf = true) : (ownerCommand a0 a1 a2 a3).s.sram.wf = true := by
  unfold ownerCommand
  repeat' first
    | with_reducible assumption
    | with_reducible apply ownerOnly_wf
    | with_reducible apply onSuite_wf
    | with_reducible apply ha3
    | with_reducible refine wf_of_same_sram (refuse_sram _ _ ) ?_
    | with_reducible refine ite_keeps (P := fun s => s.sram.wf = true) _ ?_ ?_
    | with_reducible refine foldl_wf _ ?_ _ _ ?_
    | intro _
    | simp only [after_fault, after_denied, after_memory, after_next, after_goto, after_ends, after_waits, state_ends, state_waits]
    | split
theorem holdMaxTimeout_wf (a0 : State) (a1 : _)  (hwf : a0.sram.wf = true) : (holdMaxTimeout a0 a1).sram.wf = true := by
  unfold holdMaxTimeout
  repeat' first
    | with_reducible assumption
    | with_reducible apply enterStop_wf
    | with_reducible refine ite_keeps (P := fun s => s.sram.wf = true) _ ?_ ?_
    | with_reducible refine foldl_wf _ ?_ _ _ ?_
    | intro _
    | simp only [after_fault, after_denied, after_memory, after_next, after_goto, after_ends, after_waits, state_ends, state_waits]
    | split
theorem withBuffer_wf (a0 : _) (a1 : _) (a2 : State) (a3 : _) (ha3 : ∀ y0 y1, y1.sram.wf = true → (a3 y0 y1).s.sram.wf = true) (hwf : a2.sram.wf = true) : (withBuffer a0 a1 a2 a3).s.sram.wf = true := by
  unfold withBuffer
  repeat' first
    | with_reducible assumption
    | with_reducible apply meetError_wf
    | with_reducible apply correctErrors_wf
    | with_reducible apply ha3
    | with_reducible refine wf_of_same_sram (countThreshold_sram _ _ ) ?_
    | with_reducible refine wf_of_same_sram (keyStop_sram _ _ ) ?_
    | with_reducible refine ite_keeps (P := fun s => s.sram.wf = true) _ ?_ ?_
    | with_reducible refine foldl_wf _ ?_ _ _ ?_
    | intro _
    | simp only [after_fault, after_denied, after_memory, after_next, after_goto, after_ends, after_waits, state_ends, state_waits]
    | split
theorem importWrapped_wf (a0 : _) (a1 : _) (a2 : _) (a3 : State)  (hwf : a3.sram.wf = true) : (importWrapped a0 a1 a2 a3).s.sram.wf = true := by
  unfold importWrapped
  repeat' first
    | with_reducible assumption
    | with_reducible apply withBuffer_wf
    | with_reducible refine wf_of_same_sram (createKey_sram _ _ _ _ ) ?_
    | with_reducible refine wf_of_same_sram (keyStop_sram _ _ ) ?_
    | with_reducible refine ite_keeps (P := fun s => s.sram.wf = true) _ ?_ ?_
    | with_reducible refine foldl_wf _ ?_ _ _ ?_
    | intro _
    | simp only [after_fault, after_denied, after_memory, after_next, after_goto, after_ends, after_waits, state_ends, state_waits]
    | split
theorem keyAgree_wf (a0 : KeyReq) (a1 : State)  (hwf : a1.sram.wf = true) : (keyAgree a0 a1).s.sram.wf = true := by
  unfold keyAgree
  refine onTyped_wf _ _ _ _ (fun k h => ?_) hwf
  dsimp only
  generalize (if attrType (keyAt a1 k).attr = 4 then 97 else 1088) = len
  split
  · rw [keyStop_sram]; exact h
  · split
    · rw [keyStop_sram]; exact h
    · refine withBuffer_wf _ _ _ _ (fun p s h => ?_) h
      split
      · rw [keyStop_sram]; exact h
      · rw [createKey_sram]; exact h

theorem onParent_wf (a0 : State) (a1 : _) (a2 : _) (ha2 : ∀ y0, a0.sram.wf = true → (a2 y0).s.sram.wf = true) (hwf : a0.sram.wf = true) : (onParent a0 a1 a2).s.sram.wf = true := by
  unfold onParent
  repeat' first
    | with_reducible assumption
    | with_reducible apply onKey_wf
    | with_reducible apply ha2
    | with_reducible refine wf_of_same_sram (keyStop_sram _ _ ) ?_
    | with_reducible refine ite_keeps (P := fun s => s.sram.wf = true) _ ?_ ?_
    | with_reducible refine foldl_wf _ ?_ _ _ ?_
    | intro _
    | simp only [after_fault, after_denied, after_memory, after_next, after_goto, after_ends, after_waits, state_ends, state_waits]
    | split
theorem keyDerive_wf (a0 : _) (a1 : State)  (hwf : a1.sram.wf = true) : (keyDerive a0 a1).s.sram.wf = true := by
  unfold keyDerive
  repeat' first
    | with_reducible assumption
    | with_reducible apply withBuffer_wf
    | with_reducible apply onParent_wf
    | with_reducible refine wf_of_same_sram (countUses_sram _ _ ) ?_
    | with_reducible refine wf_of_same_sram (createKey_sram _ _ _ _ ) ?_
    | with_reducible refine wf_of_same_sram (keyStop_sram _ _ ) ?_
    | with_reducible refine ite_keeps (P := fun s => s.sram.wf = true) _ ?_ ?_
    | with_reducible refine foldl_wf _ ?_ _ _ ?_
    | intro _
    | simp only [after_fault, after_denied, after_memory, after_next, after_goto, after_ends, after_waits, state_ends, state_waits]
    | split
theorem keyExport_wf (r : KeyReq) (s : State)  (h : s.sram.wf = true) : (keyExport r s).s.sram.wf = true := by
  unfold keyExport onKey
  split
  · exact h
  · dsimp only; split
    · exact exportPublic_wf _ _ _ h
    · split
      · exact h
      · exact exportWrapped_wf _ _ _ h

theorem keyImport_wf (a0 : _) (a1 : State)  (hwf : a1.sram.wf = true) : (keyImport a0 a1).s.sram.wf = true := by
  unfold keyImport
  repeat' first
    | with_reducible assumption
    | with_reducible apply withBuffer_wf
    | with_reducible apply onTyped_wf
    | with_reducible apply importWrapped_wf
    | with_reducible apply onParent_wf
    | with_reducible refine wf_of_same_sram (createKey_sram _ _ _ _ ) ?_
    | with_reducible refine wf_of_same_sram (keyStop_sram _ _ ) ?_
    | with_reducible refine ite_keeps (P := fun s => s.sram.wf = true) _ ?_ ?_
    | with_reducible refine foldl_wf _ ?_ _ _ ?_
    | intro _
    | simp only [after_fault, after_denied, after_memory, after_next, after_goto, after_ends, after_waits, state_ends, state_waits]
    | split
theorem keyInfo_wf (a0 : _) (a1 : State)  (hwf : a1.sram.wf = true) : (keyInfo a0 a1).s.sram.wf = true := by
  unfold keyInfo
  repeat' first
    | with_reducible assumption
    | with_reducible apply putOut_wf
    | with_reducible apply onKey_wf
    | with_reducible refine wf_of_same_sram (keyDone_sram _ _ ) ?_
    | with_reducible refine ite_keeps (P := fun s => s.sram.wf = true) _ ?_ ?_
    | with_reducible refine foldl_wf _ ?_ _ _ ?_
    | intro _
    | simp only [after_fault, after_denied, after_memory, after_next, after_goto, after_ends, after_waits, state_ends, state_waits]
    | split
theorem keyOpen_wf (a0 : _) (a1 : State)  (hwf : a1.sram.wf = true) : (keyOpen a0 a1).s.sram.wf = true := by
  unfold keyOpen
  repeat' first
    | with_reducible assumption
    | with_reducible apply withBuffer_wf
    | with_reducible apply onTyped_wf
    | with_reducible apply putOut_wf
    | with_reducible refine wf_of_same_sram (keyDone_sram _ _ ) ?_
    | with_reducible refine wf_of_same_sram (countUses_sram _ _ ) ?_
    | with_reducible refine wf_of_same_sram (keyStop_sram _ _ ) ?_
    | with_reducible refine ite_keeps (P := fun s => s.sram.wf = true) _ ?_ ?_
    | with_reducible refine foldl_wf _ ?_ _ _ ?_
    | intro _
    | simp only [after_fault, after_denied, after_memory, after_next, after_goto, after_ends, after_waits, state_ends, state_waits]
    | split
theorem keySeal_wf (a0 : _) (a1 : State)  (hwf : a1.sram.wf = true) : (keySeal a0 a1).s.sram.wf = true := by
  unfold keySeal
  repeat' first
    | with_reducible assumption
    | with_reducible apply withBuffer_wf
    | with_reducible apply onTyped_wf
    | with_reducible apply putOut_wf
    | with_reducible refine wf_of_same_sram (keyDone_sram _ _ ) ?_
    | with_reducible refine wf_of_same_sram (countUses_sram _ _ ) ?_
    | with_reducible refine wf_of_same_sram (keyStop_sram _ _ ) ?_
    | with_reducible refine ite_keeps (P := fun s => s.sram.wf = true) _ ?_ ?_
    | with_reducible refine foldl_wf _ ?_ _ _ ?_
    | intro _
    | simp only [after_fault, after_denied, after_memory, after_next, after_goto, after_ends, after_waits, state_ends, state_waits]
    | split
theorem keySign_wf (a0 : KeyReq) (a1 : State)  (hwf : a1.sram.wf = true) : (keySign a0 a1).s.sram.wf = true := by
  unfold keySign
  refine onKey_wf _ _ _ (fun k h => ?_) hwf
  dsimp only
  split
  · rw [keyStop_sram]; exact h
  · split
    · rw [keyStop_sram]; exact h
    · refine withBuffer_wf _ _ _ _ (fun p s h => ?_) h
      exact putOut_wf _ _ _ _ (fun s h => by rw [keyDone_sram]; exact h) h

theorem keyVerify_wf (a0 : _) (a1 : State)  (hwf : a1.sram.wf = true) : (keyVerify a0 a1).s.sram.wf = true := by
  unfold keyVerify
  repeat' first
    | with_reducible assumption
    | with_reducible apply withBuffer_wf
    | with_reducible apply onTyped_wf
    | with_reducible refine wf_of_same_sram (keyDone_sram _ _ ) ?_
    | with_reducible refine wf_of_same_sram (countUses_sram _ _ ) ?_
    | with_reducible refine wf_of_same_sram (keyStop_sram _ _ ) ?_
    | with_reducible refine ite_keeps (P := fun s => s.sram.wf = true) _ ?_ ?_
    | with_reducible refine foldl_wf _ ?_ _ _ ?_
    | intro _
    | simp only [after_fault, after_denied, after_memory, after_next, after_goto, after_ends, after_waits, state_ends, state_waits]
    | split
theorem takeOver_wf (a0 : State)  (hwf : a0.sram.wf = true) : (takeOver a0).sram.wf = true := by
  have h1 : ∀ l : List Prepared, (l.foldl (applyPrepared (fun _ _ s => s)) a0).sram.wf = true := fun l => foldl_wf _ (fun s b h => applyPrepared_wf _ _ _ (fun _ _ _ h => h) h) _ _ hwf
  have h2 : ∀ s (f : Twin → Twin), s.sram.wf = true → (becomeActive (setTwin s f)).sram.wf = true := fun s f h => by rw [becomeActive_sram]; exact h
  have h3 : ∀ (c : Prop) [Decidable c] (s : State) (l : List (Nat × Task)), s.sram.wf = true → (if c then l.foldl (fun s e => markStale s e.1) s else s).sram.wf = true :=
    fun c _ s l h => ite_keeps (P := fun s => s.sram.wf = true) c (foldl_wf _ (fun s b h => by rw [markStale_sram]; exact h) _ _ h) h
  unfold takeOver
  rw [raiseEvent_sram]
  exact foldl_wf _ (fun s b h => cleanWindow_wf _ _ _ h) _ _ (h3 _ _ _ (foldl_wf _ (fun s b h => by rw [takeOverTask_sram]; exact h) _ _ (h2 _ _ (h1 _))))

theorem partnerFailed_wf (s : State)  (h : s.sram.wf = true) : (partnerFailed s).sram.wf = true := by
  unfold partnerFailed
  extract_lets u s1
  have h1 : s1.sram.wf = true := h
  clear_value s1
  split
  · refine ite_keeps (P := fun s => s.sram.wf = true) _ h1 (ite_keeps (P := fun s => s.sram.wf = true) _ (takeOver_wf _ h1) ?_)
    rw [raiseEvent_sram, setTwin_sram]; exact h1
  · rw [setTwin_sram]; exact h1
  · exact h1

theorem killPath_wf (a0 : _) (a1 : State)  (hwf : a1.sram.wf = true) : (killPath a0 a1).sram.wf = true := by
  unfold killPath
  repeat' first
    | with_reducible assumption
    | with_reducible apply partnerFailed_wf
    | with_reducible refine wf_of_same_sram (raiseEvent_sram _ _ _ _ _ _ ) ?_
    | with_reducible refine wf_of_same_sram (setPath_sram _ _ _ ) ?_
    | with_reducible refine ite_keeps (P := fun s => s.sram.wf = true) _ ?_ ?_
    | with_reducible refine foldl_wf _ ?_ _ _ ?_
    | intro _
    | simp only [after_fault, after_denied, after_memory, after_next, after_goto, after_ends, after_waits, state_ends, state_waits]
    | split
theorem reanalyseTask_wf (a0 : State) (a1 : _)  (hwf : a0.sram.wf = true) : (reanalyseTask a0 a1).1.sram.wf = true := by
  unfold reanalyseTask
  repeat' first
    | with_reducible assumption
    | with_reducible apply meetError_wf
    | with_reducible refine wf_of_same_sram (setTask_sram _ _ _ ) ?_
    | with_reducible refine ite_keeps (P := fun s => s.sram.wf = true) _ ?_ ?_
    | with_reducible refine foldl_wf _ ?_ _ _ ?_
    | intro _
    | simp only [after_fault, after_denied, after_memory, after_next, after_goto, after_ends, after_waits, state_ends, state_waits]
    | split
theorem reanalyse_wf (a0 : State) (a1 : _)  (hwf : a0.sram.wf = true) : (reanalyse a0 a1).1.sram.wf = true := by
  unfold reanalyse
  try dsimp only
  repeat' first
    | with_reducible assumption
    | (intro _ _; with_reducible assumption)
    | (simp; done)
    | (with_reducible refine foldl_wf _ ?_ _ _ ?_ <;> (try intros) <;> (try dsimp only))
    | (with_reducible refine foldl_fst_wf _ ?_ _ _ ?_ <;> (try intros) <;> (try dsimp only))
    | (apply reanalyseTask_wf <;> intros <;> (try with_reducible assumption) <;> (try dsimp only))
    | (rw [dataFault_after (by assumption)]; with_reducible assumption)
    | (rw [blockFault_after (by assumption)]; with_reducible assumption)
    | (rw [memoryFault_after (by assumption)]; with_reducible assumption)
    | simp only [after_fault, after_denied, after_memory, after_next, after_goto, after_ends, after_waits, state_ends, state_waits]
    | split
    | simp
    | (intros; dsimp only)

theorem reloadTenant_wf (a0 : State) (a1 : _)  (hwf : a0.sram.wf = true) : (reloadTenant a0 a1).sram.wf = true := by
  unfold reloadTenant
  repeat' first
    | with_reducible assumption
    | with_reducible apply copyImage_wf
    | with_reducible apply reanalyse_wf
    | with_reducible refine wf_of_same_sram (tellOutcome_sram _ _ _ _ ) ?_
    | with_reducible refine wf_of_same_sram (setUpdate_sram _ _ _ _ ) ?_
    | with_reducible refine ite_keeps (P := fun s => s.sram.wf = true) _ ?_ ?_
    | with_reducible refine foldl_wf _ ?_ _ _ ?_
    | intro _
    | simp only [after_fault, after_denied, after_memory, after_next, after_goto, after_ends, after_waits, state_ends, state_waits]
    | split
theorem liftFence_wf (a0 : _) (a1 : State)  (hwf : a1.sram.wf = true) : (liftFence a0 a1).sram.wf = true := by
  unfold liftFence
  repeat' first
    | with_reducible assumption
    | with_reducible apply reloadTenant_wf
    | with_reducible refine wf_of_same_sram (setUnitStat_sram _ _ _ ) ?_
    | with_reducible refine wf_of_same_sram (setSuite_sram _ _ _ ) ?_
    | with_reducible refine wf_of_same_sram (zeroPoints_sram _ _ ) ?_
    | with_reducible refine wf_of_same_sram (liftQueue_sram _ _ ) ?_
    | with_reducible refine wf_of_same_sram (restartTask_sram _ _ _ ) ?_
    | with_reducible refine ite_keeps (P := fun s => s.sram.wf = true) _ ?_ ?_
    | with_reducible refine foldl_wf _ ?_ _ _ ?_
    | intro _
    | simp only [after_fault, after_denied, after_memory, after_next, after_goto, after_ends, after_waits, state_ends, state_waits]
    | split
theorem loadTap_wf (a0 : State) (a1 : _)  (hwf : a0.sram.wf = true) : (loadTap a0 a1).sram.wf = true := by
  unfold loadTap
  repeat' first
    | with_reducible assumption
    | with_reducible apply requestReset_wf
    | with_reducible apply resetModule_wf
    | with_reducible refine ite_keeps (P := fun s => s.sram.wf = true) _ ?_ ?_
    | with_reducible refine foldl_wf _ ?_ _ _ ?_
    | intro _
    | simp only [after_fault, after_denied, after_memory, after_next, after_goto, after_ends, after_waits, state_ends, state_waits]
    | split
theorem modeCommand_wf (a0 : State) (a1 : _) (a2 : _) (ha2 : ∀ y0 y1, y0.sram.wf = true → (a2 y0 y1).1.sram.wf = true) (hwf : a0.sram.wf = true) : (modeCommand a0 a1 a2).s.sram.wf = true := by
  have h := foldl_fst_wf (fun (acc : State × Bool) c => (⟨(a2 acc.1 c).1, acc.2 || (a2 acc.1 c).2⟩ : State × Bool)) (fun p b h => ha2 _ _ h) a1 (a0, false) hwf
  unfold modeCommand; extract_lets r
  split
  · exact h
  · exact wf_of_same_sram (refuse_sram _ _) hwf
theorem onPacket_wf (a0 : _) (a1 : _) (a2 : State) (a3 : _) (bb : State) (hbb : bb.sram.wf = true) (hwf : a2.sram.wf = true) : ((onPacket a0 a1 a2 a3).after bb).sram.wf = true := by
  unfold onPacket
  repeat' first
    | with_reducible assumption
    | with_reducible apply answer_wf
    | with_reducible apply hbb
    | with_reducible refine ite_keeps (P := fun s => s.sram.wf = true) _ ?_ ?_
    | with_reducible refine foldl_wf _ ?_ _ _ ?_
    | intro _
    | simp only [after_fault, after_denied, after_memory, after_next, after_goto, after_ends, after_waits, state_ends, state_waits]
    | split
theorem onQueue_wf (a0 : _) (a1 : _) (a2 : State) (a3 : _) (ha3 : ∀ y0, a2.sram.wf = true → (a3 y0).s.sram.wf = true) (hwf : a2.sram.wf = true) : (onQueue a0 a1 a2 a3).s.sram.wf = true := by
  unfold onQueue
  repeat' first
    | with_reducible assumption
    | with_reducible apply ownerOnly_wf
    | with_reducible apply onUnit_wf
    | with_reducible apply ha3
    | with_reducible refine wf_of_same_sram (refuse_sram _ _ ) ?_
    | with_reducible refine ite_keeps (P := fun s => s.sram.wf = true) _ ?_ ?_
    | with_reducible refine foldl_wf _ ?_ _ _ ?_
    | intro _
    | simp only [after_fault, after_denied, after_memory, after_next, after_goto, after_ends, after_waits, state_ends, state_waits]
    | split
theorem openLoop_wf (a0 : _) (a1 : State) (a2 : _) (bb : State) (hbb : bb.sram.wf = true) (hwf : a1.sram.wf = true) : ((openLoop a0 a1 a2).after bb).sram.wf = true := by
  unfold openLoop
  repeat' first
    | with_reducible assumption
    | with_reducible apply hbb
    | with_reducible refine ite_keeps (P := fun s => s.sram.wf = true) _ ?_ ?_
    | with_reducible refine foldl_wf _ ?_ _ _ ?_
    | intro _
    | simp only [after_fault, after_denied, after_memory, after_next, after_goto, after_ends, after_waits, state_ends, state_waits]
    | split
theorem openPacket_wf (a0 : _) (a1 : _) (a2 : State) (a3 : _) (bb : State) (hbb : bb.sram.wf = true) (hwf : a2.sram.wf = true) : ((openPacket a0 a1 a2 a3).after bb).sram.wf = true := by
  unfold openPacket
  repeat' first
    | with_reducible assumption
    | with_reducible apply answer_wf
    | with_reducible apply deviceFault_wf
    | with_reducible apply hbb
    | with_reducible refine wf_of_same_sram (setQueue_sram _ _ _ ) ?_
    | with_reducible refine wf_of_same_sram (markWaiting_sram _ _ _ ) ?_
    | with_reducible refine ite_keeps (P := fun s => s.sram.wf = true) _ ?_ ?_
    | with_reducible refine foldl_wf _ ?_ _ _ ?_
    | intro _
    | simp only [after_fault, after_denied, after_memory, after_next, after_goto, after_ends, after_waits, state_ends, state_waits]
    | split
theorem orderStop_wf (a0 : State) (a1 : _)  (hwf : a0.sram.wf = true) : (orderStop a0 a1).1.sram.wf = true := by
  unfold orderStop
  repeat' first
    | with_reducible assumption
    | with_reducible apply enterStop_wf
    | with_reducible refine wf_of_same_sram (setTask_sram _ _ _ ) ?_
    | with_reducible refine ite_keeps (P := fun s => s.sram.wf = true) _ ?_ ?_
    | with_reducible refine foldl_wf _ ?_ _ _ ?_
    | intro _
    | simp only [after_fault, after_denied, after_memory, after_next, after_goto, after_ends, after_waits, state_ends, state_waits]
    | split
theorem ownerOrBuilding_wf (a0 : State) (a1 : _) (a2 : _) (a3 : _) (ha3 : a3.s.sram.wf = true) (hwf : a0.sram.wf = true) : (ownerOrBuilding a0 a1 a2 a3).s.sram.wf = true := by
  unfold ownerOrBuilding
  repeat' first
    | with_reducible assumption
    | with_reducible apply ha3
    | with_reducible refine wf_of_same_sram (refuseOwner_sram _ _ _ ) ?_
    | with_reducible refine ite_keeps (P := fun s => s.sram.wf = true) _ ?_ ?_
    | with_reducible refine foldl_wf _ ?_ _ _ ?_
    | intro _
    | simp only [after_fault, after_denied, after_memory, after_next, after_goto, after_ends, after_waits, state_ends, state_waits]
    | split
theorem pairCommand_wf (a0 : _) (a1 : _) (a2 : State) (a3 : _) (ha3 : a3.s.sram.wf = true) (hwf : a2.sram.wf = true) : (pairCommand a0 a1 a2 a3).s.sram.wf = true := by
  unfold pairCommand
  repeat' first
    | with_reducible assumption
    | with_reducible apply ownerOnly_wf
    | with_reducible apply onUnit_wf
    | with_reducible apply ha3
    | with_reducible refine wf_of_same_sram (refuse_sram _ _ ) ?_
    | with_reducible refine ite_keeps (P := fun s => s.sram.wf = true) _ ?_ ?_
    | with_reducible refine foldl_wf _ ?_ _ _ ?_
    | intro _
    | simp only [after_fault, after_denied, after_memory, after_next, after_goto, after_ends, after_waits, state_ends, state_waits]
    | split
theorem postKey_wf (a0 : _) (a1 : _) (a2 : _) (a3 : State) (a4 : _) (bb : State) (hbb : bb.sram.wf = true) (hwf : a3.sram.wf = true) : ((postKey a0 a1 a2 a3 a4).after bb).sram.wf = true := by
  unfold postKey
  repeat' first
    | with_reducible assumption
    | (rw [dataFault_after (by assumption)]; with_reducible assumption)
    | (rw [blockFault_after (by assumption)]; with_reducible assumption)
    | (rw [memoryFault_after (by assumption)]; with_reducible assumption)
    | with_reducible apply deviceFault_wf
    | with_reducible apply correctErrors_wf
    | with_reducible apply postRequest_wf
    | with_reducible apply hbb
    | (simp only [after_fault, after_denied, after_memory, after_next, after_goto, after_ends, after_waits, state_ends, state_waits]; with_reducible assumption)
    | with_reducible refine ite_keeps (P := fun s => s.sram.wf = true) _ ?_ ?_
    | with_reducible refine foldl_wf _ ?_ _ _ ?_
    | intro _
    | split
    | simp
theorem postOnline_wf (a0 : State) (a1 : _) (a2 : _) (a3 : _) (a4 : _)  (hwf : a0.sram.wf = true) : (postOnline a0 a1 a2 a3 a4).s.sram.wf = true := by
  unfold postOnline
  repeat' first
    | with_reducible assumption
    | with_reducible apply applyOnline_wf
    | with_reducible refine wf_of_same_sram (setTask_sram _ _ _ ) ?_
    | with_reducible refine ite_keeps (P := fun s => s.sram.wf = true) _ ?_ ?_
    | with_reducible refine foldl_wf _ ?_ _ _ ?_
    | intro _
    | simp only [after_fault, after_denied, after_memory, after_next, after_goto, after_ends, after_waits, state_ends, state_waits]
    | split
theorem preparedDue_wf (a0 : _) (a1 : _) (a2 : State)  (hwf : a2.sram.wf = true) : (preparedDue a0 a1 a2).sram.wf = true := by
  unfold preparedDue
  repeat' first
    | with_reducible assumption
    | with_reducible apply applyPrepared_wf
    | with_reducible refine ite_keeps (P := fun s => s.sram.wf = true) _ ?_ ?_
    | with_reducible refine foldl_wf _ ?_ _ _ ?_
    | intro _
    | simp only [after_fault, after_denied, after_memory, after_next, after_goto, after_ends, after_waits, state_ends, state_waits]
    | split
theorem readItem_wf (a0 : _) (a1 : _) (a2 : State) (a3 : _) (bb : State) (hbb : bb.sram.wf = true) (hwf : a2.sram.wf = true) : ((readItem a0 a1 a2 a3).after bb).sram.wf = true := by
  unfold readItem
  repeat' first
    | with_reducible assumption
    | with_reducible apply deviceFault_wf
    | with_reducible apply hbb
    | with_reducible refine ite_keeps (P := fun s => s.sram.wf = true) _ ?_ ?_
    | with_reducible refine foldl_wf _ ?_ _ _ ?_
    | intro _
    | simp only [after_fault, after_denied, after_memory, after_next, after_goto, after_ends, after_waits, state_ends, state_waits]
    | split
theorem readPoint_wf (a0 : FmtI) (a1 : Bool) (a2 : Env) (a3 : State) (a4 : Ctx) (bb : State) (hbb : bb.sram.wf = true) (hwf : a3.sram.wf = true) : ((readPoint a0 a1 a2 a3 a4).after bb).sram.wf = true := by
  unfold readPoint pointFault
  dsimp only
  repeat' first
    | exact hwf
    | exact hbb
    | (rename_i h; cases h)
    | split at *

theorem refclkTick_wf (a0 : State)  (hwf : a0.sram.wf = true) : (refclkTick a0).sram.wf = true := by
  unfold refclkTick
  repeat' first
    | with_reducible assumption
    | with_reducible apply beginReset_wf
    | with_reducible refine wf_of_same_sram (switchLatches_sram _ ) ?_
    | with_reducible refine wf_of_same_sram (advanceCopies_sram _ ) ?_
    | with_reducible refine wf_of_same_sram (judgeQueues_sram _ ) ?_
    | with_reducible refine wf_of_same_sram (trimTick_sram _ ) ?_
    | with_reducible refine ite_keeps (P := fun s => s.sram.wf = true) _ ?_ ?_
    | with_reducible refine foldl_wf _ ?_ _ _ ?_
    | intro _
    | simp only [after_fault, after_denied, after_memory, after_next, after_goto, after_ends, after_waits, state_ends, state_waits]
    | split
theorem releasePacket_wf (a0 : _) (a1 : _) (a2 : State) (a3 : _) (bb : State) (hbb : bb.sram.wf = true) (hwf : a2.sram.wf = true) : ((releasePacket a0 a1 a2 a3).after bb).sram.wf = true := by
  unfold releasePacket
  repeat' first
    | with_reducible assumption
    | with_reducible apply answer_wf
    | with_reducible apply deviceFault_wf
    | with_reducible apply hbb
    | with_reducible refine wf_of_same_sram (enterItem_sram _ _ _ ) ?_
    | with_reducible refine wf_of_same_sram (stage_sram _ _ _ ) ?_
    | with_reducible refine ite_keeps (P := fun s => s.sram.wf = true) _ ?_ ?_
    | with_reducible refine foldl_wf _ ?_ _ _ ?_
    | intro _
    | simp only [after_fault, after_denied, after_memory, after_next, after_goto, after_ends, after_waits, state_ends, state_waits]
    | split
theorem replayJournal_wf (a0 : State) (a1 : _)  (hwf : a0.sram.wf = true) : (replayJournal a0 a1).sram.wf = true := by
  unfold replayJournal
  repeat' first
    | with_reducible assumption
    | with_reducible apply replayRetain_wf
    | with_reducible refine wf_of_same_sram (replayPoints_sram _ ) ?_
    | with_reducible refine ite_keeps (P := fun s => s.sram.wf = true) _ ?_ ?_
    | with_reducible refine foldl_wf _ ?_ _ _ ?_
    | intro _
    | simp only [after_fault, after_denied, after_memory, after_next, after_goto, after_ends, after_waits, state_ends, state_waits]
    | split
theorem resetCommand_wf (a0 : _) (a1 : _) (a2 : State)  (hwf : a2.sram.wf = true) : (resetCommand a0 a1 a2).s.sram.wf = true := by
  unfold resetCommand
  repeat' first
    | with_reducible assumption
    | with_reducible apply resetSuite_wf
    | with_reducible apply ownerOrBuilding_wf
    | with_reducible apply onSuite_wf
    | with_reducible refine wf_of_same_sram (refuse_sram _ _ ) ?_
    | with_reducible refine ite_keeps (P := fun s => s.sram.wf = true) _ ?_ ?_
    | with_reducible refine foldl_wf _ ?_ _ _ ?_
    | intro _
    | simp only [after_fault, after_denied, after_memory, after_next, after_goto, after_ends, after_waits, state_ends, state_waits]
    | split
theorem settle_wf (e : Env) (s : State) (ends : State → Nat → State) (d : Did) (he : ∀ t c, t.sram.wf = true → (ends t c).sram.wf = true)
    (hd : ∀ b, b.sram.wf = true → (d.after b).sram.wf = true) (h : s.sram.wf = true) : (settle e s ends d).sram.wf = true := by
  have hd := hd s h
  cases d with
  | fault cls r addr => exact takeFault_wf _ _ _ _ _ _ _ h
  | denied r => exact takeFault_wf _ _ _ _ _ _ _ (by rw [countThreshold_sram]; exact h)
  | memory addr a => exact meetError_wf _ _ _ (takeFault_wf _ _ _ _ _ _ _ h)
  | next t x => exact hd
  | goto t x pc => exact hd
  | ends t x => exact he _ _ hd
  | waits t => exact hd

theorem runInsn_wf {k : Nat} {w : BitVec 32} {act : Env → State → Ctx → Did} {s : State}
    (ha : ∀ e s x, s.sram.wf = true → ∀ b, b.sram.wf = true → ((act e s x).after b).sram.wf = true) (h : s.sram.wf = true) : (runInsn k w act s).sram.wf = true := by
  have he : ∀ t c, t.sram.wf = true → (endOf t c).sram.wf = true := fun t c h => by rw [endOf_sram]; exact h
  unfold runInsn
  split
  · exact h
  · rename_i c _
    extract_lets x e s1
    have h1 : s1.sram.wf = true := correctErrors_wf _ _ _ h
    split
    · rename_i d hd
      refine settle_wf _ _ _ _ he (fun b hb => ?_) h
      unfold fetchFault at hd
      split at hd
      · cases hd; exact hb
      · split at hd
        · cases hd; exact hb
        · cases hd
    · refine ite_keeps (P := fun s => s.sram.wf = true) _ (settle_wf _ _ _ _ he (fun b hb => hb) h1) ?_
      split
      · exact settle_wf _ _ _ _ he (fun b hb => hb) h1
      · refine ite_keeps (P := fun s => s.sram.wf = true) _ (settle_wf _ _ _ _ he (fun b hb => hb) h1) (settle_wf _ _ _ _ he (fun b hb => ha _ _ _ h1 b hb) h1)

theorem scrubByte_wf (a0 : State) (a1 : Nat) (a2 : Bool)  (hwf : a0.sram.wf = true) : (scrubByte a0 a1 a2).sram.wf = true := by
  have h : ∀ x, ({ a0.sram with errors := tset 0 a0.sram.errors a1 x } : Sram).wf = true := fun x => setErrors_wf [a1] x hwf
  unfold scrubByte
  split
  · exact hwf
  · split
    · exact meetError_wf _ _ _ (h 2)
    · exact h 0

theorem scrubSram_wf (a0 : State) (a1 : _) (a2 : _)  (hwf : a0.sram.wf = true) : (scrubSram a0 a1 a2).sram.wf = true := by
  unfold scrubSram
  repeat' first
    | with_reducible assumption
    | with_reducible apply scrubByte_wf
    | with_reducible refine ite_keeps (P := fun s => s.sram.wf = true) _ ?_ ?_
    | with_reducible refine foldl_wf _ ?_ _ _ ?_
    | intro _
    | simp only [after_fault, after_denied, after_memory, after_next, after_goto, after_ends, after_waits, state_ends, state_waits]
    | split
theorem scrub_wf (a0 : State) (a1 : _)  (hwf : a0.sram.wf = true) : (scrub a0 a1).sram.wf = true := by
  unfold scrub
  repeat' first
    | with_reducible assumption
    | with_reducible apply scrubSram_wf
    | with_reducible refine wf_of_same_sram (scrubRing_sram _ _ _ ) ?_
    | with_reducible refine wf_of_same_sram (nextLine_sram _ ) ?_
    | with_reducible refine ite_keeps (P := fun s => s.sram.wf = true) _ ?_ ?_
    | with_reducible refine foldl_wf _ ?_ _ _ ?_
    | intro _
    | simp only [after_fault, after_denied, after_memory, after_next, after_goto, after_ends, after_waits, state_ends, state_waits]
    | split
theorem serveCfg_wf (a0 : Nat) (a1 : CfgReq → Bool) (a2 : CfgReq → State → CfgOut) (a3 : State) (ha2 : ∀ (y0 : CfgReq) (y1 : State), y1.sram.wf = true → (a2 y0 y1).state.sram.wf = true) (hwf : a3.sram.wf = true) : (serveCfg a0 a1 a2 a3).sram.wf = true := by
  unfold serveCfg
  split
  · exact hwf
  · rename_i r _
    dsimp only
    split
    · exact hwf
    · split
      · simpa using hwf
      · have := ha2 r (takeRequest a3 r) (by simpa using hwf)
        split <;> rename_i h <;> rw [h] at this <;> simpa using this

theorem serveKey_wf (a0 : _) (a1 : _) (a2 : _) (a3 : State) (ha2 : ∀ y0 y1, y1.sram.wf = true → (a2 y0 y1).s.sram.wf = true) (hwf : a3.sram.wf = true) : (serveKey a0 a1 a2 a3).sram.wf = true := by
  unfold serveKey
  repeat' first
    | with_reducible assumption
    | with_reducible apply ha2
    | with_reducible refine wf_of_same_sram (countUses_sram _ _ ) ?_
    | with_reducible refine wf_of_same_sram (completeKey_sram _ _ _ _ ) ?_
    | with_reducible refine wf_of_same_sram (keyStop_sram _ _ ) ?_
    | with_reducible refine wf_of_same_sram (mirrorChanges_sram1 _ _ _ ) ?_
    | with_reducible refine ite_keeps (P := fun s => s.sram.wf = true) _ ?_ ?_
    | with_reducible refine foldl_wf _ ?_ _ _ ?_
    | intro _
    | simp only [after_fault, after_denied, after_memory, after_next, after_goto, after_ends, after_waits, state_ends, state_waits]
    | split
theorem setConst_wf (a0 : _) (a1 : _) (a2 : State)  (hwf : a2.sram.wf = true) : (setConst a0 a1 a2).s.sram.wf = true := by
  unfold setConst
  repeat' first
    | with_reducible assumption
    | with_reducible apply onTasks_wf
    | with_reducible apply postOnline_wf
    | with_reducible refine wf_of_same_sram (refuse_sram _ _ ) ?_
    | with_reducible refine ite_keeps (P := fun s => s.sram.wf = true) _ ?_ ?_
    | with_reducible refine foldl_wf _ ?_ _ _ ?_
    | intro _
    | simp only [after_fault, after_denied, after_memory, after_next, after_goto, after_ends, after_waits, state_ends, state_waits]
    | split
theorem setValue_wf (a0 : _) (a1 : _) (a2 : State)  (hwf : a2.sram.wf = true) : (setValue a0 a1 a2).s.sram.wf = true := by
  unfold setValue
  repeat' first
    | with_reducible assumption
    | with_reducible apply onTasks_wf
    | with_reducible apply postOnline_wf
    | with_reducible refine wf_of_same_sram (refuse_sram _ _ ) ?_
    | with_reducible refine ite_keeps (P := fun s => s.sram.wf = true) _ ?_ ?_
    | with_reducible refine foldl_wf _ ?_ _ _ ?_
    | intro _
    | simp only [after_fault, after_denied, after_memory, after_next, after_goto, after_ends, after_waits, state_ends, state_waits]
    | split
theorem updateCommand_wf (a0 : _) (a1 : _) (a2 : State) (a3 : _) (ha3 : ∀ y0 y1, a2.sram.wf = true → (a3 y0 y1).s.sram.wf = true) (hwf : a2.sram.wf = true) : (updateCommand a0 a1 a2 a3).s.sram.wf = true := by
  unfold updateCommand
  repeat' first
    | with_reducible assumption
    | with_reducible apply ownerOnly_wf
    | with_reducible apply onUnit_wf
    | with_reducible apply ha3
    | with_reducible refine wf_of_same_sram (refuse_sram _ _ ) ?_
    | with_reducible refine ite_keeps (P := fun s => s.sram.wf = true) _ ?_ ?_
    | with_reducible refine foldl_wf _ ?_ _ _ ?_
    | intro _
    | simp only [after_fault, after_denied, after_memory, after_next, after_goto, after_ends, after_waits, state_ends, state_waits]
    | split
theorem unitCommand_wf (a0 : _) (a1 : _) (a2 : _) (a3 : _) (a4 : State) (ha3 : ∀ y0 y1 y2, y2.sram.wf = true → (a3 y0 y1 y2).s.sram.wf = true) (hwf : a4.sram.wf = true) : (unitCommand a0 a1 a2 a3 a4).sram.wf = true := by
  unfold unitCommand
  repeat' first
    | with_reducible assumption
    | with_reducible apply groupCommand_wf
    | with_reducible apply ha3
    | with_reducible refine wf_of_same_sram (readHead_sram _ _ ) ?_
    | with_reducible refine wf_of_same_sram (repeatReply_sram _ _ _ ) ?_
    | with_reducible refine wf_of_same_sram (takeCommand_sram _ _ ) ?_
    | with_reducible refine wf_of_same_sram (refuse_sram _ _ ) ?_
    | with_reducible refine wf_of_same_sram (finishCommand_sram _ _ _ ) ?_
    | with_reducible refine ite_keeps (P := fun s => s.sram.wf = true) _ ?_ ?_
    | with_reducible refine foldl_wf _ ?_ _ _ ?_
    | intro _
    | simp only [after_fault, after_denied, after_memory, after_next, after_goto, after_ends, after_waits, state_ends, state_waits]
    | split
theorem stagingCommand_wf (a0 : _) (a1 : _) (a2 : _) (a3 : State) (ha2 : ∀ y0 y1 y2 y3 y4, y2.sram.wf = true → (a2 y0 y1 y2 y3 y4).s.sram.wf = true) (hwf : a3.sram.wf = true) : (stagingCommand a0 a1 a2 a3).sram.wf = true := by
  unfold stagingCommand
  repeat' first
    | with_reducible assumption
    | with_reducible apply updateCommand_wf
    | with_reducible apply unitCommand_wf
    | with_reducible apply ha2
    | with_reducible refine wf_of_same_sram (bothMembers_sram _ _ _ ) ?_
    | with_reducible refine ite_keeps (P := fun s => s.sram.wf = true) _ ?_ ?_
    | with_reducible refine foldl_wf _ ?_ _ _ ?_
    | intro _
    | simp only [after_fault, after_denied, after_memory, after_next, after_goto, after_ends, after_waits, state_ends, state_waits]
    | split
theorem stallTimeout_wf (st l : Nat) (who : Requester) (s : State)  (h : s.sram.wf = true) : (stallTimeout st l who s).sram.wf = true := by
  have h1 : ∀ (c : Prop) [Decidable c] (x : List (Nat × Nat)), (if c then s else { s with lanesOut := x }).sram.wf = true :=
    fun c _ x => ite_keeps (P := fun s => s.sram.wf = true) c h h
  unfold stallTimeout
  exact ite_keeps (P := fun s => s.sram.wf = true) _ h (abandonRequest_wf _ _ (h1 _ _))

theorem startModule_wf (a0 : State) (a1 : Bool)  (hwf : a0.sram.wf = true) : (startModule a0 a1).sram.wf = true := by
  have h1 : ∀ s, s.sram.wf = true → (bootFoundation s).sram.wf = true := fun s h => bootFoundation_wf _ h
  unfold startModule
  extract_lets s1 s2 s3 s4 s5 s6
  have h5 : s5.sram.wf = true := by
    refine replayJournal_wf _ _ (h1 _ ?_)
    simp only [s4, setSuite_sram]
    refine ite_keeps (P := fun s => s.sram.wf = true) _ ?_ ?_
    · simp only [s2, s1, restoreCold_sram, setUpServices_sram, takeTamper_sram, restoreKeys_sram]; exact hwf
    · simp only [s2, s1, ensureRoot_sram, restoreCold_sram, setUpServices_sram, takeTamper_sram, restoreKeys_sram]; exact hwf
  simp only [startFoundation_sram, startUnits_sram, tellBackup_sram, tellOutcomes0_sram]
  exact h5

theorem bootFirmware_sram {s t : State} (h : bootFirmware s = some t) : t.sram = s.sram := by
  unfold bootFirmware at h
  dsimp only at h
  split at h
  · split at h
    · cases h; rfl
    · cases h; exact setUpdate_sram _ _ _ _
  · split at h
    · cases h; exact setUpdate_sram _ _ _ _
    · split at h
      · cases h; exact setUpdate_sram _ _ _ _
      · cases h
theorem startSequence_wf (b : BootEnv) (s : State)  (h : s.sram.wf = true) : (startSequence b s).sram.wf = true := by
  have h1 : ∀ s w, s.sram.wf = true → (match bootFirmware s with | none => enterRecovery s | some s => startModule s w).sram.wf = true := fun s w h => by
    split
    · rw [enterRecovery_sram]; exact h
    · rename_i t e
      exact startModule_wf _ _ (bootFirmware_sram e ▸ h)
  have h2 : ∀ s, s.sram.wf = true → (builtInTests b (settleFuses (endTrials s) b.reads)).sram.wf = true := fun s h => by
    rw [builtInTests_sram, settleFuses_sram, endTrials_sram]; exact h
  have h3 : ∀ (c : Prop) [Decidable c] (s : State) (f : Twin → Twin), s.sram.wf = true → (if c then setTwin s f else s).sram.wf = true :=
    fun c _ s f h => ite_keeps (P := fun s => s.sram.wf = true) c (by rw [setTwin_sram]; exact h) h
  have h4 : ∀ (s : State) (x : Boot), s.sram.wf = true → ({ s with boot := x } : State).sram.wf = true := fun s x h => h
  unfold startSequence
  refine ite_keeps (P := fun s => s.sram.wf = true) _ h (ite_keeps (P := fun s => s.sram.wf = true) _ h (ite_keeps (P := fun s => s.sram.wf = true) _ ?_ (h1 _ _ ?_)))
  · rw [enterRecovery_sram]; exact h2 _ (h4 _ _ (h3 _ _ _ h))
  · exact h2 _ (h4 _ _ (h3 _ _ _ h))

theorem submitSample_wf (a0 : _) (a1 : _) (a2 : State) (a3 : _) (bb : State) (hbb : bb.sram.wf = true) (hwf : a2.sram.wf = true) : ((submitSample a0 a1 a2 a3).after bb).sram.wf = true := by
  have h : ∀ n u, (acceptSample a2 n u).s.sram.wf = true := fun n u => wf_of_same_sram (by unfold acceptSample; exact setSlot_sram _ _ _) hwf
  unfold submitSample
  extract_lets n r
  split
  · exact hbb
  · split
    · exact hbb
    · exact h _ _
theorem tableJump_wf (a0 : _) (a1 : _) (a2 : State) (a3 : _) (bb : State) (hbb : bb.sram.wf = true) (hwf : a2.sram.wf = true) : ((tableJump a0 a1 a2 a3).after bb).sram.wf = true := by
  unfold tableJump
  repeat' first
    | with_reducible assumption
    | with_reducible apply correctErrors_wf
    | with_reducible apply hbb
    | with_reducible refine ite_keeps (P := fun s => s.sram.wf = true) _ ?_ ?_
    | with_reducible refine foldl_wf _ ?_ _ _ ?_
    | intro _
    | simp only [after_fault, after_denied, after_memory, after_next, after_goto, after_ends, after_waits, state_ends, state_waits]
    | split
theorem takeItem_wf (a0 : _) (a1 : _) (a2 : State) (a3 : _) (bb : State) (hbb : bb.sram.wf = true) (hwf : a2.sram.wf = true) : ((takeItem a0 a1 a2 a3).after bb).sram.wf = true := by
  unfold takeItem
  repeat' first
    | with_reducible assumption
    | with_reducible apply answer_wf
    | with_reducible apply deviceFault_wf
    | with_reducible apply hbb
    | with_reducible refine wf_of_same_sram (setTake_sram _ _ _ _ ) ?_
    | with_reducible refine wf_of_same_sram (deliver_sram _ _ _ ) ?_
    | with_reducible refine ite_keeps (P := fun s => s.sram.wf = true) _ ?_ ?_
    | with_reducible refine foldl_wf _ ?_ _ _ ?_
    | intro _
    | simp only [after_fault, after_denied, after_memory, after_next, after_goto, after_ends, after_waits, state_ends, state_waits]
    | split
theorem taskMode_wf (a0 : _) (a1 : _) (a2 : _) (a3 : _) (a4 : State) (ha1 : ∀ y0 y1 y2, y1.sram.wf = true → (a1 y0 y1 y2).1.sram.wf = true) (hwf : a4.sram.wf = true) : (taskMode a0 a1 a2 a3 a4).s.sram.wf = true := by
  unfold taskMode
  repeat' first
    | with_reducible assumption
    | with_reducible apply onTasks_wf
    | with_reducible apply modeCommand_wf
    | with_reducible apply ha1
    | with_reducible refine wf_of_same_sram (refuse_sram _ _ ) ?_
    | with_reducible refine ite_keeps (P := fun s => s.sram.wf = true) _ ?_ ?_
    | with_reducible refine foldl_wf _ ?_ _ _ ?_
    | intro _
    | simp only [after_fault, after_denied, after_memory, after_next, after_goto, after_ends, after_waits, state_ends, state_waits]
    | split
theorem testTimer_wf (a0 : _) (a1 : State) (a2 : _) (bb : State) (hbb : bb.sram.wf = true) (hwf : a1.sram.wf = true) : ((testTimer a0 a1 a2).after bb).sram.wf = true := by
  unfold testTimer
  repeat' first
    | with_reducible assumption
    | with_reducible apply deviceFault_wf
    | with_reducible apply hbb
    | with_reducible refine ite_keeps (P := fun s => s.sram.wf = true) _ ?_ ?_
    | with_reducible refine foldl_wf _ ?_ _ _ ?_
    | intro _
    | simp only [after_fault, after_denied, after_memory, after_next, after_goto, after_ends, after_waits, state_ends, state_waits]
    | split
theorem acceptSample_s_sram (s : State) (n : Nat) (u : Int) : (acceptSample s n u).s.sram = s.sram := by
  unfold acceptSample; simp
theorem timerTrigger_wf (a0 : State) (a1 : Nat)  (hwf : a0.sram.wf = true) : (timerTrigger a0 a1).sram.wf = true := by
  unfold timerTrigger; dsimp only
  split
  · rw [acceptSample_s_sram, setSlot_sram, settleAll_sram]; exact hwf
  · rw [settleAll_sram]; exact hwf

theorem transfer_wf (a0 : _) (a1 : State) (a2 : _) (a3 : _) (bb : State) (hbb : bb.sram.wf = true) (hwf : a1.sram.wf = true) : ((transfer a0 a1 a2 a3).after bb).sram.wf = true := by
  unfold transfer
  repeat' first
    | with_reducible assumption
    | with_reducible apply hbb
    | with_reducible refine ite_keeps (P := fun s => s.sram.wf = true) _ ?_ ?_
    | with_reducible refine foldl_wf _ ?_ _ _ ?_
    | intro _
    | simp only [after_fault, after_denied, after_memory, after_next, after_goto, after_ends, after_waits, state_ends, state_waits]
    | split
theorem trimCommand_wf (a0 : _) (a1 : _) (a2 : State) (a3 : _) (ha3 : a3.s.sram.wf = true) (hwf : a2.sram.wf = true) : (trimCommand a0 a1 a2 a3).s.sram.wf = true := by
  unfold trimCommand
  repeat' first
    | with_reducible assumption
    | with_reducible apply ownerOnly_wf
    | with_reducible apply onUnit_wf
    | with_reducible apply ha3
    | with_reducible refine wf_of_same_sram (refuse_sram _ _ ) ?_
    | with_reducible refine ite_keeps (P := fun s => s.sram.wf = true) _ ?_ ?_
    | with_reducible refine foldl_wf _ ?_ _ _ ?_
    | intro _
    | simp only [after_fault, after_denied, after_memory, after_next, after_goto, after_ends, after_waits, state_ends, state_waits]
    | split
theorem withConds_wf (a0 : _) (a1 : State) (a2 : _) (a3 : _) (bb : State) (hbb : bb.sram.wf = true) (hwf : a1.sram.wf = true) : ((withConds a0 a1 a2 a3).after bb).sram.wf = true := by
  unfold withConds
  repeat' first
    | with_reducible assumption
    | with_reducible apply hbb
    | with_reducible refine ite_keeps (P := fun s => s.sram.wf = true) _ ?_ ?_
    | with_reducible refine foldl_wf _ ?_ _ _ ?_
    | intro _
    | simp only [after_fault, after_denied, after_memory, after_next, after_goto, after_ends, after_waits, state_ends, state_waits]
    | split
theorem writePoint_wf (a0 : FmtI) (a1 : Bool) (a2 : Env) (a3 : State) (a4 : Ctx) (bb : State) (hbb : bb.sram.wf = true) (hwf : a3.sram.wf = true) : ((writePoint a0 a1 a2 a3 a4).after bb).sram.wf = true := by
  unfold writePoint pointFault
  dsimp only
  repeat' first
    | exact hwf
    | exact hbb
    | (simp; exact hwf)
    | (rename_i h; cases h)
    | split at *

theorem writeSr_wf (a0 : _) (a1 : State) (a2 : _) (bb : State) (hbb : bb.sram.wf = true) (hwf : a1.sram.wf = true) : ((writeSr a0 a1 a2).after bb).sram.wf = true := by
  unfold writeSr
  repeat' first
    | with_reducible assumption
    | with_reducible apply hbb
    | with_reducible refine ite_keeps (P := fun s => s.sram.wf = true) _ ?_ ?_
    | with_reducible refine foldl_wf _ ?_ _ _ ?_
    | intro _
    | simp only [after_fault, after_denied, after_memory, after_next, after_goto, after_ends, after_waits, state_ends, state_waits]
    | split
theorem writes_wf (a0 : _) (a1 : _) (a2 : _) (a3 : State) (a4 : _) (bb : State) (hbb : bb.sram.wf = true) (hwf : a3.sram.wf = true) : ((writes a0 a1 a2 a3 a4).after bb).sram.wf = true := by
  unfold writes
  repeat' first
    | with_reducible assumption
    | with_reducible apply hbb
    | with_reducible refine ite_keeps (P := fun s => s.sram.wf = true) _ ?_ ?_
    | with_reducible refine foldl_wf _ ?_ _ _ ?_
    | intro _
    | simp only [after_fault, after_denied, after_memory, after_next, after_goto, after_ends, after_waits, state_ends, state_waits]
    | split

end Sys2Proof.Machine
end

