-- ==== Sys2Proof/Laws/Start.lean ====
section
/-! SUPPORT. What the start sequence leaves of the boot state: events and the settling of the Fusebox do not touch it, and the
built-in tests write their results into it. -/

namespace Sys2Proof.Machine
open Sys2Proof

theorem ite_boot (c : Prop) [Decidable c] (a b : State) (e : a.boot = b.boot) : (if c then a else b).boot = b.boot := by
  split
  · exact e
  · rfl

theorem foldl_boot {α : Type} (f : State → α → State) (h : ∀ s a, (f s a).boot = s.boot) (l : List α) :
    ∀ s, (l.foldl f s).boot = s.boot := by
  induction l with
  | nil => intro s; rfl
  | cons a l ih => intro s; exact (ih _).trans (h s a)

theorem raiseEvent_boot (s : State) (suites : List Nat) (sev : Nat) (u : UnitId) (st : Status) (payload : List (BitVec 64)) :
    (raiseEvent s suites sev u st payload).boot = s.boot := by
  unfold raiseEvent
  exact (foldl_boot _ (fun s n => by unfold postEvent; split <;> rfl) _ _).trans rfl

theorem noteMarginal_boot (s : State) (m : Bool) : (noteMarginal s m).boot = s.boot := by
  unfold noteMarginal
  exact ite_boot _ _ _ ((raiseEvent_boot _ _ _ _ _ _).trans rfl)

theorem settleFuses_boot (s : State) (rd : FuseReads) : (settleFuses s rd).boot = s.boot := by
  unfold settleFuses
  exact (foldl_boot _ noteMarginal_boot _ _).trans rfl

theorem endTrials_boot (s : State) : (endTrials s).boot = s.boot := by
  unfold endTrials
  refine foldl_boot _ (fun s k => ?_) _ _
  dsimp only
  exact ite_boot _ _ _ rfl

/-- R412: the memory test runs at a start of class P or C, and its result stands until the next one. -/
theorem builtInTests_memFail (b : BootEnv) (s : State) :
    (builtInTests b s).boot.memFail = ((s.boot.lastClass != .w && b.memFail) || s.boot.memFail) := by
  unfold builtInTests
  dsimp only
  rw [foldl_boot _ (fun s r => by rw [raiseEvent_boot]; rfl), foldl_boot _ (fun s l => by rw [raiseEvent_boot]; rfl),
    foldl_boot _ (fun s l => by rw [raiseEvent_boot]), ite_boot _ _ _ (raiseEvent_boot _ _ _ _ _ _), ite_boot _ _ _ (raiseEvent_boot _ _ _ _ _ _),
    foldl_boot _ (fun s k => raiseEvent_boot _ _ _ _ _ _)]

end Sys2Proof.Machine
end

