-- ==== Sys2Proof/Tests/Slice0.lean ====
section
/-! SUPPORT. The author's own tests: well-formedness, words of the spec's encodings, single steps, and a witness for the
hypotheses of each statement of Certificates/Slice0/Obligations.lean. -/

namespace Sys2Proof.Tests
open Sys2Proof Sys2Proof.Machine

/-! ### Well-formedness: each check refuses an ill-formed command -/

theorem test_wf_add : (Instr.addR 33 { rd := 1, rs1 := 2, rs2 := 3 }).wf = true := by decide
theorem test_wf_refuses_core : (Instr.addR 34 { rd := 1, rs1 := 2, rs2 := 3 }).wf = false := by decide
theorem test_wf_refuses_context : (Instr.cfgUnit 2048).wf = false := by decide
theorem test_wf_takes_firmware : (Instr.cfgUnit 4129).wf = true := by decide
theorem test_wf_refuses_suite : (Instr.kgen 64).wf = false := by decide
theorem test_wf_refuses_field_port : (Instr.psePowered 192).wf = false := by decide
theorem test_wf_refuses_port : (Instr.pauseEnd 195).wf = false := by decide
theorem test_wf_refuses_hallway_port : (Instr.busOffRecovery 16).wf = false := by decide
theorem test_wf_refuses_hallway_slot : (Instr.hallwayTakeItem 0 16).wf = false := by decide
theorem test_wf_refuses_hallway_group : (Instr.hallwayTimePair 4 0).wf = false := by decide
theorem test_wf_refuses_switch_instant : (Instr.heartbeatReceived
  { strobe := false, crcOk := true, role := 2, inStep := false, healthy := true, epoch := 0, dseq := 0, tsw := some { sec := 2 ^ 48, ns := 0 } }).wf = false := by decide
theorem test_wf_refuses_input : (Instr.diChange 64 24000).wf = false := by decide
theorem test_wf_refuses_output : (Instr.shutterTimeout 48).wf = false := by decide
theorem test_wf_refuses_pulse_output : (Instr.pulseStart 4).wf = false := by decide
theorem test_wf_refuses_bank : (Instr.bankTrip 6).wf = false := by decide
theorem test_wf_refuses_room : (Instr.paceWindow 9 0 0).wf = false := by decide
theorem test_wf_refuses_queue : (Instr.queueControlError ⟨65536, .control⟩).wf = false := by decide
theorem test_wf_refuses_link : (Instr.linkTokenError ⟨5, 1⟩).wf = false := by decide
theorem test_wf_refuses_token_bits : (Instr.linkTokenError ⟨0, 40⟩).wf = false := by decide
theorem test_wf_refuses_die : (Instr.alignmentTimeout 5).wf = false := by decide
theorem test_wf_refuses_station : (Instr.stallTimeout 16 0 .engine).wf = false := by decide
theorem test_wf_refuses_station_lane : (Instr.stallTimeout 0 8 .engine).wf = false := by decide
theorem test_wf_refuses_requester : (Instr.stallTimeout 0 0 (.cfg 2048)).wf = false := by decide
theorem test_wf_refuses_landing_lane : (Instr.landingFrameError 4).wf = false := by decide
theorem test_wf_refuses_hearth_slot : (Instr.hearthTimerTrigger 4096).wf = false := by decide
theorem test_wf_refuses_circuit : (Instr.meterQuantitiesArrive 8 []).wf = false := by decide
theorem test_wf_refuses_quantities : (Instr.meterQuantitiesArrive 0 (List.replicate 49 { v := 0 })).wf = false := by decide
theorem test_wf_refuses_class : (Instr.pseClassification 0 9).wf = false := by decide
theorem test_wf_refuses_class_above : (Instr.pseClassification 0 16).wf = false := by decide
theorem test_wf_refuses_quiet_cycle : (Instr.quietAnswer 0 (2 ^ 32) true).wf = false := by decide
theorem test_wf_refuses_kind : (Instr.updateActivation 4 0).wf = false := by decide
theorem test_wf_refuses_member : (Instr.groupMemberReply ⟨1, 0⟩ 256 ⟨stDone, true⟩).wf = false := by decide
theorem test_wf_refuses_tag : (Instr.pointRead 1 1 0 65536 0).wf = false := by decide
theorem test_wf_refuses_task : (Instr.preparedCycleCommit 1 32).wf = false := by decide
theorem test_wf_refuses_item_number : (Instr.hostAcknowledgement 0 1 16 (2 ^ 32)).wf = false := by decide
theorem test_wf_refuses_dseq : (Instr.deltaConfirmation (2 ^ 32)).wf = false := by decide
theorem test_wf_refuses_group_level : (Instr.clrWorst (.group 7)).wf = false := by decide
theorem test_wf_refuses_part : (Instr.clrWorst (.part { cls := 7, inst := 6 })).wf = false := by decide
theorem test_wf_refuses_register : (Instr.registerWrite (.slot 4096) 0).wf = false := by decide
theorem test_wf_refuses_producer : (Instr.itemEnter 16 (.session 64 0 0)
  { prio := 0, ptag := false, written := true, data := [] }).wf = false := by decide
theorem test_wf_refuses_item : (Instr.itemEnter 16 (.engine { cls := 5, inst := 0 })
  { prio := 8, ptag := false, written := true, data := [] }).wf = false := by decide
theorem test_wf_refuses_session : (Instr.hostSessionOpen { number := 1, host := 0, suite := 1, rank := 0, port := 192, puts := [], takes := [] }).wf = false := by
  decide
theorem test_wf_refuses_frame : (Instr.macReceive 0
  { frame := { dst := 2 ^ 48, src := 0, tag := none, ethertype := 0, payload := [] }, len := 64, fcsOk := true, symbolErrors := 0,
    pause := none, sfdAgo := 0 }).wf = false := by decide
theorem test_wf_refuses_time : (Instr.twinClockExchange { sec := 0, ns := 1000000000 }).wf = false := by decide
theorem test_wf_refuses_rate : (Instr.portLinkChange 192
  { up := true, level2v4 := false, master := false, seed := false, eee := false, rate := 8, lpAdv := 0, lpFec := 0 }).wf = false := by decide
theorem test_wf_refuses_can_frame : (Instr.hallwayFrameReceived 0
  { format := 0, id := 2048, ide := false, rtr := false, brs := false, esi := false, xlSec := false, dlc := 0, sdt := 0, vcid := 0, af := 0,
    data := [], sofAgo := 0 }).wf = false := by decide
theorem test_wf_refuses_bus_error : (Instr.hallwayAttemptEnd 0 (.error 8 false 0)).wf = false := by decide
theorem test_wf_refuses_receive_error : (Instr.hallwayReceiveError 0 { kind := 8, inFlag := false, dominant := 0 }).wf = false := by decide
/-- A sample of the 28 metering channels, all at one count. -/
def flatSample (v : Int) : MeterSample := { volts := List.replicate 4 v, unity := List.replicate 24 v, high := List.replicate 24 v }
theorem test_wf_refuses_sample : (Instr.meterWindowEnd
  { before := flatSample 0, samples := [{ volts := [], unity := [], high := [] }], after := flatSample 0 }).wf = false := by decide
theorem test_wf_refuses_count : (Instr.meterWindowEnd
  { before := flatSample 0, samples := [flatSample 8388608], after := flatSample 0 }).wf = false := by decide
theorem test_wf_refuses_heartbeat : (Instr.heartbeatReceived
  { strobe := false, crcOk := true, role := 8, inStep := false, healthy := false, epoch := 0, dseq := 0 }).wf = false := by decide
theorem test_wf_refuses_partner : (Instr.partnerMet { digest := 0, mirrorVer := 0, serial := 2 ^ 64, role := 0, transcriptOk := true }).wf = false := by
  decide
theorem test_wf_refuses_upset : (Instr.scrubLine [{ offset := 64, uncorrectable := false }]).wf = false := by decide
theorem test_wf_refuses_start : (Instr.startSequence
  { coreFail := 0, m0Fail := false, m1Fail := false, memFail := false, laneFail := [], linkFail := [7], paceFail := [], refclkOk := true,
    twinRole := false, bootMs := 0, reads := { marginal := [] } }).wf = false := by decide

/-! ### Words written out from the encodings of R65 to R76 -/

/-- ADD w1, w2, w3: op 0x00 in [31:25], rd [24:20], rs1 [19:15], rs2 [14:10], fn [9:0]. -/
theorem test_word_add : decodeInsn 0 0b0000000_00001_00010_00011_0000000000#32 = some (.addR 0 { rd := 1, rs1 := 2, rs2 := 3 }) := by decide

/-- The block has no words of its own: the table gives its rows no bits. -/
theorem test_no_table_word (s : State) (nbits w : Nat) : decodeTableWord nbits w = none ∧ s.withFetchWord nbits w = s := ⟨rfl, rfl⟩

/-! ### Small states -/

/-- R60: a suite with its window at 0: CODE, CONST and RETAIN of one page each, then DATA. -/
def demoSuite : Suite := { enabled := true, winBase := 0, winSize := 0x10000, constAt := 1, retainAt := 2, dataAt := 3, state := stRun }

/-- A task of suite 1 that executes its cycle on core 0, with pc 0x10, w1 = 7, w2 = -3 and w3 = 0x3000. -/
def demoTask : Task := {
  desc := { suite := 1, task := 1, core := 0, worst := 1000, period := 1000, deadline := 900, commitOffset := 950, faultLimit := 3 }
  mode := .run
  ctx := { pc := 0x10, w := (((Vector.replicate 32 0#64).set 1 7).set 2 (BitVec.ofInt 64 (-3))).set 3 0x3000, cycle := 1, eventCredits := 4 }
  cycle := some { number := 1, start := t0, commit := { sec := 0, ns := 950000 } } }

/-- The block while a task executes, 5 µs past the start of its cycle. -/
def demoOf (t : Task) : State := {
  tasks := [(33, t)], suites := [(1, demoSuite)], clock := { time := { sec := 0, ns := 5000 } }, boot := { phase := .running } }

def demo : State := demoOf demoTask

/-- The same block with other registers. -/
def demoWith (f : Ctx → Ctx) : State := demoOf { demoTask with ctx := f demoTask.ctx }

/-- The block with suite 0's window, in which the firmware of M0 and M1 runs. -/
def managed : State := { suites := [(0, { suiteDefault 0 with winSize := 0x10000, constAt := 1, retainAt := 2, dataAt := 3, state := stRun })]
                         boot := { phase := .running } }

/-- The state after a command. -/
def run (i : Instr) (s : State) : State := match exec i s with | .next t => t | _ => s

/-- A register of the demo task after a command. -/
def regAfter (i : Instr) (s : State) (n : Fin 32) : BitVec 64 := (contextAt (run i s) 33).w[n]

theorem demo_issues {cost : Nat} (h : cost ≤ 1000) : Issues demo 0 33 cost :=
  ⟨⟨by decide, by decide, by decide, by decide⟩, by
    show decide (1000 < 0 + (cost + 0)) = false
    simp; omega⟩

/-! ### Core instructions: single steps -/

theorem test_add : regAfter (.addR 0 { rd := 4, rs1 := 1, rs2 := 2 }) demo 4 = 4 := by decide
theorem test_add_w0_discarded : regAfter (.addR 0 { rd := 0, rs1 := 1, rs2 := 2 }) demo 0 = 0 := by decide
theorem test_div_by_zero_flags : (contextAt (run (.divR 0 { rd := 4, rs1 := 1, rs2 := 0 }) demo) 33).flags = 1 := by decide
theorem test_jump_back_is_illegal : (contextAt (run (.jmp 0 { disp := 0 }) demo) 33).fd[0] ≠ 0 := by decide
theorem test_store_then_load :
    regAfter (.ld 0 { rt := 5, base := 3, size := 0, imm := 1 }) (run (.st 0 { rt := 2, base := 3, size := 1, imm := 0 }) demo) 5 = 0xFF := by decide
theorem test_misaligned_store : (contextAt (run (.st 0 { rt := 2, base := 3, size := 1, imm := 1 }) demo) 33).fd[1] = 0x3001 := by decide

/-! ### Witnesses: core instructions -/

/-- An uncorrectable error in the byte 0x3000 of the data SRAM. -/
def demoBadByte : State := { demo with sram := { cells := [], valid := [0xC00], errors := [(0x3000, 2)] } }

/-- The demo block with words that stand at its pc, 0x10. -/
def demoCode (ws : List (BitVec 32)) : State :=
  { demo with sram := writeBytes demo.sram 0x10 (ws.flatMap (fun w => bytesOf 4 w.toNat)) }

/-- The word at the pc that is no instruction raises ILLEGAL whatever command the row gives. -/
theorem test_reserved_word_is_illegal :
    (contextAt (run (.addR 0 { rd := 4, rs1 := 1, rs2 := 2 }) (demoCode [0xFFFFFFFF])) 33).fd[2].toNat % 2 ^ 32 = 0xFFFFFFFF := by decide

theorem not_some {α : Type} {o : Option α} (h : o.isSome = false) {P : α → Prop} : ∀ l, o = some l → P l := by
  intro l e; subst e; cases h

theorem demo_permits (t : BitVec 32) : LoopPermits (contextAt demo 33) t := not_some (by decide)

theorem witness_EmptyQueueTicksRefclk : State.reset.pending = [] := rfl
theorem witness_InstructionWordsDecodeBack : insnCore (.addR 0 { rd := 1, rs1 := 2, rs2 := 3 }) = some 0 ∧
    (insnWord (.addR 0 { rd := 1, rs1 := 2, rs2 := 3 })).map (fun w => (readWord (isMgmt 0) w).isSome) = some true := by decide
theorem witness_IllegalWordRaisesIllegal : insnCore (.addR 0 { rd := 1, rs1 := 2, rs2 := 3, hi := 1 }) = some 0 ∧
    (insnWord (.addR 0 { rd := 1, rs1 := 2, rs2 := 3, hi := 1 })).map (readWord (isMgmt 0)) = some none ∧ Fetches demo 0 33 :=
  ⟨by decide, by decide, (demo_issues (cost := 1) (by decide)).toFetches⟩
theorem witness_IntegerOperationsWriteRd : Issues demo 0 33 1 ∧ ({ rd := 4, rs1 := 1, rs2 := 0 } : FmtA).hi.getLsbD 0 = false ∧
    ({ rd := 4, rs1 := 1, rs2 := 0 } : FmtA).rs2 = 0 := ⟨demo_issues (by decide), by decide, by decide⟩
theorem witness_ArithmeticSaturatesAndFlags : Issues demo 0 33 1 ∧ Issues demo 0 33 20 ∧
    ({ rd := 4, rs1 := 1, rs2 := 2 } : FmtA).hi.getLsbD 0 = false := ⟨demo_issues (by decide), demo_issues (by decide), by decide⟩
theorem witness_ConstantOperationsWriteRd : Issues demo 0 33 1 ∧ ({ rd := 4, rs1 := 1, imm := 0x43F } : FmtI).imm.toNat / 64 % 16 = 0 :=
  ⟨demo_issues (by decide), by decide⟩
theorem witness_LoadsStoresAndAtomics : Issues demo 0 33 3 ∧ Issues demo 0 33 2 ∧ Issues demo 0 33 6 ∧ demo.sram.wf = true ∧
    dataAddr { rt := 5, base := 3, size := 6, imm := 0 } (contextAt demo 33) = 0x3000 ∧
    Allowed demo 33 .load 0x3000 4 ∧ Allowed demo 33 .store 0x3000 8 ∧ uncorrectableIn (fetched demo 33) 0x3000 8 = none ∧
    rget (contextAt demo 33) 3 = 0x3000 :=
  ⟨demo_issues (by decide), demo_issues (by decide), demo_issues (by decide), by decide, by decide, ⟨by decide, by decide⟩,
    ⟨by decide, by decide⟩, by decide, by decide⟩
theorem witness_DataAccessFaultsInOrder :
    DataAccess 0 (contextAt demo 33) (.ld 0 { rt := 5, base := 3, size := 1, imm := 1 }) (encM 0x08 { rt := 5, base := 3, size := 1, imm := 1 })
      3 true .load (dataAddr { rt := 5, base := 3, size := 1, imm := 1 } (contextAt demo 33)) 2 ∧
    (dataAddr { rt := 5, base := 3, size := 1, imm := 1 } (contextAt demo 33)).toNat % 2 ≠ 0 ∧
    windowAllows (suiteAt demo (ctxSuite 33)) .store 0 1 = false ∧
    Allowed demoBadByte 33 .load 0x3000 1 ∧ uncorrectableIn (fetched demoBadByte 33) (sramAddr demoBadByte 33 0x3000) 1 = some 0x3000 :=
  ⟨.load _ (by decide), by decide, by decide, ⟨by decide, by decide⟩, by decide⟩
theorem witness_BranchesCallsAndControl : Issues demo 0 33 1 ∧ Issues demo 0 33 2 ∧ Issues demo 0 33 4 ∧
    (1 ≤ (0x001 : BitVec 12).toInt ∧ LoopPermits (contextAt demo 33) 0x14) ∧ ¬ (32 ≤ 0 ∨ 1 ≤ (0xFFF : BitVec 12).toInt) ∧
    (contextAt demo 33).calls.length < 16 ∧ (contextAt demo 33).calls = [] ∧
    16 ≤ (contextAt (demoWith fun x => { x with calls := List.replicate 16 { ret := 0x20, depth := 0 } }) 33).calls.length ∧
    (contextAt (demoWith fun x => { x with calls := [{ ret := 0x20, depth := 0 }] }) 33).calls = [{ ret := 0x20, depth := 0 }] ∧
    0 < (contextAt (demoWith fun x => { x with calls := [{ ret := 0x20, depth := 0 }], loops := [{ start := 0, last := 8, left := 2 }] }) 33).loops.length :=
  ⟨demo_issues (by decide), demo_issues (by decide), demo_issues (by decide), ⟨by decide, demo_permits _⟩, by decide, by decide, by decide,
    by decide, by decide, by decide⟩
theorem witness_TableJumpsAndLoops : Issues demo 0 33 4 ∧ Issues demo 0 33 1 ∧
    windowAllows (suiteAt demo (ctxSuite 33)) .fetch (0x10 + 4 + 4 * min 7 0) 4 = true ∧
    uncorrectableIn (fetched demo 33) (0x10 + 4 + 4 * min 7 0) 4 = none ∧ (BitVec.ofNat 32 (memNumber demo 0x14 4)).toInt % 4 = 0 ∧
    LoopPermits (contextAt demo 33) 0x18 ∧ min (rget (contextAt demo 33) 0).toNat 5 = 0 ∧ min (rget (contextAt demo 33) 1).toNat 5 = 5 ∧
    (contextAt demo 33).loops.length < 4 ∧ (∀ l, currentLoop (contextAt demo 33) = some l → 0x18 < l.last.toNat) ∧
    (∃ l, currentLoop { (contextAt demo 33) with loops := [{ start := 4, last := 0x10, left := 2 }] } = some l ∧ l.last = 0x10 ∧ 1 < l.left) ∧
    (∃ l, currentLoop { (contextAt demo 33) with loops := [{ start := 4, last := 0x10, left := 1 }] } = some l ∧ l.last = 0x10 ∧ l.left ≤ 1) :=
  ⟨demo_issues (by decide), demo_issues (by decide), by decide, by decide, by decide, demo_permits _, by decide, by decide, by decide,
    not_some (by decide), ⟨_, rfl, by decide, by decide⟩, ⟨_, rfl, by decide, by decide⟩⟩
theorem witness_SpecialRegisters : TimeOk (now demo) ∧ TimeOk (contextAt demo 33).tsnap ∧ TimeOk (contextAt demo 33).tcommit ∧
    Issues demo 0 33 1 ∧ Issues demo 0 33 2 ∧ (0x030, (paceWord (fetched demo 33) (0 / 4)).toNat) ∈
      specialTable (fetched demo 33) 0 33 (contextAt demo 33) :=
  ⟨⟨by decide, by decide⟩, ⟨by decide, by decide⟩, ⟨by decide, by decide⟩, demo_issues (by decide), demo_issues (by decide),
    List.mem_of_getElem? (i := 21) rfl⟩
theorem witness_FractionOperations : Issues demo 0 33 1 ∧ (∀ r ∈ accTable, r.2.2.1 { acc := 1, rd := 0, rs1 := 0, rs2 := 0 } = true) ∧
    (∀ r ∈ qRegTable, r.2.2.1 { acc := 0, rd := 4, rs1 := 0, rs2 := 0 } = true) ∧
    (∀ r ∈ accTable, r.2.2.1 { acc := 1, rd := 1, rs1 := 1, rs2 := 1 } = false) ∧
    (∃ r ∈ qRegTable, r.2.2.1 { acc := 1, rd := 4, rs1 := 1, rs2 := 1 } = false) :=
  ⟨demo_issues (by decide), by simp [accTable], by simp [qRegTable], by simp [accTable], ⟨_, .head _, by decide⟩⟩

/-! ### Witnesses: floating point and device instructions -/

/-- The demo task with lists and bindings: point 0x200, slot 5, and queue 0x400 for putting and taking. -/
def boundTask : Task := { demoTask with
  desc := { demoTask.desc with inList := [0x200], outList := [0x200], slotList := [5], putQ := [0x400], takeQ := [0x400] } }

/-- The block with its task bound, a TIME80 point, a queue with two credits in the task's hand, and a Hearth slot of its suite. -/
def boundOf (t : Task) : State := { demoOf t with
  suites := [(1, { demoSuite with queueFirst := 0x400, queueCount := 1024 })]
  points := [(0x200, { owner := 1, type := tyTime80 })]
  larder := { queues := [(0x400, { depth := 4, itemMax := 64, grant := 2, attached := [{ who := .task 33 0, hand := 2, spent := 0, id := 0 }] })] }
  hearth := { slots := [(5, { inUse := true, suite := 1 })] } }

def bound : State := boundOf boundTask

/-- The same block with an open packet of some bytes. -/
def boundPacket (n : Nat) : State := boundOf { boundTask with
  ctx := { boundTask.ctx with packet := some { binding := 0, queue := 0x400, prio := 0, data := List.replicate n 0 } } }

theorem bound_issues {cost : Nat} (h : cost ≤ 1000) : Issues bound 0 33 cost :=
  ⟨⟨by decide, by decide, by decide, by decide⟩, by
    show decide (1000 < 0 + (cost + 0)) = false
    simp; omega⟩

theorem boundPacket_issues {cost : Nat} (h : cost ≤ 1000) : Issues (boundPacket 8) 0 33 cost :=
  ⟨⟨by decide, by decide, by decide, by decide⟩, by
    show decide (1000 < 0 + (cost + 0)) = false
    simp; omega⟩

theorem witness_FloatArithmetic : ∃ r ∈ floatTable, ({ rd := 4, rs1 := 1, rs2 := 0 } : FmtA).hi.getLsbD 0 = false ∧ Issues demo 0 33 24 ∧
    r.2.2.1 = 24 ∧ 2 ∉ r.2.2.2.2.1 ∧ isNan (unpackF fmt32 7) = false ∧ isNan (unpackF fmt32 0x7F800001) = true ∧
    zeroTimesInf (unpackF fmt32 0x7F800001) (unpackF fmt32 0) = false :=
  ⟨_, .tail _ (.tail _ (.tail _ (.tail _ (.head _)))), by decide, demo_issues (by decide), by decide, by decide, by decide, by decide, by decide⟩
theorem witness_RoundingIsCorrect : (roundF fmt32 0 false 3 0).2.getLsbD 6 = false ∧ (roundF fmt32 0 false 1 128).2.getLsbD 6 = true := by decide
theorem witness_FloatSignsAndCases : Issues demo 0 33 1 ∧ ({ rd := 4, rs1 := 1, rs2 := 0 } : FmtA).hi.getLsbD 0 = false ∧
    isNan (unpackF fmt32 7) = false ∧ isNan (unpackF fmt32 0x7F800001) = true ∧ orderVal (unpackF fmt32 0x80000007) (unpackF fmt32 7) = -1 ∧
    ¬ (orderVal (unpackF fmt32 0) (unpackF fmt32 0x80000000) = -1 ∨ orderVal (unpackF fmt32 0) (unpackF fmt32 0x80000000) = 0 ∧
      fmt32.signBit ≤ 0) := ⟨demo_issues (by decide), by decide, by decide, by decide, by decide, by decide⟩
theorem witness_FloatConversions : Issues demo 0 33 2 ∧ Issues demo 0 33 1 ∧
    ({ rd := 4, rs1 := 1, rs2 := 0 } : FmtA).hi.getLsbD 0 = false ∧ (∃ n m e, unpackF fmt64 7 = .fin n m e) ∧
    (∃ n, unpackF fmt64 0x7FF0000000000000 = .inf n) ∧ (∃ b g, unpackF fmt32 0x7F800001 = .nan b g) :=
  ⟨demo_issues (by decide), demo_issues (by decide), by decide, ⟨_, _, _, rfl⟩, ⟨_, rfl⟩, ⟨_, _, rfl⟩⟩
theorem witness_PointInstructions : Issues bound 0 33 2 ∧ elementOf { rd := 4, rs1 := 0, imm := 0x200 } (contextAt bound 33) = 0x200 ∧
    0x200 ∈ (taskAt bound 33).desc.inList ∧ mayRead bound (ctxSuite 33) 0x200 = true ∧ (pointCfg bound 0x200).type = tyTime80 ∧
    0x200 ∈ (taskAt bound 33).desc.outList ∧ (pointCfg bound 0x200).owner = ctxSuite 33 :=
  ⟨bound_issues (by decide), by decide, by decide, by decide, by decide, by decide, by decide⟩
theorem witness_PacketInstructions : Issues bound 0 33 12 ∧ (taskAt bound 33).desc.putQ.getD 0 0 = 0x400 ∧ mayPut bound (ctxSuite 33) 0x400 = true ∧
    (queueAt bound 0x400).qfault = false ∧ (contextAt bound 33).packet = none ∧ creditsInHand (queueAt bound 0x400) (.task 33 0) ≠ 0 ∧
    creditsInHand (queueAt bound 0x400) (.task 33 1) = 0 ∧ (contextAt (boundPacket 8) 33).packet ≠ none ∧
    Issues (boundPacket 8) 0 33 8 ∧ Issues (boundPacket 8) 0 33 24 ∧ Issues (boundPacket 8) 0 33 16 ∧
    windowAllows (suiteAt (boundPacket 8) (ctxSuite 33)) .load 0x3000 64 = true ∧
    uncorrectableIn (fetched (boundPacket 8) 33) 0x3000 1 = none ∧ 8 + 8 ≤ (queueAt (boundPacket 8) 0x400).itemMax :=
  ⟨bound_issues (by decide), by decide, by decide, by decide, by decide, by decide, by decide, by decide, boundPacket_issues (by decide),
    boundPacket_issues (by decide), boundPacket_issues (by decide), by decide, by decide, by decide⟩
theorem witness_PacketRefusals : (contextAt bound 33).packet = none ∧ Issues bound 0 33 8 ∧ Issues bound 0 33 16 ∧ Issues bound 0 33 12 ∧
    Issues bound 0 33 24 ∧ (queueAt (boundPacket 60) 0x400).itemMax < 60 + 8 ∧ ((contextAt (boundPacket 0) 33).packet.map (·.data)) = some [] ∧
    (taskAt bound 33).desc.putQ.getD 1 0 = 0 :=
  ⟨by decide, bound_issues (by decide), bound_issues (by decide), bound_issues (by decide), bound_issues (by decide), by decide, by decide, by decide⟩
theorem witness_PacketRefusals_block : rget (contextAt bound 33) 3 = 0x3000 ∧ rget (contextAt bound 33) 1 = 7 ∧
    windowAllows (suiteAt bound (ctxSuite 33)) .load 0x3000 7 = true ∧ uncorrectableIn (fetched bound 33) (sramAddr bound 33 0x3000) 7 = none ∧
    (queueAt (boundPacket 60) 0x400).itemMax < 60 + 7 := by decide

/-- An item that queue 0x400 has delivered. -/
def demoItem : Item := { prio := 2, ptag := false, srcSuite := 1, hostId := 0xFFFF, seq := 0, entered := t0, producer := .task 33 0, data := [1, 2, 3] }

/-- The block with an item of the take binding current and another to come. -/
def boundTaking : State := boundOf { boundTask with takes := boundTask.takes.set 0 { next := [{ demoItem with seq := 1 }], current := some demoItem } }

theorem witness_TakeInstructions : Issues bound 0 33 12 ∧ Issues bound 0 33 8 ∧ (taskAt bound 33).desc.takeQ.getD 0 0 ≠ 0 ∧
    ctxMayTake bound 33 0x400 = true ∧ (queueAt bound 0x400).qfault = false ∧ (takeAt (taskAt bound 33) 0).next = [] ∧
    (takeAt (taskAt boundTaking 33) 0).next = [{ demoItem with seq := 1 }] ∧ (takeAt (taskAt boundTaking 33) 0).current = some demoItem ∧
    (takeAt (taskAt boundTaking 33) 0).acked = false ∧ (takeAt (taskAt bound 33) 0).current = none :=
  ⟨bound_issues (by decide), bound_issues (by decide), by decide, by decide, by decide, by decide, by decide, by decide, by decide, by decide⟩
theorem witness_TimeAndTimers : Issues demo 0 33 4 ∧ Issues demo 0 33 2 ∧ (999999999 : BitVec 64).toNat % 2 ^ 32 < giga ∧
    ¬ (1000000000 : BitVec 64).toNat % 2 ^ 32 < giga ∧ (contextAt demo 33).timers[0] = none ∧
    reached (now demo) { sec := 0, ns := 5001 } = false ∧ reached (now demo) { sec := 0, ns := 5000 } = true :=
  ⟨demo_issues (by decide), demo_issues (by decide), by decide, by decide, by decide, by decide, by decide⟩

/-- Words at a window address of the demo task's DATA. -/
def withWords (s : State) (ws : List (BitVec 64)) : State :=
  { s with sram := writeBytes s.sram 0x3000 (ws.flatMap (fun w => bytesOf 8 w.toNat)) }

/-- The demo block with a CFG_TASK descriptor (code 0x06) at w3. -/
def cfgReady : State := withWords demo [0, 0x06 + 256 * BitVec.ofNat 64 (cfgLen 6)]

theorem witness_PostedRequests : Issues cfgReady 0 33 (8 + cfgLen 6) ∧ BlockReadable cfgReady 33 0x3000 (8 * cfgLen 6) ∧
    (blockWord cfgReady 33 0x3000 1).toNat % 2 ^ 8 = 6 ∧ (blockWord cfgReady 33 0x3000 1).toNat / 2 ^ 8 % 2 ^ 8 = cfgLen 6 ∧
    replyDeclared cfgReady 33 ((blockWord cfgReady 33 0x3000 1).toNat / 2 ^ 32 % 2 ^ 16) = true ∧ (ctxSuite 33 = 0 ∨ (0x06 : BitVec 8).toNat ∈ [0x04, 0x05, 0x06, 0x0F, 0x16]) ∧
    (contextAt cfgReady 33).outstanding < 8 ∧ 8 ≤ (contextAt (demoWith fun x => { x with outstanding := 8 }) 33).outstanding ∧
    (blockWord (withWords demo [0x2000]) 33 0x3000 0).toNat % 2 ^ 32 / 2 ^ 13 % 64 = ctxSuite 33 ∧
    Issues managed 32 4128 16 :=
  ⟨⟨⟨by decide, by decide, by decide, by decide⟩, by decide⟩, ⟨by decide, by decide, by decide⟩, by decide, by decide, by decide, by decide, by decide,
    by decide, by decide, ⟨⟨by decide, by decide, by decide, by decide⟩, by decide⟩⟩
theorem witness_EventsSamplesAndBreakpoints : Issues bound 0 33 16 ∧ BlockReadable bound 33 0x3000 32 ∧ (contextAt bound 33).eventCredits ≠ 0 ∧
    (contextAt (demoWith fun x => { x with eventCredits := 0 }) 33).eventCredits = 0 ∧ Issues bound 0 33 12 ∧
    5 ∈ (taskAt bound 33).desc.slotList ∧ (slotAt bound 5).suite = ctxSuite 33 ∧ (slotAt bound 5).inUse = true ∧ (slotAt bound 5).timer = false ∧ Issues bound 0 33 24 ∧
    (taskAt bound 33).brkArm.getLsbD 15 = false :=
  ⟨bound_issues (by decide), ⟨by decide, by decide, by decide⟩, by decide, by decide, bound_issues (by decide), by decide, by decide, by decide,
    by decide, bound_issues (by decide), by decide⟩
theorem witness_FaultsAreTaken : readyOn State.reset 0 = none ∧ readyOn demo 0 = some 33 ∧
    windowAllows (suiteAt demo (ctxSuite 33)) .fetch 0x1000 4 = false ∧ fetchIllegal (demoCode [0xFFFFFFFF]) 0 33 = true ∧ uncorrectableIn demoBadByte 0x3000 4 = some 0x3000 ∧
    overBudget demo 0 33 1001 = true ∧ overBudget demo 0 33 1000 = false ∧ TimeOk (now demo) ∧ (taskAt demo 33).cycle = demoTask.cycle ∧
    resetting demo (ctxSuite 33) = false ∧ (taskAt demo 33).consecFaults + 1 < (taskAt demo 33).desc.faultLimit ∧
    (taskAt demo 33).stopPending = none ∧ (taskAt demo 33).brkHold = false ∧ (taskAt demo 33).stepping = false :=
  ⟨by decide, by decide, by decide, by decide, by decide, by decide, by decide, ⟨by decide, by decide⟩, by decide, by decide, by decide, by decide,
    by decide, by decide⟩

/-! ### Witnesses: unit commands -/

/-- The block with an owner, host 1, in suites 0 and 1, and the task of suite 1 between cycles. -/
def house : State := { boundOf { boundTask with mode := .hold, cycle := none } with
  suites := [(0, { enabled := true, owner := some 1, ownerRank := 7, state := stRun, taskCmd := true, queueCount := 1024 }),
             (1, { demoSuite with owner := some 1, ownerRank := 6, queueFirst := 0x400, queueCount := 1024 })] }

/-- A command at the head of a command queue. -/
def command (s : State) (q : CmdQueue) (suite host : Nat) (u : UnitId) (code arg : Nat) (words : List (BitVec 64)) : State :=
  let w1 : BitVec 64 := BitVec.ofNat 64 (code + arg * 2 ^ 8 + 7 * 2 ^ 16)
  let it : Item := { prio := 0, ptag := false, srcSuite := suite, hostId := host, seq := 0, entered := t0, producer := .session suite host 0
                     data := (unitAddr s u :: w1 :: words).flatMap (fun w => bytesOf 8 w.toNat) }
  { s with larder := { s.larder with queues := (cmdQueueNo q, { depth := 4, itemMax := 512, items := [it] }) :: s.larder.queues } }

/-- A command is served by the unit `u`, and it and the state once it has left its queue satisfy `p`. -/
def Meets (s : State) (q : CmdQueue) (u : UnitId) (p : State → Cmd → Bool) : Prop := ∃ c, Served s q c u ∧ p (taken s q c) c = true

/-- The same as a test. -/
def meets (s : State) (q : CmdQueue) (u : UnitId) (p : State → Cmd → Bool) : Bool :=
  match headCommand (readHead s (cmdQueueNo q)) q with
  | none => false
  | some c => (findRecord (taken s q c) u c.tag c.replyQueue).isNone &&
      (resolve (taken s q c) c.target).map (memberTarget (taken s q c) c) == some (.unit u) && (taken s q c).boot.phase != .recovery &&
      !forwards (taken s q c) c (.unit u) && (match u with | .group _ => false | _ => true) && p (taken s q c) c

theorem meets_of {s : State} {q : CmdQueue} {u : UnitId} {p : State → Cmd → Bool} (h : meets s q u p = true) : Meets s q u p := by
  unfold meets at h
  split at h
  · cases h
  · rename_i c hc
    simp only [Bool.and_eq_true, Bool.not_eq_true', beq_iff_eq, bne_iff_ne, ne_eq] at h
    obtain ⟨⟨⟨⟨⟨h1, h2⟩, h3⟩, h4⟩, h5⟩, h6⟩ := h
    exact ⟨c, ⟨⟨hc, h2, .inl h3, h4⟩, Option.isNone_iff_eq_none.mp h1, fun l e => by subst e; cases h5⟩, h6⟩

/-- A command from the owner of suite 1, and one from the owner of suite 0. -/
def tenant (u : UnitId) (code arg : Nat) (words : List (BitVec 64)) : State := command house .unit 1 1 u code arg words
def landlord (u : UnitId) (code arg : Nat) (words : List (BitVec 64)) : State := command house .unit 0 1 u code arg words

/-- A command heads the queue, and it and the state once it has left the queue satisfy `p`. -/
def Heads (s : State) (q : CmdQueue) (p : State → Cmd → Bool) : Prop := ∃ c, headCommand (readHead s (cmdQueueNo q)) q = some c ∧ p (taken s q c) c = true

theorem heads_of {s : State} {q : CmdQueue} {p : State → Cmd → Bool}
    (h : (headCommand (readHead s (cmdQueueNo q)) q).any (fun c => p (taken s q c) c) = true) : Heads s q p := by
  unfold Heads
  cases hc : headCommand (readHead s (cmdQueueNo q)) q with
  | none => rw [hc] at h; cases h
  | some c => rw [hc] at h; exact ⟨c, rfl, h⟩

/-- The command names the unit `u`, which need not wait for another module. -/
def names (r : State) (c : Cmd) (u : UnitId) : Bool := (resolve r c.target).map (memberTarget r c) == some (.unit u)

/-- The house as the active member of a pair that runs in step. -/
def pairOf (w : Twin) : State := { house with
  addr := { self := addrAt 0x2000000000000070 2 1 [0] selfElement, paired := true }, twin := w }

def pairHouse : State := pairOf { role := .active, partnerRole := 3, inStep := true, inStepCount := 64 }

/-- STATUS of the module, whose reply is recorded already. -/
def repeated : State := { tenant .module 0x02 0 [] with
  records := [{ unit := .module, target := house.addr.self, tag := 7, replyQueue := 0, atTick := 0, status := stDone, payload := [], code := some 2 }] }

/-- The house as member 0 of a group of depth 1 whose speaker is member 1. -/
def grouped : State := { house with
  addr := { self := addrAt 0x2000000000000070 2 1 [0] selfElement
            groups := [(1, { addr := addrAt 0x2000000000000070 1 1 [] selfElement, speaker := 1, members := [] })] } }

theorem witness_UnitCommandsAreTaken :
    headCommand (readHead house (cmdQueueNo .unit)) .unit = none ∧
    Heads (tenant .module 0x02 0 []) .unit (fun _ c => !(c.code == 0x03)) ∧
    Heads (tenant .pair 0x02 0 []) .unit (fun r c => c.code == 0x02 && resolve r c.target == none) ∧
    Heads { tenant .module 0x60 0 [] with boot := { phase := .recovery } } .unit (fun r c => c.code == 0x60 && names r c .module &&
      r.boot.phase == .recovery && !recoveryAllows r c) ∧
    Heads repeated .unit (fun r c => c.code == 0x02 && names r c .module && r.boot.phase != .recovery && !forwards r c (.unit .module) &&
      (findRecord r .module c.tag c.replyQueue).isSome) ∧
    Heads (command (pairOf { role := .standby }) .unit 0 1 .pair 0x60 0 []) .unit (fun r c => c.code == 0x60 && names r c .pair &&
      r.boot.phase != .recovery && forwards r c (.unit .pair)) ∧
    Heads (command grouped .unit 0 1 (.group 1) 0x05 0 []) .unit (fun r c => c.code == 0x05 && names r c (.group 1) && r.boot.phase != .recovery &&
      !forwards r c (.unit (.group 1)) && (findRecord r (.group 1) c.tag c.replyQueue).isNone && (groupAt r 1).isSome && !speaks r 1 && commands r 0 c) :=
  ⟨by decide, heads_of (by decide), heads_of (by decide), heads_of (by decide), heads_of (by decide), heads_of (by decide), heads_of (by decide)⟩

theorem witness_ReadCommands :
    Meets (tenant .module 0x01 0 []) .unit .module (fun _ c => c.code == 0x01) ∧
    Meets (tenant .module 0x02 0 []) .unit .module (fun r c => c.code == 0x02 && decide (c.arg < (unitWords r .module).length)) ∧
    Meets (tenant inputUnit 0x02 0 []) .unit inputUnit (fun r c => c.code == 0x02 && decide (c.arg < (unitWords (measureUnit r inputUnit) inputUnit).length)) ∧
    Meets (tenant .module 0x03 0 []) .unit .module (fun _ c => c.code == 0x03 && c.arg == 0) ∧
    Meets (tenant .module 0x24 3 [0x101]) .unit .module (fun _ c => c.code == 0x24 && c.suite == (c.word 2).toNat % 2 ^ 6 &&
      !(c.word 2).getLsbD 13 && decide (c.arg < 4)) ∧
    Meets (tenant .module 0x36 3 [1]) .unit .module (fun _ c => c.code == 0x36 && decide (c.arg < 4)) ∧
    Meets (tenant .module 0xE6 4 [0x301]) .unit .module (fun _ c => c.code == 0xE6 && decide (c.arg < 5) && updateSelector c == some (3, 1)) ∧
    Meets (tenant (.part larderPart) 0x40 0 [0x400]) .unit (.part larderPart) (fun r c => c.code == 0x40 && c.arg == 0 &&
      queueOwner r ((c.word 2).toNat % 2 ^ 16) == some 1 && commands r 1 c) ∧
    Meets (tenant (engineUnit 1) 0x50 0 [5]) .unit (engineUnit 1) (fun r c => c.code == 0x50 &&
      commands r (slotAt r ((c.word 2).toNat % 4096)).suite c) ∧
    Meets (tenant (.part { cls := 2, inst := 2 }) 0x70 1 []) .unit (.part { cls := 2, inst := 2 }) (fun _ c => c.code == 0x70 && decide (c.arg < 2)) ∧
    Meets (tenant inputUnit 0xA0 0 []) .unit inputUnit (fun _ c => c.code == 0xA0) ∧
    Meets (tenant (.part cellarPart) 0xC0 0 []) .unit (.part cellarPart) (fun _ c => c.code == 0xC0 && c.arg == 0) ∧
    Meets (tenant atticUnit 0xD0 0 [0x3E0001, 1, 9]) .unit atticUnit (fun _ c => c.code == 0xD0 && c.arg == 0 &&
      c.suite == (c.word 2).toNat % 2 ^ 6 && (c.word 2).toNat / 2 ^ 16 % 2 ^ 6 != 63) :=
  ⟨meets_of (by decide), meets_of (by decide), meets_of (by decide), meets_of (by decide), meets_of (by decide), meets_of (by decide),
    meets_of (by decide), meets_of (by decide), meets_of (by decide), meets_of (by decide), meets_of (by decide), meets_of (by decide),
    meets_of (by decide)⟩

/-- The same with suite 1 otherwise owned, or with a session. -/
def unowned (f : Suite → Suite) (port rank code arg : Nat) (words : List (BitVec 64)) : State :=
  command { house with suites := tmod {} house.suites 1 f, sessions := [{ number := 1, host := 1, suite := 1, rank, port, puts := [], takes := [] }] }
    .unit 1 1 .module code arg words

theorem witness_OwnersAndOwnership :
    Meets (unowned (fun x => { x with owner := none }) 192 3 0x30 0 [1]) .unit .module (fun r c => c.code == 0x30 && c.arg == 0 && hostOf 1 c &&
      (suiteAt r 1).owner == none && (c.word 2).toNat % 2 ^ 6 == 1 && (sessionOf r 1 c.host).isSome) ∧
    Meets (unowned id 194 7 0x30 1 [1]) .unit .module (fun r c => c.code == 0x30 && c.arg == 1 && hostOf 1 c &&
      r.sessions.any (fun y => y.suite == 1 && y.host == c.host && y.rank == 7 && y.port == 194) && (suiteAt r 1).claims == []) ∧
    Meets (unowned (fun x => { x with leaseEnd := { sec := 1, ns := 0 } }) 192 3 0x31 0 [1]) .unit .module (fun r c => c.code == 0x31 && c.arg == 0 &&
      commands r 1 c && (suiteAt r 1).owner.isSome && !reached (now r) (suiteAt r 1).leaseEnd) ∧
    Meets (tenant .module 0x32 0 [1]) .unit .module (fun r c => c.code == 0x32 && c.arg == 0 && commands r 1 c) ∧
    Meets (unowned id 192 3 0x33 0 [1, 1]) .unit .module (fun r c => c.code == 0x33 && c.arg == 0 && commands r 1 c && (suiteAt r 1).owner.isSome &&
      (sessionOf r 1 ((c.word 3).toNat % 2 ^ 16)).isSome) ∧
    Meets (unowned (fun x => { x with handover := some 1 }) 192 3 0x34 0 [1]) .unit .module (fun r c => c.code == 0x34 && c.arg == 0 && hostOf 1 c &&
      (suiteAt r 1).handover == some c.host && decide (r.tick ≤ (suiteAt r 1).handoverUntil) && (sessionOf r 1 c.host).isSome) ∧
    Meets (tenant .module 0x37 0 [1]) .unit .module (fun r c => c.code == 0x37 && c.arg == 0 && hostOf 1 c &&
      (suiteAt r 1).owner == some c.host && decide (6 ≤ (suiteAt r 1).ownerRank)) ∧
    Meets (tenant .module 0x35 2 [1]) .unit .module (fun r c => c.code == 0x35 && c.arg == 2 && (suiteAt r 1).enabled && commands r 1 c) ∧
    Meets (unowned (fun x => { x with owner := some 2 }) 192 3 0x31 0 [1]) .unit .module (fun r c => c.code == 0x31 && !commands r 1 c) ∧
    Meets (landlord inputUnit 0x05 0 []) .unit inputUnit (fun r c => c.code == 0x05 && commands r (unitOwner r inputUnit) c) ∧
    Meets (landlord inputUnit 0x04 0 []) .unit inputUnit (fun r c => c.code == 0x04 && commands r (unitOwner r inputUnit) c &&
      !resetting r (unitOwner r inputUnit)) ∧ (∃ p, inputUnit = .part p ∧ resetBarred p = false) ∧
    Meets (landlord .module 0x04 1 []) .unit .module (fun r c => c.code == 0x04 && c.arg == 1 && commands r 0 c &&
      !(r.twin.role == .active && r.twin.inStep)) ∧
    Meets (command pairHouse .unit 0 1 .module 0x04 2 []) .unit .module (fun r c => c.code == 0x04 && c.arg == 2 && commands r 0 c &&
      r.twin.role == .active && r.twin.inStep) ∧
    Meets (command pairHouse .unit 0 1 .pair 0x04 1 []) .unit .pair (fun r c => c.code == 0x04 && c.arg % 128 == 1 && c.queue != .pair &&
      decide (c.arg < 128) && commands r 0 c && r.twin.role == .active && r.twin.inStep) ∧
    Meets (command pairHouse .unit 0 1 .pair 0x04 130 []) .unit .pair (fun r c => c.code == 0x04 && c.arg % 128 == 2 && c.queue != .pair &&
      decide (128 ≤ c.arg ∧ c.arg < 256) && commands r 0 c) ∧
    Meets (command (pairOf { role := .standby }) .pair 0 1 .pair 0x04 1 []) .pair .pair (fun r c => c.code == 0x04 && c.arg % 128 == 1 &&
      c.queue == .pair && r.twin.role == .standby) ∧
    ({ suiteAt house 1 with owner := none, ownerRank := 0, handover := none, handoverUntil := 0 } : Suite) ≠ suiteDefault 1 :=
  ⟨meets_of (by decide), meets_of (by decide), meets_of (by decide), meets_of (by decide), meets_of (by decide), meets_of (by decide),
    meets_of (by decide), meets_of (by decide), meets_of (by decide), meets_of (by decide), meets_of (by decide), ⟨_, rfl, by decide⟩,
    meets_of (by decide), meets_of (by decide), meets_of (by decide), meets_of (by decide), meets_of (by decide), by decide⟩

/-- What TaskCommands asks besides the command's own row. -/
def oneTask (n k : Nat) (r : State) (c : Cmd) : Bool :=
  (c.word 2).toNat % 2 ^ 6 == n && !(c.word 2).getLsbD 13 && selected r (selectorOf c) == [k] && !resetting r n && commands r n c

/-- The same while the task of suite 1 executes. -/
def whileRunning (code arg : Nat) (words : List (BitVec 64)) : State :=
  command { house with tasks := [(33, boundTask)] } .unit 1 1 .module code arg words

theorem witness_TaskCommands :
    Meets (tenant .module 0x20 1 [0x101]) .unit .module (fun r c => oneTask 1 33 r c && c.code == 0x20 && c.arg == 1 && c.word 3 == 0 &&
      (c.word 4).toNat % 2 ^ 16 == 0 && (taskAt r 33).mode != .run) ∧
    Meets (tenant .module 0x20 4 [0x101]) .unit .module (fun r c => oneTask 1 33 r c && c.code == 0x20 && c.arg == 4 && c.word 3 == 0 &&
      (c.word 4).toNat % 2 ^ 16 == 0 && (taskAt r 33).mode != .run) ∧
    Meets (whileRunning 0x20 2 [0x101]) .unit .module (fun r c => oneTask 1 33 r c && c.code == 0x20 && c.arg == 2 && c.word 3 == 0 &&
      (c.word 4).toNat % 2 ^ 16 == 0 && (taskAt r 33).mode == .run) ∧
    Meets (whileRunning 0x20 3 [0x101]) .unit .module (fun r c => oneTask 1 33 r c && c.code == 0x20 && c.arg == 3 && c.word 3 == 0 &&
      (c.word 4).toNat % 2 ^ 16 == 0 && (taskAt r 33).mode == .run) ∧
    Meets (whileRunning 0x21 3 [0x101, 0x3008, 5]) .unit .module (fun r c => oneTask 1 33 r c && c.code == 0x21 && decide (c.arg < 4) &&
      (c.word 3).toNat % 2 ^ c.arg == 0 && extentIn (suiteAt r 1) (c.word 3).toNat (2 ^ c.arg) (fun g => g == .retain || g == .data)) ∧
    Meets (tenant .module 0x22 1 [0x101, 0x1FF8, 5]) .unit .module (fun r c => oneTask 1 33 r c && c.code == 0x22 && decide (1 ≤ c.arg ∧ c.arg ≤ 32) &&
      decide (32 + 8 * c.arg ≤ c.item.data.length) && (c.word 3).toNat % 8 == 0 &&
      extentIn (suiteAt r 1) (c.word 3).toNat (8 * c.arg) (· == .const) && !(suiteAt r 1).locked) ∧
    Meets (tenant .module 0x23 0 [0x101, 0x10003]) .unit .module (fun r c => oneTask 1 33 r c && c.code == 0x23 && c.arg == 0 &&
      ((c.word 3).toNat / 2 ^ 16 % 2 ^ 16 &&& ((c.word 3).toNat % 2 ^ 16)) == (c.word 3).toNat / 2 ^ 16 % 2 ^ 16) :=
  ⟨meets_of (by decide), meets_of (by decide), meets_of (by decide), meets_of (by decide), meets_of (by decide), meets_of (by decide),
    meets_of (by decide)⟩

/-! ### Witnesses: update and device commands -/

/-- What UpdateCommands asks of a selector. -/
def selectedFor (kind n : Nat) (r : State) (c : Cmd) : Bool :=
  updateSelector c == some (kind, n) && c.arg == 0 && commands r n c && !(suiteAt r n).locked

def notBusy (kind n : Nat) (r : State) : Bool := (updateAt r kind n).phase != .trial && !scheduledUp (updateAt r kind n)

/-- The house with the tenant's image in some state. -/
def updating (x : Update) (code : Nat) (words : List (BitVec 64)) : State :=
  command { house with updates := [(updateKey 3 1, x)] } .unit 1 1 .module code 0 words

theorem witness_UpdateCommands :
    Meets (updating {} 0xE0 [0x1000000301]) .unit .module (fun r c => selectedFor 3 1 r c && notBusy 3 1 r && c.code == 0xE0 &&
      (c.word 2).toNat / 2 ^ 32 != 0 && stagingRoom r 3 1 ((c.word 2).toNat / 2 ^ 32)) ∧
    Meets (updating { phase := .staging, stagedLen := 16 } 0xE1 [0x800000301, 7]) .unit .module (fun r c => selectedFor 3 1 r c && notBusy 3 1 r &&
      c.code == 0xE1 && (c.word 2).toNat / 2 ^ 32 % 8 == 0 && decide (8 ≤ (c.item.data.drop 24).length ∧ (c.item.data.drop 24).length ≤ 456) &&
      (c.item.data.drop 24).length % 8 == 0 &&
      decide ((c.word 2).toNat / 2 ^ 32 + (c.item.data.drop 24).length ≤ (updateAt r 3 1).stagedLen)) ∧
    Meets (updating { phase := .staging, stagedLen := 16 } 0xE2 [0x301]) .unit .module (fun r c => selectedFor 3 1 r c && notBusy 3 1 r && c.code == 0xE2) ∧
    Meets (updating { phase := .checked, stagedLen := 16, checkedImg := true } 0xE3 [0xE1000000301, 0x100000000, 0, 0x200]) .unit .module (fun r c =>
      selectedFor 3 1 r c && notBusy 3 1 r && c.code == 0xE3 && decide ((c.word 2).toNat / 2 ^ 32 % 2 ^ 16 ≤ 3600) &&
      (c.word 4).toNat / 2 ^ 16 % 2 ^ 16 == 0 && (interlocksOf c).all isPoint && !activationOpen r 3 1 && (updateAt r 3 1).checkedImg &&
      !mustTogether r (.unit .module) 3 (stagedImage (updateAt r 3 1)) && activateAtOk r (ofNowForm (c.word 3) ((c.word 4).toNat % 2 ^ 16))) ∧
    Meets (updating { phase := .staging, stagedLen := 16 } 0xE5 [0x301]) .unit .module (fun r c => selectedFor 3 1 r c && notBusy 3 1 r &&
      c.code == 0xE5 && (updateAt r 3 1).phase != .activating) ∧
    Meets (updating { phase := .trial } 0xE4 [0x301]) .unit .module (fun r c => selectedFor 3 1 r c && c.code == 0xE4 && (updateAt r 3 1).phase == .trial) ∧
    Meets (updating { phase := .waiting } 0xE5 [0x301]) .unit .module (fun r c => selectedFor 3 1 r c && c.code == 0xE5 && scheduledUp (updateAt r 3 1)) ∧
    Meets (updating { phase := .trial } 0xE5 [0x301]) .unit .module (fun r c => selectedFor 3 1 r c && c.code == 0xE5 && (updateAt r 3 1).phase == .trial) ∧
    Meets (command { house with updates := [(updateKey 1 0, { phase := .trial, current := some { length := 64, bytes := [] } })] }
        .unit 0 1 .module 0xE4 0 [0x100]) .unit .module (fun r c => selectedFor 1 0 r c && c.code == 0xE4 && (updateAt r 1 0).phase == .trial &&
      decide (r.cellar.antiroll < ((updateAt r 1 0).current.map (·.rollback)).getD 0)) :=
  ⟨meets_of (by decide), meets_of (by decide), meets_of (by decide), meets_of (by decide), meets_of (by decide), meets_of (by decide),
    meets_of (by decide), meets_of (by decide), meets_of (by decide)⟩

/-- A frame offered on a slot. -/
def offeredFrame (attempting : Bool) : Offered := {
  item := 0, tag := 9, replyQueue := 0, lifetimeUs := 0, entered := t0, suite := 1, attempting := attempting,
  frame := { format := 0, id := 5, ide := false, rtr := false, brs := false, esi := false, xlSec := false, dlc := 0, sdt := 0, vcid := 0, af := 0,
             data := [], sofAgo := 0 } }

/-- The house with a frame waiting on slot 2 of Hallway port 1, a METER circuit enabled, and the floor quiet. -/
def hallOf (attempting : Bool) : State := { house with
  halls := [(1, { slots := [(2, { valid := true, suite := 1 })], offered := [(2, offeredFrame attempting)] })]
  meter := { circuits := [(3, { cfg := { enable := true } })] }
  sw := { quiet := .quiet } }

def hallHouse : State := hallOf false

def port0 : UnitId := .part { cls := 1, inst := 0 }
def hall1 : UnitId := .part { cls := 3, inst := 1 }

theorem witness_DeviceCommands :
    Meets (tenant (.part larderPart) 0x41 0 [0x400]) .unit (.part larderPart) (fun r c => c.code == 0x41 && c.arg == 0 &&
      queueOwner r ((c.word 2).toNat % 2 ^ 16) == some 1 && commands r 1 c && !(queueAt r ((c.word 2).toNat % 2 ^ 16)).qfault) ∧
    Meets (command { house with larder := { queues := [(0x400, { depth := 4, qfault := true })] } } .unit 1 1 (.part larderPart) 0x41 0 [0x400]) .unit (.part larderPart) (fun r c =>
      c.code == 0x41 && c.arg == 0 && queueOwner r ((c.word 2).toNat % 2 ^ 16) == some 1 && commands r 1 c &&
      (queueAt r ((c.word 2).toNat % 2 ^ 16)).qfault) ∧
    Meets (command pairHouse .unit 0 1 .pair 0x60 0 []) .unit .pair (fun r c => commands r 0 c && c.arg == 0 && !(suiteAt r 0).locked &&
      c.code == 0x60 && r.twin.inStep && decide (64 ≤ r.twin.inStepCount)) ∧
    Meets (command pairHouse .unit 0 1 .pair 0x61 0 []) .unit .pair (fun r c => commands r 0 c && c.arg == 0 && !(suiteAt r 0).locked &&
      c.code == 0x61 && r.twin.partnerRole == 3) ∧
    Meets (landlord (engineUnit 6) 0x71 0 []) .unit (engineUnit 6) (fun r c => c.code == 0x71 && commands r 0 c && r.sw.quiet == .awake) ∧
    Meets (command hallHouse .unit 1 1 (engineUnit 6) 0x72 0 []) .unit (engineUnit 6) (fun r c => c.code == 0x72 && (suiteAt r c.suite).enabled &&
      commands r c.suite c && r.sw.quiet != .awake) ∧
    Meets (landlord clockUnit 0x80 0 [0, 0x08010624]) .unit clockUnit (fun r c => c.code == 0x80 && commands r 0 c && r.twin.role != .standby &&
      c.arg == 0 && incrementOk ((c.word 3).toNat % 2 ^ 32)) ∧
    Meets (landlord clockUnit 0x80 1 [0, 0x107FEF9DC]) .unit clockUnit (fun r c => c.code == 0x80 && commands r 0 c && r.twin.role != .standby &&
      c.arg == 1 && incrementOk ((c.word 3).toNat % 2 ^ 32) && (c.word 3).toNat / 2 ^ 32 != 0) ∧
    Meets (landlord clockUnit 0x80 2 [0, 5]) .unit clockUnit (fun r c => c.code == 0x80 && commands r 0 c && r.twin.role != .standby && c.arg == 2) ∧
    Meets (command hallHouse .unit 1 1 (.part { cls := 3, inst := 1 }) 0x90 0 [0x90002]) .unit (.part { cls := 3, inst := 1 }) (fun r c =>
      c.code == 0x90 && commands r (tget {} (hallAt r 1).slots ((c.word 2).toNat % 16)).suite c && !(hallAt r 1).cfg.trunk &&
      (tlook (hallAt r 1).offered ((c.word 2).toNat % 16)).any (fun o => o.tag == (c.word 2).toNat / 2 ^ 16 % 2 ^ 16 && !o.attempting)) ∧
    Meets (command (hallOf true) .unit 1 1 (.part { cls := 3, inst := 1 }) 0x90 0 [0x90002]) .unit (.part { cls := 3, inst := 1 }) (fun r c =>
      c.code == 0x90 && commands r (tget {} (hallAt r 1).slots ((c.word 2).toNat % 16)).suite c && !(hallAt r 1).cfg.trunk &&
      (tlook (hallAt r 1).offered ((c.word 2).toNat % 16)).any (fun o => o.tag == (c.word 2).toNat / 2 ^ 16 % 2 ^ 16 && o.attempting)) ∧
    Meets (command hallHouse .unit 0 1 meterUnit 0xB0 0 [3]) .unit meterUnit (fun r c => c.code == 0xB0 &&
      mayRead r c.suite (quantity ((c.word 2).toNat % 8) 32) && (circuitAt r ((c.word 2).toNat % 8)).cfg.enable) ∧
    Meets (command { house with cellar := { lifecycle := 7 }, sessions := [{ number := 1, host := 1, suite := 0, rank := 7, port := 194, puts := [], takes := [] }] }
        .unit 0 1 (.part cellarPart) 0xC1 15 []) .unit (.part cellarPart) (fun r c => c.code == 0xC1 && c.arg == 15 && ownerOverSvc r c &&
      r.cellar.lifecycle == 7 && (settleLifecycle (readBack (programLifecycle r 15) { marginal := [] })).value == 15 &&
      !(settleLifecycle (readBack (programLifecycle r 15) { marginal := [] })).marginal) ∧
    Meets (landlord (.part cellarPart) 0xC2 0 []) .unit (.part cellarPart) (fun r c => c.code == 0xC2 && c.arg == 0 && commands r 0 c) ∧
    Meets (tenant atticUnit 0xD1 0 [1, 9]) .unit atticUnit (fun r c => c.code == 0xD1 && c.arg == 0 && commands r ((c.word 2).toNat % 64) c) ∧
    Meets (landlord port0 0xF0 1 [0x400001]) .unit port0 (fun r c => loopUnit port0 && c.code == 0xF0 && commands r 0 c &&
      decide (1 ≤ c.arg ∧ c.arg ≤ 3) && (c.word 2).toNat % 2 ^ 16 != 0 && lengthOk r port0 ((c.word 2).toNat / 2 ^ 16 % 2 ^ 16) &&
      !loopBarred r port0 c.arg) :=
  ⟨meets_of (by decide), meets_of (by decide), meets_of (by decide), meets_of (by decide), meets_of (by decide), meets_of (by decide),
    meets_of (by decide), meets_of (by decide), meets_of (by decide), meets_of (by decide), meets_of (by decide), meets_of (by decide),
    meets_of (by decide), meets_of (by decide), meets_of (by decide), meets_of (by decide)⟩

/-! ### Witnesses: configuration requests -/

/-- A configuration request at the head of the sequencer: code, target and the words after them. -/
def asking (s : State) (c : Nat) (target : BitVec 64) (code : Nat) (words : List (BitVec 64)) : State :=
  { s with seq := { s.seq with reqs := [{ ctx := c, ticket := 5, words := target :: BitVec.ofNat 64 code :: words }] } }

/-- A request is served for the unit `u`, and it and the state once it has been taken satisfy `p`. -/
def Asks (s : State) (c : Nat) (u : UnitId) (p : State → CfgReq → Bool) : Prop := ∃ r, ConfiguresUnit s c r u ∧ p (takeRequest s r) r = true

/-- The same where only the issuing suite's own lock counts. -/
def AsksOwn (s : State) (c : Nat) (u : UnitId) (p : State → CfgReq → Bool) : Prop := ∃ r, ConfiguresOwn s c r u ∧ p (takeRequest s r) r = true

/-- The same for any target. -/
def AsksAny (s : State) (c : Nat) (p : State → CfgReq → Bool) : Prop := ∃ r, Configures s c r ∧ p (takeRequest s r) r = true

/-- The same as a test. -/
def asksAny (s : State) (c : Nat) (p : State → CfgReq → Bool) : Bool :=
  match headRequest s c with
  | none => false
  | some r => !s.seq.waiting.any (fun w => w.req.ctx == c) && (!inPass (takeRequest s r) r || (takeRequest s r).seq.passFailed.isNone) &&
      p (takeRequest s r) r

def asks (s : State) (c : Nat) (u : UnitId) (p : State → CfgReq → Bool) : Bool :=
  asksAny s c (fun b r => resolve b (r.word 0) == some (.unit u) && !(suiteAt b 0).locked && p b r)

theorem asksAny_of {s : State} {c : Nat} {p : State → CfgReq → Bool} (h : asksAny s c p = true) : AsksAny s c p := by
  unfold asksAny at h
  split at h
  · cases h
  · rename_i r hr
    simp only [Bool.and_eq_true, Bool.not_eq_true', Bool.or_eq_true] at h
    obtain ⟨⟨h1, h2⟩, h3⟩ := h
    refine ⟨r, ⟨hr, h1, fun e => ?_⟩, h3⟩
    rcases h2 with h2 | h2
    · rw [e] at h2; cases h2
    · exact Option.isNone_iff_eq_none.mp h2

theorem asks_of {s : State} {c : Nat} {u : UnitId} {p : State → CfgReq → Bool} (h : asks s c u p = true) : Asks s c u p := by
  obtain ⟨r, hr, h'⟩ := asksAny_of h
  simp only [Bool.and_eq_true, Bool.not_eq_true', beq_iff_eq] at h'
  exact ⟨r, ⟨⟨hr, h'.1.1⟩, h'.1.2⟩, h'.2⟩

def asksOwn (s : State) (c : Nat) (u : UnitId) (p : State → CfgReq → Bool) : Bool :=
  asksAny s c (fun b r => resolve b (r.word 0) == some (.unit u) && !(suiteAt b r.suite).locked && p b r)

theorem asksOwn_of {s : State} {c : Nat} {u : UnitId} {p : State → CfgReq → Bool} (h : asksOwn s c u p = true) : AsksOwn s c u p := by
  obtain ⟨r, hr, h'⟩ := asksAny_of h
  simp only [Bool.and_eq_true, Bool.not_eq_true', beq_iff_eq] at h'
  exact ⟨r, ⟨⟨hr, h'.1.1⟩, h'.1.2⟩, h'.2⟩

/-- The house while the configuration pass is open. -/
def passing : State := { house with seq := { passOpen := true } }

/-- A pass that has failed. -/
def failedPass : State := { house with seq := { passOpen := true, passFailed := some 3 } }

theorem witness_ConfigurationOrder : headRequest house 0 = none ∧
    (∃ r, headRequest (asking house 33 house.addr.self 0x16 []) 33 = some r ∧ r.code ≠ 0x15) ∧
    (∃ r, headRequest (asking failedPass 0 house.addr.self 0x16 []) 0 = some r ∧ r.code = 0x16 ∧
      failedPass.seq.waiting.any (fun w => w.req.ctx == 0) = false ∧
      inPass (takeRequest (asking failedPass 0 house.addr.self 0x16 []) r) r = true ∧
      (takeRequest (asking failedPass 0 house.addr.self 0x16 []) r).seq.passFailed ≠ none) ∧
    AsksAny (asking house 33 0 0x16 []) 33 (fun b r => r.code == 0x16 && (resolve b (r.word 0)).isNone &&
      !(suiteAt b 0).locked) ∧
    (contextAt { house with tasks := tmod {} house.tasks 33 (fun t => { t with ctx := { t.ctx with steps := 4 } }) } 33).steps ≠ 0 ∧
    inPass passing { ctx := 0, ticket := 5, words := [] } = true ∧ (stRefused .range).cls ≠ .done ∧ passing.seq.passFailed = none :=
  ⟨by decide, ⟨_, rfl, by decide⟩, ⟨_, rfl, by decide, by decide, by decide, by decide⟩, asksAny_of (by decide), by decide, by decide, by decide,
    by decide⟩

/-- The house at an address of depth 2, without a partner. -/
def deepHouse : State := { house with addr := { self := pairHouse.addr.self } }

set_option maxRecDepth 4000 in
theorem witness_ModuleConfiguration :
    Asks (asking passing 0 passing.addr.self 0x01 [addrAt house.addr.self 2 1 [0] selfElement, 1]) 0 .module (fun b r => r.code == 0x01 && inPass b r &&
      addrWellFormed (r.word 2) && addrDepth (r.word 2) != 1 && unitAddressOk b (r.word 2) ((r.word 3).getLsbD 0)) ∧
    Asks (asking house 33 house.addr.self 0x15 [0xFF06A40672]) 33 .module (fun _ r => r.code == 0x15 && !(r.word 2).getLsbD 40 &&
      decide (1650 ≤ fld (r.word 2) 0 16 ∧ fld (r.word 2) 0 16 ≤ 2000 ∧ fld (r.word 2) 0 16 + 50 ≤ fld (r.word 2) 16 16) &&
      fld (r.word 2) 32 8 != 0) ∧
    Asks (asking house 33 house.addr.self 0x16 []) 33 .module (fun _ r => r.code == 0x16) ∧
    Asks (asking passing 0 house.addr.self 0x17 []) 0 .module (fun b r => r.code == 0x17 && inPass b r && b.seq.passFailed.isNone) ∧
    Asks (asking house 0 house.addr.self 0x17 []) 0 .module (fun b r => r.code == 0x17 && !inPass b r) ∧
    (∃ r, headRequest (asking failedPass 0 house.addr.self 0x17 []) 0 = some r ∧ r.code = 0x17 ∧
      inPass (takeRequest (asking failedPass 0 house.addr.self 0x17 []) r) r = true ∧
      (takeRequest (asking failedPass 0 house.addr.self 0x17 []) r).seq.passFailed = some 3) ∧
    Asks (asking passing 0 house.addr.self 0x03 [0x4000000000042, 0x1000000010000, 0x300020001, 0x4000800, 0x1001, 0]) 0 .module (fun b r =>
      r.code == 0x03 && suiteFieldsOk (suiteFields r (suiteAt b (fld (r.word 2) 0 6))) &&
      suiteApart b (fld (r.word 2) 0 6) (suiteFields r (suiteAt b (fld (r.word 2) 0 6))) &&
      !suiteBusy b (fld (r.word 2) 0 6) (suiteAt b (fld (r.word 2) 0 6)) (suiteFields r (suiteAt b (fld (r.word 2) 0 6)))) ∧
    AsksAny (asking deepHouse 0 (addrAt 0x2000000000000070 1 1 [] selfElement) 0x02 [addrAt 0x2000000000000070 1 1 [] selfElement, 0, 3, 0, 0, 0]) 0
      (fun b r => r.code == 0x02 && !(suiteAt b 0).locked && groupAddress (r.word 2) && r.word 0 == r.word 2 &&
        groupOk b (r.word 2) (fld (r.word 3) 0 8) ((rangeFrom 4 4).map r.word)) ∧
    AsksAny (asking house 0 (addrAt house.addr.self 1 1 [] 0x301) 0x05 [0x801, 6]) 0 (fun b r => r.code == 0x05 &&
      pointTarget b (r.word 0) == some 0x301 && (pointRefusal r b 0x301
        { owner := fld (r.word 2) 0 6, type := fld (r.word 2) 8 3, retained := (r.word 2).getLsbD 11, exportMap := r.word 3 }).isNone) ∧
    Asks (asking pairHouse 0 (unitAddr pairHouse landingUnit) 0x14 [0x3040014, 0]) 0 landingUnit (fun b r => r.code == 0x14 &&
      decide (4 ≤ fld (r.word 2) 16 8) && b.addr.paired &&
      !(loadedTasks b).any (fun e => e.2.desc.cam && !timingOk e.2.desc (windowFor b (fld (r.word 2) 0 16)))) :=
  ⟨asks_of (by decide), asks_of (by decide), asks_of (by decide), asks_of (by decide), asks_of (by decide),
    ⟨_, rfl, by decide, by decide, by decide⟩, asks_of (by decide), asksAny_of (by decide), asksAny_of (by decide), asks_of (by decide)⟩

/-- The program of suite 1 is one END, and its tasks and queues have room. -/
def coded : State := { house with sram := writeBytes house.sram 0 (bytesOf 4 ((insnWord (.endCycle 0 { rd := 0, rs1 := 0, rs2 := 0 })).getD 0).toNat) }

/-- The timing word of a Hallway port: BRP, SEG1, SEG2 and SJW. -/
def bitWord (brp seg1 seg2 : Nat) : BitVec 64 := pack [(0, 9, brp), (9, 9, seg1), (18, 8, seg2), (26, 8, seg2)]

/-- The body of a CFG_TASK for task 2 of suite 1 on core 0: period 1000, commit offset 950, deadline 900, budget 800 µs. -/
def taskWords (flags : Nat) : List (BitVec 64) :=
  [pack [(0, 5, 2), (5, 6, 1), (15, 9, flags)], pack [(0, 26, 1000)], pack [(0, 26, 950), (32, 26, 900)], pack [(0, 40, 800000)]]

theorem witness_QueueTaskAndPortConfiguration :
    AsksOwn (asking house 0 (unitAddr house (.part larderPart)) 0x04 [0x500, pack [(0, 16, 4), (16, 12, 64), (28, 8, 1)], 4, 1]) 0 (.part larderPart)
      (fun b r => r.suite == 0 && r.code == 0x04 && !(r.word 2).getLsbD 16 && queueOwner b (fld (r.word 2) 0 16) == some 1 &&
        queueFieldsOk (queueFields r (queueAt b (fld (r.word 2) 0 16))) && !fixedQueue (fld (r.word 2) 0 16) &&
        !(queueAt b (fld (r.word 2) 0 16)).qfault && !resetting b 1 &&
        !queueBusy b (fld (r.word 2) 0 16) (queueAt b (fld (r.word 2) 0 16)) (queueFields r (queueAt b (fld (r.word 2) 0 16))) &&
        decide (linesInUse b 1 - queueLines (queueAt b (fld (r.word 2) 0 16)) + queueLines (queueFields r (queueAt b (fld (r.word 2) 0 16))) ≤
          limitOf b 1)) ∧
    AsksOwn (asking house 0 (unitAddr house (.part larderPart)) 0x04 [0x10000, pack [(0, 6, 1), (8, 20, 6144)], 0, 0]) 0 (.part larderPart)
      (fun b r => r.suite == 0 && r.code == 0x04 && (r.word 2).getLsbD 16 && fld (r.word 2) 0 16 == 0 && r.word 4 == 0 && r.word 5 == 0 &&
        !resetting b (fld (r.word 3) 0 6) &&
        decide ((((List.range 64).filter (· != fld (r.word 3) 0 6)).map (limitOf b)).sum + fld (r.word 3) 8 20 ≤ 524288) &&
        decide (linesInUse b (fld (r.word 3) 0 6) ≤ fld (r.word 3) 8 20)) ∧
    AsksOwn (asking { house with tasks := tmod {} house.tasks 33 (fun t => { t with mode := .stop }) } 0 (unitAddr house (.part { cls := 4, inst := 0 }))
        0x06 [pack [(0, 5, 1), (5, 6, 1), (18, 1, 1)]]) 0 (.part { cls := 4, inst := 0 })
      (fun b r => r.code == 0x06 && r.suite == 0 && !resetting b 1 && (suiteAt b 1).enabled &&
        ctxKey (fld (r.word 2) 5 6) (fld (r.word 2) 0 5) == 33 && (taskAt b 33).mode == .stop && (r.word 2).getLsbD 18) ∧
    AsksOwn (asking coded 0 (unitAddr coded (.part { cls := 4, inst := 0 })) 0x06 (taskWords 0x10)) 0 (.part { cls := 4, inst := 0 })
      (fun b r => r.code == 0x06 && r.suite == 0 && ctxKey (fld (r.word 2) 5 6) (fld (r.word 2) 0 5) == 34 && fld (r.word 2) 5 6 == 1 &&
        !resetting b 1 && (suiteAt b 1).enabled && !(r.word 2).getLsbD 18 && (taskAt b 34).mode == .notLoaded && listError b (suiteAt b 1) r == none &&
        bodyOk b r (suiteAt b 1) (taskBody r 0) && entriesOk (withLists b (suiteAt b 1) r (taskBody r 0)) &&
        bindingFree (unbindTask b 34 (withLists b (suiteAt b 1) r (taskBody r 0))) 34 (withLists b (suiteAt b 1) r (taskBody r 0)) &&
        sharesOk b (withLists b (suiteAt b 1) r (taskBody r 0)) &&
        (bindTask (unbindTask b 34 (withLists b (suiteAt b 1) r (taskBody r 0))) 34 (withLists b (suiteAt b 1) r (taskBody r 0))).2 &&
        !b.boot.coreFail.getLsbD (withLists b (suiteAt b 1) r (taskBody r 0)).core && !(roomAt b 0).fault &&
        (match analyse (codeView b 1) (withLists b (suiteAt b 1) r (taskBody r 0)).entry with
          | .worst m => admits b 34 { withLists b (suiteAt b 1) r (taskBody r 0) with worst := m }
          | _ => false)) ∧
    (∃ a, analyse (codeView house 1) 0x8000 = .refused a ∧ uncorrectableIn house ((suiteAt house 1).winBase + a) 4 = none) ∧
    Asks (asking house 0 (unitAddr house port0) 0x07 [pack [(8, 12, 1), (20, 11, 64), (48, 16, 1)]]) 0 port0 (fun _ r => r.code == 0x07 &&
      macFieldsOk (portFields r) && powerFieldsOk (portFields r)) ∧
    Asks (asking house 0 (unitAddr house (engineUnit 6)) 0x08 [pack [(0, 3, 4), (5, 14, 1), (19, 16, 0x400)]]) 0 (engineUnit 6) (fun b r =>
      r.code == 0x08 && fwdIndexOk (fld (r.word 2) 0 3) (fld (r.word 2) 5 14) && fwdOp r == 0 && fld (r.word 2) 0 3 == 4 &&
      !fwdBusy b (acceptedTables b) (fwdOp r == 1) (fld (r.word 2) 0 3) (fld (r.word 2) 5 14) r &&
      fwdInRange b (acceptedTables b) (fld (r.word 2) 0 3) (fld (r.word 2) 5 14) r && !fwdForeign b (acceptedTables b) (fld (r.word 2) 0 3) r) ∧
    Asks (asking house 0 (unitAddr house (engineUnit 6)) 0x08 [pack [(0, 3, 7), (5, 14, 3)], pack [(16, 16, 1000)]]) 0 (engineUnit 6) (fun b r =>
      r.code == 0x08 && fwdIndexOk (fld (r.word 2) 0 3) (fld (r.word 2) 5 14) && fwdOp r == 0 && fld (r.word 2) 0 3 == 7 &&
      !fwdBusy b (acceptedTables b) (fwdOp r == 1) (fld (r.word 2) 0 3) (fld (r.word 2) 5 14) r &&
      fwdInRange b (acceptedTables b) (fld (r.word 2) 0 3) (fld (r.word 2) 5 14) r && !fwdForeign b (acceptedTables b) (fld (r.word 2) 0 3) r) ∧
    Asks (asking house 0 (unitAddr house (engineUnit 6)) 0x08 [pack [(0, 3, 1), (5, 14, 1023)], 7]) 0 (engineUnit 6) (fun b r =>
      r.code == 0x08 && fwdIndexOk (fld (r.word 2) 0 3) (fld (r.word 2) 5 14) && fwdOp r == 0 && decide (fld (r.word 2) 0 3 < 4) &&
      !fwdBusy b (acceptedTables b) (fwdOp r == 1) (fld (r.word 2) 0 3) (fld (r.word 2) 5 14) r &&
      fwdInRange b (acceptedTables b) (fld (r.word 2) 0 3) (fld (r.word 2) 5 14) r && !fwdForeign b (acceptedTables b) (fld (r.word 2) 0 3) r) ∧
    Asks (asking house 0 (unitAddr house (engineUnit 6)) 0x08 [pack [(0, 3, 3), (3, 2, 1), (5, 14, 9)]]) 0 (engineUnit 6) (fun b r =>
      r.code == 0x08 && fwdIndexOk (fld (r.word 2) 0 3) (fld (r.word 2) 5 14) && fwdOp r == 1 && decide (fld (r.word 2) 0 3 < 4) &&
      !fwdBusy b (acceptedTables b) (fwdOp r == 1) (fld (r.word 2) 0 3) (fld (r.word 2) 5 14) r) ∧
    Asks (asking house 0 (unitAddr house (.part { cls := 2, inst := 0 })) 0x09 [pack [(13, 3, 1), (16, 3, 4), (22, 12, 1), (34, 11, 64)],
        pack [(16, 16, 1)]]) 0 (.part { cls := 2, inst := 0 }) (fun _ r => r.code == 0x09 && uplinkOk 0 (uplinkFields r) (uplinkPortFields r)) ∧
    Asks (asking house 0 (unitAddr house clockUnit) 0x0A [0, 0x5000000000]) 0 clockUnit (fun b r => r.code == 0x0A && b.twin.role != .standby &&
      fld (r.word 2) 0 2 == 0 && decide ((ofNowForm (r.word 3) (fld (r.word 2) 16 16)).ns < giga) && !b.clock.isSet) ∧
    Asks (asking { house with clock := { isSet := true } } 0 (unitAddr house clockUnit) 0x0A [0, 1000000]) 0 clockUnit (fun b r => r.code == 0x0A &&
      b.twin.role != .standby && fld (r.word 2) 0 2 == 0 && b.clock.isSet &&
      decide ((tdiff (ofNowForm (r.word 3) (fld (r.word 2) 16 16)) (now b)).natAbs ≤ b.clock.threshold)) ∧
    Asks (asking { house with clock := { isSet := true } } 0 (unitAddr house clockUnit) 0x0A [4, 1000001]) 0 clockUnit (fun b r => r.code == 0x0A &&
      b.twin.role != .standby && fld (r.word 2) 0 2 == 0 && b.clock.isSet && (r.word 2).getLsbD 2) ∧
    Asks (asking { house with clock := { isSet := true } } 0 (unitAddr house clockUnit) 0x0A [0, 1000001]) 0 clockUnit (fun b r => r.code == 0x0A &&
      b.twin.role != .standby && fld (r.word 2) 0 2 == 0 && b.clock.isSet && !(r.word 2).getLsbD 2 &&
      decide (b.clock.threshold < (tdiff (ofNowForm (r.word 3) (fld (r.word 2) 16 16)) (now b)).natAbs)) ∧
    Asks (asking house 0 (unitAddr house clockUnit) 0x0A [1, 1000001]) 0 clockUnit (fun b r => r.code == 0x0A && b.twin.role != .standby &&
      fld (r.word 2) 0 2 == 1 && !(r.word 2).getLsbD 2 && decide (b.clock.threshold < (sfld (r.word 3) 0 64).natAbs)) ∧
    Asks (asking house 0 (unitAddr house clockUnit) 0x0A [1, -1000000]) 0 clockUnit (fun b r => r.code == 0x0A && b.twin.role != .standby &&
      fld (r.word 2) 0 2 == 1 && decide ((sfld (r.word 3) 0 64).natAbs ≤ b.clock.threshold)) ∧
    Asks (asking house 0 (unitAddr house clockUnit) 0x0A [2, 4000000000]) 0 clockUnit (fun b r => r.code == 0x0A && b.twin.role != .standby &&
      fld (r.word 2) 0 2 == 2 && decide (1000 ≤ fld (r.word 3) 0 32 ∧ fld (r.word 3) 0 32 ≤ 4000000000)) ∧
    Asks (asking house 0 (unitAddr house clockUnit) 0x0A [0x0801062400000003]) 0 clockUnit (fun b r => r.code == 0x0A && b.twin.role != .standby &&
      fld (r.word 2) 0 2 == 3 && incrementOk (fld (r.word 2) 32 32)) ∧
    Asks (asking house 0 (unitAddr house hall1) 0x0B [0, bitWord 1 63 16, bitWord 1 7 2, bitWord 1 7 2, pack [(16, 16, 1000), (32, 16, 2000)]]) 0 hall1 (fun b r => r.code == 0x0B &&
      fld (r.word 2) 0 2 == 0 && hallOk (hallFields r) && attempting b 1 == none) ∧
    Asks (asking house 0 (unitAddr house hall1) 0x0B [pack [(0, 2, 1), (2, 6, 63), (13, 6, 1)]]) 0 hall1 (fun b r => r.code == 0x0B &&
      fld (r.word 2) 0 2 == 1 && !(filterFields r).valid && !resetting b (filterFields r).suite) ∧
    Asks (asking house 0 (unitAddr house hall1) 0x0B [pack [(0, 2, 2), (2, 4, 15), (7, 6, 1)]]) 0 hall1 (fun b r => r.code == 0x0B &&
      fld (r.word 2) 0 2 == 2 && !(hallSlotFields r).valid && !resetting b (hallSlotFields r).suite &&
      (tlook (hallAt b 1).offered (fld (r.word 2) 2 4)).isNone) ∧
    Asks (asking hallHouse 0 (unitAddr house hall1) 0x0B [pack [(0, 2, 2), (2, 4, 2), (7, 6, 1)]]) 0 hall1 (fun b r => r.code == 0x0B &&
      fld (r.word 2) 0 2 == 2 && !(hallSlotFields r).valid && !resetting b (hallSlotFields r).suite &&
      (tlook (hallAt b 1).offered (fld (r.word 2) 2 4)).isSome) :=
  ⟨asksOwn_of (by decide), asksOwn_of (by decide), asksOwn_of (by decide), asksOwn_of (by decide),
    ⟨_, rfl, by decide⟩, asks_of (by decide), asks_of (by decide), asks_of (by decide), asks_of (by decide), asks_of (by decide), asks_of (by decide),
    asks_of (by decide), asks_of (by decide), asks_of (by decide), asks_of (by decide), asks_of (by decide), asks_of (by decide),
    asks_of (by decide), asks_of (by decide), asks_of (by decide), asks_of (by decide), asks_of (by decide), asks_of (by decide)⟩

/-- The house with the Hearth slot of suite 1 off every task's list. -/
def freeSlots : State := { house with tasks := [], points := [] }

def hearth1 : UnitId := .part hearthPart

/-- The house with bank 5 enabled, and the inputs of block 1 counting. -/
def counting : State := { house with
  banks := [(5, { cfg := { enable := true } })], inputs := { blocks := [(1, { enable := 0xFF, countEn := 0xFF })] } }

theorem witness_UtilityAndHouseConfiguration :
    Asks (asking house 0 (unitAddr house inputUnit) 0x0C [pack [(0, 3, 1), (8, 8, 0xFF), (16, 16, 10), (40, 8, 0xFF)], 3600]) 0 inputUnit
      (fun _ r => r.code == 0x0C && inputOk (fld (r.word 2) 0 3) (inputFields r)) ∧
    Asks (asking house 0 (unitAddr house (.part { cls := 7, inst := 5 })) 0x0D [pack [(0, 2, 2), (2, 1, 1), (4, 14, 10000), (18, 8, 1)],
        pack [(0, 16, 60000)]]) 0 (.part { cls := 7, inst := 5 })
      (fun b r => r.code == 0x0D && bankOk b 5 (bankFields r) && !(bankAt b 5).cfg.enable && (bankFields r).enable) ∧
    Asks (asking house 0 (unitAddr house (.part { cls := 7, inst := 15 })) 0x0E [pack [(32, 16, 3600)]]) 0 (.part { cls := 7, inst := 15 })
      (fun b r => r.code == 0x0E && fld (r.word 2) 0 2 == 0 && circuitOk 7 (circuitFields r) && !(circuitFields r).enable &&
        !ownerBusy b (circuitFields r).owner && (circuitFields r).owner == (acceptedCircuit b 7).owner) ∧
    Asks (asking house 0 (unitAddr house (.part { cls := 7, inst := 8 })) 0x0E [pack [(2, 6, 0), (32, 16, 60)]]) 0 (.part { cls := 7, inst := 8 })
      (fun b r => r.code == 0x0E && fld (r.word 2) 0 2 == 0 && circuitOk 0 (circuitFields r) && !ownerBusy b (circuitFields r).owner &&
        (circuitFields r).owner == (acceptedCircuit b 0).owner) ∧
    Asks (asking counting 0 (unitAddr house (.part { cls := 7, inst := 9 })) 0x0E [pack [(0, 2, 1), (2, 2, 3), (5, 3, 4), (8, 8, 250)], 10000000]) 0
      (.part { cls := 7, inst := 9 }) (fun b r => r.code == 0x0E && fld (r.word 2) 0 2 == 1 && fld (r.word 2) 2 2 == 3 && decide ((pulseFields 1 r).source ≤ 4) &&
        decide (2 ≤ (pulseFields 1 r).widthMs ∧ (pulseFields 1 r).widthMs ≤ 250) &&
        decide (1 ≤ (pulseFields 1 r).weight ∧ (pulseFields 1 r).weight ≤ 10000000) && (bankAt b 5).cfg.enable && !safeOn b 47 &&
        !(loadedTasks b).any (fun t => t.2.desc.outList.contains (0x40 + 47))) ∧
    Asks (asking counting 0 (unitAddr house (.part { cls := 7, inst := 8 })) 0x0E [pack [(0, 2, 2), (2, 4, 15), (7, 6, 1), (13, 1, 1)], 1000000000, 77]) 0
      (.part { cls := 7, inst := 8 }) (fun b r => r.code == 0x0E && fld (r.word 2) 0 2 == 2 && !ownerBusy b (registerFields r).owner &&
        decide (1 ≤ (registerFields r).weight ∧ (registerFields r).weight ≤ 1000000000) && inputCounts b (fld (r.word 2) 2 4) && (r.word 2).getLsbD 13) ∧
    Asks (asking { freeSlots with suites := tmod {} house.suites 1 (fun x => { x with hearthQuota := 1 }), hearth := {} } 0 (unitAddr house hearth1) 0x0F
        [pack [(0, 12, 9), (12, 6, 1)]]) 0 hearth1 (fun b r => r.code == 0x0F && hearthOp r == 0 &&
      (hearthRefusal r b (slotAt b (fld (r.word 2) 0 12)) (slotFields r (slotAt b (fld (r.word 2) 0 12)))).isNone) ∧
    Asks (asking freeSlots 0 (unitAddr house hearth1) 0x0F [pack [(0, 12, 5), (12, 6, 1), (18, 2, 1)]]) 0 hearth1 (fun b r => r.code == 0x0F &&
      hearthOp r == 1 && (hearthRefusal r b (slotAt b (fld (r.word 2) 0 12)) (coefFields r (slotAt b (fld (r.word 2) 0 12)))).isNone) ∧
    Asks (asking freeSlots 0 (unitAddr house hearth1) 0x0F [pack [(0, 12, 5), (12, 6, 1), (18, 2, 2)]]) 0 hearth1 (fun b r => r.code == 0x0F &&
      hearthOp r == 2 && (hearthRefusal r b (slotAt b (fld (r.word 2) 0 12)) (removedSlot r (slotAt b (fld (r.word 2) 0 12)))).isNone) ∧
    Asks (asking freeSlots 0 (unitAddr house hearth1) 0x0F [pack [(0, 12, 5), (12, 6, 1), (18, 2, 3)]]) 0 hearth1 (fun b r => r.code == 0x0F &&
      hearthOp r == 3 && (hearthRefusal r b (slotAt b (fld (r.word 2) 0 12)) (clearState (slotAt b (fld (r.word 2) 0 12)))).isNone) ∧
    Asks (asking house 0 (unitAddr house (.part cellarPart)) 0x10 [2, 9]) 0 (.part cellarPart) (fun _ r => r.code == 0x10 && fld (r.word 2) 0 2 == 2) ∧
    Asks (asking house 0 (unitAddr house atticUnit) 0x11 [pack [(0, 3, 7), (16, 14, 10000)]]) 0 atticUnit (fun _ r => r.code == 0x11 &&
      decide (10 ≤ fld (r.word 2) 16 14 ∧ fld (r.word 2) 16 14 ≤ 10000)) ∧
    Asks (asking house 0 (unitAddr house atticUnit) 0x12 [pack [(0, 10, 1000), (11, 1, 1)]]) 0 atticUnit (fun _ r => r.code == 0x12 &&
      decide (5 ≤ fld (r.word 2) 0 10 ∧ fld (r.word 2) 0 10 ≤ 1000)) ∧
    Asks (asking house 0 (unitAddr house mantelUnit) 0x13 [pack [(2, 2, 2), (4, 2, 2), (6, 2, 2)], pack [(0, 23, 5529600), (32, 13, 2083)]]) 0 mantelUnit
      (fun _ r => r.code == 0x13 && fld (r.word 2) 0 2 == 0 && decide (fld (r.word 2) 2 2 < 3 ∧ fld (r.word 2) 4 2 < 3 ∧ fld (r.word 2) 6 2 < 3) &&
        decide (fld (r.word 3) 0 23 ≤ 5529600) && decide (-2083 ≤ sfld (r.word 3) 32 13 ∧ sfld (r.word 3) 32 13 ≤ 2083) &&
        !(r.word 2).getLsbD 8) ∧
    Asks (asking house 0 (unitAddr house mantelUnit) 0x13 [1]) 0 mantelUnit (fun _ r => r.code == 0x13 && fld (r.word 2) 0 2 == 1) ∧
    Asks (asking house 0 (unitAddr house mantelUnit) 0x13 [2, 77]) 0 mantelUnit (fun _ r => r.code == 0x13 && fld (r.word 2) 0 2 == 2 &&
      !(r.word 2).getLsbD 2) ∧
    Asks (asking { house with clock := { isSet := true } } 0 (unitAddr house mantelUnit) 0x13 [6, 77]) 0 mantelUnit (fun b r => r.code == 0x13 &&
      fld (r.word 2) 0 2 == 2 && (r.word 2).getLsbD 2 && b.clock.isSet) :=
  ⟨asks_of (by decide), asks_of (by decide), asks_of (by decide), asks_of (by decide), asks_of (by decide), asks_of (by decide),
    asks_of (by decide), asks_of (by decide), asks_of (by decide), asks_of (by decide), asks_of (by decide), asks_of (by decide),
    asks_of (by decide), asks_of (by decide), asks_of (by decide), asks_of (by decide), asks_of (by decide)⟩

/-! ### Witnesses: key requests -/

/-- A key request of the task of suite 1. -/
def keyReq (op : Nat) (words : List (BitVec 64)) : KeyReq := { ctx := 33, suite := 1, ticket := 1, op, words, order := 0 }

/-- The house with the root of suite 1, a key of suite 1 in slot 0x40 with an ATTR, and a key request. -/
def keyed (attr : BitVec 16) (op : Nat) (words : List (BitVec 64)) : State := { house with
  suites := tmod {} house.suites 1 (fun x => { x with keyQuota := 3 })
  cellar := { lifecycle := 3, secretValid := true, hasRoot := true, fresh := 0x1FFF
              keys := [(1, { present := true, suite := 1, attr := 0x82, secret := [1] }),
                       (0x40, { present := true, suite := 1, attr, secret := [2], parent := mkHandle 1 1 1, depth := 1 })]
              reqs := [keyReq op words] } }

/-- The first two words of a request about a slot of suite 1. -/
def about (slot attr : Nat) : List (BitVec 64) := [pack [(0, 32, (mkHandle slot 1 1).toNat)], pack [(32, 16, attr)]]

/-- A buffer word. -/
def buf (addr len : Nat) : BitVec 64 := pack [(0, 32, addr), (32, 32, len)]

theorem keyed_heads {attr : BitVec 16} {op : Nat} {words : List (BitVec 64)} (h : heldBack (keyed attr op words) (keyReq op words) = false)
    (h' : keyTurn (keyed attr op words) (keyReq op words) = true) : KeyHeads (keyed attr op words) 1 op (keyReq op words) :=
  ⟨rfl, rfl, h, h'⟩

theorem keyed_served {attr : BitVec 16} {op : Nat} {words : List (BitVec 64)} (h : heldBack (keyed attr op words) (keyReq op words) = false)
    (h' : keyTurn (keyed attr op words) (keyReq op words) = true)
    (live : (namedHandles (keyReq op words)).all (fun x => (findKey (keyBegun (keyed attr op words) 1) x).isSome) = true) :
    KeyServed (keyed attr op words) 1 op (keyReq op words) :=
  ⟨keyed_heads h h', rfl, List.all_eq_true.mp live⟩

theorem keyed_room {attr : BitVec 16} {op : Nat} {words : List (BitVec 64)} {p : Nat} (hp : p = 1 ∨ p = 0x40) :
    RoomFor (keyBegun (keyed attr op words) 1) p 0x1FFF ∧ (keyBegun (keyed attr op words) 1).sram.errors = [] := by
  rcases hp with rfl | rfl <;> exact ⟨⟨by rfl, of_decide_eq_true rfl, of_decide_eq_true rfl⟩, rfl⟩

theorem witness_KeyCreation :
    (KeyServed (keyed 0x82 1 (about 1 5)) 1 1 (keyReq 1 (about 1 5)) ∧
      findKey (keyBegun (keyed 0x82 1 (about 1 5)) 1) (keyReq 1 (about 1 5)).handle = some (.slot 1) ∧
      RoomFor (keyBegun (keyed 0x82 1 (about 1 5)) 1) 1 0x1FFF ∧ attrOk 1 5 [1, 2, 3, 4, 5, 6] = true) ∧
    (let w := about 1 2 ++ [0, 0, buf 0x3000 64, buf 0x3040 48]
     KeyServed (keyed 0x82 2 w) 1 2 (keyReq 2 w) ∧ findKey (keyBegun (keyed 0x82 2 w) 1) (keyReq 2 w).handle = some (.slot 1) ∧
      RoomFor (keyBegun (keyed 0x82 2 w) 1) 1 0x1FFF ∧ attrOk 1 2 [1, 2] = true ∧ attrType 0x82 = 2 ∧
      BufferOk (keyBegun (keyed 0x82 2 w) 1) (keyReq 2 w) (buf 0x3000 64) ∧
      BufferOk (heard (keyReq 2 w) (buf 0x3000 64) (keyBegun (keyed 0x82 2 w) 1)) (keyReq 2 w) (buf 0x3040 48)) ∧
    (let w := about 0x40 1 ++ [buf 0x3000 97]
     KeyServed (keyed 4 7 w) 1 7 (keyReq 7 w) ∧ findKey (keyBegun (keyed 4 7 w) 1) (keyReq 7 w).handle = some (.slot 0x40) ∧
      RoomFor (keyBegun (keyed 4 7 w) 1) 0x40 0x1FFF ∧ attrOk 1 1 [1, 2] = true ∧ attrType 4 = 4 ∧
      BufferOk (keyBegun (keyed 4 7 w) 1) (keyReq 7 w) (buf 0x3000 97)) ∧
    (let w := about 1 7 ++ [buf 0x3000 97]
     KeyServed (keyed 0x82 9 w) 1 9 (keyReq 9 w) ∧ findKey (keyBegun (keyed 0x82 9 w) 1) (keyReq 9 w).handle = some (.slot 1) ∧
      RoomFor (keyBegun (keyed 0x82 9 w) 1) 1 0x1FFF ∧ attrOk 1 7 [1, 2, 3, 4, 5, 6, 7, 8] = true ∧ (keyReq 9 w).handle2 = 0 ∧
      ((keyReq 9 w).word 2).toNat / 2 ^ 32 = secretLen 7 ∧ BufferOk (keyBegun (keyed 0x82 9 w) 1) (keyReq 9 w) (buf 0x3000 97)) :=
  ⟨⟨keyed_served (by decide) (by decide) (by decide), by decide, (keyed_room (.inl rfl)).1, by decide⟩,
    ⟨keyed_served (by decide) (by decide) (by decide), by decide, (keyed_room (.inl rfl)).1, by decide, by decide, .inr (by decide), .inr (by decide)⟩,
    ⟨keyed_served (by decide) (by decide) (by decide), by decide, (keyed_room (.inr rfl)).1, by decide, by decide, .inr (by decide)⟩,
    ⟨keyed_served (by decide) (by decide) (by decide), by decide, (keyed_room (.inl rfl)).1, by decide, by decide, by decide, .inr (by decide)⟩⟩

/-- What KeyUse asks of every request that names a live key. -/
def UsesKey (attr : BitVec 16) (op : Nat) (w : List (BitVec 64)) : Prop :=
  KeyServed (keyed attr op w) 1 op (keyReq op w) ∧ findKey (keyBegun (keyed attr op w) 1) (keyReq op w).handle = some (.slot 0x40) ∧
  ((keyReq op w).word 2).toNat / 2 ^ 32 ≤ 65536 ∧ BufferOk (keyBegun (keyed attr op w) 1) (keyReq op w) ((keyReq op w).word 2) ∧
  BufferOk (heard (keyReq op w) ((keyReq op w).word 2) (keyBegun (keyed attr op w) 1)) (keyReq op w) ((keyReq op w).word 4) ∧
  BufferOk (heard (keyReq op w) ((keyReq op w).word 4) (heard (keyReq op w) ((keyReq op w).word 2) (keyBegun (keyed attr op w) 1))) (keyReq op w)
    ((keyReq op w).word 5)

/-- The same key of TYPE 1 with a second one, which it wraps or which wraps it. -/
def wrapping (op : Nat) (w : List (BitVec 64)) : State := { keyed 0x41 op w with
  cellar := { (keyed 0x41 op w).cellar with keys := (keyed 0x41 op w).cellar.keys ++
    [(0x41, { present := true, suite := 1, attr := 1, secret := [3], parent := mkHandle 1 1 1, depth := 1 })] } }

theorem wrapping_served {op : Nat} {words : List (BitVec 64)} (h : heldBack (wrapping op words) (keyReq op words) = false)
    (h' : keyTurn (wrapping op words) (keyReq op words) = true)
    (live : (namedHandles (keyReq op words)).all (fun x => (findKey (keyBegun (wrapping op words) 1) x).isSome) = true) :
    KeyServed (wrapping op words) 1 op (keyReq op words) :=
  ⟨⟨rfl, rfl, h, h'⟩, rfl, List.all_eq_true.mp live⟩

/-- The first two words of a request about slots 0x40 and 0x41. -/
def aboutBoth (attr : Nat) : List (BitVec 64) :=
  [pack [(0, 32, (mkHandle 0x40 1 1).toNat), (32, 32, (mkHandle 0x41 1 1).toNat)], pack [(32, 16, attr)]]

theorem witness_KeyUse :
    (∀ x ∈ [1, 2, 3, 4, 5, 6, 7, 8, 9, 10, 11], KeyHeads (keyed 1 x [0x7FFFF]) 1 x (keyReq x [0x7FFFF]) ∧
      keyBarred (keyBegun (keyed 1 x [0x7FFFF]) 1) = none ∧ (keyReq x [0x7FFFF]).handle ∈ namedHandles (keyReq x [0x7FFFF]) ∧
      findKey (keyBegun (keyed 1 x [0x7FFFF]) 1) (keyReq x [0x7FFFF]).handle = none) ∧
    (keyBarred { keyed 1 1 [] with cellar := { (keyed 1 1 []).cellar with wiped := true } }).isSome = true ∧
    (let w := about 0x40 0 ++ [buf 0x3000 8, buf 0x3100 24, buf 0x3010 12, buf 0x3020 4]
     UsesKey 1 3 w ∧ attrType 1 = 1 ∧ ((keyReq 3 w).word 4).toNat / 2 ^ 32 = 12 ∧ OutOk (keyBegun (keyed 1 3 w) 1) (keyReq 3 w) 24) ∧
    (let w := about 0x40 0 ++ [buf 0x3000 16, buf 0x3100 0, buf 0x3010 12, buf 0x3020 4]
     UsesKey 1 4 w ∧ ((keyReq 4 w).word 4).toNat / 2 ^ 32 = 12 ∧ ((keyReq 4 w).word 2).toNat / 2 ^ 32 = 16 ∧
      OutOk (keyBegun (keyed 1 4 w) 1) (keyReq 4 w) 0) ∧
    (let w := about 0x40 0 ++ [buf 0x3000 16, buf 0x3100 96, 0, 0]
     UsesKey 3 5 w ∧ attrType 3 = 3 ∧ signatureLen 3 = 96 ∧ OutOk (keyBegun (keyed 3 5 w) 1) (keyReq 5 w) 96) ∧
    (let w := about 0x40 0 ++ [buf 0x3000 16, 0, buf 0x3100 96, 0]
     UsesKey 7 6 w ∧ attrType 7 = 7 ∧ ((keyReq 6 w).word 4).toNat / 2 ^ 32 = signatureLen 7) ∧
    (let w := about 0x40 0 ++ [0, buf 0x3000 97, 0, 0]
     UsesKey 3 8 w ∧ (keyReq 8 w).handle2 = 0 ∧ OutOk (keyBegun (keyed 3 8 w) 1) (keyReq 8 w) (publicLen 3)) ∧
    (let w := aboutBoth 0 ++ [0, buf 0x3000 64]
     KeyServed (wrapping 8 w) 1 8 (keyReq 8 w) ∧ findKey (keyBegun (wrapping 8 w) 1) (keyReq 8 w).handle = some (.slot 0x40) ∧
      attrExport 0x41 = true ∧ Wraps (keyBegun (wrapping 8 w) 1) (keyReq 8 w) 0x40 0x41) ∧
    (let w := aboutBoth 1 ++ [buf 0x3000 62]
     KeyServed (wrapping 9 w) 1 9 (keyReq 9 w) ∧ Wraps (keyBegun (wrapping 9 w) 1) (keyReq 9 w) 0x40 0x41 ∧
      ((keyReq 9 w).word 2).toNat / 2 ^ 32 = 30 + secretLen 1) ∧
    UsesKey 1 10 (about 0x40 0) ∧
    (let w := about 0x40 0 ++ [0, buf 0x3000 32, 0, 0]
     UsesKey 1 11 w ∧ OutOk (keyBegun (keyed 1 11 w) 1) (keyReq 11 w) 32) :=
  ⟨by intro x hx; simp only [List.mem_cons, List.not_mem_nil, or_false] at hx
      rcases hx with rfl | rfl | rfl | rfl | rfl | rfl | rfl | rfl | rfl | rfl | rfl <;> exact ⟨keyed_heads (by decide) (by decide), by decide, by decide, by decide⟩,
    by decide,
    ⟨⟨keyed_served (by decide) (by decide) (by decide), by decide, by decide, .inr (by decide), .inr (by decide), .inr (by decide)⟩, by decide, by decide,
      by decide, .inr (by decide)⟩,
    ⟨⟨keyed_served (by decide) (by decide) (by decide), by decide, by decide, .inr (by decide), .inr (by decide), .inr (by decide)⟩, by decide, by decide,
      by decide, .inl rfl⟩,
    ⟨⟨keyed_served (by decide) (by decide) (by decide), by decide, by decide, .inr (by decide), .inl (by decide), .inl (by decide)⟩, by decide, by decide,
      by decide, .inr (by decide)⟩,
    ⟨⟨keyed_served (by decide) (by decide) (by decide), by decide, by decide, .inr (by decide), .inr (by decide), .inl (by decide)⟩, by decide, by decide⟩,
    ⟨⟨keyed_served (by decide) (by decide) (by decide), by decide, by decide, .inl (by decide), .inl (by decide), .inl (by decide)⟩, by decide, by decide,
      .inr (by decide)⟩,
    ⟨wrapping_served (by decide) (by decide) (by decide), by decide, by decide, by decide, by decide, by decide, by decide⟩,
    ⟨wrapping_served (by decide) (by decide) (by decide), ⟨by decide, by decide, by decide, by decide⟩, by decide⟩,
    ⟨keyed_served (by decide) (by decide) (by decide), by decide, by decide, .inl (by decide), .inl (by decide), .inl (by decide)⟩,
    ⟨⟨keyed_served (by decide) (by decide) (by decide), by decide, by decide, .inl (by decide), .inl (by decide), .inl (by decide)⟩, by decide,
      .inr (by decide)⟩⟩

/-! ### Witnesses: events of the scan cycle -/

/-- The house after the pass, with its task as `f` makes it. -/
def cycling (f : Task → Task) : State := { house with tasks := [(33, f boundTask)], seq := { passDone := true } }

/-- The cycle of the demo task in a phase, to commit at an instant of the first second. -/
def cycleAt (phase : Phase) (ns : Nat) : Cycle := { number := 1, start := t0, commit := { sec := 0, ns }, phase }

def ready : State := cycling (fun t => { t with cycle := none, nextStart := some { sec := 0, ns := 5000 } })
def ended (ns : Nat) : State := cycling (fun t => { t with cycle := some (cycleAt .ended ns) })
def due (cam : Bool) : State := cycling (fun t => { t with desc := { t.desc with cam }, cycle := some (cycleAt .accepted 5000) })

theorem witness_CycleEvents :
    (mayStart ready 33 = true ∧ (taskAt ready 33).nextStart = some { sec := 0, ns := 5000 } ∧ reached (now ready) { sec := 0, ns := 5000 } = true ∧
      wholeUs (now ready) = wholeUs { sec := 0, ns := 5000 }) ∧ mayStart house 33 = false ∧
    (TokenNext (ended 15000) 0 33 (cycleAt .ended 15000) ∧ ¬ 0 < tdiff (now (ended 15000)) (taddNs { sec := 0, ns := 15000 } (-10000))) ∧
    (TokenNext (ended 14999) 0 33 (cycleAt .ended 14999) ∧ TokenLate (ended 14999) (cycleAt .ended 14999)) ∧
    nextToken house (collectorNow house).n (collectorNow house).index = none ∧
    (CommitDue (commitsJudged (due false)) 33 (cycleAt .accepted 5000) ∧ (taskAt (commitsJudged (due false)) 33).desc.cam = false) ∧
    (CommitDue (commitsJudged (due true)) 33 (cycleAt .accepted 5000) ∧ (taskAt (commitsJudged (due true)) 33).desc.cam = true ∧
      (cycleAt .accepted 5000).confirmed = false) ∧ (taskAt (commitsJudged house) 33).cycle = none :=
  ⟨⟨by decide, by decide, by decide, by decide⟩, by decide, ⟨⟨by decide, by decide⟩, by decide⟩,
    ⟨⟨by decide, by decide⟩, by unfold TokenLate; decide⟩,
    by decide, ⟨⟨by decide, by decide, by decide, by decide, by decide⟩, by decide⟩,
    ⟨⟨by decide, by decide, by decide, by decide, by decide⟩, by decide, by decide⟩, by decide⟩

def pendingAt (step : Bool) : State := cycling (fun t => { t with mode := .hold, cycle := none, pending := some { step, at80 := { sec := 0, ns := 5000 } } })

/-- The task held with a grid commit time at 5 µs: period 1000, phase 55, commit offset 950. -/
def onGrid : State := cycling (fun t => { t with
  desc := { t.desc with phase := 55 }, mode := .hold, cycle := none, holdUntil := some 5 })

def demoRec : JournalRec := { suite := 1, task := 1, cyc := 1, commit := t0, lines := [], points := [] }

theorem witness_TaskModeEvents :
    (TransitionDue (pendingAt true) 33 { step := true, at80 := { sec := 0, ns := 5000 } }) ∧
    (TransitionDue (pendingAt false) 33 { step := false, at80 := { sec := 0, ns := 5000 } }) ∧ (taskAt house 33).pending = none ∧
    ((taskAt onGrid 33).mode = .hold ∧ commitsNow onGrid (taskAt onGrid 33) = false ∧ runsTasks onGrid = true ∧ onGrid.clock.clkFault = false ∧
      gridUs (taskAt onGrid 33).desc.period ((taskAt onGrid 33).desc.phase + (taskAt onGrid 33).desc.commitOffset) (wholeUs (now onGrid)) =
        wholeUs (now onGrid) ∧ (taskAt onGrid 33).rereleased ≠ some (ofUs (wholeUs (now onGrid)))) ∧
    (taskAt onGrid 33).stepping = false ∧ (taskAt onGrid 33).holdUntil = some 5 ∧ (taskAt house 33).cycle = none ∧
    ((taskAt demo 33).cycle = some (cycleAt .executing 950000)) ∧ ({ house with foundation := { running := true } } : State).foundation.running = true ∧
    (house.journal.rebuilding = false ∧ ({ house with journal := { staging := [demoRec] } } : State).journal.staging = [demoRec]) ∧
    ({ house with journal := { rebuilding := true } } : State).journal.rebuilding = true ∧ house.boot.warm = false :=
  ⟨⟨by decide, by decide, by decide, by decide, .inr (by decide)⟩, ⟨by decide, by decide, by decide, by decide, .inr (by decide)⟩, by decide,
    ⟨by decide, by decide, by decide, by decide, by decide, by decide⟩, by decide, by decide, by decide, by decide, by decide,
    ⟨by decide, by decide⟩, by decide, by decide⟩

/-! ### Witnesses: events of the fabric, the clock, the queues and the ports -/

/-- The house with a CFG_LOCK of context 33 and a KEY of suite 1 posted, and a STATUS in the queue of unit commands. -/
def stalling : State := { asking (tenant .module 0x02 0 []) 33 house.addr.self 0x16 [] with cellar := { reqs := [keyReq 1 []] } }

theorem witness_FabricEvents :
    house.clock.clkFault = false ∧ ({ house with clock := { clkFault := true } } : State).clock.clkFault = true ∧
    (tget {} house.links 4).down = false ∧ (tget {} house.links 4).failedReplays < 3 ∧
    3 ≤ (tget {} ({ house with links := [(4, { failedReplays := 3 })] } : State).links 4).failedReplays ∧
    (tget {} ({ house with links := [(4, { down := true })] } : State).links 4).down = true ∧
    ((copyAt house 4).stale = false ∧ house.boot.phase = .running) ∧ (copyAt { house with copies := [(4, { stale := true })] } 4).stale = true ∧
    (headRequest stalling 33).isSome = true ∧ (stalling.cellar.reqs.find? (fun x => x.suite == 1)).isSome = true ∧
    (headCommand stalling .unit).isSome = true := by decide

/-- A change of the house clock waits. -/
def changing (c : ClockChange) : State := { house with clock := { waiting := [c] } }

def theItem : ItemIn := { prio := 0, ptag := false, written := true, data := [1] }

def demoFrame : Frame := { dst := 1, src := 2, tag := none, ethertype := 0x800, payload := [] }

/-- Port 0 with a frame of class `cls` leaving. -/
def leaving (cls : EgClass) : State := 
  { house with ports := [(0, { link := 2, egress := [{ id := 3, cls, cyc := some (33, 1, t0), started := true, frame := demoFrame }] })] }

/-- A session whose producer holds a credit of queue 0x400, as the Hearth does. -/
def hosted : State := { bound with
  sessions := [{ number := 4, host := 7, suite := 1, rank := 3, port := 192, puts := [0x400], takes := [] }]
  larder := { queues := [(0x400, { depth := 4, itemMax := 64, grant := 2, attached := [{ who := .session 1 7 4, hand := 1, spent := 0, id := 0 }] })] } }

theorem witness_ClockAndQueueEvents : house.clock.waiting = [] ∧
    (changing (.jump t0 false true)).clock.waiting = [.jump t0 false true] ∧ (changing (.jump t0 true false)).clock.waiting = [.jump t0 true false] ∧
    (changing (.step 5 false)).clock.waiting = [.step 5 false] ∧ (changing (.increment 0x08000000)).clock.waiting = [.increment 0x08000000] ∧
    (changing (.slew 0x08000000 9)).clock.waiting = [.slew 0x08000000 9] ∧ house.clock.clkFault = false ∧
    (fencedOut hosted (sourceItem (.session 1 7 4) theItem).srcSuite = false ∧ putDenied hosted 0x400 (.session 1 7 4) = false ∧
      namedQueue hosted 0x400 (.session 1 7 4) = 0x400 ∧ theItem.written = true ∧ theItem.data ≠ [] ∧ (queueAt hosted 0x400).qfault = false ∧
      theItem.data.length ≤ (queueAt hosted 0x400).itemMax ∧ 0 < creditsInHand (queueAt hosted 0x400) (sourceProducer (.session 1 7 4))) ∧
    fencedOut { hosted with suites := [(1, { demoSuite with state := stResetting })] } 1 = true ∧
    putDenied hosted 0x800 (.session 1 7 4) = true ∧ creditsInHand (queueAt hosted 0x400) (sourceProducer (.engine hearthPart)) = 0 ∧
    creditsInHand (queueAt hosted 0x400) (sourceProducer (.session 1 8 5)) = 0 ∧
    (queueAt bound 0x400).depth ≠ 0 ∧ (∃ f, inProgress (leaving .withdraw) 0 = some f ∧ f.cls = .withdraw ∧ f.cyc = some (33, 1, t0)) :=
  ⟨by decide, by decide, by decide, by decide, by decide, by decide, by decide, by decide, by decide, by decide, by decide, by decide, by decide,
    ⟨_, rfl, rfl, rfl⟩⟩

/-- A frame of 64 octets as a MAC sees it. -/
def seen (len : Nat) (pause : Option Nat) (frame : Frame) : MacRx := { frame, len, fcsOk := true, symbolErrors := 0, pause, sfdAgo := 0 }

/-- Port 0 as `x`, and uplink 0 as `u` on port 192 as `y`. -/
def ported (x : Port) : State := { house with ports := [(0, x)] }
def uplinked (y : Port) (u : Uplink) : State := { house with ports := [(192, y)], uplinks := [(0, u)] }

def linkNews (up : Bool) : LinkChange := { up, level2v4 := false, master := true, seed := false, eee := true, rate := 4, lpAdv := 8, lpFec := 0 }

/-- A transaction of the floor with port 0 agreed. -/
def demoQuiet : Quiet := { number := 3, asked := [0], ports := [0], agreed := [0], tq := { sec := 0, ns := 5000 }, tag := 0, replyQueue := 0, suite := 0 }

def proposing (q : QuietState) : State := { house with sw := { quiet := q, transaction := some demoQuiet } }

/-- The answer of an endpoint to the transaction: EtherType 0x88B5, kind 5. -/
def answerFrame : Frame := { dst := 1, src := 2, tag := none, ethertype := 0x88B5, payload := bytesOf 8 (5 + 3 * 2 ^ 32) }

theorem witness_MacEvents :
    ((portAt (ported { link := 2 }) 0).link = 2 ∧ (seen 64 none demoFrame).fcsOk = true ∧ 64 ≤ (seen 64 none demoFrame).len ∧
      (seen 64 none demoFrame).len ≤ (portAt (ported { link := 2 }) 0).cfg.maxFrame ∧
      ¬ Answers (countPort (ported { link := 2 }) 0 false 19 0) 0 (seen 64 none demoFrame)) ∧ Answers (proposing .proposing) 0 (seen 64 none answerFrame) ∧
    (¬ 64 ≤ (seen 63 none demoFrame).len) ∧ (seen 64 (some 9) demoFrame).pause = some 9 ∧ (portAt house 0).link ≠ 2 ∧
    (portAt (ported { pausedUntil := some 5 }) 0).pausedUntil = some 5 ∧
    ((portAt (ported { pausing := true }) 0).pausing = true ∧ (portAt (ported { pausing := true }) 0).pauseDue ≤ house.tick) ∧
    (portAt house 0).pausing = false ∧
    (∃ f, inProgress (leaving .other) 0 = some f ∧ f.cls = .other) ∧ (∃ f, inProgress (leaving .timed) 0 = some f ∧ f.cls = .timed) ∧
    ((linkNews true).up = true ∧ (portAt (ported { cfg := { mode := 1 } }) 0).cfg.mode ≠ 0 ∧ (portAt (ported { cfg := { mode := 1 } }) 0).link ≠ 2 ∧
      portHeldDown (ported { cfg := { mode := 1 } }) 0 = false) ∧
    ((tget {} (uplinked {} { cfg := { mode := 2, forcedRate := 4 } }).uplinks (192 - 192)).cfg.mode ≠ 0 ∧
      (tget {} (uplinked {} { cfg := { mode := 2, forcedRate := 4 } }).uplinks (192 - 192)).gov ≠ 2 ∧ (portAt (uplinked {} { cfg := { mode := 2, forcedRate := 4 } }) 192).link ≠ 2 ∧
      portHeldDown (uplinked {} { cfg := { mode := 2, forcedRate := 4 } }) 192 = false ∧
      linkRate 0 { mode := 2, forcedRate := 4 } (linkNews true) = some 4) ∧ linkRate 0 { mode := 1 } (linkNews true) = none ∧
    (linkNews false).up = false ∧ house.clock.clkFault = false ∧ ({ house with clock := { clkFault := true } } : State).clock.clkFault = true ∧
    ((portAt (ported { halfPending := true, cfg := { statsQueue := 0x400 } }) 0).halfPending = true ∧
      (portAt (ported { halfPending := true, cfg := { statsQueue := 0x400 } }) 0).cfg.statsQueue ≠ 0 ∧
      (portAt (ported { halfPending := true, cfg := { statsQueue := 0x400 } }) 0).halfDue ≤ house.tick) ∧
    (portAt house 0).halfPending = false ∧
    ((portAt (ported { link := 2, eeeOn := true }) 0).eeeOn = true ∧ (portAt (ported { link := 2, eeeOn := true }) 0).lpi = false ∧
      (portAt (ported { link := 2, eeeOn := true }) 0).egress = []) :=
  ⟨⟨by decide, by decide, by decide, by decide, by unfold Answers; decide⟩, ⟨by decide, by decide⟩, by decide, by decide, by decide, by decide, by decide,
    by decide, ⟨_, rfl, rfl⟩, ⟨_, rfl, rfl⟩, by decide, by decide, by decide, by decide, by decide, by decide, by decide, by decide, by decide⟩

theorem witness_EndpointPower :
    (portAt (ported { pse := .detecting }) 0).pse = .detecting ∧ (portAt house 0).pse ≠ .detecting ∧
    ((portAt (ported { pse := .noPd }) 0).pse = .noPd ∧ (portAt (ported { pse := .noPd }) 0).pseDue ≤ house.tick) ∧
    ((portAt (ported { pse := .noPd, pseDue := 5 }) 0).pse = .noPd ∧ house.tick < (portAt (ported { pse := .noPd, pseDue := 5 }) 0).pseDue) ∧
    (portAt (ported { pse := .classifying }) 0).pse = .classifying ∧ powerHeld house 0 = false ∧
    powerHeld { house with links := [(0, { down := true })] } 0 = true ∧ house.clock.clkFault = false ∧
    (portAt (ported { pse := .powered }) 0).pse = .powered ∧
    ((portAt (ported { pse := .backoff }) 0).pse = .backoff ∧ (portAt (ported { pse := .backoff }) 0).pseDue ≤ house.tick) := by decide

/-- An item in queue 0x400, consumed by an engine unit. -/
def consumed (s : State) (part : Part) (data : List Byte) : State := { s with larder := { queues :=
  [(0x400, { depth := 4, itemMax := 64, consumer := some (.engine part), items := [{ demoItem with data }] })] } }

/-- An engine reads the queue and finds an item at its head that satisfies `p`. -/
def Takes (s : State) (qn : Nat) (part : Part) (p : State → Item → Bool) : Prop := ∃ b it, EngineTakes s qn part b it ∧ p b it = true

theorem takes_of {s : State} {qn : Nat} {part : Part} {p : State → Item → Bool}
    (h : (engineHead (engineReads s qn part) qn part).any (p (engineReads s qn part)) = true) : Takes s qn part p := by
  cases hi : engineHead (engineReads s qn part) qn part with
  | none => rw [hi] at h; cases h
  | some it => rw [hi] at h; exact ⟨_, it, ⟨rfl, hi⟩, h⟩

/-- The words of a transmit item: DEST in its low bits, then a frame. -/
def transmitting (dest vlan : Nat) : State :=
  let s := consumed house switchPart (bytesOf 8 dest ++ List.replicate 60 0)
  { s with sw := { txq := [(1, 0x400)], macBase := 0 }, suites := tmod {} house.suites 1 (fun x => { x with vlanFirst := vlan, vlanCount := 1 }) }

/-- A transmit item's DEST: whether it names anything (R261), its number, and the frame. -/
def sent (it : Item) : Bool × Nat × Frame :=
  let dest := fld (wordAt it.data 0) 0 10
  (decide (dest < 195 ∨ (256 ≤ dest ∧ dest ≤ 512)), dest, frameOf (it.data.drop 8))

/-- A frame at the port switch, and the one entry of its class table. -/
def arriving (c : List (Nat × ClassEntry)) : State := { house with sw := { classes := c
                                                                           ingress := [{ port := 0, frame := demoFrame, len := 64, sfd := t0, tsValid := true }] } }

def anyClass (action : ClassAction) : ClassEntry :=
  { action, suite := 1, prio := 0, queue := 0x400, pmapCount := 0, port := 255, vlan := 0, ethertype := 0, srcLo := 0, srcMatch := false }

def write0 : TableWrite := { table := 1, index := 0, req := { ctx := 0, ticket := 0, words := [] }, nofence := false }

theorem witness_SwitchEvents :
    (∃ f, (arriving []).sw.ingress = [f] ∧ classify (arriving []) f (vlanAt (arriving []) f.port f.frame) = none) ∧
    (∀ a ∈ [ClassAction.drop, .queue, .points, .forward], ∃ f, (arriving [(0, anyClass a)]).sw.ingress = [f] ∧
      classify (arriving [(0, anyClass a)]) f (vlanAt (arriving [(0, anyClass a)]) f.port f.frame) = some (anyClass a) ∧ (anyClass a).action = a) ∧
    house.sw.ingress = [] ∧ ({ house with sw := { waiting := [write0] } } : State).sw.waiting = [write0] ∧ house.sw.draining = false ∧
    ({ house with sw := { draining := true } } : State).sw.draining = true ∧
    (resetting (transmitting 600 1) 1 = false ∧ tget 0 (transmitting 600 1).sw.txq 1 = 0x400) ∧
    Takes (transmitting 600 1) 0x400 switchPart (fun _ it => !(sent it).1) ∧
    Takes (transmitting 255 1) 0x400 switchPart (fun _ it => !(sent it).1) ∧
    Takes (transmitting 7 2) 0x400 switchPart (fun b it => (sent it).1 && vlanForeign b 1 (sent it).2.2 (transmitPorts b (sent it).2.1 (sent it).2.2)) ∧
    Takes (transmitting 256 1) 0x400 switchPart (fun b it => (sent it).1 && !vlanForeign b 1 (sent it).2.2 (transmitPorts b (sent it).2.1 (sent it).2.2) &&
      !destKnown b.sw 256) ∧
    Takes (transmitting 7 1) 0x400 switchPart (fun b it => (sent it).1 && !vlanForeign b 1 (sent it).2.2 (transmitPorts b (sent it).2.1 (sent it).2.2) &&
      decide ((it.data.drop 8).length ≤ 1532)) ∧
    ((proposing .proposing).sw.quiet = .proposing ∧ (proposing .proposing).sw.transaction = some demoQuiet ∧ 0 ∈ demoQuiet.ports ∧
      tdiff (now (proposing .proposing)) demoQuiet.tq ≤ 0) ∧
    (reached (now (proposing .entering)) demoQuiet.tq = true ∧ (proposing .entering).sw.quiet = .entering ∧ demoQuiet.agreed = [0]) ∧
    house.clock.clkFault = false :=
  ⟨⟨_, rfl, by decide⟩, by
      intro a ha; simp only [List.mem_cons, List.not_mem_nil, or_false] at ha
      rcases ha with rfl | rfl | rfl | rfl <;> exact ⟨_, rfl, by decide, rfl⟩,
    by decide, by decide, by decide, by decide, by decide, takes_of (by decide), takes_of (by decide), takes_of (by decide), takes_of (by decide),
    takes_of (by decide), by decide, by decide, by decide⟩

/-! ### Witnesses: uplinks, suites, updates and units -/

/-- Uplink 0 up on port 192, its egress queue and its launch queue holding one item. -/
def sending (u : Uplink) (part : Part) (data : List Byte) : State := consumed (uplinked { link := 2 } u) part data

/-- A launch item that goes at once, with 8 octets of frame. -/
def launchData (at80 : Nat) (now : Nat) : List Byte := bytesOf 8 at80 ++ bytesOf 8 (now * 2 ^ 48) ++ List.replicate 8 0

def egress0 : Uplink := { cfg := { mode := 1, egressQueue := 0x400, launchQueue := 0x400 } }

/-- UL0 under its governor: all rates allowed, running at `rate`. -/
def governed (gov rate : Nat) : Uplink := { cfg := { mode := 1, govEn := true, adv := 15 }, lpAdv := 15, gov, rate }

/-- A launch item of suite 1, which is in a state, for a time in ns. -/
def launching (state at80 : Nat) : State := { sending egress0 switchPart (launchData at80 0) with
  suites := tmod {} house.suites 1 (fun x => { x with vlanFirst := 1, vlanCount := 1, state }) }

theorem witness_UplinkEvents :
    ((uplinkAt (sending egress0 (uplinkPart 0) [1]) 0).cfg.egressQueue = 0x400 ∧ (portAt (sending egress0 (uplinkPart 0) [1]) 192).link = 2 ∧
      (portAt (sending egress0 (uplinkPart 0) [1]) 192).pausedUntil = none ∧
      Takes (sending egress0 (uplinkPart 0) [1]) 0x400 (uplinkPart 0)
        (fun _ it => !launchBlocks (sending egress0 (uplinkPart 0) [1]) 0 it.data.length)) ∧ house.clock.clkFault = false ∧ (portAt house 192).link ≠ 2 ∧
    ((uplinkAt (uplinked { link := 2 } (governed 1 2)) 0).gov = 1 ∧ (portAt (uplinked { link := 2 } (governed 1 2)) 192).link = 2 ∧
      (allowedRates (governed 1 2)).getLast? = some 4 ∧ ((allowedRates (governed 1 2)).filter (· < 2)).getLast? = some 1 ∧
      ((allowedRates (governed 1 2)).filter (· < 1)).getLast? = none) ∧
    (125000 ≤ 12500000 - (governed 1 2).shortTick ∧ 12500000 ≤ 12500000 - (governed 1 2).windowTick ∧ 12499999 - (governed 1 2).windowTick < 12500000 ∧
      124999 - (governed 1 2).shortTick < 125000) ∧
    ((uplinkAt (uplinked {} (governed 2 0)) 0).gov = 2 ∧ house.tick ≤ (uplinkAt (uplinked {} (governed 2 0)) 0).stepTick + 5000000) ∧
    (uplinkAt { uplinked {} (governed 2 0) with tick := 5000000 } 0).stepTick + 5000000 ≤ 5000000 ∧
    ((uplinkAt (uplinked {} (governed 3 0)) 0).gov = 3 ∧ (uplinkAt (uplinked {} (governed 3 0)) 0).resumeDue ≤ house.tick) ∧
    house.tick < (uplinkAt (uplinked {} { governed 3 0 with resumeDue := 9 }) 0).resumeDue ∧
    ((uplinkAt (sending egress0 switchPart (launchData 5000 0)) 0).cfg.launchQueue ≠ 0 ∧
      (uplinkAt (sending egress0 switchPart (launchData 5000 0)) 0).launch = none ∧
      Takes (launching stRun 5000) 0x400 switchPart (fun b it => !fencedOut b (launchOf it).suite && launchRefusal b 192 (launchOf it) == none)) ∧
    Takes (launching stRun 0) 0x400 switchPart (fun b it => !fencedOut b (launchOf it).suite &&
      launchRefusal b 192 (launchOf it) == some (stRefused .range)) ∧
    Takes (launching stResetting 5000) 0x400 switchPart (fun b it => fencedOut b (launchOf it).suite) ∧
    (∃ l, (uplinkAt (uplinked { link := 2 } { egress0 with launch := some (launchOf { demoItem with data := launchData 5000 0 }) }) 0).launch = some l ∧
      reached (now house) l.at80 = true) :=
  ⟨⟨by decide, by decide, by decide, takes_of (by decide)⟩, by decide, by decide, by decide, by decide, by decide, by decide, by decide, by decide,
    ⟨by decide, by decide, takes_of (by decide)⟩, takes_of (by decide), takes_of (by decide), ⟨_, rfl, by decide⟩⟩

/-- Suite 1 as `f` makes it, at a time. -/
def suited (f : Suite → Suite) (tick : Nat) : State := { house with suites := tmod {} house.suites 1 f, tick }

def claimOf (host rank : Nat) : Claim := { host, rank, via := .unit, target := 0, replyQueue := 0, tag := 0 }

def electing : State := suited (fun x => { x with owner := none, claims := [claimOf 3 5, claimOf 2 5], claimOpen := some 7 }) 7

def opening : SessionOpen := { number := 1, host := 1, suite := 1, rank := 7, port := 194, puts := [0x400], takes := [0x400] }

def session1 : Session := { number := 1, host := 1, suite := 1, rank := 7, port := 194, puts := [], takes := [] }

theorem witness_SuiteEvents :
    ((suiteAt electing 1).claimOpen = some 7 ∧ (suiteAt electing 1).claims = [claimOf 3 5, claimOf 2 5] ∧ 7 ≤ electing.tick ∧
      Wins (suiteAt electing 1).claims (claimOf 2 5)) ∧
    ((suiteAt (suited (fun x => { x with claimOpen := some 8 }) 7) 1).claimOpen = some 8) ∧
    ((suiteAt house 1).owner = some 1 ∧ reached (now house) (suiteAt house 1).leaseEnd = true) ∧
    (reached (now house) (suiteAt (suited (fun x => { x with leaseEnd := { sec := 0, ns := 5001 } }) 0) 1).leaseEnd = false) ∧
    ((suiteAt (suited (fun x => { x with handover := some 5 }) 0) 1).handover = some 5) ∧
    (suiteAt (suited (fun x => { x with state := stResetting }) 0) 1).state = stResetting ∧ (suiteAt house 1).state ≠ stResetting ∧
    MayOpen house opening ∧ ¬ MayOpen house { opening with port := 191 } ∧
    (({ house with sessions := [session1] } : State).sessions.find? (fun x => x.number == 1)) = some session1 ∧
    (∀ y ∈ house.sessions, y.number = 1 → y.host ≠ 1) ∧
    ((queueAt { house with larder := { queues := [(0x400, { items := [{ demoItem with seq := 65536, deliveredTo := some (.session 1 1 1) }] })] } }
      0x400).items.find? (ItemOf 1 1 0)).isSome = true ∧ (queueAt house 0x400).items.find? (ItemOf 1 1 0) = none :=
  ⟨⟨by decide, by decide, by decide, by unfold Wins; decide⟩, by decide, by decide, by decide, by decide, by decide, by decide,
    ⟨.inl (by decide), by decide, by decide, by decide, by decide, by decide, by decide⟩, fun h => absurd h.port (by decide), by decide, by decide,
    by decide, by decide⟩

/-- The tenant's update as `x`, in a state that `f` changes. -/
def updated (kind n : Nat) (x : Update) : State := { house with updates := [(updateKey kind n, x)] }

def scheduled : Update := { phase := .scheduled, activateAt := { sec := 0, ns := 5000 }, stagedLen := 16, checkedImg := true }

/-- The house with an image checked and scheduled, and with one waiting. -/
def activating : State := updated 3 1 scheduled
def rechecking : State := updated 3 1 { scheduled with phase := .waiting }

/-- The active of a pair, whose standby is to take the second half of an update. -/
def halfway : State := { pairHouse with updates := [(updateKey 1 0, { pairHalf := true, pairTick := 3 })] }

theorem witness_UpdateEvents :
    (ActivationDue activating (settleAll activating) 3 1 ∧ (updateAt (settleAll activating) 3 1).pairHalf = false ∧
      (suiteAt (settleAll activating) 1).locked = false ∧ MayActivate (settleAll activating) 3 1 ∧
      oneByOne (settleAll activating) 3 scheduled (some (stagedImage scheduled)) = false) ∧
    (RecheckDue rechecking rechecking 3 1 ∧ MayActivate rechecking 3 1) ∧
    ({ activating with mantel := { batLow := true } } : State).mantel.batLow = true ∧
    (moving { updated 3 1 { scheduled with interlocks := [0x200] } with values := [(0x200, { v := 1 })] } 3 1 = true ∧ house.mantel.batLow = false ∧
      house.boot.pfailLow = false) ∧
    (ActivationDue (updated 3 1 { scheduled with pairHalf := true }) (settleAll (updated 3 1 { scheduled with pairHalf := true })) 3 1 ∧
      (updateAt (settleAll (updated 3 1 { scheduled with pairHalf := true })) 3 1).pairHalf = true) ∧
    (suiteAt (suited (fun x => { x with locked := true }) 0) 1).locked = true ∧
    ((updateAt (updated 3 1 { phase := .trial }) 3 1).phase = .trial ∧ reached (now house) (updateAt (updated 3 1 { phase := .trial }) 3 1).trialEnd = true ∧
      (updateAt (updated 3 1 { phase := .trial }) 3 1).pairHalf = false) ∧
    oneByOne (updated 1 0 { phase := .trial }) 1 (updateAt (updated 1 0 { phase := .trial }) 1 0) (updateAt (updated 1 0 { phase := .trial }) 1 0).fallback = false ∧
    reached (now house) { sec := 1, ns := 0 } = false ∧ halfSince halfway = some 3 ∧ halfSince house = none :=
  ⟨⟨⟨rfl, by decide, by decide, by decide⟩, by decide, by decide, ⟨by decide, by decide⟩, by decide⟩,
    ⟨⟨rfl, by decide, by decide⟩, ⟨by decide, by decide⟩⟩, by decide, by decide,
    ⟨⟨rfl, by decide, by decide, by decide⟩, by decide⟩, by decide, by decide, by decide, by decide, by decide, by decide⟩

/-- A group command of level 1 that waits for members 0, its speaker, and 4. -/
def demoGroup : GroupCmd := { level := 1, via := .unit, target := 0, tag := 7, replyQueue := 0, code := 2, suite := 0, words := [], members := [0, 4]
                              answers := [], sinceTick := 0 }

/-- The house while the group command is under way, its own member's answer being there. -/
def speaking : State := { grouped with groupCmds := [demoGroup], groupOut := [(7, 0, stDone)] }

def demoTest (depth : Nat) : LoopTest :=
  { depth, count := 1, length := 64, durationS := 1, testId := 0, startTick := 0, tag := 0, replyQueue := 0, suite := 0 }

theorem witness_UnitEvents : resolve house 0 = none ∧ resolve house house.addr.self = some (.unit .module) ∧
    resolve house (addrAt house.addr.self 1 1 [] 0x200) = some (.point 0x200 false) ∧ mayRead (settleAll house) 1 0x200 = true ∧
    mayRead (settleAll house) 2 0x200 = false ∧ findRecord house .module 9 0 = none ∧ (findRecord repeated .module 7 0).isSome = true ∧
    (let s := pairOf { role := .standby }
     resolve s (addrAt s.addr.self 1 1 [] 0x200) = some (.point 0x200 true) ∧ activeElsewhere s = true ∧ s.twin.failed = false) ∧
    (awaited speaking 1 7 4 = some demoGroup ∧ 4 ≠ ownMember speaking 1) ∧
    (awaited speaking 1 7 0 = some demoGroup ∧ 0 = ownMember speaking 1 ∧
      (speaking.groupOut.find? (fun o => o.1 == 7 && o.2.1 == demoGroup.replyQueue)).isSome = true) ∧ awaited speaking 1 8 4 = none ∧
    ({ speaking with tick := 6250000 } : State).groupCmds.find? (fun g => g.level == 1 && g.tag == 7 && decide (g.sinceTick + 6250000 ≤ 6250000)) =
      some demoGroup ∧ (∀ g ∈ speaking.groupCmds, speaking.tick < g.sinceTick + 6250000) ∧
    (tlook ({ house with tests := [(unitKey port0, demoTest 4)] } : State).tests (unitKey port0) = some (demoTest 4) ∧
      house.tick < (demoTest 4).startTick + 125000000 * (demoTest 4).durationS) ∧ (demoTest 1).depth ≠ 4 := by decide

/-! ### Witnesses: the Hallway bus, inputs, outputs, loops and metering -/

/-- Hallway port 1 on its bus, as `x` makes it, its slot 2 consuming queue 0x400 with an item of some data. -/
def busWith (x : Hall) (data : List Byte) : State :=
  consumed { house with halls := [(1, { x with cfg := { x.cfg with opmode := 1 }, integrated := true, busState := 0 })] } (hallPart 1) data

def slot2 (fmt : BitVec 3) : Hall := { slots := [(2, { valid := true, suite := 1, queue := 0x400, fmt })] }

def busFrame (id : Nat) : HallFrame := { format := 0, id, ide := false, rtr := false, brs := false, esi := false, xlSec := false, dlc := 0, sdt := 0
                                         vcid := 0, af := 0, data := [], sofAgo := 0 }

def offer (id : Nat) (attempting : Bool) (lifetimeUs : Nat) : Offered :=
  { item := 0, frame := busFrame id, tag := 0, replyQueue := 0, lifetimeUs, entered := t0, suite := 1, attempting }

/-- Two frames offered, of which the one on slot 3 wins. -/
def rivals : Hall := { offered := [(2, offer 9 false 0), (3, offer 8 false 0), (4, offer 8 false 0)] }

def anyFilter : HallFilter := { valid := true, queueAction := true, suite := 1, queue := 0x400, fmt := 1 }

/-- What slot 2 of port 1 finds: it may take its item, and its checks answer `st`. -/
def slotFinds (fmt : BitVec 3) (data : List Byte) (st : Option Status) : Prop :=
  let s := busWith (slot2 fmt) data
  let b := settleHall s 1
  let c := tget {} (hallAt b 1).slots 2
  maySend b 1 = true ∧ slotQueue c = 0x400 ∧ tlook (hallAt b 1).offered 2 = none ∧ resetting b c.suite = false ∧ hallWaits b 1 0 = [] ∧
    Takes b 0x400 (hallPart 1) (fun t it => hallRefusal t 1 c it == st)

def noClock : State := { house with clock := { house.clock with clkFault := true } }

theorem witness_HallwayEvents :
    noClock.clock.clkFault = true ∧ (busWith {} []).clock.clkFault = false ∧
    (onBus (busWith {} []) 1 = true ∧ (enabledFormats (hallAt (busWith {} []) 1).cfg).getLsbD (busFrame 9).format = true ∧ house.twin.role ≠ .standby) ∧
    (hallAt (busWith { recErr := 128 } []) 1).recErr = 128 ∧ onBus house 1 = false ∧
    ((hallAt (busWith { filters := [(0, anyFilter)] } []) 1).filters.find? (fun e => filterMatches e.2 (busFrame 9)) = some (0, anyFilter)) ∧
    slotFinds 1 (List.replicate 24 0) none ∧ slotFinds 1 [0] (some (stRefused .size)) ∧
    (maySend (busWith rivals []) 1 = true ∧ attempting (busWith rivals []) 1 = none ∧ hallWaits (busWith rivals []) 1 0 = [] ∧
      WinsBus ((hallAt (busWith rivals []) 1).offered.filter (fun o => o.2.cancel.isNone && !lifetimePassed (busWith rivals []) 1 o.2)) (3, offer 8 false 0)) ∧
    maySend house 1 = false ∧
    (attempting (busWith { offered := [(2, offer 9 true 0)] } []) 1 = some (2, offer 9 true 0) ∧
      (hallAt (busWith { offered := [(2, offer 9 true 0)] } []) 1).integrated = true) ∧
    (let left : State := { house with halls := [(1, { cfg := { opmode := 1 }, offered := [(2, offer 9 true 0)] })] }
     attempting left 1 = some (2, offer 9 true 0) ∧ (hallAt left 1).integrated = false) ∧ attempting house 1 = none ∧
    (tlook (hallAt (busWith { offered := [(2, offer 9 false 5)] } []) 1).offered 2 = some (offer 9 false 5) ∧ (hallAt (busWith {} []) 1).cfg.trunk = false ∧
      (offer 9 false 5).lifetimeUs ≠ 0 ∧ reached (now house) (taddUs t0 5) = true) ∧ tlook (hallAt house 1).offered 2 = none ∧
    (let out : State := { house with halls := [(1, { cfg := { opmode := 1 }, busState := 2 })] }
     (hallAt out 1).busState = 2 ∧ hallOn out 1 = true ∧ testing out (hallUnit 1) = false) ∧
    (tget [] house.hallPairs 0).head? = none ∧
    (let told : State := { house with hallPairs := [(0, [{ tick := house.tick, recorded := true }])] }
     (tget [] told.hallPairs 0).head? = some { tick := house.tick, recorded := true } ∧ told.tick < house.tick + 125000) := by
  refine ⟨by decide, by decide, by decide, by decide, by decide, by decide,
    ⟨by decide, by decide, by decide, by decide, by decide, takes_of (by decide)⟩, ⟨by decide, by decide, by decide, by decide, by decide, takes_of (by decide)⟩,
    ⟨by decide, by decide, by decide, ⟨[(2, offer 9 false 0)], [(4, offer 8 false 0)], by decide, by decide, by decide⟩⟩, ?_⟩
  decide

/-- Bank 0 as `b` with outputs 0 and 1 as `o` and `o'`. -/
def banked (b : Bank) (o o' : Output) : State := { house with banks := [(0, b)], outputs := [(0, o), (1, o')] }

/-- Input block 0 enabled, counting and tested. -/
def inputsOn (state : BitVec 64) : State :=
  { house with tick := 9000, inputs := { blocks := [(0, { enable := 0xFF, countEn := 0xFF, filterUs := 10, testPeriod := 1 })], state := state,
                                          pins := [(7, { mv := 24000, raw := true })], tested := [(6, 9000)] } }

theorem witness_InputOutputEvents :
    noClock.clock.clkFault = true ∧ (inputsOn 0).clock.clkFault = false ∧
    (let p := setPin (inputsOn 0) 7 (fun p => p.drive (inputBlock (inputsOn 0) (7 / 8)).type3 24000 (inputsOn 0).tick)
     (inputBlock p (7 / 8)).filterUs ≤ p.tick / 125 - (pinAt p 7).since / 125 ∧ ((pinAt p 7).raw != (inputBlock p (7 / 8)).invert.getLsbD (7 % 8)) = true ∧
     p.boot.vfield = true ∧ inputOn p 7 = true ∧ p.inputs.state.getLsbD 7 ≠ true ∧ utilDown p = false ∧
     (inputBlock p (7 / 8)).countEn.getLsbD (7 % 8) = true) ∧
    ((inputBlock (inputsOn 0) (7 / 8)).testPeriod ≠ 0 ∧ tlook (inputsOn 0).inputs.tested 7 = none) ∧
    (tlook (inputsOn 0).inputs.tested 6 = some 9000 ∧ (inputsOn 0).tick < 9000 + 125000 * (1000 * (inputBlock (inputsOn 0) (6 / 8)).testPeriod)) ∧
    (pendingOutputs (banked { state := .closed } { pendingAt := some 1 } {}) 0 = [0] ∧ bankClosed (banked { state := .closed } { pendingAt := some 1 } {}) 0 = true ∧
      inDeadTime (banked { state := .closed } { pendingAt := some 1 } {}) 0 = false ∧
      ∀ m ∈ bankOutputs 0, isPulseOut (banked { state := .closed } { pendingAt := some 1 } {}) m = true ∨
        (outputAt (banked { state := .closed } { pendingAt := some 1 } {}) m).conducting = false) ∧
    pendingOutputs house 5 = [] ∧ (bankAt (banked { state := .closed } {} {}) 0).state = .closed ∧ (bankAt house 0).state ≠ .closed ∧
    (bankAt (banked { state := .tripped } {} {}) 0).state = .tripped ∧ (outputAt (banked {} {} { conducting := true }) 1).conducting = true ∧
    (outputAt house 1).conducting = false ∧
    ((outputAt (banked { cfg := { shutterMs := 5 } } { live := true } {}) 0).live = true ∧ isPulseOut (banked { cfg := { shutterMs := 5 } } { live := true } {}) 0 = false ∧
      runsTasks (banked { cfg := { shutterMs := 5 } } { live := true } {}) = true ∧ (bankAt (banked { cfg := { shutterMs := 5 } } { live := true } {}) (0 / 8)).cfg.shutterMs ≠ 0) ∧
    (let s := { banked { cfg := { openDetect := 1 }, state := .closed } { switched := some 0 } {} with tick := 1250000 }
     (outputAt s 0).stuck = false ∧ SenseRises s 0 false ∧ (outputAt s 0).openLoad = false ∧ SenseRises s 0 true) ∧
    (let s := banked {} {} {}
     ((outputAt s 0).openLoad = false ∧ ¬ SenseRises s 0 false)) ∧
    (outputAt (banked {} { stuck := true } {}) 0).stuck = true ∧ (outputAt (banked {} { openLoad := true } {}) 0).openLoad = true ∧
    ({ house with boot := { house.boot with vfield := false } } : State).boot.vfield = false :=
  ⟨by decide, by decide, by decide, by decide, by decide, by decide, by decide, by decide, by decide, by decide, by decide, by decide, by decide,
    ⟨by decide, ⟨0, by decide, by decide⟩, by decide, by unfold SenseRises; decide⟩, ⟨by decide, fun ⟨t, ht, _⟩ => nomatch ht⟩, by decide, by decide, by decide⟩

def sampleOf (order : Nat) : Sample := { u := 5, accepted := t0, order, delayed := false }

/-- Two Hearth slots with samples, slot 6 first. -/
def sampled : State := { house with hearth := { slots := [(5, { inUse := true, suite := 1, pending := some (sampleOf 2) }),
                                                          (6, { inUse := true, suite := 1, pending := some (sampleOf 1) })] } }

/-- A TIMER slot whose instant is 5 µs. -/
def timed : State := { house with hearth := { slots := [(5, { inUse := true, suite := 1, timer := true, timerPeriod := 10, timerPhase := 5 })] } }

/-- The active member of a pair, whose circuit 2 the standby measures. -/
def remote : State := { pairOf { role := .active } with meter := { circuits := [(2, { cfg := { enable := true, carrier := true } })] } }

/-- Energy pulse output 0 as `p`, its bank closed. -/
def pulsing (p : PulseOut) : State := { house with banks := [(5, { state := .closed })], meter := { pulses := [(0, p)] } }

theorem witness_HearthAndMeterEvents :
    (FirstSample sampled 6 (sampleOf 1) ∧ (slotAt sampled 6).pending = some (sampleOf 1)) ∧ (pairOf { role := .standby }).twin.role = .standby ∧
    (let b := settleAll timed
     let x := slotAt b 5
     let us := wholeUs (now b)
     x.timerPhase < x.timerPeriod ∧ x.inUse = true ∧ x.timer = true ∧ x.timerPeriod ≠ 0 ∧ us % x.timerPeriod = x.timerPhase ∧ x.lastTrigger ≠ some us ∧
       commitsDue b = false ∧ resetting b x.suite = false ∧ b.twin.role ≠ .standby) ∧ (slotAt sampled 5).timer = false ∧
    noClock.clock.clkFault = true ∧ house.clock.clkFault = false ∧
    ((circuitAt remote 2).cfg.enable = true ∧ carriedHere remote (circuitAt remote 2).cfg = false ∧ remote.twin.role = .active) ∧
    (house.boot.phase = .running ∧ house.meter.flashDue ≤ house.tick) ∧
    (let s := pulsing { enable := true, widthMs := 5, due := [0] }
     (pulseAt s 0).due = [0] ∧ (pulseAt s 0).enable = true ∧ (pulseAt s 0).active = false ∧ (pulseAt s 0).inGap = false ∧ 0 ≤ s.tick ∧
     runsTasks s = true ∧ bankClosed s 5 = true) ∧
    (pulseAt house 0).due = [] ∧ house.tick < (pulseAt (pulsing { endTick := 9 }) 0).endTick ∧
    ((pulseAt (pulsing { active := true }) 0).endTick ≤ house.tick ∧ (pulseAt (pulsing { active := true }) 0).active = true) ∧
    ((pulseAt (pulsing { inGap := true }) 0).active = false ∧ (pulseAt (pulsing { inGap := true }) 0).inGap = true) :=
  ⟨⟨⟨by decide, ⟨_, .tail _ (.head _), rfl⟩, by
      intro e he q hq; simp only [sampled, List.mem_cons, List.not_mem_nil, or_false] at he
      rcases he with rfl | rfl <;> cases hq <;> decide⟩, by decide⟩,
    by decide, by decide, by decide, by decide, by decide, by decide, by decide, by decide, by decide, by decide, by decide, by decide⟩

/-! ### Witnesses: the pair, the Attic, the Mantel clock, resets and the test access port -/

def beat (role : Nat) (strobe crcOk : Bool) : Heartbeat := { strobe, crcOk, role, inStep := true, healthy := true, epoch := 5, dseq := 0 }

/-- Lanes of the Landing link in service. -/
def lanes : BitVec 4 := 0xF

def info (s : State) (role : Nat) (transcriptOk : Bool) : PartnerInfo :=
  { digest := configDigest s, mirrorVer := ownMirrorVer s, serial := 0, role, transcriptOk }

theorem info_agrees {s : State} {role n : Nat} (h : s.twin.partnerSerial = 0) :
    PartnerAgrees { s with twin := { s.twin with metSerial := n } } (info s role true) := ⟨rfl, rfl, .inl h, rfl⟩

def seeking (member : Bool) : State := { pairOf { role := .seeking, lanesUp := lanes, member } with tick := 250000000 }

theorem witness_PairRoles :
    ((pairOf { role := .active, inStep := true, wasHealthy := true }).twin.role ≠ .none ∧ pairHouse.addr.paired = true ∧
      ({ pairHouse with tick := 6250 } : State).twin.hbSentTick + 6250 ≤ 6250 ∧ (pairOf { role := .active, inStep := true, wasHealthy := true }).twin.wasHealthy = true) ∧
    house.tick < house.twin.hbSentTick + 6250 ∧
    Heard (pairOf { role := .active, lanesUp := lanes }) (beat 2 false true) ∧ Heard (pairOf { role := .active }) (beat 2 true true) ∧
    stepsDown (heartbeatKept (pairOf { role := .active, lanesUp := lanes }) (beat 2 false true)) (beat 2 false true) = true ∧
    AsksSnapshot (pairOf { role := .active, lanesUp := lanes, transferKey := some [] }) { beat 3 false true with inStep := false } ∧
    (beat 2 false false).crcOk = false ∧
    ((pairOf { landing := { alive := true } }).twin.landing.alive = true ∧ (pairOf { strobe := { alive := true } }).twin.strobe.alive = true ∧
      deadTicks (pairOf { hbMiss := 4 }) ≤ 25000 ∧ house.tick < house.twin.landing.lastTick + deadTicks house) ∧
    (landingDown (seeking true) = false ∧ (seeking true).twin.role = .seeking ∧
      PartnerAgrees { seeking true with twin := { (seeking true).twin with metSerial := 0 } } (info (seeking true) 1 true) ∧
      (seeking true).twin.member = true) ∧
    (landingDown (seeking false) = false ∧ (seeking false).twin.role = .seeking ∧
      PartnerAgrees { seeking false with twin := { (seeking false).twin with metSerial := 0 } } (info (seeking false) 1 true) ∧
      (seeking false).twin.member = false ∧ (info (seeking false) 1 true).role ≠ 2) ∧
    ¬ PartnerAgrees { seeking true with twin := { (seeking true).twin with metSerial := 0 } } (info (seeking true) 1 false) ∧
    (let s := pairOf { role := .standby, lanesUp := lanes }
     s.twin.role = .standby ∧ (info s 1 true).role = 1 ∧ s.twin.inStep = false ∧ PartnerAgrees { s with twin := { s.twin with metSerial := 0 } } (info s 1 true)) ∧
    (let s := pairOf { role := .active, lanesUp := lanes }
     s.twin.role = .active ∧ (info s 1 true).role = 1 ∧ PartnerAgrees { s with twin := { s.twin with metSerial := 0 } } (info s 1 true)) ∧
    (max (seeking true).twin.seekTick (max (seeking true).twin.landing.lastTick (seeking true).twin.strobe.lastTick) + 250000000 ≤ (seeking true).tick) ∧
    house.twin.role ≠ .seeking ∧ ((pairOf { role := .standby, lanesUp := lanes }).twin.role = .standby ∧
      landingDown (pairOf { role := .standby, lanesUp := lanes }) = false ∧ (pairOf { role := .standby, lanesUp := lanes }).twin.exchange = none ∧
      (pairOf { role := .standby, lanesUp := lanes }).twin.tsw = none) ∧
    ((pairOf { lanesUp := lanes }).twin.lanesUp.getLsbD 3 = true ∧ tget 0 (pairOf { lanesUp := lanes }).twin.laneFails 3 < 3 ∧
      3 ≤ tget 0 (pairOf { lanesUp := lanes, laneFails := [(3, 3)] }).twin.laneFails 3) ∧
    ((pairOf { tsw := some t0 }).twin.tsw = some t0 ∧ (pairOf { tsw := some t0 }).twin.tx = none ∧ (pairOf { tsw := some t0, tx := some t0 }).twin.tx = some t0) ∧
    house.twin.tsw = none :=
  ⟨by decide, by decide, ⟨by decide, by decide, .inl (by decide)⟩, ⟨by decide, by decide, .inr (by decide)⟩, by decide,
    ⟨by decide, by decide, by decide, by decide, by decide, by decide⟩, by decide, by decide,
    ⟨by decide, by decide, info_agrees rfl, by decide⟩, ⟨by decide, by decide, info_agrees rfl, by decide, by decide⟩,
    fun h => absurd h.transcript (by decide), ⟨by decide, by decide, by decide, info_agrees rfl⟩, ⟨by decide, by decide, info_agrees rfl⟩, by decide, by decide, by decide, by decide, by decide,
    by decide⟩

def delta (prepared snapshot : Bool) (dseq : Nat) (entries : List DeltaEntry) : Delta :=
  { dseq, prepared, snapshot, at80 := t0, epoch := 0, entries }

/-- The standby of a pair, which has taken delta 4. -/
def following : State := pairOf { role := .standby, lanesUp := lanes, snapshotSeen := true, dseqLast := 4 }

/-- The delta's items, as the standby of the pair spells them. -/
def sentAs (d : Delta) : DeltaItems := { items := spellDelta following d, intact := true }

def theDelta : Shipped := { dseq := 4, tick := 0, items := [] }

/-- The active of a pair that has shipped a delta at tick 0. -/
def shippedBy (inStep syncing : Bool) (x : Shipped) : State := pairOf { role := .active, inStep, syncing, shipped := [x] }

theorem witness_MirrorDeltas :
    (followed pairHouse = true ∧ (pairOf { commitAt := some t0 }).twin.commitAt = some t0 ∧ commitsDue (pairOf { commitAt := some t0 }) = false ∧
      pairHouse.twin.commitAt = none) ∧ followed house = false ∧
    (∀ d ∈ [delta false true 5 [], delta false false 6 [], delta true false 5 [], delta true false 5 [.unknown 99], delta false false 5 [.unknown 99]],
      readDelta (sentAs d).items = some d) ∧
    ((sentAs (delta false true 5 [])).intact = true ∧ landingDown following = false ∧ following.twin.role = .standby ∧ following.twin.snapshotSeen = true ∧
      (pairOf { role := .standby, lanesUp := lanes }).twin.snapshotSeen = false) ∧
    applyEntries applyConfig false t0 [] (deltaBase following (delta false true 5 [])) = some (deltaBase following (delta false true 5 [])) ∧
    applyEntries applyConfig false t0 [.unknown 99] following = none ∧
    (¬ Follows following (delta false false 6 []) ∧ Follows following (delta false false 5 [])) ∧
    (knownEntries (delta true false 5 []) = true ∧ knownEntries (delta true false 5 [.unknown 99]) = false) ∧
    ((pairOf { role := .active, lanesUp := lanes }).twin.role = .active ∧ landingDown (pairOf { role := .active, lanesUp := lanes }) = false ∧ readDelta [] = none) ∧
    (pairHouse.twin.role ≠ .standby ∧ (pairOf { role := .seeking, lanesUp := lanes }).twin.role ≠ .active) ∧
    (let s := shippedBy true false theDelta
     s.twin.shipped.find? (fun y => y.dseq == 4) = some theDelta ∧ ¬ ConfirmedLate s theDelta ∧ s.twin.inStep = true ∧ s.twin.syncing = false) ∧
    ConfirmedLate { shippedBy true false theDelta with tick := 1876 } theDelta ∧
    (let x : Shipped := { theDelta with snapshot := true }
     (shippedBy false true x).twin.shipped.find? (fun y => y.dseq == 4) = some x ∧ ¬ ConfirmedLate (shippedBy false true x) x ∧
      (shippedBy false true x).twin.syncing = true) ∧
    (∀ x ∈ house.twin.shipped, x.dseq ≠ 4) ∧
    ((pairOf { role := .standby, prepared := [{ suite := 1, task := 1, cyc := 1, commit := t0, entries := [] }] }).twin.prepared.find?
      (fun x => x.suite == 1 && x.task == 1 && reached (now house) x.commit) = some { suite := 1, task := 1, cyc := 1, commit := t0, entries := [] }) ∧
    house.twin.role ≠ .standby ∧ house.twin.inStep = false :=
  ⟨by decide, by decide, by decide, by decide, rfl, rfl, by unfold Follows; decide, by decide, by decide, by decide,
    by unfold ConfirmedLate; decide, by unfold ConfirmedLate; decide, by unfold ConfirmedLate; decide, by decide, by decide, by decide, by decide⟩

def eventOf (sev : Nat) : Event := { suite := 1, sev, code := 0, time := t0, ctx := some 33, source := 0, payload := [] }

/-- The house with events in flight, and with a Mantel clock. -/
def noting (a : Attic) : State := { house with attic := a }
def mantled (m : Mantel) : State := withMantel house m

theorem witness_AtticAndMantelEvents :
    (firstWorst (noting { flight := [eventOf 2, eventOf 5] }).attic.flight = some (eventOf 5) ∧
      ∀ f, firstWorst (noting { flight := [eventOf 5] }).attic.taskEvents = some f → f.sev ≤ (eventOf 5).sev) ∧
    (firstWorst (noting { taskEvents := [eventOf 2, eventOf 5] }).attic.taskEvents = some (eventOf 5) ∧ (eventOf 5).ctx = some 33 ∧
      ∀ f, firstWorst (noting { taskEvents := [eventOf 5] }).attic.flight = some f → f.sev < (eventOf 5).sev) ∧
    (house.attic.flight = [] ∧ house.attic.taskEvents = []) ∧ (house.attic.scrubStop = false ∧ house.attic.scrubDue ≤ house.tick) ∧
    (noting { scrubStop := true }).attic.scrubStop = true ∧ house.attic.flushDue ≤ house.tick ∧ house.mantel.vbakDue ≤ house.tick ∧
    house.tick < house.mantel.lastEdge + 500000 ∧ house.mantel.onBackup = false ∧ (mantled { onBackup := true }).mantel.onBackup = true ∧
    ((mantled { loadAt := some 0, loadIsReload := true }).mantel.loadAt = some 0 ∧ reached (now house) { sec := 0, ns := 0 } = true) ∧
    (mantled { loadAt := some 0 }).mantel.loadIsReload = false ∧ house.mantel.loadAt = none ∧
    ((mantled { trimDone := some 33554432 }).mantel.trimDone = some 33554432 ∧ house.mantel.trimDone = none) ∧
    ((mantled { wakeTicks := 64, halt := false }).mantel.wakeTicks ≠ 0 ∧
      ((mantled { wakeTicks := 64, halt := false }).mantel.seconds * 64 + (mantled { wakeTicks := 64, halt := false }).mantel.fraction / 512) % 64 = 0 ∧
      (mantled { wakeTicks := 64, halt := false }).mantel.wakes = []) ∧
    house.mantel.wakeTicks = 0 ∧ (mantled { mwakeN := false }).mantel.mwakeN = false ∧ (mantled { tamperLatched := true }).mantel.tamperLatched = true ∧
    house.mantel.tamperLatched = false :=
  ⟨⟨by decide, not_some (by decide)⟩, ⟨by decide, by decide, not_some (by decide)⟩, by decide, by decide, by decide, by decide, by decide, by decide, by decide,
    by decide, by decide, by decide, by decide, by decide, by decide, by decide, by decide, by decide, by decide⟩

/-- What a start finds. -/
def bootEnv (memFail m0Fail m1Fail : Bool) : BootEnv :=
  { coreFail := 0, m0Fail, m1Fail, memFail, laneFail := [], linkFail := [], paceFail := [], refclkOk := true, twinRole := false, bootMs := 0
    reads := { marginal := [] } }

theorem witness_ResetAndStart :
    ¬ (house.boot.phase = .held ∨ house.boot.phase = .waitPfail) ∧ house.boot.phase = .running ∧ State.reset.boot.phase ≠ .running ∧
    ¬ ¬ (State.reset.boot.phase = .held ∨ State.reset.boot.phase = .waitPfail) ∧ State.reset.boot.lastClass = .p ∧
    ({ State.reset with boot := { lastClass := .w } } : State).boot.lastClass = .w ∧ house.boot.pfailLow = false ∧
    ({ house with boot := { house.boot with pfailLow := true } } : State).boot.pfailLow = true ∧
    (State.reset.boot.phase = .held ∧ State.reset.tap.holding = false ∧ (bootEnv false false false).refclkOk = true ∧ State.reset.boot.pfailLow = false ∧
      State.reset.boot.memFail = false ∧ (bootEnv false false false).memFail = false ∧
      ¬ ((bootEnv false false false).m0Fail = true ∧ (bootEnv false false false).m1Fail = true)) ∧
    (State.reset.boot.lastClass ≠ .w ∧ (bootEnv true false false).memFail = true) ∧
    ((bootEnv false true true).m0Fail = true ∧ (bootEnv false true true).m1Fail = true) ∧
    ({ State.reset with boot := { pfailLow := true } } : State).boot.phase = .held ∧
    ({ house with cellar := { lifecycle := 3 } } : State).cellar.lifecycle = 3 ∧ ({ house with tap := { holding := true } } : State).tap.holding = true ∧
    house.cellar.lifecycle ≠ 3 :=
  ⟨by decide, by decide, by decide, by decide, by decide, by decide, by decide, by decide, by decide, by decide,
    by decide, by decide, by decide, by decide, by decide⟩

theorem witness_SramStaysCanonical : State.reset.sram.wf = true ∧ ∃ t, step State.reset = .next t := ⟨by decide, _, rfl⟩
theorem witness_SramStaysCanonical_command : ({ demoBadByte with pending := [.addR 0 { rd := 1, rs1 := 2, rs2 := 3 }] } : State).sram.wf = true ∧
    ∃ t, step { demoBadByte with pending := [.addR 0 { rd := 1, rs1 := 2, rs2 := 3 }] } = .next t := ⟨by decide, _, rfl⟩

end Sys2Proof.Tests
end

section
/-! Proofs of the statements of spec/03 on control flow, special registers and Q15 (R58, R71, R72, R77 to R85). -/

namespace Sys2Proof.Proofs
open Sys2Proof Sys2Proof.Machine

/-! ### How an instruction that issues ends -/

section
variable {s : State} {k c cost : Nat} {w : BitVec 32} {act : Env → State → Ctx → Did} {x : Ctx}

/-- The instruction completes with the registers `x`: it retires. -/
theorem runInsn_next (h : Issues s k c cost) (hw : (readWord (isMgmt k) w).map (·.cost) = some cost)
    (ha : act (issuing s k c w cost) (fetched s c) (contextAt s c) = .next (fetched s c) x) :
    runInsn k w act s = retired s c cost x := by
  rw [runInsn_issues act h hw, ha]; rfl

/-- The instruction sets the pc: it jumps. -/
theorem runInsn_goto {pc : BitVec 32} (h : Issues s k c cost) (hw : (readWord (isMgmt k) w).map (·.cost) = some cost)
    (ha : act (issuing s k c w cost) (fetched s c) (contextAt s c) = .goto (fetched s c) x pc) :
    runInsn k w act s = jumped s c cost x pc := by
  rw [runInsn_issues act h hw, ha]; rfl

/-- The instruction takes a fault that is no DEVICE fault. -/
theorem runInsn_fault {cls : FClass} {addr : BitVec 64} (h : Issues s k c cost)
    (hw : (readWord (isMgmt k) w).map (·.cost) = some cost)
    (ha : act (issuing s k c w cost) (fetched s c) (contextAt s c) = .fault cls .none addr) :
    runInsn k w act s = faulted s k c w cls addr := by
  rw [runInsn_issues act h hw, ha]; rfl

/-- R73: the instruction raises conditions: it ends as an arithmetic instruction does. -/
theorem runInsn_withConds {raised : BitVec 9} (h : Issues s k c cost)
    (hw : (readWord (isMgmt k) w).map (·.cost) = some cost)
    (ha : act (issuing s k c w cost) (fetched s c) (contextAt s c) = withConds raised (fetched s c) (contextAt s c) x) :
    runInsn k w act s = arithEnd s k c cost w raised x := by
  unfold withConds at ha
  unfold arithEnd
  split at ha
  · rw [if_pos ‹_›]; exact runInsn_fault h hw ha
  · rw [if_neg ‹_›]; exact runInsn_next h hw ha

end

theorem legalIf_cost {ok : Bool} (cost : Nat) (kind : Kind) (h : ok = true) :
    (legalIf ok cost kind).map (·.cost) = some cost := by
  simp [legalIf, h]

/-! ### Transfers of control (R77, R84) -/

theorem loopAllows_iff (x : Ctx) (t : BitVec 32) : loopAllows x t = true ↔ LoopPermits x t := by
  unfold loopAllows LoopPermits
  cases currentLoop x with
  | none => simp
  | some l => simp

theorem leaveLoop_eq_afterJump (x : Ctx) (t : BitVec 32) : leaveLoop x t = afterJump x t := by
  unfold leaveLoop afterJump
  cases currentLoop x <;> rfl

/-- R77: the address that a displacement in words leads to. -/
def targetOf {n : Nat} (x : Ctx) (d : BitVec n) : BitVec 32 := x.pc + d.signExtend 32 * 4

/-- A displacement in words, added to the pc as an integer, is the sign-extended one added in 32 bits. -/
theorem pcPlus_words {n : Nat} (x : Ctx) (d : BitVec n) : pcPlus x.pc (4 * d.toInt) = targetOf x d := by
  have hd : d.signExtend 32 * 4 = BitVec.ofInt 32 (4 * d.toInt) := by
    rw [mul_comm 4, BitVec.ofInt_mul]; rfl
  rw [pcPlus, targetOf, BitVec.ofInt_add, BitVec.ofInt_natCast, BitVec.ofNat_toNat, BitVec.setWidth_eq, hd]

/-- R77, R84: the transfer by a displacement is permitted: any displacement on a management core, a forward one on a scan core,
and a target that the current loop permits. -/
def TransferPermitted {n : Nat} (k : Nat) (x : Ctx) (d : BitVec n) : Prop :=
  (32 ≤ k ∨ 1 ≤ d.toInt) ∧ LoopPermits x (targetOf x d)

section
variable {n : Nat} {e : Env} {s : State} {x : Ctx} {d : BitVec n}

theorem transfer_permitted (h : TransferPermitted e.k x d) :
    transfer e s x d.toInt = .goto s (afterJump x (targetOf x d)) (targetOf x d) := by
  obtain ⟨hdisp, hloop⟩ := h
  have hfwd : ¬ (!isMgmt e.k && decide (d.toInt < 1)) = true := by simp [isMgmt]; omega
  simp only [transfer, pcPlus_words, (loopAllows_iff _ _).2 hloop, leaveLoop_eq_afterJump, if_neg hfwd]
  rfl

theorem transfer_refused (h : ¬ TransferPermitted e.k x d) :
    transfer e s x d.toInt = .fault .illegal .none 0 := by
  simp only [transfer, pcPlus_words]
  split
  · rfl
  next hfwd =>
    have hdisp : 32 ≤ e.k ∨ 1 ≤ d.toInt := by simp [isMgmt] at hfwd; omega
    have hloop : loopAllows x (targetOf x d) = false := by
      rw [← Bool.not_eq_true, loopAllows_iff]
      exact fun hl => h ⟨hdisp, hl⟩
    rw [hloop]; rfl

end

/-! ### Costs of the control instructions (R78 to R80) -/

theorem br_cost (m : Bool) {cond : Nat} (f : FmtB) (hc : cond < 6) : (readWord m (encB cond f)).map (·.cost) = some 2 := by
  obtain ⟨hop, hcond, _⟩ := encB_fields cond f (by omega)
  simp only [readWord, hop, hcond]
  exact legalIf_cost _ _ (by simpa using hc)

theorem jmp_cost (m : Bool) (f : FmtJ) : (readWord m (encJ 0x11 f)).map (·.cost) = some 2 := by
  obtain ⟨hop, _⟩ := encJ_fields 0x11 f (by decide)
  simp only [readWord, hop, Option.map_some]

theorem call_cost (m : Bool) (f : FmtJ) : (readWord m (encJ 0x12 f)).map (·.cost) = some 2 := by
  obtain ⟨hop, _⟩ := encJ_fields 0x12 f (by decide)
  simp only [readWord, hop, Option.map_some]

/-- R80: NOP, RET, FENCE and END, fn 0 to 3 with no operand: their steps. -/
theorem ctl_cost (m : Bool) (fn : Fin 4) :
    (readWord m (encA 0x13 fn ctlFields)).map (·.cost) = some (#v[1, 2, 4, 2][fn]) := by
  revert m fn; decide

/-! ### Branches (R78) -/

/-- Each branch of the table runs as `branch` with a test that decides its condition. -/
theorem branchTable_runs {r : (Nat → FmtB → Instr) × Nat × (BitVec 64 → BitVec 64 → Prop)} (hr : r ∈ branchTable)
    (k : Nat) (f : FmtB) (s : State) :
    r.2.1 < 6 ∧ ∃ test, exec (r.1 k f) s = branch k r.2.1 f test s ∧ ∀ a b, test a b = true ↔ r.2.2 a b := by
  simp only [branchTable, List.mem_cons, List.not_mem_nil, or_false] at hr
  rcases hr with rfl | rfl | rfl | rfl | rfl | rfl
  · exact ⟨by decide, (· == ·), rfl, by simp⟩
  · exact ⟨by decide, (· != ·), rfl, by simp⟩
  · exact ⟨by decide, BitVec.slt, rfl, by simp [BitVec.slt]⟩
  · exact ⟨by decide, fun a b => !BitVec.slt a b, rfl, by simp [BitVec.slt]⟩
  · exact ⟨by decide, BitVec.ult, rfl, by simp [BitVec.ult]⟩
  · exact ⟨by decide, fun a b => !BitVec.ult a b, rfl, by simp [BitVec.ult]⟩

section
variable {s : State} {k c cond : Nat} {f : FmtB} {test : BitVec 64 → BitVec 64 → Bool}

theorem branch_not_taken (h : Issues s k c 2) (hc : cond < 6)
    (ht : ¬ test (rget (contextAt s c) f.rs1) (rget (contextAt s c) f.rs2) = true) :
    branch k cond f test s = .next (retired s c 2 (contextAt s c)) :=
  congrArg _ (runInsn_next h (br_cost _ f hc) (if_neg ht))

theorem branch_taken (h : Issues s k c 2) (hc : cond < 6)
    (ht : test (rget (contextAt s c) f.rs1) (rget (contextAt s c) f.rs2) = true)
    (hp : TransferPermitted k (contextAt s c) f.disp) :
    branch k cond f test s = .next (jumped s c 2 (afterJump (contextAt s c) (targetOf (contextAt s c) f.disp))
      (targetOf (contextAt s c) f.disp)) :=
  congrArg _ (runInsn_goto h (br_cost _ f hc) ((if_pos ht).trans (transfer_permitted hp)))

theorem branch_refused (h : Issues s k c 2) (hc : cond < 6)
    (ht : test (rget (contextAt s c) f.rs1) (rget (contextAt s c) f.rs2) = true)
    (hp : ¬ TransferPermitted k (contextAt s c) f.disp) :
    branch k cond f test s = .next (faulted s k c (encB cond f) .illegal 0) :=
  congrArg _ (runInsn_fault h (br_cost _ f hc) ((if_pos ht).trans (transfer_refused hp)))

end

/-! ### JMP, CALL, RET and END (R77, R79, R80) -/

section
variable {s : State} {k c : Nat}

theorem jmp_permitted {f : FmtJ} (h : Issues s k c 2)
    (hp : TransferPermitted k (contextAt s c) f.disp) :
    exec (.jmp k f) s = .next (jumped s c 2 (afterJump (contextAt s c) (targetOf (contextAt s c) f.disp))
      (targetOf (contextAt s c) f.disp)) :=
  congrArg _ (runInsn_goto h (jmp_cost _ f) (transfer_permitted hp))

theorem jmp_refused {f : FmtJ} (h : Issues s k c 2)
    (hp : ¬ TransferPermitted k (contextAt s c) f.disp) :
    exec (.jmp k f) s = .next (faulted s k c (encJ 0x11 f) .illegal 0) :=
  congrArg _ (runInsn_fault h (jmp_cost _ f) (transfer_refused hp))

theorem call_with_room {f : FmtJ} (h : Issues s k c 2) (hroom : (contextAt s c).calls.length < 16) :
    exec (.call k f) s = .next (jumped s c 2
      { contextAt s c with calls :=
          { ret := (contextAt s c).pc + 4, depth := (contextAt s c).loops.length } :: (contextAt s c).calls }
      (targetOf (contextAt s c) f.disp)) := by
  rw [← pcPlus_words]
  exact congrArg _ (runInsn_goto h (call_cost _ f) (if_neg (by omega)))

theorem call_without_room {f : FmtJ} (h : Issues s k c 2) (hfull : 16 ≤ (contextAt s c).calls.length) :
    exec (.call k f) s = .next (faulted s k c (encJ 0x12 f) .stack 0) :=
  congrArg _ (runInsn_fault h (call_cost _ f) (if_pos hfull))

theorem ret_pops {top : CallEntry} {rest : List CallEntry} (h : Issues s k c 2) (hcalls : (contextAt s c).calls = top :: rest)
    (hdepth : (contextAt s c).loops.length ≤ top.depth) :
    exec (.ret k ctlFields) s = .next (jumped s c 2 { contextAt s c with calls := rest } top.ret) :=
  congrArg _ (runInsn_goto h (ctl_cost _ 1) (by simp only [hcalls]; exact if_neg (by omega)))

theorem ret_with_open_loop {top : CallEntry} {rest : List CallEntry} (h : Issues s k c 2)
    (hcalls : (contextAt s c).calls = top :: rest) (hdepth : top.depth < (contextAt s c).loops.length) :
    exec (.ret k ctlFields) s = .next (faulted s k c (encA 0x13 1 ctlFields) .illegal 0) :=
  congrArg _ (runInsn_fault h (ctl_cost _ 1) (by simp only [hcalls]; exact if_pos hdepth))

theorem ret_on_empty_stack (h : Issues s k c 2) (hcalls : (contextAt s c).calls = []) :
    exec (.ret k ctlFields) s = .next (faulted s k c (encA 0x13 1 ctlFields) .stack 0) :=
  congrArg _ (runInsn_fault h (ctl_cost _ 1) (by simp only [hcalls]))

theorem end_ends_cycle (h : Issues s k c 2) :
    exec (.endCycle k ctlFields) s =
      .next (endOf (putCtx (fetched s c) c { contextAt s c with steps := (contextAt s c).steps + 2 }) c) :=
  congrArg _ (runInsn_issues _ h (ctl_cost _ 3))

end

/-- Settles O11: each control instruction by what it does in its own lemma, the six branches at once through their table. -/
theorem branchesCallsAndControl : Obligations.BranchesCallsAndControl := by
  refine ⟨⟨fun s k c f h r hr => ?_, fun s k c f h => ?_⟩, fun s k c h => ?_, fun s k c h => ?_, fun s k c f h => ?_,
    fun s k c h => ?_, fun s k c h => ?_⟩
  · obtain ⟨hcond, test, hexec, htest⟩ := branchTable_runs hr k f s
    simp only [hexec, ← htest]
    exact ⟨branch_not_taken h hcond, fun ht hdisp hloop => branch_taken h hcond ht ⟨hdisp, hloop⟩, branch_refused h hcond⟩
  · exact ⟨fun hdisp hloop => jmp_permitted h ⟨hdisp, hloop⟩, jmp_refused h⟩
  · exact congrArg _ (runInsn_next h (ctl_cost _ 0) rfl)
  · exact congrArg _ (runInsn_next h (ctl_cost _ 2) rfl)
  · exact ⟨call_with_room h, call_without_room h⟩
  · exact ⟨fun _ _ => ret_pops h, fun _ _ => ret_with_open_loop h, ret_on_empty_stack h⟩
  · exact end_ends_cycle h

/-! ### Special registers (R58, R85) -/

theorem srr_cost (m : Bool) (f : FmtS) (hl : srListed f.sr.toNat = true) :
    (readWord m (encS 0 f)).map (·.cost) = some (if f.sr = 4 then 2 else 1) := by
  obtain ⟨hop, hfn, hsr, _⟩ := encS_fields 0 f (by decide)
  have h4 : f.sr.toNat = 4 ↔ f.sr = 4 := BitVec.toNat_inj (y := 4#12)
  simp only [readWord, hop, hfn, hsr, h4]
  exact legalIf_cost _ _ hl

theorem srw_cost (m : Bool) (f : FmtS) (hw : srListed f.sr.toNat && srWritable f.sr.toNat) :
    (readWord m (encS 1 f)).map (·.cost) = some 1 := by
  obtain ⟨hop, hfn, hsr, _⟩ := encS_fields 1 f (by decide)
  simp only [readWord, hop, hfn, hsr]
  exact legalIf_cost _ _ hw

/-- An SRW of any register but sr.flags, sr.trap and sr.fmode is no legal word. -/
theorem srw_read_only (m : Bool) (f : FmtS) (hf : f.sr ≠ 0x010) (ht : f.sr ≠ 0x011) (hm : f.sr ≠ 0x012) :
    readWord m (encS 1 f) = none := by
  obtain ⟨hop, hfn, hsr, _⟩ := encS_fields 1 f (by decide)
  have hw : srWritable f.sr.toNat = false := by
    simp [srWritable, ← BitVec.toNat_inj] at *; omega
  simp [readWord, hop, hfn, hsr, hw, legalIf]

/-- A word of two fields, for every place and width: with literals in place of them the kernel would unfold the powers. -/
theorem pack_two (lo len v lo' len' v' : Nat) :
    pack [(lo, len, v), (lo', len', v')] = BitVec.ofNat 64 (v % 2 ^ len * 2 ^ lo + v' % 2 ^ len' * 2 ^ lo') := by
  simp only [pack, List.foldl, zero_add]

theorem nowForm_eq {t : Time80} (h : TimeOk t) : nowForm t = BitVec.ofNat 64 (t.ns + t.sec % 2 ^ 32 * 2 ^ 32) := by
  have hns : t.ns % 2 ^ 32 = t.ns := Nat.mod_eq_of_lt (lt_trans h.1 (by decide))
  rw [nowForm, pack_two, hns, pow_zero, mul_one]

theorem secHi_eq {t : Time80} (h : TimeOk t) : secHi t = t.sec / 2 ^ 32 := by
  obtain ⟨_, hsec⟩ := h
  exact Nat.mod_eq_of_lt (by omega)

theorem now_fetched (s : State) (c : Nat) : now (fetched s c) = now s := by
  unfold fetched correctErrors; dsimp only; split <;> rfl

theorem suiteAt_fetched (s : State) (c n : Nat) : suiteAt (fetched s c) n = suiteAt s n := by
  simp only [suiteAt, fetched, suites_corrected]

/-- The table's registers are listed, and none is sr.now. -/
theorem specialTable_listed {s : State} {k c : Nat} {x : Ctx} {r : Nat × Nat} (hr : r ∈ specialTable s k c x) :
    srListed r.1 = true ∧ r.1 ≠ 4 := by
  have hall : ∀ n ∈ (specialTable s k c x).map (·.1), srListed n = true ∧ n ≠ 4 := by
    simp only [specialTable, List.map_cons, List.map_nil]; decide
  exact hall _ (List.mem_map_of_mem hr)

/-- What SRR reads from each special register of R58's table. -/
theorem srValue_specialTable {s : State} {e : Env} {x : Ctx} (hu : e.u = suiteAt s (ctxSuite e.c)) (hsnap : TimeOk x.tsnap)
    (hcommit : TimeOk x.tcommit) : ∀ r ∈ specialTable s e.k e.c x, srValue s e x r.1 = BitVec.ofNat 64 r.2 := by
  simp only [specialTable, List.forall_mem_cons, List.not_mem_nil, false_imp_iff, implies_true, and_true, srValue, hu,
    nowForm_eq hsnap, nowForm_eq hcommit, secHi_eq hsnap, secHi_eq hcommit, isMgmt, decide_eq_true_eq, BitVec.ofNat_toNat,
    BitVec.setWidth_eq]

section
variable {s : State} {k c : Nat} {f : FmtS}

/-- SRR of a listed register other than sr.now writes rt with its value. -/
theorem srr_reads (h : Issues s k c 1) (hl : srListed f.sr.toNat = true) (h4 : f.sr ≠ 4) :
    exec (.srr k f) s = .next (retired s c 1 (rset (contextAt s c) f.rt
      (srValue (fetched s c) (issuing s k c (encS 0 f) 1) (contextAt s c) f.sr.toNat))) :=
  congrArg _ (runInsn_next h ((srr_cost _ f hl).trans (by rw [if_neg h4])) (by simp only [if_neg h4]))

/-- SRR of sr.now takes 2 steps and latches the upper seconds. -/
theorem srr_now (h : Issues s k c 2) (h4 : f.sr = 4) (ht : TimeOk (now s)) :
    exec (.srr k f) s = .next (retired s c 2 (rset { contextAt s c with nowHi := (now s).sec / 2 ^ 32 } f.rt
      (BitVec.ofNat 64 ((now s).ns + (now s).sec % 2 ^ 32 * 2 ^ 32)))) := by
  refine congrArg _ (runInsn_next h ((srr_cost _ f (by rw [h4]; rfl)).trans (by rw [if_pos h4])) ?_)
  rw [← secHi_eq ht, ← nowForm_eq ht, ← now_fetched s c]
  simp only [h4]
  rfl

/-- SRW of a writable register does what `writeSr` says. -/
theorem srw_sets {x : Ctx} {ok : Prop} [Decidable ok] (h : Issues s k c 1)
    (hw : (srListed f.sr.toNat && srWritable f.sr.toNat) = true)
    (ha : writeSr f (fetched s c) (contextAt s c) = if ok then .next (fetched s c) x else .fault .illegal .none 0) :
    exec (.srw k f) s = if ok then .next (retired s c 1 x) else .next (faulted s k c (encS 1 f) .illegal 0) := by
  by_cases hok : ok
  · rw [if_pos hok] at ha ⊢
    exact congrArg _ (runInsn_next h (srw_cost _ f hw) ha)
  · rw [if_neg hok] at ha ⊢
    exact congrArg _ (runInsn_fault h (srw_cost _ f hw) ha)

end

/-- Settles O13: SRR by the table of values, SRW by the register that it names. -/
theorem specialRegisters : Obligations.SpecialRegisters := by
  refine ⟨fun s k c f hnow hsnap hcommit => ⟨fun h r hr hsr => ?_, fun h hsr => ?_, fun h hsr => srr_now h hsr hnow⟩,
    fun s k c f h => ⟨fun hsr => ?_, fun hsr => ?_, fun hsr => ?_, fun hf ht hm => ?_⟩⟩
  · obtain ⟨hl, h4⟩ := specialTable_listed hr
    have hv := srValue_specialTable (e := issuing s k c (encS 0 f) 1) (suiteAt_fetched s c _).symm hsnap hcommit r hr
    rw [srr_reads h (hsr ▸ hl) (fun h0 => h4 (by rw [← hsr, h0]; rfl)), hsr, hv]
  · rw [srr_reads h (by rw [hsr]; rfl) (by rw [hsr]; decide), hsr]
    simp [srValue, issuing, isFoundation]
  · exact srw_sets h (by rw [hsr]; rfl) (by simp [writeSr, hsr])
  · exact srw_sets h (by rw [hsr]; rfl) (by simp [writeSr, hsr])
  · exact srw_sets h (by rw [hsr]; rfl) (by simp [writeSr, hsr])
  · exact congrArg _ (runInsn_illegal _ h.toFetches (srw_read_only _ f hf ht hm))

/-! ### Q15 and the accumulators (R71, R72) -/

/-- R71: saturation as the statements say it is the model's clamp, which raises the condition where it changes the value. -/
theorem clampTo_eq (n : Nat) (q : BitVec 9) (v : Int) : clampTo n q v = (clampS n v, condIf (clampS n v != v) q) := by
  have hpos : (0 : Int) < (2 ^ (n - 1) : Nat) := by exact_mod_cast Nat.two_pow_pos _
  unfold clampTo clampS condIf
  generalize ((2 ^ (n - 1) : Nat) : Int) = b at hpos ⊢
  split
  next hlow =>
    have hc : max (-b) (min v (b - 1)) = -b := by omega
    rw [hc, if_pos (by simp; omega)]
  next hlow =>
    split
    next hhigh =>
      have hc : max (-b) (min v (b - 1)) = b - 1 := by omega
      rw [hc, if_pos (by simp; omega)]
    next hhigh =>
      have hc : max (-b) (min v (b - 1)) = v := by omega
      rw [hc, if_neg (by simp)]

theorem sat40_eq (v : Int) : sat40 v = clampTo 40 0x008 v := (clampTo_eq 40 0x008 v).symm

theorem sat16_eq (v : Int) : sat16 v = clampTo 16 0x004 v := (clampTo_eq 16 0x004 v).symm

theorem roundQ15_eq (v : Int) : roundQ15 v = roundHalfUp v := (Int.fdiv_eq_ediv_of_nonneg _ (by decide)).symm

theorem q15_eq (x : Ctx) (r : BitVec 5) : q15 (rget x r) = q15Operand x r := by
  rw [q15Operand, ← signed_toInt _ (by decide)]; simp [q15, signed]

theorem shiftAcc_eq (a sh : Int) : shiftAcc a sh =
    if 0 ≤ sh then sat40 (a * 2 ^ sh.toNat) else (a.fdiv (2 ^ (-sh).toNat), 0) := by
  rw [shiftAcc, Int.fdiv_eq_ediv_of_nonneg _ (by positivity)]

/-! ### The words of QOP (R65, R72) -/

theorem readWord_qop (m : Bool) {fn : Nat} (f : FmtQ) (hf : fn < 256) :
    readWord m (encQ fn f) = qopInfo f.acc.toNat f.rd.toNat f.rs1.toNat f.rs2.toNat fn := by
  obtain ⟨hop, hfn, hacc, hrd, hrs1, hrs2, _⟩ := encQ_fields fn f hf
  simp only [readWord, hop, hfn, hacc, hrd, hrs1, hrs2]

theorem toNat_beq_zero {n : Nat} (b : BitVec n) : (b.toNat == 0) = (b == 0) := by
  rw [Bool.eq_iff_iff, beq_iff_eq, beq_iff_eq, ← BitVec.toNat_inj]; simp

/-- A word of the accumulator table is legal where the fields it does not use are zero. -/
theorem accTable_word (m : Bool) (f : FmtQ) :
    ∀ r ∈ accTable, readWord m (encQ r.2.1 f) = legalIf (r.2.2.1 f) 1 := by
  simp [accTable, readWord_qop, qopInfo, toNat_beq_zero]

/-- A word of the register table is legal where the fields it does not use are zero. -/
theorem qRegTable_word (m : Bool) (f : FmtQ) :
    ∀ r ∈ qRegTable, readWord m (encQ r.2.1 f) = legalIf (r.2.2.1 f) 1 := by
  simp [qRegTable, readWord_qop, qopInfo, toNat_beq_zero]

/-! ### What the operations compute (R72) -/

/-- Each operation of the accumulator table runs as `qAcc` with its value. -/
theorem accTable_runs (k : Nat) (f : FmtQ) (s : State) : ∀ r ∈ accTable, ∃ val,
    exec (r.1 k f) s = qAcc k r.2.1 f val s ∧
    ∀ x, val x = r.2.2.2 f (aget x f.acc) (q15Operand x f.rs1 * q15Operand x f.rs2) (rget x f.rs1) := by
  simp only [accTable, List.forall_mem_cons, List.not_mem_nil, false_imp_iff, implies_true, and_true,
    ← q15_eq, ← sat40_eq]
  exact ⟨⟨_, rfl, fun _ => rfl⟩, ⟨_, rfl, fun _ => rfl⟩, ⟨_, rfl, fun _ => rfl⟩, ⟨_, rfl, fun _ => rfl⟩,
    ⟨_, rfl, fun _ => rfl⟩, ⟨_, rfl, fun _ => shiftAcc_eq _ _⟩⟩

/-- Each operation of the register table runs as `qReg` with its value. -/
theorem qRegTable_runs (k : Nat) (f : FmtQ) (s : State) : ∀ r ∈ qRegTable, ∃ val,
    exec (r.1 k f) s = qReg k r.2.1 f val s ∧
    ∀ x, val x = r.2.2.2 (aget x f.acc) (q15Operand x f.rs1) (q15Operand x f.rs2) := by
  simp only [qRegTable, List.forall_mem_cons, List.not_mem_nil, false_imp_iff, implies_true, and_true,
    ← q15_eq, ← sat16_eq, ← roundQ15_eq]
  exact ⟨⟨_, rfl, fun _ => rfl⟩, ⟨_, rfl, fun _ => rfl⟩, ⟨_, rfl, fun _ => rfl⟩, ⟨_, rfl, fun _ => rfl⟩,
    ⟨_, rfl, fun _ => rfl⟩, ⟨_, rfl, fun _ => rfl⟩, ⟨_, rfl, fun _ => rfl⟩⟩

section
variable {s : State} {k c fn : Nat} {f : FmtQ} {val : Ctx → Int × Conds}

theorem qAcc_legal (h : Issues s k c 1) (hw : readWord (isMgmt k) (encQ fn f) = legalIf true 1) :
    qAcc k fn f val s = .next (arithEnd s k c 1 (encQ fn f) (val (contextAt s c)).2
      (aset (contextAt s c) f.acc (val (contextAt s c)).1)) :=
  congrArg _ (runInsn_withConds h (by rw [hw]; rfl) rfl)

theorem qReg_legal (h : Issues s k c 1) (hw : readWord (isMgmt k) (encQ fn f) = legalIf true 1) :
    qReg k fn f val s = .next (arithEnd s k c 1 (encQ fn f) (val (contextAt s c)).2
      (rset (contextAt s c) f.rd (BitVec.ofInt 64 (val (contextAt s c)).1))) :=
  congrArg _ (runInsn_withConds h (by rw [hw]; rfl) rfl)

theorem qAcc_illegal (h : Fetches s k c) (hw : readWord (isMgmt k) (encQ fn f) = legalIf false 1) :
    qAcc k fn f val s = .next (faulted s k c (encQ fn f) .illegal 0) :=
  congrArg _ (runInsn_illegal _ h hw)

theorem qReg_illegal (h : Fetches s k c) (hw : readWord (isMgmt k) (encQ fn f) = legalIf false 1) :
    qReg k fn f val s = .next (faulted s k c (encQ fn f) .illegal 0) :=
  congrArg _ (runInsn_illegal _ h hw)

end

/-- Settles O14: both tables give each operation's word and value; the rest is the same for all of them. -/
theorem fractionOperations : Obligations.FractionOperations := by
  intro s k c f h
  refine ⟨fun r hr hf => ?_, fun r hr hf => ?_, fun r hr hf => ?_, fun r hr hf => ?_⟩
  · obtain ⟨val, hexec, hval⟩ := accTable_runs k f s r hr
    rw [hexec, qAcc_legal h (hf ▸ accTable_word _ f r hr), hval]
    rfl
  · obtain ⟨val, hexec, hval⟩ := qRegTable_runs k f s r hr
    rw [hexec, qReg_legal h (hf ▸ qRegTable_word _ f r hr), hval]
    rfl
  · obtain ⟨val, hexec, _⟩ := accTable_runs k f s r hr
    rw [hexec, qAcc_illegal h.toFetches (hf ▸ accTable_word _ f r hr)]
  · obtain ⟨val, hexec, _⟩ := qRegTable_runs k f s r hr
    rw [hexec, qReg_illegal h.toFetches (hf ▸ qRegTable_word _ f r hr)]

end Sys2Proof.Proofs
end

section
/-! Proofs about instruction words (R65, R66, R86): each instruction's word spells it. -/

namespace Sys2Proof.Proofs
open Sys2Proof Sys2Proof.Machine

/-! ### The instruction that a word of each opcode spells -/

section
variable {k fn : Nat} {f : FmtA}

theorem spelled_opa {c : Nat → FmtA → Instr} (hf : fn < 256) (hc : opaOf fn = some c) :
    spelled k (encA 0x00 fn f) = some (c k f) := by
  obtain ⟨hop, hfn, _, _, _, _, hread⟩ := encA_fields 0x00 fn f (by decide) hf
  simp only [spelled, hop, hfn, hread, hc, Option.map_some]

theorem spelled_atomic {c : Nat → FmtA → Instr} (hf : fn < 256) (hc : atomicOf fn = some c) :
    spelled k (encA 0x0A fn f) = some (c k f) := by
  obtain ⟨hop, hfn, _, _, _, _, hread⟩ := encA_fields 0x0A fn f (by decide) hf
  simp only [spelled, hop, hfn, hread, hc, Option.map_some]

theorem spelled_control {c : Nat → FmtA → Instr} (hf : fn < 256) (hc : controlOf fn = some c) :
    spelled k (encA 0x13 fn f) = some (c k f) := by
  obtain ⟨hop, hfn, _, _, _, _, hread⟩ := encA_fields 0x13 fn f (by decide) hf
  simp only [spelled, hop, hfn, hread, hc, Option.map_some]

theorem spelled_fop {c : Nat → FmtA → Instr} (hf : fn < 256) (hc : fopOf fn = some c) :
    spelled k (encA 0x1C fn f) = some (c k f) := by
  obtain ⟨hop, hfn, _, _, _, _, hread⟩ := encA_fields 0x1C fn f (by decide) hf
  simp only [spelled, hop, hfn, hread, hc, Option.map_some]

theorem spelled_queue {c : Nat → FmtA → Instr} (hf : fn < 256) (hc : queueOf fn = some c) :
    spelled k (encA 0x42 fn f) = some (c k f) := by
  obtain ⟨hop, hfn, _, _, _, _, hread⟩ := encA_fields 0x42 fn f (by decide) hf
  simp only [spelled, hop, hfn, hread, hc, Option.map_some]

theorem spelled_timer {c : Nat → FmtA → Instr} (hf : fn < 256) (hc : timerOf fn = some c) :
    spelled k (encA 0x43 fn f) = some (c k f) := by
  obtain ⟨hop, hfn, _, _, _, _, hread⟩ := encA_fields 0x43 fn f (by decide) hf
  simp only [spelled, hop, hfn, hread, hc, Option.map_some]

theorem spelled_emit : spelled k (encA 0x44 0 f) = some (.emit k f) := by
  obtain ⟨hop, hfn, _, _, _, _, hread⟩ := encA_fields 0x44 0 f (by decide) (by decide)
  simp only [spelled, hop, hfn, hread, if_true]

theorem spelled_hsub : spelled k (encA 0x46 0 f) = some (.hsub k f) := by
  obtain ⟨hop, hfn, _, _, _, _, hread⟩ := encA_fields 0x46 0 f (by decide) (by decide)
  simp only [spelled, hop, hfn, hread, if_true]

theorem wbits_fn (op : Nat) (b : BitVec 8) (ho : op < 128) : wbits 8 (encA op b.toNat f) 0 = b := by
  obtain ⟨_, hfn, _⟩ := encA_fields op b.toNat f ho b.isLt
  rw [wbits, hfn, BitVec.ofNat_toNat, BitVec.setWidth_eq]

theorem spelled_cfg (code : BitVec 8) : spelled k (encA 0x40 code.toNat f) = some (.cfg k code f) := by
  obtain ⟨hop, hfn, _, _, _, _, hread⟩ := encA_fields 0x40 code.toNat f (by decide) code.isLt
  simp only [spelled, hop, hread, wbits_fn 0x40 code (by decide)]

theorem spelled_key (op : BitVec 8) : spelled k (encA 0x45 op.toNat f) = some (.key k op f) := by
  obtain ⟨hop, hfn, _, _, _, _, hread⟩ := encA_fields 0x45 op.toNat f (by decide) op.isLt
  simp only [spelled, hop, hread, wbits_fn 0x45 op (by decide)]

/-- R120: the two halves of the fn of a BRK are its number and its reserved bits. -/
theorem spelled_brk (n lo : BitVec 4) :
    spelled k (encA 0x47 (16 * n.toNat + lo.toNat) f) = some (.brk k n lo f) := by
  have hfn : 16 * n.toNat + lo.toNat < 256 := by omega
  obtain ⟨hop, hw, _, _, _, _, hread⟩ := encA_fields 0x47 _ f (by decide) hfn
  simp only [wfld] at hw
  have hn : wbits 4 (encA 0x47 (16 * n.toNat + lo.toNat) f) 4 = n :=
    BitVec.eq_of_toNat_eq (by simp only [wbits, wfld, BitVec.toNat_ofNat]; omega)
  have hlo : wbits 4 (encA 0x47 (16 * n.toNat + lo.toNat) f) 0 = lo :=
    BitVec.eq_of_toNat_eq (by simp only [wbits, wfld, BitVec.toNat_ofNat]; omega)
  simp only [spelled, hop, hread, hn, hlo]

end

section
variable {k fn : Nat}

theorem spelled_opi {f : FmtI} {c : Nat → FmtI → Instr} (hf : fn < 8) (hc : opiOf fn = some c) :
    spelled k (encI 0x01 fn f) = some (c k f) := by
  obtain ⟨hop, hfn, _, hread⟩ := encI_fields 0x01 fn f (by decide) hf
  simp only [spelled, hop, hfn, hread, hc, Option.map_some]

theorem spelled_point {f : FmtI} {c : Nat → FmtI → Instr} (hf : fn < 8) (hc : pointOf fn = some c) :
    spelled k (encI 0x41 fn f) = some (c k f) := by
  obtain ⟨hop, hfn, _, hread⟩ := encI_fields 0x41 fn f (by decide) hf
  simp only [spelled, hop, hfn, hread, hc, Option.map_some]

theorem spelled_branch {f : FmtB} {c : Nat → FmtB → Instr} (hf : fn < 8) (hc : branchOf fn = some c) :
    spelled k (encB fn f) = some (c k f) := by
  obtain ⟨hop, hfn, _, hread⟩ := encB_fields fn f hf
  simp only [spelled, hop, hfn, hread, hc, Option.map_some]

theorem spelled_special {f : FmtS} {c : Nat → FmtS → Instr} (hf : fn < 256) (hc : specialOf fn = some c) :
    spelled k (encS fn f) = some (c k f) := by
  obtain ⟨hop, hfn, _, hread⟩ := encS_fields fn f hf
  simp only [spelled, hop, hfn, hread, hc, Option.map_some]

theorem spelled_qop {f : FmtQ} {c : Nat → FmtQ → Instr} (hf : fn < 256) (hc : qopOf fn = some c) :
    spelled k (encQ fn f) = some (c k f) := by
  obtain ⟨hop, hfn, _, _, _, _, hread⟩ := encQ_fields fn f hf
  simp only [spelled, hop, hfn, hread, hc, Option.map_some]

theorem spelled_upper (f : FmtU) : spelled k (encU 0x02 f) = some (.lui k f) ∧ spelled k (encU 0x03 f) = some (.luh k f) ∧
    spelled k (encU 0x04 f) = some (.adpc k f) := by
  obtain ⟨hlui, hread2⟩ := encU_fields 0x02 f (by decide)
  obtain ⟨hluh, hread3⟩ := encU_fields 0x03 f (by decide)
  obtain ⟨hadpc, hread4⟩ := encU_fields 0x04 f (by decide)
  simp only [spelled, hlui, hluh, hadpc, hread2, hread3, hread4, and_self]

theorem spelled_memory (f : FmtM) : spelled k (encM 0x08 f) = some (.ld k f) ∧ spelled k (encM 0x09 f) = some (.st k f) := by
  obtain ⟨hld, _, hread8⟩ := encM_fields 0x08 f (by decide)
  obtain ⟨hst, _, hread9⟩ := encM_fields 0x09 f (by decide)
  simp only [spelled, hld, hst, hread8, hread9, and_self]

theorem spelled_jump (f : FmtJ) : spelled k (encJ 0x11 f) = some (.jmp k f) ∧ spelled k (encJ 0x12 f) = some (.call k f) := by
  obtain ⟨hjmp, _, hread11⟩ := encJ_fields 0x11 f (by decide)
  obtain ⟨hcall, _, hread12⟩ := encJ_fields 0x12 f (by decide)
  simp only [spelled, hjmp, hcall, hread11, hread12, and_self]

theorem spelled_table (f : FmtT) : spelled k (encT f) = some (.jt k f) := by
  obtain ⟨hop, _, _, hread⟩ := encT_fields f
  simp only [spelled, hop, hread]

theorem spelled_loop (f : FmtL) : spelled k (encL f) = some (.loopN k f) := by
  obtain ⟨hop, _, _, hread⟩ := encL_fields f
  simp only [spelled, hop, hread]

end

/-- The word of an instruction spells it, with every operand, legal or not. -/
theorem spelled_insnWord (i : Instr) (k : Nat) (w : BitVec 32) (hk : insnCore i = some k) (hw : insnWord i = some w) :
    spelled k w = some i := by
  cases i with
  | addR _ f | subR _ f | andR _ f | orR _ f | xorR _ f | andn _ f | shl _ f | shr _ f | sar _ f | ror _ f | slt _ f | sltu _ f
  | minR _ f | maxR _ f | minu _ f | maxu _ f | adds _ f | subs _ f | clz _ f | popc _ f | mul _ f | mulh _ f | mulhu _ f
  | divR _ f | divu _ f | rem _ f | remu _ f | selR _ f => cases hk; cases hw; exact spelled_opa (by decide) rfl
  | addk _ f | addkw _ f | andk _ f | ork _ f | xork _ f | cmpk _ f | shk _ f | bitk _ f =>
    cases hk; cases hw; exact spelled_opi (by decide) rfl
  | lui _ f => cases hk; cases hw; exact (spelled_upper f).1
  | luh _ f => cases hk; cases hw; exact (spelled_upper f).2.1
  | adpc _ f => cases hk; cases hw; exact (spelled_upper f).2.2
  | ld _ f => cases hk; cases hw; exact (spelled_memory f).1
  | st _ f => cases hk; cases hw; exact (spelled_memory f).2
  | swap _ f | aadd _ f | aand _ f | aor _ f | amax _ f | amin _ f => cases hk; cases hw; exact spelled_atomic (by decide) rfl
  | beq _ f | bne _ f | blt _ f | bge _ f | bltu _ f | bgeu _ f => cases hk; cases hw; exact spelled_branch (by decide) rfl
  | jmp _ f => cases hk; cases hw; exact (spelled_jump f).1
  | call _ f => cases hk; cases hw; exact (spelled_jump f).2
  | nop _ f | ret _ f | fence _ f | endCycle _ f => cases hk; cases hw; exact spelled_control (by decide) rfl
  | jt _ f => cases hk; cases hw; exact spelled_table f
  | loopN _ f => cases hk; cases hw; exact spelled_loop f
  | srr _ f | srw _ f => cases hk; cases hw; exact spelled_special (by decide) rfl
  | qmul _ f | mac _ f | msu _ f | aclr _ f | ald _ f | amov _ f | arnd _ f | ash _ f | qadd _ f | qsub _ f | qmulr _ f
  | qneg _ f | qabs _ f => cases hk; cases hw; exact spelled_qop (by decide) rfl
  | fadd _ f | fsub _ f | fmul _ f | fdiv _ f | fsqrt _ f | fma _ f | fmin _ f | fmax _ f | fneg _ f | fabs _ f | fcmp _ f
  | fcmps _ f | fkind _ f | fminn _ f | fmaxn _ f | fcvtf _ f | fcvti _ f | fcvtp _ f | ftoq _ f | qtof _ f =>
    cases hk; cases hw; exact spelled_fop (by decide) rfl
  | prd _ f | prdh _ f | pwr _ f | pwrh _ f => cases hk; cases hw; exact spelled_point (by decide) rfl
  | qopen _ f | qpw _ f | qpb _ f | qmark _ f | qrwnd _ f | qrel _ f | qdrop _ f | qtake _ f | qrd _ f | qack _ f =>
    cases hk; cases hw; exact spelled_queue (by decide) rfl
  | tdif _ f | tadd _ f | tset _ f | ttst _ f | tclr _ f => cases hk; cases hw; exact spelled_timer (by decide) rfl
  | cfg _ code f => cases hk; cases hw; exact spelled_cfg code
  | key _ op f => cases hk; cases hw; exact spelled_key op
  | emit _ f => cases hk; cases hw; exact spelled_emit
  | hsub _ f => cases hk; cases hw; exact spelled_hsub
  | brk _ n lo f => cases hk; cases hw; exact spelled_brk n lo
  | _ => cases hw

/-- Settles O4: a legal word decodes to what it spells, and the word of an instruction spells that instruction. -/
theorem instructionWordsDecodeBack : Obligations.InstructionWordsDecodeBack := by
  intro i k w hk hw hlegal
  rw [decodeInsn, if_pos hlegal]
  exact spelled_insnWord i k w hk hw

/-! ### Every instruction runs its word -/

/-- Each of the 120 instructions runs its own word: what differs is what it does once it issues. -/
theorem exec_runsInsn (i : Instr) (k : Nat) (w : BitVec 32) (hk : insnCore i = some k) (hw : insnWord i = some w) :
    ∃ act, ∀ s, exec i s = .next (runInsn k w act s) := by
  cases i <;> cases hk <;> cases hw <;> exact ⟨_, fun _ => rfl⟩

/-- Settles O5: whatever the instruction would do, an illegal word stops it. -/
theorem illegalWordRaisesIllegal : Obligations.IllegalWordRaisesIllegal := by
  intro i s k c w hk hw hfetch hillegal
  obtain ⟨act, hexec⟩ := exec_runsInsn i k w hk hw
  rw [hexec, runInsn_illegal act hfetch hillegal]

/-! ### The block's step -/

/-- Settles O1. -/
theorem stepRunsFrontCommand : Obligations.StepRunsFrontCommand := fun _ _ _ => rfl

/-- Settles O3: every arm of `exec` answers a next state. -/
theorem noCommandStops : Obligations.NoCommandStops := by
  intro i s
  cases i <;> exact ⟨_, rfl⟩

end Sys2Proof.Proofs
end

section
/-! The invariant of the data SRAM's canonical form: every arm of the dispatch, and the tick, keeps it. -/

namespace Sys2Proof.Proofs
open Sys2Proof Sys2Proof.Machine

/-- A command answers a next state whose data SRAM is in its canonical form. -/
def NextCanonical (o : Host.Outcome State Fault Refusal) : Prop := ∃ t, o = .next t ∧ t.sram.wf = true

theorem nextCanonical {t : State} (h : t.sram.wf = true) : NextCanonical (.next t) := ⟨t, rfl, h⟩

/-- A command that leaves the data SRAM as it is. -/
theorem nextCanonical_of_same {s t : State} (h : s.sram.wf = true) (e : t.sram = s.sram) : NextCanonical (.next t) :=
  nextCanonical (wf_of_same_sram e h)

/-! ### Nalpex instructions -/

section
variable {s : State} {k : Nat} {w : BitVec 32} {act : Env → State → Ctx → Did} (h : s.sram.wf = true)
include h

/-- An instruction that writes no byte of the window: what it gives is the state it was given, or a fault. -/
theorem runInsn_nextCanonical (ha : ∀ e s x b, s.sram.wf = true → b.sram.wf = true → ((act e s x).after b).sram.wf = true) :
    NextCanonical (.next (runInsn k w act s)) :=
  nextCanonical (runInsn_wf (fun e s x hs b hb => ha e s x b hs hb) h)

theorem opa_canonical (fn : Nat) (f : FmtA) (val : Ctx → BitVec 64) : NextCanonical (opa k fn f val s) :=
  runInsn_nextCanonical h (fun _ s _ b hs hb => writes_wf _ _ _ s _ b hb hs)

theorem opaC_canonical (fn : Nat) (f : FmtA) (val : Ctx → Int × Conds) : NextCanonical (opaC k fn f val s) :=
  runInsn_nextCanonical h (fun _ s _ b hs hb => withConds_wf _ s _ _ b hb hs)

theorem qAcc_canonical (fn : Nat) (f : FmtQ) (val : Ctx → Int × Conds) : NextCanonical (qAcc k fn f val s) :=
  runInsn_nextCanonical h (fun _ s _ b hs hb => withConds_wf _ s _ _ b hb hs)

theorem qReg_canonical (fn : Nat) (f : FmtQ) (val : Ctx → Int × Conds) : NextCanonical (qReg k fn f val s) :=
  runInsn_nextCanonical h (fun _ s _ b hs hb => withConds_wf _ s _ _ b hb hs)

theorem fop_canonical (fn : Nat) (f : FmtA) (val : Ctx → BitVec 64 × Conds) : NextCanonical (fop k fn f val s) :=
  runInsn_nextCanonical h (fun _ s _ b hs hb => withConds_wf _ s _ _ b hb hs)

theorem branch_canonical (cond : Nat) (f : FmtB) (test : BitVec 64 → BitVec 64 → Bool) : NextCanonical (branch k cond f test s) :=
  runInsn_nextCanonical h (fun e s x b hs hb => by
    split
    · exact transfer_wf _ s _ _ b hb hs
    · exact hs)

theorem atomic_canonical (fn : Nat) (f : FmtA) (op : BitVec 64 → BitVec 64 → BitVec 64) (opW : BitVec 32 → BitVec 32 → BitVec 32) :
    NextCanonical (.next (runInsn k (encA 0x0A fn f) (doAtomic f op opW) s)) :=
  runInsn_nextCanonical h (fun _ s _ b hs hb => doAtomic_wf _ _ _ _ s _ b hb hs)

theorem onPacket_canonical (w : BitVec 32) (f : FmtA) (g : OpenPacket → OpenPacket) :
    NextCanonical (.next (runInsn k w (fun _ s x => onPacket f.rd g s x) s)) :=
  runInsn_nextCanonical h (fun _ s _ b hs hb => onPacket_wf _ _ s _ b hb hs)

/-- Each of the 120 instructions keeps the canonical form. -/
theorem insn_nextCanonical (i : Instr) (hi : (insnWord i).isSome) : NextCanonical (exec i s) := by
  cases i with
  | addR _ f | subR _ f | andR _ f | orR _ f | xorR _ f | andn _ f | shl _ f | shr _ f | sar _ f | ror _ f | slt _ f | sltu _ f
  | minR _ f | maxR _ f | minu _ f | maxu _ f | clz _ f | popc _ f | mul _ f | mulh _ f | mulhu _ f | selR _ f =>
    exact opa_canonical h _ f _
  | adds _ f | subs _ f | divR _ f | divu _ f | rem _ f | remu _ f => exact opaC_canonical h _ f _
  | addk _ f | addkw _ f | andk _ f | ork _ f | xork _ f | cmpk _ f | shk _ f | bitk _ f => exact runInsn_nextCanonical h (fun _ s _ b hs hb => writes_wf _ _ _ s _ b hb hs)
  | lui _ f | luh _ f | adpc _ f => exact runInsn_nextCanonical h (fun _ s _ b hs hb => writes_wf _ _ _ s _ b hb hs)
  | ld _ f => exact runInsn_nextCanonical h (fun _ s _ b hs hb => doLoad_wf _ _ s _ b hb hs)
  | st _ f => exact runInsn_nextCanonical h (fun _ s _ b hs hb => doStore_wf _ _ s _ b hb hs)
  | swap _ f | aadd _ f | aand _ f | aor _ f | amax _ f | amin _ f => exact atomic_canonical h _ f _ _
  | beq _ f | bne _ f | blt _ f | bltu _ f => exact branch_canonical h _ f _
  | bge _ f => exact branch_canonical h 3 f (fun a b => !BitVec.slt a b)
  | bgeu _ f => exact branch_canonical h 5 f (fun a b => !BitVec.ult a b)
  | jmp _ f => exact runInsn_nextCanonical h (fun _ s _ b hs hb => transfer_wf _ s _ _ b hb hs)
  | call _ f =>
    refine runInsn_nextCanonical h (fun _ s x b hs hb => ?_)
    split
    · exact hb
    · exact hs
  | nop _ f | fence _ f | endCycle _ f | srr _ f => exact runInsn_nextCanonical h (fun _ _ _ _ hs _ => hs)
  | ret _ f =>
    refine runInsn_nextCanonical h (fun _ s x b hs hb => ?_)
    split
    · exact hb
    · split
      · exact hb
      · exact hs
  | jt _ f => exact runInsn_nextCanonical h (fun _ s _ b hs hb => tableJump_wf _ _ s _ b hb hs)
  | loopN _ f => exact runInsn_nextCanonical h (fun _ s _ b hs hb => openLoop_wf _ s _ b hb hs)
  | srw _ f => exact runInsn_nextCanonical h (fun _ s _ b hs hb => writeSr_wf _ s _ b hb hs)
  | qmul _ f | mac _ f | msu _ f | aclr _ f | ald _ f | ash _ f => exact qAcc_canonical h _ f _
  | amov _ f | arnd _ f | qadd _ f | qsub _ f | qmulr _ f | qneg _ f | qabs _ f => exact qReg_canonical h _ f _
  | fadd _ f | fsub _ f | fmul _ f | fdiv _ f | fsqrt _ f | fma _ f | fmin _ f | fmax _ f | fneg _ f | fabs _ f | fcmp _ f
  | fcmps _ f | fkind _ f | fminn _ f | fmaxn _ f | fcvtf _ f | fcvti _ f | fcvtp _ f | ftoq _ f | qtof _ f =>
    exact fop_canonical h _ f _
  | cfg _ code f => exact runInsn_nextCanonical h (fun _ s _ b hs hb => configure_wf _ _ _ s _ b hb hs)
  | key _ op f => exact runInsn_nextCanonical h (fun _ s _ b hs hb => postKey_wf _ _ _ s _ b hb hs)
  | prd _ f | prdh _ f => exact runInsn_nextCanonical h (fun _ s _ b hs hb => readPoint_wf _ _ _ s _ b hb hs)
  | pwr _ f | pwrh _ f => exact runInsn_nextCanonical h (fun _ s _ b hs hb => writePoint_wf _ _ _ s _ b hb hs)
  | qopen _ f => exact runInsn_nextCanonical h (fun _ s _ b hs hb => openPacket_wf _ _ s _ b hb hs)
  | qpw _ f => exact runInsn_nextCanonical h (fun _ s _ b hs hb => appendBytes_wf _ _ s _ b hb hs)
  | qpb _ f => exact runInsn_nextCanonical h (fun _ s _ b hs hb => appendBlock_wf _ _ s _ b hb hs)
  | qmark _ f | qrwnd _ f => exact onPacket_canonical h _ f _
  | qrel _ f => exact runInsn_nextCanonical h (fun _ s _ b hs hb => releasePacket_wf _ _ s _ b hb hs)
  | qdrop _ f => exact runInsn_nextCanonical h (fun _ s _ b hs hb => discardPacket_wf _ _ s _ b hb hs)
  | qtake _ f => exact runInsn_nextCanonical h (fun _ s _ b hs hb => takeItem_wf _ _ s _ b hb hs)
  | qrd _ f => exact runInsn_nextCanonical h (fun _ s _ b hs hb => readItem_wf _ _ s _ b hb hs)
  | qack _ f => exact runInsn_nextCanonical h (fun _ s _ b hs hb => ackCurrent_wf _ _ s _ b hb hs)
  | tdif _ f | tadd _ f =>
    refine runInsn_nextCanonical h (fun _ s _ b hs hb => ?_)
    split
    · exact hb
    · exact hs
  | tset _ f =>
    refine runInsn_nextCanonical h (fun _ s _ b hs hb => ?_)
    dsimp only
    split
    · exact hb
    · exact answer_wf _ _ _ _ s _ b hb hs
  | tclr _ f =>
    refine runInsn_nextCanonical h (fun _ s _ b hs hb => ?_)
    dsimp only
    split
    · exact hb
    · exact hs
  | ttst _ f => exact runInsn_nextCanonical h (fun _ s _ b hs hb => testTimer_wf _ s _ b hb hs)
  | emit _ f => exact runInsn_nextCanonical h (fun _ s _ b hs hb => emitEvent_wf _ _ s _ b hb hs)
  | hsub _ f => exact runInsn_nextCanonical h (fun _ s _ b hs hb => submitSample_wf _ _ s _ b hb hs)
  | brk _ n lo f => exact runInsn_nextCanonical h (fun _ s _ b hs hb => breakpoint_wf _ _ s _ b hb hs)
  | _ => cases hi

end

/-! ### Rows that leave the data SRAM -/

/-- The rows that leave the data SRAM as it is, whatever the state. -/
def leavesSram : Instr → Bool
  | .kgen _ | .kdestroy _ | .hearthTimerTrigger _ | .describe _ | .status _ | .members _ | .unitReset _ | .clrWorst _
  | .pointRead _ _ _ _ _ | .groupMemberReply _ _ _ | .taskModeRun _ | .taskModeHold _ | .taskModeStep _ | .modeTransition _
  | .brkArm _ | .taskStatus _ | .ownerClaim _ | .ownerClaimForce _ | .electionClose _ | .ownerRenew _ | .leaseExpiry _
  | .ownerRelease _ | .ownerHandover _ | .ownerAccept _ | .handoverLapse _ | .suiteStatus _ | .ownerUnlock _
  | .queueStatus _ | .queueClear _ | .pairSwitch _ | .pairResync _ | .floorQuiet _ | .quietAnswer _ _ _ | .quietEntry
  | .floorWake _ | .clockTrimIncrement _ | .clockTrimSlew _ | .clockTrimStep _ | .clockChangeTick | .slewEnd | .diCounts _
  | .meterRead _ | .identity _ | .lifecycleAdvance _ _ | .tamperClear _ | .atticRead _ | .updateBegin _ | .updateStage _
  | .updateCheck _ | .updateActivate _ | .updateConfirm _ _ | .loopTest _ | .loopTestEnd _ _ | .registerWrite _ _
  | .withdrawFrameSent _ | .holdRerelease _ | .stopSafeState _ | .foundationTimeout | .journalWrite
  | .creditReservationExpiry _ | .itemEnter _ _ _ | .queueControlError _ | .paceWindow _ _ _ | .linkTokenError _
  | .houseTimeAlignment _ | .alignmentTimeout _ | .refclkFailure | .macReceive _ _ | .portSwitchIngress | .egressFrameSent _
  | .pauseRepeat _ | .portLinkChange _ _ | .halfRangeItem _ | .epochInstall | .epochDrained | .transmitItem _
  | .pseDetection _ _ | .pseDetectionRetry _ | .pseClassification _ _ | .psePowered _ | .psePdLost _ | .pseOverload _
  | .pseBackoffExpiry _ | .uplinkEgress _ | .governorWindow _ _ | .rateStepDone _ | .rateStepAbandon _ | .governorResume _
  | .launchItem _ | .launchSend _ _ | .hallwayFrameReceived _ _ | .hallwayTakeItem _ _ | .hallwayAttemptStart _ _
  | .hallwayAttemptEnd _ _ | .hallwayLifetimeExpiry _ _ | .busOffRecovery _ | .hallwayTimePair _ _ | .diChange _ _
  | .diSelfTest _ _ | .serialiseTurnOn _ | .bankTrip _ | .bankRetry _ | .bankRetryCountClear _ | .outputShutdown _
  | .shutterTimeout _ | .outputSenseFlag _ _ _ | .meterWindowEnd _ | .meterQuantitiesArrive _ _ | .meterFlashWrite
  | .pulseStart _ | .pulseEnd _ | .heartbeatSend | .heartbeatReceived _ | .partnerMet _ | .seekingTimeout | .deltaShip
  | .deltaConfirmation _ | .confirmationTimeout _ | .twinClockExchange _ | .landingFrameError _ | .reclaim | .switchInstant
  | .switchHandover | .tamper | .atticRecordWrite | .atticFlush _ | .backupSwitch _ | .vbakMeasure _ | .oscStop
  | .setRunRelease | .trimWindowEnd _ | .mantelWake | .pfail | .pfailNRise | .vfieldLoss | .vfieldReturn
  | .linkPartnerLeavingLpi _ | .eeeLpiEntry _ | .hallwayBusIntegration _ | .hallwayReceiveError _ _
  | .protocolExceptionEvent _ | .hostSessionClose _ _ | .hostAcknowledgement _ _ _ _ | .pairUpdateSwitchover
  | .mwakeNRelease => true
  | _ => false

theorem exec_of_leavesSram (i : Instr) (s : State) (hi : leavesSram i = true) : ∃ t, exec i s = .next t ∧ t.sram = s.sram := by
  cases i <;> cases hi <;> exact ⟨_, rfl, by simp⟩

theorem nextCanonical_of_leavesSram {i : Instr} {s : State} (h : s.sram.wf = true) (hi : leavesSram i = true) :
    NextCanonical (exec i s) := by
  obtain ⟨t, ht, hs⟩ := exec_of_leavesSram i s hi
  rw [ht]
  exact nextCanonical_of_same h hs

/-! ### Configuration rows, key rows and unit commands -/

section
variable {s : State} (h : s.sram.wf = true)
include h

/-- R98: a configuration row keeps the canonical form where what it applies does. -/
theorem serveCfg_canonical {c : Nat} {pick : CfgReq → Bool} {apply : CfgReq → State → CfgOut}
    (ha : ∀ r t, t.sram.wf = true → (apply r t).state.sram.wf = true) : NextCanonical (.next (serveCfg c pick apply s)) :=
  nextCanonical (serveCfg_wf _ _ _ s ha h)

/-- R98: a configuration row that leaves the data SRAM as it is. -/
theorem serveCfg_canonical_of_same {c : Nat} {pick : CfgReq → Bool} {apply : CfgReq → State → CfgOut}
    (ha : ∀ r t, (apply r t).state.sram = t.sram) : NextCanonical (.next (serveCfg c pick apply s)) :=
  serveCfg_canonical h (fun r t ht => wf_of_same_sram (ha r t) ht)

theorem serveKey_canonical {n op : Nat} {serve : KeyReq → State → KeyEnd}
    (ha : ∀ r t, t.sram.wf = true → (serve r t).s.sram.wf = true) : NextCanonical (.next (serveKey n op serve s)) :=
  nextCanonical (serveKey_wf _ _ _ s ha h)

theorem unitCommand_canonical {q : CmdQueue} {pick : Cmd → Bool} {inRecovery : Bool} {run : Cmd → Target → State → CmdResult}
    (ha : ∀ c t u, u.sram.wf = true → (run c t u).s.sram.wf = true) : NextCanonical (.next (unitCommand q pick inRecovery run s)) :=
  nextCanonical (unitCommand_wf _ _ _ _ s ha h)

/-- Each of the other rows keeps the canonical form. -/
theorem row_nextCanonical (i : Instr) (hi : ((insnWord i).isNone && !leavesSram i) = true) : NextCanonical (exec i s) := by
  cases i with
  | cfgSuite c => exact serveCfg_canonical h configureSuite_wf
  | cfgTask c => exact serveCfg_canonical h (fun r t ht => onTask_wf r t _ (fun room _ => loadTask_wf r t room ht) ht)
  | cfgUnit c | cfgGroup c | cfgQueueSet c | cfgQueueLimit c | cfgPoint c | cfgPort c | cfgFwdWrite c | cfgFwdInvalidate c
  | cfgUplink c | cfgClockSet c | cfgClockStep c | cfgClockThreshold c | cfgClockIncrement c | cfgHallwayPort c
  | cfgHallwayFilter c | cfgHallwaySlot c | cfgInput c | cfgBank c | cfgMeterCircuit c | cfgMeterPulseOut c | cfgMeterRegister c
  | cfgHearthSet c | cfgHearthCoef c | cfgHearthRemove c | cfgHearthClear c | cfgCellar c | cfgAttic c | cfgScrub c
  | cfgMantelSetup c | cfgMantelHalt c | cfgMantelSetRun c | cfgTwin c | cfgPace c | cfgLock c | cfgEnd c =>
    exact serveCfg_canonical_of_same h (fun r t => by simp)
  | cfgTaskRemove c => exact serveCfg_canonical_of_same h (fun r t => onTask_sram _ _ _ (fun room => by
      split
      · rfl
      · simp))
  | kderive n => exact serveKey_canonical h keyDerive_wf
  | kseal n => exact serveKey_canonical h keySeal_wf
  | kopen n => exact serveKey_canonical h keyOpen_wf
  | ksign n => exact serveKey_canonical h keySign_wf
  | kverify n => exact serveKey_canonical h keyVerify_wf
  | kagree n => exact serveKey_canonical h keyAgree_wf
  | kexport n => exact serveKey_canonical h keyExport_wf
  | kimport n => exact serveKey_canonical h keyImport_wf
  | kinfo n => exact serveKey_canonical h keyInfo_wf
  | taskModeStop q => exact unitCommand_canonical h (fun c t u hu => taskMode_wf _ _ c t u (fun _ v n hv => orderStop_wf v n hv) hu)
  | setValue q => exact unitCommand_canonical h setValue_wf
  | setConst q => exact unitCommand_canonical h setConst_wf
  | suiteReset q => exact unitCommand_canonical h resetCommand_wf
  | clearWorst q => exact unitCommand_canonical h (fun c t u hu => onAnyUnit_wf t u _ (fun v hv => ownerOnly_wf u _ c _ (by simpa using hu) hu) hu)
  | slotStatus q => exact unitCommand_canonical h (fun c t u hu => onUnit_wf t _ u _ (ownerOnly_wf u _ c _ hu hu) hu)
  | updateStatus q => 
    refine unitCommand_canonical h (fun c t u hu => onUnit_wf t _ u _ ?_ hu)
    split
    · simpa using hu
    · split
      · simpa using hu
      · exact hu
  | portCounters q =>
    refine unitCommand_canonical h (fun c t u hu => ?_)
    split
    · split
      · split
        · simpa using hu
        · exact hu
      · simpa using hu
    · simpa using hu
  | hbCancel q =>
    refine unitCommand_canonical h (fun c t u hu => ?_)
    split
    · split <;> simpa using hu
    · simpa using hu
  | atticClear q =>
    refine unitCommand_canonical h (fun c t u hu => onUnit_wf t _ u _ (ownerOnly_wf u _ c _ ?_ hu) hu)
    split <;> simpa using hu
  | updateAbort q => exact nextCanonical (stagingCommand_wf _ _ _ s (fun _ _ t _ _ ht => abortUpdate_wf t _ _ ht) h)
  | hearthEvaluation =>
    refine nextCanonical ?_
    split
    · simpa using h
    · exact h
  | groupMemberTimeout g =>
    refine nextCanonical ?_
    split
    · simpa using h
    · exact h
  | pauseEnd p =>
    refine nextCanonical (clocked_wf _ _ h ?_)
    split
    · split
      · simpa using h
      · exact h
    · exact h
  | pairUpdateTimeout =>
    refine nextCanonical ?_
    split
    · exact h
    · split
      · simpa using h
      · exact h
  | onlineChangeApply c => exact nextCanonical (ite_keeps (P := fun t => t.sram.wf = true) _ (applyAllOnline_wf s c h) h)
  | suiteFenceLift n => exact nextCanonical (liftFence_wf n s h)
  | updateActivation kind n => exact nextCanonical (activation_wf kind n s h)
  | updateRecheck kind n => exact nextCanonical (ite_keeps (P := fun t => t.sram.wf = true) _ (judgeActivation_wf s kind n h) h)
  | trialExpiry kind n => exact nextCanonical (ite_keeps (P := fun t => t.sram.wf = true) _ (revert_wf s kind n h) h)
  | cycleStart c => exact nextCanonical (cycleStart_wf s c h)
  | cycleAccept => exact nextCanonical (collect_wf s h)
  | commit c => exact nextCanonical (commitDue_wf s c h)
  | holdMaxTimeout c => exact nextCanonical (holdMaxTimeout_wf s c h)
  | stallTimeout st l who => exact nextCanonical (clocked_wf _ _ h (stallTimeout_wf st l who s h))
  | pathDead b => exact nextCanonical (killPath_wf b s h)
  | deltaApply d => exact nextCanonical (deltaArrives_wf d s h)
  | preparedCycleCommit n t => exact nextCanonical (preparedDue_wf n t s h)
  | scrubLine found => exact nextCanonical (scrub_wf s found h)
  | powerOnReset => exact nextCanonical (requestReset_wf s _ _ h)
  | resetNLow ns => exact nextCanonical (ite_keeps (P := fun t => t.sram.wf = true) _ h (requestReset_wf s _ _ h))
  | managementWatchdog => exact nextCanonical (ite_keeps (P := fun t => t.sram.wf = true) _ (requestReset_wf s _ _ h) h)
  | startSequence b => exact nextCanonical (startSequence_wf b s h)
  | tapReset | extest | idcode | clamp | highz | extestPulse | extestTrain | ident | bypass => exact nextCanonical (loadTap_wf s _ h)
  | samplePreload a b => exact nextCanonical (loadTap_wf { s with tap := _ } _ h)
  | holdingExit => exact nextCanonical (ite_keeps (P := fun t => t.sram.wf = true) _ (loadTap_wf s _ h) h)
  | hostSessionOpen x => exact nextCanonical_of_same h (openSession_sram x s)
  | _ => cases hi

end

/-- Settles O58: an instruction, a row, or the tick of an empty queue. -/
theorem sramStaysCanonical : Obligations.SramStaysCanonical := by
  intro s t h hs
  have hnext : NextCanonical (step s) := by
    unfold step
    split
    · exact nextCanonical (refclkTick_wf s h)
    next i rest _ =>
      cases hi : insnWord i with
      | some w => exact insn_nextCanonical (s := { s with pending := rest }) h i (by rw [hi]; rfl)
      | none =>
        cases hl : leavesSram i with
        | true => exact nextCanonical_of_leavesSram (s := { s with pending := rest }) h hl
        | false => exact row_nextCanonical (s := { s with pending := rest }) h i (by rw [hi, hl]; rfl)
  obtain ⟨u, hu, hwf⟩ := hnext
  rw [hs] at hu
  cases hu
  exact hwf

end Sys2Proof.Proofs
end

section
/-! Proofs of the statements of spec/03 on integer instructions (R67 to R70). -/

namespace Sys2Proof.Proofs
open Sys2Proof Sys2Proof.Machine

/-! ### Operations that raise nothing (R67) -/

section
variable {f : FmtA}

theorem intResult_wide (op : IntOp) (x : Ctx) (hw : isW f = true) : intResult op f x =
    (op 32 ((rget x f.rd).setWidth 32) ((rget x f.rs1).setWidth 32) ((rget x f.rs2).setWidth 32)).signExtend 64 := if_pos hw

theorem intResult_double (op : IntOp) (x : Ctx) (hw : ¬ isW f = true) :
    intResult op f x = op 64 (rget x f.rd) (rget x f.rs1) (rget x f.rs2) := if_neg hw

end

theorem intForm_eq (op : IntOp) (f : FmtA) (x : Ctx) (o64 : BitVec 64 → BitVec 64 → BitVec 64) (o32 : BitVec 32 → BitVec 32 → BitVec 32)
    (h64 : ∀ d a b, o64 a b = op 64 d a b) (h32 : ∀ d a b, o32 a b = op 32 d a b) :
    intForm f o64 o32 x = intResult op f x := by
  simp only [intForm, intResult, ← h64, ← h32]; rfl

/-- R67: the amount of a shift, below the width, is in the low bits of rs2. -/
theorem shiftForm_eq (f : FmtA) (x : Ctx) (o : (n : Nat) → BitVec n → Nat → BitVec n) :
    shiftForm f (o 64) (o 32) x = intResult (fun n _ a b => o n a (b.toNat % n)) f x := by
  have hlow : ∀ v : BitVec 64, (v.setWidth 32).toNat % 32 = v.toNat % 32 := fun v => by
    rw [BitVec.toNat_setWidth]; omega
  simp only [shiftForm, intResult, hlow]; rfl

theorem compareForm_eq (f : FmtA) (x : Ctx) (o : (n : Nat) → BitVec n → BitVec n → Bool) :
    compareForm f (o 64) (o 32) x = intResult (fun n _ a b => if o n a b then 1#n else 0#n) f x := by
  by_cases hw : isW f = true
  · simp only [compareForm, intResult_wide _ x hw, if_pos hw, boolWord, lo32]
    cases o 32 _ _ <;> rfl
  · simp only [compareForm, intResult_double _ x hw, if_neg hw, boolWord]; rfl

section
variable {n : Nat} {α : Type}

/-- A choice by the signed order, turned round. -/
theorem ite_slt {a b : BitVec n} (p q : α) : (if BitVec.slt b a then p else q) = if a.toInt ≤ b.toInt then q else p := by
  simp only [BitVec.slt, decide_eq_true_eq, ← not_le, ite_not]

/-- A choice by the unsigned order, turned round. -/
theorem ite_ult {a b : BitVec n} (p q : α) : (if BitVec.ult b a then p else q) = if a.toNat ≤ b.toNat then q else p := by
  simp only [BitVec.ult, decide_eq_true_eq, ← not_le, ite_not]

end

/-- A count of at most 32, sign-extended from 32 bits, is itself. -/
theorem ofNat_signExtend_of_le {n : Nat} (hn : n ≤ 32) : (BitVec.ofNat 32 n).signExtend 64 = BitVec.ofNat 64 n := by
  interval_cases n <;> rfl

theorem leadingZeros_le (n v : Nat) : leadingZeros n v ≤ n := by
  unfold leadingZeros; split <;> omega

theorem onesIn_le (n v : Nat) : onesIn n v ≤ n := by
  induction n generalizing v with
  | zero => exact le_rfl
  | succ n ih => have := ih (v / 2); simp only [onesIn]; omega

theorem onesIn_mod (n v : Nat) : onesIn n (v % 2 ^ n) = onesIn n v := by
  induction n generalizing v with
  | zero => rfl
  | succ n ih =>
    have hhalf : v % 2 ^ (n + 1) / 2 = v / 2 % 2 ^ n := by
      rw [Nat.pow_succ, mul_comm, Nat.mod_mul_right_div_self]
    have hbit : v % 2 ^ (n + 1) % 2 = v % 2 := by
      rw [Nat.pow_succ, mul_comm, Nat.mod_mul_right_mod]
    simp only [onesIn, hhalf, hbit, ih]

theorem clz_eq (f : FmtA) (x : Ctx) : BitVec.ofNat 64 (leadingZeros (intWidth f) (rget x f.rs1).toNat) =
    intResult (fun n _ a _ => BitVec.ofNat n (leadingZeros n a.toNat)) f x := by
  have hlow : ∀ v : BitVec 64, leadingZeros 32 (v.setWidth 32).toNat = leadingZeros 32 v.toNat := fun v => by
    simp only [leadingZeros, BitVec.toNat_setWidth, Nat.mod_mod]
  by_cases hw : isW f = true
  · simp only [intResult_wide _ x hw, intWidth, if_pos hw, hlow, ofNat_signExtend_of_le (leadingZeros_le _ _)]
  · simp only [intResult_double _ x hw, intWidth, if_neg hw]

theorem popc_eq (f : FmtA) (x : Ctx) : BitVec.ofNat 64 (onesIn (intWidth f) (rget x f.rs1).toNat) =
    intResult (fun n _ a _ => BitVec.ofNat n (onesIn n a.toNat)) f x := by
  by_cases hw : isW f = true
  · simp only [intResult_wide _ x hw, intWidth, if_pos hw, BitVec.toNat_setWidth, onesIn_mod, ofNat_signExtend_of_le (onesIn_le _ _)]
  · simp only [intResult_double _ x hw, intWidth, if_neg hw]

theorem mulh_eq (f : FmtA) (x : Ctx) :
    signedResult f ((signedArgs f x).1 * (signedArgs f x).2 / (2 ^ intWidth f : Nat)) =
      intResult (fun n _ a b => BitVec.ofInt n (a.toInt * b.toInt / (2 ^ n : Nat))) f x := by
  by_cases hw : isW f = true
  · simp only [intResult_wide _ x hw, signedResult_eq, signedArgs_eq, intWidth, if_pos hw, if_pos (show f.hi.getLsbD 1 = true from hw)]
  · simp only [intResult_double _ x hw, signedResult_eq, signedArgs_eq, intWidth, if_neg hw, if_neg (show ¬ f.hi.getLsbD 1 = true from hw)]

theorem unsignedArgs_eq (f : FmtA) (x : Ctx) : unsignedArgs f x =
    if f.hi.getLsbD 1 then (((rget x f.rs1).setWidth 32).toNat, ((rget x f.rs2).setWidth 32).toNat)
    else ((rget x f.rs1).toNat, (rget x f.rs2).toNat) := by
  by_cases hw : isW f = true
  · simp only [unsignedArgs, intWidth, if_pos hw, if_pos (show f.hi.getLsbD 1 = true from hw), BitVec.toNat_setWidth]
  · simp only [unsignedArgs, intWidth, if_neg hw, if_neg (show ¬ f.hi.getLsbD 1 = true from hw), Nat.mod_eq_of_lt (BitVec.isLt _)]

theorem mulhu_eq (f : FmtA) (x : Ctx) :
    signedResult f (((unsignedArgs f x).1 * (unsignedArgs f x).2 / 2 ^ intWidth f : Nat) : Int) =
      intResult (fun n _ a b => BitVec.ofNat n (a.toNat * b.toNat / 2 ^ n)) f x := by
  by_cases hw : isW f = true
  · simp only [intResult_wide _ x hw, signedResult_eq, unsignedArgs_eq, intWidth, if_pos hw, if_pos (show f.hi.getLsbD 1 = true from hw),
      BitVec.ofInt_natCast]
  · simp only [intResult_double _ x hw, signedResult_eq, unsignedArgs_eq, intWidth, if_neg hw,
      if_neg (show ¬ f.hi.getLsbD 1 = true from hw), BitVec.ofInt_natCast]

theorem selR_eq (f : FmtA) (x : Ctx) :
    (let old := rget x f.rd
     if isW f then wide (lo32 (if lo32 old ≠ 0 then rget x f.rs1 else rget x f.rs2))
     else if old ≠ 0 then rget x f.rs1 else rget x f.rs2) = intResult (fun _ d a b => if d ≠ 0 then a else b) f x := by
  by_cases hw : isW f = true
  · simp only [intResult_wide _ x hw, if_pos hw, wide]
    by_cases hd : lo32 (rget x f.rd) ≠ 0
    · rw [if_pos hd]; exact congrArg _ (if_pos hd).symm
    · rw [if_neg hd]; exact congrArg _ (if_neg hd).symm
  · simp only [intResult_double _ x hw, if_neg hw]

/-- The functions of the OPA instructions that raise nothing; CLZ and POPC have no rs2. -/
def PlainFn (fn : Nat) (unary : Bool) : Prop :=
  fn ≤ 0x11 ∨ (0x18 ≤ fn ∧ fn ≤ 0x1A) ∨ fn = 0x20 ∨ ((fn = 0x12 ∨ fn = 0x13) ∧ unary = true)

/-- Each instruction of the table runs as `opa` with its operation. -/
theorem intTable_runs (k : Nat) (f : FmtA) (s : State) : ∀ r ∈ intTable, ∃ fn val,
    exec (r.1 k f) s = opa k fn f val s ∧ PlainFn fn r.2.1 ∧ ∀ x, val x = intResult r.2.2 f x := by
  simp only [intTable, List.forall_mem_cons, List.not_mem_nil, false_imp_iff, implies_true, and_true]
  have plain {fn : Nat} {unary : Bool} (h : fn ≤ 0x11) : PlainFn fn unary := .inl h
  have product {fn : Nat} {unary : Bool} (h : 0x18 ≤ fn ∧ fn ≤ 0x1A) : PlainFn fn unary := .inr (.inl h)
  have count {fn : Nat} (h : fn = 0x12 ∨ fn = 0x13) : PlainFn fn true := .inr (.inr (.inr ⟨h, rfl⟩))
  refine ⟨⟨_, _, rfl, plain (by decide), fun x => intForm_eq _ f x _ _ (fun _ _ _ => rfl) (fun _ _ _ => rfl)⟩,
    ⟨_, _, rfl, plain (by decide), fun x => intForm_eq _ f x _ _ (fun _ _ _ => rfl) (fun _ _ _ => rfl)⟩,
    ⟨_, _, rfl, plain (by decide), fun x => intForm_eq _ f x _ _ (fun _ _ _ => rfl) (fun _ _ _ => rfl)⟩,
    ⟨_, _, rfl, plain (by decide), fun x => intForm_eq _ f x _ _ (fun _ _ _ => rfl) (fun _ _ _ => rfl)⟩,
    ⟨_, _, rfl, plain (by decide), fun x => intForm_eq _ f x _ _ (fun _ _ _ => rfl) (fun _ _ _ => rfl)⟩,
    ⟨_, _, rfl, plain (by decide), fun x => intForm_eq _ f x _ _ (fun _ _ _ => rfl) (fun _ _ _ => rfl)⟩,
    ⟨_, _, rfl, plain (by decide), fun x => shiftForm_eq f x (fun _ a m => a <<< m)⟩,
    ⟨_, _, rfl, plain (by decide), fun x => shiftForm_eq f x (fun _ a m => a >>> m)⟩,
    ⟨_, _, rfl, plain (by decide), fun x => shiftForm_eq f x (fun _ a m => a.sshiftRight m)⟩,
    ⟨_, _, rfl, plain (by decide), fun x => shiftForm_eq f x (fun _ a m => a.rotateRight m)⟩,
    ⟨_, _, rfl, plain (by decide), fun x => (compareForm_eq f x (fun _ => BitVec.slt)).trans (by simp [BitVec.slt])⟩,
    ⟨_, _, rfl, plain (by decide), fun x => (compareForm_eq f x (fun _ => BitVec.ult)).trans (by simp [BitVec.ult])⟩,
    ⟨_, _, rfl, plain (by decide), fun x => intForm_eq _ f x _ _ (fun _ _ _ => ite_slt _ _) (fun _ _ _ => ite_slt _ _)⟩,
    ⟨_, _, rfl, plain (by decide), fun x => intForm_eq _ f x _ _ (fun _ _ _ => ite_slt _ _) (fun _ _ _ => ite_slt _ _)⟩,
    ⟨_, _, rfl, plain (by decide), fun x => intForm_eq _ f x _ _ (fun _ _ _ => ite_ult _ _) (fun _ _ _ => ite_ult _ _)⟩,
    ⟨_, _, rfl, plain (by decide), fun x => intForm_eq _ f x _ _ (fun _ _ _ => ite_ult _ _) (fun _ _ _ => ite_ult _ _)⟩,
    ⟨_, _, rfl, count (by decide), clz_eq f⟩,
    ⟨_, _, rfl, count (by decide), popc_eq f⟩,
    ⟨_, _, rfl, product (by decide), fun x => intForm_eq _ f x _ _ (fun _ _ _ => rfl) (fun _ _ _ => rfl)⟩,
    ⟨_, _, rfl, product (by decide), mulh_eq f⟩,
    ⟨_, _, rfl, product (by decide), mulhu_eq f⟩,
    ⟨_, _, rfl, .inr (.inr (.inl rfl)), selR_eq f⟩⟩

/-- Settles O6: the table gives each operation's value; issuing and retiring are the same for all of them. -/
theorem integerOperationsWriteRd : Obligations.IntegerOperationsWriteRd := by
  intro s k c f h h8 r hr hrs2
  obtain ⟨fn, val, hexec, hfn, hval⟩ := intTable_runs k f s r hr
  rw [hexec, opa_next val h h8 (hfn.imp_right (Or.imp_right (Or.imp_right (And.imp_right hrs2)))), hval]

/-! ### Operations that raise conditions (R67, R68) -/

section
variable {s : State} {k c cost fn : Nat} {f : FmtA} {val : Ctx → Int × Conds}

theorem opaC_issues (h : Issues s k c cost) (hw : (readWord (isMgmt k) (encA 0x00 fn f)).map (·.cost) = some cost) :
    opaC k fn f val s = .next (arithEnd s k c cost (encA 0x00 fn f) (val (contextAt s c)).2
      (rset (contextAt s c) f.rd (signedResult f (val (contextAt s c)).1))) :=
  congrArg _ (runInsn_withConds h hw rfl)

end

section
variable {f : FmtA} {x : Ctx} {op : CondOp}

/-- An operation that is one on signed numbers, in its 64-bit or its W form. -/
theorem condResult_signed (g : Int → Int → Int × Conds) (h : ∀ n, 0 < n → intWidth f = n → ∀ a b : BitVec n,
    op n a b = (BitVec.ofInt n (g a.toInt b.toInt).1, (g a.toInt b.toInt).2)) :
    (signedResult f (g (signedArgs f x).1 (signedArgs f x).2).1, (g (signedArgs f x).1 (signedArgs f x).2).2) = condResult op f x := by
  rw [signedResult_eq, signedArgs_eq, condResult]
  by_cases hw : f.hi.getLsbD 1 = true
  · simp only [if_pos hw, h 32 (by decide) (if_pos hw)]
  · simp only [if_neg hw, h 64 (by decide) (if_neg hw)]

/-- An operation that is one on unsigned numbers, in its 64-bit or its W form. -/
theorem condResult_unsigned (g : Nat → Nat → Nat × Conds) (h : ∀ n, intWidth f = n → ∀ a b : BitVec n,
    op n a b = (BitVec.ofNat n (g a.toNat b.toNat).1, (g a.toNat b.toNat).2)) :
    (signedResult f ((g (unsignedArgs f x).1 (unsignedArgs f x).2).1 : Int), (g (unsignedArgs f x).1 (unsignedArgs f x).2).2) =
      condResult op f x := by
  rw [signedResult_eq, unsignedArgs_eq, condResult]
  by_cases hw : f.hi.getLsbD 1 = true
  · simp only [if_pos hw, h 32 (if_pos hw), BitVec.ofInt_natCast]
  · simp only [if_neg hw, h 64 (if_neg hw), BitVec.ofInt_natCast]

end

section
variable {n : Nat} (hn : 0 < n)
include hn

theorem intMin_eq_ofInt : BitVec.intMin n = BitVec.ofInt n (-(2 ^ (n - 1) : Nat)) := by
  rw [← BitVec.ofInt_toInt (x := BitVec.intMin n), BitVec.toInt_intMin_of_pos hn]; norm_cast

omit hn in
theorem intMax_eq_ofInt : BitVec.intMax n = BitVec.ofInt n ((2 ^ (n - 1) : Nat) - 1) := by
  rw [← BitVec.ofInt_toInt (x := BitVec.intMax n), BitVec.toInt_intMax]; norm_cast

theorem eq_intMin_iff (a : BitVec n) : a = BitVec.intMin n ↔ a.toInt = -(2 ^ (n - 1) : Nat) := by
  rw [← BitVec.toInt_inj, BitVec.toInt_intMin_of_pos hn]; norm_cast

theorem eq_neg_one_iff (b : BitVec n) : b = -1 ↔ b.toInt = -1 := by
  rw [← BitVec.toInt_inj, show (-1 : BitVec n) = -1#n from rfl, BitVec.neg_one_eq_allOnes, BitVec.toInt_allOnes, if_pos hn]

omit hn in
theorem eq_zero_iff_toInt (b : BitVec n) : b = 0 ↔ b.toInt = 0 := by
  rw [← BitVec.toInt_inj, show (0 : BitVec n) = 0#n from rfl, BitVec.toInt_zero]

/-- R67: the saturated result is the clamped number, with IS where that differs. -/
theorem satOp_eq (v : Int) : satOp n v = (BitVec.ofInt n (clampS n v), condIf (clampS n v != v) condIS) := by
  have hclamp := clampTo_eq n 0x002 v
  unfold clampTo at hclamp
  unfold satOp
  split at hclamp
  next hlow =>
    rw [if_pos hlow, intMin_eq_ofInt hn, (Prod.mk.inj hclamp).1, (Prod.mk.inj hclamp).2]; rfl
  next hlow =>
    rw [if_neg hlow]
    split at hclamp
    next hhigh =>
      rw [if_pos (by omega), intMax_eq_ofInt, (Prod.mk.inj hclamp).1, (Prod.mk.inj hclamp).2]; rfl
    next hhigh =>
      rw [if_neg (by omega), (Prod.mk.inj hclamp).2]
      rw [← (Prod.mk.inj hclamp).1]; rfl

section
variable {f : FmtA} (hf : intWidth f = n) (a b : BitVec n)
include hf

/-- R68: the signed quotient. -/
theorem quotient_eq : (if b = 0 then (if 0 ≤ a.toInt then BitVec.intMax n else BitVec.intMin n, (0x001 : Conds))
      else if a = BitVec.intMin n ∧ b = -1 then (BitVec.intMax n, 0x002) else (a.sdiv b, 0)) =
    (BitVec.ofInt n (divSigned f a.toInt b.toInt).1, (divSigned f a.toInt b.toInt).2.2) := by
  have hdiv : a.sdiv b = BitVec.ofInt n (a.toInt.tdiv b.toInt) :=
    BitVec.eq_of_toInt_eq (by rw [BitVec.toInt_sdiv, BitVec.toInt_ofInt])
  simp only [eq_intMin_iff hn, eq_neg_one_iff hn, eq_zero_iff_toInt, divSigned, maxSigned, minSigned, hf, hdiv]
  split
  · split
    · exact Prod.ext intMax_eq_ofInt rfl
    · exact Prod.ext (intMin_eq_ofInt hn) rfl
  · split
    · exact Prod.ext intMax_eq_ofInt rfl
    · rfl

/-- R68: the signed remainder. -/
theorem remainder_eq : (if b = 0 then ((0 : BitVec n), (0x001 : Conds))
      else if a = BitVec.intMin n ∧ b = -1 then (0, 0x002) else (a.srem b, 0)) =
    (BitVec.ofInt n (divSigned f a.toInt b.toInt).2.1, (divSigned f a.toInt b.toInt).2.2) := by
  have hrem : a.srem b = BitVec.ofInt n (a.toInt.tmod b.toInt) := by rw [← BitVec.toInt_srem, BitVec.ofInt_toInt]
  simp only [eq_intMin_iff hn, eq_neg_one_iff hn, eq_zero_iff_toInt, divSigned, maxSigned, minSigned, hf, hrem]
  split
  · simp [condIDZ]
  · split <;> simp [condIS]

omit hn

/-- R68: the unsigned quotient. -/
theorem unsignedQuotient_eq : (if b = 0 then (BitVec.allOnes n, (0x001 : Conds)) else (a / b, 0)) =
    (BitVec.ofNat n (divUnsigned f a.toNat b.toNat).1, (divUnsigned f a.toNat b.toNat).2.2) := by
  have hzero : b = 0 ↔ b.toNat = 0 := by rw [← BitVec.toNat_inj]; rfl
  simp only [hzero, divUnsigned, hf]
  split
  · exact Prod.ext (BitVec.eq_of_toNat_eq (by simp)) rfl
  · exact Prod.ext (BitVec.eq_of_toNat_eq (by rw [BitVec.toNat_udiv, BitVec.toNat_ofNat, Nat.mod_eq_of_lt (lt_of_le_of_lt (Nat.div_le_self _ _) a.isLt)])) rfl

/-- R68: the unsigned remainder. -/
theorem unsignedRemainder_eq : (if b = 0 then ((0 : BitVec n), (0x001 : Conds)) else (a % b, 0)) =
    (BitVec.ofNat n (divUnsigned f a.toNat b.toNat).2.1, (divUnsigned f a.toNat b.toNat).2.2) := by
  have hzero : b = 0 ↔ b.toNat = 0 := by rw [← BitVec.toNat_inj]; rfl
  simp only [hzero, divUnsigned, hf]
  split
  · rfl
  · exact Prod.ext (BitVec.eq_of_toNat_eq (by rw [BitVec.toNat_umod, BitVec.toNat_ofNat, Nat.mod_eq_of_lt (lt_of_le_of_lt (Nat.mod_le _ _) a.isLt)])) rfl

end

end

/-- Each instruction of the table runs as `opaC` with its operation. -/
theorem arithTable_runs (k : Nat) (f : FmtA) (s : State) : ∀ r ∈ arithTable, ∃ val,
    exec (r.1 k f) s = opaC k r.2.1 f val s ∧ ∀ x, (signedResult f (val x).1, (val x).2) = condResult r.2.2.2 f x := by
  simp only [arithTable, List.forall_mem_cons, List.not_mem_nil, false_imp_iff, implies_true, and_true]
  exact ⟨⟨_, rfl, fun x => condResult_signed (fun a b => satInt f (a + b)) (fun n hn hf a b => by rw [satOp_eq hn, satInt, hf])⟩,
    ⟨_, rfl, fun x => condResult_signed (fun a b => satInt f (a - b)) (fun n hn hf a b => by rw [satOp_eq hn, satInt, hf])⟩,
    ⟨_, rfl, fun x => condResult_signed (fun a b => ((divSigned f a b).1, (divSigned f a b).2.2)) (fun n hn hf => quotient_eq hn hf)⟩,
    ⟨_, rfl, fun x => condResult_unsigned (fun a b => ((divUnsigned f a b).1, (divUnsigned f a b).2.2)) (fun n hf => unsignedQuotient_eq hf)⟩,
    ⟨_, rfl, fun x => condResult_signed (fun a b => ((divSigned f a b).2.1, (divSigned f a b).2.2)) (fun n hn hf => remainder_eq hn hf)⟩,
    ⟨_, rfl, fun x => condResult_unsigned (fun a b => ((divUnsigned f a b).2.1, (divUnsigned f a b).2.2)) (fun n hf => unsignedRemainder_eq hf)⟩⟩

theorem arithTable_cost (m : Bool) (f : FmtA) (h8 : f.hi.getLsbD 0 = false) :
    ∀ r ∈ arithTable, (readWord m (encA 0x00 r.2.1 f)).map (·.cost) = some r.2.2.1 := by
  simp only [arithTable, List.forall_mem_cons, List.not_mem_nil, false_imp_iff, implies_true, and_true]
  have cost (fn c : Nat) (hf : fn < 256) (h1 : fn ≤ 0x11 → c = 1) (h20 : 0x1C ≤ fn → c = 20)
      (hfn : fn = 0x10 ∨ fn = 0x11 ∨ (0x1C ≤ fn ∧ fn ≤ 0x1F)) : (readWord m (encA 0x00 fn f)).map (·.cost) = some c := by
    rw [readWord_opa m fn f hf]
    exact opaInfo_cost hf (hi_even h8) (by omega) (by omega) (by omega) (by omega)
  exact ⟨cost 0x10 1 (by decide) (by decide) (by decide) (by decide), cost 0x11 1 (by decide) (by decide) (by decide) (by decide),
    cost 0x1C 20 (by decide) (by decide) (by decide) (by decide), cost 0x1D 20 (by decide) (by decide) (by decide) (by decide),
    cost 0x1E 20 (by decide) (by decide) (by decide) (by decide), cost 0x1F 20 (by decide) (by decide) (by decide) (by decide)⟩

/-- Settles O7: the table gives each operation's value and conditions; the trap rule is the same for all of them. -/
theorem arithmeticSaturatesAndFlags : Obligations.ArithmeticSaturatesAndFlags := by
  intro s k c f h8 r hr h
  obtain ⟨val, hexec, hval⟩ := arithTable_runs k f s r hr
  rw [hexec, opaC_issues h (arithTable_cost _ f h8 r hr), ← hval]

/-! ### Operations with a constant (R69, R70) -/

section
variable {s : State} {k c fn : Nat} {f : FmtI} {val : BitVec 64 → BitVec 64}

/-- R69: an OPI instruction is legal but for SHK and BITK with imm12[9:6] not zero. -/
theorem opi_cost (m : Bool) (hf : fn < 8) (hk : fn < 6 ∨ f.imm.toNat / 64 % 16 = 0) :
    (readWord m (encI 0x01 fn f)).map (·.cost) = some 1 := by
  obtain ⟨hop, hfn, himm, _⟩ := encI_fields 0x01 fn f (by decide) hf
  simp only [readWord, hop, hfn, himm]
  exact legalIf_cost _ _ (by simpa using hk)

theorem opi_retires (h : Issues s k c 1) (hf : fn < 8) (hk : fn < 6 ∨ f.imm.toNat / 64 % 16 = 0) :
    opi k fn f val s = .next (retired s c 1 (rset (contextAt s c) f.rd (val (rget (contextAt s c) f.rs1)))) :=
  congrArg _ (runInsn_next h (opi_cost _ hf hk) rfl)

end

/-- Each instruction of R69's table runs as `opi` with its operation. -/
theorem constTable_runs (k : Nat) (f : FmtI) (s : State) : ∀ r ∈ constTable, ∃ fn val,
    exec (r.1 k f) s = opi k fn f val s ∧ fn < 6 ∧ ∀ a, val a = r.2 a f.imm := by
  simp only [constTable, List.forall_mem_cons, List.not_mem_nil, false_imp_iff, implies_true, and_true]
  have hlow : lo32 (immS f) = f.imm.signExtend 32 :=
    BitVec.eq_of_getLsbD_eq (fun i hi => by
      simp only [lo32, immS, BitVec.getLsbD_setWidth, BitVec.getLsbD_signExtend, hi, show i < 64 by omega, decide_true, Bool.true_and])
  have hcmp (a : BitVec 64) : (if BitVec.slt a (immS f) then -1 else if a = immS f then 0 else 1 : BitVec 64) =
      if a.toInt < f.imm.toInt then BitVec.ofInt 64 (-1) else if a.toInt = f.imm.toInt then 0 else 1 := by
    have himm : (immS f).toInt = f.imm.toInt := BitVec.toInt_signExtend_of_le (by decide)
    simp only [BitVec.slt, decide_eq_true_eq, himm, ← BitVec.toInt_inj (x := a)]; rfl
  exact ⟨⟨0, (· + immS f), rfl, by decide, fun _ => rfl⟩,
    ⟨1, fun a => wide (lo32 a + lo32 (immS f)), rfl, by decide, fun a => by rw [hlow]; rfl⟩,
    ⟨2, (· &&& immZ f), rfl, by decide, fun _ => rfl⟩, ⟨3, (· ||| immZ f), rfl, by decide, fun _ => rfl⟩,
    ⟨4, (· ^^^ immZ f), rfl, by decide, fun _ => rfl⟩,
    ⟨5, fun a => if BitVec.slt a (immS f) then -1 else if a = immS f then 0 else 1, rfl, by decide, hcmp⟩⟩

/-- R69: what imm12[11:10] selects, of four. -/
theorem immSel_cases (f : FmtI) : immSel f = 0 ∨ immSel f = 1 ∨ immSel f = 2 ∨ immSel f = 3 := by
  unfold immSel; omega

/-- SHK and BITK run as `opi` with the operation that their constant selects. -/
theorem bitTable_runs (k : Nat) (f : FmtI) (s : State) : ∀ r ∈ bitTable, ∃ fn val,
    exec (r.1 k f) s = opi k fn f val s ∧ fn < 8 ∧ ∀ a, val a = r.2 (f.imm.toNat / 1024) a (f.imm.toNat % 64) := by
  simp only [bitTable, List.forall_mem_cons, List.not_mem_nil, false_imp_iff, implies_true, and_true]
  have hsel := immSel_cases f
  refine ⟨⟨6, fun a => match immSel f with
    | 0 => a <<< immAmount f
    | 1 => a >>> immAmount f
    | 2 => a.sshiftRight (immAmount f)
    | _ => a.rotateRight (immAmount f), rfl, by decide, fun a => ?_⟩, ⟨7, fun a =>
    let bit : BitVec 64 := 1 <<< immAmount f
    match immSel f with
    | 0 => a ||| bit
    | 1 => a &&& ~~~bit
    | 2 => a ^^^ bit
    | _ => boolWord (a.getLsbD (immAmount f)), rfl, by decide, fun a => ?_⟩⟩
  · rw [show f.imm.toNat / 1024 = immSel f from rfl]
    rcases hsel with h | h | h | h <;> simp only [h] <;> rfl
  · have hbit : boolWord (a.getLsbD (f.imm.toNat % 64)) = BitVec.ofNat 64 (a.getLsbD (f.imm.toNat % 64)).toNat := by
      cases a.getLsbD (f.imm.toNat % 64) <;> rfl
    rw [show f.imm.toNat / 1024 = immSel f from rfl]
    rcases hsel with h | h | h | h <;> simp only [h]
    · rfl
    · rfl
    · rfl
    · exact hbit

/-! ### Upper immediates (R70) -/

section
variable {s : State} {k c op : Nat} {f : FmtU} {val : Ctx → BitVec 64}

theorem upper_cost (m : Bool) (f : FmtU) (ho : op = 0x02 ∨ op = 0x03 ∨ op = 0x04) :
    (readWord m (encU op f)).map (·.cost) = some 1 := by
  obtain ⟨hop, _⟩ := encU_fields op f (by omega)
  rcases ho with rfl | rfl | rfl <;> simp only [readWord, hop, Option.map_some]

theorem upper_retires (h : Issues s k c 1) (ho : op = 0x02 ∨ op = 0x03 ∨ op = 0x04) :
    runInsn k (encU op f) (writes f.rd val) s = retired s c 1 (rset (contextAt s c) f.rd (val (contextAt s c))) :=
  runInsn_next h (upper_cost _ f ho) rfl

end

/-- R70: LUI's constant shifted left by 12. -/
theorem lui_eq (imm : BitVec 20) : (imm.setWidth 32 <<< 12).signExtend 64 = (imm ++ 0#12 : BitVec 32).signExtend 64 := by
  congr 1
  refine BitVec.eq_of_toNat_eq (Eq.trans ?_ (BitVec.toNat_append imm 0#12).symm)
  have := imm.isLt
  simp [Nat.shiftLeft_eq]; omega

/-- R70: LUH's constant above the low 44 bits of the old value. -/
theorem luh_eq (imm : BitVec 20) (v : BitVec 64) :
    (imm.setWidth 64 <<< 44) ||| zext 44 v = (imm ++ v.setWidth 44 : BitVec 64) := by
  refine BitVec.eq_of_toNat_eq (Eq.trans ?_ (BitVec.toNat_append imm (v.setWidth 44)).symm)
  have := imm.isLt
  have hv : v.toNat % 17592186044416 % 18446744073709551616 = v.toNat % 17592186044416 := by omega
  have hi : imm.toNat % 18446744073709551616 * 17592186044416 % 18446744073709551616 = imm.toNat * 17592186044416 := by omega
  simp [zext, Nat.shiftLeft_eq, hv, hi]

/-- Settles O8: the two tables by their operations, and the three upper immediates. -/
theorem constantOperationsWriteRd : Obligations.ConstantOperationsWriteRd := by
  refine ⟨fun s k c f h => ⟨fun r hr => ?_, fun hk r hr => ?_⟩, fun s k c f h => ⟨?_, ?_, ?_⟩⟩
  · obtain ⟨fn, val, hexec, hfn, hval⟩ := constTable_runs k f s r hr
    rw [hexec, opi_retires h (by omega) (.inl hfn), hval]
  · obtain ⟨fn, val, hexec, hfn, hval⟩ := bitTable_runs k f s r hr
    rw [hexec, opi_retires h hfn (.inr hk), hval]
  · rw [← lui_eq]; exact congrArg _ (upper_retires h (.inl rfl))
  · rw [← luh_eq]; exact congrArg _ (upper_retires h (.inr (.inl rfl)))
  · rw [mul_comm]; exact congrArg _ (upper_retires h (.inr (.inr rfl)))

end Sys2Proof.Proofs
end

section
/-! Proofs of the statements of spec/03 on loads, stores and atomics, and on table jumps and loops (R60, R64, R75, R76, R82, R83). -/

namespace Sys2Proof.Proofs
open Sys2Proof Sys2Proof.Machine

/-! ### Checks of a data access, in order (R89) -/

/-- The instruction meets an uncorrectable error at the SRAM address `b`: a MEMORY fault, and the error acts by region as well. -/
theorem runInsn_memory {s : State} {k c cost b : Nat} {w : BitVec 32} {act : Env → State → Ctx → Did} {addr : BitVec 64}
    (h : Issues s k c cost) (hw : (readWord (isMgmt k) w).map (·.cost) = some cost)
    (ha : act (issuing s k c w cost) (fetched s c) (contextAt s c) = .memory addr b) :
    runInsn k w act s = meetError (faulted s k c w .memory addr) b 2 := by
  rw [runInsn_issues act h hw, ha]; rfl

/-- What an instruction does begins with the checks of a data access: what they find is what it does. -/
structure ChecksAccess (act : Env → State → Ctx → Did) (x : Ctx) (reads : Bool) (kind : Access) (a : BitVec 64) (n : Nat) : Prop where
  window : ∀ e s d, dataFault e kind a n = some d → act e s x = d
  memory : reads = true → ∀ e s d, dataFault e kind a n = none → memoryFault e s a n = some d → act e s x = d

theorem doLoad_checks (f : FmtM) (x : Ctx) : ChecksAccess (doLoad f) x true .load (dataAddr f x) (2 ^ (f.size.toNat % 4)) where
  window e s d hd := by simp only [doLoad]; erw [hd]
  memory _ e s d hn hm := by simp only [doLoad]; erw [hn, hm]

theorem doStore_checks (f : FmtM) (x : Ctx) (hf : f.size.toNat < 4) :
    ChecksAccess (doStore f) x false .store (dataAddr f x) (2 ^ f.size.toNat) where
  window e s d hd := by
    rw [← Nat.mod_eq_of_lt hf] at hd
    simp only [doStore]; erw [hd]
  memory := by simp

theorem doAtomic_checks (f : FmtA) (op : BitVec 64 → BitVec 64 → BitVec 64) (opW : BitVec 32 → BitVec 32 → BitVec 32) (x : Ctx) :
    ChecksAccess (doAtomic f op opW) x true .store (rget x f.rs1) (atomicWidth f) where
  window e s d hd := by simp only [doAtomic]; erw [hd]
  memory _ e s d hn hm := by simp only [doAtomic]; erw [hn, hm]

/-- Each data access of the statement runs its word with its steps, and checks its access first. -/
theorem dataAccess_runs {k cost n : Nat} {x : Ctx} {i : Instr} {w : BitVec 32} {reads : Bool} {kind : Access} {a : BitVec 64}
    (h : DataAccess k x i w cost reads kind a n) : ∃ act, (∀ s, exec i s = .next (runInsn k w act s)) ∧
      (∀ m, (readWord m w).map (·.cost) = some cost) ∧ ChecksAccess act x reads kind a n := by
  cases h with
  | load f hf => exact ⟨_, fun _ => rfl, fun m => ld_cost m f hf, doLoad_checks f x⟩
  | store f hf => exact ⟨_, fun _ => rfl, fun m => st_cost m f hf, doStore_checks f x hf⟩
  | swap f hf => exact ⟨_, fun _ => rfl, fun m => atom_cost m 0 f (by decide) hf, doAtomic_checks f _ _ x⟩
  | aadd f hf => exact ⟨_, fun _ => rfl, fun m => atom_cost m 1 f (by decide) hf, doAtomic_checks f _ _ x⟩
  | aand f hf => exact ⟨_, fun _ => rfl, fun m => atom_cost m 2 f (by decide) hf, doAtomic_checks f _ _ x⟩
  | aor f hf => exact ⟨_, fun _ => rfl, fun m => atom_cost m 3 f (by decide) hf, doAtomic_checks f _ _ x⟩
  | amax f hf => exact ⟨_, fun _ => rfl, fun m => atom_cost m 4 f (by decide) hf, doAtomic_checks f _ _ x⟩
  | amin f hf => exact ⟨_, fun _ => rfl, fun m => atom_cost m 5 f (by decide) hf, doAtomic_checks f _ _ x⟩

section
variable {e : Env} {kind : Access} {a : BitVec 64} {n : Nat}

theorem dataFault_align (h : a.toNat % n ≠ 0) : dataFault e kind a n = some (.fault .align .none a) := by
  rw [dataFault, if_pos h]

theorem dataFault_bounds (h : a.toNat % n = 0) (hw : windowAllows e.u kind a.toNat n = false) :
    dataFault e kind a n = some (.fault .bounds .none a) := by
  rw [dataFault, if_neg (by omega), if_pos (by rw [hw]; rfl)]

theorem dataFault_none (h : a.toNat % n = 0) (hw : windowAllows e.u kind a.toNat n = true) : dataFault e kind a n = none := by
  rw [dataFault, if_neg (by omega), if_neg (by rw [hw]; decide)]

end

/-- Settles O10: each access by its checks, in the order of R89. -/
theorem dataAccessFaultsInOrder : Obligations.DataAccessFaultsInOrder := by
  intro s k c cost n i w reads kind a hd h
  obtain ⟨act, hexec, hcost, hchecks⟩ := dataAccess_runs hd
  rw [hexec]
  refine ⟨fun halign => ?_, fun halign hbounds => ?_, fun hreads hok b hb => ?_⟩
  · exact congrArg _ (runInsn_fault h (hcost _) (hchecks.window _ _ _ (dataFault_align halign)))
  · exact congrArg _ (runInsn_fault h (hcost _) (hchecks.window _ _ _ (dataFault_bounds halign hbounds)))
  · refine congrArg _ (runInsn_memory h (hcost _) (hchecks.memory hreads _ _ _ (dataFault_none hok.aligned hok.rights) ?_))
    exact congrArg (Option.map _) hb

/-! ### Bytes and numbers -/

theorem bytesOf_length (n v : Nat) : (bytesOf n v).length = n := by
  induction n generalizing v with
  | zero => rfl
  | succ n ih => simp [bytesOf, ih]

theorem bytesOf_getElem (n v i : Nat) (h : i < (bytesOf n v).length) : (bytesOf n v)[i] = BitVec.ofNat 8 (v / 256 ^ i) := by
  induction n generalizing v i with
  | zero => simp [bytesOf] at h
  | succ n ih =>
    cases i with
    | zero => simp [bytesOf]
    | succ i => simp only [bytesOf, List.getElem_cons_succ, ih, Nat.div_div_eq_div_mul, pow_succ']

theorem natOf_lt (bs : List Byte) : natOf bs < 256 ^ bs.length := by
  induction bs with
  | nil => simp [natOf]
  | cons b bs ih => simp only [natOf, List.length_cons, pow_succ]; have := b.isLt; omega

theorem readBytes_length (m : Sram) (a n : Nat) : (readBytes m a n).length = n := by simp [readBytes]

theorem memNumber_lt (s : State) (a n : Nat) : memNumber s a n < 256 ^ n := by
  have := natOf_lt (readBytes s.sram a n)
  rwa [readBytes_length] at this

theorem loadNat_fetched (s : State) (c : Nat) (a : BitVec 64) (n : Nat) :
    loadNat (fetched s c) (suiteAt s (ctxSuite c)) a.toNat n = memNumber s (sramAddr s c a) n := by
  simp only [loadNat, fetched, readBytes_corrected, memNumber, sramAddr]

theorem readByte_corrected (s : State) (a n b : Nat) : readByte (correctErrors s a n).sram b = readByte s.sram b := by
  unfold correctErrors; dsimp only; split <;> rfl

theorem readByte_fetched (s : State) (c b : Nat) : readByte (fetched s c).sram b = readByte s.sram b :=
  readByte_corrected _ _ _ _

theorem fetched_wf {s : State} (c : Nat) (h : s.sram.wf = true) : (fetched s c).sram.wf = true := correctErrors_wf _ _ _ h

/-! ### LD (R75) -/

/-- R75: what LD writes: sizes 0 to 3 zero-extended, 4 to 6 sign-extended. -/
theorem loadedValue_eq {size : BitVec 3} {v : Nat} (hs : size.toNat < 7) (hv : v < 256 ^ 2 ^ (size.toNat % 4)) :
    loadedValue size v = if size.toNat < 4 then (BitVec.ofNat (8 * 2 ^ (size.toNat % 4)) v).setWidth 64
      else (BitVec.ofNat (8 * 2 ^ (size.toNat % 4)) v).signExtend 64 := by
  have hpow : 256 ^ 2 ^ (size.toNat % 4) = 2 ^ (8 * 2 ^ (size.toNat % 4)) := by rw [pow_mul]; norm_num
  rw [hpow] at hv
  have hnat : (BitVec.ofNat (8 * 2 ^ (size.toNat % 4)) v).toNat = v := by rw [BitVec.toNat_ofNat, Nat.mod_eq_of_lt hv]
  unfold loadedValue
  by_cases h4 : size.toNat < 4
  · rw [if_neg (by omega), if_pos h4, ← BitVec.ofNat_toNat, hnat]
  · rw [if_pos (by omega), if_neg h4, sizeBytes, BitVec.signExtend, ← signed_toInt _ (by positivity), hnat]; rfl

/-- The instruction completes in the state `t` with the registers `y`. -/
theorem runInsn_completes {s t : State} {k c cost : Nat} {w : BitVec 32} {act : Env → State → Ctx → Did} {y : Ctx}
    (h : Issues s k c cost) (hw : (readWord (isMgmt k) w).map (·.cost) = some cost)
    (ha : act (issuing s k c w cost) (fetched s c) (contextAt s c) = .next t y) :
    runInsn k w act s = putCtx t c (advance { y with steps := y.steps + cost }) := by
  rw [runInsn_issues act h hw, ha]; rfl

@[simp] theorem rset_steps (x : Ctx) (r : BitVec 5) (v : BitVec 64) : (rset x r v).steps = x.steps := by
  unfold rset; split <;> rfl

section
variable {s : State} {c : Nat} {e : Env} (he : e.u = suiteAt s (ctxSuite c))
include he

/-- An access that is allowed passes the window's checks. -/
theorem dataFault_of_allowed {kind : Access} {a : BitVec 64} {n : Nat} (hok : Allowed s c kind a n) : dataFault e kind a n = none :=
  dataFault_none hok.aligned (by rw [he]; exact hok.rights)

theorem memoryFault_of_clean {t : State} {a : BitVec 64} {n : Nat} (hclean : uncorrectableIn t (sramAddr s c a) n = none) :
    memoryFault e t a n = none := by
  rw [memoryFault, he, Option.map_eq_none_iff]; exact hclean

theorem doLoad_next {f : FmtM} {x : Ctx} (hok : Allowed s c .load (dataAddr f x) (2 ^ (f.size.toNat % 4)))
    (hclean : uncorrectableIn (fetched s c) (sramAddr s c (dataAddr f x)) (2 ^ (f.size.toNat % 4)) = none) :
    doLoad f e (fetched s c) x = .next (correctErrors (fetched s c) (sramAddr s c (dataAddr f x)) (2 ^ (f.size.toNat % 4)))
      (rset x f.rt (loadedValue f.size (memNumber s (sramAddr s c (dataAddr f x)) (2 ^ (f.size.toNat % 4))))) := by
  rw [← loadNat_fetched]
  simp only [doLoad]
  erw [dataFault_of_allowed he hok, memoryFault_of_clean he hclean, he]
  rfl

end

theorem load_completes {s : State} {k c : Nat} {f : FmtM} (h : Issues s k c 3) (hf : f.size.toNat < 7)
    (hok : Allowed s c .load (dataAddr f (contextAt s c)) (2 ^ (f.size.toNat % 4)))
    (hclean : uncorrectableIn (fetched s c) (sramAddr s c (dataAddr f (contextAt s c))) (2 ^ (f.size.toNat % 4)) = none) :
    exec (.ld k f) s = .next (putCtx (correctErrors (fetched s c) (sramAddr s c (dataAddr f (contextAt s c))) (2 ^ (f.size.toNat % 4))) c
      (advance { rset (contextAt s c) f.rt
          (loadedValue f.size (memNumber s (sramAddr s c (dataAddr f (contextAt s c))) (2 ^ (f.size.toNat % 4)))) with
        steps := (contextAt s c).steps + 3 })) := by
  refine congrArg _ ((runInsn_completes h (ld_cost _ f hf) (doLoad_next rfl hok hclean)).trans ?_)
  rw [rset_steps]

/-! ### Stores into the window (R62, R154) -/

theorem advance_steps_le (x : Ctx) : x.steps ≤ (advance x).steps := by
  unfold advance
  split
  · split
    · split <;> simp
    · rfl
  · rfl

/-- A context whose steps have been counted is read back as it was written. -/
theorem contextAt_putCtx {s : State} {c : Nat} {x : Ctx} (h : 0 < x.steps) : contextAt (putCtx s c x) c = x := by
  have hne : ({ taskAt s c with ctx := x } : Task) ≠ {} := by
    intro e
    have hsteps := congrArg (fun t => t.ctx.steps) e
    exact h.ne' hsteps
  exact congrArg Task.ctx (tget_tset_ne_default _ s.tasks hne)

theorem noteLines_sram (s : State) (c : Nat) (u : Suite) (a n : Nat) : (noteLines s c u a n).sram = s.sram := by
  unfold noteLines; split <;> rfl

theorem noteLines_eq (s : State) (c : Nat) (u : Suite) (a n : Nat) :
    noteLines s c u a n = { s with journal := (noteLines s c u a n).journal } := by
  unfold noteLines; split <;> rfl

/-- What the journal notes depends on the journal alone. -/
theorem noteLines_journal {s t : State} (h : t.journal = s.journal) (c : Nat) (u : Suite) (a n : Nat) :
    (noteLines t c u a n).journal = (noteLines s c u a n).journal := by
  unfold noteLines; rw [h]; split
  · rfl
  · exact h

theorem noteLines_journal_outside {s : State} {c : Nat} {u : Suite} {a : Nat} (n : Nat) (h : segmentOf u a ≠ some .retain) :
    (noteLines s c u a n).journal = s.journal := by
  rw [noteLines, if_neg h]

theorem correctErrors_eq (s : State) (a n : Nat) :
    correctErrors s a n = { s with sram := (correctErrors s a n).sram, attic := (correctErrors s a n).attic } := by
  unfold correctErrors; dsimp only; split <;> rfl

/-- What a store of `bs` at the window address `a` leaves, once the instruction has been fetched (and, for an atomic, the errors
that it met have been corrected): the state `r` that it is made in differs from `s` in the SRAM's errors and the Attic's counts. -/
structure StoreLeaves (s t : State) (c : Nat) (u : Suite) (a : Nat) (base : Nat) (bs : List Byte) (y : Ctx) : Prop where
  context : contextAt t c = y
  journal : t.journal = (noteLines s c u a bs.length).journal
  frame : t = { s with tasks := t.tasks, sram := t.sram, journal := t.journal, attic := t.attic }
  inside : ∀ i (h : i < bs.length), readByte t.sram (base + i) = bs[i]
  outside : ∀ b, b < base ∨ base + bs.length ≤ b → readByte t.sram b = readByte s.sram b

theorem storeBytes_leaves {s r : State} {c : Nat} {u : Suite} {a : Nat} {bs : List Byte} {y : Ctx} (hr : r.sram.wf = true)
    (hread : ∀ b, readByte r.sram b = readByte s.sram b) (hframe : r = { s with sram := r.sram, attic := r.attic })
    (hy : 0 < y.steps) : StoreLeaves s (putCtx (storeBytes r c u a bs) c y) c u a (u.winBase + a) bs y := by
  have hjournal : r.journal = s.journal := by rw [hframe]
  have hsram : (putCtx (storeBytes r c u a bs) c y).sram = writeBytes r.sram (u.winBase + a) bs := by
    rw [putCtx_sram, storeBytes, noteLines_sram]
  refine ⟨contextAt_putCtx hy, ?_, ?_, fun i h => ?_, fun b h => ?_⟩
  · rw [putCtx_journal, storeBytes]
    exact noteLines_journal (t := { r with sram := writeBytes r.sram (u.winBase + a) bs }) hjournal c u a _
  · rw [storeBytes, noteLines_eq]
    rw [hframe]
    rfl
  · rw [hsram, readByte_writeBytes_inside bs hr i h]
  · rw [hsram, readByte_writeBytes_outside bs hr h, hread]

theorem advance_steps_pos {x : Ctx} (h : 0 < x.steps) : 0 < (advance x).steps := lt_of_lt_of_le h (advance_steps_le x)

theorem fetched_frame (s : State) (c : Nat) : fetched s c = { s with sram := (fetched s c).sram, attic := (fetched s c).attic } :=
  correctErrors_eq _ _ _

/-- The state that an atomic stores in: fetched, and the errors that it met corrected. -/
theorem corrected_frame (s : State) (c a n : Nat) : correctErrors (fetched s c) a n =
    { s with sram := (correctErrors (fetched s c) a n).sram, attic := (correctErrors (fetched s c) a n).attic } := by
  rw [correctErrors_eq, fetched_frame]

section
variable {s : State} {k c : Nat} {e : Env} (he : e.u = suiteAt s (ctxSuite c)) (hc : e.c = c)
include he hc

/-- R75: ST of an allowed access stores the low bytes of rt. -/
theorem doStore_next {f : FmtM} {x : Ctx} (hf : f.size.toNat < 4) (hok : Allowed s c .store (dataAddr f x) (2 ^ f.size.toNat)) :
    doStore f e (fetched s c) x = .next (storeBytes (fetched s c) c (suiteAt s (ctxSuite c)) (dataAddr f x).toNat
      (bytesOf (2 ^ f.size.toNat) (rget x f.rt).toNat)) x := by
  have hn : sizeBytes f.size = 2 ^ f.size.toNat := by rw [sizeBytes, Nat.mod_eq_of_lt hf]
  simp only [doStore, hn]
  erw [dataFault_of_allowed he hok, he, hc]
  rfl

omit hc in
theorem loadNat_issuing (a : BitVec 64) (n : Nat) : loadNat (fetched s c) e.u a.toNat n = memNumber s (sramAddr s c a) n := by
  rw [he, loadNat_fetched]

/-- R76: an allowed atomic that meets no uncorrectable error writes back the combination of the old value and rs2. -/
theorem doAtomic_next {f : FmtA} {x : Ctx} {op : (n : Nat) → BitVec n → BitVec n → BitVec n} (hok : Allowed s c .store (rget x f.rs1) (atomicWidth f))
    (hclean : uncorrectableIn (fetched s c) (sramAddr s c (rget x f.rs1)) (atomicWidth f) = none) :
    doAtomic f (op 64) (op 32) e (fetched s c) x =
      .next (storeBytes (correctErrors (fetched s c) (sramAddr s c (rget x f.rs1)) (atomicWidth f)) c (suiteAt s (ctxSuite c))
          (rget x f.rs1).toNat (bytesOf (atomicWidth f)
            (op (8 * atomicWidth f) (BitVec.ofNat _ (memNumber s (sramAddr s c (rget x f.rs1)) (atomicWidth f)))
              ((rget x f.rs2).setWidth _)).toNat))
        (rset x f.rd (BitVec.ofNat 64 (memNumber s (sramAddr s c (rget x f.rs1)) (atomicWidth f)))) := by
  have hwidth : (if isW f then 4 else 8) = atomicWidth f := rfl
  have hsram : e.u.winBase + (rget x f.rs1).toNat = sramAddr s c (rget x f.rs1) := by rw [he]; rfl
  simp only [doAtomic, hwidth, dataFault_of_allowed he hok, memoryFault_of_clean he hclean, loadNat_issuing he, hsram, hc]
  rw [he]
  congr 3
  generalize hold : memNumber s (sramAddr s c (rget x f.rs1)) (atomicWidth f) = old
  by_cases hw : isW f = true
  · have h4 : atomicWidth f = 4 := if_pos hw
    have hlo : lo32 (BitVec.ofNat 64 old) = BitVec.ofNat 32 old := BitVec.eq_of_toNat_eq (by simp [lo32])
    rw [h4, if_pos hw, hlo]
    exact BitVec.toNat_setWidth_of_le (by decide)
  · have h8 : atomicWidth f = 8 := if_neg hw
    rw [h8, if_neg hw, BitVec.setWidth_eq]

end

theorem store_completes {s : State} {k c : Nat} {f : FmtM} (h : Issues s k c 2) (hf : f.size.toNat < 4)
    (hok : Allowed s c .store (dataAddr f (contextAt s c)) (2 ^ f.size.toNat)) :
    exec (.st k f) s = .next (putCtx (storeBytes (fetched s c) c (suiteAt s (ctxSuite c)) (dataAddr f (contextAt s c)).toNat
      (bytesOf (2 ^ f.size.toNat) (rget (contextAt s c) f.rt).toNat)) c
      (advance { contextAt s c with steps := (contextAt s c).steps + 2 })) :=
  congrArg _ (runInsn_completes (act := doStore f) h (st_cost _ f hf) (doStore_next rfl rfl hf hok))

/-- R76's table: each atomic runs as `doAtomic` with its operation. -/
theorem atomicTable_runs (k : Nat) (f : FmtA) (s : State) : ∀ r ∈ atomicTable, ∃ fn, fn ≤ 5 ∧
    exec (r.1 k f) s = .next (runInsn k (encA 0x0A fn f) (doAtomic f (r.2 64) (r.2 32)) s) := by
  simp only [atomicTable, List.forall_mem_cons, List.not_mem_nil, false_imp_iff, implies_true, and_true, ← ite_slt]
  exact ⟨⟨0, by decide, rfl⟩, ⟨1, by decide, rfl⟩, ⟨2, by decide, rfl⟩, ⟨3, by decide, rfl⟩, ⟨4, by decide, rfl⟩, ⟨5, by decide, rfl⟩⟩

theorem atomic_completes {s : State} {k c : Nat} {f : FmtA} (h : Issues s k c 6) (h8 : f.hi.getLsbD 0 = false)
    (hok : Allowed s c .store (rget (contextAt s c) f.rs1) (atomicWidth f))
    (hclean : uncorrectableIn (fetched s c) (sramAddr s c (rget (contextAt s c) f.rs1)) (atomicWidth f) = none)
    {r : (Nat → FmtA → Instr) × ((n : Nat) → BitVec n → BitVec n → BitVec n)} (hr : r ∈ atomicTable) :
    exec (r.1 k f) s = .next (putCtx (storeBytes (correctErrors (fetched s c) (sramAddr s c (rget (contextAt s c) f.rs1)) (atomicWidth f)) c
        (suiteAt s (ctxSuite c)) (rget (contextAt s c) f.rs1).toNat (bytesOf (atomicWidth f)
          (r.2 (8 * atomicWidth f) (BitVec.ofNat _ (memNumber s (sramAddr s c (rget (contextAt s c) f.rs1)) (atomicWidth f)))
            ((rget (contextAt s c) f.rs2).setWidth _)).toNat)) c
      (advance { rset (contextAt s c) f.rd (BitVec.ofNat 64 (memNumber s (sramAddr s c (rget (contextAt s c) f.rs1)) (atomicWidth f))) with
        steps := (contextAt s c).steps + 6 })) := by
  obtain ⟨fn, hfn, hexec⟩ := atomicTable_runs k f s r hr
  have hrun := runInsn_completes (act := doAtomic f (r.2 64) (r.2 32)) h (atom_cost _ fn f hfn h8)
    (doAtomic_next (c := c) (op := r.2) rfl rfl hok hclean)
  rw [hexec, hrun, rset_steps]

/-- Settles O9: loads by the value read, stores and atomics by what the store leaves. -/
theorem loadsStoresAndAtomics : Obligations.LoadsStoresAndAtomics := by
  refine ⟨fun s k c f h hf => ?_, fun s k c f h hf hwf => ?_, fun s k c f h h8 hwf => ?_⟩
  · intro x n a v t hok hclean
    have hvalue := loadedValue_eq hf (memNumber_lt s (sramAddr s c a) n)
    refine ⟨?_, fun b => ?_⟩
    · rw [load_completes h hf hok hclean, hvalue]
    · rw [putCtx_sram, readByte_corrected, readByte_fetched]
  · intro x n a u r t hok
    have hleaves : StoreLeaves s t c u a.toNat (sramAddr s c a) (bytesOf n (rget x f.rt).toNat) r :=
      storeBytes_leaves (fetched_wf c hwf) (readByte_fetched s c) (fetched_frame s c) (advance_steps_pos (Nat.succ_pos _))
    obtain ⟨hcontext, hjournal, hframe, hinside, houtside⟩ := hleaves
    rw [bytesOf_length] at hjournal houtside
    refine ⟨store_completes h hf hok, hcontext, hjournal, fun hseg => hjournal.trans (noteLines_journal_outside n hseg), hframe,
      fun i hi => (hinside i (by rwa [bytesOf_length])).trans (bytesOf_getElem _ _ _ _), houtside⟩
  · intro x n a old u y hok hclean r hr new t
    have hleaves : StoreLeaves s t c u a.toNat (sramAddr s c a) (bytesOf n new) y :=
      storeBytes_leaves (correctErrors_wf _ _ _ (fetched_wf c hwf)) (fun b => by rw [readByte_corrected, readByte_fetched])
        (corrected_frame s c _ n) (advance_steps_pos (Nat.succ_pos _))
    obtain ⟨hcontext, hjournal, hframe, hinside, houtside⟩ := hleaves
    rw [bytesOf_length] at hjournal houtside
    refine ⟨atomic_completes h h8 hok hclean hr, hcontext, hjournal, hframe,
      fun i hi => (hinside i (by rwa [bytesOf_length])).trans (bytesOf_getElem _ _ _ _), houtside⟩

/-! ### Table jumps (R82) -/

theorem jt_cost (m : Bool) (f : FmtT) (hcount : f.count ≠ 0) (hlo : f.lo = 0) :
    (readWord m (encT f)).map (·.cost) = some 4 := by
  obtain ⟨hop, hwcount, hwlo, _⟩ := encT_fields f
  simp only [readWord, hop, hwcount, hwlo]
  refine legalIf_cost _ _ ?_
  rw [bne, toNat_beq_zero, toNat_beq_zero]
  simpa using ⟨hcount, hlo⟩

theorem loop_cost (m : Bool) (f : FmtL) (hbound : f.bound ≠ 0) (hlen : f.len ≠ 0) :
    (readWord m (encL f)).map (·.cost) = some 1 := by
  obtain ⟨hop, hwbound, hwlen, _⟩ := encL_fields f
  simp only [readWord, hop, hwbound, hwlen]
  refine legalIf_cost _ _ ?_
  rw [bne, bne, toNat_beq_zero, toNat_beq_zero]
  simpa using ⟨hbound, hlen⟩

theorem afterJump_steps (x : Ctx) (t : BitVec 32) : (afterJump x t).steps = x.steps := by
  unfold afterJump
  split
  · split <;> rfl
  · rfl

/-- The instruction sets the pc in the state `t`. -/
theorem runInsn_jumps {s t : State} {k c cost : Nat} {w : BitVec 32} {act : Env → State → Ctx → Did} {y : Ctx} {pc : BitVec 32}
    (h : Issues s k c cost) (hw : (readWord (isMgmt k) w).map (·.cost) = some cost)
    (ha : act (issuing s k c w cost) (fetched s c) (contextAt s c) = .goto t y pc) :
    runInsn k w act s = putCtx t c { y with pc, steps := y.steps + cost } := by
  rw [runInsn_issues act h hw, ha]; rfl

theorem signed_ofNat (n v : Nat) (hn : 0 < n) : signed n v = (BitVec.ofNat n v).toInt := by
  rw [← signed_toInt _ hn, BitVec.toNat_ofNat]; simp only [signed, Nat.mod_mod]

/-- R82: the target of a table jump: the first word after the table, plus the entry. -/
theorem pcPlus_table (pc : BitVec 32) (count : BitVec 12) (d : Int) :
    pcPlus pc (4 + 4 * count.toNat + d) = pc + 4 + count.setWidth 32 * 4 + BitVec.ofInt 32 d := by
  have hcount : BitVec.ofInt 32 (4 * (count.toNat : Int)) = count.setWidth 32 * 4 := by
    rw [BitVec.ofInt_mul, BitVec.ofInt_natCast, BitVec.ofNat_toNat, mul_comm]; rfl
  rw [pcPlus, BitVec.ofInt_add, BitVec.ofInt_add, BitVec.ofInt_add, BitVec.ofInt_natCast, BitVec.ofNat_toNat, BitVec.setWidth_eq,
    hcount, ← add_assoc, ← add_assoc]
  rfl

/-- A table jump whose entry is readable and leads to a permitted target goes there. -/
theorem tableJump_goto {f : FmtT} {e : Env} {s : State} {x : Ctx} {d : Int} {t : BitVec 32}
    (hd : d = signed 32 (loadNat s e.u (x.pc.toNat + 4 + 4 * tableIndex f x) 4)) (ht : t = pcPlus x.pc (4 + 4 * f.count.toNat + d))
    (hwin : windowAllows e.u .fetch (x.pc.toNat + 4 + 4 * tableIndex f x) 4 = true)
    (hclean : uncorrectableIn s (e.u.winBase + (x.pc.toNat + 4 + 4 * tableIndex f x)) 4 = none)
    (hmul : d % 4 = 0) (hfwd : 32 ≤ e.k ∨ 0 ≤ d) (hloop : LoopPermits x t) :
    tableJump f e s x = .goto (correctErrors s (e.u.winBase + (x.pc.toNat + 4 + 4 * tableIndex f x)) 4) (afterJump x t) t := by
  have hback : ¬ (!isMgmt e.k && decide (d < 0)) = true := by simp [isMgmt]; omega
  simp only [tableJump, hwin, hclean, ← hd, ← ht, (loopAllows_iff _ _).2 hloop, leaveLoop_eq_afterJump, if_neg hback, hmul]
  rfl

/-! ### Loops (R83) -/

theorem openLoop_empty {f : FmtL} {s : State} {x : Ctx} (hn : (if f.rs = 0 then f.bound.toNat else min (rget x f.rs).toNat f.bound.toNat) = 0) :
    openLoop f s x = .goto s x (x.pc + f.len.setWidth 32 * 4 + 4) := by
  simp only [openLoop, hn, if_true, mul_comm]

theorem openLoop_pushes {f : FmtL} {s : State} {x : Ctx} {n : Nat}
    (hn : n = if f.rs = 0 then f.bound.toNat else min (rget x f.rs).toNat f.bound.toNat) (h0 : n ≠ 0) (hroom : x.loops.length < 4)
    (hinner : ∀ l, currentLoop x = some l → (x.pc + f.len.setWidth 32 * 4).toNat < l.last.toNat) :
    openLoop f s x = .goto s { x with loops := { start := x.pc + 4, last := x.pc + f.len.setWidth 32 * 4, left := n } :: x.loops }
      (x.pc + 4) := by
  have hfull : ¬ 4 ≤ x.loops.length := by omega
  cases hl : currentLoop x with
  | none => simp only [openLoop, ← hn, if_neg h0, if_neg hfull, mul_comm (4 : BitVec 32), hl, Bool.false_eq_true, if_false]
  | some l =>
    have hin : ¬ l.last.toNat ≤ (x.pc + f.len.setWidth 32 * 4).toNat := not_le.2 (hinner l hl)
    simp only [openLoop, ← hn, if_neg h0, if_neg hfull, mul_comm (4 : BitVec 32), hl, decide_eq_true_eq, if_neg hin]

theorem advance_repeats {x : Ctx} {l : LoopEntry} (hl : currentLoop x = some l) (hlast : l.last = x.pc) (hleft : 1 < l.left) :
    advance x = { x with pc := l.start, loops := { l with left := l.left - 1 } :: x.loops.tail, steps := x.steps + 1 } := by
  simp only [advance, hl, if_pos hlast, if_pos hleft]

theorem advance_leaves {x : Ctx} {l : LoopEntry} (hl : currentLoop x = some l) (hlast : l.last = x.pc) (hleft : l.left ≤ 1) :
    advance x = { x with pc := x.pc + 4, loops := x.loops.tail, steps := x.steps + 1 } := by
  simp only [advance, hl, hlast, if_true, if_neg (show ¬ 1 < l.left by omega)]

theorem advance_moves_on {x : Ctx} (h : ∀ l, currentLoop x = some l → l.last ≠ x.pc) : advance x = { x with pc := x.pc + 4 } := by
  cases hl : currentLoop x with
  | none => simp only [advance, hl]
  | some l => simp only [advance, hl, if_neg (h l hl)]

theorem jt_jumps {s t : State} {k c : Nat} {f : FmtT} {y : Ctx} {pc : BitVec 32} (h : Issues s k c 4) (hcount : f.count ≠ 0)
    (hlo : f.lo = 0) (ha : tableJump f (issuing s k c (encT f) 4) (fetched s c) (contextAt s c) = .goto t y pc) :
    exec (.jt k f) s = .next (putCtx t c { y with pc, steps := y.steps + 4 }) :=
  congrArg _ (runInsn_jumps (act := tableJump f) h (jt_cost _ f hcount hlo) ha)

theorem loop_jumps {s : State} {k c : Nat} {f : FmtL} {y : Ctx} {pc : BitVec 32} (h : Issues s k c 1) (hbound : f.bound ≠ 0)
    (hlen : f.len ≠ 0) (ha : openLoop f (fetched s c) (contextAt s c) = .goto (fetched s c) y pc) :
    exec (.loopN k f) s = .next (jumped s c 1 y pc) :=
  congrArg _ (runInsn_goto (act := fun _ s x => openLoop f s x) h (loop_cost _ f hbound hlen) ha)

/-- Settles O12: the table jump, the loop's opening, and what follows an instruction at a body's end. -/
theorem tableJumpsAndLoops : Obligations.TableJumpsAndLoops := by
  refine ⟨⟨fun s k c f h hcount hlo => ?_, fun s k c f h hbound hlen => ?_⟩, fun x => ⟨?_, ?_, ?_⟩⟩
  · intro x a d t hwin hclean hmul hfwd hloop
    have hd : d = signed 32 (loadNat (fetched s c) (suiteAt s (ctxSuite c)) a 4) := by
      rw [signed_ofNat _ _ (by decide), loadNat, fetched, readBytes_corrected]; rfl
    have ht : t = pcPlus x.pc (4 + 4 * f.count.toNat + d) := (pcPlus_table _ _ _).symm
    rw [jt_jumps h hcount hlo (tableJump_goto hd ht hwin hclean hmul hfwd hloop), afterJump_steps]
    rfl
  · exact ⟨fun hn => loop_jumps h hbound hlen (openLoop_empty hn),
      fun h0 hroom hinner => loop_jumps h hbound hlen (openLoop_pushes rfl h0 hroom hinner)⟩
  · exact fun _ => advance_repeats
  · exact fun _ => advance_leaves
  · exact advance_moves_on

end Sys2Proof.Proofs
end

section
/-! Proofs of the statements of spec/03 on floating point: the rounding (R58, R73, R74). -/

namespace Sys2Proof.Proofs
open Sys2Proof Sys2Proof.Machine

/-! ### The rounded magnitude (R58) -/

/-- A mode that rounds the magnitude away from zero: toward plus infinity above zero, toward minus infinity below. -/
def RoundsAway (rm : BitVec 2) (neg : Bool) : Prop := rm = 1 ∧ neg = false ∨ rm = 2 ∧ neg = true

/-- What the integer `k` is for the exact magnitude `u`: `u` rounded in a mode; a tie in mode 0 gives an even one. -/
structure RoundedMagnitude (rm : BitVec 2) (neg : Bool) (u : ℚ) (k : ℕ) : Prop where
  below : u < k + 1
  above : (k : ℚ) < u + 1
  nearest : rm = 0 → 2 * |(k : ℚ) - u| ≤ 1
  tie : rm = 0 → 2 * |(k : ℚ) - u| = 1 → k % 2 = 0
  away : RoundsAway rm neg → u ≤ k
  toward : rm ≠ 0 → ¬ RoundsAway rm neg → (k : ℚ) ≤ u

/-- A magnitude that is an integer is its own rounding. -/
theorem roundedMagnitude_self (rm : BitVec 2) (neg : Bool) (k : ℕ) : RoundedMagnitude rm neg k k := by
  refine ⟨by linarith, by linarith, fun _ => by simp, fun _ h => ?_, fun _ => le_rfl, fun _ _ => le_rfl⟩
  simp at h

/-- The two neighbours of a magnitude with a remainder `r` of `2^(n+1)`, and the choice that a mode makes between them. -/
theorem roundedMagnitude_of_remainder (rm : BitVec 2) (neg : Bool) (k r n : ℕ) (hr : r < 2 ^ (n + 1)) :
    RoundedMagnitude rm neg (k + r / 2 ^ (n + 1)) (k + if roundsUp rm neg (k % 2 == 1) r (2 ^ n) then 1 else 0) := by
  have hpos : (0 : ℚ) < 2 ^ (n + 1) := by positivity
  set f : ℚ := r / 2 ^ (n + 1) with hf
  have hf0 : 0 ≤ f := by positivity
  have hf1 : f < 1 := by rw [hf, div_lt_one hpos]; exact_mod_cast hr
  have hhalf : 2 * f = r / 2 ^ n := by rw [hf, pow_succ]; field_simp
  have hpn : (0 : ℚ) < 2 ^ n := by positivity
  by_cases hup : roundsUp rm neg (k % 2 == 1) r (2 ^ n) = true
  · rw [if_pos hup]
    have hr0 : 0 < r := by
      unfold roundsUp at hup
      split at hup
      · have := Nat.two_pow_pos n; simp at hup; omega
      · split at hup
        · simp at hup; omega
        · split at hup
          · simp at hup; omega
          · simp at hup
    have hfpos : 0 < f := by rw [hf]; positivity
    have habs : |((k + 1 : ℕ) : ℚ) - (k + f)| = 1 - f := by push_cast; rw [abs_of_pos (by linarith)]; ring
    refine ⟨by push_cast; linarith, by push_cast; linarith, fun h0 => ?_, fun h0 ht => ?_, fun _ => by push_cast; linarith, fun h0 ha => ?_⟩
    · have hle : 2 ^ n ≤ r := by simp [roundsUp, h0] at hup; omega
      have : (1 : ℚ) ≤ 2 * f := by rw [hhalf, one_le_div hpn]; exact_mod_cast hle
      rw [habs]; linarith
    · rw [habs] at ht
      have hone : (r : ℚ) / 2 ^ n = 1 := by rw [← hhalf]; linarith
      have heq : r = 2 ^ n := by rw [div_eq_one_iff_eq hpn.ne'] at hone; exact_mod_cast hone
      simp [roundsUp, h0, heq] at hup
      omega
    · exfalso
      simp only [RoundsAway] at ha
      simp only [roundsUp, if_neg h0] at hup
      split at hup
      · simp_all
      · split at hup <;> simp_all
  · rw [if_neg hup, add_zero]
    have habs : |(k : ℚ) - (k + f)| = f := by rw [abs_of_nonpos (by linarith)]; ring
    refine ⟨by linarith, by linarith, fun h0 => ?_, fun h0 ht => ?_, fun ha => ?_, fun _ _ => by linarith⟩
    · have hle : r ≤ 2 ^ n := by simp [roundsUp, h0] at hup; omega
      have : 2 * f ≤ 1 := by rw [hhalf, div_le_one hpn]; exact_mod_cast hle
      rw [habs]; linarith
    · rw [habs] at ht
      have hone : (r : ℚ) / 2 ^ n = 1 := by rw [← hhalf]; linarith
      have heq : r = 2 ^ n := by rw [div_eq_one_iff_eq hpn.ne'] at hone; exact_mod_cast hone
      simp [roundsUp, h0, heq] at hup
      omega
    · have hr0 : r = 0 := by
        rcases ha with ⟨h1, hn⟩ | ⟨h2, hn⟩
        · simpa [roundsUp, h1, hn] using hup
        · simpa [roundsUp, h2, hn] using hup
      rw [hf, hr0]; simp

/-- Scaling to a quantum at or below the exponent is exact. -/
theorem roundAt_of_le {rm : BitVec 2} {neg : Bool} {m : ℕ} {e q : ℤ} (h : q ≤ e) :
    roundAt rm neg m e q = (m * 2 ^ (e - q).toNat, false) ∧ ((m * 2 ^ (e - q).toNat : ℕ) : ℚ) = (m : ℚ) * 2 ^ (e - q) := by
  refine ⟨by simp [roundAt, h], ?_⟩
  have hz : ((e - q).toNat : ℤ) = e - q := Int.toNat_of_nonneg (by omega)
  push_cast
  rw [← zpow_natCast, hz]

/-- Above the exponent, what is discarded is a remainder of a power of two. -/
theorem magnitude_div (m n : ℕ) : (m : ℚ) * 2 ^ (-(n : ℤ)) = (m / 2 ^ n : ℕ) + ((m % 2 ^ n : ℕ) : ℚ) / 2 ^ n := by
  have hm : (m : ℚ) = 2 ^ n * (m / 2 ^ n : ℕ) + (m % 2 ^ n : ℕ) := by exact_mod_cast (Nat.div_add_mod m (2 ^ n)).symm
  rw [zpow_neg, zpow_natCast]
  field_simp
  linarith

/-- `roundAt` rounds the magnitude, and says whether it is inexact. -/
theorem roundAt_rounds (rm : BitVec 2) (neg : Bool) (m : ℕ) (e q : ℤ) :
    RoundedMagnitude rm neg ((m : ℚ) * 2 ^ (e - q)) (roundAt rm neg m e q).1 ∧
    ((roundAt rm neg m e q).2 = true ↔ ((roundAt rm neg m e q).1 : ℚ) ≠ (m : ℚ) * 2 ^ (e - q)) := by
  by_cases hq : q ≤ e
  · obtain ⟨hr, hv⟩ := roundAt_of_le (rm := rm) (neg := neg) (m := m) hq
    rw [hr, ← hv]
    exact ⟨roundedMagnitude_self rm neg _, by simp⟩
  obtain ⟨n, hn⟩ : ∃ n : ℕ, q - e = (n + 1 : ℕ) := ⟨(q - e - 1).toNat, by push_cast; omega⟩
  have hneg : e - q = -((n + 1 : ℕ) : ℤ) := by omega
  have hr : m % 2 ^ (n + 1) < 2 ^ (n + 1) := Nat.mod_lt _ (by positivity)
  rw [hneg, magnitude_div]
  have hround := roundedMagnitude_of_remainder rm neg (m / 2 ^ (n + 1)) _ n hr
  simp only [roundAt, if_neg hq, hn, Int.toNat_natCast, Nat.add_sub_cancel]
  refine ⟨hround, ?_⟩
  have hpos : (0 : ℚ) < 2 ^ (n + 1) := by positivity
  have hlt : ((m % 2 ^ (n + 1) : ℕ) : ℚ) / 2 ^ (n + 1) < 1 := by rw [div_lt_one hpos]; exact_mod_cast hr
  by_cases hz : m % 2 ^ (n + 1) = 0
  · have := Nat.two_pow_pos n
    simp [hz, roundsUp]
    omega
  · have hfpos : (0 : ℚ) < ((m % 2 ^ (n + 1) : ℕ) : ℚ) / 2 ^ (n + 1) := by
      have : 0 < m % 2 ^ (n + 1) := Nat.pos_of_ne_zero hz
      positivity
    simp only [bne_iff_ne, ne_eq, hz, not_false_eq_true, true_iff]
    split
    · push_cast at hlt ⊢; linarith
    · push_cast at hfpos ⊢; linarith

/-! ### Among the numbers of a grid (R73)

In units of the quantum a number of the format is an integer, or it lies below the binade of the rounded magnitude. -/

/-- A number of the format in units of the quantum of the magnitude `u`, whose binade starts at `b`. -/
def OnGrid (b : ℕ) (u y : ℚ) : Prop := (∃ j : ℤ, y = j) ∨ |y| < b ∧ (b : ℚ) ≤ u

theorem OnGrid.neg {b : ℕ} {u y : ℚ} (h : OnGrid b u y) : OnGrid b u (-y) := by
  rcases h with ⟨j, rfl⟩ | h
  · exact .inl ⟨-j, by push_cast; ring⟩
  · exact .inr (by simpa using h)

variable {rm : BitVec 2} {neg : Bool} {u y : ℚ} {k b : ℕ}

/-- In mode 0 no integer is closer than the rounded one. -/
theorem RoundedMagnitude.nearest_int (h : RoundedMagnitude rm neg u k) (h0 : rm = 0) (j : ℤ) :
    |(k : ℚ) - u| ≤ |(j : ℚ) - u| ∧ ((j : ℚ) ≠ k → |(j : ℚ) - u| = |(k : ℚ) - u| → k % 2 = 0) := by
  have hn := h.nearest h0
  by_cases hj : j = k
  · subst hj; simp
  have hone : (1 : ℚ) ≤ |(j : ℚ) - k| := by
    have : 1 ≤ |j - (k : ℤ)| := Int.one_le_abs (sub_ne_zero.mpr hj)
    exact_mod_cast this
  have htri : |(j : ℚ) - k| ≤ |(j : ℚ) - u| + |(k : ℚ) - u| := by
    rw [abs_sub_comm (k : ℚ) u]; exact abs_sub_le _ _ _
  exact ⟨by linarith, fun _ he => h.tie h0 (by linarith)⟩

/-- In mode 0 no number of the grid is closer than the rounded one. -/
theorem RoundedMagnitude.nearest_grid (h : RoundedMagnitude rm neg u k) (h0 : rm = 0) (hy : OnGrid b u y) :
    |(k : ℚ) - u| ≤ |y - u| ∧ (y ≠ k → |y - u| = |(k : ℚ) - u| → k % 2 = 0) := by
  rcases hy with ⟨j, rfl⟩ | ⟨hlt, hb⟩
  · exact h.nearest_int h0 j
  have hk := (h.nearest_int h0 b).1
  have hy := (abs_lt.mp hlt).2
  rw [Int.cast_natCast, abs_of_nonpos (by linarith : (b : ℚ) - u ≤ 0)] at hk
  rw [abs_of_neg (by linarith : y - u < 0)]
  exact ⟨by linarith, fun _ he => absurd he (by intro he; linarith)⟩

/-- Away from zero, no number of the grid lies between the magnitude and the rounded one. -/
theorem RoundedMagnitude.away_grid (h : RoundedMagnitude rm neg u k) (hy : OnGrid b u y) (hu : u ≤ y) : (k : ℚ) ≤ y := by
  rcases hy with ⟨j, rfl⟩ | ⟨hlt, hb⟩
  · have : (k : ℚ) < j + 1 := by linarith [h.above]
    have : (k : ℤ) < j + 1 := by exact_mod_cast this
    exact_mod_cast Int.lt_add_one_iff.mp this
  · linarith [(abs_lt.mp hlt).2]

/-- Toward zero, no number of the grid lies between the rounded one and the magnitude. -/
theorem RoundedMagnitude.toward_grid (h : RoundedMagnitude rm neg u k) (hy : OnGrid b u y) (hu : y ≤ u) : y ≤ k := by
  rcases hy with ⟨j, rfl⟩ | ⟨hlt, hb⟩
  · have : (j : ℚ) < k + 1 := by linarith [h.below]
    have : j < (k : ℤ) + 1 := by exact_mod_cast this
    exact_mod_cast Int.lt_add_one_iff.mp this
  · have : (b : ℚ) < k + 1 := by linarith [h.below]
    have : b < k + 1 := by exact_mod_cast this
    have : (b : ℚ) ≤ k := by exact_mod_cast Nat.lt_add_one_iff.mp this
    linarith [(abs_lt.mp hlt).2]

/-- A magnitude with a sign. -/
def withSign (neg : Bool) (u : ℚ) : ℚ := if neg then -u else u

theorem exactValue_eq (neg : Bool) (m : ℕ) (e : ℤ) : exactValue neg m e = withSign neg ((m : ℚ) * 2 ^ e) := rfl

theorem abs_withSign {neg : Bool} {u : ℚ} (h : 0 ≤ u) : |withSign neg u| = u := by
  cases neg <;> simp [withSign, abs_of_nonneg h]

theorem withSign_mul (neg : Bool) (u q : ℚ) : withSign neg (u * q) = withSign neg u * q := by
  cases neg <;> simp [withSign]

theorem withSign_inj (neg : Bool) {u v : ℚ} : withSign neg u = withSign neg v ↔ u = v := by
  cases neg <;> simp [withSign]

/-- The distance of a signed value is the distance of magnitudes, one of them with the sign turned. -/
theorem abs_sub_withSign (neg : Bool) (y u : ℚ) : |y - withSign neg u| = |withSign neg y - u| := by
  cases neg with
  | false => rfl
  | true =>
    simp only [withSign, if_true]
    rw [← abs_neg]
    congr 1
    ring

theorem withSign_withSign (neg : Bool) (u : ℚ) : withSign neg (withSign neg u) = u := by
  cases neg <;> simp [withSign]

theorem OnGrid.withSign {neg : Bool} (h : OnGrid b u y) : OnGrid b u (withSign neg y) := by
  cases neg with
  | false => exact h
  | true => exact h.neg

/-- A rounded magnitude is the value rounded among the numbers of a format that lie on its grid. -/
theorem RoundedMagnitude.roundedTo {t : FFmt} {c : ℚ} (hc : 0 < c) (hu : 0 ≤ u)
    (hgrid : ∀ y, Represents t y → ∃ y', OnGrid b u y' ∧ y = y' * c) (h : RoundedMagnitude rm neg u k) :
    RoundedTo t rm (withSign neg (u * c)) (withSign neg (k * c)) := by
  have hk : (0 : ℚ) ≤ k := by positivity
  unfold RoundedTo
  split
  case isTrue h0 =>
    intro y hy
    obtain ⟨y', hy', rfl⟩ := hgrid y hy
    rw [abs_sub_withSign, abs_sub_withSign, withSign_withSign, withSign_mul, ← sub_mul, ← sub_mul, abs_mul, abs_mul]
    exact mul_le_mul_of_nonneg_right (h.nearest_grid h0 hy'.withSign).1 (abs_nonneg c)
  case isFalse h0 =>
  have haway (ha : RoundsAway rm neg) := h.away ha
  have htoward (ha : ¬ RoundsAway rm neg) := h.toward h0 ha
  have hmono {x z : ℚ} (hxz : x ≤ z) : x * c ≤ z * c := mul_le_mul_of_nonneg_right hxz hc.le
  have hcancel {x z : ℚ} (hxz : x * c ≤ z * c) : x ≤ z := le_of_mul_le_mul_right hxz hc
  split
  case isTrue h1 =>
    cases neg with
    | false =>
      refine ⟨hmono (haway (.inl ⟨h1, rfl⟩)), fun y hy hle => ?_⟩
      obtain ⟨y', hy', rfl⟩ := hgrid y hy
      exact hmono (h.away_grid hy' (hcancel hle))
    | true =>
      have ht := htoward (by simp [RoundsAway, h1])
      refine ⟨neg_le_neg (hmono ht), fun y hy hle => ?_⟩
      obtain ⟨y', hy', rfl⟩ := hgrid y hy
      have hle' : -y' ≤ u := hcancel (by simp only [withSign, if_true] at hle; linarith)
      have := hmono (h.toward_grid hy'.neg hle')
      simp only [withSign, if_true]; linarith
  case isFalse h1 =>
  split
  case isTrue h2 =>
    cases neg with
    | false =>
      have ht := htoward (by simp [RoundsAway, h2])
      refine ⟨hmono ht, fun y hy hle => ?_⟩
      obtain ⟨y', hy', rfl⟩ := hgrid y hy
      exact hmono (h.toward_grid hy' (hcancel hle))
    | true =>
      refine ⟨neg_le_neg (hmono (haway (.inr ⟨h2, rfl⟩))), fun y hy hle => ?_⟩
      obtain ⟨y', hy', rfl⟩ := hgrid y hy
      have hle' : u ≤ -y' := hcancel (by simp only [withSign, if_true] at hle; linarith)
      have := hmono (h.away_grid hy'.neg hle')
      simp only [withSign, if_true]; linarith
  case isFalse h2 =>
    rw [abs_withSign (by positivity), abs_withSign (by positivity)]
    refine ⟨hmono (htoward (fun ha => ha.elim (fun h => h1 h.1) (fun h => h2 h.1))), fun y hy _ hle => ?_⟩
    obtain ⟨y', hy', rfl⟩ := hgrid y hy
    rw [abs_mul, abs_of_pos hc] at hle ⊢
    have habs : OnGrid b u |y'| := by
      rcases abs_choice y' with he | he <;> rw [he]
      exacts [hy', hy'.neg]
    exact hmono (h.toward_grid habs (hcancel hle))

/-- In mode 0 a tie between two numbers of the format is rounded to an even magnitude. -/
theorem RoundedMagnitude.tie_even {c : ℚ} (hc : 0 < c) (h : RoundedMagnitude rm neg u k) (h0 : rm = 0) (hy : OnGrid b u y)
    (hne : y * c ≠ withSign neg (k * c)) (htie : |y * c - withSign neg (u * c)| = |withSign neg (k * c) - withSign neg (u * c)|) :
    k % 2 = 0 := by
  refine (h.nearest_grid h0 (hy.withSign (neg := neg))).2 (fun he => hne ?_) ?_
  · rw [withSign_mul, ← he, withSign_withSign]
  · rw [abs_sub_withSign, abs_sub_withSign, withSign_withSign, withSign_mul, ← sub_mul, ← sub_mul, abs_mul, abs_mul] at htie
    exact mul_right_cancel₀ (abs_pos.mpr hc.ne').ne' htie

/-! ### The formats -/

/-- What the two formats have in common. -/
structure FormatFacts (t : FFmt) : Prop where
  signBit : t.signBit = (t.expMax + 1) * 2 ^ t.frac
  expMax : t.expMax = 2 * t.bias + 1
  frac : 1 ≤ t.frac
  bias : 1 ≤ t.bias

theorem formatFacts {t : FFmt} (ht : t ∈ [fmt32, fmt64]) : FormatFacts t := by
  simp only [List.mem_cons, List.not_mem_nil, or_false] at ht
  rcases ht with rfl | rfl
  · exact ⟨by decide, rfl, by decide, by decide⟩
  · exact ⟨by decide, rfl, by decide, by decide⟩

variable {t : FFmt}

/-- The fields of the bits of a sign, an exponent field and a fraction. -/
theorem unpackF_fields (ht : FormatFacts t) (neg : Bool) {ef fr : ℕ} (hef : ef < t.expMax) (hfr : fr < 2 ^ t.frac) :
    unpackF t (signBits t neg + (ef * 2 ^ t.frac + fr)) =
      if ef = 0 then .fin neg fr (1 - (t.bias : ℤ) - t.frac) else .fin neg (fr + 2 ^ t.frac) ((ef : ℤ) - t.bias - t.frac) := by
  have hp : 0 < 2 ^ t.frac := by positivity
  obtain ⟨g, hg, hs⟩ : ∃ g : ℕ, (g = if neg then 1 else 0) ∧ signBits t neg = g * ((t.expMax + 1) * 2 ^ t.frac) :=
    ⟨_, rfl, by cases neg <;> simp [signBits, ht.signBit]⟩
  have hlow : ef * 2 ^ t.frac + fr < (t.expMax + 1) * 2 ^ t.frac := by nlinarith
  have hsum : signBits t neg + (ef * 2 ^ t.frac + fr) = fr + (g * (t.expMax + 1) + ef) * 2 ^ t.frac := by rw [hs]; ring
  have hneg : (signBits t neg + (ef * 2 ^ t.frac + fr)) / t.signBit % 2 = if neg then 1 else 0 := by
    rw [hs, ht.signBit, add_comm, Nat.add_mul_div_right _ _ (by positivity), Nat.div_eq_of_lt hlow, hg]
    cases neg <;> rfl
  have hfrac : (signBits t neg + (ef * 2 ^ t.frac + fr)) % 2 ^ t.frac = fr := by
    rw [hsum, Nat.add_mul_mod_self_right, Nat.mod_eq_of_lt hfr]
  have hexp : (signBits t neg + (ef * 2 ^ t.frac + fr)) / 2 ^ t.frac % (t.expMax + 1) = ef := by
    rw [hsum, Nat.add_mul_div_right _ _ hp, Nat.div_eq_of_lt hfr, zero_add, add_comm, Nat.add_mul_mod_self_right,
      Nat.mod_eq_of_lt (by omega)]
  unfold unpackF
  simp only [hneg, hfrac, hexp, hef.ne, if_false]
  cases neg <;> rfl

/-- The bits that `roundF` makes of a significand read back as it. -/
theorem unpackF_significand (ht : FormatFacts t) (neg : Bool) {mant : ℕ} {ex : ℤ} (hlo : 1 - (t.bias : ℤ) ≤ ex) (hhi : ex ≤ t.bias)
    (hmant : mant < 2 ^ (t.frac + 1)) (hsub : mant < 2 ^ t.frac → ex = 1 - (t.bias : ℤ)) :
    let bits := if mant < 2 ^ t.frac then mant else (ex + t.bias).toNat * 2 ^ t.frac + (mant - 2 ^ t.frac)
    unpackF t (signBits t neg + bits) = .fin neg mant (ex - t.frac) ∧ (signBits t neg + bits) % 2 = mant % 2 := by
  have hexp := ht.expMax
  have hbias := ht.bias
  have heven : 2 ∣ 2 ^ t.frac := dvd_pow_self 2 (by have := ht.frac; omega)
  have hsign : 2 ∣ signBits t neg := by
    cases neg
    · simp [signBits]
    · simpa [signBits, ht.signBit] using heven.mul_left _
  by_cases hm : mant < 2 ^ t.frac
  · simp only [if_pos hm]
    have h := unpackF_fields ht neg (ef := 0) (by omega) hm
    rw [if_pos rfl, zero_mul, zero_add] at h
    rw [h, hsub hm]
    exact ⟨rfl, by omega⟩
  · simp only [if_neg hm]
    obtain ⟨n, hn⟩ : ∃ n : ℕ, ex + t.bias = n := ⟨(ex + t.bias).toNat, by omega⟩
    have h := unpackF_fields ht neg (ef := n) (fr := mant - 2 ^ t.frac) (by omega) (by rw [pow_succ] at hmant; omega)
    rw [if_neg (by omega)] at h
    rw [hn, Int.toNat_natCast, h]
    have : 2 ∣ n * 2 ^ t.frac := heven.mul_left n
    refine ⟨?_, by omega⟩
    congr 1 <;> omega

/-! ### The rounding of a format (R73, R74) -/

/-- The exponent of the leading bit of an exact value. -/
def leadExp (m : ℕ) (e : ℤ) : ℤ := m.log2 + e

/-- The exponent of the quantum at which a value is rounded. -/
def quantum (t : FFmt) (m : ℕ) (e : ℤ) : ℤ := (if leadExp m e < 1 - (t.bias : ℤ) then 1 - (t.bias : ℤ) else leadExp m e) - t.frac

/-- The exponent of the rounded value's significand, after a carry out of it. -/
def roundedExp (t : FFmt) (m : ℕ) (e : ℤ) (k : ℕ) : ℤ := (if k = 2 ^ (t.frac + 1) then quantum t m e + 1 else quantum t m e) + t.frac

/-- The integer that a value rounds to in units of its quantum, and whether it is inexact. -/
def rounded (t : FFmt) (rm : BitVec 2) (neg : Bool) (m : ℕ) (e : ℤ) : ℕ × Bool := roundAt rm neg m e (quantum t m e)

/-- The significand of the result: a carry moves it to the next binade. -/
def significand (t : FFmt) (k : ℕ) : ℕ := if k = 2 ^ (t.frac + 1) then 2 ^ t.frac else k

/-- The rounded result of a nonzero value, in its named parts. -/
theorem roundF_eq (t : FFmt) (rm : BitVec 2) (neg : Bool) {m : ℕ} (e : ℤ) (hm : m ≠ 0) :
    let r := rounded t rm neg m e
    roundF t rm neg m e = if (t.bias : ℤ) < roundedExp t m e r.1 then
      (if rm = 0 || (rm = 1 && !neg) || (rm = 2 && neg) then infBits t neg else maxBits t neg, condFO ||| condFX)
    else (signBits t neg + (if significand t r.1 < 2 ^ t.frac then significand t r.1 else
        (roundedExp t m e r.1 + t.bias).toNat * 2 ^ t.frac + (significand t r.1 - 2 ^ t.frac)),
      condIf r.2 condFX ||| condIf (leadExp m e < 1 - (t.bias : ℤ) && r.2) condFU) := by
  unfold roundF
  rw [if_neg hm]
  rfl

/-- The magnitude lies in the binade of its leading bit. -/
theorem leadExp_bounds {m : ℕ} (e : ℤ) (hm : m ≠ 0) :
    (2 : ℚ) ^ leadExp m e ≤ m * 2 ^ e ∧ (m : ℚ) * 2 ^ e < 2 ^ (leadExp m e + 1) := by
  have hlo : (2 : ℚ) ^ (m.log2 : ℤ) ≤ m := by rw [zpow_natCast]; exact_mod_cast Nat.log2_self_le hm
  have hhi : (m : ℚ) < 2 ^ ((m.log2 : ℤ) + 1) := by
    have := Nat.lt_log2_self (n := m)
    exact_mod_cast this
  have h2 : (2 : ℚ) ≠ 0 := two_ne_zero
  have hp : (0 : ℚ) < 2 ^ e := by positivity
  unfold leadExp
  rw [show (m.log2 : ℤ) + e + 1 = m.log2 + 1 + e by ring, zpow_add₀ h2, zpow_add₀ h2 (_ + 1)]
  exact ⟨mul_le_mul_of_nonneg_right hlo hp.le, mul_lt_mul_of_pos_right hhi hp⟩

/-- The quantum's binade is the value's own, or the lowest one. -/
theorem quantum_cases (t : FFmt) (m : ℕ) (e : ℤ) :
    quantum t m e + t.frac = leadExp m e ∧ 1 - (t.bias : ℤ) ≤ leadExp m e ∨
    quantum t m e + t.frac = 1 - (t.bias : ℤ) ∧ leadExp m e < 1 - (t.bias : ℤ) := by
  unfold quantum
  split <;> omega

/-- The magnitude in units of the quantum. -/
def scaled (t : FFmt) (m : ℕ) (e : ℤ) : ℚ := m * 2 ^ (e - quantum t m e)

theorem scaled_nonneg (t : FFmt) (m : ℕ) (e : ℤ) : 0 ≤ scaled t m e := by unfold scaled; positivity

theorem scaled_mul (t : FFmt) (m : ℕ) (e : ℤ) : scaled t m e * 2 ^ quantum t m e = m * 2 ^ e := by
  rw [scaled, mul_assoc, ← zpow_add₀ two_ne_zero, sub_add_cancel]

theorem abs_exactValue (t : FFmt) (neg : Bool) (m : ℕ) (e : ℤ) : |exactValue neg m e| = scaled t m e * 2 ^ quantum t m e := by
  rw [exactValue_eq, abs_withSign (by positivity), scaled_mul]

theorem scaled_lt (t : FFmt) {m : ℕ} (e : ℤ) (hm : m ≠ 0) : scaled t m e < 2 ^ (t.frac + 1) := by
  have hq : (0 : ℚ) < 2 ^ quantum t m e := by positivity
  refine lt_of_mul_lt_mul_right ?_ hq.le
  rw [scaled_mul, ← zpow_natCast, ← zpow_add₀ two_ne_zero]
  refine (leadExp_bounds e hm).2.trans_le (zpow_le_zpow_right₀ one_le_two ?_)
  have := quantum_cases t m e
  push_cast
  omega

/-- Outside the lowest binade the magnitude fills its significand. -/
theorem le_scaled (t : FFmt) {m : ℕ} (e : ℤ) (hm : m ≠ 0) (h : 1 - (t.bias : ℤ) ≤ leadExp m e) : (2 : ℚ) ^ t.frac ≤ scaled t m e := by
  have hq : (0 : ℚ) < 2 ^ quantum t m e := by positivity
  refine le_of_mul_le_mul_right ?_ hq
  rw [scaled_mul, ← zpow_natCast, ← zpow_add₀ two_ne_zero]
  refine le_trans (zpow_le_zpow_right₀ one_le_two ?_) (leadExp_bounds e hm).1
  have := quantum_cases t m e
  omega

/-- The numbers of a format lie on the grid of any value. -/
theorem represents_onGrid (t : FFmt) {m : ℕ} (e : ℤ) (hm : m ≠ 0) (y : ℚ) (hy : Represents t y) :
    ∃ y', OnGrid (2 ^ t.frac) (scaled t m e) y' ∧ y = y' * 2 ^ quantum t m e := by
  obtain ⟨mant, ex, hmant, hlo, -, hval⟩ := hy
  suffices h : ∃ y', OnGrid (2 ^ t.frac) (scaled t m e) y' ∧ (mant : ℚ) * 2 ^ ex = y' * 2 ^ quantum t m e by
    obtain ⟨y', hgrid, heq⟩ := h
    rcases hval with rfl | rfl
    · exact ⟨y', hgrid, heq⟩
    · exact ⟨-y', hgrid.neg, by rw [heq]; ring⟩
  refine ⟨mant * 2 ^ (ex - quantum t m e), ?_, by rw [mul_assoc, ← zpow_add₀ two_ne_zero, sub_add_cancel]⟩
  by_cases hex : quantum t m e ≤ ex
  · obtain ⟨n, hn⟩ : ∃ n : ℕ, ex - quantum t m e = n := ⟨(ex - quantum t m e).toNat, by omega⟩
    exact .inl ⟨mant * 2 ^ n, by rw [hn, zpow_natCast]; push_cast; rfl⟩
  · have hcases := quantum_cases t m e
    refine .inr ⟨?_, by push_cast; exact le_scaled t e hm (by omega)⟩
    rw [abs_of_nonneg (by positivity)]
    have hpow : (2 : ℚ) ^ (ex - quantum t m e) ≤ 2 ^ (-1 : ℤ) := zpow_le_zpow_right₀ one_le_two (by omega)
    have hmant' : (mant : ℚ) < 2 ^ (t.frac + 1) := by exact_mod_cast hmant
    calc (mant : ℚ) * 2 ^ (ex - quantum t m e) ≤ mant * 2 ^ (-1 : ℤ) := by gcongr
      _ < 2 ^ (t.frac + 1) * 2 ^ (-1 : ℤ) := by gcongr
      _ = ((2 ^ t.frac : ℕ) : ℚ) := by push_cast; rw [pow_succ, zpow_neg_one]; field_simp

theorem rounded_rounds (t : FFmt) (rm : BitVec 2) (neg : Bool) (m : ℕ) (e : ℤ) :
    RoundedMagnitude rm neg (scaled t m e) (rounded t rm neg m e).1 ∧
    ((rounded t rm neg m e).2 = true ↔ ((rounded t rm neg m e).1 : ℚ) ≠ scaled t m e) :=
  roundAt_rounds rm neg m e (quantum t m e)

theorem rounded_le (t : FFmt) (rm : BitVec 2) (neg : Bool) {m : ℕ} (e : ℤ) (hm : m ≠ 0) :
    (rounded t rm neg m e).1 ≤ 2 ^ (t.frac + 1) := by
  have habove := (rounded_rounds t rm neg m e).1.above
  have hlt := scaled_lt t e hm
  have : ((rounded t rm neg m e).1 : ℚ) < (2 ^ (t.frac + 1) : ℕ) + 1 := by push_cast; linarith
  exact_mod_cast Nat.lt_succ_iff.mp (by exact_mod_cast this)

/-- A significand that is not filled is of the lowest binade. -/
theorem lowest_of_rounded_lt {t : FFmt} {rm : BitVec 2} {neg : Bool} {m : ℕ} {e : ℤ} (hm : m ≠ 0)
    (h : (rounded t rm neg m e).1 < 2 ^ t.frac) : quantum t m e + t.frac = 1 - (t.bias : ℤ) := by
  rcases quantum_cases t m e with ⟨-, hnormal⟩ | ⟨hlow, -⟩
  · exfalso
    have hfill := le_scaled t e hm hnormal
    have hbelow := (rounded_rounds t rm neg m e).1.below
    have : ((2 ^ t.frac : ℕ) : ℚ) < (rounded t rm neg m e).1 + 1 := by push_cast; linarith
    have : 2 ^ t.frac < (rounded t rm neg m e).1 + 1 := by exact_mod_cast this
    omega
  · exact hlow

/-- The significand at its exponent is the rounded integer at the quantum. -/
theorem significand_mul (t : FFmt) (m : ℕ) (e : ℤ) (k : ℕ) :
    (significand t k : ℚ) * 2 ^ (roundedExp t m e k - t.frac) = k * 2 ^ quantum t m e := by
  unfold significand roundedExp
  split
  case isTrue h =>
    rw [h, add_sub_cancel_right, zpow_add_one₀ two_ne_zero, pow_succ]
    push_cast
    ring
  case isFalse => rw [add_sub_cancel_right]

theorem significand_lt {t : FFmt} {k : ℕ} (h : k ≤ 2 ^ (t.frac + 1)) : significand t k < 2 ^ (t.frac + 1) := by
  unfold significand
  have : 2 ^ t.frac < 2 ^ (t.frac + 1) := Nat.pow_lt_pow_right one_lt_two (Nat.lt_succ_self _)
  split <;> omega

theorem significand_even {t : FFmt} {k : ℕ} (ht : FormatFacts t) (h : k % 2 = 0) : significand t k % 2 = 0 := by
  unfold significand
  split
  · exact Nat.mod_eq_zero_of_dvd (dvd_pow_self 2 (by have := ht.frac; omega))
  · exact h

/-- Where no overflow is raised, what the result's bits and conditions are. -/
theorem roundF_finite (ht : FormatFacts t) (rm : BitVec 2) (neg : Bool) {m : ℕ} (e : ℤ) (hm : m ≠ 0)
    (hfit : roundedExp t m e (rounded t rm neg m e).1 ≤ t.bias) :
    unpackF t (roundF t rm neg m e).1 = .fin neg (significand t (rounded t rm neg m e).1)
      (roundedExp t m e (rounded t rm neg m e).1 - t.frac) ∧
    (roundF t rm neg m e).1 % 2 = significand t (rounded t rm neg m e).1 % 2 ∧
    (roundF t rm neg m e).2 = condIf (rounded t rm neg m e).2 condFX |||
      condIf (leadExp m e < 1 - (t.bias : ℤ) && (rounded t rm neg m e).2) condFU := by
  have heq := roundF_eq t rm neg e hm
  simp only at heq
  rw [if_neg (not_lt.mpr hfit)] at heq
  have hq := quantum_cases t m e
  have hsub : significand t (rounded t rm neg m e).1 < 2 ^ t.frac → roundedExp t m e (rounded t rm neg m e).1 = 1 - (t.bias : ℤ) := by
    intro hlt
    have hne : (rounded t rm neg m e).1 ≠ 2 ^ (t.frac + 1) := fun h => by simp [significand, h] at hlt
    rw [significand, if_neg hne] at hlt
    rw [roundedExp, if_neg hne]
    exact lowest_of_rounded_lt hm hlt
  have hlo : 1 - (t.bias : ℤ) ≤ roundedExp t m e (rounded t rm neg m e).1 := by unfold roundedExp; split <;> omega
  have hbits := unpackF_significand ht neg hlo hfit (significand_lt (rounded_le t rm neg e hm)) hsub
  exact ⟨(congrArg (fun p => unpackF t p.1) heq).trans hbits.1, (congrArg (fun p => p.1 % 2) heq).trans hbits.2,
    congrArg Prod.snd heq⟩

/-- Overflow is raised exactly where the rounded value's exponent is above the largest, and FX with it. -/
theorem roundF_overflow_iff (t : FFmt) (rm : BitVec 2) (neg : Bool) {m : ℕ} (e : ℤ) (hm : m ≠ 0) :
    ((roundF t rm neg m e).2.getLsbD 6 = true ↔ (t.bias : ℤ) < roundedExp t m e (rounded t rm neg m e).1) ∧
    ((t.bias : ℤ) < roundedExp t m e (rounded t rm neg m e).1 → (roundF t rm neg m e).2.getLsbD 8 = true) := by
  have heq := congrArg Prod.snd (roundF_eq t rm neg e hm)
  by_cases h : (t.bias : ℤ) < roundedExp t m e (rounded t rm neg m e).1
  · have h2 : (roundF t rm neg m e).2 = condFO ||| condFX := heq.trans (by rw [if_pos h])
    rw [h2]
    simp only [h, true_imp_iff, iff_true]
    decide
  · have h2 := heq.trans (by rw [if_neg h])
    simp only [h, false_imp_iff, iff_false, and_true]
    rw [h2]
    dsimp only
    generalize (decide (leadExp m e < 1 - (t.bias : ℤ))) = low
    generalize (rounded t rm neg m e).2 = inexact
    revert low inexact
    decide

/-- The conditions of a result without overflow. -/
theorem fits_conds (low inexact : Bool) :
    ((condIf inexact condFX ||| condIf (low && inexact) condFU).getLsbD 8 = true ↔ inexact = true) ∧
    ((condIf inexact condFX ||| condIf (low && inexact) condFU).getLsbD 7 = true ↔ inexact = true ∧ low = true) := by
  revert low inexact
  decide

/-- The magnitude lies below a power of two where its leading bit does. -/
theorem magnitude_lt_iff {m : ℕ} (e : ℤ) (hm : m ≠ 0) (n : ℤ) : (m : ℚ) * 2 ^ e < 2 ^ n ↔ leadExp m e < n := by
  obtain ⟨hlo, hhi⟩ := leadExp_bounds e hm
  constructor
  · intro h
    exact (zpow_lt_zpow_iff_right₀ one_lt_two).mp (hlo.trans_lt h)
  · intro h
    exact hhi.trans_le (zpow_le_zpow_right₀ one_le_two (by omega))

/-- Where no overflow is raised, the result is the value rounded in the mode, with FX and FU as they are defined. -/
theorem roundF_correct (ht : FormatFacts t) (rm : BitVec 2) (neg : Bool) {m : ℕ} (e : ℤ) (hm : m ≠ 0)
    (hfit : roundedExp t m e (rounded t rm neg m e).1 ≤ t.bias) :
    ∃ (m' : ℕ) (e' : ℤ), unpackF t (roundF t rm neg m e).1 = .fin neg m' e' ∧ Represents t (exactValue neg m' e') ∧
      RoundedTo t rm (exactValue neg m e) (exactValue neg m' e') ∧
      (rm = 0 → (∃ y, Represents t y ∧ y ≠ exactValue neg m' e' ∧
        |y - exactValue neg m e| = |exactValue neg m' e' - exactValue neg m e|) → (roundF t rm neg m e).1 % 2 = 0) ∧
      ((roundF t rm neg m e).2.getLsbD 8 = true ↔ exactValue neg m' e' ≠ exactValue neg m e) ∧
      ((roundF t rm neg m e).2.getLsbD 7 = true ↔
        exactValue neg m' e' ≠ exactValue neg m e ∧ |exactValue neg m e| < (2 : ℚ) ^ (1 - (t.bias : ℤ))) := by
  obtain ⟨hunpack, hparity, hconds⟩ := roundF_finite ht rm neg e hm hfit
  obtain ⟨hround, hinexact⟩ := rounded_rounds t rm neg m e
  have hc : (0 : ℚ) < 2 ^ quantum t m e := by positivity
  have hgrid := represents_onGrid t e hm
  have hv : exactValue neg m e = withSign neg (scaled t m e * 2 ^ quantum t m e) := by rw [scaled_mul, exactValue_eq]
  have hr : exactValue neg (significand t (rounded t rm neg m e).1) (roundedExp t m e (rounded t rm neg m e).1 - t.frac) =
      withSign neg ((rounded t rm neg m e).1 * 2 ^ quantum t m e) := by rw [exactValue_eq, significand_mul]
  have hne : withSign neg ((rounded t rm neg m e).1 * 2 ^ quantum t m e) ≠ withSign neg (scaled t m e * 2 ^ quantum t m e) ↔
      (rounded t rm neg m e).2 = true := by rw [hinexact, ne_eq, withSign_inj, mul_right_cancel_iff_of_pos hc]
  refine ⟨_, _, hunpack, ?_, ?_, ?_, ?_, ?_⟩
  · have hq := quantum_cases t m e
    refine ⟨significand t (rounded t rm neg m e).1, roundedExp t m e (rounded t rm neg m e).1 - t.frac,
      significand_lt (rounded_le t rm neg e hm), ?_, by omega, ?_⟩
    · unfold roundedExp; split <;> omega
    · cases neg
      · exact .inl rfl
      · exact .inr rfl
  · rw [hv, hr]
    exact hround.roundedTo hc (scaled_nonneg t m e) hgrid
  · rintro h0 ⟨y, hy, hyne, hytie⟩
    obtain ⟨y', hy', rfl⟩ := hgrid y hy
    rw [hr] at hyne hytie
    rw [hv] at hytie
    rw [hparity]
    exact significand_even ht (hround.tie_even hc h0 hy' hyne hytie)
  · rw [hr, hv, hne, hconds]
    exact (fits_conds _ _).1
  · have hlow : |exactValue neg m e| < (2 : ℚ) ^ (1 - (t.bias : ℤ)) ↔ leadExp m e < 1 - (t.bias : ℤ) := by
      rw [exactValue_eq, abs_withSign (by positivity), magnitude_lt_iff e hm]
    rw [hlow, hr, hv, hne, hconds, (fits_conds _ _).2, decide_eq_true_iff]

/-- A value within the largest finite number does not round above it. -/
theorem roundedExp_le_of_le (ht : FormatFacts t) (rm : BitVec 2) (neg : Bool) {m : ℕ} {e : ℤ} (hm : m ≠ 0)
    (h : |exactValue neg m e| ≤ (2 ^ (t.frac + 1) - 1) * (2 : ℚ) ^ ((t.bias : ℤ) - t.frac)) :
    roundedExp t m e (rounded t rm neg m e).1 ≤ t.bias := by
  have hlead : leadExp m e < t.bias + 1 := by
    rw [← magnitude_lt_iff e hm, ← scaled_mul t m e, ← abs_exactValue t neg m e]
    refine h.trans_lt ?_
    rw [show (t.bias : ℤ) + 1 = ((t.frac + 1 : ℕ) : ℤ) + (t.bias - t.frac) by push_cast; ring, zpow_add₀ two_ne_zero, zpow_natCast]
    exact mul_lt_mul_of_pos_right (by linarith) (by positivity)
  have hbias := ht.bias
  have hq := quantum_cases t m e
  unfold roundedExp
  split
  case isFalse => omega
  case isTrue hcarry =>
    by_contra hover
    have hexp : quantum t m e = t.bias - t.frac := by omega
    rw [abs_exactValue t, hexp] at h
    have hu := le_of_mul_le_mul_right h (by positivity)
    have habove := (rounded_rounds t rm neg m e).1.above
    rw [hcarry] at habove
    push_cast at habove
    linarith

/-- Settles O16: in units of the quantum the value is rounded to an integer, and the numbers of the format are integers there too
or lie below the value's binade. -/
theorem roundingIsCorrect : Obligations.RoundingIsCorrect := by
  intro t htmem rm neg m e hm
  have ht := formatFacts htmem
  obtain ⟨hover, hfx⟩ := roundF_overflow_iff t rm neg e hm
  refine ⟨fun hno => ?_, fun hle => ?_, fun hge => ?_⟩
  · refine roundF_correct ht rm neg e hm (not_lt.mp fun h => ?_)
    rw [hover.mpr h] at hno
    cases hno
  · rw [← Bool.not_eq_true, hover, not_lt]
    exact roundedExp_le_of_le ht rm neg hm hle
  · have hlead : (t.bias : ℤ) + 1 ≤ leadExp m e := by
      rw [abs_exactValue t, scaled_mul] at hge
      exact not_lt.mp (mt (magnitude_lt_iff e hm _).mpr (not_lt.mpr hge))
    have hbig : (t.bias : ℤ) < roundedExp t m e (rounded t rm neg m e).1 := by
      have := quantum_cases t m e
      unfold roundedExp
      split <;> omega
    exact ⟨hover.mpr hbig, hfx hbig⟩

end Sys2Proof.Proofs
end

section
/-! Proofs of the statements of spec/03 on the FOP instructions (R73, R74). -/

namespace Sys2Proof.Proofs
open Sys2Proof Sys2Proof.Machine

/-! ### How a FOP instruction ends (R73, R74) -/

theorem readWord_fop (m : Bool) {fn : Nat} (f : FmtA) (hf : fn < 256) :
    readWord m (encA 0x1C fn f) = fopInfo f.rs2.toNat (f.hi.toNat * 256 + fn) := by
  obtain ⟨hop, _, _, _, hrs2, hfn, _⟩ := encA_fields 0x1C fn f (by decide) hf
  simp only [readWord, hop, hrs2, hfn]

/-- The FOP function `fn` is legal with fn[8] zero, and with rs2 zero where it is `unary`; its steps in binary32 and binary64. -/
structure FopCosts (fn c32 c64 : Nat) (unary : Bool) : Prop where
  range : fn < 256
  cost : ∀ (r : BitVec 5) (hi : BitVec 2), hi.getLsbD 0 = false → unary = false ∨ r = 0 →
    (fopInfo r.toNat (hi.toNat * 256 + fn)).map (·.cost) = some (if hi.getLsbD 1 then c64 else c32)

/-- The end of a FOP instruction that gives the value `v` and raises `q`. -/
abbrev FopEnds (s : State) (k c cost fn : Nat) (f : FmtA) (o : Host.Outcome State Fault Refusal) (v : BitVec 64) (q : BitVec 9) : Prop :=
  (q &&& (contextAt s c).trap = 0 → o = .next (retired s c cost { rset (contextAt s c) f.rd v with flags := (contextAt s c).flags ||| q })) ∧
  (q &&& (contextAt s c).trap ≠ 0 → o = .next (faulted s k c (encA 0x1C fn f) .arith (q.setWidth 64)))

section
variable {s : State} {k c fn c32 c64 : Nat} {unary : Bool} {f : FmtA} {val : Ctx → BitVec 64 × Conds} {v : BitVec 64} {q : BitVec 9}

/-- R73: a FOP instruction that issues writes its value and flags, or takes the ARITH fault. -/
theorem fop_ends (hcost : FopCosts fn c32 c64 unary) (h8 : f.hi.getLsbD 0 = false) (hrs2 : unary = false ∨ f.rs2 = 0)
    (h : Issues s k c (floatCost f c32 c64)) (hval : val (contextAt s c) = (v, q)) :
    FopEnds s k c (floatCost f c32 c64) fn f (fop k fn f val s) v q := by
  have hw : (readWord (isMgmt k) (encA 0x1C fn f)).map (·.cost) = some (floatCost f c32 c64) := by
    rw [readWord_fop _ f hcost.range]
    exact hcost.cost f.rs2 f.hi h8 hrs2
  have hend : fop k fn f val s = .next (arithEnd s k c (floatCost f c32 c64) (encA 0x1C fn f) (val (contextAt s c)).2
      (rset (contextAt s c) f.rd (val (contextAt s c)).1)) := congrArg _ (runInsn_withConds h hw rfl)
  rw [hend, hval, arithEnd]
  exact ⟨fun hq => by rw [if_neg (not_not.mpr hq)], fun hq => by rw [if_pos hq]⟩

end

/-! ### Operands -/

theorem fmtOf_eq (f : FmtA) : fmtOf f = if f.hi.getLsbD 1 then fmt64 else fmt32 := rfl

theorem fbits_eq (f : FmtA) (x : Ctx) (r : BitVec 5) : fbits (fmtOf f) x r = floatBits f x r := by
  rw [fbits, fmtOf_eq, floatBits]
  split
  · exact Nat.mod_eq_of_lt (rget x r).isLt
  · rfl

theorem fget_eq (f : FmtA) (x : Ctx) (r : BitVec 5) : fget f x r = unpackF (fmtOf f) (floatBits f x r) := by
  rw [fget, fbits_eq]

/-- A NaN is read with its own bits. -/
theorem nan_bits {t : FFmt} {v b : Nat} {g : Bool} (h : unpackF t v = .nan b g) : b = v := by
  unfold unpackF at h
  simp only at h
  split at h
  · split at h
    · cases h
    · injection h with hb _; exact hb.symm
  · split at h <;> cases h

/-! ### NaN operands (R74) -/

theorem nanResult_none {t : FFmt} {l : List FVal} (h : ∀ a ∈ l, isNan a = false) : nanResult t l = none := by
  rw [nanResult, List.findSome?_eq_none_iff]
  intro a ha
  cases a with
  | nan => cases h _ ha
  | inf => rfl
  | fin => rfl

/-- The first NaN operand decides, with FI where any operand is signalling. -/
theorem nanResult_first {t : FFmt} {pre post : List FVal} {b : Nat} {g : Bool} (h : ∀ a ∈ pre, isNan a = false) :
    nanResult t (pre ++ .nan b g :: post) =
      some (b ||| t.quiet, condIf ((pre ++ .nan b g :: post).any isSignalling) condFI) := by
  rw [nanResult, List.findSome?_append, List.findSome?_eq_none_iff.mpr ?_]
  · exact congrArg (fun p => some (b ||| t.quiet, condIf (List.any _ p) condFI)) (funext fun v => by cases v <;> rfl)
  · intro a ha
    cases a with
    | nan => cases h _ ha
    | inf => rfl
    | fin => rfl

/-- The operand register of a number: rs1, rs2, rd. -/
def operandReg (f : FmtA) (i : Nat) : BitVec 5 := if i = 1 then f.rs1 else if i = 2 then f.rs2 else f.rd

/-- The operand numbers 1, 2 and 3 of an instruction: those of rs1, rs2 and rd. -/
def operand (f : FmtA) (x : Ctx) (i : Nat) : FVal := fget f x (operandReg f i)

/-- R73, R74: the result of an operation on the operands of the instruction that it takes, in this order. -/
def floatResult (f : FmtA) (x : Ctx) (operands : List Nat) (op : FloatOp) : Nat × Conds :=
  match nanResult (fmtOf f) (operands.map (operand f x)) with
  | some r => (r.1, r.2 ||| condIf (zeroTimesInf (operand f x 1) (operand f x 2) && Config.fmaQuietInvalid) condFI)
  | none => op (fmtOf f) x.fmode (operand f x 1) (operand f x 2) (operand f x 3)

theorem zeroTimesInf_of_nan {a b : FVal} (h : isNan a = true ∨ isNan b = true) : zeroTimesInf a b = false := by
  cases a with
  | nan => rfl
  | inf => cases b with
    | nan => rfl
    | inf => rfl
    | fin => simp [isNan] at h
  | fin => cases b with
    | nan => rfl
    | inf => simp [isNan] at h
    | fin => rfl

section
variable {f : FmtA} {x : Ctx} {operands : List Nat} {op : FloatOp}

/-- An operation that looks at rs1 and rs2 only meets no zero times infinity beside a NaN operand. -/
theorem floatResult_getD (h : ∀ i ∈ operands, i = 1 ∨ i = 2) : floatResult f x operands op =
    (nanResult (fmtOf f) (operands.map (operand f x))).getD
      (op (fmtOf f) x.fmode (operand f x 1) (operand f x 2) (operand f x 3)) := by
  unfold floatResult
  cases hn : nanResult (fmtOf f) (operands.map (operand f x)) with
  | none => rfl
  | some r =>
    have hnan : ¬ ∀ a ∈ operands.map (operand f x), isNan a = false := fun h => by
      rw [nanResult_none h] at hn; cases hn
    have hz : zeroTimesInf (operand f x 1) (operand f x 2) = false := by
      by_contra hz
      refine hnan fun a ha => ?_
      obtain ⟨i, hi, rfl⟩ := List.mem_map.mp ha
      by_contra hna
      rcases h i hi with rfl | rfl
      · exact hz (zeroTimesInf_of_nan (.inl (by simpa using hna)))
      · exact hz (zeroTimesInf_of_nan (.inr (by simpa using hna)))
    simp [hz, condIf]

theorem floatResult_number (h : ∀ i ∈ operands, isNan (operand f x i) = false) :
    floatResult f x operands op = op (fmtOf f) x.fmode (operand f x 1) (operand f x 2) (operand f x 3) := by
  unfold floatResult
  rw [nanResult_none (by simpa using h)]

theorem floatResult_nan {i : Nat} (hs : operands.Pairwise (· < ·)) (hi : i ∈ operands)
    (hnan : isNan (operand f x i) = true) (hfirst : ∀ j ∈ operands, j < i → isNan (operand f x j) = false) :
    floatResult f x operands op = (floatBits f x (operandReg f i) ||| (fmtOf f).quiet,
      if operands.any (fun j => isSignalling (operand f x j)) ||
        (zeroTimesInf (operand f x 1) (operand f x 2) && Config.fmaQuietInvalid) then 0x010 else 0) := by
  obtain ⟨pre, post, rfl⟩ := List.append_of_mem hi
  have hpre : ∀ a ∈ pre.map (operand f x), isNan a = false := by
    intro a ha
    obtain ⟨j, hj, rfl⟩ := List.mem_map.mp ha
    exact hfirst j (by simp [hj]) ((List.pairwise_append.mp hs).2.2 j hj i (by simp))
  cases hv : operand f x i with
  | inf => rw [hv] at hnan; cases hnan
  | fin => rw [hv] at hnan; cases hnan
  | nan b g =>
    have hb : b = floatBits f x (operandReg f i) := nan_bits ((fget_eq f x _).symm.trans hv)
    have hl : (pre ++ i :: post).map (operand f x) =
        pre.map (operand f x) ++ .nan b g :: post.map (operand f x) := by
      rw [List.map_append, List.map_cons, hv]
    have hany : (pre ++ i :: post).any (fun j => isSignalling (operand f x j)) =
        (pre.map (operand f x) ++ .nan b g :: post.map (operand f x)).any isSignalling := by
      rw [← hl, List.any_map]; rfl
    unfold floatResult
    rw [hl, nanResult_first hpre, hany, hb]
    simp only [condIf]
    generalize List.any _ isSignalling = sig
    generalize (zeroTimesInf _ _ && Config.fmaQuietInvalid) = z
    cases sig <;> cases z <;> rfl

end

/-- Each arithmetic instruction is a FOP function with the table's costs, and its value is the table's operation under the NaN rule. -/
theorem floatTable_runs (k : Nat) (f : FmtA) (s : State) : ∀ r ∈ floatTable, ∃ val,
    exec (r.1 k f) s = fop k r.2.1 f val s ∧ FopCosts r.2.1 r.2.2.1 r.2.2.2.1 (2 ∉ r.2.2.2.2.1) ∧
    r.2.2.2.2.1.Pairwise (· < ·) ∧ ∀ x, val x = fres (floatResult f x r.2.2.2.2.1 r.2.2.2.2.2) := by
  simp only [floatTable, List.forall_mem_cons, List.not_mem_nil, false_imp_iff, implies_true, and_true]
  have hbin (op : FloatOp) (x : Ctx) := floatResult_getD (f := f) (x := x) (op := op) (operands := [1, 2]) (by decide)
  have hun (op : FloatOp) (x : Ctx) := floatResult_getD (f := f) (x := x) (op := op) (operands := [1]) (by decide)
  exact ⟨⟨_, rfl, ⟨by decide, by decide⟩, by decide, fun x => by rw [hbin]; rfl⟩,
    ⟨_, rfl, ⟨by decide, by decide⟩, by decide, fun x => by rw [hbin]; rfl⟩,
    ⟨_, rfl, ⟨by decide, by decide⟩, by decide, fun x => by rw [hbin]; rfl⟩,
    ⟨_, rfl, ⟨by decide, by decide⟩, by decide, fun x => by rw [hbin]; rfl⟩,
    ⟨_, rfl, ⟨by decide, by decide⟩, by decide, fun x => by rw [hun]; rfl⟩,
    ⟨_, rfl, ⟨by decide, by decide⟩, by decide, fun x => rfl⟩⟩

/-- Settles O15: the table gives each operation; the NaN rule and the trap rule are the same for all of them. -/
theorem floatArithmetic : Obligations.FloatArithmetic := by
  intro s k c f r hr h8 h hrs2 x t v n fi q hq
  obtain ⟨val, hexec, hcost, hsorted, hval⟩ := floatTable_runs k f s r hr
  have hv (i : Nat) : n i = operand f x i := (fget_eq f x _).symm
  rw [hexec]
  refine fop_ends hcost h8 (hrs2.imp (by simp) id) h ?_
  have hq' : floatResult f x r.2.2.2.2.1 r.2.2.2.2.2 = q := by
    rcases hq with ⟨hnum, rfl⟩ | ⟨i, hi, hnan, hfirst, rfl⟩
    · rw [floatResult_number fun i hi => by rw [← hv]; exact hnum i hi]
      simp only [hv]
      rfl
    · rw [floatResult_nan hsorted hi (by rw [← hv]; exact hnan) fun j hj hlt => by rw [← hv]; exact hfirst j hj hlt]
      simp only [fi, hv]
      rfl
  rw [hval, hq']
  rfl

end Sys2Proof.Proofs
end

section
/-! Proofs of the statements of spec/03 on the special cases and the conversions of floating point (R74). -/

namespace Sys2Proof.Proofs
open Sys2Proof Sys2Proof.Machine

/-! ### Special cases of the operations (R74) -/

/-- The free operations on infinities, zeros and negative numbers. -/
theorem specialCases {t : FFmt} (ht : t ∈ [fmt32, fmt64]) (rm : BitVec 2) (p n : Bool) (m : Nat) (e e' : Int) :
    let nan : Nat × BitVec 9 := (if t.frac = 23 then 0x7FFFFFFF else 0x7FFFFFFFFFFFFFFF, 0x010)
    addVal t rm (.inf p) (.inf (!p)) = nan ∧ mulVal t rm (.inf p) (.fin n 0 e) = nan ∧ mulVal t rm (.fin n 0 e) (.inf p) = nan ∧
    divVal t rm (.fin p 0 e) (.fin n 0 e') = nan ∧ divVal t rm (.inf p) (.inf n) = nan ∧ sqrtVal t rm (.inf true) = nan ∧
    (m ≠ 0 → sqrtVal t rm (.fin true m e) = nan) := by
  intro nan
  have hnan : invalidF t = nan := by
    simp only [List.mem_cons, List.not_mem_nil, or_false] at ht
    rcases ht with rfl | rfl <;> rfl
  rw [← hnan]
  refine ⟨?_, rfl, rfl, rfl, rfl, rfl, fun hm => ?_⟩
  · cases p <;> rfl
  · simp [sqrtVal, hm]

/-- The sum of a number and its opposite is an exact zero. -/
theorem addVal_opposite (t : FFmt) (rm : BitVec 2) (p : Bool) (m : Nat) (e : Int) :
    addVal t rm (.fin p m e) (.fin (!p) m e) = (if rm = 2 then t.signBit else 0, 0) := by
  have hzero : atExp p m e e + atExp (!p) m e e = 0 := by cases p <;> simp [atExp]
  have hsign : (if p = !p then p else rm == 2) = (rm == 2) := by cases p <;> rfl
  simp only [addVal, addFin, min_self, hzero, hsign, if_true, zeroBits, signBits, beq_iff_eq]

/-! ### Signs and bits of a number -/

/-- The sign of a number. -/
def signOf : FVal → Bool
  | .nan _ _ => false
  | .inf n => n
  | .fin n _ _ => n

section
variable {t : FFmt} {a b m : Nat} {n : Bool} {e : Int}

theorem sign_of_bits (ha : a < 2 * t.signBit) : (a / t.signBit % 2 == 1) = true ↔ t.signBit ≤ a := by
  have hpos : 0 < t.signBit := by omega
  have hlt : a / t.signBit < 2 := Nat.div_lt_of_lt_mul (by omega)
  rw [beq_iff_eq, Nat.mod_eq_of_lt hlt, ← Nat.one_le_div_iff hpos]
  omega

theorem signOf_unpackF (ha : a < 2 * t.signBit) (hn : isNan (unpackF t a) = false) :
    signOf (unpackF t a) = true ↔ t.signBit ≤ a := by
  rw [← sign_of_bits ha]
  unfold unpackF at hn ⊢
  simp only at hn ⊢
  split
  · split
    · rfl
    · simp_all [isNan]
  · split <;> rfl

/-- The bits of a format are those of its sign, its exponent field and its fraction. -/
theorem bits_split (ht : FormatFacts t) (ha : a < 2 * t.signBit) : a = signBits t (a / t.signBit % 2 == 1) +
    (a / 2 ^ t.frac % (t.expMax + 1) * 2 ^ t.frac + a % 2 ^ t.frac) := by
  have hlt : a / t.signBit < 2 := Nat.div_lt_of_lt_mul (by omega)
  have hsign : signBits t (a / t.signBit % 2 == 1) = a / t.signBit * t.signBit := by
    rw [Nat.mod_eq_of_lt hlt, signBits]
    rcases Nat.le_one_iff_eq_zero_or_eq_one.mp (Nat.le_of_lt_succ hlt) with h | h <;> simp [h]
  have hdiv : a / 2 ^ t.frac / (t.expMax + 1) = a / t.signBit := by rw [Nat.div_div_eq_div_mul, ht.signBit, mul_comm]
  have h1 := Nat.div_add_mod a (2 ^ t.frac)
  have h2 := Nat.div_add_mod (a / 2 ^ t.frac) (t.expMax + 1)
  rw [hdiv] at h2
  rw [hsign, ht.signBit, ← ht.signBit]
  calc a = 2 ^ t.frac * ((t.expMax + 1) * (a / t.signBit) + a / 2 ^ t.frac % (t.expMax + 1)) + a % 2 ^ t.frac := by rw [h2, h1]
    _ = a / t.signBit * ((t.expMax + 1) * 2 ^ t.frac) + (a / 2 ^ t.frac % (t.expMax + 1) * 2 ^ t.frac + a % 2 ^ t.frac) := by ring
    _ = _ := by rw [← ht.signBit]

/-- What a finite number's significand and exponent are, and its bits. -/
structure FiniteBits (t : FFmt) (a : Nat) (n : Bool) (m : Nat) (e : Int) : Prop where
  bits : a = signBits t n + ((e + t.bias + t.frac - 1).toNat * 2 ^ t.frac + m)
  lowest : 1 - (t.bias : Int) - t.frac ≤ e
  range : m < 2 * 2 ^ t.frac
  subnormal : m < 2 ^ t.frac → e = 1 - (t.bias : Int) - t.frac

theorem finiteBits (ht : FormatFacts t) (ha : a < 2 * t.signBit) (h : unpackF t a = .fin n m e) : FiniteBits t a n m e := by
  have hsplit := bits_split ht ha
  have hpos : 0 < 2 ^ t.frac := by positivity
  have hfr : a % 2 ^ t.frac < 2 ^ t.frac := Nat.mod_lt _ hpos
  unfold unpackF at h
  simp only at h
  generalize a / 2 ^ t.frac % (t.expMax + 1) = ex at h hsplit
  generalize a % 2 ^ t.frac = fr at h hsplit hfr
  split at h
  · split at h <;> cases h
  · split at h
    case isTrue hex =>
      cases h
      have hz : (1 - (t.bias : Int) - t.frac + t.bias + t.frac - 1).toNat = 0 := by omega
      rw [hex] at hsplit
      exact ⟨by rw [hz]; exact hsplit, by omega, by omega, by omega⟩
    case isFalse hex =>
      cases h
      refine ⟨?_, by omega, by omega, by omega⟩
      obtain ⟨j, rfl⟩ : ∃ j, ex = j + 1 := ⟨ex - 1, by omega⟩
      have hj : ((j + 1 : ℕ) : Int) - t.bias - t.frac + t.bias + t.frac - 1 = (j : Int) := by push_cast; ring
      rw [hj, Int.toNat_natCast]
      conv_lhs => rw [hsplit]
      ring

theorem infiniteBits (ht : FormatFacts t) (ha : a < 2 * t.signBit) (h : unpackF t a = .inf n) : a = infBits t n := by
  have hsplit := bits_split ht ha
  unfold unpackF at h
  simp only at h
  split at h
  case isTrue hex =>
    split at h
    case isTrue hfr => cases h; rw [hex, hfr, add_zero] at hsplit; exact hsplit
    case isFalse => cases h
  case isFalse => split at h <;> cases h

/-- Two finite numbers of one sign and one magnitude have the same bits. -/
theorem FiniteBits.unique {m' : Nat} {e' : Int} (ha : FiniteBits t a n m e) (hb : FiniteBits t b n m' e') (hle : e ≤ e')
    (h : m = m' * 2 ^ (e' - e).toNat) : a = b := by
  have he : e = e' := by
    by_contra hne
    have hfull : 2 ^ t.frac ≤ m' := by
      by_contra hlt
      have := hb.subnormal (by omega)
      have := ha.lowest
      omega
    have htwo : 2 ≤ 2 ^ (e' - e).toNat := Nat.le_self_pow (by omega) 2
    have := Nat.mul_le_mul hfull htwo
    have := ha.range
    omega
  subst he
  rw [sub_self, Int.toNat_zero, pow_zero, mul_one] at h
  rw [ha.bits, hb.bits, h]

end

/-! ### The order of numbers (R74) -/

section
variable {a b : FVal}

theorem orderVal_cases (ha : isNan a = false) (hb : isNan b = false) : orderVal a b = -1 ∨ orderVal a b = 0 ∨ orderVal a b = 1 := by
  cases a with
  | nan => cases ha
  | inf p => cases b with
    | nan => cases hb
    | inf q => cases p <;> cases q <;> decide
    | fin => cases p <;> simp [orderVal]
  | fin => cases b with
    | nan => cases hb
    | inf q => cases q <;> simp [orderVal]
    | fin =>
      simp only [orderVal]
      split
      · exact .inl rfl
      · split
        · exact .inr (.inl rfl)
        · exact .inr (.inr rfl)

theorem orderVal_swap (ha : isNan a = false) (hb : isNan b = false) : orderVal b a = -orderVal a b := by
  cases a with
  | nan => cases ha
  | inf p => cases b with
    | nan => cases hb
    | inf q => cases p <;> cases q <;> decide
    | fin => cases p <;> simp [orderVal]
  | fin n1 m1 e1 => cases b with
    | nan => cases hb
    | inf q => cases q <;> simp [orderVal]
    | fin n2 m2 e2 =>
      simp only [orderVal, min_comm e2 e1]
      generalize atExp n1 m1 e1 (min e1 e2) = v
      generalize atExp n2 m2 e2 (min e1 e2) = w
      split_ifs <;> omega

theorem lessTotal_iff (ha : isNan a = false) (hb : isNan b = false) :
    lessTotal a b = true ↔ orderVal a b = -1 ∨ orderVal a b = 0 ∧ signOf a = true ∧ signOf b = false := by
  unfold lessTotal
  rcases orderVal_cases ha hb with h | h | h
  · simp [h]
  · rw [h]
    cases a with
    | nan => cases ha
    | inf p => cases b with
      | nan => cases hb
      | inf q => cases p <;> cases q <;> simp_all [orderVal, signOf]
      | fin => cases p <;> simp [orderVal] at h
    | fin => cases b with
      | nan => cases hb
      | inf q => cases q <;> simp [orderVal] at h
      | fin => simp [signOf]
  · simp [h]

theorem lessTotal_asymm (ha : isNan a = false) (hb : isNan b = false) (h : lessTotal a b = true) : lessTotal b a = false := by
  rw [← Bool.not_eq_true, lessTotal_iff hb ha, orderVal_swap ha hb]
  rw [lessTotal_iff ha hb] at h
  rcases h with h | ⟨h, hs, _⟩
  · omega
  · simp [h, hs]

end

/-- Two numbers of which neither is less have the same bits. -/
theorem bits_eq_of_not_less {t : FFmt} {a b : Nat} (ht : FormatFacts t) (ha : a < 2 * t.signBit) (hb : b < 2 * t.signBit)
    (hna : isNan (unpackF t a) = false) (hnb : isNan (unpackF t b) = false) (hab : lessTotal (unpackF t a) (unpackF t b) = false)
    (hba : lessTotal (unpackF t b) (unpackF t a) = false) : a = b := by
  rw [← Bool.not_eq_true, lessTotal_iff hna hnb] at hab
  rw [← Bool.not_eq_true, lessTotal_iff hnb hna, orderVal_swap hna hnb] at hba
  have hzero : orderVal (unpackF t a) (unpackF t b) = 0 := by
    rcases orderVal_cases hna hnb with h | h | h
    · exact absurd (.inl h) hab
    · exact h
    · exact absurd (.inl (by rw [h])) hba
  have hsign : signOf (unpackF t a) = signOf (unpackF t b) := by
    rw [hzero] at hab hba
    generalize signOf (unpackF t a) = p at hab hba ⊢
    generalize signOf (unpackF t b) = q at hab hba ⊢
    cases p <;> cases q <;> simp_all
  cases hva : unpackF t a with
  | nan => rw [hva] at hna; cases hna
  | inf p => cases hvb : unpackF t b with
    | nan => rw [hvb] at hnb; cases hnb
    | inf q =>
      rw [hva, hvb] at hsign
      rw [infiniteBits ht ha hva, infiniteBits ht hb hvb]
      exact congrArg _ hsign
    | fin => rw [hva, hvb] at hzero; cases p <;> simp [orderVal] at hzero
  | fin n1 m1 e1 => cases hvb : unpackF t b with
    | nan => rw [hvb] at hnb; cases hnb
    | inf q => rw [hva, hvb] at hzero; cases q <;> simp [orderVal] at hzero
    | fin n2 m2 e2 =>
      rw [hva, hvb] at hsign hzero
      obtain rfl : n1 = n2 := hsign
      have hfa := finiteBits ht ha hva
      have hfb := finiteBits ht hb hvb
      have hmag : m1 * 2 ^ (e1 - min e1 e2).toNat = m2 * 2 ^ (e2 - min e1 e2).toNat := by
        simp only [orderVal] at hzero
        have hd : atExp n1 m1 e1 (min e1 e2) = atExp n1 m2 e2 (min e1 e2) := by
          by_contra hne
          rw [if_neg (show ¬ _ = (0 : Int) from fun h => hne (by omega))] at hzero
          split at hzero <;> cases hzero
        cases n1
        · exact Int.ofNat.inj hd
        · exact Int.ofNat.inj (neg_injective hd)
      rcases le_total e1 e2 with hle | hle
      · rw [min_eq_left hle, sub_self, Int.toNat_zero, pow_zero, mul_one] at hmag
        exact hfa.unique hfb hle hmag
      · rw [min_eq_right hle, sub_self, Int.toNat_zero, pow_zero, mul_one] at hmag
        exact (hfb.unique hfa hle hmag.symm).symm

/-! ### The values of the instructions on signs and comparisons (R74) -/

theorem signBit_eq_two_pow {t : FFmt} : ∃ i, t.signBit = 2 ^ i := by
  unfold FFmt.signBit
  split
  exacts [⟨31, rfl⟩, ⟨63, rfl⟩]

/-- Turning the highest bit adds it or takes it away. -/
theorem xor_two_pow {a i : Nat} (ha : a < 2 * 2 ^ i) : a ^^^ 2 ^ i = if a < 2 ^ i then a + 2 ^ i else a - 2 ^ i := by
  have hpos : 0 < 2 ^ i := by positivity
  have hmod : (a ^^^ 2 ^ i) % 2 ^ i = a % 2 ^ i := by rw [Nat.xor_mod_two_pow, Nat.mod_self, Nat.xor_zero]
  have hdiv : (a ^^^ 2 ^ i) / 2 ^ i = a / 2 ^ i ^^^ 1 := by rw [Nat.xor_div_two_pow, Nat.div_self hpos]
  have hsplit := Nat.div_add_mod (a ^^^ 2 ^ i) (2 ^ i)
  rw [hdiv, hmod] at hsplit
  by_cases h : a < 2 ^ i
  · rw [if_pos h, ← hsplit, Nat.div_eq_of_lt h, Nat.mod_eq_of_lt h, Nat.zero_xor, mul_one, add_comm]
  · have hone : a / 2 ^ i = 1 := by
      rw [Nat.div_eq_iff hpos]; omega
    have ha' := Nat.div_add_mod a (2 ^ i)
    rw [hone] at ha' hsplit
    rw [if_neg h, ← hsplit, Nat.xor_self, mul_zero, zero_add]
    omega

theorem mod_signBit {a b : Nat} (ha : a < 2 * b) : a % b = if a < b then a else a - b := by
  split
  · exact Nat.mod_eq_of_lt ‹_›
  · rw [Nat.mod_eq_sub_mod (by omega), Nat.mod_eq_of_lt (by omega)]

theorem div_signBit {a b : Nat} (ha : a < 2 * b) : 8 * (a / b) = if b ≤ a then 8 else 0 := by
  split
  · rw [Nat.div_eq_of_lt_le (k := 1) (by omega) (by omega)]
  · rw [Nat.div_eq_of_lt (by omega)]

section
variable {f : FmtA} {x : Ctx}

theorem floatBits_lt (f : FmtA) (x : Ctx) (r : BitVec 5) : floatBits f x r < 2 * (fmtOf f).signBit := by
  rw [← fbits_eq]
  refine Nat.mod_lt _ ?_
  obtain ⟨i, hi⟩ := signBit_eq_two_pow (t := fmtOf f)
  rw [hi]
  positivity

theorem fmtOf_facts (f : FmtA) : FormatFacts (fmtOf f) :=
  formatFacts (by rw [fmtOf_eq]; split <;> simp)

theorem kindF_eq (t : FFmt) (b : Nat) : kindF t b = match unpackF t b with
    | .fin _ m _ => if m = 0 then 0 else if m < 2 ^ t.frac then 1 else 2
    | .inf _ => 3
    | .nan _ g => if g then 5 else 4 := by
  unfold kindF
  cases unpackF t b <;> rfl

theorem compareF_number (sig : Bool) (ha : isNan (fget f x f.rs1) = false) (hb : isNan (fget f x f.rs2) = false) :
    compareF f x sig = (BitVec.ofInt 64 (orderVal (fget f x f.rs1) (fget f x f.rs2)), 0) := by
  simp [compareF, ha, hb, ofInt64]

theorem compareF_nan (sig : Bool) (h : isNan (fget f x f.rs1) = true ∨ isNan (fget f x f.rs2) = true) :
    compareF f x sig = (2, condIf (sig || isSignalling (fget f x f.rs1) || isSignalling (fget f x f.rs2)) condFI) := by
  rw [← Bool.or_eq_true] at h
  simp [compareF, h]

/-- The smaller number, or the larger one, by its bits. -/
theorem minMax_number (larger : Bool) (ha : isNan (fget f x f.rs1) = false) (hb : isNan (fget f x f.rs2) = false) :
    minMax f x larger = (BitVec.ofNat 64 (if lessTotal (fget f x f.rs1) (fget f x f.rs2) = larger then floatBits f x f.rs2
      else floatBits f x f.rs1), 0) := by
  have hnone : nanResult (fmtOf f) [fget f x f.rs1, fget f x f.rs2] = none := nanResult_none (by simp [ha, hb])
  rw [minMax, hnone, Option.getD_none, fres, pickMin, fbits_eq]
  simp only
  cases larger with
  | true => cases hless : lessTotal (fget f x f.rs1) (fget f x f.rs2) <;> simp
  | false =>
    cases hless : lessTotal (fget f x f.rs1) (fget f x f.rs2) with
    | true => simp [lessTotal_asymm ha hb hless]
    | false =>
      cases hback : lessTotal (fget f x f.rs2) (fget f x f.rs1) with
      | true => simp
      | false =>
        rw [fget_eq] at ha hb hless hback
        rw [fget_eq] at hless hback
        simp [bits_eq_of_not_less (fmtOf_facts f) (floatBits_lt f x f.rs1) (floatBits_lt f x f.rs2) ha hb hless hback]

/-- A NaN operand is read with its own bits. -/
theorem nan_operand {r : BitVec 5} (h : isNan (fget f x r) = true) : ∃ g, fget f x r = .nan (floatBits f x r) g := by
  cases hv : fget f x r with
  | nan b g => exact ⟨g, by rw [nan_bits ((fget_eq f x r).symm.trans hv)]⟩
  | inf => rw [hv] at h; cases h
  | fin => rw [hv] at h; cases h

/-- A NaN operand: the first one with its quiet bit set. -/
theorem minMax_nan (larger : Bool) (h : isNan (fget f x f.rs1) = true ∨ isNan (fget f x f.rs2) = true) :
    minMax f x larger = (BitVec.ofNat 64 ((if isNan (fget f x f.rs1) then floatBits f x f.rs1 else floatBits f x f.rs2) ||| (fmtOf f).quiet),
      condIf (isSignalling (fget f x f.rs1) || isSignalling (fget f x f.rs2)) condFI) := by
  by_cases hna : isNan (fget f x f.rs1) = true
  · obtain ⟨g, ha⟩ := nan_operand hna
    have hres := nanResult_first (t := fmtOf f) (pre := []) (post := [fget f x f.rs2]) (b := floatBits f x f.rs1) (g := g) (by simp)
    rw [minMax, ha, ← List.nil_append [_, _], hres]
    simp [fres, isNan, isSignalling]
  · obtain ⟨g, hb⟩ := nan_operand (h.resolve_left hna)
    have hres := nanResult_first (t := fmtOf f) (pre := [fget f x f.rs1]) (post := []) (b := floatBits f x f.rs2) (g := g)
      (by simpa using hna)
    rw [minMax, hb, ← List.singleton_append, hres, if_neg hna]
    simp [fres, isSignalling]

/-- minimumNumber and maximumNumber are minimum and maximum but beside one NaN. -/
theorem minMaxNumber_eq (larger : Bool) (h : isNan (fget f x f.rs1) = isNan (fget f x f.rs2)) :
    minMaxNumber f x larger = minMax f x larger := by
  unfold minMaxNumber
  cases hb : isNan (fget f x f.rs2) <;> simp [hb, h]

/-- Beside one NaN they give the number. -/
theorem minMaxNumber_nan (larger : Bool) (h : isNan (fget f x f.rs1) ≠ isNan (fget f x f.rs2)) :
    minMaxNumber f x larger = (BitVec.ofNat 64 (if isNan (fget f x f.rs1) then floatBits f x f.rs2 else floatBits f x f.rs1),
      condIf (isSignalling (fget f x f.rs1) || isSignalling (fget f x f.rs2)) condFI) := by
  simp only [minMaxNumber, fres, fbits_eq]
  cases ha : isNan (fget f x f.rs1) <;> cases hb : isNan (fget f x f.rs2) <;> simp_all

/-- The order of the operands that the minimum takes, by the bits of their signs. -/
theorem lessTotal_operands (ha : isNan (fget f x f.rs1) = false) (hb : isNan (fget f x f.rs2) = false) :
    lessTotal (fget f x f.rs1) (fget f x f.rs2) = true ↔ orderVal (fget f x f.rs1) (fget f x f.rs2) = -1 ∨
      orderVal (fget f x f.rs1) (fget f x f.rs2) = 0 ∧ (fmtOf f).signBit ≤ floatBits f x f.rs1 ∧
        floatBits f x f.rs2 < (fmtOf f).signBit := by
  rw [lessTotal_iff ha hb, ← Bool.not_eq_true (signOf _)]
  rw [fget_eq] at ha hb
  rw [fget_eq, fget_eq, signOf_unpackF (floatBits_lt f x f.rs1) ha, signOf_unpackF (floatBits_lt f x f.rs2) hb, not_le]

end

section
variable {s : State} {k c fn n : Nat} {unary : Bool} {f : FmtA} {val : Ctx → BitVec 64 × Conds} {v : BitVec 64} {q : BitVec 9}

/-- A FOP instruction of the same cost in both formats. -/
theorem fop_ends_same (hcost : FopCosts fn n n unary) (h8 : f.hi.getLsbD 0 = false) (hrs2 : unary = false ∨ f.rs2 = 0)
    (h : Issues s k c n) (hval : val (contextAt s c) = (v, q)) : FopEnds s k c n fn f (fop k fn f val s) v q := by
  have hsame : floatCost f n n = n := ite_self n
  have hend := fop_ends hcost h8 hrs2 (hsame.symm ▸ h) hval
  rwa [hsame] at hend

end

/-- Settles O17: the operations' special cases, and each instruction's value by the operands' order, signs and NaNs. -/
theorem floatSignsAndCases : Obligations.FloatSignsAndCases := by
  refine ⟨fun t ht rm p n m e e' => ?_, fun s k c f h8 h => ?_⟩
  · obtain ⟨h1, h2, h3, h4, h5, h6, h7⟩ := specialCases ht rm p n m e e'
    exact ⟨h1, h2, h3, h4, h5, h6, h7, fun hm => by simp [divVal, hm]; rfl, rfl, fun _ => addVal_opposite t rm p m e, rfl, rfl⟩
  intro x t a b va vb sig less fin fi
  have ha : va = fget f x f.rs1 := (fget_eq f x _).symm
  have hb : vb = fget f x f.rs2 := (fget_eq f x _).symm
  have hfi : condIf (isSignalling (fget f x f.rs1) || isSignalling (fget f x f.rs2)) condFI = fi := by
    simp only [fi, sig, ha, hb]; rfl
  have hmin (v q) (hv : minMax f x false = (v, q)) : fin .fmin 6 v q :=
    fop_ends_same (unary := false) ⟨by decide, by decide⟩ h8 (.inl rfl) h hv
  have hmax (v q) (hv : minMax f x true = (v, q)) : fin .fmax 7 v q :=
    fop_ends_same (unary := false) ⟨by decide, by decide⟩ h8 (.inl rfl) h hv
  have hminn (v q) (hv : minMaxNumber f x false = (v, q)) : fin .fminn 0xE v q :=
    fop_ends_same (unary := false) ⟨by decide, by decide⟩ h8 (.inl rfl) h hv
  have hmaxn (v q) (hv : minMaxNumber f x true = (v, q)) : fin .fmaxn 0xF v q :=
    fop_ends_same (unary := false) ⟨by decide, by decide⟩ h8 (.inl rfl) h hv
  have hcmp (v q) (hv : compareF f x false = (v, q)) : fin .fcmp 0xA v q :=
    fop_ends_same (unary := false) ⟨by decide, by decide⟩ h8 (.inl rfl) h hv
  have hcmps (v q) (hv : compareF f x true = (v, q)) : fin .fcmps 0xB v q :=
    fop_ends_same (unary := false) ⟨by decide, by decide⟩ h8 (.inl rfl) h hv
  have hlt : a < 2 * t.signBit := floatBits_lt f x f.rs1
  refine ⟨fun h2 => ?_, fun h2 => ?_, fun hna hnb => ⟨?_, ?_, fun hless => ?_, fun hless => ?_⟩, fun hnan => ?_, fun hna hnb => ?_,
    fun hna hnb => ?_, fun hna hnb => ?_, fun h2 => ?_⟩
  · refine fop_ends_same (unary := true) ⟨by decide, by decide⟩ h8 (.inr h2) h ?_
    obtain ⟨i, hi⟩ := signBit_eq_two_pow (t := t)
    rw [fbits_eq]
    exact congrArg (fun n => (BitVec.ofNat 64 n, _)) (by rw [hi] at hlt ⊢; exact (congrArg _ hi).trans (xor_two_pow hlt))
  · refine fop_ends_same (unary := true) ⟨by decide, by decide⟩ h8 (.inr h2) h ?_
    rw [fbits_eq]
    exact congrArg (fun n => (BitVec.ofNat 64 n, _)) (mod_signBit hlt)
  · exact hcmp _ _ (by rw [compareF_number _ (ha ▸ hna) (hb ▸ hnb), ha, hb]; rfl)
  · exact hcmps _ _ (by rw [compareF_number _ (ha ▸ hna) (hb ▸ hnb), ha, hb]; rfl)
  · rw [ha] at hna
    rw [hb] at hnb
    have hl := (lessTotal_operands hna hnb).mpr (by rw [← ha, ← hb]; exact hless)
    refine ⟨hmin _ _ ?_, hminn _ _ ?_, hmax _ _ ?_, hmaxn _ _ ?_⟩
    · rw [minMax_number _ hna hnb, hl, if_neg (by decide)]
    · rw [minMaxNumber_eq _ (hna.trans hnb.symm), minMax_number _ hna hnb, hl, if_neg (by decide)]
    · rw [minMax_number _ hna hnb, hl, if_pos rfl]
    · rw [minMaxNumber_eq _ (hna.trans hnb.symm), minMax_number _ hna hnb, hl, if_pos rfl]
  · rw [ha] at hna
    rw [hb] at hnb
    have hl : lessTotal (fget f x f.rs1) (fget f x f.rs2) = false := by
      rw [← Bool.not_eq_true, lessTotal_operands hna hnb, ← ha, ← hb]
      exact hless
    refine ⟨hmin _ _ ?_, hminn _ _ ?_, hmax _ _ ?_, hmaxn _ _ ?_⟩
    · rw [minMax_number _ hna hnb, hl, if_pos rfl]
    · rw [minMaxNumber_eq _ (hna.trans hnb.symm), minMax_number _ hna hnb, hl, if_pos rfl]
    · rw [minMax_number _ hna hnb, hl, if_neg (by decide)]
    · rw [minMaxNumber_eq _ (hna.trans hnb.symm), minMax_number _ hna hnb, hl, if_neg (by decide)]
  · rw [ha, hb] at hnan
    refine ⟨hcmp _ _ ?_, hcmps _ _ ?_, hmin _ _ ?_, hmax _ _ ?_⟩
    · rw [compareF_nan _ hnan, ← hfi]; rfl
    · rw [compareF_nan _ hnan]; rfl
    · rw [minMax_nan _ hnan, ← hfi, ha]; rfl
    · rw [minMax_nan _ hnan, ← hfi, ha]; rfl
  · rw [ha] at hna
    rw [hb] at hnb
    refine ⟨hminn _ _ ?_, hmaxn _ _ ?_⟩ <;> rw [minMaxNumber_nan _ (by simp [hna, hnb]), if_pos hna, hfi]
  · rw [ha] at hna
    rw [hb] at hnb
    refine ⟨hminn _ _ ?_, hmaxn _ _ ?_⟩ <;> rw [minMaxNumber_nan _ (by simp [hna, hnb]), if_neg (by simp [hna]), hfi]
  · rw [ha] at hna
    rw [hb] at hnb
    refine ⟨hminn _ _ ?_, hmaxn _ _ ?_⟩ <;>
      rw [minMaxNumber_eq _ (hna.trans hnb.symm), minMax_nan _ (.inl hna), if_pos hna, hfi] <;> rfl
  · refine fop_ends_same (unary := true) ⟨by decide, by decide⟩ h8 (.inr h2) h ?_
    rw [fbits_eq]
    exact congrArg (fun n => (BitVec.ofNat 64 n, _)) (congrArg₂ (· + ·) (kindF_eq t a) (div_signBit hlt))

end Sys2Proof.Proofs
end

section
/-! Proofs of the statement of spec/03 on the conversions of floating point (R74). -/

namespace Sys2Proof.Proofs
open Sys2Proof Sys2Proof.Machine

/-- A value whose exponent is no lower than its quantum is converted exactly. -/
theorem roundF_exact {t : FFmt} (ht : FormatFacts t) (rm : BitVec 2) (neg : Bool) {m : ℕ} {e : ℤ} (hm : m ≠ 0)
    (hq : quantum t m e ≤ e) (hexp : leadExp m e ≤ t.bias) :
    (roundF t rm neg m e).2 = 0 ∧ ∃ m' e', unpackF t (roundF t rm neg m e).1 = .fin neg m' e' ∧
      exactValue neg m' e' = exactValue neg m e := by
  have hexact : (rounded t rm neg m e).2 = false := congrArg Prod.snd (roundAt_of_le hq).1
  have hk : ((rounded t rm neg m e).1 : ℚ) = scaled t m e := by
    by_contra hne
    have := (rounded_rounds t rm neg m e).2.mpr hne
    rw [hexact] at this
    cases this
  have hcarry : (rounded t rm neg m e).1 ≠ 2 ^ (t.frac + 1) := by
    intro h
    have hlt := scaled_lt t e hm
    rw [← hk, h] at hlt
    push_cast at hlt
    exact lt_irrefl _ hlt
  have hbias := ht.bias
  have hcases := quantum_cases t m e
  have hfit : roundedExp t m e (rounded t rm neg m e).1 ≤ t.bias := by
    rw [roundedExp, if_neg hcarry]
    omega
  obtain ⟨hunpack, -, hconds⟩ := roundF_finite ht rm neg e hm hfit
  refine ⟨by rw [hconds, hexact]; simp [condIf], _, _, hunpack, ?_⟩
  rw [exactValue_eq, exactValue_eq, significand_mul, hk, scaled_mul]

/-- A Q15 number, nonzero or zero, converts exactly. -/
theorem roundSigned_q15 {t : FFmt} (ht : FormatFacts t) (h15 : 15 ≤ t.frac) (hb : 16 ≤ t.bias) (rm : BitVec 2) {v : ℤ}
    (hv : -2 ^ 15 ≤ v) (hv' : v < 2 ^ 15) :
    (roundSigned t rm v (-15)).2 = 0 ∧ ∃ n m e, unpackF t (roundSigned t rm v (-15)).1 = .fin n m e ∧
      exactValue n m e * 2 ^ 15 = (v : ℚ) ∧ (v = 0 → (roundSigned t rm v (-15)).1 = 0) := by
  by_cases hz : v = 0
  · subst hz
    have hunpack := unpackF_fields ht false (ef := 0) (fr := 0) (by rw [ht.expMax]; omega) (by positivity)
    refine ⟨rfl, false, 0, 1 - (t.bias : ℤ) - t.frac, ?_, by simp [exactValue], fun _ => rfl⟩
    have hbits : signBits t false + (0 * 2 ^ t.frac + 0) = 0 := by simp [signBits]
    rw [hbits] at hunpack
    exact hunpack
  have hm : v.natAbs ≠ 0 := Int.natAbs_ne_zero.mpr hz
  have hlog : v.natAbs.log2 < 16 := (Nat.log2_lt hm).mpr (by omega)
  have hcases := quantum_cases t v.natAbs (-15)
  have hlead : leadExp v.natAbs (-15) = v.natAbs.log2 - 15 := by unfold leadExp; ring
  obtain ⟨hflags, m', e', hunpack, hval⟩ :=
    roundF_exact ht rm (decide (v < 0)) (e := -15) hm (by omega) (by omega)
  refine ⟨hflags, _, m', e', hunpack, ?_, fun h => absurd h hz⟩
  have hscale : (v.natAbs : ℚ) * 2 ^ (-15 : ℤ) * 2 ^ 15 = v.natAbs := by
    have hone : (2 : ℚ) ^ (-15 : ℤ) * 2 ^ 15 = 1 := by norm_num [zpow_neg]
    rw [mul_assoc, hone, mul_one]
  rw [hval, exactValue_eq, ← withSign_mul, hscale, Nat.cast_natAbs, withSign]
  rcases lt_or_ge v 0 with h | h
  · simp [h, abs_of_neg h]
  · simp [not_lt.mpr h, abs_of_nonneg h]

section
variable {f : FmtA} {x : Ctx}

theorem toInteger_fin (rm : BitVec 2) (n : Bool) (m : Nat) (e i : Int)
    (hi : i = if n then -((roundAt rm n m e 0).1 : Int) else (roundAt rm n m e 0).1) :
    toInteger rm (.fin n m e) = if i < -(2 ^ 63 : Nat) then (BitVec.intMin 64, 0x010) else
      if ((2 ^ 63 : Nat) : Int) ≤ i then (BitVec.intMax 64, 0x010) else
      (BitVec.ofInt 64 i, if (roundAt rm n m e 0).2 then 0x100 else 0) := by
  subst hi
  rfl

end

/-- Settles O18: each conversion's value by the kind of its operand; Q15 numbers fit the significand of both formats. -/
theorem floatConversions : Obligations.FloatConversions := by
  intro s k c f h8 h2 x t o a fin
  have ho : otherFmt (fmtOf f) = o := by
    rw [fmtOf_eq]; cases h : f.hi.getLsbD 1 <;> simp only [o, h] <;> rfl
  have ha : fget f x f.rs1 = a := fget_eq f x _
  refine ⟨fun h => ?_, fun h => ?_⟩
  · have hcvtf (v q) (hv : fres (roundSigned t x.fmode (rget x f.rs1).toInt 0) = (v, q)) : fin .fcvtf 2 0x10 v q :=
      fop_ends_same (unary := true) ⟨by decide, by decide⟩ h8 (.inr h2) h hv
    have hcvtp (v q) (hv : fres (convertF o t x.fmode ((rget x f.rs1).toNat % (2 * o.signBit))) = (v, q)) : fin .fcvtp 2 0x12 v q :=
      fop_ends_same (unary := true) ⟨by decide, by decide⟩ h8 (.inr h2) h (by rw [← ho] at hv; exact hv)
    have hcvti (v q) (hv : toInteger x.fmode a = (v, q)) : fin .fcvti 2 0x11 v q :=
      fop_ends_same (unary := true) ⟨by decide, by decide⟩ h8 (.inr h2) h (by rw [ha]; exact hv)
    have hftoq (v q) (hv : toQ15 x.fmode a = (v, q)) : fin .ftoq 2 0x13 v q :=
      fop_ends_same (unary := true) ⟨by decide, by decide⟩ h8 (.inr h2) h (by rw [ha]; exact hv)
    refine ⟨hcvtf _ _ rfl, fun n m e hn => hcvtp _ _ ?_, fun n hn => hcvtp _ _ ?_, fun b g hn => hcvtp _ _ ?_,
      fun b g hn => ⟨hcvti _ _ (by rw [hn]; rfl), hftoq _ _ (by rw [hn]; rfl)⟩,
      fun n hn => ⟨hcvti _ _ (by rw [hn]; rfl), hftoq _ _ (by rw [hn]; cases n <;> rfl)⟩,
      fun n m e hn => ⟨⟨fun hlo hhi => hcvti _ _ ?_, fun hlo => hcvti _ _ ?_, fun hhi => hcvti _ _ ?_⟩, hftoq _ _ ?_⟩⟩
    · rw [convertF, hn]; rfl
    · rw [convertF, hn]; rfl
    · rw [convertF, hn]; rfl
    · rw [hn, toInteger_fin _ _ _ _ _ rfl, if_neg (not_lt.mpr hlo), if_neg (not_le.mpr hhi)]
    · rw [hn, toInteger_fin _ _ _ _ _ rfl, if_pos hlo]
    · rw [hn, toInteger_fin _ _ _ _ _ rfl, if_neg (by omega), if_pos hhi]
    · rw [hn, toQ15, sat16_eq]; rfl
  · have hv := BitVec.toInt_lt (x := (rget x f.rs1).setWidth 16)
    have hv' := BitVec.le_toInt (x := (rget x f.rs1).setWidth 16)
    have hfmt : 15 ≤ (fmtOf f).frac ∧ 16 ≤ (fmtOf f).bias := by rw [fmtOf_eq]; split <;> decide
    obtain ⟨hflags, n, m, e, hunpack, hval, hzero⟩ :=
      roundSigned_q15 (fmtOf_facts f) hfmt.1 hfmt.2 x.fmode (v := q15Operand x f.rs1) hv' hv
    refine ⟨_, fop_ends_same (unary := true) ⟨by decide, by decide⟩ h8 (.inr h2) h ?_, n, m, e, hunpack, hval, hzero⟩
    rw [q15_eq, fres, hflags]

end Sys2Proof.Proofs
end

section
/-! Proofs of the statements of spec/04 on points (R105 to R107), with what the device instructions share (R92 to R96). -/

namespace Sys2Proof.Proofs
open Sys2Proof Sys2Proof.Machine

/-! ### Tables and tasks -/

/-- Setting an entry that is not the default leaves the others as they read. -/
theorem tget_tset_other_of_ne {α : Type} [DecidableEq α] {d : α} {i j : Nat} (t : Table α) {x : α} (hx : x ≠ d) (hij : j ≠ i) :
    tget d (tset d t i x) j = tget d t j := by
  induction t with
  | nil =>
    simp only [tset, hx, if_false, tget, hij]
    split <;> rfl
  | cons e t ih =>
    obtain ⟨k, v⟩ := e
    simp only [tset, hx, if_false]
    split
    · rename_i hlt
      simp only [tget, hij, if_false]
      split
      · rw [if_neg (by omega), if_pos (by omega)]
      · rfl
    · split
      · rename_i hk
        subst hk
        simp only [tget, hij, if_false]
      · simp only [tget, ih]

/-- Changing a task to one that is not empty changes that task alone. -/
theorem setTask_onlyTask {s : State} {c : Nat} {g : Task → Task} (h : g (taskAt s c) ≠ {}) : OnlyTask s (setTask s c g) c g :=
  ⟨rfl, tget_tset_ne_default _ s.tasks h, fun _ hd => tget_tset_other_of_ne s.tasks h hd⟩

theorem OnlyTask.trans {s t u : State} {c : Nat} {g h : Task → Task} (h1 : OnlyTask s t c g) (h2 : OnlyTask t u c h) :
    OnlyTask s u c (fun τ => h (g τ)) := by
  obtain ⟨hs1, hc1, hd1⟩ := h1
  obtain ⟨hs2, hc2, hd2⟩ := h2
  exact ⟨by rw [hs2, hs1], by rw [hc2, hc1], fun d hd => by rw [hd2 d hd, hd1 d hd]⟩

theorem advance_ne_default {x : Ctx} {cost : Nat} (h : 0 < cost) : movedOn x cost ≠ {} := by
  intro e
  have hsteps : 0 < (movedOn x cost).steps := advance_steps_pos (Nat.add_pos_right _ h)
  rw [e] at hsteps
  exact lt_irrefl 0 hsteps

/-! ### What a fetch leaves -/

section
variable (s : State) (c : Nat)

@[simp] theorem fetched_tasks : (fetched s c).tasks = s.tasks := correctErrors_tasks _ _ _
@[simp] theorem fetched_larder : (fetched s c).larder = s.larder := by rw [fetched_frame]
@[simp] theorem fetched_suites : (fetched s c).suites = s.suites := suites_corrected _ _ _
@[simp] theorem pointCfg_fetched (e : Nat) : pointCfg (fetched s c) e = pointCfg s e := by rw [fetched_frame]; rfl
@[simp] theorem mayRead_fetched (u e : Nat) : mayRead (fetched s c) u e = mayRead s u e := by rw [fetched_frame]; rfl
@[simp] theorem queueAt_fetched (q : Nat) : queueAt (fetched s c) q = queueAt s q := by rw [fetched_frame]; rfl
@[simp] theorem mayPut_fetched (u q : Nat) : mayPut (fetched s c) u q = mayPut s u q := by rw [fetched_frame]; rfl
@[simp] theorem ctxMayTake_fetched (d q : Nat) : ctxMayTake (fetched s c) d q = ctxMayTake s d q := by rw [fetched_frame]; rfl
@[simp] theorem reservationEnd_fetched (p : Producer) : reservationEnd (fetched s c) p = reservationEnd s p := by rw [fetched_frame]; rfl

end

/-! ### How a device instruction ends (R88, R92 to R96) -/

section
variable {s t : State} {k c cost : Nat} {w : BitVec 32} {act : Env → State → Ctx → Did} {x : Ctx}

/-- A check that the suite fails is counted, and the instruction takes a DEVICE fault. -/
theorem runInsn_denied {r : Reason} (h : Issues s k c cost) (hw : (readWord (isMgmt k) w).map (·.cost) = some cost)
    (ha : act (issuing s k c w cost) (fetched s c) (contextAt s c) = .denied r) :
    runInsn k w act s = takeFault (countThreshold (fetched s c) (ctxSuite c)) c k .device r 0 w := by
  rw [runInsn_issues act h hw, ha]; rfl

/-- The instruction takes a DEVICE fault. -/
theorem runInsn_device {r : Reason} (h : Issues s k c cost) (hw : (readWord (isMgmt k) w).map (·.cost) = some cost)
    (ha : act (issuing s k c w cost) (fetched s c) (contextAt s c) = deviceFault r) :
    runInsn k w act s = takeFault (fetched s c) c k .device r 0 w := by
  rw [runInsn_issues act h hw, ha]; rfl

/-- The instruction waits for its resource. -/
theorem runInsn_waits (h : Issues s k c cost) (hw : (readWord (isMgmt k) w).map (·.cost) = some cost)
    (ha : act (issuing s k c w cost) (fetched s c) (contextAt s c) = .waits t) : runInsn k w act s = t := by
  rw [runInsn_issues act h hw, ha]; rfl

end

/-! ### Points (R105 to R107) -/

section
variable {s : State} {e : Env} {l : List Nat} {el : Nat} {half read : Bool}

/-- R105: what the suite must hold on a point that it reads or writes. -/
def PointRights (s : State) (c el : Nat) (l : List Nat) (read : Bool) : Prop :=
  el ∈ l ∧ if read then mayRead s (ctxSuite c) el = true else (pointCfg s el).owner = ctxSuite c

theorem pointFault_unlisted (hel : el < 0x4000) (h : ¬ PointRights s e.c el l read) :
    pointFault s e l el half read = some (.denied .binding) := by
  rw [pointFault, if_neg (by omega), if_pos]
  by_contra hc
  refine h ?_
  cases read <;> simpa [PointRights] using hc

theorem pointFault_halfOther (hel : el < 0x4000) (h : PointRights s e.c el l read) (hh : half = true) (ht : (pointCfg s el).type ≠ tyTime80) :
    pointFault s e l el half read = some (deviceFault .range) := by
  obtain ⟨hl, hr⟩ := h
  rw [pointFault, if_neg (by omega), if_neg, if_pos (by simp [hh, ht])]
  cases read <;> simpa [hl] using hr

theorem pointFault_none (hel : el < 0x4000) (h : PointRights s e.c el l read) (ht : half = true → (pointCfg s el).type = tyTime80) :
    pointFault s e l el half read = none := by
  obtain ⟨hl, hr⟩ := h
  rw [pointFault, if_neg (by omega), if_neg, if_neg (by simpa using ht)]
  cases read <;> simpa [hl] using hr

end

section
variable {s : State} {e : Env} {x : Ctx} {f : FmtI} {half : Bool}

theorem readPoint_faults {d : Did} (h : pointFault s e (taskAt s e.c).desc.inList (pointElement f x) half true = some d) :
    readPoint f half e s x = d := by
  simp only [readPoint, h]

/-- R105, R106: a read gives the snapshot's value. -/
theorem readPoint_reads (h : pointFault s e (taskAt s e.c).desc.inList (pointElement f x) half true = none) :
    readPoint f half e s x = .next s (rset x f.rd (if half then (tget { v := 0 } (taskAt s e.c).snapshot (pointElement f x)).hi.setWidth 64
      else canonValue (pointCfg s (pointElement f x)).type (tget { v := 0 } (taskAt s e.c).snapshot (pointElement f x)).v)) := by
  simp only [readPoint, h]

theorem writePoint_faults {d : Did} (h : pointFault s e (taskAt s e.c).desc.outList (pointElement f x) half false = some d) :
    writePoint f half e s x = d := by
  simp only [writePoint, h]

/-- What a write stages. -/
def stagedPoint (ty el : Nat) (half : Bool) (v : BitVec 64) (g : Staged) : Staged :=
  if half then { g with highs := tput g.highs el (v.setWidth 16) }
  else { g with points := tput g.points el { v := canonValue ty v } }

/-- R107: a write stages the value. -/
theorem writePoint_writes (h : pointFault s e (taskAt s e.c).desc.outList (pointElement f x) half false = none) :
    writePoint f half e s x =
      .next (stage s e.c (stagedPoint (pointCfg s (pointElement f x)).type (pointElement f x) half (rget x f.rd))) x := by
  simp only [writePoint, h]
  rfl

end

/-- The context's task after it has staged something and moved on. -/
theorem stage_onlyTask {s : State} {c cost : Nat} {g : Staged → Staged} (y : Ctx) (hcost : 0 < cost)
    (hne : ({ taskAt s c with cycle := (taskAt s c).cycle.map (fun y => { y with staged := g y.staged }) } : Task) ≠ {}) :
    OnlyTask s (putCtx (stage s c g) c (movedOn y cost)) c (fun τ => { τ with
      ctx := movedOn y cost, cycle := τ.cycle.map (fun y => { y with staged := g y.staged }) }) :=
  OnlyTask.trans (setTask_onlyTask hne) (setTask_onlyTask (g := fun t => { t with ctx := movedOn y cost })
    fun e => advance_ne_default hcost (congrArg Task.ctx e))

/-- The list and the rights that a point instruction goes by. -/
def pointList (s : State) (c : Nat) (read : Bool) : List Nat := if read then (taskAt s c).desc.inList else (taskAt s c).desc.outList

section
variable {s : State} {k c fn : Nat} {f : FmtI} {half read : Bool}

theorem pointRights_fetched {el : Nat} {l : List Nat} : PointRights (fetched s c) c el l read ↔ PointRights s c el l read := by
  simp only [PointRights, mayRead_fetched, pointCfg_fetched]

/-- A point instruction whose check fails does what the check says. -/
theorem pointAct_faults {w : BitVec 32} {d : Did}
    (h : pointFault (fetched s c) (issuing s k c w 2) (pointList s c read) (elementOf f (contextAt s c)) half read = some d) :
    (if read then readPoint f half else writePoint f half) (issuing s k c w 2) (fetched s c) (contextAt s c) = d := by
  cases read with
  | true => exact readPoint_faults (e := issuing s k c w 2) (by erw [taskAt_fetched]; exact h)
  | false => exact writePoint_faults (e := issuing s k c w 2) (by erw [taskAt_fetched]; exact h)

/-- R105: RANGE, for an element out of range or a half of a point of another type. -/
theorem pointAct_range (h : Issues s k c 2) (hfn : fn < 4) (hbad : 0x4000 ≤ elementOf f (contextAt s c) ∨
      PointRights s c (elementOf f (contextAt s c)) (pointList s c read) read ∧ half = true ∧
        (pointCfg s (elementOf f (contextAt s c))).type ≠ tyTime80) :
    runInsn k (encI 0x41 fn f) (if read then readPoint f half else writePoint f half) s =
      takeFault (fetched s c) c k .device .range 0 (encI 0x41 fn f) := by
  refine runInsn_device h (pnt_cost hfn) (pointAct_faults ?_)
  by_cases he : elementOf f (contextAt s c) < 0x4000
  · obtain ⟨hr, hh, ht⟩ := hbad.resolve_left (by omega)
    exact pointFault_halfOther he (pointRights_fetched.mpr hr) hh (by rw [pointCfg_fetched]; exact ht)
  · rw [pointFault, if_pos (by omega)]

/-- R105: BINDING, counted as a failed check of the suite. -/
theorem pointAct_binding (h : Issues s k c 2) (hfn : fn < 4) (he : elementOf f (contextAt s c) < 0x4000)
    (hr : ¬ PointRights s c (elementOf f (contextAt s c)) (pointList s c read) read) :
    runInsn k (encI 0x41 fn f) (if read then readPoint f half else writePoint f half) s =
      takeFault (countThreshold (fetched s c) (ctxSuite c)) c k .device .binding 0 (encI 0x41 fn f) :=
  runInsn_denied h (pnt_cost hfn) (pointAct_faults (pointFault_unlisted he (mt pointRights_fetched.mp hr)))

/-- R105, R106: PRD and PRDH. -/
theorem readPoint_retires (h : Issues s k c 2) (hfn : fn < 4) (he : elementOf f (contextAt s c) < 0x4000)
    (hr : PointRights s c (elementOf f (contextAt s c)) (pointList s c true) true)
    (ht : half = true → (pointCfg s (elementOf f (contextAt s c))).type = tyTime80) :
    runInsn k (encI 0x41 fn f) (readPoint f half) s = retired s c 2 (rset (contextAt s c) f.rd
      (if half then (tget { v := 0 } (taskAt s c).snapshot (elementOf f (contextAt s c))).hi.setWidth 64
       else canonValue (pointCfg s (elementOf f (contextAt s c))).type (tget { v := 0 } (taskAt s c).snapshot (elementOf f (contextAt s c))).v)) := by
  have hnone := pointFault_none (e := issuing s k c (encI 0x41 fn f) 2) he (pointRights_fetched.mpr hr) (by rw [pointCfg_fetched]; exact ht)
  rw [show pointList s c true = (taskAt (fetched s c) c).desc.inList by rw [taskAt_fetched]; rfl] at hnone
  have hdid := readPoint_reads (f := f) (x := contextAt s c) hnone
  rw [pointCfg_fetched] at hdid
  erw [taskAt_fetched] at hdid
  exact runInsn_next h (pnt_cost hfn) hdid

/-- R105, R107: PWR and PWRH. -/
theorem writePoint_stages (h : Issues s k c 2) (hfn : fn < 4) (he : elementOf f (contextAt s c) < 0x4000)
    (hr : PointRights s c (elementOf f (contextAt s c)) (pointList s c false) false)
    (ht : half = true → (pointCfg s (elementOf f (contextAt s c))).type = tyTime80) :
    runInsn k (encI 0x41 fn f) (writePoint f half) s = putCtx (stage (fetched s c) c
      (stagedPoint (pointCfg s (elementOf f (contextAt s c))).type (elementOf f (contextAt s c)) half (rget (contextAt s c) f.rd))) c
      (movedOn (contextAt s c) 2) := by
  have hnone := pointFault_none (e := issuing s k c (encI 0x41 fn f) 2) he (pointRights_fetched.mpr hr) (by rw [pointCfg_fetched]; exact ht)
  rw [show pointList s c false = (taskAt (fetched s c) c).desc.outList by rw [taskAt_fetched]; rfl] at hnone
  have hdid := writePoint_writes (f := f) (x := contextAt s c) hnone
  rw [pointCfg_fetched] at hdid
  exact runInsn_completes h (pnt_cost hfn) hdid

/-- A task with an output list is not an empty one, whatever it has staged. -/
theorem staged_ne_default {g : Staged → Staged} {e : Nat} (he : e ∈ (taskAt s c).desc.outList) :
    ({ taskAt (fetched s c) c with
      cycle := (taskAt (fetched s c) c).cycle.map (fun y => { y with staged := g y.staged }) } : Task) ≠ {} := by
  intro hd
  have hl := congrArg (fun t => t.desc.outList) hd
  rw [taskAt_fetched] at hl
  change (taskAt s c).desc.outList = [] at hl
  rw [hl] at he
  exact List.not_mem_nil he

end

/-- Each point instruction runs as its table row says. -/
theorem pointTable_runs (k : Nat) (f : FmtI) (s : State) : ∀ r ∈ pointTable, r.2.1 < 4 ∧
    exec (r.1 k f) s = .next (runInsn k (encI 0x41 r.2.1 f) (if r.2.2.2 then readPoint f r.2.2.1 else writePoint f r.2.2.1) s) := by
  simp only [pointTable, List.forall_mem_cons, List.not_mem_nil, false_imp_iff, implies_true, and_true]
  exact ⟨⟨by decide, rfl⟩, ⟨by decide, rfl⟩, ⟨by decide, rfl⟩, ⟨by decide, rfl⟩⟩

/-- Settles O19: each point instruction ends by its checks, in the order of R105. -/
theorem pointInstructions : Obligations.PointInstructions := by
  intro s k c f h x e d cfg
  refine ⟨fun he hl hr => ⟨?_, fun ht => ?_⟩, fun he hl hr => ⟨?_, fun ht => ?_⟩, fun r hmem => ?_⟩
  · exact congrArg _ (readPoint_retires h (by decide) he ⟨hl, hr⟩ (by simp))
  · exact congrArg _ (readPoint_retires h (by decide) he ⟨hl, hr⟩ (fun _ => ht))
  · exact ⟨_, congrArg Host.Outcome.next (writePoint_stages (fn := 2) (half := false) h (by decide) he ⟨hl, hr⟩ (by simp)),
      stage_onlyTask x two_pos (staged_ne_default hl)⟩
  · exact ⟨_, congrArg Host.Outcome.next (writePoint_stages (fn := 3) (half := true) h (by decide) he ⟨hl, hr⟩ (fun _ => ht)),
      stage_onlyTask x two_pos (staged_ne_default hl)⟩
  · obtain ⟨hfn, hexec⟩ := pointTable_runs k f s r hmem
    intro l rights
    rw [hexec]
    refine ⟨fun hbad => congrArg _ (pointAct_range h hfn (hbad.imp id ?_)), fun he hr => congrArg _ (pointAct_binding h hfn he ?_)⟩
    · exact fun ⟨hl, hr, hhalf, ht⟩ => ⟨⟨hl, hr⟩, hhalf, ht⟩
    · exact fun ⟨hl, hr'⟩ => hr ⟨hl, hr'⟩

/-! ### The forms of point values (R106) -/

theorem sext_eq {n : Nat} (hn : 0 < n) (v : BitVec 64) : sext n v = (v.setWidth n).signExtend 64 := by
  rw [sext, signed_ofNat n v.toNat hn, BitVec.ofNat_toNat]; rfl

theorem zext_eq {n : Nat} (v : BitVec 64) : zext n v = (v.setWidth n).setWidth 64 := by
  rw [zext, ← BitVec.toNat_setWidth, BitVec.ofNat_toNat]

/-- The low bits of a value extended from them are those bits. -/
theorem setWidth_signExtend {n : Nat} (hn : n ≤ 64) (b : BitVec n) : (b.signExtend 64).setWidth n = b := by
  ext i hi
  simp [BitVec.getElem_signExtend, hi, show i < 64 by omega]

theorem sext_sext {n : Nat} (hn : 0 < n) (hn' : n ≤ 64) (v : BitVec 64) : sext n (sext n v) = sext n v := by
  rw [sext_eq hn, sext_eq hn, setWidth_signExtend hn']

theorem zext_zext {n : Nat} (hn : n ≤ 64) (v : BitVec 64) : zext n (zext n v) = zext n v := by
  rw [zext_eq, zext_eq, BitVec.setWidth_setWidth_of_le _ hn, BitVec.setWidth_eq]

/-- Settles O20: each form keeps low bits, and a value made of them keeps itself. -/
theorem pointValuesAreCanonical : Obligations.PointValuesAreCanonical := by
  intro v
  refine ⟨rfl, sext_eq (by decide) v, sext_eq (by decide) v, zext_eq v, zext_eq v, rfl, rfl, rfl, fun ty => ?_⟩
  unfold canonValue
  split
  · split <;> simp
  · split
    · exact sext_sext (by decide) (by decide) v
    · split
      · exact zext_zext (by decide) v
      · split
        · exact sext_sext (by decide) (by decide) v
        · rfl

end Sys2Proof.Proofs
end

section
/-! Proofs of the statements of spec/04 on packets and items (R108 to R111, R443). -/

namespace Sys2Proof.Proofs
open Sys2Proof Sys2Proof.Machine

/-! ### Result words and device words (R92 to R96) -/

theorem byte_lt (st : Status) : Status.byte st < 256 := by
  obtain ⟨cls, reason⟩ := st
  have hc : StatusClass.code cls < 8 := by cases cls <;> decide
  have hr : Reason.code reason < 32 := by cases reason <;> decide
  simp only [Status.byte]
  omega

/-- Bits of INFO above its field fall out of the result word. -/
theorem ofNat_info (b info : Nat) : BitVec.ofNat 64 (b + info % 2 ^ 32 * 2 ^ 32) = BitVec.ofNat 64 (b + info * 2 ^ 32) := by
  have hsplit : b + info * 2 ^ 32 = b + info % 2 ^ 32 * 2 ^ 32 + 2 ^ 64 * (info / 2 ^ 32) := by
    conv_lhs => rw [← Nat.mod_add_div info (2 ^ 32)]
    ring
  apply BitVec.eq_of_toNat_eq
  rw [BitVec.toNat_ofNat, BitVec.toNat_ofNat, hsplit, Nat.add_mul_mod_self_left]

/-- R94: the device result word is the status byte with COUNT and INFO. -/
theorem deviceWord_eq (st : Status) (count info : Nat) : deviceWord st count info = resultWord (Status.byte st) count info := by
  have hb : Status.byte st % 2 ^ 8 * 2 ^ 0 = Status.byte st := by rw [pow_zero, mul_one]; exact Nat.mod_eq_of_lt (byte_lt st)
  rw [deviceWord, resultWord, ← ofNat_info, pack, List.foldl, List.foldl, List.foldl, List.foldl, zero_add, hb]

theorem answer_eq (rd : BitVec 5) (st : Status) (count info : Nat) (s : State) (x : Ctx) :
    answer rd st count info s x = .next s (rset x rd (resultWord (Status.byte st) count info)) := by
  rw [answer, deviceWord_eq]

theorem resultWord_zero : resultWord 0 0 0 = 0 := rfl

theorem readWord_dev (m : Bool) {op fn : Nat} (f : FmtA) (hf : fn < 256) (hop : op ∈ [0x40, 0x42, 0x43, 0x44, 0x45, 0x46, 0x47]) :
    readWord m (encA op fn f) = deviceInfo m op f.rd.toNat f.rs1.toNat f.rs2.toNat (f.hi.toNat * 256 + fn) := by
  have ho : op < 128 := by
    simp only [List.mem_cons, List.not_mem_nil, or_false] at hop
    omega
  obtain ⟨h1, _, h3, h4, h5, h6, _⟩ := encA_fields op fn f ho hf
  simp only [List.mem_cons, List.not_mem_nil, or_false] at hop
  rcases hop with rfl | rfl | rfl | rfl | rfl | rfl | rfl <;> simp only [readWord, h1, h3, h4, h5, h6]

/-- fn[9:8] is zero, or it makes the instruction wait on a management core. -/
def WaitForm (m : Bool) (f : FmtA) : Prop := f.hi = 0 ∨ f.hi = 1 ∧ m = true

theorem waitBits_of_form {m : Bool} {f : FmtA} (h : WaitForm m f) : waitBits m true f.hi.toNat = true := by
  rcases h with h | ⟨h, hm⟩
  · rw [h]; rfl
  · rw [h, hm]; rfl

theorem hi_split {f : FmtA} {fn : Nat} (hf : fn < 256) :
    (f.hi.toNat * 256 + fn) % 256 = fn ∧ (f.hi.toNat * 256 + fn) / 256 = f.hi.toNat := by omega

/-- R108: a queue operation is legal where the fields that it does not use are zero. -/
theorem que_cost {m : Bool} {fn : Nat} {f : FmtA} (hf : fn < 256) (hc : queCost fn ≠ 0)
    (hi : f.hi = 0 ∨ fn = 0 ∧ WaitForm m f) (h2 : fn = 0x01 ∨ fn = 0x08 ∨ fn = 0x0A → f.rs2 = 0)
    (h12 : 0x03 ≤ fn ∧ fn ≤ 0x06 → f.rs1 = 0 ∧ f.rs2 = 0) :
    (readWord m (encA 0x42 fn f)).map (·.cost) = some (queCost fn) := by
  obtain ⟨hmod, hdiv⟩ := hi_split (f := f) hf
  have hwait : waitBits m (fn == 0) f.hi.toNat = true := by
    rcases hi with h | ⟨rfl, h⟩
    · rw [h]; rfl
    · exact waitBits_of_form h
  rw [readWord_dev m f hf (by decide)]
  simp only [deviceInfo, hmod, hdiv]
  refine legalIf_cost _ _ ?_
  rw [hwait]
  split
  · rename_i h; rw [toNat_beq_zero]; simpa [hc] using h2 (by simpa [or_assoc] using h)
  · split
    · rename_i h; rw [toNat_beq_zero, toNat_beq_zero]; simpa [hc] using h12 (by simpa using h)
    · simpa using hc

/-! ### Packets (R108, R109) -/

/-- A producer that spends a credit has one less in hand. -/
theorem creditsInHand_spend (q : Queue) (who : Producer) : creditsInHand (spendCredit q who) who = creditsInHand q who - 1 := by
  have hfind : (spendCredit q who).attached.find? (fun a => a.who == who) = (q.attached.find? (fun a => a.who == who)).map
      (fun a => { a with hand := a.hand - 1, spent := a.spent + 1, waiting := false, reservedUntil := none }) := by
    simp only [spendCredit, mapWhere]
    induction q.attached with
    | nil => rfl
    | cons a l ih =>
      simp only [List.map_cons, List.find?_cons]
      by_cases h : (a.who == who) = true
      · simp [h]
      · simp only [h, if_false, Bool.false_eq_true]
        exact ih
  simp only [creditsInHand, attachment, hfind]
  cases q.attached.find? (fun a => a.who == who) <;> rfl

/-- A queue at which a producer holds a credit is not an empty one. -/
theorem queue_ne_default {q : Queue} {who : Producer} (h : creditsInHand q who ≠ 0) : spendCredit q who ≠ {} := by
  intro e
  have hempty : (spendCredit q who).attached = [] := congrArg Queue.attached e
  simp only [spendCredit, mapWhere, List.map_eq_nil_iff] at hempty
  simp [creditsInHand, attachment, hempty] at h

theorem queueAt_setQueue {s : State} {q : Nat} {g : Queue → Queue} (h : g (queueAt s q) ≠ {}) : queueAt (setQueue s q g) q = g (queueAt s q) :=
  tget_tset_ne_default _ _ h

section
variable {s : State} {e : Env} {f : FmtA} {x : Ctx} {n q : Nat}

/-- The conditions of QOPEN that come before the packet's and the credit's. -/
structure Opens (s : State) (c : Nat) (f : FmtA) (x : Ctx) (q : Nat) : Prop where
  bound : putQueue s c (rget x f.rs1).toNat = q
  queue : q ≠ 0
  prio : (rget x f.rs2).toNat < 8
  rights : mayPut s (ctxSuite c) q = true

theorem openPacket_qfault (h : Opens s e.c f x q) (hq : (queueAt s q).qfault = true) : openPacket f e s x = deviceFault .error := by
  obtain ⟨hbound, hqueue, hprio, hrights⟩ := h
  simp [openPacket, hbound, hqueue, hprio, hrights, hq]

theorem openPacket_busy (h : Opens s e.c f x q) (hq : (queueAt s q).qfault = false) (hp : x.packet ≠ none) :
    openPacket f e s x = answer f.rd (stRefused .state) 0 0 s x := by
  obtain ⟨hbound, hqueue, hprio, hrights⟩ := h
  have hsome : x.packet.isSome = true := Option.isSome_iff_ne_none.mpr hp
  simp [openPacket, hbound, hqueue, hprio, hrights, hq, hsome]

theorem openPacket_waits (h : Opens s e.c f x q) (hq : (queueAt s q).qfault = false) (hp : x.packet = none)
    (hcredit : creditsInHand (queueAt s q) (.task e.c (rget x f.rs1).toNat) = 0) :
    openPacket f e s x = if waitsFor f then .waits (markWaiting s q (.task e.c (rget x f.rs1).toNat)) else
      answer f.rd (stDelayed .credit) 0 0 (markWaiting s q (.task e.c (rget x f.rs1).toNat)) x := by
  obtain ⟨hbound, hqueue, hprio, hrights⟩ := h
  simp [openPacket, hbound, hqueue, hprio, hrights, hq, hp, hcredit]

theorem openPacket_opens (h : Opens s e.c f x q) (hq : (queueAt s q).qfault = false) (hp : x.packet = none)
    (hcredit : creditsInHand (queueAt s q) (.task e.c (rget x f.rs1).toNat) ≠ 0) :
    openPacket f e s x = answer f.rd stDone (creditsInHand (queueAt s q) (.task e.c (rget x f.rs1).toNat) - 1) 0
      (setQueue s q (fun u => spendCredit u (.task e.c (rget x f.rs1).toNat)))
      { x with packet := some { binding := (rget x f.rs1).toNat, queue := q, prio := (rget x f.rs2).toNat
                                credit := creditOf (queueAt s q) (.task e.c (rget x f.rs1).toNat) } } := by
  obtain ⟨hbound, hqueue, hprio, hrights⟩ := h
  have hleft : creditsInHand (queueAt (setQueue s q (fun u => spendCredit u (.task e.c (rget x f.rs1).toNat))) q)
      (.task e.c (rget x f.rs1).toNat) = creditsInHand (queueAt s q) (.task e.c (rget x f.rs1).toNat) - 1 := by
    rw [queueAt_setQueue (g := fun u => spendCredit u (.task e.c (rget x f.rs1).toNat)) (queue_ne_default hcredit), creditsInHand_spend]
  simp [openPacket, hbound, hqueue, not_le.mpr hprio, hrights, hq, hp, hcredit, hleft]

theorem openPacket_unbound (h : putQueue s e.c (rget x f.rs1).toNat = 0) : openPacket f e s x = deviceFault .binding := by
  simp [openPacket, h]

theorem openPacket_priority (h : putQueue s e.c (rget x f.rs1).toNat ≠ 0) (hp : 8 ≤ (rget x f.rs2).toNat) :
    openPacket f e s x = deviceFault .range := by
  simp [openPacket, h, hp]

end

section
variable {s : State} {e : Env} {f : FmtA} {x : Ctx} {rd : BitVec 5} {bs : List Byte} {p : OpenPacket} {g : OpenPacket → OpenPacket}

theorem appendBytes_closed (h : x.packet = none) : appendBytes rd bs s x = answer rd (stRefused .state) 0 0 s x := by
  simp only [appendBytes, h]

theorem appendBytes_long (h : x.packet = some p) (hlen : (queueAt s p.queue).itemMax < p.data.length + bs.length) :
    appendBytes rd bs s x = answer rd (stRefused .size) 0 0 s x := by
  simp only [appendBytes, h, if_pos hlen]

theorem appendBytes_fits (h : x.packet = some p) (hlen : p.data.length + bs.length ≤ (queueAt s p.queue).itemMax) :
    appendBytes rd bs s x = answer rd stDone 0 0 s { x with packet := some { p with data := p.data ++ bs } } := by
  simp only [appendBytes, h, if_neg (not_lt.mpr hlen)]

theorem onPacket_closed (h : x.packet = none) : onPacket rd g s x = answer rd (stRefused .state) 0 0 s x := by
  simp only [onPacket, h]

theorem onPacket_open (h : x.packet = some p) : onPacket rd g s x = answer rd stDone 0 0 s { x with packet := some (g p) } := by
  simp only [onPacket, h]

theorem discardPacket_closed (h : x.packet = none) : discardPacket f e s x = answer f.rd (stRefused .state) 0 0 s x := by
  simp only [discardPacket, h]

theorem discardPacket_open (h : x.packet = some p) : discardPacket f e s x = answer f.rd stDone 0 0
    (setQueue s p.queue (fun q => returnCredit q p.credit (reservationEnd s (.task e.c p.binding)))) { x with packet := none } := by
  simp only [discardPacket, h]

theorem releasePacket_closed (h : x.packet = none) : releasePacket f e s x = answer f.rd (stRefused .state) 0 0 s x := by
  simp only [releasePacket, h]

theorem releasePacket_qfault (h : x.packet = some p) (hq : (queueAt s p.queue).qfault = true) :
    releasePacket f e s x = deviceFault .error := by
  simp only [releasePacket, h, if_pos hq]

theorem releasePacket_empty (h : x.packet = some p) (hq : (queueAt s p.queue).qfault = false) (hdata : p.data = []) :
    releasePacket f e s x = answer f.rd (stRefused .size) 0 0 s x := by
  simp [releasePacket, h, hq, hdata]

/-- What a release hands on. -/
def releasedOf (p : OpenPacket) : Released := { binding := p.binding, queue := p.queue, prio := p.prio, credit := p.credit, data := p.data }

theorem releasePacket_posts (h : x.packet = some p) (hq : (queueAt s p.queue).qfault = false) (hdata : p.data ≠ []) :
    releasePacket f e s x = answer f.rd stDone 0 0 (if isFoundation e.c then enterItem s p.queue (packetItem e.c (releasedOf p))
      else stage s e.c (fun g => { g with packets := g.packets ++ [releasedOf p] })) { x with packet := none } := by
  simp only [releasePacket, h, hq, Bool.false_eq_true, if_false, List.isEmpty_iff, hdata]
  rfl

/-- R108: a QPB's bytes are in the window and free of uncorrectable errors. -/
structure BlockAppends (s : State) (e : Env) (a : BitVec 64) (n : Nat) : Prop where
  low : 1 ≤ n
  high : n ≤ 64
  rights : windowAllows e.u .load a.toNat n = true
  clean : uncorrectableIn s (e.u.winBase + a.toNat) n = none

theorem appendBlock_range (h : (rget x f.rs2).toNat = 0 ∨ 64 < (rget x f.rs2).toNat) : appendBlock f e s x = deviceFault .range := by
  simp [appendBlock, h]

theorem appendBlock_reads (h : BlockAppends s e (rget x f.rs1) (rget x f.rs2).toNat) : appendBlock f e s x =
    appendBytes f.rd (readBytes s.sram (e.u.winBase + (rget x f.rs1).toNat) (rget x f.rs2).toNat)
      (correctErrors s (e.u.winBase + (rget x f.rs1).toNat) (rget x f.rs2).toNat) x := by
  obtain ⟨hlow, hhigh, hrights, hclean⟩ := h
  simp [appendBlock, hrights, memoryFault, hclean, Nat.one_le_iff_ne_zero.mp hlow, not_lt.mpr hhigh]

end

section
variable {s t : State} {k c cost : Nat} {w : BitVec 32} {act : Env → State → Ctx → Did} {y : Ctx} {rd : BitVec 5} {st : Status}
  {count info : Nat}

/-- The instruction answers with a result word. -/
theorem runInsn_answers (h : Issues s k c cost) (hw : (readWord (isMgmt k) w).map (·.cost) = some cost)
    (ha : act (issuing s k c w cost) (fetched s c) (contextAt s c) = answer rd st count info t y) :
    runInsn k w act s = putCtx t c (movedOn (rset y rd (resultWord (Status.byte st) count info)) cost) :=
  runInsn_completes h hw (ha.trans (answer_eq rd st count info t y))

theorem runInsn_done (h : Issues s k c cost) (hw : (readWord (isMgmt k) w).map (·.cost) = some cost)
    (ha : act (issuing s k c w cost) (fetched s c) (contextAt s c) = answer rd stDone count info t y) :
    runInsn k w act s = putCtx t c (movedOn (rset y rd (resultWord 0 count info)) cost) := by
  have hend := runInsn_answers h hw ha
  rwa [show Status.byte stDone = 0 from rfl] at hend

theorem runInsn_delayed (h : Issues s k c cost) (hw : (readWord (isMgmt k) w).map (·.cost) = some cost)
    (ha : act (issuing s k c w cost) (fetched s c) (contextAt s c) = answer rd (stDelayed .credit) 0 0 t y) :
    runInsn k w act s = putCtx t c (movedOn (rset y rd (resultWord 0x21 0 0)) cost) := by
  have hend := runInsn_answers h hw ha
  rwa [show Status.byte (stDelayed .credit) = 0x21 from rfl] at hend

theorem runInsn_refusedState (h : Issues s k c cost) (hw : (readWord (isMgmt k) w).map (·.cost) = some cost)
    (ha : act (issuing s k c w cost) (fetched s c) (contextAt s c) = answer rd (stRefused .state) 0 0 t y) :
    runInsn k w act s = putCtx t c (movedOn (rset y rd (resultWord 0x4C 0 0)) cost) := by
  have hend := runInsn_answers h hw ha
  rwa [show Status.byte (stRefused .state) = 0x4C from rfl] at hend

theorem runInsn_refusedSize (h : Issues s k c cost) (hw : (readWord (isMgmt k) w).map (·.cost) = some cost)
    (ha : act (issuing s k c w cost) (fetched s c) (contextAt s c) = answer rd (stRefused .size) 0 0 t y) :
    runInsn k w act s = putCtx t c (movedOn (rset y rd (resultWord 0x52 0 0)) cost) := by
  have hend := runInsn_answers h hw ha
  rwa [show Status.byte (stRefused .size) = 0x52 from rfl] at hend

end

section
variable {s : State} {k c cost : Nat} {w : BitVec 32} {f : FmtA}

theorem putQueue_fetched (n : Nat) : putQueue (fetched s c) c n = putQueue s c n := by
  simp only [putQueue, taskAt_fetched]

theorem putQueue_unbound {n : Nat} (h : 16 ≤ n ∨ (taskAt s c).desc.putQ.getD n 0 = 0) : putQueue s c n = 0 := by
  unfold putQueue
  split
  · exact h.resolve_left (by omega)
  · rfl

theorem opens_fetched {d q : Nat} {x : Ctx} (hn : (rget x f.rs1).toNat < 16) (hbound : (taskAt s c).desc.putQ.getD (rget x f.rs1).toNat 0 = q)
    (hq : q ≠ 0) (hp : (rget x f.rs2).toNat < 8) (hr : mayPut s (ctxSuite c) q = true) (hd : d = c) : Opens (fetched s c) d f x q := by
  subst hd
  exact ⟨by rw [putQueue_fetched, putQueue, if_pos hn, hbound], hq, hp, by rw [mayPut_fetched]; exact hr⟩

theorem qopen_cost (m : Bool) (hf : WaitForm m f) : (readWord m (encA 0x42 0x00 f)).map (·.cost) = some 12 :=
  que_cost (by decide) (by decide) (.inr ⟨rfl, hf⟩) (by omega) (by omega)

theorem qpw_cost (m : Bool) (hi : f.hi = 0) (h2 : f.rs2 = 0) : (readWord m (encA 0x42 0x01 f)).map (·.cost) = some 8 :=
  que_cost (by decide) (by decide) (.inl hi) (fun _ => h2) (by omega)

theorem qpb_cost (m : Bool) (hi : f.hi = 0) : (readWord m (encA 0x42 0x02 f)).map (·.cost) = some 24 :=
  que_cost (by decide) (by decide) (.inl hi) (by omega) (by omega)

/-- QMARK, QRWND, QREL and QDROP take no operands. -/
theorem que_cost_bare (m : Bool) {fn : Nat} (hfn : 3 ≤ fn ∧ fn ≤ 6) (hi : f.hi = 0) (h1 : f.rs1 = 0) (h2 : f.rs2 = 0) :
    (readWord m (encA 0x42 fn f)).map (·.cost) = some (queCost fn) := by
  obtain ⟨hlo, hhi⟩ := hfn
  exact que_cost (by omega) (by interval_cases fn <;> decide) (.inl hi) (by omega) (fun _ => ⟨h1, h2⟩)

/-- A result of the state after an instruction is one of its outcome. -/
theorem next_congr {a b : State} (h : a = b) : (.next a : Host.Outcome State Fault Refusal) = .next b := congrArg _ h

theorem blockAppends_fetched {e : Env} {a : BitVec 64} {n : Nat} (he : e.u = suiteAt s (ctxSuite c)) (hlow : 1 ≤ n) (hhigh : n ≤ 64)
    (hrights : windowAllows (suiteAt s (ctxSuite c)) .load a.toNat n = true)
    (hclean : uncorrectableIn (fetched s c) (sramAddr s c a) n = none) : BlockAppends (fetched s c) e a n :=
  ⟨hlow, hhigh, he ▸ hrights, by rw [he]; exact hclean⟩

theorem queueAt_corrected (c a n q : Nat) : queueAt (correctErrors (fetched s c) a n) q = queueAt s q := by
  rw [corrected_frame]; rfl

theorem readBytes_fetched (c a n : Nat) : readBytes (fetched s c).sram a n = readBytes s.sram a n := readBytes_corrected _ _ _ _ _

end

section
variable {s : State} {k c : Nat} {f : FmtA}

/-- QOPEN on a bound queue that the suite may put into. -/
theorem qopen_cases {q : Nat} (h : Issues s k c 12) (hform : f.hi = 0 ∨ f.hi = 1 ∧ 32 ≤ k)
    (hopens : Opens (fetched s c) c f (contextAt s c) q) (hfault : (queueAt s q).qfault = false) :
    ((contextAt s c).packet ≠ none → exec (.qopen k f) s = .next (answered s c 12 (contextAt s c) f.rd 0x4C 0 0)) ∧
    ((contextAt s c).packet = none → creditsInHand (queueAt s q) (.task c (rget (contextAt s c) f.rs1).toNat) = 0 →
      exec (.qopen k f) s = .next (if f.hi = 0 then
        putCtx (markWaiting (fetched s c) q (.task c (rget (contextAt s c) f.rs1).toNat)) c
          (movedOn (rset (contextAt s c) f.rd (resultWord 0x21 0 0)) 12)
        else markWaiting (fetched s c) q (.task c (rget (contextAt s c) f.rs1).toNat))) ∧
    ((contextAt s c).packet = none → creditsInHand (queueAt s q) (.task c (rget (contextAt s c) f.rs1).toNat) ≠ 0 →
      exec (.qopen k f) s = .next (putCtx (setQueue (fetched s c) q
          (fun u => spendCredit u (.task c (rget (contextAt s c) f.rs1).toNat))) c
        (movedOn (rset { (contextAt s c) with packet := some {
            binding := (rget (contextAt s c) f.rs1).toNat, queue := q, prio := (rget (contextAt s c) f.rs2).toNat
            credit := creditOf (queueAt s q) (.task c (rget (contextAt s c) f.rs1).toNat) } } f.rd
          (resultWord 0 (creditsInHand (queueAt s q) (.task c (rget (contextAt s c) f.rs1).toNat) - 1) 0)) 12))) := by
  have hcost := qopen_cost (isMgmt k) (hform.imp id (fun ⟨h1, hk⟩ => ⟨h1, by simpa [isMgmt] using hk⟩))
  rw [← queueAt_fetched s c] at hfault ⊢
  refine ⟨fun hpkt => next_congr ?_, fun hpkt hcredit => next_congr ?_, fun hpkt hcredit => next_congr ?_⟩
  · exact runInsn_refusedState h hcost (openPacket_busy (e := issuing s k c _ 12) hopens hfault hpkt)
  · have hdid := openPacket_waits (e := issuing s k c (encA 0x42 0x00 f) 12) hopens hfault hpkt hcredit
    by_cases hz : f.hi = 0
    · rw [if_pos hz]
      rw [if_neg (by simp [waitsFor, hz])] at hdid
      exact runInsn_delayed h hcost hdid
    · rw [if_neg hz]
      rw [if_pos (by simp [waitsFor, (hform.resolve_left hz).1])] at hdid
      exact runInsn_waits h hcost hdid
  · exact runInsn_done h hcost (openPacket_opens (e := issuing s k c _ 12) hopens hfault hpkt hcredit)

/-- QREL of a packet that is not empty. -/
theorem qrel_posts {p : OpenPacket} (h : Issues s k c 16) (hi : f.hi = 0) (h1 : f.rs1 = 0) (h2 : f.rs2 = 0)
    (hp : (contextAt s c).packet = some p) (hfault : (queueAt s p.queue).qfault = false) (hdata : p.data ≠ []) :
    exec (.qrel k f) s = .next (putCtx (if isFoundation c then enterItem (fetched s c) p.queue (packetItem c (releasedOf p))
      else stage (fetched s c) c (fun g => { g with packets := g.packets ++ [releasedOf p] })) c
      (movedOn (rset { (contextAt s c) with packet := none } f.rd (resultWord 0 0 0)) 16)) := by
  rw [← queueAt_fetched s c] at hfault
  exact next_congr (runInsn_done h (que_cost_bare _ (by decide) hi h1 h2) (releasePacket_posts hp hfault hdata))

end

/-- A task with an open packet is not an empty one, whatever it has staged. -/
theorem staged_ne_default_of_packet {s : State} {c : Nat} {p : OpenPacket} {g : Staged → Staged} (h : (contextAt s c).packet = some p) :
    ({ taskAt (fetched s c) c with
      cycle := (taskAt (fetched s c) c).cycle.map (fun y => { y with staged := g y.staged }) } : Task) ≠ {} := by
  intro hd
  have hp := congrArg (fun t => t.ctx.packet) hd
  rw [taskAt_fetched] at hp
  exact Option.some_ne_none p (h.symm.trans hp)

/-- Settles O21: each packet instruction's case is the one that its operands and the packet select. -/
theorem packetInstructions : Obligations.PacketInstructions := by
  intro s k c f x n q who
  refine ⟨fun h hform hn hq hp hr hfault => qopen_cases h hform (opens_fetched hn rfl hq hp hr rfl) hfault,
    fun hi p hpkt => ⟨fun h h2 hlen => next_congr ?_, fun h hlow hhigh hrights hclean hlen => next_congr ?_,
    fun h h1 h2 => ⟨next_congr ?_, next_congr ?_, next_congr ?_⟩, fun h h1 h2 hfault hdata => ⟨fun hc => ?_, fun hc => ?_⟩⟩⟩
  · rw [← queueAt_fetched s c] at hlen
    exact runInsn_done h (qpw_cost _ hi h2) (appendBytes_fits hpkt (by rwa [bytesOf_length]))
  · have hdid := appendBlock_reads (f := f) (x := x)
      (blockAppends_fetched (e := issuing s k c (encA 0x42 0x02 f) 24) rfl hlow hhigh hrights hclean)
    rw [appendBytes_fits hpkt (by rw [queueAt_corrected, readBytes_length]; exact hlen), readBytes_fetched] at hdid
    exact runInsn_done h (qpb_cost _ hi) hdid
  · exact runInsn_done h (que_cost_bare _ (by decide) hi h1 h2) (onPacket_open hpkt)
  · exact runInsn_done h (que_cost_bare _ (by decide) hi h1 h2) (onPacket_open hpkt)
  · have hdid := discardPacket_open (f := f) (s := fetched s c) (e := issuing s k c (encA 0x42 0x06 f) 8) hpkt
    simp only [reservationEnd_fetched] at hdid
    exact runInsn_done h (que_cost_bare _ (by decide) hi h1 h2) hdid
  · rw [qrel_posts h hi h1 h2 hpkt hfault hdata, if_pos (by simp [isFoundation, hc])]
    rfl
  · refine ⟨_, qrel_posts h hi h1 h2 hpkt hfault hdata, ?_⟩
    rw [if_neg (by simp [isFoundation, hc])]
    exact stage_onlyTask _ (by decide) (staged_ne_default_of_packet (g := fun g => { g with packets := g.packets ++ [releasedOf p] }) hpkt)

/-- Settles O22: each refusal and fault is the first of the instruction's checks that fails. -/
theorem packetRefusals : Obligations.PacketRefusals := by
  intro s k c f hi x n m
  have hwait (m : Bool) : WaitForm m f := .inl hi
  refine ⟨fun hpkt => ⟨fun h h2 => next_congr ?_, fun h1 h2 => ⟨fun h => ⟨next_congr ?_, next_congr ?_, next_congr ?_⟩, fun h => next_congr ?_⟩⟩,
    fun h hlow hhigh hrights hclean => ⟨fun hpkt => next_congr ?_, fun p hpkt hlen => next_congr ?_⟩,
    fun p hpkt => ⟨fun h h2 hlen => next_congr ?_, fun h h1 h2 hfault hdata => next_congr ?_, fun h h1 h2 hfault => next_congr ?_⟩,
    fun h hn hq hp hr hfault => next_congr ?_, fun h hun => next_congr ?_, fun h hn hq hp => next_congr ?_, fun h hbad => next_congr ?_⟩
  · exact runInsn_refusedState h (qpw_cost _ hi h2) (appendBytes_closed hpkt)
  · exact runInsn_refusedState h (que_cost_bare _ (by decide) hi h1 h2) (onPacket_closed hpkt)
  · exact runInsn_refusedState h (que_cost_bare _ (by decide) hi h1 h2) (onPacket_closed hpkt)
  · exact runInsn_refusedState h (que_cost_bare _ (by decide) hi h1 h2) (discardPacket_closed hpkt)
  · exact runInsn_refusedState h (que_cost_bare _ (by decide) hi h1 h2) (releasePacket_closed hpkt)
  · have hdid := appendBlock_reads (f := f) (x := x)
      (blockAppends_fetched (e := issuing s k c (encA 0x42 0x02 f) 24) rfl hlow hhigh hrights hclean)
    exact runInsn_refusedState h (qpb_cost _ hi) (hdid.trans (appendBytes_closed hpkt))
  · have hdid := appendBlock_reads (f := f) (x := x)
      (blockAppends_fetched (e := issuing s k c (encA 0x42 0x02 f) 24) rfl hlow hhigh hrights hclean)
    rw [appendBytes_long hpkt (by rw [queueAt_corrected, readBytes_length]; exact hlen)] at hdid
    exact runInsn_refusedSize h (qpb_cost _ hi) hdid
  · rw [← queueAt_fetched s c] at hlen
    exact runInsn_refusedSize h (qpw_cost _ hi h2) (appendBytes_long hpkt (by rwa [bytesOf_length]))
  · rw [← queueAt_fetched s c] at hfault
    exact runInsn_refusedSize h (que_cost_bare _ (by decide) hi h1 h2) (releasePacket_empty hpkt hfault hdata)
  · rw [← queueAt_fetched s c] at hfault
    exact runInsn_device h (que_cost_bare _ (by decide) hi h1 h2) (releasePacket_qfault hpkt hfault)
  · rw [← queueAt_fetched s c] at hfault
    exact runInsn_device h (qopen_cost _ (hwait _))
      (openPacket_qfault (e := issuing s k c (encA 0x42 0x00 f) 12) (opens_fetched hn rfl hq hp hr rfl) hfault)
  · exact runInsn_device h (qopen_cost _ (hwait _))
      (openPacket_unbound (e := issuing s k c (encA 0x42 0x00 f) 12) ((putQueue_fetched _).trans (putQueue_unbound hun)))
  · exact runInsn_device h (qopen_cost _ (hwait _))
      (openPacket_priority (e := issuing s k c (encA 0x42 0x00 f) 12)
        (by erw [putQueue_fetched]; rw [putQueue, if_pos hn]; exact hq) hp)
  · exact runInsn_device h (qpb_cost _ hi) (appendBlock_range hbad)

end Sys2Proof.Proofs
end

section
/-! Proofs of the statements of spec/04 on items and on time (R108, R110 to R114, R199). -/

namespace Sys2Proof.Proofs
open Sys2Proof Sys2Proof.Machine

/-! ### Take bindings (R108, R111, R199) -/

/-- R199, R121: the status byte of a delivered item. -/
theorem takeStatus_byte (it : Item) :
    Status.byte (takeStatus it) = if it.parity ≠ [] then 0xBA else if it.ptag = true ∨ it.poison ≠ [] then 0xA0 else 0 := by
  unfold takeStatus
  cases it.parity with
  | cons => rfl
  | nil =>
    cases it.ptag with
    | true => rfl
    | false => cases it.poison <;> rfl

theorem takeInfo_eq (it : Item) (rest : List Item) : takeInfo it rest.isEmpty =
    it.prio % 8 + (if it.again then 8 else 0) + (if rest = [] then 16 else 0) + it.srcSuite % 64 * 2 ^ 16 := by
  unfold takeInfo b2n
  cases it.again <;> cases rest <;> rfl

/-- The doubleword of a payload at a byte offset that is a multiple of 8. -/
theorem wordAt_offset (bs : List Byte) {off : Nat} (h : off % 8 = 0) :
    (if off < bs.length then wordAt bs (off / 8) else 0) = BitVec.ofNat 64 (natOf ((bs.drop off).take 8)) := by
  split
  · rw [wordAt, show 8 * (off / 8) = off by omega]
  · rw [List.drop_eq_nil_of_le (by omega), List.take_nil]; rfl

section
variable {s : State} {e : Env} {f : FmtA} {x : Ctx} {q : Nat}

/-- A take binding of the task, of a queue that its suite may take from. -/
structure Takes (s : State) (c : Nat) (f : FmtA) (x : Ctx) (q : Nat) : Prop where
  bound : takeQueue s c (rget x f.rs1).toNat = q
  queue : q ≠ 0
  rights : ctxMayTake s c q = true

theorem takeItem_unbound (h : takeQueue s e.c (rget x f.rs1).toNat = 0) : takeItem f e s x = deviceFault .binding := by
  simp only [takeItem, h, if_true]

theorem takeItem_qfault (h : Takes s e.c f x q) (hq : (queueAt s q).qfault = true) : takeItem f e s x = deviceFault .error := by
  obtain ⟨hbound, hqueue, hrights⟩ := h
  simp [takeItem, hbound, hqueue, hrights, hq]

theorem takeItem_next (h : Takes s e.c f x q) (hq : (queueAt s q).qfault = false) {r : State}
    (hr : (if isFoundation e.c && (takeAt (taskAt s e.c) (rget x f.rs1).toNat).next.isEmpty then deliver s e.c (rget x f.rs1).toNat else s) = r) :
    takeItem f e s x = match (takeAt (taskAt r e.c) (rget x f.rs1).toNat).next with
      | [] => answer f.rd stDone 0 0 (setTake r e.c (rget x f.rs1).toNat (fun _ => {})) x
      | it :: rest => answer f.rd (takeStatus it) it.data.length (takeInfo it rest.isEmpty)
          (setTake r e.c (rget x f.rs1).toNat (fun _ => { next := rest, current := some it })) x := by
  obtain ⟨hbound, hqueue, hrights⟩ := h
  subst hr
  simp only [takeItem, hbound, hqueue, hrights, hq, Bool.not_true, Bool.false_eq_true, if_false] <;> rfl

theorem ackCurrent_unbound (h : takeQueue s e.c (rget x f.rs1).toNat = 0) : ackCurrent f e s x = deviceFault .binding := by
  simp only [ackCurrent, h, if_true]

theorem ackCurrent_qfault (h : Takes s e.c f x q) (hq : (queueAt s q).qfault = true) : ackCurrent f e s x = deviceFault .error := by
  obtain ⟨hbound, hqueue, hrights⟩ := h
  simp [ackCurrent, hbound, hqueue, hrights, hq]

theorem ackCurrent_acks (h : Takes s e.c f x q) (hq : (queueAt s q).qfault = false) {it : Item}
    (hit : (takeAt (taskAt s e.c) (rget x f.rs1).toNat).current = some it) (hack : (takeAt (taskAt s e.c) (rget x f.rs1).toNat).acked = false) :
    ackCurrent f e s x = answer f.rd stDone 0 0
      (if e.c = 0 then ackItem (setTake s e.c (rget x f.rs1).toNat (fun t => { t with acked := true })) q it.seq
       else stage (setTake s e.c (rget x f.rs1).toNat (fun t => { t with acked := true })) e.c
        (fun g => { g with acks := g.acks ++ [(q, it.seq)] })) x := by
  obtain ⟨hbound, hqueue, hrights⟩ := h
  simp only [ackCurrent, hbound, hqueue, hrights, hq, Bool.not_true, Bool.false_eq_true, if_false, hit, hack, isFoundation, beq_iff_eq]

theorem ackCurrent_refuses (h : Takes s e.c f x q) (hq : (queueAt s q).qfault = false)
    (hno : (takeAt (taskAt s e.c) (rget x f.rs1).toNat).current = none ∨ (takeAt (taskAt s e.c) (rget x f.rs1).toNat).acked = true) :
    ackCurrent f e s x = answer f.rd (stRefused .state) 0 0 s x := by
  obtain ⟨hbound, hqueue, hrights⟩ := h
  simp only [ackCurrent, hbound, hqueue, hrights, hq, Bool.not_true, Bool.false_eq_true, if_false]
  rcases hno with h | h
  · rw [h]
  · rw [h]
    cases (takeAt (taskAt s e.c) (rget x f.rs1).toNat).current <;> rfl

theorem readItem_align (h : (rget x f.rs2).toNat % 8 ≠ 0) : readItem f e s x = .fault .align .none (rget x f.rs2) := by
  simp only [readItem, if_pos h]

theorem readItem_unbound (h8 : (rget x f.rs2).toNat % 8 = 0) (h : takeQueue s e.c (rget x f.rs1).toNat = 0) :
    readItem f e s x = deviceFault .binding := by
  simp only [readItem, h8, h, ne_eq, not_true_eq_false, if_false, if_true]

theorem readItem_reads (h8 : (rget x f.rs2).toNat % 8 = 0) (h : takeQueue s e.c (rget x f.rs1).toNat ≠ 0) :
    readItem f e s x = .next s (rset x f.rd (match (takeAt (taskAt s e.c) (rget x f.rs1).toNat).current with
      | some it => BitVec.ofNat 64 (natOf ((it.data.drop (rget x f.rs2).toNat).take 8))
      | none => 0)) := by
  simp only [readItem, h8, h, ne_eq, not_true_eq_false, if_false]
  cases (takeAt (taskAt s e.c) (rget x f.rs1).toNat).current with
  | none => rfl
  | some it => simp only [wordAt_offset it.data h8]

end

section
variable {s : State} {c : Nat} {f : FmtA} {x : Ctx}

theorem takeQueue_fetched (n : Nat) : takeQueue (fetched s c) c n = takeQueue s c n := by
  simp only [takeQueue, taskAt_fetched]

theorem takes_fetched {d q : Nat} (hb : (rget x f.rs1).toNat < 8) (hbound : (taskAt s c).desc.takeQ.getD (rget x f.rs1).toNat 0 = q)
    (hq : q ≠ 0) (hr : ctxMayTake s c q = true) (hd : d = c) : Takes (fetched s c) d f x q := by
  subst hd
  exact ⟨by rw [takeQueue_fetched, takeQueue, if_pos hb, hbound], hq, by rw [ctxMayTake_fetched]; exact hr⟩

theorem takeQueue_unbound {n : Nat} (h : 8 ≤ n ∨ (taskAt s c).desc.takeQ.getD n 0 = 0) : takeQueue s c n = 0 := by
  unfold takeQueue
  split
  · exact h.resolve_left (by omega)
  · rfl

theorem qtake_cost (m : Bool) (hi : f.hi = 0) (h2 : f.rs2 = 0) : (readWord m (encA 0x42 0x08 f)).map (·.cost) = some 12 :=
  que_cost (by decide) (by decide) (.inl hi) (fun _ => h2) (by omega)

theorem qrd_cost (m : Bool) (hi : f.hi = 0) : (readWord m (encA 0x42 0x09 f)).map (·.cost) = some 8 :=
  que_cost (by decide) (by decide) (.inl hi) (by omega) (by omega)

theorem qack_cost (m : Bool) (hi : f.hi = 0) (h2 : f.rs2 = 0) : (readWord m (encA 0x42 0x0A f)).map (·.cost) = some 12 :=
  que_cost (by decide) (by decide) (.inl hi) (fun _ => h2) (by omega)

/-- R127: the state that QTAKE looks in is the one that the foundation program's fresh delivery leaves. -/
theorem takingState_eq (b : Nat) :
    (if isFoundation c && (takeAt (taskAt (fetched s c) c) b).next.isEmpty then deliver (fetched s c) c b else fetched s c) = takingState s c b := by
  simp only [takingState, isFoundation, taskAt_fetched, Bool.and_eq_true, beq_iff_eq, List.isEmpty_iff]

end

/-- The instruction answers DONE with no count: the result word is 0. -/
theorem runInsn_doneZero {s t : State} {k c cost : Nat} {w : BitVec 32} {act : Env → State → Ctx → Did} {y : Ctx} {rd : BitVec 5}
    (h : Issues s k c cost) (hw : (readWord (isMgmt k) w).map (·.cost) = some cost)
    (ha : act (issuing s k c w cost) (fetched s c) (contextAt s c) = answer rd stDone 0 0 t y) :
    runInsn k w act s = putCtx t c (movedOn (rset y rd 0) cost) := by
  rw [← resultWord_zero]
  exact runInsn_done h hw ha

section
variable {s : State} {k c q : Nat} {f : FmtA}

/-- QTAKE of a binding that may be taken from, by what its cache holds next. -/
theorem qtake_cases (h : Issues s k c 12) (hi : f.hi = 0) (h2 : f.rs2 = 0) (ht : Takes (fetched s c) c f (contextAt s c) q)
    (hfault : (queueAt s q).qfault = false) {r : State} (hr : takingState s c (rget (contextAt s c) f.rs1).toNat = r) :
    ((takeAt (taskAt r c) (rget (contextAt s c) f.rs1).toNat).next = [] → runInsn k (encA 0x42 0x08 f) (takeItem f) s =
      putCtx (setTake r c (rget (contextAt s c) f.rs1).toNat (fun _ => {})) c (movedOn (rset (contextAt s c) f.rd 0) 12)) ∧
    (∀ it rest, (takeAt (taskAt r c) (rget (contextAt s c) f.rs1).toNat).next = it :: rest →
      runInsn k (encA 0x42 0x08 f) (takeItem f) s =
        putCtx (setTake r c (rget (contextAt s c) f.rs1).toNat (fun _ => { next := rest, current := some it })) c
          (movedOn (rset (contextAt s c) f.rd (resultWord (Status.byte (takeStatus it)) it.data.length (takeInfo it rest.isEmpty))) 12)) := by
  have hdid := takeItem_next (e := issuing s k c (encA 0x42 0x08 f) 12) ht ((queueAt_fetched s c q).symm ▸ hfault)
    ((takingState_eq _).trans hr)
  refine ⟨fun hnext => ?_, fun it rest hnext => ?_⟩
  · erw [hnext] at hdid
    exact runInsn_doneZero h (qtake_cost _ hi h2) hdid
  · erw [hnext] at hdid
    exact runInsn_answers h (qtake_cost _ hi h2) hdid

end

/-- Settles O23: each case is the one that the binding, the queue and the take cache select. -/
theorem takeInstructions : Obligations.TakeInstructions := by
  intro s k c f hi x b q cache fault
  have hcache : takeAt (taskAt (fetched s c) c) b = cache := by rw [taskAt_fetched]
  refine ⟨fun hb hq => ⟨fun h h2 hr hfault => ⟨?_, fun it hit hack => next_congr ?_, fun hno => next_congr ?_⟩,
      fun h h2 hr hfault => ⟨next_congr ?_, next_congr ?_⟩, fun h h8 => next_congr ?_⟩,
    fun hun => ⟨fun h h2 => ⟨next_congr ?_, next_congr ?_⟩, fun h h8 => next_congr ?_⟩, fun h h8 => next_congr ?_⟩
  · obtain ⟨hempty, hnext⟩ := qtake_cases h hi h2 (takes_fetched hb rfl hq hr rfl) hfault rfl
    refine ⟨fun hn => next_congr (hempty hn), fun it rest hn => next_congr ?_⟩
    rw [hnext it rest hn, takeStatus_byte, takeInfo_eq]
  · rw [← queueAt_fetched s c] at hfault
    rw [← hcache] at hit hack
    exact runInsn_doneZero h (qack_cost _ hi h2)
      (ackCurrent_acks (e := issuing s k c (encA 0x42 0x0A f) 12) (takes_fetched hb rfl hq hr rfl) hfault hit hack)
  · rw [← queueAt_fetched s c] at hfault
    rw [← hcache] at hno
    exact runInsn_refusedState h (qack_cost _ hi h2)
      (ackCurrent_refuses (e := issuing s k c (encA 0x42 0x0A f) 12) (takes_fetched hb rfl hq hr rfl) hfault hno)
  · rw [← queueAt_fetched s c] at hfault
    exact runInsn_device h (qtake_cost _ hi h2)
      (takeItem_qfault (e := issuing s k c (encA 0x42 0x08 f) 12) (takes_fetched hb rfl hq hr rfl) hfault)
  · rw [← queueAt_fetched s c] at hfault
    exact runInsn_device h (qack_cost _ hi h2)
      (ackCurrent_qfault (e := issuing s k c (encA 0x42 0x0A f) 12) (takes_fetched hb rfl hq hr rfl) hfault)
  · have hbound : takeQueue (fetched s c) c b ≠ 0 := by rwa [takeQueue_fetched, takeQueue, if_pos hb]
    rw [← hcache]
    exact runInsn_next h (qrd_cost _ hi) (readItem_reads (e := issuing s k c (encA 0x42 0x09 f) 8) h8 hbound)
  · exact runInsn_device h (qtake_cost _ hi h2)
      (takeItem_unbound (e := issuing s k c (encA 0x42 0x08 f) 12) ((takeQueue_fetched _).trans (takeQueue_unbound hun)))
  · exact runInsn_device h (qack_cost _ hi h2)
      (ackCurrent_unbound (e := issuing s k c (encA 0x42 0x0A f) 12) ((takeQueue_fetched _).trans (takeQueue_unbound hun)))
  · exact runInsn_device h (qrd_cost _ hi)
      (readItem_unbound (e := issuing s k c (encA 0x42 0x09 f) 8) h8 ((takeQueue_fetched _).trans (takeQueue_unbound hun)))
  · exact runInsn_fault h (qrd_cost _ hi) (readItem_align h8)

/-! ### Times and timers (R112 to R114) -/

theorem timeOf_eq (v : BitVec 64) : timeOf v = { sec := v.toNat / 2 ^ 32, ns := v.toNat % 2 ^ 32 } := by
  have hsec : v.toNat / 2 ^ 32 % 2 ^ 32 = v.toNat / 2 ^ 32 := Nat.mod_eq_of_lt (by omega)
  simp only [timeOf, ofNowForm, fld, hsec, pow_zero, Nat.div_one, Nat.zero_mod, zero_mul, add_zero]

theorem timeOk_iff (v : BitVec 64) : Machine.timeOk v = true ↔ v.toNat % 2 ^ 32 < giga := by
  simp only [Machine.timeOk, fld, pow_zero, Nat.div_one, decide_eq_true_eq]

/-- R113: the difference of two times, its seconds a signed 32-bit number. -/
theorem tdiff_timeOf (a b : BitVec 64) : tdiff (timeOf a) (timeOf b) =
    (BitVec.ofInt 32 (a.toNat / 2 ^ 32 - b.toNat / 2 ^ 32)).toInt * giga + ((a.toNat % 2 ^ 32 : Nat) - (b.toNat % 2 ^ 32 : Nat)) := by
  have hsec : BitVec.ofNat 32 ((a.toNat / 2 ^ 32 + 2 ^ 48 - b.toNat / 2 ^ 32 % 2 ^ 48) % 2 ^ 32) =
      BitVec.ofInt 32 (a.toNat / 2 ^ 32 - b.toNat / 2 ^ 32) := by
    apply BitVec.eq_of_toNat_eq
    rw [BitVec.toNat_ofNat, BitVec.toNat_ofInt]
    omega
  simp only [tdiff, timeOf_eq]
  rw [signed_ofNat 32 _ (by decide), hsec]

theorem taddNs_ok (t : Time80) (d : Int) : TimeOk (taddNs t d) := by
  constructor
  · have h := Int.emod_lt_of_pos ((t.ns : Int) + d) (show (0 : Int) < giga by decide)
    have h0 := Int.emod_nonneg ((t.ns : Int) + d) (show (giga : Int) ≠ 0 by decide)
    simp only [taddNs]
    omega
  · simp only [taddNs]
    omega

/-- A time in its word: the ns are the low half, the seconds the high one. -/
theorem nowForm_fields {t : Time80} (h : TimeOk t) :
    (nowForm t).toNat % 2 ^ 32 = t.ns ∧ (nowForm t).toNat / 2 ^ 32 = t.sec % 2 ^ 32 := by
  obtain ⟨hns, hsec⟩ := h
  have hlt : t.ns < 2 ^ 32 := lt_trans hns (by decide)
  rw [nowForm_eq ⟨hns, hsec⟩, BitVec.toNat_ofNat]
  omega

/-- R113: a time advanced by signed ns, its seconds wrapping. -/
theorem taddNs_value (a : BitVec 64) (d : Int) (t : Time80) (ht : t = taddNs (timeOf a) d) :
    (((nowForm t).toNat / 2 ^ 32 * giga + (nowForm t).toNat % 2 ^ 32 : Nat) : Int) =
      (((a.toNat / 2 ^ 32 * giga + a.toNat % 2 ^ 32 : Nat) : Int) + d) % (2 ^ 32 * giga : Nat) := by
  obtain ⟨hlow, hhigh⟩ := nowForm_fields (t := t) (ht ▸ taddNs_ok _ _)
  rw [hlow, hhigh, ht, timeOf_eq]
  simp only [taddNs, giga]
  push_cast
  omega

section
variable {x : Ctx}

/-- R114: setting one of the four timers clears the note that it has expired. -/
theorem setTimer_eq (x : Ctx) (n : Fin 4) (v : Option Time80) :
    setTimer x n v = { x with timers := x.timers.set n v, expired := x.expired &&& ~~~(1#4 <<< n.val) } := by
  have hbit : ∀ n : Fin 4, BitVec.ofNat 4 (2 ^ n.val) = 1#4 <<< n.val := by decide
  rw [setTimer, dif_pos n.isLt, hbit]

theorem testTimer_eq {f : FmtA} {s : State} (n : Fin 4) (hn : (rget x f.rs1).toNat = n.val) : testTimer f s x =
    match x.timers[n] with
    | none => .next s (rset x f.rd 0)
    | some t => if x.expired.getLsbD n.val || reached (now s) t then .next s (rset { x with expired := x.expired ||| 1#4 <<< n.val } f.rd 2)
      else .next s (rset x f.rd 1) := by
  have hbit : ∀ n : Fin 4, BitVec.ofNat 4 (2 ^ n.val) = 1#4 <<< n.val := by decide
  rw [← hbit]
  unfold testTimer
  simp only [hn, n.isLt, dif_pos]
  rfl

end

section
variable {f : FmtA} {fn c : Nat}

/-- R112: a time instruction is legal where the fields that it does not use are zero. -/
theorem time_cost (m : Bool) (hi : f.hi = 0) (hf : fn < 5) (h2 : 3 ≤ fn → f.rs2 = 0) (hd : fn = 4 → f.rd = 0) (hc : c = if fn ≤ 2 then 4 else 2) :
    (readWord m (encA 0x43 fn f)).map (·.cost) = some c := by
  obtain ⟨hmod, hdiv⟩ := hi_split (f := f) (fn := fn) (by omega)
  rw [readWord_dev m f (by omega) (by decide)]
  simp only [deviceInfo, hmod, hdiv]
  rw [hi]
  interval_cases fn
  · subst hc; rfl
  · subst hc; rfl
  · subst hc; rfl
  · subst hc; rw [h2 (by omega)]; rfl
  · subst hc; rw [h2 (by omega), hd rfl]; rfl

end

/-- Settles O24: each time instruction ends by its operands' checks and its timer's state. -/
theorem timeAndTimers : Obligations.TimeAndTimers := by
  intro s k c f hi x a b ok ns range
  have hok (v : BitVec 64) : Machine.timeOk v = true ↔ ok v := timeOk_iff v
  refine ⟨fun h => ⟨fun ha hb => next_congr ?_, fun hbad => next_congr ?_, fun ha => ?_, fun hbad => next_congr ?_,
      fun n hn hb => next_congr ?_, fun hbad => next_congr ?_⟩,
    fun h h2 => ⟨fun n hn => ⟨fun ht => next_congr ?_, fun t ht he hr => next_congr ?_, fun t ht he => next_congr ?_, fun hd => next_congr ?_⟩,
      fun hbad => ⟨next_congr ?_, fun hd => next_congr ?_⟩⟩⟩
  · have hcheck : (!Machine.timeOk a || !Machine.timeOk b) = false := by simp [(timeOk_iff a).mpr ha, (timeOk_iff b).mpr hb]
    rw [← tdiff_timeOf]
    exact runInsn_next h (time_cost _ hi (by decide) (by omega) (by omega) rfl) (if_neg (by rw [hcheck]; decide))
  · have hcheck : (!Machine.timeOk a || !Machine.timeOk b) = true := by
      rw [← hok a, ← hok b] at hbad
      simpa only [Bool.or_eq_true, Bool.not_eq_true', not_and_or, Bool.not_eq_true] using hbad
    exact runInsn_device h (time_cost _ hi (by decide) (by omega) (by omega) rfl) (if_pos hcheck)
  · refine ⟨nowForm (taddNs (timeOf a) b.toInt), next_congr ?_, ?_, taddNs_value a b.toInt _ rfl⟩
    · exact runInsn_next h (time_cost _ hi (by decide) (by omega) (by omega) rfl) (if_neg (by rw [(timeOk_iff a).mpr ha]; decide))
    · exact lt_of_eq_of_lt (nowForm_fields (taddNs_ok _ _)).1 (taddNs_ok _ _).1
  · exact runInsn_device h (time_cost _ hi (by decide) (by omega) (by omega) rfl) (if_pos (by rw [Bool.eq_false_iff.mpr (mt (timeOk_iff a).mp hbad)]; rfl))
  · rw [← setTimer_eq]
    have hcheck : ¬ (decide (4 ≤ a.toNat) || !Machine.timeOk b) = true := by
      rw [(timeOk_iff b).mpr hb, hn]; simp
    have hdid : (if (decide (4 ≤ a.toNat) || !Machine.timeOk b) = true then deviceFault .range
        else answer f.rd stDone 0 0 (fetched s c) (setTimer x a.toNat (some (nearTime (fetched s c) b)))) =
        answer f.rd stDone 0 0 (fetched s c) (setTimer x n (some (nearTime (fetched s c) b))) := by rw [if_neg hcheck, hn]
    exact runInsn_done h (time_cost _ hi (by decide) (by omega) (by omega) rfl) hdid
  · have hcheck : (decide (4 ≤ a.toNat) || !Machine.timeOk b) = true := by
      rw [← hok b] at hbad
      simpa using hbad
    exact runInsn_device h (time_cost _ hi (by decide) (by omega) (by omega) rfl) (if_pos hcheck)
  · refine runInsn_next h (time_cost _ hi (by decide) (fun _ => h2) (by omega) rfl) ?_
    rw [testTimer_eq n hn, ht]
  · refine runInsn_next h (time_cost _ hi (by decide) (fun _ => h2) (by omega) rfl) ?_
    rw [testTimer_eq n hn, ht]
    simp only [now_fetched, he, hr, Bool.or_false, Bool.false_eq_true, if_false]
  · refine runInsn_next h (time_cost _ hi (by decide) (fun _ => h2) (by omega) rfl) ?_
    rw [testTimer_eq n hn, ht]
    simp only [now_fetched, Bool.or_eq_true]
    rw [if_pos he]
  · rw [← setTimer_eq]
    have hdid : (if 4 ≤ a.toNat then deviceFault .range else .next (fetched s c) (setTimer x a.toNat none)) =
        Did.next (fetched s c) (setTimer x n none) := by rw [if_neg (by omega), hn]
    exact runInsn_next h (time_cost _ hi (by decide) (fun _ => h2) (fun _ => hd) rfl) hdid
  · exact runInsn_device h (time_cost _ hi (by decide) (fun _ => h2) (by omega) rfl) (dif_neg (not_lt.mpr hbad))
  · exact runInsn_device h (time_cost _ hi (by decide) (fun _ => h2) (fun _ => hd) rfl) (if_pos hbad)

end Sys2Proof.Proofs
end

section
/-! Proofs of the statements of spec/04 on posted requests, events, samples and breakpoints (R95 to R98, R115, R116, R119, R120). -/

namespace Sys2Proof.Proofs
open Sys2Proof Sys2Proof.Machine

/-! ### Blocks (R98) -/

section
variable {s : State} {c n : Nat} {e : Env} {a : BitVec 64}

theorem blockFault_none (he : e.u = suiteAt s (ctxSuite c)) (h : BlockReadable s c a n) : blockFault e (fetched s c) a n = none := by
  obtain ⟨haligned, hrights, hclean⟩ := h
  rw [blockFault, if_neg (by rw [haligned]; decide), he, hrights, if_neg (by decide)]
  exact memoryFault_of_clean he hclean

theorem loadWords_fetched (he : e.u = suiteAt s (ctxSuite c)) : loadWords (fetched s c) e.u a.toNat n = (List.range n).map (blockWord s c a) := by
  refine List.map_congr_left fun i _ => ?_
  rw [he, loadNat, readBytes_fetched, blockWord, memNumber, sramAddr, Nat.add_assoc]

theorem blockWords_getD {i : Nat} (hi : i < n) : ((List.range n).map (blockWord s c a)).getD i 0 = blockWord s c a i := by
  rw [List.getD_eq_getElem _ _ (by simpa using hi)]
  simp

end

theorem replyDeclared_fetched (s : State) (c d q : Nat) : replyDeclared (fetched s c) d q = replyDeclared s d q := by
  rw [fetched_frame]; rfl

/-! ### Posting (R95, R98, R116) -/

section
variable {f : FmtA} {post : State → Nat → State} {s : State} {x : Ctx}

theorem postRequest_full (h : 8 ≤ x.outstanding) : postRequest f post s x =
    if waitsFor f then .waits s else answer f.rd (stDelayed .credit) 0 0 s x := by
  simp only [postRequest, if_pos h]

theorem postRequest_posts (h : x.outstanding < 8) : postRequest f post s x =
    answer f.rd (stDelayed .pending) (nextTicket x) 0 (post s (nextTicket x)) { x with ticket := nextTicket x, outstanding := x.outstanding + 1 } := by
  simp only [postRequest, if_neg (not_le.mpr h)]

end

theorem cfgLen_two_le {code : Nat} (h : cfgLen code ≠ 0) : 2 ≤ cfgLen code := by
  by_cases hc : code < 24
  · revert h
    interval_cases code <;> decide
  · exact absurd (List.getD_eq_default _ _ (by simpa using hc)) h

/-- What a CFG posts to the sequencer. -/
def postedCfg (c : Nat) (ws : List (BitVec 64)) (s : State) (n : Nat) : State :=
  { s with seq := { s.seq with
      reqs := s.seq.reqs ++ [{ ctx := c, ticket := n, words := ws }]
      passOpen := s.seq.passOpen || (decide (c = 0) && !s.seq.passDone) } }

/-- What a KEY posts to the Cellar. -/
def postedKey (c op : Nat) (ws : List (BitVec 64)) (s : State) (n : Nat) : State :=
  { s with cellar := { s.cellar with
      reqs := s.cellar.reqs ++ [{ ctx := c, suite := ctxSuite c, ticket := n, op, words := ws, order := s.cellar.accepts }]
      accepts := s.cellar.accepts + 1 } }

section
variable {f : FmtA} {e : Env} {s : State} {x : Ctx}

/-- R98, R100: a CFG whose descriptor and rights are in order. -/
theorem configure_posts {code : Nat} {ws : List (BitVec 64)} (hblock : blockFault e s (rget x f.rs1) (8 * cfgLen code) = none)
    (hws : loadWords s e.u (rget x f.rs1).toNat (cfgLen code) = ws)
    (hcode : fld (ws.getD 1 0) 0 8 = code) (hlen : fld (ws.getD 1 0) 8 8 = cfgLen code) (hmay : mayConfigure e.c code = true)
    (hreply : bitAt (ws.getD 1 0) 49 = true ∨ replyDeclared s e.c (fld (ws.getD 1 0) 32 16) = true) :
    configure f code e s x = postRequest f (postedCfg e.c ws)
      (correctErrors s (e.u.winBase + (rget x f.rs1).toNat) (8 * cfgLen code)) x := by
  have hqueue : (!bitAt (ws.getD 1 0) 49 && !replyDeclared s e.c (fld (ws.getD 1 0) 32 16)) = false := by
    rcases hreply with h | h <;> rw [h]
    · rfl
    · exact Bool.and_false _
  simp only [configure, hblock, hws, hcode, hlen, hmay, hqueue, ne_eq, not_true_eq_false, decide_false, Bool.or_self, Bool.not_true,
    Bool.false_eq_true, if_false]
  rfl

/-- R116: a KEY whose handles and reply queue may be named. -/
theorem postKey_posts {op : Nat} {ws : List (BitVec 64)} (hblock : blockFault e s (rget x f.rs1) 64 = none)
    (hws : loadWords s e.u (rget x f.rs1).toNat 8 = ws)
    (hhandle : handleAllowed (ctxSuite e.c) op (fld (ws.getD 0 0) 0 32) = true)
    (hhandle2 : op = 8 ∨ op = 9 → fld (ws.getD 0 0) 32 32 = 0 ∨ handleAllowed (ctxSuite e.c) op (fld (ws.getD 0 0) 32 32) = true)
    (hreply : replyDeclared s e.c (fld (ws.getD 1 0) 16 16) = true) :
    postKey f op e s x = postRequest f (postedKey e.c op ws) (correctErrors s (e.u.winBase + (rget x f.rs1).toNat) 64) x := by
  have hsecond : ((op == 8 || op == 9) && fld (ws.getD 0 0) 32 32 != 0 && !handleAllowed (ctxSuite e.c) op (fld (ws.getD 0 0) 32 32)) = false := by
    by_cases hop : op = 8 ∨ op = 9
    · rcases hhandle2 hop with h | h <;> rw [h] <;> simp
    · simp [not_or.mp hop]
  simp only [postKey, hblock, hws, hhandle, hsecond, hreply, Bool.not_true, Bool.or_self, Bool.false_eq_true, if_false]
  rfl

end

theorem handleAllowed_iff (suite op h : Nat) :
    handleAllowed suite op h = true ↔ h / 2 ^ 13 % 64 = suite ∨ suite = 0 ∧ (op = 1 ∨ op = 10 ∨ op = 11) := by
  simp [handleAllowed, or_assoc]

section
variable {f : FmtA}

theorem cfg_cost (m : Bool) {code : BitVec 8} (hi : f.hi = 0) (h2 : f.rs2 = 0) (hlen : cfgLen code.toNat ≠ 0) :
    (readWord m (encA 0x40 code.toNat f)).map (·.cost) = some (8 + cfgLen code.toNat) := by
  obtain ⟨hmod, hdiv⟩ := hi_split (f := f) (fn := code.toNat) code.isLt
  rw [readWord_dev m f code.isLt (by decide)]
  simp only [deviceInfo, hmod, hdiv]
  rw [hi, h2]
  exact legalIf_cost _ _ (by simpa using hlen)

theorem key_cost (m : Bool) {op : BitVec 8} (hi : WaitForm m f) (h2 : f.rs2 = 0) (hlow : 1 ≤ op.toNat) (hhigh : op.toNat ≤ 11) :
    (readWord m (encA 0x45 op.toNat f)).map (·.cost) = some 16 := by
  obtain ⟨hmod, hdiv⟩ := hi_split (f := f) (fn := op.toNat) op.isLt
  rw [readWord_dev m f op.isLt (by decide)]
  simp only [deviceInfo, hmod, hdiv]
  rw [h2, waitBits_of_form hi]
  exact legalIf_cost _ _ (by simpa using ⟨hlow, hhigh⟩)

end

section
variable {s r : State} {k c cost : Nat} {w : BitVec 32} {f : FmtA} {act : Env → State → Ctx → Did} {post : State → Nat → State}

/-- The instruction posts its request: the ticket follows the context's last. -/
theorem runInsn_posts (h : Issues s k c cost) (hw : (readWord (isMgmt k) w).map (·.cost) = some cost)
    (ha : act (issuing s k c w cost) (fetched s c) (contextAt s c) = postRequest f post r (contextAt s c))
    (hroom : (contextAt s c).outstanding < 8) :
    runInsn k w act s = putCtx (post r (nextTicket (contextAt s c))) c
      (movedOn (rset { (contextAt s c) with ticket := nextTicket (contextAt s c), outstanding := (contextAt s c).outstanding + 1 } f.rd
        (resultWord 0x25 (nextTicket (contextAt s c)) 0)) cost) := by
  have hend := runInsn_answers h hw (ha.trans (postRequest_posts hroom))
  rwa [show Status.byte (stDelayed .pending) = 0x25 from rfl] at hend

/-- A ninth request finds no place: it is delayed, or with fn[8] the instruction has not completed. -/
theorem runInsn_full (h : Issues s k c cost) (hw : (readWord (isMgmt k) w).map (·.cost) = some cost) (hf : WaitForm (isMgmt k) f)
    (ha : act (issuing s k c w cost) (fetched s c) (contextAt s c) = postRequest f post r (contextAt s c))
    (hfull : 8 ≤ (contextAt s c).outstanding) :
    runInsn k w act s = if f.hi = 0 then putCtx r c (movedOn (rset (contextAt s c) f.rd (resultWord 0x21 0 0)) cost) else r := by
  rw [postRequest_full hfull] at ha
  by_cases hz : f.hi = 0
  · rw [if_neg (by simp [waitsFor, hz])] at ha
    rw [if_pos hz]
    exact runInsn_delayed h hw ha
  · rw [if_pos (by simp [waitsFor, (hf.resolve_left hz).1])] at ha
    rw [if_neg hz]
    exact runInsn_waits h hw ha

end

/-- R96: the core's form of fn[9:8], as the statements give it. -/
theorem waitForm_of_core {k : Nat} {f : FmtA} (h : f.hi = 0 ∨ f.hi = 1 ∧ 32 ≤ k) : WaitForm (isMgmt k) f :=
  h.imp id (fun ⟨h1, hk⟩ => ⟨h1, by simpa [isMgmt] using hk⟩)

/-- R100: which context may issue a code. -/
theorem mayConfigure_of {c : Nat} {code : BitVec 8}
    (h : code = 0x17 ∧ c = 0 ∨ code ≠ 0x17 ∧ (ctxSuite c = 0 ∨ code.toNat ∈ [0x04, 0x05, 0x06, 0x0F, 0x16])) :
    mayConfigure c code.toNat = true := by
  have hcode : code.toNat = 0x17 ↔ code = 0x17 := ⟨fun h => BitVec.eq_of_toNat_eq h, fun h => by rw [h]; rfl⟩
  rcases h with ⟨rfl, rfl⟩ | ⟨hne, h⟩
  · rfl
  · rw [mayConfigure, if_neg (mt hcode.mp hne)]
    rcases h with h | h
    · simp [h]
    · simp only [List.mem_cons, List.not_mem_nil, or_false] at h
      rcases h with h | h | h | h | h <;> simp [tenantCode, h]

/-- Settles O25: a block in order is posted while the context has a place for its completion. -/
theorem postedRequests : Obligations.PostedRequests := by
  intro s k c f h2 x a ticket posted
  refine ⟨fun code hi hlen h hblock hcode hclen hmay hreply => ?_, fun op hform hlow hhigh h hblock hhandle hhandle2 hreply => ?_⟩
  · have hw1 : ((List.range (cfgLen code.toNat)).map (blockWord s c a)).getD 1 0 = blockWord s c a 1 := blockWords_getD (cfgLen_two_le hlen)
    have hdid := configure_posts (f := f) (x := x) (e := issuing s k c (encA 0x40 code.toNat f) (8 + cfgLen code.toNat))
      (blockFault_none rfl hblock) (loadWords_fetched rfl) (by rw [hw1]; simpa [fld] using hcode) (by rw [hw1]; exact hclen)
      (mayConfigure_of hmay) (by rw [hw1, replyDeclared_fetched]; exact hreply)
    exact ⟨fun hroom => next_congr (runInsn_posts h (cfg_cost _ hi h2 hlen) hdid hroom), fun hfull => next_congr
      ((runInsn_full h (cfg_cost _ hi h2 hlen) (.inl hi) hdid hfull).trans (if_pos hi))⟩
  · have hw0 : ((List.range 8).map (blockWord s c a)).getD 0 0 = blockWord s c a 0 := blockWords_getD (by decide)
    have hw1 : ((List.range 8).map (blockWord s c a)).getD 1 0 = blockWord s c a 1 := blockWords_getD (by decide)
    have hhigh32 : fld (blockWord s c a 0) 32 32 = (blockWord s c a 0).toNat / 2 ^ 32 := Nat.mod_eq_of_lt (by omega)
    have hop (n : Nat) (hn : n < 256) : op.toNat = n ↔ op = BitVec.ofNat 8 n := by
      rw [← BitVec.toNat_inj, BitVec.toNat_ofNat, Nat.mod_eq_of_lt hn]
    have hnamed (n : Nat) : handleAllowed (ctxSuite c) op.toNat n = true ↔
        n / 2 ^ 13 % 64 = ctxSuite c ∨ ctxSuite c = 0 ∧ (op = 1 ∨ op = 10 ∨ op = 11) := by
      rw [handleAllowed_iff, hop 1 (by decide), hop 10 (by decide), hop 11 (by decide)]; rfl
    have hdid := postKey_posts (f := f) (x := x) (op := op.toNat) (e := issuing s k c (encA 0x45 op.toNat f) 16)
      (blockFault_none rfl hblock) (loadWords_fetched rfl) (by rw [hw0]; exact (hnamed _).mpr (by simpa [fld] using hhandle))
      (by rw [hw0, hop 8 (by decide), hop 9 (by decide)]; rw [hhigh32]; exact fun h => (hhandle2 h).imp id (hnamed _).mpr)
      (by rw [hw1, replyDeclared_fetched]; exact hreply)
    have hw := key_cost (isMgmt k) (waitForm_of_core hform) h2 hlow hhigh
    exact ⟨fun hroom => next_congr (runInsn_posts h hw hdid hroom), fun hfull => next_congr
      (runInsn_full h hw (waitForm_of_core hform) hdid hfull)⟩

/-! ### Events, samples and breakpoints (R115, R119, R120) -/

section
variable {f : FmtA}

theorem emit_cost (m : Bool) (hi : WaitForm m f) : (readWord m (encA 0x44 0 f)).map (·.cost) = some 16 := by
  obtain ⟨hmod, hdiv⟩ := hi_split (f := f) (fn := 0) (by decide)
  rw [readWord_dev m f (by decide) (by decide)]
  simp only [deviceInfo, hmod, hdiv]
  rw [waitBits_of_form hi]
  exact legalIf_cost _ _ rfl

theorem hsub_cost (m : Bool) (hi : f.hi = 0) : (readWord m (encA 0x46 0 f)).map (·.cost) = some 12 := by
  obtain ⟨hmod, hdiv⟩ := hi_split (f := f) (fn := 0) (by decide)
  rw [readWord_dev m f (by decide) (by decide)]
  simp only [deviceInfo, hmod, hdiv]
  rw [hi]
  exact legalIf_cost _ _ rfl

theorem brk_cost (m : Bool) (n : BitVec 4) : (readWord m (encA 0x47 (16 * n.toNat + 0) ctlFields)).map (·.cost) = some 24 := by
  have hn := n.isLt
  rw [readWord_dev m ctlFields (by omega) (by decide)]
  simp only [deviceInfo, ctlFields]
  refine legalIf_cost _ _ ?_
  have hfn : (0 : BitVec 2).toNat * 256 + (16 * n.toNat + 0) = 16 * n.toNat := by simp
  have hmod : 16 * n.toNat % 256 % 16 = 0 := by omega
  have hdiv : 16 * n.toNat / 256 = 0 := by omega
  rw [hfn, hmod, hdiv]
  rfl

end

/-- The event that EMIT records. -/
def emitted (s : State) (c v : Nat) (payload : List (BitVec 64)) : Event :=
  let low := ctxSuite c ≠ 0 ∧ 5 < v % 8
  { suite := ctxSuite c, sev := if low then 5 else v % 8, code := v / 2 ^ 16 % 2 ^ 16, time := now s, clamped := decide low
    fromTask := some (ctxTask c), ctx := some c, source := unitAddr s .module, payload := payload }

section
variable {f : FmtA} {e : Env} {s : State} {x : Ctx}

/-- R115: the descriptor has nothing but a severity and a code. -/
theorem emit_fields {v : BitVec 64} (h3 : v.toNat / 2 ^ 3 % 2 ^ 13 = 0) (h32 : v.toNat / 2 ^ 32 = 0) :
    (decide (fld v 3 13 ≠ 0) || decide (fld v 32 32 ≠ 0)) = false := by
  have hhigh : fld v 32 32 = 0 := by unfold fld; omega
  rw [show fld v 3 13 = 0 from h3, hhigh]
  rfl

theorem emitEvent_full (hblock : blockFault e s (rget x f.rs1) 32 = none) (h3 : (rget x f.rs2).toNat / 2 ^ 3 % 2 ^ 13 = 0)
    (h32 : (rget x f.rs2).toNat / 2 ^ 32 = 0) (hc : x.eventCredits = 0) :
    emitEvent f e s x = if waitsFor f then .waits s else answer f.rd (stDelayed .credit) 0 0 s x := by
  simp only [emitEvent, hblock, emit_fields h3 h32, Bool.false_eq_true, if_false, hc, if_true]

theorem emitEvent_records (hblock : blockFault e s (rget x f.rs1) 32 = none) (h3 : (rget x f.rs2).toNat / 2 ^ 3 % 2 ^ 13 = 0)
    (h32 : (rget x f.rs2).toNat / 2 ^ 32 = 0) (hc : x.eventCredits ≠ 0) {r : State}
    (hr : correctErrors s (e.u.winBase + (rget x f.rs1).toNat) 32 = r) :
    emitEvent f e s x = answer f.rd stDone 0 (if ctxSuite e.c ≠ 0 ∧ 5 < (rget x f.rs2).toNat % 8 then 1 else 0)
      { r with attic := { r.attic with taskEvents := r.attic.taskEvents ++
        [emitted s e.c (rget x f.rs2).toNat (loadWords s e.u (rget x f.rs1).toNat 4)] } }
      { x with eventCredits := x.eventCredits - 1 } := by
  subst hr
  have hsev : fld (rget x f.rs2) 0 3 = (rget x f.rs2).toNat % 8 := by unfold fld; omega
  have hlow : (ctxSuite e.c != 0 && decide (5 < (rget x f.rs2).toNat % 8)) = decide (ctxSuite e.c ≠ 0 ∧ 5 < (rget x f.rs2).toNat % 8) := by
    rw [Bool.eq_iff_iff]; simp
  simp only [emitEvent, hblock, emit_fields h3 h32, Bool.false_eq_true, if_false, hc, hsev, hlow, decide_eq_true_eq, b2n]
  rfl

/-- A slot of the task's own that takes samples. -/
structure TakesSamples (s : State) (c n : Nat) : Prop where
  range : n < 4096
  listed : n ∈ (taskAt s c).desc.slotList
  owner : (slotAt s n).suite = ctxSuite c
  used : (slotAt s n).inUse = true
  kind : (slotAt s n).timer = false

theorem submitSample_accepts (h : TakesSamples s e.c (rget x f.rs1).toNat) : submitSample f e s x =
    answer f.rd (if 800 ≤ backlog s (rget x f.rs1).toNat then stDelayed .engine else stDone) 0
      (if (slotAt s (rget x f.rs1).toNat).pending.isSome then 1 else 0) (acceptSample s (rget x f.rs1).toNat (q15 (rget x f.rs2))).s x := by
  obtain ⟨hrange, hlisted, howner, hused, hkind⟩ := h
  have hown : (!(taskAt s e.c).desc.slotList.contains (rget x f.rs1).toNat || (slotAt s (rget x f.rs1).toNat).suite != ctxSuite e.c ||
      !(slotAt s (rget x f.rs1).toNat).inUse || (slotAt s (rget x f.rs1).toNat).timer) = false := by
    simp [hlisted, howner, hused, hkind]
  simp only [submitSample, if_neg (not_le.mpr hrange), hown, Bool.false_eq_true, if_false, acceptSample, b2n, decide_eq_true_eq]

theorem breakpoint_passes {n : Nat} (h : (taskAt s e.c).brkArm.getLsbD n = false) : breakpoint n e s x = .next s x := by
  simp only [breakpoint, h, Bool.not_false, if_true]

theorem breakpoint_traces {n : Nat} (h : (taskAt s e.c).brkArm.getLsbD n = true) {r : State}
    (hr : (putItem s e.u.debugQueue (.engine tracePart) (ctxSuite e.c) 0 0 false (wordBytes (traceWords x))).1 = r) :
    breakpoint n e s x = .next (if (taskAt s e.c).brkHoldMap.getLsbD n then setTask r e.c (fun t => { t with brkHold := true }) else r) x := by
  subst hr
  simp only [breakpoint, h, Bool.not_true, Bool.false_eq_true, if_false]

end

section
variable {s : State} {c n : Nat} {u : Int}

/-- R213: a sample that is accepted changes its slot only. -/
theorem acceptSample_leaves : (acceptSample s n u).s = { s with hearth := { s.hearth with slots := (acceptSample s n u).s.hearth.slots } } ∧
    (slotAt (acceptSample s n u).s n).pending.map (·.u) = some u ∧ ∀ m, m ≠ n → slotAt (acceptSample s n u).s m = slotAt s m := by
  refine ⟨rfl, ?_, fun m hm => tget_tset_other_of_ne _ ?_ hm⟩
  · refine congrArg (fun x : Slot => x.pending.map (·.u)) (tget_tset_ne_default _ s.hearth.slots ?_)
    exact fun h => Option.some_ne_none _ (congrArg Slot.pending h)
  · exact fun h => Option.some_ne_none _ (congrArg Slot.pending h)

end

theorem slotAt_fetched (s : State) (c n : Nat) : slotAt (fetched s c) n = slotAt s n := by rw [fetched_frame]; rfl

theorem backlog_fetched (s : State) (c n : Nat) : backlog (fetched s c) n = backlog s n := by rw [fetched_frame]; rfl

theorem emitted_fetched (s : State) (c v : Nat) (ws : List (BitVec 64)) : emitted (fetched s c) c v ws = emitted s c v ws := by
  rw [fetched_frame]; rfl

/-- Settles O26: an event, a sample and a breakpoint, each by the resource that it finds. -/
theorem eventsSamplesAndBreakpoints : Obligations.EventsSamplesAndBreakpoints := by
  intro s k c f x a v
  refine ⟨fun h hform hblock h3 h32 => ?_, fun h hi hrange hlisted howner hused hkind => ?_, fun n h hf => ?_⟩
  · have hw := emit_cost (isMgmt k) (waitForm_of_core hform)
    have hnone := blockFault_none (e := issuing s k c (encA 0x44 0 f) 16) rfl hblock
    refine ⟨fun hc => next_congr ?_, fun hc => next_congr ?_⟩
    · have hdid := emitEvent_full hnone h3 h32 hc
      by_cases hz : f.hi = 0
      · rw [if_neg (by simp [waitsFor, hz])] at hdid
        rw [if_pos hz]
        exact runInsn_delayed h hw hdid
      · rw [if_pos (by simp [waitsFor, (hform.resolve_left hz).1])] at hdid
        rw [if_neg hz]
        exact runInsn_waits h hw hdid
    · have hdid := emitEvent_records hnone h3 h32 hc rfl
      rw [loadWords_fetched rfl] at hdid
      erw [emitted_fetched] at hdid
      exact runInsn_done h hw hdid
  · have htakes : TakesSamples (fetched s c) c a.toNat :=
      ⟨hrange, by rwa [taskAt_fetched], by rwa [slotAt_fetched], by rwa [slotAt_fetched], by rwa [slotAt_fetched]⟩
    have hdid := submitSample_accepts (f := f) (x := x) (e := issuing s k c (encA 0x46 0 f) 12) htakes
    rw [backlog_fetched, slotAt_fetched, q15_eq] at hdid
    obtain ⟨hframe, hsample, hothers⟩ := acceptSample_leaves (s := fetched s c) (n := a.toNat) (u := q15Operand x f.rs2)
    have hbyte : Status.byte (if 800 ≤ backlog s a.toNat then stDelayed .engine else stDone) = if 800 ≤ backlog s a.toNat then 0x22 else 0 := by
      split <;> rfl
    have hend := runInsn_answers h (hsub_cost _ hi) hdid
    rw [hbyte] at hend
    refine ⟨_, next_congr hend, hsample, fun m hm => (hothers m hm).trans (slotAt_fetched s c m), ?_, ?_⟩
    · rw [hframe]
      rfl
    · exact contextAt_putCtx (advance_steps_pos (Nat.succ_pos _))
  · subst hf
    have hw := brk_cost (isMgmt k) n
    refine ⟨fun harm => next_congr ?_, fun harm => next_congr ?_⟩
    · rw [← taskAt_fetched s c c] at harm
      exact runInsn_next h hw (breakpoint_passes (e := issuing s k c _ 24) harm)
    · rw [← taskAt_fetched s c c] at harm ⊢
      exact runInsn_completes h hw (breakpoint_traces (e := issuing s k c _ 24) harm rfl)

end Sys2Proof.Proofs
end

section
/-! What events, queues, answers and outputs leave alone; one REFCLK tick; the state after a power-on reset. -/

namespace Sys2Proof.Proofs
open Sys2Proof Sys2Proof.Machine

/-- What the common services of the block (events, mirror entries, queue entries, replies, outputs) leave as it was. -/
structure Kept (s t : State) : Prop where
  pending : t.pending = s.pending
  tick : t.tick = s.tick
  clock : t.clock = s.clock
  tasks : t.tasks = s.tasks
  sram : t.sram = s.sram
  fuses : t.fuses = s.fuses
  boot : t.boot = s.boot
  points : t.points = s.points
  values : t.values = s.values
  records : t.records = s.records
  pairReset : t.twin.pairReset = s.twin.pairReset
  seq : t.seq = s.seq
  foundation : t.foundation = s.foundation
  cellar : t.cellar = s.cellar
  addr : t.addr = s.addr

namespace Kept

theorem rfl {s : State} : Kept s s := ⟨.refl _, .refl _, .refl _, .refl _, .refl _, .refl _, .refl _, .refl _, .refl _, .refl _, .refl _, .refl _, .refl _, .refl _,
  .refl _⟩

theorem trans {s t u : State} (h : Kept s t) (k : Kept t u) : Kept s u :=
  ⟨k.pending.trans h.pending, k.tick.trans h.tick, k.clock.trans h.clock, k.tasks.trans h.tasks, k.sram.trans h.sram, k.fuses.trans h.fuses,
    k.boot.trans h.boot, k.points.trans h.points, k.values.trans h.values, k.records.trans h.records, k.pairReset.trans h.pairReset, k.seq.trans h.seq,
    k.foundation.trans h.foundation, k.cellar.trans h.cellar, k.addr.trans h.addr⟩

theorem foldl {α : Type} {f : State → α → State} (h : ∀ s a, Kept s (f s a)) (l : List α) (s : State) : Kept s (l.foldl f s) := by
  induction l generalizing s with
  | nil => exact rfl
  | cons a l ih => exact (h s a).trans (ih _)

theorem ite {c : Prop} [Decidable c] {s a b : State} (ha : Kept s a) (hb : Kept s b) : Kept s (if c then a else b) := by
  split
  · exact ha
  · exact hb

end Kept

/-! ### Events, the mirror and the queues -/

/-- One step of a chain of `Kept`: the parts that a write to another field leaves are the same by definition. -/
theorem setQueue_kept (s : State) (q : Nat) (f : Queue → Queue) : Kept s (setQueue s q f) :=
  ⟨rfl, rfl, rfl, rfl, rfl, rfl, rfl, rfl, rfl, rfl, rfl, rfl, rfl, rfl, rfl⟩

theorem setUnitStat_kept (s : State) (u : UnitId) (f : UnitStat → UnitStat) : Kept s (setUnitStat s u f) :=
  ⟨rfl, rfl, rfl, rfl, rfl, rfl, rfl, rfl, rfl, rfl, rfl, rfl, rfl, rfl, rfl⟩

theorem setSuite_kept (s : State) (n : Nat) (f : Suite → Suite) : Kept s (setSuite s n f) :=
  ⟨rfl, rfl, rfl, rfl, rfl, rfl, rfl, rfl, rfl, rfl, rfl, rfl, rfl, rfl, rfl⟩

theorem setOutput_kept (s : State) (n : Nat) (f : Output → Output) : Kept s (setOutput s n f) :=
  ⟨rfl, rfl, rfl, rfl, rfl, rfl, rfl, rfl, rfl, rfl, rfl, rfl, rfl, rfl, rfl⟩

theorem setBank_kept (s : State) (n : Nat) (f : Bank → Bank) : Kept s (setBank s n f) :=
  ⟨rfl, rfl, rfl, rfl, rfl, rfl, rfl, rfl, rfl, rfl, rfl, rfl, rfl, rfl, rfl⟩

theorem mirror_kept (s : State) (e : DeltaEntry) : Kept s (mirror s e) :=
  .ite ⟨rfl, rfl, rfl, rfl, rfl, rfl, rfl, rfl, rfl, rfl, rfl, rfl, rfl, rfl, rfl⟩ .rfl

theorem postEvent_kept (s : State) (e : Event) : Kept s (postEvent s e) :=
  .ite ⟨rfl, rfl, rfl, rfl, rfl, rfl, rfl, rfl, rfl, rfl, rfl, rfl, rfl, rfl, rfl⟩ ⟨rfl, rfl, rfl, rfl, rfl, rfl, rfl, rfl, rfl, rfl, rfl, rfl, rfl, rfl, rfl⟩

theorem raiseEvent_kept (s : State) (suites : List Nat) (sev : Nat) (u : UnitId) (st : Status) (payload : List (BitVec 64)) :
    Kept s (raiseEvent s suites sev u st payload) :=
  (setUnitStat_kept s u _).trans (Kept.foldl (fun t _ => postEvent_kept t _) _ _)

theorem setPort_kept (s : State) (p : Nat) (f : Port → Port) : Kept s { s with ports := tmod {} s.ports p f } :=
  ⟨rfl, rfl, rfl, rfl, rfl, rfl, rfl, rfl, rfl, rfl, rfl, rfl, rfl, rfl, rfl⟩

theorem countPort_kept (s : State) (p : Nat) (tx : Bool) (k n : Nat) : Kept s (countPort s p tx k n) := setPort_kept s p _

theorem sendPause_kept (s : State) (p quanta : Nat) : Kept s (sendPause s p quanta) := by
  unfold sendPause
  split
  · exact .rfl
  · exact ((((setPort_kept s p _).trans (countPort_kept _ p _ _ _)).trans (countPort_kept _ p _ _ _)).trans
      (countPort_kept _ p _ _ _)).trans (countPort_kept _ p _ _ _)

theorem pauseOn_kept (s : State) (q : Nat) (rises : Bool) : Kept s (pauseOn s q rises) :=
  Kept.foldl (fun t (e : Nat × Port) => .ite ((setPort_kept t e.1 _).trans (sendPause_kept _ e.1 _)) .rfl) _ _

theorem judgeLater_kept (s : State) (q : Nat) : Kept s (judgeLater s q) := setQueue_kept s q _

theorem judgeHigh_kept (s : State) (q : Nat) : Kept s (judgeHigh s q) :=
  have h := setQueue_kept s q (fun x => { x with
    high := highOf (queueAt s q), unjudged := false
    highRises := if highOf (queueAt s q) && !(queueAt s q).high then bump 16 x.highRises else x.highRises })
  .ite (.ite ((h.trans (pauseOn_kept _ q true)).trans (raiseEvent_kept _ _ _ _ _ _)) (h.trans (pauseOn_kept _ q true)))
    (.ite (h.trans (pauseOn_kept _ q false)) h)

theorem judgeQueues_kept (s : State) : Kept s (judgeQueues s) := Kept.foldl judgeHigh_kept _ _

theorem mirrorEntry_kept (s : State) (q : Nat) (it : Item) : Kept s (mirrorEntry s q it) := .ite (mirror_kept s _) .rfl

theorem mirrorAcks_kept (s : State) (q : Nat) (gone : List Item) : Kept s (mirrorAcks s q gone) := .ite (mirror_kept s _) .rfl

theorem enterItem_kept (s : State) (q : Nat) (it : Item) : Kept s (enterItem s q it) :=
  .ite .rfl (.ite (setQueue_kept s q _)
    (((setQueue_kept s q _).trans (mirrorEntry_kept _ q _)).trans (judgeLater_kept _ q)))

theorem spendAndEnter_kept (s : State) (q : Nat) (it : Item) : Kept s (spendAndEnter s q it) :=
  (setQueue_kept s q _).trans (enterItem_kept _ q _)

theorem putItem_kept (s : State) (q : Nat) (who : Producer) (suite host prio : Nat) (ptag : Bool) (data : List Byte) :
    Kept s (putItem s q who suite host prio ptag data).1 := by
  unfold putItem
  dsimp only
  split
  · exact .rfl
  · split
    · exact .rfl
    · split
      · cases who with
        | engine _ => exact setQueue_kept s q _
        | _ => exact .rfl
      · exact spendAndEnter_kept s q _

theorem dropItems_kept (s : State) (q : Nat) (p : Item → Bool) : Kept s (dropItems s q p) :=
  .ite .rfl (((Kept.foldl (fun t _ => setQueue_kept t q _) _ _).trans (mirrorAcks_kept _ q _)).trans
    ((setQueue_kept _ q _).trans (judgeLater_kept _ q)))

theorem ackItem_kept (s : State) (q seq : Nat) : Kept s (ackItem s q seq) := .ite .rfl (dropItems_kept s q _)

theorem dropLost_kept (s : State) (q : Nat) : Kept s (dropLost s q) :=
  have h := Kept.foldl (fun t _ => (setQueue_kept t q _).trans (raiseEvent_kept _ _ _ _ _ _)) ((queueAt s q).items.filter headerLost) s
  .ite h ((h.trans (mirrorAcks_kept _ q _)).trans ((setQueue_kept _ q _).trans (judgeLater_kept _ q)))

theorem readItems_kept (s : State) (q : Nat) (given : Item → Bool) : Kept s (readItems s q given) := setQueue_kept s q _

theorem readHead_kept (s : State) (q : Nat) : Kept s (readHead s q) := by
  unfold readHead
  dsimp only
  split
  · exact (dropLost_kept s q).trans (readItems_kept _ q _)
  · exact dropLost_kept s q

theorem taken_kept (s : State) (q : CmdQueue) (c : Cmd) : Kept s (taken s q c) :=
  (readHead_kept s _).trans (ackItem_kept _ _ _)

/-! ### Replies -/

theorem enterCompletion_kept (s : State) (q : Nat) (ctx : Option Nat) (suite : Nat) (data : List Byte) :
    Kept s (enterCompletion s q ctx suite data) := by
  unfold enterCompletion
  split
  · exact .ite .rfl (.ite (enterItem_kept s q _) (spendAndEnter_kept s q _))
  · exact .rfl
  · exact (setQueue_kept s q _).trans (putItem_kept _ q _ _ _ _ _ _)

theorem reportBroken_kept (s : State) (ctx : Option Nat) (c : Completion) : Kept s (reportBroken s ctx c).1 := by
  unfold reportBroken
  split
  · exact ⟨rfl, rfl, rfl, rfl, rfl, rfl, rfl, rfl, rfl, rfl, rfl, rfl, rfl, rfl, rfl⟩
  · exact .rfl

theorem sendCompletion_kept (s : State) (q : Nat) (ctx : Option Nat) (c : Completion) : Kept s (sendCompletion s q ctx c) :=
  .ite .rfl ((reportBroken_kept s ctx c).trans (.ite (setSuite_kept _ _ _) (enterCompletion_kept _ _ _ _ _)))

theorem groupOut_kept (s : State) (l : List (Nat × Nat × Status)) : Kept s { s with groupOut := l } :=
  ⟨rfl, rfl, rfl, rfl, rfl, rfl, rfl, rfl, rfl, rfl, rfl, rfl, rfl, rfl, rfl⟩

theorem sendReply_kept (s : State) (c : Cmd) (st : Status) (payload : List (BitVec 64)) : Kept s (sendReply s c st payload) := by
  unfold sendReply
  split
  · exact groupOut_kept s _
  · exact .ite .rfl (sendCompletion_kept s _ _ _)
  · exact sendCompletion_kept s _ _ _

/-! ### Outputs and latches -/

theorem conduct_kept (s : State) (n : Nat) (on : Bool) : Kept s (conduct s n on) := setOutput_kept s n _

theorem turnOn_kept (s : State) (n : Nat) : Kept s (turnOn s n) := (conduct_kept s n true).trans (setOutput_kept _ n _)

theorem turnOff_kept (s : State) (n : Nat) : Kept s (turnOff s n) :=
  ((Kept.ite (setBank_kept s _ _) .rfl).trans (conduct_kept _ n false)).trans (setOutput_kept _ n _)

theorem requestOutput_kept (s : State) (n : Nat) : Kept s (requestOutput s n) :=
  .ite (setOutput_kept s n _) (.ite (turnOn_kept s n) (.ite
    (.ite ((setOutput_kept s n _).trans (setBank_kept _ _ _)) (turnOn_kept s n))
    (.ite ((setOutput_kept s n _).trans (raiseEvent_kept _ _ _ _ _ _)) (turnOn_kept s n))))

theorem releaseOne_kept (s : State) (n : Nat) (v : Bool) : Kept s (releaseOne s n v).1 :=
  (Kept.ite .rfl ((turnOff_kept s n).trans (setOutput_kept _ n _))).trans (setOutput_kept _ n _)

theorem Kept.foldl_fst {α β : Type} {f : State × β → α → State × β} (h : ∀ p a, Kept p.1 (f p a).1) (l : List α) (p : State × β) :
    Kept p.1 (l.foldl f p).1 := by
  induction l generalizing p with
  | nil => exact .rfl
  | cons a l ih => exact (h p a).trans (ih _)

theorem releaseOutputs_kept (s : State) (vals : List (Nat × Bool)) : Kept s (releaseOutputs s vals) := by
  unfold releaseOutputs
  split
  · exact .rfl
  · refine Kept.trans ?_ (Kept.foldl requestOutput_kept _ _)
    exact (Kept.foldl (fun t (v : Nat × Bool) => releaseOne_kept t v.1 false) _ s).trans
      (Kept.foldl_fst (fun (p : State × List Nat) (v : Nat × Bool) => releaseOne_kept p.1 v.1 true) _ (_, []))

theorem releaseAt_kept (s : State) (due : List Latch) (t : Time80) : Kept s (releaseAt s due t) :=
  (releaseOutputs_kept s _).trans ⟨rfl, rfl, rfl, rfl, rfl, rfl, rfl, rfl, rfl, rfl, rfl, rfl, rfl, rfl, rfl⟩

theorem setLatches_kept (s : State) (l : List Latch) : Kept s { s with latches := l } :=
  ⟨rfl, rfl, rfl, rfl, rfl, rfl, rfl, rfl, rfl, rfl, rfl, rfl, rfl, rfl, rfl⟩

theorem switchLatches_kept (s : State) : Kept s (switchLatches s) := by
  unfold switchLatches
  split
  · exact .rfl
  · exact (setLatches_kept s _).trans (Kept.foldl (fun u t => releaseAt_kept u _ t) _ _)

/-! ### One tick -/

/-- The trim window is a matter of the Mantel clock alone. -/
theorem trimTick_kept (s : State) : Kept s (trimTick s) := by
  unfold trimTick
  split
  · exact .rfl
  · split <;> exact ⟨rfl, rfl, rfl, rfl, rfl, rfl, rfl, rfl, rfl, rfl, rfl, rfl, rfl, rfl, rfl⟩

/-- The copies of house time are all that advances with them. -/
theorem advanceCopies_kept (s : State) : Kept s (advanceCopies s) := by
  unfold advanceCopies
  exact .ite .rfl (Kept.foldl (f := fun t d => { t with copies := tmod {} t.copies d (DieCopy.advance t.clock (outOfTouch t d)) })
    (fun _ _ => ⟨rfl, rfl, rfl, rfl, rfl, rfl, rfl, rfl, rfl, rfl, rfl, rfl, rfl, rfl, rfl⟩) _ _)

/-- What even a module reset leaves as it was: the commands that wait, real time and the fuses. -/
structure Lasting (s t : State) : Prop where
  pending : t.pending = s.pending
  tick : t.tick = s.tick
  fuses : t.fuses = s.fuses

namespace Lasting

theorem rfl {s : State} : Lasting s s := ⟨.refl _, .refl _, .refl _⟩

theorem trans {s t u : State} (h : Lasting s t) (k : Lasting t u) : Lasting s u :=
  ⟨k.pending.trans h.pending, k.tick.trans h.tick, k.fuses.trans h.fuses⟩

theorem foldl {α : Type} {f : State → α → State} (h : ∀ s a, Lasting s (f s a)) (l : List α) (s : State) : Lasting s (l.foldl f s) := by
  induction l generalizing s with
  | nil => exact rfl
  | cons a l ih => exact (h s a).trans (ih _)

theorem ite {c : Prop} [Decidable c] {s a b : State} (ha : Lasting s a) (hb : Lasting s b) : Lasting s (if c then a else b) := by
  split
  · exact ha
  · exact hb

end Lasting

theorem Kept.lasting {s t : State} (h : Kept s t) : Lasting s t := ⟨h.pending, h.tick, h.fuses⟩

theorem recordReply_lasting (s : State) (u : UnitId) (target : BitVec 64) (tag q code : Nat) (st : Status) (payload : List (BitVec 64)) :
    Lasting s (recordReply s u target tag q code st payload) := by
  unfold recordReply
  dsimp only
  split
  · exact Lasting.trans (t := keepRecord s _) ⟨rfl, rfl, rfl⟩ (mirror_kept _ _).lasting
  · exact ⟨rfl, rfl, rfl⟩

theorem noteReply_lasting (s : State) (u : Option UnitId) (target : BitVec 64) (tag q code : Nat) (st : Status) (payload : List (BitVec 64)) :
    Lasting s (noteReply s u target tag q code st payload) := by
  cases u with
  | none => exact .rfl
  | some u => exact (setUnitStat_kept s u _).lasting.trans (recordReply_lasting _ u _ _ _ _ _ _)

theorem lateReply_lasting (s : State) (via : CmdQueue) (target : BitVec 64) (tag q code suite : Nat) (st : Status) (payload : List (BitVec 64)) :
    Lasting s (lateReply s via target tag q code suite st payload) := by
  have h := noteReply_lasting s ((resolve s target).map targetUnit) target tag q code st payload
  cases via with
  | group => exact h.trans (groupOut_kept _ _).lasting
  | unit => exact h.trans (sendCompletion_kept _ _ _ _).lasting
  | pair => exact h.trans (sendCompletion_kept _ _ _ _).lasting

theorem wipeSlot_lasting (s : State) (n : Nat) : Lasting s (wipeSlot s n) := ⟨rfl, rfl, rfl⟩

theorem loseKeys_lasting (s : State) : Lasting s (loseKeys s) :=
  ((Lasting.foldl wipeSlot_lasting _ _).trans (Lasting.foldl (fun t (e : Nat × Key) => wipeSlot_lasting t e.1) _ _)).trans ⟨rfl, rfl, rfl⟩

theorem resetModule_lasting (s : State) (cls : ResetClass) (cause : Nat) : Lasting s (resetModule s cls cause) := by
  have h := loseKeys_lasting s
  exact .ite (h.trans ⟨rfl, rfl, rfl⟩) (h.trans ⟨rfl, rfl, rfl⟩)

theorem requestReset_lasting (s : State) (cls : ResetClass) (cause : Nat) : Lasting s (requestReset s cls cause) :=
  .ite .rfl (resetModule_lasting s cls cause)

theorem resetLater_lasting (s : State) (cls : ResetClass) (cause : Nat) : Lasting s (resetLater s cls cause) := .ite .rfl ⟨rfl, rfl, rfl⟩

theorem commandReset_lasting (s : State) (cold : Bool) : Lasting s (commandReset s cold) :=
  .ite (resetLater_lasting s _ _) (resetLater_lasting s _ _)

theorem releaseHeld_lasting (s : State) : Lasting s (releaseHeld s) := by
  unfold releaseHeld
  split
  · exact .rfl
  · rename_i h _
    dsimp only
    split
    · exact .rfl
    · have hl := lateReply_lasting { s with boot := { s.boot with heldReset := none } } h.via h.target h.tag h.replyQueue 4 h.suite stDone []
      exact (Lasting.trans ⟨hl.pending, hl.tick, hl.fuses⟩ (commandReset_lasting _ h.cold))

theorem releasePair_lasting (s : State) : Lasting s (releasePair s) := by
  unfold releasePair
  split
  · exact .ite (Lasting.trans (t := setTwin s _) ⟨rfl, rfl, rfl⟩ (commandReset_lasting _ _)) .rfl
  · exact .rfl

theorem beginReset_lasting (s : State) : Lasting s (beginReset s) := by
  unfold beginReset
  split
  · exact .ite (requestReset_lasting s _ _) .rfl
  · exact (releaseHeld_lasting s).trans (releasePair_lasting _)

/-- With no reset waiting for its instant, none begins. -/
theorem beginReset_idle {s : State} (h : s.boot.pendingReset = none) (hh : s.boot.heldReset = none) (hp : s.twin.pairReset = none) :
    beginReset s = s := by
  simp only [beginReset, releaseHeld, releasePair, h, hh, hp]

/-- The state in which a reset that waits would begin: the tick is counted and the clocks have moved on. -/
def ticked (s : State) : State :=
  switchLatches (trimTick { advanceCopies (judgeQueues s) with
    tick := (judgeQueues s).tick + 1
    clock := (judgeQueues s).clock.advance
    mantel := if Config.crystalEdge (judgeQueues s).tick then { (judgeQueues s).mantel.edge with lastEdge := (judgeQueues s).tick }
      else (judgeQueues s).mantel })

theorem refclkTick_eq (s : State) : refclkTick s = beginReset (ticked s) := rfl

/-- A tick counts and moves the clocks; what else it leaves is as the common services leave it. -/
theorem ticked_leaves (s : State) : (ticked s).tick = s.tick + 1 ∧ (ticked s).pending = s.pending ∧ (ticked s).fuses = s.fuses ∧
    (ticked s).sram = s.sram ∧ (ticked s).tasks = s.tasks ∧ (ticked s).boot = s.boot ∧ (ticked s).twin.pairReset = s.twin.pairReset := by
  have j := (judgeQueues_kept s).trans (advanceCopies_kept _)
  have h := fun u => (trimTick_kept u).trans (switchLatches_kept _)
  refine ⟨(h _).tick.trans ?_, (h _).pending.trans j.pending, (h _).fuses.trans j.fuses, (h _).sram.trans j.sram, (h _).tasks.trans j.tasks,
    (h _).boot.trans j.boot, (h _).pairReset.trans j.pairReset⟩
  exact congrArg (· + 1) (judgeQueues_kept s).tick

/-- Settles O2: the queue's rest is empty already, and a tick without a reset touches neither data SRAM nor a task. -/
theorem emptyQueueTicksRefclk : Obligations.EmptyQueueTicksRefclk := by
  intro s hs
  obtain ⟨htick, hpending, hfuses, hsram, htasks, hboot, hpair⟩ := ticked_leaves s
  have hl := beginReset_lasting (ticked s)
  refine ⟨beginReset (ticked s), by simp only [step, hs, refclkTick_eq], hl.tick.trans htick, (hl.pending.trans hpending).trans hs,
    hl.fuses.trans hfuses, fun h1 h2 h3 => ?_⟩
  rw [beginReset_idle (hboot ▸ h1) (hboot ▸ h2) (hpair ▸ h3)]
  exact ⟨hsram, htasks⟩

/-! ### The state after a power-on reset -/

/-- Settles O59. -/
theorem resetSramCanonical : Obligations.ResetSramCanonical := ⟨empty_wf, fun _ => rfl, rfl⟩

/-- Settles O60: every table is empty, so each entry reads as its default. -/
theorem resetState : Obligations.ResetState := by
  refine ⟨rfl, rfl, rfl, rfl, rfl, rfl, rfl, rfl, rfl, rfl, fun _ => rfl, fun n => ?_, fun _ => ⟨rfl, rfl⟩, rfl, rfl, rfl, rfl,
    fun _ => ⟨rfl, rfl, rfl⟩, fun _ => rfl, fun _ => ⟨rfl, rfl⟩, fun _ => ⟨rfl, rfl, rfl⟩, fun _ => ⟨rfl, rfl⟩, fun _ => ⟨rfl, rfl⟩,
    fun _ => ⟨rfl, rfl, rfl, rfl⟩, fun _ => ⟨rfl, rfl⟩, rfl, rfl, rfl, rfl, rfl, rfl⟩
  show (suiteDefault n).enabled = _
  exact beq_eq_decide n 0

end Sys2Proof.Proofs
end

section
/-! Unit commands: each row of the table is one use of `unitCommand`, and what that does case by case. -/

namespace Sys2Proof.Proofs
open Sys2Proof Sys2Proof.Machine

/-! ### What `unitCommand` does -/

section
variable {s : State} {q : CmdQueue} {c : Cmd} {pick : Cmd → Bool} {loc : Bool} {run : Cmd → Target → State → CmdResult}

theorem unitCommand_empty (h : headCommand (readHead s (cmdQueueNo q)) q = none) : unitCommand q pick loc run s = s := by
  simp only [unitCommand, h]

theorem unitCommand_other (h : headCommand (readHead s (cmdQueueNo q)) q = some c) (hp : pick c = false) :
    unitCommand q pick loc run s = s := by
  simp only [unitCommand, h, hp, Bool.not_false, if_true]

/-- The command is not refused in recovery. -/
theorem notBarred {r : State} (hn : r.boot.phase ≠ .recovery ∨ recoveryAllows r c = true) :
    (decide (r.boot.phase = .recovery) && !recoveryAllows r c) = false := by
  rcases hn with hn | hn
  · simp [hn]
  · simp [hn]

/-- What becomes of a command that its unit carries out: a group's goes to the members, unless its speaker answers it itself. -/
def runFor (loc : Bool) (run : Cmd → Target → State → CmdResult) (c : Cmd) (u : UnitId) (r : State) : CmdResult :=
  match u with
  | .group l => if loc && speaks r l then run c (.unit u) r else groupCommand run r c l
  | _ => run c (.unit u) r

theorem unitCommand_nowhere (h : headCommand (readHead s (cmdQueueNo q)) q = some c) (hp : pick c = true)
    (ht : resolve (taken s q c) c.target = none) :
    unitCommand q pick loc run s = sendReply (taken s q c) c (stRefused .address) [] := by
  unfold taken at *
  simp only [unitCommand, h, hp, ht, Bool.not_true, Option.map_none]
  rfl

section
variable {u : UnitId} (h : headCommand (readHead s (cmdQueueNo q)) q = some c) (hp : pick c = true)
  (ht : (resolve (taken s q c) c.target).map (memberTarget (taken s q c) c) = some (.unit u))
include h hp ht

theorem unitCommand_recovery (hb : (taken s q c).boot.phase = .recovery) (hr : recoveryAllows (taken s q c) c = false) :
    unitCommand q pick loc run s = replied c u (taken s q c) (stRefused .state) [] := by
  unfold taken at *
  simp only [unitCommand, h, hp, ht, hb, hr, Bool.not_true, Bool.not_false, decide_true, Bool.and_true, if_true]
  rfl

theorem unitCommand_forwards (hn : (taken s q c).boot.phase ≠ .recovery ∨ recoveryAllows (taken s q c) c = true)
    (hf : forwards (taken s q c) c (.unit u) = true) :
    unitCommand q pick loc run s =
      { taken s q c with twin := { (taken s q c).twin with forwarded := (taken s q c).twin.forwarded ++ [c.item] } } := by
  have hb := notBarred hn
  unfold taken at *
  simp only [unitCommand, h, hp, ht, hb, hf, Bool.not_true, if_true]
  rfl

end

theorem passGroup_silent {r : State} {l : Nat} {g : GroupDecl} (fuel : Nat) (hg : groupAt r l = some g) (hs : speaks r l = false) :
    passGroup run (fuel + 1) r c l = refuse r .state := by
  simp only [passGroup, hg, hs, Bool.not_false, if_true]

section
variable {u : UnitId} (h : Reaches s q c u) (hp : pick c = true)
include h hp

/-- A command that reaches its unit: a recorded one is answered again, any other runs, a group's through `groupCommand`. -/
theorem unitCommand_reaches : unitCommand q pick loc run s =
    match findRecord (taken s q c) u c.tag c.replyQueue with
    | some d => repeatReply (taken s q c) c d
    | none => finishCommand c (some u) (runFor loc run c u (taken s q c)) := by
  obtain ⟨hh, ht, hn, hf⟩ := h
  have hb := notBarred hn
  unfold taken at *
  simp only [unitCommand, hh, hp, ht, hb, hf, Bool.not_true, targetUnit]
  cases findRecord (takeCommand (readHead s (cmdQueueNo q)) c) u c.tag c.replyQueue with
  | some d => rfl
  | none => cases u <;> rfl

theorem unitCommand_repeats {d : CmdRecord} (hd : findRecord (taken s q c) u c.tag c.replyQueue = some d) :
    unitCommand q pick loc run s = sendReply (setUnitStat (taken s q c) d.unit (fun y => { y with lastStatus := d.status }))
      { c with code := d.code.getD c.code } d.status d.payload := by
  rw [unitCommand_reaches h hp, hd]; rfl

theorem unitCommand_silent {l : Nat} (hu : u = .group l) (hd : findRecord (taken s q c) u c.tag c.replyQueue = none)
    (hg : (groupAt (taken s q c) l).isSome = true) (hs : speaks (taken s q c) l = false)
    (hc : c.reads = true ∨ c.queue = .group ∨ commands (taken s q c) 0 c = true) :
    unitCommand q pick loc run s = replied c u (taken s q c) (stRefused .state) [] := by
  obtain ⟨g, hg⟩ := Option.isSome_iff_exists.1 hg
  have pass : passGroup run 7 (taken s q c) c l = refuse (taken s q c) .state := passGroup_silent 6 hg hs
  have go : groupCommand run (taken s q c) c l = refuse (taken s q c) .state := by
    unfold groupCommand
    split
    · exact pass
    · rename_i hx
      simp only [Bool.or_eq_true, decide_eq_true_eq, not_or] at hx
      have hc : commands (taken s q c) 0 c = true := by
        rcases hc with hc | hc | hc
        · exact absurd hc hx.1
        · exact absurd hc hx.2
        · exact hc
      simp only [ownerOnly, hc, if_true, pass]
  rw [unitCommand_reaches h hp, hd, hu]
  simp only [runFor, hs, Bool.and_false, go]
  rfl

end

/-- A command that its unit serves runs, and is finished. -/
theorem unitCommand_served {u : UnitId} (h : Served s q c u) (hp : pick c = true) (hl : loc = true ∨ c.isRead = false) :
    unitCommand q pick loc run s = finishCommand c (some u) (run c (.unit u) (taken s q c)) := by
  obtain ⟨hr, hf, hg⟩ := h
  rw [unitCommand_reaches hr hp, hf]
  cases u with
  | group l =>
    obtain ⟨hread, hs⟩ := hg l rfl
    have : loc = true := hl.resolve_right (by rw [hread]; decide)
    simp only [runFor, this, hs, Bool.and_true, if_true]
  | _ => rfl

end

/-! ### The table's rows -/

/-- An instruction is a row of the unit commands that picks the commands that `test` accepts. -/
def IsRow (i : Instr) (q : CmdQueue) (test : Nat → Nat → Bool) : Prop :=
  ∃ pick loc run, (∀ s, exec i s = .next (unitCommand q pick loc run s)) ∧ ∀ c : Cmd, pick c = test c.code c.arg

/-- Every entry of the command table is a row of the unit commands. -/
theorem commandTable_rows (q : CmdQueue) (rb : FuseReads) : ∀ x ∈ commandTable, IsRow (x.1 q rb) q x.2 := by
  intro x hx
  simp only [commandTable, List.mem_cons, List.not_mem_nil, or_false] at hx
  rcases hx with rfl | rfl | rfl | rfl | rfl | rfl | rfl | rfl | rfl | rfl | rfl | rfl | rfl | rfl | rfl | rfl | rfl | rfl | rfl | rfl |
    rfl | rfl | rfl | rfl | rfl | rfl | rfl | rfl | rfl | rfl | rfl | rfl | rfl | rfl | rfl | rfl | rfl | rfl | rfl | rfl |
    rfl | rfl | rfl | rfl | rfl | rfl | rfl | rfl | rfl <;> refine ⟨_, _, _, fun _ => rfl, fun c => ?_⟩
  case inr.inr.inr.inr.inr.inl =>
    have : (!(decide (2 ≤ c.arg) && decide (c.arg ≤ 4))) = (decide (c.arg < 2) || decide (4 < c.arg)) := by
      rw [Bool.eq_iff_iff]; simp
    simp only [this]
  all_goals rfl

/-- What an answered command leaves: the state's own tasks, data SRAM and fuses, and the record of the answer. -/
theorem replied_leaves (s : State) (c : Cmd) (u : UnitId) (st : Status) (payload : List (BitVec 64)) :
    (replied c u s st payload).sram = s.sram ∧ (replied c u s st payload).tasks = s.tasks ∧ (replied c u s st payload).fuses = s.fuses ∧
    { unit := u, target := c.target, tag := c.tag, replyQueue := c.replyQueue, atTick := s.tick, status := st, payload, code := some c.code } ∈
      (replied c u s st payload).records := by
  let kept := keepRecord (noteStatus s u st)
    { unit := u, target := c.target, tag := c.tag, replyQueue := c.replyQueue, atTick := s.tick, status := st, payload, code := some c.code }
  have h : Kept kept (replied c u s st payload) := by
    refine Kept.trans (t := recordReply (noteStatus s u st) u c.target c.tag c.replyQueue c.code st payload) ?_ (sendReply_kept _ c st payload)
    exact .ite (mirror_kept kept _) .rfl
  exact ⟨h.sram, h.tasks, h.fuses, h.records ▸ List.mem_cons_self⟩

/-- Settles O28: every row is a `unitCommand`, whose cases are told one by one. -/
theorem unitCommandsAreTaken : Obligations.UnitCommandsAreTaken := by
  refine ⟨fun s q rb x hx => ?_, fun s c u st payload => ?_⟩
  · obtain ⟨pick, loc, run, he, ht⟩ := commandTable_rows q rb x hx
    simp only [he, ← ht]
    refine ⟨fun h => ?_, fun c h hp => ?_, fun c h hp => ⟨fun hn => ?_, fun u hu => ⟨fun hb ha => ?_, fun hn hf => ?_⟩,
      fun u hr => ⟨fun d hd => ?_, fun l hl hd hg hs hc => ?_⟩⟩⟩
    · rw [unitCommand_empty h]
    · rw [unitCommand_other h hp]
    · rw [unitCommand_nowhere h hp hn]
    · rw [unitCommand_recovery h hp hu hb ha]
    · rw [unitCommand_forwards h hp hu hn hf]
    · rw [unitCommand_repeats hr hp hd]
    · rw [unitCommand_silent hr hp hl hd hg hs hc]
  · obtain ⟨h1, h2, h3, h4⟩ := replied_leaves s c u st payload
    exact ⟨h1, h2, h3, _, h4, rfl, rfl, rfl, rfl, rfl, rfl, rfl, rfl⟩

end Sys2Proof.Proofs
end

section
/-! The commands that read: what each answers. -/

namespace Sys2Proof.Proofs
open Sys2Proof Sys2Proof.Machine

/-! ### Fields, units and replies -/

/-- The lowest field of a word. -/
theorem fld_low (w : BitVec 64) (n : Nat) : fld w 0 n = w.toNat % 2 ^ n := by rw [fld, Nat.pow_zero, Nat.div_one]

theorem suiteWord_eq (c : Cmd) : c.suiteWord = (c.word 2).toNat % 2 ^ 6 := fld_low _ 6

theorem onUnit_ok {u : UnitId} {ok : UnitId → Bool} (h : ok u = true) (s : State) (r : CmdResult) : onUnit (.unit u) ok s r = r := by
  simp only [onUnit, h, if_true]

theorem ownerOnly_ok {s : State} {n : Nat} {c : Cmd} (h : commands s n c = true) (r : CmdResult) : ownerOnly s n c r = r := by
  simp only [ownerOnly, h, if_true]

/-- A command other than DESCRIBE, STATUS and MEMBERS is no read of a group's speaker. -/
theorem not_isRead {c : Cmd} (h : 3 < c.code) : c.isRead = false := by
  unfold Cmd.isRead
  rw [Bool.and_eq_false_iff]
  exact .inr (decide_eq_false (by omega))

section
variable {s : State} {q : CmdQueue} {c : Cmd} {u : UnitId} {i : Instr} {run : Cmd → Target → State → CmdResult}

/-- A command that a row picks by its CODE, served by its unit: what it runs is what is finished. -/
theorem served_finishes {pick : Cmd → Bool} {loc : Bool} (h : Served s q c u) (he : exec i s = .next (unitCommand q pick loc run s))
    (hp : pick c = true) (hl : loc = true ∨ c.isRead = false) :
    exec i s = .next (finishCommand c (some u) (run c (.unit u) (taken s q c))) := by
  rw [he, unitCommand_served h hp hl]

/-- A command that a row picks by its CODE answers its unit's requester with what it runs to. -/
theorem served_answers {code : Nat} {loc : Bool} {t : State} {st : Status} {payload : List (BitVec 64)} (h : Served s q c u)
    (he : exec i s = .next (unitCommand q (withCode code) loc run s)) (hc : c.code = code) (hl : loc = true ∨ 3 < code)
    (hr : run c (.unit u) (taken s q c) = { s := t, st, payload }) : exec i s = .next (replied c u t st payload) := by
  rw [served_finishes h he (beq_iff_eq.2 hc) (hl.imp_right fun hc' => not_isRead (hc ▸ hc')), hr]
  rfl

end

/-! ### The single reads -/

section
variable {s : State} {c : Cmd} {u : UnitId}

theorem describe_run (h : c.code = 1) : describe c (.unit u) s = { s, st := stDone, payload := descriptor s u } := by
  simp only [describe, h, ne_eq, not_true_eq_false, if_false, onAnyUnit]

theorem readStatus_run_other (hu : ∀ p, u ≠ .part p) (h : c.arg < (unitWords s u).length) :
    readStatus c (.unit u) s = { s := measureUnit s u, st := stDone, payload := [(unitWords s u).getD c.arg 0] } := by
  cases u with
  | part p => exact absurd rfl (hu p)
  | _ => exact if_neg (Nat.not_le.2 h)

theorem readStatus_run_part {p : Part} (hu : u = .part p) (h : c.arg < (unitWords (measureUnit s u) u).length) :
    readStatus c (.unit u) s = { s := measureUnit s u, st := stDone, payload := [(unitWords (measureUnit s u) u).getD c.arg 0] } := by
  subst hu
  exact if_neg (Nat.not_le.2 h)

theorem readMembers_run (h : c.arg = 0 ∨ 32 * c.arg < (memberAddrs s u).length) :
    readMembers c (.unit u) s = { s, st := stDone, payload := ((memberAddrs s u).drop (32 * c.arg)).take 32 } := by
  have : (decide (c.arg ≠ 0) && decide ((memberAddrs s u).length ≤ 32 * c.arg)) = false := by
    rw [Bool.and_eq_false_iff]
    exact h.imp (fun h => decide_eq_false (not_not_intro h)) (fun h => decide_eq_false (by omega))
  simp only [readMembers, onAnyUnit, this, Bool.false_eq_true, if_false]

theorem taskStatus_run (hu : isSelf u = true) (hn : c.suite = (c.word 2).toNat % 2 ^ 6 ∨ c.suite = 0) (ha : (c.word 2).getLsbD 13 = false)
    (h : c.arg < 4) : taskStatus c (.unit u) s = { s, st := stDone, payload :=
      [(taskStatusWords (taskAt s (32 * ((c.word 2).toNat % 2 ^ 6) + (c.word 2).toNat / 2 ^ 8 % 2 ^ 5))).getD c.arg 0] } := by
  have hs : (decide (c.suite ≠ (c.word 2).toNat % 2 ^ 6) && decide (c.suite ≠ 0)) = false := by
    rw [Bool.and_eq_false_iff]
    exact hn.imp (fun h => decide_eq_false (not_not_intro h)) (fun h => decide_eq_false (not_not_intro h))
  have hr : ((c.word 2).getLsbD 13 || decide (3 < c.arg)) = false := by rw [ha, Bool.false_or]; exact decide_eq_false (by omega)
  have hf : fld (c.word 2) 8 5 = (c.word 2).toNat / 2 ^ 8 % 2 ^ 5 := rfl
  simp only [taskStatus, onUnit_ok hu, selectorOf, fld_low, bitAt, hs, hr, Bool.false_eq_true, if_false, ctxKey, hf, Nat.mul_comm 32]

theorem suiteStatus_run (hu : isSelf u = true) (h : c.arg < 4) :
    onSuite c (.unit u) s (fun n => if 3 < c.arg then refuse s .range else { s, st := stDone, payload := [(suiteWords s n).getD c.arg 0] }) =
      { s := setSuite s ((c.word 2).toNat % 2 ^ 6) (fun x => { x with lastStatus := stDone }), st := stDone
        payload := [(suiteWords s ((c.word 2).toNat % 2 ^ 6)).getD c.arg 0] } := by
  simp only [onSuite, onUnit_ok hu, suiteWord_eq, noteSuite, show ¬ 3 < c.arg by omega, if_false, if_true]

theorem onQueue_run {run : Nat → CmdResult} {n : Nat} (hu : u = .part larderPart) (ha : c.arg = 0)
    (hq : queueOwner s ((c.word 2).toNat % 2 ^ 16) = some n) (hc : commands s n c = true) :
    onQueue c (.unit u) s run = run ((c.word 2).toNat % 2 ^ 16) := by
  have : ((u == .part larderPart) = true) := beq_iff_eq.2 hu
  simp only [onQueue, onUnit, this, if_true, fld_low, hq, ownerOnly_ok hc, ha, ne_eq, not_true_eq_false, if_false]

theorem unitPort_of_port {p : Part} (h : p.cls = 1 ∨ p.cls = 2) :
    unitPort (.part p) = some (if p.cls = 1 then p.inst else 192 + p.inst) := by
  rcases h with h | h <;> simp [unitPort, h]

theorem atticRead_run (hu : u = atticUnit) (ha : c.arg = 0) (hn : c.suite = (c.word 2).toNat % 2 ^ 6 ∨ c.suite = 0)
    (hk : (c.word 2).toNat / 2 ^ 16 % 2 ^ 6 ≠ 63) : atticRead c (.unit u) s =
      { s, st := stDone, payload := (readPayload (partitionAt s ((c.word 2).toNat % 2 ^ 6)) (max 1 ((c.word 3).toNat % 2 ^ 48))
        ((c.word 4).toNat % 2 ^ 48) (min ((c.word 2).toNat / 2 ^ 16 % 2 ^ 6) (((queueAt s c.replyQueue).itemMax - 48) / 64))) } := by
  have hs : (decide (c.suite ≠ (c.word 2).toNat % 2 ^ 6) && decide (c.suite ≠ 0)) = false := by
    rw [Bool.and_eq_false_iff]
    exact hn.imp (fun h => decide_eq_false (not_not_intro h)) (fun h => decide_eq_false (not_not_intro h))
  have hr : (decide (c.arg ≠ 0) || decide (fld (c.word 2) 16 6 = 63)) = false := by
    rw [Bool.or_eq_false_iff]
    exact ⟨decide_eq_false (not_not_intro ha), decide_eq_false hk⟩
  have : ((u == atticUnit) = true) := beq_iff_eq.2 hu
  simp only [atticRead, onUnit, this, if_true, hr, fld_low, hs, Bool.false_eq_true, if_false]
  rfl

theorem counts_pack (a b : Nat) : pack [(0, 32, a), (32, 32, b)] = BitVec.ofNat 64 (a % 2 ^ 32 + b % 2 ^ 32 * 2 ^ 32) := by
  rw [pack_two, Nat.pow_zero, Nat.mul_one]

end

/-- Settles O29: each read is served, and runs to its table's words. -/
theorem readCommands : Obligations.ReadCommands := by
  intro s q c u h
  refine ⟨fun hc => ?_, fun hc hu hl => ?_, fun hc p hu hl => ?_, fun hc hl => ?_, fun hu => ⟨fun hc hn ha hl => ?_, fun hc hl => ?_,
    fun hc hl kind n hk => ?_⟩, fun hu hc ha n hq ho => ?_, fun hu hc ho => ?_, fun p hu hc hl hp => ?_, fun hu hc => ?_, fun hu hc ha => ?_,
    fun hu hc ha hn hk => ?_⟩
  · refine (served_finishes h rfl ?_ (.inl rfl)).trans ?_
    · show (c.code == 1 || _) = true
      rw [hc]; rfl
    · rw [describe_run hc]; rfl
  · exact served_answers h rfl hc (.inl rfl) (readStatus_run_other hu hl)
  · exact served_answers h rfl hc (.inl rfl) (readStatus_run_part hu hl)
  · exact served_answers h rfl hc (.inl rfl) (readMembers_run hl)
  · exact served_answers h rfl hc (.inr (by decide)) (taskStatus_run hu hn ha hl)
  · exact served_answers h rfl hc (.inr (by decide)) (suiteStatus_run hu hl)
  · refine served_answers h rfl hc (.inr (by decide)) ?_
    simp only [onUnit_ok hu, hk, show ¬ 4 < c.arg by omega, if_false]
  · exact served_answers h rfl hc (.inr (by decide)) (onQueue_run hu ha hq ho)
  · refine served_answers h rfl hc (.inr (by decide)) ?_
    simp only [onUnit, beq_iff_eq.2 hu, if_true, fld_low]
    exact ownerOnly_ok ho _
  · refine served_answers h rfl hc (.inr (by decide)) ?_
    subst hu
    simp only [unitPort_of_port hp, show ¬ 1 < c.arg by omega, if_false]
  · refine served_answers h rfl hc (.inr (by decide)) ?_
    simp only [onUnit, beq_iff_eq.2 hu, if_true, counts_pack]
  · refine served_answers h rfl hc (.inr (by decide)) ?_
    simp only [onUnit, beq_iff_eq.2 hu, if_true, ha, ne_eq, not_true_eq_false, if_false]
  · exact served_answers h rfl hc (.inr (by decide)) (atticRead_run hu ha hn hk)

end Sys2Proof.Proofs
end

section
/-! Commands of owners and of resets, and what a change of ownership leaves. -/

namespace Sys2Proof.Proofs
open Sys2Proof Sys2Proof.Machine

/-! ### Suites as entries of their table -/

/-- Setting an entry that is not its default leaves the others, whatever their defaults are. -/
theorem tget_tset_other_defaults {α : Type} [DecidableEq α] {d d' : α} {i j : Nat} (t : Table α) {x : α} (hx : x ≠ d) (hij : j ≠ i) :
    tget d' (tset d t i x) j = tget d' t j := by
  induction t with
  | nil =>
    simp only [tset, hx, if_false, tget, hij]
    split <;> rfl
  | cons e t ih =>
    obtain ⟨k, v⟩ := e
    simp only [tset, hx, if_false]
    split
    · rename_i hlt
      simp only [tget, hij, if_false]
      split
      · rw [if_neg (by omega), if_pos (by omega)]
      · rfl
    · split
      · rename_i hk
        subst hk
        simp only [tget, hij, if_false]
      · simp only [tget, ih]

section
variable {s : State} {n : Nat} {f : Suite → Suite}

theorem suiteAt_setSuite_ne_default (h : f (suiteAt s n) ≠ suiteDefault n) : suiteAt (setSuite s n f) n = f (suiteAt s n) :=
  tget_tset_ne_default _ s.suites h

theorem suiteAt_setSuite_of_ne {m : Nat} (h : f (suiteAt s n) ≠ suiteDefault n) (hm : m ≠ n) : suiteAt (setSuite s n f) m = suiteAt s m :=
  tget_tset_other_defaults s.suites h hm

end

/-- What a change does to the entry that stands there is all that counts. -/
theorem setSuite_congr {s : State} {n : Nat} {f g : Suite → Suite} (h : f (suiteAt s n) = g (suiteAt s n)) : setSuite s n f = setSuite s n g := by
  have : tmod (suiteDefault n) s.suites n f = tmod (suiteDefault n) s.suites n g := congrArg (tset (suiteDefault n) s.suites n) h
  unfold setSuite
  rw [this]

theorem mirror_suites (s : State) (e : DeltaEntry) : (mirror s e).suites = s.suites := by unfold mirror; split <;> rfl

theorem mirrorOwner_suites (s : State) (n : Nat) : (mirrorOwner s n).suites = s.suites := mirror_suites s _

theorem postEvent_suites (s : State) (e : Event) : (postEvent s e).suites = s.suites := by unfold postEvent; split <;> rfl

theorem raiseEvent_suites (s : State) (suites : List Nat) (sev : Nat) (u : UnitId) (st : Status) (payload : List (BitVec 64)) :
    (raiseEvent s suites sev u st payload).suites = s.suites := by
  unfold raiseEvent
  have h : ∀ (l : List Nat) (f : State → Nat → Event) (t : State), (l.foldl (fun s n => postEvent s (f s n)) t).suites = t.suites := by
    intro l f
    induction l with
    | nil => intro t; rfl
    | cons n l ih => intro t; exact (ih _).trans (postEvent_suites t _)
  exact h _ _ _

theorem suiteAt_raiseEvent (s : State) (suites : List Nat) (sev : Nat) (u : UnitId) (st : Status) (payload : List (BitVec 64)) (n : Nat) :
    suiteAt (raiseEvent s suites sev u st payload) n = suiteAt s n := by
  unfold suiteAt
  rw [raiseEvent_suites]

theorem suiteAt_mirrorOwner (s : State) (n m : Nat) : suiteAt (mirrorOwner s n) m = suiteAt s m := by
  unfold suiteAt
  rw [mirrorOwner_suites]

theorem becomeOwner_kept (s : State) (n host rank : Nat) : Kept s (becomeOwner s n host rank) :=
  (setSuite_kept s n _).trans (mirror_kept _ _)

theorem endOwnership_kept (s : State) (n : Nat) : Kept s (endOwnership s n) :=
  ((setSuite_kept s n _).trans (mirror_kept _ _)).trans (raiseEvent_kept _ _ _ _ _ _)

/-- A host that becomes owner leaves the suite's other fields and every other suite. -/
theorem becomeOwner_suites (s : State) (n host rank : Nat) :
    suiteAt (becomeOwner s n host rank) n = { suiteAt s n with
      owner := some host, ownerRank := rank, leaseEnd := taddNs (now s) (leaseNs (suiteAt s n)), handover := none, handoverUntil := 0 } ∧
    ∀ m, m ≠ n → suiteAt (becomeOwner s n host rank) m = suiteAt s m := by
  have h : ({ suiteAt s n with
      owner := some host, ownerRank := rank, leaseEnd := taddNs (now s) (leaseNs (suiteAt s n)), handover := none, handoverUntil := 0 } : Suite)
      ≠ suiteDefault n := fun e => Option.some_ne_none host (congrArg Suite.owner e)
  exact ⟨(suiteAt_mirrorOwner _ n n).trans (suiteAt_setSuite_ne_default h),
    fun m hm => (suiteAt_mirrorOwner _ n m).trans (suiteAt_setSuite_of_ne h hm)⟩

/-- An ownership that ends leaves the suite's other fields and every other suite. -/
theorem endOwnership_suites {s : State} {n : Nat}
    (h : ({ suiteAt s n with owner := none, ownerRank := 0, handover := none, handoverUntil := 0 } : Suite) ≠ suiteDefault n) :
    suiteAt (endOwnership s n) n = { suiteAt s n with owner := none, ownerRank := 0, handover := none, handoverUntil := 0 } ∧
    ∀ m, m ≠ n → suiteAt (endOwnership s n) m = suiteAt s m := by
  refine ⟨?_, fun m hm => ?_⟩
  · rw [endOwnership, suiteAt_raiseEvent, suiteAt_mirrorOwner, suiteAt_setSuite_ne_default h]
  · rw [endOwnership, suiteAt_raiseEvent, suiteAt_mirrorOwner, suiteAt_setSuite_of_ne h hm]

/-! ### Owner commands -/

section
variable {s : State} {c : Cmd} {u : UnitId}

/-- A command of a suite that answers: LAST_STATUS follows. -/
theorem onSuite_answers {run : Nat → CmdResult} {t : State} {st : Status} {payload : List (BitVec 64)} (hu : isSelf u = true)
    (h : run ((c.word 2).toNat % 2 ^ 6) = { s := t, st, payload }) :
    onSuite c (.unit u) s run = { s := setSuite t ((c.word 2).toNat % 2 ^ 6) (fun y => { y with lastStatus := st }), st, payload } := by
  simp only [onSuite, onUnit_ok hu, suiteWord_eq, h, noteSuite, if_true]

theorem claim_run {y : Session} (hu : isSelf u = true) (ha : c.arg = 0) (hh : hostOf ((c.word 2).toNat % 2 ^ 6) c = true)
    (ho : (suiteAt s ((c.word 2).toNat % 2 ^ 6)).owner = none) (hy : sessionOf s ((c.word 2).toNat % 2 ^ 6) c.host = some y) :
    claim c (.unit u) s = { s := setSuite s ((c.word 2).toNat % 2 ^ 6) (fun z => { z with
      claims := z.claims ++ [{ host := c.host, rank := y.rank, via := c.queue, target := c.target, replyQueue := c.replyQueue, tag := c.tag }]
      claimOpen := some (z.claimOpen.getD (s.tick + 12500000)) }), st := stDone, reply := false } := by
  simp only [claim, onSuite, onUnit_ok hu, suiteWord_eq, hh, hy, ho, ha, show ¬ 1 < 0 by omega, if_false, Option.isSome_none,
    Bool.false_eq_true, noteSuite]
  congr 2
  funext z
  cases z.claimOpen <;> rfl

theorem claimForce_run (hu : isSelf u = true) (hh : hostOf ((c.word 2).toNat % 2 ^ 6) c = true)
    (hy : ∃ y ∈ s.sessions, y.suite = (c.word 2).toNat % 2 ^ 6 ∧ y.host = c.host ∧ y.rank = 7 ∧ y.port = 194) :
    claimForce c (.unit u) s =
      let n := (c.word 2).toNat % 2 ^ 6
      let b := becomeOwner (setSuite s n (fun z => { z with claims := [], claimOpen := none })) n c.host 7
      let t := raiseEvent ((suiteAt s n).claims.foldl (answerClaim n c.host) b) [n] 4 .module stDone []
      { s := setSuite t n (fun y => { y with lastStatus := stDone }), st := stDone, payload := [nowForm (suiteAt t n).leaseEnd] } := by
  have hy : s.sessions.any (fun x => x.suite == (c.word 2).toNat % 2 ^ 6 && x.host == c.host && x.rank == 7 && x.port == 194) = true := by
    obtain ⟨y, hm, h1, h2, h3, h4⟩ := hy
    exact List.any_eq_true.2 ⟨y, hm, by simp [h1, h2, h3, h4]⟩
  unfold claimForce
  refine onSuite_answers hu ?_
  simp only [hh, hy, Bool.and_self, if_true, leaseWord, suiteAt_raiseEvent]

theorem ownerCommand_run {run : Nat → CmdResult} {t : State} {st : Status} {payload : List (BitVec 64)} (hu : isSelf u = true) (ha : c.arg = 0)
    (ho : commands s ((c.word 2).toNat % 2 ^ 6) c = true) (h : run ((c.word 2).toNat % 2 ^ 6) = { s := t, st, payload }) :
    ownerCommand c (.unit u) s run = { s := setSuite t ((c.word 2).toNat % 2 ^ 6) (fun y => { y with lastStatus := st }), st, payload } := by
  unfold ownerCommand
  refine onSuite_answers hu ?_
  simp only [ownerOnly_ok ho, ha, ne_eq, not_true_eq_false, if_false, h]

theorem ownerCommand_stranger {run : Nat → CmdResult} (hu : isSelf u = true) (ho : commands s ((c.word 2).toNat % 2 ^ 6) c = false) :
    ownerCommand c (.unit u) s run =
      { s := setSuite (countThreshold s c.suite) ((c.word 2).toNat % 2 ^ 6) (fun y => { y with lastStatus := stRefused .owner })
        st := stRefused .owner, payload := [BitVec.ofNat 64 ((suiteAt s ((c.word 2).toNat % 2 ^ 6)).owner.getD 0)] } := by
  unfold ownerCommand
  refine onSuite_answers hu ?_
  simp only [ownerOnly, ho, Bool.false_eq_true, if_false, refuseOwner]

theorem ownerOrBuilding_ok {n : Nat} {r : CmdResult} (h : commands s n c = true ∨ n ≠ 0 ∧ buildingOwner s c = true) :
    ownerOrBuilding s n c r = r := by
  unfold ownerOrBuilding
  refine if_pos ?_
  rcases h with h | ⟨hn, h⟩
  · rw [h]; rfl
  · rw [h, bne_iff_ne.2 hn, Bool.and_self, Bool.or_true]

theorem renew_run (hu : isSelf u = true) (ha : c.arg = 0) (ho : commands s ((c.word 2).toNat % 2 ^ 6) c = true)
    (hx : (suiteAt s ((c.word 2).toNat % 2 ^ 6)).owner.isSome = true)
    (hr : reached (now s) (suiteAt s ((c.word 2).toNat % 2 ^ 6)).leaseEnd = false) :
    renew c (.unit u) s =
      let n := (c.word 2).toNat % 2 ^ 6
      let t := mirrorOwner (setSuite s n (fun z => { z with leaseEnd := taddNs (now s) (leaseNs (suiteAt s n)) })) n
      { s := setSuite t n (fun y => { y with lastStatus := stDone }), st := stDone, payload := [] } := by
  refine ownerCommand_run hu ha ho ?_
  have : (suiteAt s ((c.word 2).toNat % 2 ^ 6)).owner.isNone = false := by rw [← Option.not_isSome, hx]; rfl
  simp only [this, hr, Bool.or_self, Bool.false_eq_true, if_false]
  rw [setSuite_congr (f := fun z => { z with leaseEnd := taddNs (now s) (leaseNs z) })
    (g := fun z => { z with leaseEnd := taddNs (now s) (leaseNs (suiteAt s ((c.word 2).toNat % 2 ^ 6))) }) rfl]

theorem handOver_run (hu : isSelf u = true) (ha : c.arg = 0) (ho : commands s ((c.word 2).toNat % 2 ^ 6) c = true)
    (hx : (suiteAt s ((c.word 2).toNat % 2 ^ 6)).owner.isSome = true)
    (hy : (sessionOf s ((c.word 2).toNat % 2 ^ 6) ((c.word 3).toNat % 2 ^ 16)).isSome = true) :
    handOver c (.unit u) s =
      let n := (c.word 2).toNat % 2 ^ 6
      let t := setSuite s n (fun z => { z with handover := some ((c.word 3).toNat % 2 ^ 16), handoverUntil := s.tick + 625000000 })
      { s := setSuite t n (fun y => { y with lastStatus := stDone }), st := stDone, payload := [] } := by
  refine ownerCommand_run hu ha ho ?_
  have hx : (suiteAt s ((c.word 2).toNat % 2 ^ 6)).owner.isNone = false := by rw [← Option.not_isSome, hx]; rfl
  have hy : (sessionOf s ((c.word 2).toNat % 2 ^ 6) (fld (c.word 3) 0 16)).isNone = false := by rw [← Option.not_isSome, fld_low, hy]; rfl
  simp only [hx, hy, Bool.false_eq_true, if_false]
  rw [fld_low, show ticksMs 5000 = 625000000 from rfl]

theorem release_run (hu : isSelf u = true) (ha : c.arg = 0)
    (ho : commands s ((c.word 2).toNat % 2 ^ 6) c = true ∨ (c.word 2).toNat % 2 ^ 6 ≠ 0 ∧ buildingOwner s c = true) :
    release c (.unit u) s =
      { s := setSuite (endOwnership s ((c.word 2).toNat % 2 ^ 6)) ((c.word 2).toNat % 2 ^ 6) (fun y => { y with lastStatus := stDone })
        st := stDone, payload := [] } := by
  refine onSuite_answers hu ?_
  simp only [ownerOrBuilding_ok ho, ha, ne_eq, not_true_eq_false, if_false]

theorem acceptHandover_run {y : Session} (hu : isSelf u = true) (ha : c.arg = 0) (hh : hostOf ((c.word 2).toNat % 2 ^ 6) c = true)
    (hx : (suiteAt s ((c.word 2).toNat % 2 ^ 6)).handover = some c.host) (hd : s.tick ≤ (suiteAt s ((c.word 2).toNat % 2 ^ 6)).handoverUntil)
    (hy : sessionOf s ((c.word 2).toNat % 2 ^ 6) c.host = some y) :
    acceptHandover c (.unit u) s =
      let n := (c.word 2).toNat % 2 ^ 6
      let t := raiseEvent (becomeOwner s n c.host y.rank) [n] 3 .module stDone []
      { s := setSuite t n (fun z => { z with lastStatus := stDone }), st := stDone, payload := [nowForm (suiteAt t n).leaseEnd] } := by
  refine onSuite_answers hu ?_
  simp only [hh, hx, hy, ha, Nat.not_lt.2 hd, ne_eq, not_true_eq_false, if_false, Bool.not_true, bne_self_eq_false, Bool.or_self, decide_false,
    Bool.false_eq_true, Option.map_some, Option.getD_some, leaseWord, suiteAt_raiseEvent]

theorem unlock_run (hu : isSelf u = true) (ha : c.arg = 0) (hh : hostOf ((c.word 2).toNat % 2 ^ 6) c = true)
    (hx : (suiteAt s ((c.word 2).toNat % 2 ^ 6)).owner = some c.host) (hr : 6 ≤ (suiteAt s ((c.word 2).toNat % 2 ^ 6)).ownerRank) :
    unlock c (.unit u) s =
      let n := (c.word 2).toNat % 2 ^ 6
      { s := setSuite (mirrorOwner (setSuite s n (fun z => { z with locked := false })) n) n (fun y => { y with lastStatus := stDone })
        st := stDone, payload := [] } := by
  refine onSuite_answers hu ?_
  simp only [hh, hx, ha, hr, decide_true, beq_self_eq_true, Bool.and_self, if_true, ne_eq, not_true_eq_false, if_false]

theorem resetCommand_run (hu : isSelf u = true) (ha : c.arg = 1 ∨ c.arg = 2) (hn : (c.word 2).toNat % 2 ^ 6 ≠ 0)
    (hx : (suiteAt s ((c.word 2).toNat % 2 ^ 6)).enabled = true)
    (ho : commands s ((c.word 2).toNat % 2 ^ 6) c = true ∨ (c.word 2).toNat % 2 ^ 6 ≠ 0 ∧ buildingOwner s c = true) :
    resetCommand c (.unit u) s =
      let n := (c.word 2).toNat % 2 ^ 6
      { s := setSuite (resetSuite s n (c.arg == 2)) n (fun y => { y with lastStatus := stDone }), st := stDone, payload := [] } := by
  refine onSuite_answers hu ?_
  have : (decide ((c.word 2).toNat % 2 ^ 6 = 0) || (decide (c.arg ≠ 1) && decide (c.arg ≠ 2))) = false := by
    rw [decide_eq_false hn, Bool.false_or, Bool.and_eq_false_iff]
    exact ha.imp (fun h => decide_eq_false (not_not_intro h)) (fun h => decide_eq_false (not_not_intro h))
  simp only [ownerOrBuilding_ok ho, this, hx, Bool.not_true, Bool.false_eq_true, if_false]

/-! ### Unit resets -/

theorem resetPartCommand_run {p : Part} (hb : resetBarred p = false) (ho : commands s (unitOwner s (.part p)) c = true) :
    resetPartCommand c p s = if resetting s (unitOwner s (.part p)) then { s, st := stResetDiscarded }
      else { s := resetPart (discardTest s (.part p)) p, st := stDone } := by
  simp only [resetPartCommand, hb, Bool.false_eq_true, if_false, ownerOnly_ok ho]

theorem resetSelf_run (ha : c.arg = 1 ∨ c.arg = 2) :
    resetSelf c s = if s.twin.role = .active ∧ s.twin.inStep = true then
        { s := { beginSwitch s with boot := { (beginSwitch s).boot with heldReset := (some
            { cold := c.arg == 2, via := c.queue, target := c.target, tag := c.tag, replyQueue := c.replyQueue, suite := c.suite }) } }
          st := stDone, reply := false }
      else { s := commandReset s (c.arg == 2), st := stDone } := by
  have : (decide (c.arg ≠ 1) && decide (c.arg ≠ 2)) = false := by
    rw [Bool.and_eq_false_iff]
    exact ha.imp (fun h => decide_eq_false (not_not_intro h)) (fun h => decide_eq_false (not_not_intro h))
  simp only [resetSelf, this, Bool.false_eq_true, if_false, Bool.and_eq_true, decide_eq_true_eq]

theorem unitReset_pair (h : c.queue = .pair ∨ commands s 0 c = true) : unitReset c (.unit .pair) s = resetPair c s := by
  unfold unitReset
  dsimp only
  split
  · rfl
  · rename_i hq
    exact ownerOnly_ok (h.resolve_left hq) _

section
variable (ha : c.arg % 128 = 1 ∨ c.arg % 128 = 2) (hl : c.arg < 256)
include ha hl

/-- The operand of a UNIT_RESET of the pair is one that R407 lists. -/
theorem pairArg_listed : ((decide (c.arg % 128 ≠ 1) && decide (c.arg % 128 ≠ 2)) || decide (256 ≤ c.arg)) = false := by
  rw [Bool.or_eq_false_iff, Bool.and_eq_false_iff]
  exact ⟨ha.imp (fun h => decide_eq_false (not_not_intro h)) (fun h => decide_eq_false (not_not_intro h)), decide_eq_false (by omega)⟩

theorem resetPair_standby (hq : c.queue = .pair) (hr : s.twin.role = .standby) :
    resetPair c s = { s := commandReset s (c.arg % 128 == 2), st := stDone } := by
  simp only [resetPair, pairArg_listed ha hl, Bool.false_eq_true, if_false, hq, hr, decide_true, Bool.and_self, if_true]

section
variable (hq : ¬ (c.queue = .pair ∧ s.twin.role = .standby))
include hq

theorem resetPair_together (ht : 128 ≤ c.arg) : resetPair c s =
    { s := commandReset { s with twin := { s.twin with forwarded := s.twin.forwarded ++ [c.item] } } (c.arg % 128 == 2), st := stDone } := by
  have hq : (decide (c.queue = .pair) && decide (s.twin.role = .standby)) = false := by
    rw [← Bool.decide_and]; exact decide_eq_false hq
  simp only [resetPair, pairArg_listed ha hl, Bool.false_eq_true, if_false, hq, ht, decide_true, Bool.not_true, Bool.false_and, if_true]

theorem resetPair_inTurn (ht : c.arg < 128) (hr : s.twin.role = .active) (hi : s.twin.inStep = true) : resetPair c s =
    { s := { s with twin := { s.twin with forwarded := s.twin.forwarded ++ [c.item], pairReset := some (c.arg % 128 == 2, s.tick) } }
      st := stDone } := by
  have hq : (decide (c.queue = .pair) && decide (s.twin.role = .standby)) = false := by
    rw [← Bool.decide_and]; exact decide_eq_false hq
  have hs : (!decide (128 ≤ c.arg) && !(decide (s.twin.role = .active) && s.twin.inStep)) = false := by
    rw [decide_eq_true hr, hi, Bool.and_self, Bool.not_true, Bool.and_false]
  simp only [resetPair, pairArg_listed ha hl, Bool.false_eq_true, if_false, hq, hs]
  exact if_neg (Nat.not_le.2 ht)

end
end
end

/-- Settles O30: each command is served and runs as its rule says; a change of ownership writes one suite. -/
theorem ownersAndOwnership : Obligations.OwnersAndOwnership := by
  refine ⟨fun s q c u h => ?_, fun s n host rank => ?_⟩
  · refine ⟨fun hu => ⟨fun hc ha hh ho y hy => ?_, fun hc ha hh hy => ?_, fun hc ha ho hx hr => ?_, fun hc ha ho => ?_,
      fun hc ha ho hx hy => ?_, fun hc ha hh hx hd y hy => ?_, fun hc ha hh hx hr => ?_, fun hc ha hn hx ho => ?_, fun hc ho => ?_⟩,
      fun hc ho => ?_, fun hc => ⟨fun p hu hb ho => ⟨fun hr => ?_, fun hr => ?_⟩, fun hu ha ho => ⟨fun hs => ?_, fun hs => ?_⟩,
        fun hu ha hl => ⟨fun hq hr => ?_, fun hq ho => ⟨fun ht => ?_, fun ht hr hi => ?_⟩⟩⟩⟩
    · refine (served_finishes h rfl ?_ (.inr (not_isRead (hc ▸ by decide)))).trans ?_
      · rw [hc, ha]; rfl
      · rw [claim_run hu ha hh ho hy]; rfl
    · refine (served_finishes h rfl ?_ (.inr (not_isRead (hc ▸ by decide)))).trans ?_
      · rw [hc, ha]; rfl
      · exact next_congr (congrArg (finishCommand c (some u)) (claimForce_run hu hh hy))
    · exact served_answers h rfl hc (.inr (by decide)) (renew_run hu ha ho hx hr)
    · exact served_answers h rfl hc (.inr (by decide)) (release_run hu ha ho)
    · exact served_answers h rfl hc (.inr (by decide)) (handOver_run hu ha ho hx hy)
    · exact served_answers h rfl hc (.inr (by decide)) (acceptHandover_run hu ha hh hx hd hy)
    · exact served_answers h rfl hc (.inr (by decide)) (unlock_run hu ha hh hx hr)
    · exact served_answers h rfl hc (.inr (by decide)) (resetCommand_run hu ha hn hx ho)
    · rcases hc with hc | hc
      · rw [if_pos hc]
        exact served_answers h rfl hc (.inr (by decide)) (ownerCommand_stranger hu ho)
      · rw [if_neg (by omega)]
        exact served_answers h rfl hc (.inr (by decide)) (ownerCommand_stranger hu ho)
    · exact served_answers h rfl hc (.inr (by decide)) (ownerOnly_ok ho _)
    · subst hu
      refine served_answers h rfl hc (.inr (by decide)) ((resetPartCommand_run hb ho).trans ?_)
      rw [if_neg (Bool.eq_false_iff.1 hr)]
    · subst hu
      refine served_answers h rfl hc (.inr (by decide)) ((resetPartCommand_run hb ho).trans ?_)
      rw [if_pos hr]
    · subst hu
      refine (served_finishes h rfl (beq_iff_eq.2 hc : withCode 0x04 c = true) (.inr (not_isRead (hc ▸ by decide)))).trans ?_
      rw [unitReset, ownerOnly_ok ho, resetSelf_run ha, if_pos hs]
      rfl
    · subst hu
      refine served_answers h rfl hc (.inr (by decide)) ?_
      rw [unitReset, ownerOnly_ok ho, resetSelf_run ha, if_neg hs]
    · subst hu
      refine served_answers h rfl hc (.inr (by decide)) ?_
      rw [unitReset, if_pos hq, resetPair_standby ha hl hq hr]
    · subst hu
      refine served_answers h rfl hc (.inr (by decide)) ((unitReset_pair ho).trans ?_)
      rw [resetPair_together ha hl hq ht]
    · subst hu
      refine served_answers h rfl hc (.inr (by decide)) ((unitReset_pair ho).trans ?_)
      rw [resetPair_inTurn ha hl hq ht hr hi]
  · obtain ⟨h1, h2⟩ := becomeOwner_suites s n host rank
    have k1 := becomeOwner_kept s n host rank
    have k2 := endOwnership_kept s n
    exact ⟨h1, fun h => endOwnership_suites h, h2, k1.tasks, k2.tasks, k1.sram, k2.sram⟩

end Sys2Proof.Proofs
end

section
/-! Commands on tasks: modes, online change and breakpoints. -/

namespace Sys2Proof.Proofs
open Sys2Proof Sys2Proof.Machine

section
variable {s : State} {c : Cmd} {u : UnitId}

/-- A task command of the suite's owner that selects a task runs on the tasks that it selects. -/
theorem onTasks_run {run : Selector → List Nat → CmdResult} (hu : isSelf u = true) (hk : selected s (selectorOf c) ≠ [])
    (hr : resetting s ((c.word 2).toNat % 2 ^ 6) = false) (ho : commands s ((c.word 2).toNat % 2 ^ 6) c = true) :
    onTasks c (.unit u) s run = run (selectorOf c) (selected s (selectorOf c)) := by
  have hs : (selectorOf c).suite = (c.word 2).toNat % 2 ^ 6 := fld_low _ 6
  have hk : (selected s (selectorOf c)).isEmpty = false := by
    rw [Bool.eq_false_iff]; exact fun h => hk (List.isEmpty_iff.1 h)
  simp only [onTasks, onUnit_ok hu, hs, ownerOnly_ok ho, hr, hk, Bool.or_self, Bool.false_eq_true, if_false]

/-! ### Modes -/

/-- START_AT as a task command gives it: none where both fields are zero. -/
def startOf (c : Cmd) : Option Time80 :=
  if c.word 3 = 0 ∧ (c.word 4).toNat % 2 ^ 16 = 0 then none else some (ofNowForm (c.word 3) ((c.word 4).toNat % 2 ^ 16))

theorem taskMode_run {arg : Nat} {one : Option Time80 → State → Nat → State × Bool} (hu : isSelf u = true)
    (hk : selected s (selectorOf c) ≠ []) (hr : resetting s ((c.word 2).toNat % 2 ^ 6) = false)
    (ho : commands s ((c.word 2).toNat % 2 ^ 6) c = true) (ha : c.arg = arg)
    (ht : startOf c = none ∨ startAtOk s (c.word 3) (c.word 4) = true) :
    taskMode arg one c (.unit u) s = modeCommand s (selected s (selectorOf c)) (one (startOf c)) := by
  unfold taskMode
  rw [onTasks_run hu hk hr ho, if_neg (not_not_intro ha)]
  by_cases hz : c.word 3 = 0 ∧ (c.word 4).toNat % 2 ^ 16 = 0
  · have hb : (decide (c.word 3 = 0) && decide (fld (c.word 4) 0 16 = 0)) = true := by
      rw [fld_low, ← Bool.decide_and]; exact decide_eq_true hz
    rw [if_pos hb, startOf, if_pos hz]
  · have hb : (decide (c.word 3 = 0) && decide (fld (c.word 4) 0 16 = 0)) = false := by
      rw [fld_low, ← Bool.decide_and]; exact decide_eq_false hz
    have hs : startOf c = some (ofNowForm (c.word 3) ((c.word 4).toNat % 2 ^ 16)) := if_neg hz
    have ht : startAtOk s (c.word 3) (c.word 4) = true := ht.resolve_left (by rw [hs]; exact Option.some_ne_none _)
    rw [if_neg (by rw [hb]; exact Bool.false_ne_true), ht, hs, fld_low]
    rfl

/-- A mode command is DONE and has the effects of its tasks, or is refused and has none. -/
theorem finish_modeCommand (keys : List Nat) (one : State → Nat → State × Bool) :
    finishCommand c (some u) (modeCommand s keys one) =
      if (modeCommand s keys one).st = stDone then replied c u (modeCommand s keys one).s stDone [] else replied c u s (stRefused .state) [] := by
  unfold modeCommand
  dsimp only
  split
  · rw [if_pos rfl]; rfl
  · exact (if_neg (show ¬ stRefused .state = stDone by decide)).symm

theorem orderStart_eq (step : Bool) (at80 : Option Time80) (k : Nat) :
    orderStart step at80 s k = if (taskAt s k).mode = .run then (s, false) else
      (setTask s k (fun t => { t with pending := some { step, at80 := effectTime s k at80 }, stopPending := none }), true) := rfl

section
variable {k : Nat}

theorem orderStop_running (h : (taskAt s k).mode = .run ∨ (taskAt s k).mode = .hold ∧ (taskAt s k).stepping = true) :
    orderStop s k = (setTask (setTask s k (fun t => { t with pending := none })) k (fun t => { t with stopPending := some .stop }), true) := by
  rcases h with h | ⟨h, hs⟩
  · simp only [orderStop, h]
  · simp only [orderStop, h, hs, if_true]

theorem orderStop_held (h : (taskAt s k).mode = .hold) (hs : (taskAt s k).stepping = false) :
    orderStop s k = (enterStop (setTask s k (fun t => { t with pending := none })) k .command stDone, true) := by
  simp only [orderStop, h, hs, Bool.false_eq_true, if_false]

theorem orderStop_stopped (h : (taskAt s k).mode = .stop ∨ (taskAt s k).mode = .notLoaded) :
    orderStop s k = (setTask s k (fun t => { t with pending := none }), (taskAt s k).pending.isSome) := by
  rcases h with h | h <;> simp only [orderStop, h]

end

/-! ### Online change and breakpoints -/

/-- R151: the breakpoints that hold are among those that are armed. -/
theorem holds_of_armed {w : BitVec 64} (h : w.toNat / 2 ^ 16 % 2 ^ 16 &&& (w.toNat % 2 ^ 16) = w.toNat / 2 ^ 16 % 2 ^ 16) :
    (w >>> 16).setWidth 16 &&& ~~~(w.setWidth 16) = 0 := by
  have hand : (w >>> 16).setWidth 16 &&& w.setWidth 16 = (w >>> 16).setWidth 16 := by
    apply BitVec.eq_of_toNat_eq
    rw [BitVec.toNat_and, BitVec.toNat_setWidth, BitVec.toNat_setWidth, BitVec.toNat_ushiftRight, Nat.shiftRight_eq_div_pow]
    exact h
  rw [← hand, BitVec.and_assoc, BitVec.and_not_self]
  exact BitVec.and_zero

theorem armBreakpoints_run (hu : isSelf u = true) (hk : selected s (selectorOf c) ≠ [])
    (hr : resetting s ((c.word 2).toNat % 2 ^ 6) = false) (ho : commands s ((c.word 2).toNat % 2 ^ 6) c = true) (ha : c.arg = 0)
    (hm : (c.word 3).toNat / 2 ^ 16 % 2 ^ 16 &&& ((c.word 3).toNat % 2 ^ 16) = (c.word 3).toNat / 2 ^ 16 % 2 ^ 16) :
    armBreakpoints c (.unit u) s =
      { s := (selected s (selectorOf c)).foldl (fun t k => setTask t k (fun y => { y with
          brkArmNext := some ((c.word 3).setWidth 16, ((c.word 3) >>> 16).setWidth 16) })) s, st := stDone } := by
  unfold armBreakpoints
  rw [onTasks_run hu hk hr ho]
  refine if_neg ?_
  rw [Bool.or_eq_true, decide_eq_true_eq, decide_eq_true_eq, not_or, not_not, not_not]
  exact ⟨ha, holds_of_armed hm⟩

/-- What a write that is posted leaves: it is applied between cycles, and waits for the END of one. -/
theorem finish_postOnline (k a : Nat) (data : List Byte) :
    finishCommand c (some u) (postOnline s c k a data) =
      let o : OnlineWrite := { addr := a, data, target := c.target, via := c.queue, replyQueue := c.replyQueue, tag := c.tag
                               code := c.code, suite := c.suite }
      if betweenCycles (taskAt s k) then applyOnline s k o else setTask s k (fun t => { t with online := t.online ++ [o] }) := by
  unfold postOnline
  dsimp only
  split <;> rfl

section
variable {k : Nat} (hu : isSelf u = true) (hk : selected s (selectorOf c) = [k]) (hr : resetting s ((c.word 2).toNat % 2 ^ 6) = false)
  (ho : commands s ((c.word 2).toNat % 2 ^ 6) c = true) (hall : (c.word 2).getLsbD 13 = false)
include hu hk hr ho hall

theorem setValue_run (ha : c.arg < 4) (hm : (c.word 3).toNat % 2 ^ c.arg = 0)
    (he : extentIn (suiteAt s ((c.word 2).toNat % 2 ^ 6)) (c.word 3).toNat (2 ^ c.arg) (fun g => g == .retain || g == .data) = true) :
    setValue c (.unit u) s = postOnline s c k (c.word 3).toNat (bytesOf (2 ^ c.arg) (c.word 4).toNat) := by
  unfold setValue
  rw [onTasks_run hu (by rw [hk]; exact List.cons_ne_nil _ _) hr ho, hk]
  have hs : (selectorOf c).suite = (c.word 2).toNat % 2 ^ 6 := fld_low _ 6
  have hx : (selectorOf c).all = false := hall
  have hn : min c.arg 3 = c.arg := by omega
  dsimp only
  rw [hs, hx, hn, he, List.headD_cons]
  exact if_neg (by simp; omega)

theorem setConst_run (h1 : 1 ≤ c.arg) (h32 : c.arg ≤ 32) (hl : 32 + 8 * c.arg ≤ c.item.data.length) (hm : (c.word 3).toNat % 8 = 0)
    (he : extentIn (suiteAt s ((c.word 2).toNat % 2 ^ 6)) (c.word 3).toNat (8 * c.arg) (· == .const) = true)
    (hlock : (c.word 2).toNat % 2 ^ 6 = 0 ∨ (suiteAt s ((c.word 2).toNat % 2 ^ 6)).locked = false) :
    setConst c (.unit u) s = postOnline s c k (c.word 3).toNat ((c.item.data.drop 32).take (8 * c.arg)) := by
  unfold setConst
  rw [onTasks_run hu (by rw [hk]; exact List.cons_ne_nil _ _) hr ho, hk]
  have hs : (selectorOf c).suite = (c.word 2).toNat % 2 ^ 6 := fld_low _ 6
  have hx : (selectorOf c).all = false := hall
  dsimp only
  rw [hs, hx, he, List.headD_cons, if_neg (by simp; omega)]
  refine if_neg ?_
  rw [Bool.and_eq_true, decide_eq_true_eq]
  exact fun ⟨hn, hb⟩ => by rw [hlock.resolve_left hn] at hb; exact Bool.false_ne_true hb

end
end

/-- A mode command of the suite's owner that is served acts on each task that it selects. -/
theorem mode_served {s : State} {q : CmdQueue} {c : Cmd} {u : UnitId} {i : Instr} {pick : Cmd → Bool} {arg : Nat}
    {one : Option Time80 → State → Nat → State × Bool} (h : Served s q c u)
    (he : exec i s = .next (unitCommand q pick false (taskMode arg one) s)) (hp : pick c = true) (hc : c.code = 0x20) (hu : isSelf u = true)
    (hk : selected (taken s q c) (selectorOf c) ≠ []) (hr : resetting (taken s q c) ((c.word 2).toNat % 2 ^ 6) = false)
    (ho : commands (taken s q c) ((c.word 2).toNat % 2 ^ 6) c = true) (ha : c.arg = arg)
    (ht : startOf c = none ∨ startAtOk (taken s q c) (c.word 3) (c.word 4) = true) :
    exec i s =
      let m := modeCommand (taken s q c) (selected (taken s q c) (selectorOf c)) (one (startOf c))
      .next (if m.st = stDone then replied c u m.s stDone [] else replied c u (taken s q c) (stRefused .state) []) := by
  refine (served_finishes h he hp (.inr (not_isRead (hc ▸ by decide)))).trans (next_congr ?_)
  rw [taskMode_run hu hk hr ho ha ht]
  exact finish_modeCommand _ _

/-- Settles O31: each command is served and runs on the tasks that it selects. -/
theorem taskCommands : Obligations.TaskCommands := by
  refine ⟨?_, fun s k step at80 => ?_⟩
  · intro s q c u h hu r n keys at80 modes hk hr ho
    refine ⟨fun hc ht => ⟨fun ha => ?_, fun ha => ?_, fun ha => ?_, fun ha => ?_⟩, fun hc ha hm => ?_, fun k hk1 hall => ?_⟩
    · exact mode_served (one := orderStart false) h rfl (by rw [hc, ha]; rfl) hc hu hk hr ho ha ht
    · exact mode_served (one := orderStart true) h rfl (by rw [hc, ha]; rfl) hc hu hk hr ho ha ht
    · exact mode_served (one := fun _ => orderStop) h rfl (by rw [hc, ha]; rfl) hc hu hk hr ho ha ht
    · exact mode_served (one := fun _ => orderHold) h rfl (by rw [hc, ha]; rfl) hc hu hk hr ho ha ht
    · exact served_answers h rfl hc (.inr (by decide)) (armBreakpoints_run hu hk hr ho ha hm)
    · intro o posts
      refine ⟨fun hc ha hm he => ?_, fun hc h1 h32 hl hm he hlock => ?_⟩
      · refine (served_finishes h rfl (beq_iff_eq.2 hc : withCode 0x21 c = true) (.inr (not_isRead (hc ▸ by decide)))).trans (next_congr ?_)
        exact (congrArg (finishCommand c (some u)) (setValue_run hu hk1 hr ho hall ha hm he)).trans (finish_postOnline k _ _)
      · refine (served_finishes h rfl (beq_iff_eq.2 hc : withCode 0x22 c = true) (.inr (not_isRead (hc ▸ by decide)))).trans (next_congr ?_)
        exact (congrArg (finishCommand c (some u)) (setConst_run hu hk1 hr ho hall h1 h32 hl hm he hlock)).trans (finish_postOnline k _ _)
  · exact ⟨orderStart_eq step at80 k, orderStop_running, orderStop_held, orderStop_stopped, rfl⟩

end Sys2Proof.Proofs
end

section
/-! Update commands: what each does to its selector. -/

namespace Sys2Proof.Proofs
open Sys2Proof Sys2Proof.Machine

/-- The upper half of a word. -/
theorem fld_high (w : BitVec 64) : fld w 32 32 = w.toNat / 2 ^ 32 := by
  have := w.isLt
  exact Nat.mod_eq_of_lt (by omega)

/-- What a change does to the entry that stands there is all that counts. -/
theorem setUpdate_congr {s : State} {kind n : Nat} {f g : Update → Update} (h : f (updateAt s kind n) = g (updateAt s kind n)) :
    setUpdate s kind n f = setUpdate s kind n g := by
  have : tmod ({} : Update) s.updates (updateKey kind n) f = tmod ({} : Update) s.updates (updateKey kind n) g :=
    congrArg (tset ({} : Update) s.updates (updateKey kind n)) h
  unfold setUpdate
  rw [this]

section
variable {s : State} {c : Cmd} {u : UnitId} {kind n : Nat}

/-- An update command of the owner of the selector's suite, or in recovery, runs. -/
theorem updateCommand_run {run : Nat → Nat → CmdResult} (hu : isSelf u = true) (hk : updateSelector c = some (kind, n)) (ha : c.arg = 0)
    (ho : commands s n c = true ∨ s.boot.phase = .recovery) (hl : (suiteAt s n).locked = false) :
    updateCommand c (.unit u) s run = run kind n := by
  have go : (if c.arg ≠ 0 then refuse s .range else if (suiteAt s n).locked = true then refuse s .lock else run kind n) = run kind n := by
    rw [if_neg (not_not_intro ha), hl]; rfl
  unfold updateCommand
  rw [onUnit_ok hu, hk]
  dsimp only
  rw [go]
  split
  · rfl
  · rename_i hb
    exact ownerOnly_ok (ho.resolve_right hb) _

/-! ### Staging and checking -/

theorem beginUpdate_run (hs : scheduledUp (updateAt s kind n) = false) (hb : (c.word 2).toNat / 2 ^ 32 ≠ 0)
    (hp : ¬ (kind = 1 ∧ (updateAt s kind n).phase = .trial)) (hr : stagingRoom s kind n ((c.word 2).toNat / 2 ^ 32) = true) :
    beginUpdate c s kind n = { s := setUpdate s kind n (fun y => { y with
      stagedLen := (c.word 2).toNat / 2 ^ 32, staged := [], stagedBytes := 0, checkedImg := false
      spare := none, phase := if y.phase = .trial then .trial else .staging }), st := stDone } := by
  have hp : (decide (kind = 1) && (updateAt s kind n).phase == .trial) = false := by
    rw [Bool.and_eq_false_iff]
    by_cases hk : kind = 1
    · exact .inr (beq_eq_false_iff_ne.2 fun h => hp ⟨hk, h⟩)
    · exact .inl (decide_eq_false hk)
  unfold beginUpdate
  rw [fld_high]
  simp only [hb, if_false, hs, hp, Bool.or_self, Bool.false_eq_true, hr, Bool.not_true]

theorem stageUpdate_run (hs : scheduledUp (updateAt s kind n) = false) (h8 : (c.word 2).toNat / 2 ^ 32 % 8 = 0)
    (h1 : 8 ≤ (c.item.data.drop 24).length) (h2 : (c.item.data.drop 24).length ≤ 456) (h3 : (c.item.data.drop 24).length % 8 = 0)
    (h4 : (c.word 2).toNat / 2 ^ 32 + (c.item.data.drop 24).length ≤ (updateAt s kind n).stagedLen) :
    stageUpdate c s kind n = { s := setUpdate s kind n (fun y => { y with
      staged := program y.staged ((c.word 2).toNat / 2 ^ 32) (c.item.data.drop 24), checkedImg := false
      phase := if y.phase = .trial then .trial else .staging
      stagedBytes := max y.stagedBytes ((c.word 2).toNat / 2 ^ 32 + (c.item.data.drop 24).length) }), st := stDone } := by
  unfold stageUpdate
  rw [fld_high]
  simp only [hs, Bool.false_eq_true, if_false, h8, h3, Nat.not_lt.2 h1, Nat.not_lt.2 h2, Nat.not_lt.2 h4, ne_eq, not_true_eq_false, decide_false,
    Bool.or_self]

section
variable (hs : scheduledUp (updateAt s kind n) = false)
include hs

theorem checkUpdate_refused {e : Reason} (hi : imageFails s kind n (stagedImage (updateAt s kind n)) = some e) :
    checkUpdate s kind n = { s := setUpdate s kind n (fun y => { y with lastStatus := stRefused e }), st := stRefused e } := by
  simp only [checkUpdate, hs, Bool.false_eq_true, if_false, hi]

theorem checkUpdate_tooLong (hi : imageFails s kind n (stagedImage (updateAt s kind n)) = none)
    (hf : segmentsFit s kind n (stagedImage (updateAt s kind n)) = false) :
    checkUpdate s kind n = { s := setUpdate s kind n (fun y => { y with lastStatus := stRefused .size }), st := stRefused .size } := by
  simp only [checkUpdate, hs, Bool.false_eq_true, if_false, hi, hf]

theorem checkUpdate_passes (hi : imageFails s kind n (stagedImage (updateAt s kind n)) = none)
    (hf : segmentsFit s kind n (stagedImage (updateAt s kind n)) = true) :
    checkUpdate s kind n = { s := setUpdate s kind n (fun y => { y with
      lastStatus := stDone, checkedImg := true, phase := if y.phase = .trial then .trial else .checked }), st := stDone } := by
  simp only [checkUpdate, hs, Bool.false_eq_true, if_false, hi, hf, if_true]

end

/-! ### Scheduling -/

theorem scheduleUpdate_run (hh : (c.word 2).toNat / 2 ^ 32 % 2 ^ 16 ≤ 3600)
    (ht : (c.word 4).toNat / 2 ^ 16 % 2 ^ 16 = 0 ∨ 60 ≤ (c.word 4).toNat / 2 ^ 16 % 2 ^ 16) (hi : (interlocksOf c).all isPoint = true)
    (ho : activationOpen s kind n = false) (hc : (updateAt s kind n).checkedImg = true)
    (hm : mustTogether s (.unit u) kind (stagedImage (updateAt s kind n)) = true → (c.word 2).getLsbD 16 = true)
    (ha : activateAtOk s (ofNowForm (c.word 3) ((c.word 4).toNat % 2 ^ 16)) = true) :
    scheduleUpdate c (.unit u) s kind n = { s := setUpdate s kind n (fun y => { y with
      phase := .scheduled, activateAt := ofNowForm (c.word 3) ((c.word 4).toNat % 2 ^ 16), together := (c.word 2).getLsbD 16
      pairHeld := decide (u = .pair), holdS := (c.word 2).toNat / 2 ^ 32 % 2 ^ 16
      trialS := if (c.word 4).toNat / 2 ^ 16 % 2 ^ 16 = 0 then 600 else (c.word 4).toNat / 2 ^ 16 % 2 ^ 16
      interlocks := interlocksOf c, version := (stagedImage (updateAt s kind n)).version, pairHalf := false }), st := stDone } := by
  have hh : ¬ 3600 < fld (c.word 2) 32 16 := Nat.not_lt.2 hh
  have hrange : (decide (3600 < fld (c.word 2) 32 16) || (fld (c.word 4) 16 16 != 0 && decide (fld (c.word 4) 16 16 < 60)) ||
      !(interlocksOf c).all isPoint) = false := by
    rw [hi, decide_eq_false hh, Bool.not_true, Bool.or_false, Bool.false_or, Bool.and_eq_false_iff]
    exact ht.imp (fun h => bne_eq_false_iff_eq.2 h) (fun h => decide_eq_false (Nat.not_lt.2 h))
  have hstate : (activationOpen s kind n || !(updateAt s kind n).checkedImg ||
      (mustTogether s (.unit u) kind (stagedImage (updateAt s kind n)) && !bitAt (c.word 2) 16)) = false := by
    rw [ho, hc, Bool.false_or, Bool.not_true, Bool.false_or, Bool.and_eq_false_iff, Bool.not_eq_false']
    cases hq : mustTogether s (.unit u) kind (stagedImage (updateAt s kind n)) with
    | true => exact .inr (hm hq)
    | false => exact .inl rfl
  have hpair : (Target.unit u == .unit .pair) = decide (u = .pair) := by
    rw [beq_eq_decide]; exact decide_eq_decide.2 ⟨fun h => Target.unit.inj h, fun h => congrArg Target.unit h⟩
  unfold scheduleUpdate
  dsimp only
  rw [hrange, hstate, fld_low, ha, hpair]
  exact congrArg (fun x => ({ s := x, st := stDone } : CmdResult)) (setUpdate_congr rfl)

/-! ### Trials -/

section
variable (rb : FuseReads) (hp : (updateAt s kind n).phase = .trial)
include hp

/-- The selector once its trial is confirmed: the fallback goes, which KIND 1 keeps as a spare. -/
def confirmed (s : State) (kind n : Nat) : State :=
  setUpdate s kind n (fun y => { y with
    spare := if kind = 1 then (updateAt s kind n).fallback else none, fallback := none, pairHalf := false
    phase := restPhase (updateAt s kind n), lastStatus := stDone })

theorem confirmUpdate_eq : confirmUpdate rb s kind n =
    let level := ((updateAt s kind n).current.map (·.rollback)).getD 0
    if kind ≠ 1 ∨ level ≤ s.cellar.antiroll then { s := confirmed s kind n, st := stDone }
    else
      let r := raiseAntiroll (confirmed s kind n) rb level
      if r.2 then { s := r.1, st := stDone }
      else { s := setUpdate r.1 kind n (fun y => { y with lastStatus := stFault .check }), st := stFault .check } := by
  have hk : setUpdate s kind n (fun u => { u with
      spare := if kind = 1 then u.fallback else none, fallback := none, pairHalf := false, phase := restPhase u, lastStatus := stDone }) =
      confirmed s kind n := setUpdate_congr rfl
  unfold confirmUpdate
  dsimp only
  rw [if_neg (not_not_intro hp), hk]
  cases (updateAt s kind n).current <;> simp only [Bool.or_eq_true, decide_eq_true_eq] <;> rfl

theorem confirmUpdate_kept (h : kind ≠ 1 ∨ ((updateAt s kind n).current.map (·.rollback)).getD 0 ≤ s.cellar.antiroll) :
    confirmUpdate rb s kind n = { s := confirmed s kind n, st := stDone } := by
  rw [confirmUpdate_eq rb hp]
  exact if_pos h

section
variable (hk : kind = 1) (hl : s.cellar.antiroll < ((updateAt s kind n).current.map (·.rollback)).getD 0)
include hk hl

theorem confirmUpdate_raised (hr : (raiseAntiroll (confirmed s kind n) rb (((updateAt s kind n).current.map (·.rollback)).getD 0)).2 = true) :
    confirmUpdate rb s kind n =
      { s := (raiseAntiroll (confirmed s kind n) rb (((updateAt s kind n).current.map (·.rollback)).getD 0)).1, st := stDone } := by
  rw [confirmUpdate_eq rb hp]
  exact (if_neg (by omega)).trans (if_pos hr)

theorem confirmUpdate_unsettled (hr : (raiseAntiroll (confirmed s kind n) rb (((updateAt s kind n).current.map (·.rollback)).getD 0)).2 = false) :
    confirmUpdate rb s kind n =
      { s := setUpdate (raiseAntiroll (confirmed s kind n) rb (((updateAt s kind n).current.map (·.rollback)).getD 0)).1 kind n
          (fun y => { y with lastStatus := stFault .check }), st := stFault .check } := by
  rw [confirmUpdate_eq rb hp]
  exact (if_neg (by omega)).trans (if_neg (by rw [hr]; exact Bool.false_ne_true))

end
end

theorem abortUpdate_trial (hp : (updateAt s kind n).phase = .trial) : abortUpdate s kind n = { s := revertLater s kind n, st := stDone } :=
  if_pos hp

theorem abortUpdate_scheduled (hs : scheduledUp (updateAt s kind n) = true) :
    abortUpdate s kind n = { s := setUpdate s kind n (fun y => { y with phase := restPhase (updateAt s kind n), pairHalf := false }), st := stDone } := by
  have hp : (updateAt s kind n).phase = .scheduled ∨ (updateAt s kind n).phase = .waiting := by
    rw [scheduledUp, Bool.or_eq_true, beq_iff_eq, beq_iff_eq] at hs; exact hs
  have ht : (updateAt s kind n).phase ≠ .trial ∧ (updateAt s kind n).phase ≠ .activating := by
    rcases hp with hp | hp <;> rw [hp] <;> decide
  unfold abortUpdate
  rw [if_neg ht.1, if_neg ht.2, if_pos hs]
  exact congrArg (fun x => ({ s := x, st := stDone } : CmdResult)) (setUpdate_congr rfl)

theorem abortUpdate_staged (hs : scheduledUp (updateAt s kind n) = false) (ha : (updateAt s kind n).phase ≠ .activating)
    (ht : (updateAt s kind n).phase ≠ .trial) :
    abortUpdate s kind n = { s := setUpdate s kind n (fun y => { y with
      phase := .idle, stagedLen := 0, staged := [], stagedBytes := 0, checkedImg := false }), st := stDone } := by
  unfold abortUpdate
  rw [if_neg ht, if_neg ha, if_neg (by rw [hs]; exact Bool.false_ne_true)]

end

/-- An update command that is served and runs ends for both members of a pair. -/
theorem update_served {s : State} {q : CmdQueue} {c : Cmd} {u : UnitId} {kind n code : Nat} {i : Instr}
    {run : Cmd → Target → State → Nat → Nat → CmdResult} {e : CmdResult} (h : Served s q c u)
    (he : exec i s = .next (stagingCommand code q run s)) (hc : c.code = code) (hcode : 3 < code) (hu : isSelf u = true)
    (hk : updateSelector c = some (kind, n)) (ha : c.arg = 0)
    (ho : commands (taken s q c) n c = true ∨ (taken s q c).boot.phase = .recovery) (hl : (suiteAt (taken s q c) n).locked = false)
    (hr : run c (.unit u) (taken s q c) kind n = e) :
    exec i s = .next (finishCommand c (some u) (bothMembers c (.unit u) e)) := by
  refine (served_finishes h he (beq_iff_eq.2 hc) (.inr (not_isRead (hc ▸ hcode)))).trans (next_congr ?_)
  rw [updateCommand_run hu hk ha ho hl, hr]

/-- Settles O32: each update command is served and runs on its selector. -/
theorem updateCommands : Obligations.UpdateCommands := by
  refine ⟨?_, ?_⟩
  · intro s q c u kind n h hu r x ends done hk ha ho hl hs
    refine ⟨fun hc hb hp hr => ?_, fun hc h8 h1 h2 h3 h4 => ?_, fun hc => ?_, fun hc hh => ?_, fun hc hact ht => ?_⟩
    · exact update_served h rfl hc (by decide) hu hk ha ho hl (beginUpdate_run hs hb hp hr)
    · exact update_served h rfl hc (by decide) hu hk ha ho hl (stageUpdate_run hs h8 h1 h2 h3 h4)
    · cases hi : imageFails r kind n (stagedImage x) with
      | some e => exact update_served h rfl hc (by decide) hu hk ha ho hl (checkUpdate_refused hs hi)
      | none =>
        cases hf : segmentsFit r kind n (stagedImage x) with
        | false => exact update_served h rfl hc (by decide) hu hk ha ho hl (checkUpdate_tooLong hs hi hf)
        | true => exact update_served h rfl hc (by decide) hu hk ha ho hl (checkUpdate_passes hs hi hf)
    · intro trial ht hi hopen hck hm hat
      exact update_served h rfl hc (by decide) hu hk ha ho hl (scheduleUpdate_run hh ht hi hopen hck hm hat)
    · exact update_served h rfl hc (by decide) hu hk ha ho hl (abortUpdate_staged hs hact ht)
  · intro s q c u kind n rb h hu r x ends hk ha ho hl
    refine ⟨fun hc hp => ?_, fun hc hs => ?_, fun hc hp => ?_⟩
    · intro level kept raised
      refine ⟨fun hl1 => ?_, fun hk1 hl1 => ⟨fun hr => ?_, fun hr => ?_⟩⟩
      · exact update_served h rfl hc (by decide) hu hk ha ho hl (confirmUpdate_kept rb hp hl1)
      · exact update_served h rfl hc (by decide) hu hk ha ho hl (confirmUpdate_raised rb hp hk1 hl1 hr)
      · exact update_served h rfl hc (by decide) hu hk ha ho hl (confirmUpdate_unsettled rb hp hk1 hl1 hr)
    · exact update_served h rfl hc (by decide) hu hk ha ho hl (abortUpdate_scheduled hs)
    · exact update_served h rfl hc (by decide) hu hk ha ho hl (abortUpdate_trial hp)

end Sys2Proof.Proofs
end

section
/-! Commands of the Larder, the pair, the quiet floor, the house clock, the Hallway, the Meter cupboard, the Cellar and the Attic, and loopback
tests: what each runs to. -/

namespace Sys2Proof.Proofs
open Sys2Proof Sys2Proof.Machine

theorem onUnit_eq {u u' : UnitId} (h : u = u') (s : State) (r : CmdResult) : onUnit (.unit u) (· == u') s r = r :=
  onUnit_ok (ok := (· == u')) (beq_iff_eq.2 h) s r

/-- A field of a word, as the statements write it. -/
theorem fld_eq (w : BitVec 64) (lo len : Nat) : fld w lo len = w.toNat / 2 ^ lo % 2 ^ len := rfl

/-- A whole word as a signed number. -/
theorem sfld_whole (w : BitVec 64) : sfld w 0 64 = w.toInt := by
  rw [sfld, fld_low, Nat.mod_eq_of_lt w.isLt, signed_toInt w (by decide)]

section
variable {s : State} {c : Cmd}

/-- A command whose reply follows later leaves what it ran to. -/
theorem finish_later {u : Option UnitId} (t : State) (st : Status) : finishCommand c u { s := t, st, reply := false } = t := rfl

/-- A command that answers later leaves the state of its run. -/
theorem finished_later {u : Option UnitId} {t : State} {st : Status} {d : CmdResult} (h : d = { s := t, st, reply := false }) :
    finishCommand c u d = t := by
  rw [h, finish_later]

theorem clearQueue_run {q : Nat} (h : (queueAt s q).qfault = false) :
    clearQueue s q = { s := dropItems s q (·.deliveredTo.isNone), st := stDone
                       payload := [BitVec.ofNat 64 ((queueAt s q).items.countP (·.deliveredTo.isNone))] } := by
  simp only [clearQueue, h, Bool.false_eq_true, if_false, List.countP_eq_length_filter]

theorem clearQueue_fault {q : Nat} (h : (queueAt s q).qfault = true) : clearQueue s q = { s, st := stFault .error } := if_pos h

/-! ### The pair -/

theorem pairCommand_run {u : UnitId} {r : CmdResult} (hu : u = .pair) (ho : commands s 0 c = true) (ha : c.arg = 0)
    (hl : (suiteAt s 0).locked = false) : pairCommand c (.unit u) s r = r := by
  simp only [pairCommand, onUnit_eq hu, ownerOnly_ok ho, ha, ne_eq, not_true_eq_false, if_false, hl, Bool.false_eq_true]

theorem pairSwitch_check (hi : s.twin.inStep = true) (hn : 64 ≤ s.twin.inStepCount) :
    (if !s.twin.inStep || s.twin.inStepCount < 64 then refuse s .state else { s := beginSwitch s, st := stDone }) =
      ({ s := beginSwitch s, st := stDone } : CmdResult) := by
  simp only [hi, Nat.not_lt.2 hn, Bool.not_true, decide_false, Bool.or_self, Bool.false_eq_true, if_false]

theorem pairResync_check (hp : s.twin.partnerRole = 3) :
    (if s.twin.partnerRole != 3 then refuse s .state else { s := loseStep s, st := stDone }) = ({ s := loseStep s, st := stDone } : CmdResult) := by
  simp only [hp, bne_self_eq_false, Bool.false_eq_true, if_false]

/-! ### The quiet floor -/

theorem floorQuiet_run {u : UnitId} (hu : u = engineUnit 6) (ho : commands s 0 c = true) (hq : s.sw.quiet = .quiet ∨ s.sw.quiet = .awake) :
    floorQuiet c (.unit u) s =
      let asked := (List.range 192).filter (fun p => (c.word (2 + p / 64)).getLsbD (p % 64))
      let ports := asked.filter (mayQuiet s)
      let tq := taddUs (now s) (1000 * s.sw.agreeWait)
      let number := (s.sw.transactions + 1) % 2 ^ 32
      let b := ports.foldl (propose number tq) s
      { s := { b with sw := { b.sw with quiet := .proposing, transactions := number, transaction := (some {
          number := number, asked := asked, ports := ports, agreed := [], tq := tq, tag := c.tag, replyQueue := c.replyQueue, suite := c.suite }) } }
        st := stDone, reply := false } := by
  have hq : (decide (s.sw.quiet = .proposing) || decide (s.sw.quiet = .entering)) = false := by
    rcases hq with hq | hq <;> rw [hq] <;> rfl
  simp only [floorQuiet, onUnit_eq hu, ownerOnly_ok ho, hq, Bool.false_eq_true, if_false, bitAt]

theorem floorWake_run {u : UnitId} (hu : u = engineUnit 6) (he : (suiteAt s c.suite).enabled = true) (ho : commands s c.suite c = true)
    (hq : s.sw.quiet ≠ .awake) : floorWake c (.unit u) s = { s := wakeFloor s, st := stDone } := by
  simp only [floorWake, onUnit_eq hu, he, Bool.not_true, Bool.false_eq_true, if_false, ownerOnly_ok ho, hq]

/-! ### The house clock -/

section
variable {u : UnitId} (hu : u = clockUnit) (ho : commands s 0 c = true) (hr : s.twin.role ≠ .standby)
include hu ho hr

theorem trimCommand_run (r : CmdResult) : trimCommand c (.unit u) s r = r := by
  simp only [trimCommand, onUnit_eq hu, ownerOnly_ok ho, hr, if_false]

theorem trimIncrement_run (ha : c.arg = 0) (hi : incrementOk ((c.word 3).toNat % 2 ^ 32) = true) :
    trimIncrement c (.unit u) s = { s := announce s (.increment ((c.word 3).toNat % 2 ^ 32)), st := stDone } := by
  unfold trimIncrement
  rw [trimCommand_run hu ho hr, fld_low]
  simp only [ha, hi, bne_self_eq_false, Bool.not_true, Bool.or_self, Bool.false_eq_true, if_false]

theorem trimSlew_run (hi : incrementOk ((c.word 3).toNat % 2 ^ 32) = true) (hn : (c.word 3).toNat / 2 ^ 32 ≠ 0) :
    trimSlew c (.unit u) s = { s := announce s (.slew ((c.word 3).toNat % 2 ^ 32) ((c.word 3).toNat / 2 ^ 32)), st := stDone } := by
  unfold trimSlew
  rw [trimCommand_run hu ho hr, fld_low, fld_high]
  simp only [hn, hi, decide_false, Bool.not_true, Bool.or_self, Bool.false_eq_true, if_false]

theorem trimStep_run : trimStep c (.unit u) s = { s := (stepJump s (c.word 3).toInt false).1, st := (stepJump s (c.word 3).toInt false).2 } := by
  unfold trimStep
  rw [trimCommand_run hu ho hr, sfld_whole]

end

/-! ### The Hallway -/

section
variable {h : Nat} {o : Offered} (ho : commands s (tget {} (hallAt s h).slots ((c.word 2).toNat % 16)).suite c = true)
  (hl : tlook (hallAt s h).offered ((c.word 2).toNat % 16) = some o) (ht : (hallAt s h).cfg.trunk = false)
  (hg : o.tag = (c.word 2).toNat / 2 ^ 16 % 2 ^ 16)
include ho hl ht hg

theorem hallCancel_run : hallCancel h c s =
    if o.attempting then
      { s := withdrawOffered s h ((c.word 2).toNat % 16) { o with cancelReplies := o.cancelReplies ++ [(c.tag, c.replyQueue, c.suite)] }
        st := stDone, reply := false }
    else { s := withdrawOffered s h ((c.word 2).toNat % 16) o, st := stDone } := by
  have hf : fld (c.word 2) 0 4 = (c.word 2).toNat % 16 := fld_low _ 4
  have hg : (o.tag != fld (c.word 2) 16 16) = false := bne_eq_false_iff_eq.2 hg
  unfold hallCancel
  rw [hf]
  dsimp only
  rw [ownerOnly_ok ho, hl]
  dsimp only
  rw [ht, hg]
  rfl

theorem hallCancel_idle (hi : o.attempting = false) :
    hallCancel h c s = { s := settleHall (completeOffered s h ((c.word 2).toNat % 16) o stWithdrawn) h, st := stDone } := by
  rw [hallCancel_run ho hl ht hg, hi, if_neg Bool.false_ne_true, withdrawOffered, hi, if_neg Bool.false_ne_true]

theorem hallCancel_attempting (hi : o.attempting = true) :
    hallCancel h c s = { s := setHall s h (fun x => { x with offered := tput x.offered ((c.word 2).toNat % 16) { o with
      cancel := some (o.cancel.getD stWithdrawn), cancelReplies := o.cancelReplies ++ [(c.tag, c.replyQueue, c.suite)] } })
                         st := stDone, reply := false } := by
  rw [hallCancel_run ho hl ht hg, if_pos hi, withdrawOffered, if_pos (show _ = true from hi)]

end

/-! ### The Meter cupboard -/

theorem meterRead_run {u : UnitId} (hu : u = meterUnit) (hm : mayRead s c.suite (quantity ((c.word 2).toNat % 8) 32) = true)
    (he : (circuitAt s ((c.word 2).toNat % 8)).cfg.enable = true) :
    meterRead c (.unit u) s = { s := { s with meter := { s.meter with waits := s.meter.waits ++
      [{ circuit := (c.word 2).toNat % 8, suite := c.suite, tag := c.tag, replyQueue := c.replyQueue }] } }, st := stDone, reply := false } := by
  have hf : fld (c.word 2) 0 3 = (c.word 2).toNat % 8 := fld_low _ 3
  simp only [meterRead, onUnit_eq hu, hf, hm, he, Bool.not_true, Bool.false_eq_true, if_false]

/-! ### The Cellar -/

/-- R354: the allowed transitions. -/
theorem transitionFails_allowed
    (h : s.cellar.lifecycle = 1 ∧ c.arg = 3 ∧ (suiteAt s 0).locked = false ∨ s.cellar.lifecycle = 3 ∧ c.arg = 7 ∧ authorised s c = true ∨
      (s.cellar.lifecycle = 3 ∨ s.cellar.lifecycle = 7) ∧ c.arg = 15) : transitionFails s c c.arg = none := by
  rcases h with ⟨hl, ha, h⟩ | ⟨hl, ha, h⟩ | ⟨hl | hl, ha⟩
  · simp only [transitionFails, hl, ha, h, Bool.false_eq_true, if_false]
  · simp only [transitionFails, hl, ha, h, if_true]
  · simp only [transitionFails, hl, ha]
  · simp only [transitionFails, hl, ha]

theorem advanceLifecycle_run {u : UnitId} {rb : FuseReads} (hu : u = .part cellarPart) (ho : ownerOverSvc s c = true)
    (ht : transitionFails s c c.arg = none) (hv : (settleLifecycle (readBack (programLifecycle s c.arg) rb)).value = c.arg)
    (hm : (settleLifecycle (readBack (programLifecycle s c.arg) rb)).marginal = false) :
    advanceLifecycle rb c (.unit u) s =
      let b := readBack (programLifecycle s c.arg) rb
      { s := resetLater { b with cellar := { b.cellar with lifecycle := c.arg, flashKeys := [] } } .c 7, st := stDone } := by
  simp only [advanceLifecycle, onUnit_eq hu, ho, Bool.not_true, Bool.false_eq_true, if_false, ht, noteMarginal, hm, hv, ne_eq,
    not_true_eq_false, decide_false, Bool.or_self]

section
variable {u : UnitId} (hu : u = .part cellarPart) (ho : commands s 0 c = true) (ha : c.arg = 0)
include hu ho ha

theorem clearTamper_held (hp : Config.tamperPin s.tick = true) : clearTamper c (.unit u) s = refuse s .state := by
  simp only [clearTamper, onUnit_eq hu, ownerOnly_ok ho, ha, ne_eq, not_true_eq_false, if_false, hp, if_true]

theorem clearTamper_run (hp : Config.tamperPin s.tick = false) :
    clearTamper c (.unit u) s = { s := (enabledSuites s).foldl ensureRoot { s with
      mantel := { s.mantel with tamperLatched := false }, cellar := { s.cellar with wiped := false } }, st := stDone } := by
  simp only [clearTamper, onUnit_eq hu, ownerOnly_ok ho, ha, ne_eq, not_true_eq_false, if_false, hp, Bool.false_eq_true]
  rfl

end

/-! ### The Attic -/

theorem clearRecords_eq (n last : Nat) : clearRecords s n last =
    let gone := BitVec.ofNat 64 ((partitionAt s n).records.countP (fun x => x.seq ≤ last))
    let freed := setPartition s n (fun p => { p with records := p.records.filter (fun x => last < x.seq) })
    let t : State := { freed with attic := { freed.attic with flash := s.attic.flash.filter (fun x => x.ev.suite != n || last < x.seq) } }
    { s := writeRecord (noteSeverity t atticUnit 3 stDone) (atticEvent t n 3 [gone, BitVec.ofNat 64 last]), st := stDone, payload := [gone] } := by
  rw [List.countP_eq_length_filter]
  rfl

theorem atticClear_run {u : UnitId} (hu : u = atticUnit) (ha : c.arg = 0) (ho : commands s ((c.word 2).toNat % 64) c = true) :
    onUnit (.unit u) (· == atticUnit) s (ownerOnly s (fld (c.word 2) 0 6) c
      (if c.arg ≠ 0 then refuse s .range else clearRecords s (fld (c.word 2) 0 6) (fld (c.word 3) 0 48))) =
    clearRecords s ((c.word 2).toNat % 64) ((c.word 3).toNat % 2 ^ 48) := by
  have hn : fld (c.word 2) 0 6 = (c.word 2).toNat % 64 := fld_low _ 6
  rw [onUnit_eq hu, hn, ownerOnly_ok ho, if_neg (not_not_intro ha), fld_low]

/-! ### Loopback tests -/

theorem loopTest_eq {u : UnitId} (hu : loopUnit u = true) (ho : commands s 0 c = true) : loopTest c (.unit u) s = beginTest c u s := by
  simp only [loopTest, hu, if_true, ownerOnly_ok ho]

theorem beginTest_run {u : UnitId} (hb : loopBarred s u c.arg = false)
    (h : 1 ≤ c.arg ∧ c.arg ≤ 3 ∧ (c.word 2).toNat % 2 ^ 16 ≠ 0 ∧ lengthOk s u ((c.word 2).toNat / 2 ^ 16 % 2 ^ 16) = true ∨
      c.arg = 4 ∧ 1 ≤ (c.word 2).toNat / 2 ^ 32 % 2 ^ 16 ∧ (c.word 2).toNat / 2 ^ 32 % 2 ^ 16 ≤ 3600) :
    beginTest c u s =
      let b := takeDown s u
      { s := { b with tests := tput b.tests (unitKey u) { depth := c.arg, count := (c.word 2).toNat % 2 ^ 16
                                                          length := (c.word 2).toNat / 2 ^ 16 % 2 ^ 16
                                                          durationS := (c.word 2).toNat / 2 ^ 32 % 2 ^ 16
                                                          testId := (c.word 3).toNat % 2 ^ 29, startTick := s.tick, tag := c.tag
                                                          replyQueue := c.replyQueue, suite := c.suite } }
        st := stDone, reply := false } := by
  have fits : (if c.arg = 4 then decide (1 ≤ fld (c.word 2) 32 16) && decide (fld (c.word 2) 32 16 ≤ 3600)
      else fld (c.word 2) 0 16 != 0 && lengthOk s u (fld (c.word 2) 16 16)) = true := by
    rcases h with ⟨h1, h3, hn, hl⟩ | ⟨h4, h1, h3600⟩
    · rw [if_neg (by omega), Bool.and_eq_true, bne_iff_ne, fld_low]
      exact ⟨hn, hl⟩
    · rw [if_pos h4, Bool.and_eq_true, decide_eq_true_eq, decide_eq_true_eq]
      exact ⟨h1, h3600⟩
  have bounds : (decide (c.arg = 0) || decide (4 < c.arg)) = false := by
    rw [Bool.or_eq_false_iff]
    exact ⟨decide_eq_false (by omega), decide_eq_false (by omega)⟩
  unfold beginTest
  dsimp only
  rw [fits, bounds, hb, fld_low, fld_low]
  rfl

end

/-- Settles O33: each command is served by its unit and runs as its rule says. -/
theorem deviceCommands : Obligations.DeviceCommands := by
  intro s q c u rb h
  refine ⟨fun hu hc ha hq => ?_, fun hu ho ha hl => ⟨fun hc hi hn => ?_, fun hc hp => ?_⟩, fun hu => ⟨fun hc ho hq => ?_, fun hc he ho hq => ?_⟩,
    fun hu hc ho hr => ⟨fun ha hi => ?_, fun ha hi hn => ?_, fun ha => ?_⟩, fun n o hu hc ho hl ht hg => ⟨fun hi => ?_, fun hi => ?_⟩,
    fun hu hc hm he => ?_, fun hu hc ho ht => ?_, fun hu hc ha ho => ⟨fun hp => ?_, fun hp => ?_⟩, fun hu hc ha ho => ?_,
    fun hu hc ho hb => ?_⟩
  · obtain ⟨n, hq, ho⟩ := hq
    exact ⟨fun hf => served_answers h rfl hc (.inr (by decide)) ((onQueue_run hu ha hq ho).trans (clearQueue_run hf)),
      fun hf => served_answers h rfl hc (.inr (by decide)) ((onQueue_run hu ha hq ho).trans (clearQueue_fault hf))⟩
  · exact served_answers h rfl hc (.inr (by decide)) ((pairCommand_run hu ho ha hl).trans (pairSwitch_check hi hn))
  · exact served_answers h rfl hc (.inr (by decide)) ((pairCommand_run hu ho ha hl).trans (pairResync_check hp))
  · exact (served_finishes h rfl (beq_iff_eq.2 hc : withCode 0x71 c = true) (.inr (not_isRead (hc ▸ by decide)))).trans
      (next_congr (finished_later (floorQuiet_run hu ho hq)))
  · exact served_answers h rfl hc (.inr (by decide)) (floorWake_run hu he ho hq)
  · refine (served_finishes h rfl ?_ (.inr (not_isRead (hc ▸ by decide)))).trans
      (next_congr (congrArg (finishCommand c (some u)) (trimIncrement_run hu ho hr ha hi)))
    rw [withCode, hc, ha]; rfl
  · refine (served_finishes h rfl ?_ (.inr (not_isRead (hc ▸ by decide)))).trans
      (next_congr (congrArg (finishCommand c (some u)) (trimSlew_run hu ho hr hi hn)))
    rw [withCode, hc, ha]; rfl
  · refine (served_finishes h rfl ?_ (.inr (not_isRead (hc ▸ by decide)))).trans
      (next_congr (congrArg (finishCommand c (some u)) (trimStep_run hu ho hr)))
    rw [withCode, hc, ha]; rfl
  · subst hu
    exact served_answers h rfl hc (.inr (by decide)) (hallCancel_idle ho hl ht hg hi)
  · subst hu
    exact (served_finishes h rfl (beq_iff_eq.2 hc : withCode 0x90 c = true) (.inr (not_isRead (hc ▸ by decide)))).trans
      (next_congr (finished_later (hallCancel_attempting ho hl ht hg hi)))
  · exact (served_finishes h rfl (beq_iff_eq.2 hc : withCode 0xB0 c = true) (.inr (not_isRead (hc ▸ by decide)))).trans
      (next_congr (finished_later (meterRead_run hu hm he)))
  · intro b hv hm
    exact served_answers h rfl hc (.inr (by decide)) (advanceLifecycle_run hu ho (transitionFails_allowed ht) hv hm)
  · exact served_answers h rfl hc (.inr (by decide)) (clearTamper_held hu ho ha hp)
  · exact served_answers h rfl hc (.inr (by decide)) (clearTamper_run hu ho ha hp)
  · exact served_answers h rfl hc (.inr (by decide)) ((atticClear_run hu ha ho).trans (clearRecords_eq _ _))
  · intro count length seconds hf
    refine (served_finishes h rfl (beq_iff_eq.2 hc : withCode 0xF0 c = true) (.inr (not_isRead (hc ▸ by decide)))).trans
      (next_congr (finished_later ((loopTest_eq hu ho).trans (beginTest_run hb hf))))

end Sys2Proof.Proofs
end

section
/-! Configuration requests: each row of the table is one use of `serveCfg`, what that does case by case, and what ending a request leaves. -/

namespace Sys2Proof.Proofs
open Sys2Proof Sys2Proof.Machine

/-! ### What `serveCfg` does -/

section
variable {s : State} {c : Nat} {r : CfgReq} {pick : CfgReq → Bool} {run : CfgReq → State → CfgOut}

/-- What becomes of a request that has been carried out. -/
def cfgAfter (r : CfgReq) : CfgOut → State
  | .ends e => finishCfg r e
  | .waits s => s

theorem serveCfg_empty (h : headRequest s c = none) : serveCfg c pick run s = s := by
  simp only [serveCfg, h]

theorem serveCfg_passes (h : headRequest s c = some r) (hp : pick r = false ∨ s.seq.waiting.any (fun w => w.req.ctx == c) = true) :
    serveCfg c pick run s = s := by
  have hb : (!pick r || s.seq.waiting.any (fun w => w.req.ctx == c)) = true := by
    rcases hp with hp | hp
    · rw [hp]; rfl
    · rw [hp, Bool.or_true]
  simp only [serveCfg, h, hb, if_true]

section
variable (h : headRequest s c = some r) (hp : pick r = true) (hw : s.seq.waiting.any (fun w => w.req.ctx == c) = false)
include h hp hw

theorem serveCfg_stopped (hi : inPass (takeRequest s r) r = true) (hf : (takeRequest s r).seq.passFailed ≠ none) (hc : r.code ≠ 0x17) :
    serveCfg c pick run s = finishCfg r { s := takeRequest s r, st := stRefused .state } := by
  have hc : (r.code != 0x17) = true := bne_iff_ne.2 hc
  simp only [serveCfg, h, hp, hw, Bool.not_true, Bool.or_self, Bool.false_eq_true, if_false, hi, Option.isSome_iff_ne_none.2 hf, hc, Bool.and_self,
    if_true]

theorem serveCfg_serves (hg : inPass (takeRequest s r) r = true → (takeRequest s r).seq.passFailed = none) :
    serveCfg c pick run s = cfgAfter r (run r (takeRequest s r)) := by
  have hb : (inPass (takeRequest s r) r && (takeRequest s r).seq.passFailed.isSome && r.code != 0x17) = false := by
    cases hi : inPass (takeRequest s r) r with
    | false => rfl
    | true => rw [hg hi]; rfl
  simp only [serveCfg, h, hp, hw, Bool.not_true, Bool.or_self, Bool.false_eq_true, if_false, hb]
  cases run r (takeRequest s r) <;> rfl

end

/-- A row that picks a request and may go on carries it out. -/
theorem serveCfg_configures {i : Instr} (hc : Configures s c r) (he : exec i s = .next (serveCfg c pick run s)) (hp : pick r = true) :
    exec i s = .next (cfgAfter r (run r (takeRequest s r))) := by
  obtain ⟨hh, hw, hg⟩ := hc
  rw [he, serveCfg_serves hh hp hw hg]

end

/-! ### The table's rows -/

theorem cfgUnitOnly_nowhere {s : State} {r : CfgReq} {ok : UnitId → Bool} {go : UnitId → CfgOut} (h : resolve s (r.word 0) = none) :
    cfgUnitOnly r s ok go = cfgDeny s (stRefused .address) := by
  simp only [cfgUnitOnly, h]

theorem buildingCfg_open {s : State} (h : (suiteAt s 0).locked = false) (run : CfgOut) : buildingCfg s run = run := by
  rw [buildingCfg, h, if_neg Bool.false_ne_true]

/-- R54: a request whose target names nothing is refused for its address, where it is CFG_GROUP's and CFG_POINT's own form of target too. -/
def RefusesNowhere (code : Nat) (run : CfgReq → State → CfgOut) : Prop :=
  ∀ (r : CfgReq) (s : State), resolve s (r.word 0) = none → (suiteAt s 0).locked = false →
    (code = 0x02 → (groupAddress (r.word 0) && enclosesSelf s (r.word 0)) = false) → (code = 0x05 → pointTarget s (r.word 0) = none) →
    (inPass s r = true → s.seq.passFailed = none) → run r s = cfgDeny s (stRefused .address)

/-- An instruction is a row of the configuration sequencer for context `c` that picks the requests of a code that `test` accepts. -/
def IsCfgRow (i : Instr) (c code : Nat) (test : CfgReq → Bool) : Prop :=
  ∃ pick run, (∀ s, exec i s = .next (serveCfg c pick run s)) ∧ (∀ r, pick r = (r.code == code && test r)) ∧ RefusesNowhere code run

section
variable {i : Instr} {c code : Nat} {test pick : CfgReq → Bool} {run : CfgReq → State → CfgOut}
  (he : ∀ s, exec i s = .next (serveCfg c pick run s)) (hp : ∀ r, pick r = (r.code == code && test r))
include he hp

/-- A row of a request for one kind of unit. -/
theorem isCfgRow_unit (h : ∀ r s, ∃ ok go, run r s = cfgUnitOnly r s ok go) : IsCfgRow i c code test := by
  refine ⟨pick, run, he, hp, fun r s hn _ _ _ _ => ?_⟩
  obtain ⟨ok, go, hr⟩ := h r s
  rw [hr, cfgUnitOnly_nowhere hn]

/-- A row of a request for one kind of unit that only suite 0 issues. -/
theorem isCfgRow_building (h : ∀ r s, ∃ ok go, run r s = buildingCfg s (cfgUnitOnly r s ok go)) : IsCfgRow i c code test := by
  refine ⟨pick, run, he, hp, fun r s hn hl _ _ _ => ?_⟩
  obtain ⟨ok, go, hr⟩ := h r s
  rw [hr, buildingCfg_open hl, cfgUnitOnly_nowhere hn]

end

theorem configureGroup_nowhere : RefusesNowhere 0x02 configureGroup := by
  intro r s hn hl hg _ _
  have : ((resolve s (r.word 0)).isNone && !(groupAddress (r.word 0) && enclosesSelf s (r.word 0))) = true := by
    rw [hn, hg rfl]; rfl
  unfold configureGroup
  rw [buildingCfg_open hl]
  exact if_pos this

theorem configurePoint_nowhere : RefusesNowhere 0x05 configurePoint := by
  intro r s hn _ _ hp _
  simp only [configurePoint, hp rfl, hn]

theorem endPass_nowhere : RefusesNowhere 0x17 endPass := by
  intro r s hn _ _ _ hf
  cases hi : inPass s r with
  | false => simp only [endPass, hi, cfgUnitOnly_nowhere hn]
  | true => simp only [endPass, hi, hf hi, cfgUnitOnly_nowhere hn]

/-- A code alone picks every request of it. -/
theorem every_picks (code : Nat) (r : CfgReq) : cfgCode code r = (r.code == code && true) := (Bool.and_true _).symm

/-- Each entry of the configuration table is a row of the sequencer. -/
theorem cfgTable_rows (c : Nat) : ∀ x ∈ cfgTable, IsCfgRow (x.1 c) c x.2.1 x.2.2 := by
  simp only [cfgTable, List.forall_mem_cons]
  refine ⟨?_, ?_, ?_, ?_, ?_, ?_, ?_, ?_, ?_, ?_, ?_, ?_, ?_, ?_, ?_, ?_, ?_, ?_, ?_, ?_, ?_, ?_, ?_, ?_, ?_, ?_, ?_, ?_, ?_, ?_, ?_, ?_, ?_,
    ?_, ?_, ?_, ?_, ?_, fun x hx => absurd hx List.not_mem_nil⟩
  · exact isCfgRow_building (fun _ => rfl) (every_picks _) (fun _ _ => ⟨_, _, rfl⟩)
  · exact ⟨_, _, fun _ => rfl, every_picks _, configureGroup_nowhere⟩
  · exact isCfgRow_building (fun _ => rfl) (every_picks _) (fun _ _ => ⟨_, _, rfl⟩)
  · exact isCfgRow_unit (fun _ => rfl) (fun _ => rfl) (fun _ _ => ⟨_, _, rfl⟩)
  · exact isCfgRow_unit (fun _ => rfl) (fun _ => rfl) (fun _ _ => ⟨_, _, rfl⟩)
  · exact ⟨_, _, fun _ => rfl, every_picks _, configurePoint_nowhere⟩
  · exact isCfgRow_unit (fun _ => rfl) (fun _ => rfl) (fun _ _ => ⟨_, _, rfl⟩)
  · exact isCfgRow_unit (fun _ => rfl) (fun _ => rfl) (fun _ _ => ⟨_, _, rfl⟩)
  · exact isCfgRow_building (fun _ => rfl) (every_picks _) (fun _ _ => ⟨_, _, rfl⟩)
  · exact isCfgRow_unit (fun _ => rfl) (fun _ => rfl) (fun _ _ => ⟨_, _, rfl⟩)
  · exact isCfgRow_unit (fun _ => rfl) (fun _ => rfl) (fun _ _ => ⟨_, _, rfl⟩)
  · exact isCfgRow_building (fun _ => rfl) (every_picks _) (fun _ _ => ⟨_, _, rfl⟩)
  · exact isCfgRow_building (fun _ => rfl) (fun _ => rfl) (fun _ _ => ⟨_, _, rfl⟩)
  · exact isCfgRow_building (fun _ => rfl) (fun _ => rfl) (fun _ _ => ⟨_, _, rfl⟩)
  · exact isCfgRow_building (fun _ => rfl) (fun _ => rfl) (fun _ _ => ⟨_, _, rfl⟩)
  · exact isCfgRow_building (fun _ => rfl) (fun _ => rfl) (fun _ _ => ⟨_, _, rfl⟩)
  · exact isCfgRow_building (fun _ => rfl) (fun _ => Bool.and_assoc _ _ _) (fun _ _ => ⟨_, _, rfl⟩)
  · exact isCfgRow_building (fun _ => rfl) (fun _ => rfl) (fun _ _ => ⟨_, _, rfl⟩)
  · exact isCfgRow_building (fun _ => rfl) (fun _ => rfl) (fun _ _ => ⟨_, _, rfl⟩)
  · exact isCfgRow_building (fun _ => rfl) (every_picks _) (fun _ _ => ⟨_, _, rfl⟩)
  · exact isCfgRow_building (fun _ => rfl) (every_picks _) (fun _ _ => ⟨_, _, rfl⟩)
  · exact isCfgRow_building (fun _ => rfl) (fun _ => Bool.and_assoc _ _ _) (fun _ _ => ⟨_, _, rfl⟩)
  · exact isCfgRow_building (fun _ => rfl) (fun _ => rfl) (fun _ _ => ⟨_, _, rfl⟩)
  · exact isCfgRow_building (fun _ => rfl) (fun _ => rfl) (fun _ _ => ⟨_, _, rfl⟩)
  · exact isCfgRow_unit (fun _ => rfl) (fun _ => rfl) (fun _ _ => ⟨_, _, rfl⟩)
  · exact isCfgRow_unit (fun _ => rfl) (fun _ => rfl) (fun _ _ => ⟨_, _, rfl⟩)
  · exact isCfgRow_unit (fun _ => rfl) (fun _ => rfl) (fun _ _ => ⟨_, _, rfl⟩)
  · exact isCfgRow_unit (fun _ => rfl) (fun _ => rfl) (fun _ _ => ⟨_, _, rfl⟩)
  · exact isCfgRow_building (fun _ => rfl) (every_picks _) (fun _ _ => ⟨_, _, rfl⟩)
  · exact isCfgRow_building (fun _ => rfl) (every_picks _) (fun _ _ => ⟨_, _, rfl⟩)
  · exact isCfgRow_building (fun _ => rfl) (every_picks _) (fun _ _ => ⟨_, _, rfl⟩)
  · exact isCfgRow_building (fun _ => rfl) (fun _ => Bool.and_assoc _ _ _) (fun _ _ => ⟨_, _, rfl⟩)
  · exact isCfgRow_building (fun _ => rfl) (fun _ => rfl) (fun _ _ => ⟨_, _, rfl⟩)
  · exact isCfgRow_building (fun _ => rfl) (fun _ => rfl) (fun _ _ => ⟨_, _, rfl⟩)
  · exact isCfgRow_building (fun _ => rfl) (every_picks _) (fun _ _ => ⟨_, _, rfl⟩)
  · exact isCfgRow_building (fun _ => rfl) (every_picks _) (fun _ _ => ⟨_, _, rfl⟩)
  · exact isCfgRow_unit (fun _ => rfl) (every_picks _) (fun _ _ => ⟨_, _, rfl⟩)
  · exact ⟨_, _, fun _ => rfl, every_picks _, endPass_nowhere⟩

/-! ### The end of a request -/

theorem noteTarget_kept (s : State) (target : BitVec 64) (st : Status) : Kept s (noteTarget s target st) := by
  unfold noteTarget
  split
  · exact setUnitStat_kept s _ _
  · exact .rfl

/-- What a request that ends leaves: the state whose pass it may have stopped, with a place of its context free. -/
theorem completeCfg_leaves (s : State) (r : CfgReq) (st : Status) (v : BitVec 64) (payload : List (BitVec 64)) :
    Kept (setCtx s r.ctx (fun x => { x with outstanding := x.outstanding - 1 })) (completeCfg s r st v payload) := by
  unfold completeCfg
  exact .ite .rfl (sendCompletion_kept _ _ _ _)

/-- The state whose pass the end of a request may have stopped. -/
def passNoted (s : State) (r : CfgReq) (st : Status) : State :=
  if inPass s r && st.cls != .done && s.seq.passFailed.isNone then { s with seq := { s.seq with passFailed := some r.ticket } } else s

theorem passNoted_leaves (s : State) (r : CfgReq) (st : Status) :
    (passNoted s r st).sram = s.sram ∧ (passNoted s r st).tasks = s.tasks ∧ (passNoted s r st).seq.reqs = s.seq.reqs := by
  unfold passNoted
  split <;> exact ⟨rfl, rfl, rfl⟩

/-- A context that has run has a task entry that is not empty. -/
theorem contextAt_setCtx {s : State} {c : Nat} {f : Ctx → Ctx} (h : (f (contextAt s c)).steps ≠ 0) : contextAt (setCtx s c f) c = f (contextAt s c) := by
  have hne : ({ taskAt s c with ctx := f (contextAt s c) } : Task) ≠ {} := fun e => h (congrArg (fun t : Task => t.ctx.steps) e)
  exact congrArg Task.ctx (tget_tset_ne_default _ s.tasks hne)

theorem returned_not_done {r : CfgReq} {e : CfgEnd} (h : e.st.cls ≠ .done) : (returned r e).cls ≠ .done := by
  unfold returned
  split
  · decide
  · exact h

/-- Settles O34: every row is a `serveCfg`, whose cases are told one by one. -/
theorem configurationOrder : Obligations.ConfigurationOrder := by
  refine ⟨fun s c x hx => ?_, fun s r st v => ?_⟩
  · obtain ⟨pick, run, he, hp, hn⟩ := cfgTable_rows c x hx
    simp only [he]
    refine ⟨fun h => ?_, fun r h ho => ?_, fun r h hc ht hw hi hf hx => ?_, fun r h hc ht hr hl hg hq => ?_⟩
    · rw [serveCfg_empty h]
    · rw [serveCfg_passes h]
      rcases ho with ho | ho | ho
      · exact .inl (by rw [hp, beq_eq_false_iff_ne.2 ho, Bool.false_and])
      · exact .inl (by rw [hp, ho, Bool.and_false])
      · exact .inr ho
    · rw [serveCfg_stopped h (by rw [hp, hc, ht, beq_self_eq_true]; rfl) hw hi hf (hc ▸ hx)]
    · obtain ⟨hh, hw, hg'⟩ := h
      rw [serveCfg_serves hh (by rw [hp, hc, ht, beq_self_eq_true]; rfl) hw hg', hn r _ hr hl hg hq hg']
      rfl
  · intro t
    let d := passNoted s r (returned r { s, st, result := v })
    have hk : Kept d (noteTarget d (r.word 0) (returned r { s, st, result := v })) := noteTarget_kept d _ _
    have ht : Kept _ t := completeCfg_leaves (noteTarget d (r.word 0) (returned r { s, st, result := v })) r _ v []
    obtain ⟨hsram, htasks, hreqs⟩ := passNoted_leaves s r (returned r { s, st, result := v })
    refine ⟨ht.sram.trans (hk.sram.trans hsram), (congrArg Sequencer.reqs (ht.seq.trans hk.seq)).trans hreqs, fun hs => ?_, fun hi hc hf => ?_⟩
    · have hx : ∀ a b : State, b.tasks = a.tasks → contextAt b r.ctx = contextAt a r.ctx := fun a b h => by
        simp only [contextAt, taskAt, h]
      have hd := hx s _ (hk.tasks.trans htasks)
      rw [hx _ t ht.tasks, contextAt_setCtx (by rw [hd]; exact hs), hd]
    · have : d.seq.passFailed = some r.ticket := by
        have hb : (inPass s r && (returned r { s, st, result := v }).cls != .done && s.seq.passFailed.isNone) = true := by
          rw [hi, bne_iff_ne.2 (returned_not_done hc), hf]; rfl
        show (passNoted s r _).seq.passFailed = _
        rw [passNoted, if_pos hb]
      exact (congrArg Sequencer.passFailed (ht.seq.trans hk.seq)).trans this

end Sys2Proof.Proofs
end

section
/-! Configuration of the module: its address and groups, pace, locks, suites, points, the pair and the end of the pass. -/

namespace Sys2Proof.Proofs
open Sys2Proof Sys2Proof.Machine

/-! ### Banks and descriptors -/

theorem closeBank_kept (s : State) (b : Nat) : Kept s (closeBank s b) := by
  unfold closeBank
  refine Kept.trans ?_ (Kept.foldl requestOutput_kept _ _)
  exact (setBank_kept s b _).trans (Kept.foldl (fun t n => .ite .rfl (conduct_kept t n _)) _ _)

theorem openBank_kept (s : State) (b : Nat) (st : BankState) : Kept s (openBank s b st) :=
  (setBank_kept s b _).trans (Kept.foldl turnOff_kept _ _)

theorem settleBank_kept (s : State) (b : Nat) : Kept s (settleBank s b) :=
  .ite (.ite (closeBank_kept s b) .rfl) (.ite (openBank_kept s b _) .rfl)

theorem settleBanks_kept (s : State) : Kept s (settleBanks s) := Kept.foldl settleBank_kept _ _

theorem settleEpochs_kept (old s : State) : Kept s (settleEpochs old s) := Kept.foldl (fun t u => setUnitStat_kept t u _) _ _

theorem bumpAllEpochs_kept (s : State) : Kept s (bumpAllEpochs s) := Kept.foldl (fun t u => setUnitStat_kept t u _) _ _

theorem takeAddress_addr (s : State) (a : BitVec 64) (paired : Bool) : (takeAddress s a paired).addr = { s.addr with self := a, paired } := by
  let t : State := { s with addr := { s.addr with self := a, paired } }
  have h : Kept t (takeAddress s a paired) :=
    (((bumpAllEpochs_kept t).trans (settleEpochs_kept s _)).trans (setUnitStat_kept _ _ _)).trans (settleBanks_kept _)
  exact h.addr

theorem declareGroup_addr (s : State) (a : BitVec 64) (speaker : Nat) (map : List (BitVec 64)) :
    (declareGroup s a speaker map).addr = { s.addr with groups := tput s.addr.groups (addrDepth a) { addr := a, speaker, members := map } } :=
  (settleEpochs_kept s _).addr

/-! ### Requests that are for a unit -/

section
variable {s : State} {c : Nat} {r : CfgReq} {u : UnitId} {i : Instr} {run : CfgReq → State → CfgOut} {code : Nat}

theorem cfgUnitOnly_ok {ok : UnitId → Bool} {go : UnitId → CfgOut} (h : resolve s (r.word 0) = some (.unit u)) (hu : ok u = true) :
    cfgUnitOnly r s ok go = go u := by
  simp only [cfgUnitOnly, h, hu, if_true]

theorem buildingUnit_ok {ok : UnitId → Bool} {go : UnitId → CfgOut} (h : resolve s (r.word 0) = some (.unit u)) (hu : ok u = true)
    (hl : (suiteAt s 0).locked = false) : buildingCfg s (cfgUnitOnly r s ok go) = go u := by
  rw [buildingCfg_open hl, cfgUnitOnly_ok h hu]

/-- A row that picks a request by its code carries it out. -/
theorem configures_code (h : Configures s c r) (he : exec i s = .next (serveCfg c (cfgCode code) run s)) (hc : r.code = code) {o : CfgOut}
    (hr : run r (takeRequest s r) = o) : exec i s = .next (cfgAfter r o) := by
  rw [serveCfg_configures h he (beq_iff_eq.2 hc), hr]

end

section
variable {s : State} {r : CfgReq}

theorem configureUnit_run (h : resolve s (r.word 0) = some (.unit .module)) (hl : (suiteAt s 0).locked = false) (hi : inPass s r = true)
    (hw : addrWellFormed (r.word 2) = true) (hd : (r.word 3).getLsbD 0 = false ∨ addrDepth (r.word 2) ≠ 1)
    (ho : unitAddressOk s (r.word 2) ((r.word 3).getLsbD 0) = true) :
    configureUnit r s = cfgDone (takeAddress s (r.word 2) ((r.word 3).getLsbD 0)) := by
  have hd : ((r.word 3).getLsbD 0 && addrDepth (r.word 2) == 1) = false := by
    rw [Bool.and_eq_false_iff]
    exact hd.imp id beq_eq_false_iff_ne.2
  refine (buildingUnit_ok h rfl hl).trans ?_
  simp only [hi, hw, bitAt, hd, ho, Bool.not_true, Bool.or_self, Bool.false_eq_true, if_false]

theorem configurePace_run (h : resolve s (r.word 0) = some (.unit .module)) (hl : (suiteAt s 0).locked = false)
    (hw : (r.word 2).getLsbD 40 = true ∨
      1650 ≤ fld (r.word 2) 0 16 ∧ fld (r.word 2) 0 16 ≤ 2000 ∧ fld (r.word 2) 0 16 + 50 ≤ fld (r.word 2) 16 16) (hn : fld (r.word 2) 32 8 ≠ 0) :
    configurePace r s = cfgDone (((List.range 8).filter (fun n => (r.word 2).getLsbD (32 + n))).foldl
      (fun t n => { t with rooms := tmod {} t.rooms n (paceRoom (r.word 2)) }) s) := by
  have hb : ((!bitAt (r.word 2) 40 && (decide (fld (r.word 2) 0 16 < 1650) || decide (2000 < fld (r.word 2) 0 16) ||
      decide (fld (r.word 2) 16 16 < fld (r.word 2) 0 16 + 50))) || decide (fld (r.word 2) 32 8 = 0)) = false := by
    rw [decide_eq_false hn, Bool.or_false, Bool.and_eq_false_iff]
    rcases hw with hw | ⟨h1, h2, h3⟩
    · exact .inl (by rw [bitAt, hw]; rfl)
    · exact .inr (by simp; omega)
  refine (buildingUnit_ok h rfl hl).trans ?_
  exact if_neg (Bool.eq_false_iff.1 hb)

theorem configureSuite_run (h : resolve s (r.word 0) = some (.unit .module)) (hl : (suiteAt s 0).locked = false)
    (hf : suiteFieldsOk (suiteFields r (suiteAt s (fld (r.word 2) 0 6))) = true)
    (ha : suiteApart s (fld (r.word 2) 0 6) (suiteFields r (suiteAt s (fld (r.word 2) 0 6))) = true)
    (hb : suiteBusy s (fld (r.word 2) 0 6) (suiteAt s (fld (r.word 2) 0 6)) (suiteFields r (suiteAt s (fld (r.word 2) 0 6))) = false) :
    configureSuite r s = cfgDone (applySuite s (fld (r.word 2) 0 6) (suiteFields r (suiteAt s (fld (r.word 2) 0 6)))) := by
  refine (buildingUnit_ok h rfl hl).trans ?_
  simp only [hf, ha, hb, Bool.not_true, Bool.or_self, Bool.false_eq_true, if_false]

theorem configureGroup_run (hl : (suiteAt s 0).locked = false) (hg : groupAddress (r.word 2) = true) (hw : r.word 0 = r.word 2)
    (ho : groupOk s (r.word 2) (fld (r.word 3) 0 8) ((rangeFrom 4 4).map r.word) = true) :
    configureGroup r s = cfgDone (declareGroup s (r.word 2) (fld (r.word 3) 0 8) ((rangeFrom 4 4).map r.word)) := by
  have henc : enclosesSelf s (r.word 2) = true := by
    simp only [groupOk, Bool.and_eq_true] at ho
    exact ho.1.1.1.1
  refine (buildingCfg_open hl _).trans ?_
  simp only [hw, hg, henc, ho, Bool.and_self, Bool.not_true, Bool.and_false, bne_self_eq_false, Bool.or_self, Bool.false_eq_true, if_false]

theorem configurePoint_run {e : Nat} (h : pointTarget s (r.word 0) = some e) (hp : pointRefusal r s e (pointFields r) = none) :
    configurePoint r s = cfgDone { s with points := tset (pointDefault e) s.points e (pointFields r) } := by
  simp only [configurePoint, h, hp]

theorem configureTwin_run (h : resolve s (r.word 0) = some (.unit landingUnit)) (hl : (suiteAt s 0).locked = false)
    (hm : fld (r.word 2) 16 8 = 0 ∨ 4 ≤ fld (r.word 2) 16 8) (hp : s.addr.paired = true)
    (ht : (loadedTasks s).any (fun e => e.2.desc.cam && !timingOk e.2.desc (windowFor s (fld (r.word 2) 0 16))) = false) :
    configureTwin r s = cfgDone (settleEpochs s { s with twin := { s.twin with
      mirrorWindow := fld (r.word 2) 0 16, hbMiss := fld (r.word 2) 16 8, noReclaim := (r.word 2).getLsbD 24, staleOk := (r.word 2).getLsbD 25
      partnerSerial := fld (r.word 3) 0 32, mUs := windowFor s (fld (r.word 2) 0 16) } }) := by
  have hm : (fld (r.word 2) 16 8 != 0 && decide (fld (r.word 2) 16 8 < 4)) = false := by
    rw [Bool.and_eq_false_iff]
    exact hm.imp bne_eq_false_iff_eq.2 (fun h => decide_eq_false (Nat.not_lt.2 h))
  refine (buildingUnit_ok h rfl hl).trans ?_
  simp only [hm, hp, ht, Bool.not_true, Bool.false_eq_true, if_false, setTwin, bitAt]

theorem configureLock_run (h : resolve s (r.word 0) = some (.unit .module)) :
    configureLock r s = cfgDone (mirror (setSuite s r.suite (fun u => { u with locked := true }))
      (.ownership r.suite (suiteAt s r.suite).owner (suiteAt s r.suite).ownerRank (suiteAt s r.suite).leaseEnd true)) :=
  cfgUnitOnly_ok h rfl

/-! ### The end of the pass -/

/-- CFG_END is carried out in a stopped pass too. -/
theorem serveCfg_end {c : Nat} {pick : CfgReq → Bool} {run : CfgReq → State → CfgOut} (h : headRequest s c = some r) (hp : pick r = true)
    (hw : s.seq.waiting.any (fun w => w.req.ctx == c) = false) (hc : r.code = 0x17) :
    serveCfg c pick run s = cfgAfter r (run r (takeRequest s r)) := by
  have hb : (inPass (takeRequest s r) r && (takeRequest s r).seq.passFailed.isSome && r.code != 0x17) = false := by
    rw [hc, bne_self_eq_false, Bool.and_false]
  simp only [serveCfg, h, hp, hw, Bool.not_true, Bool.or_self, Bool.false_eq_true, if_false, hb]
  cases run r (takeRequest s r) <;> rfl

theorem endPass_ends (h : resolve s (r.word 0) = some (.unit .module)) (hi : inPass s r = true) (hf : s.seq.passFailed = none) :
    endPass r s = cfgDone (startLoaded (seek (setUnitStat
      { s with seq := { s.seq with passDone := true }, boot := { s.boot with warm := false } } .module (fun x => { x with state := stRun })))) := by
  unfold endPass
  rw [hi, hf]
  refine (cfgUnitOnly_ok h rfl).trans ?_
  rfl

theorem endPass_after (h : resolve s (r.word 0) = some (.unit .module)) (hi : inPass s r = false) : endPass r s = cfgDeny s (stRefused .state) := by
  unfold endPass
  rw [hi]
  exact (cfgUnitOnly_ok h rfl).trans rfl

theorem endPass_stopped {k : Nat} (hi : inPass s r = true) (hf : s.seq.passFailed = some k) :
    endPass r s = .ends { s := raiseEvent s [0] 6 .module (stFault .state) [], st := stFault .state, result := BitVec.ofNat 64 k } := by
  unfold endPass
  rw [hi, hf]

end

/-- Settles O35: each request is carried out as its rule says; the writes of the address pass every later step by. -/
theorem moduleConfiguration : Obligations.ModuleConfiguration := by
  intro s c r
  refine ⟨fun h => ⟨fun hc hi hw hd ho => ⟨?_, ?_, ?_, ?_⟩, fun hc hw hn => ?_, fun hc hf ha hb => ?_⟩, fun h => ⟨fun hc => ?_, fun hc hi => ?_, fun hc hi => ?_⟩,
    fun hh hw hc hi k hf => ?_, fun h hc hl hg hw ho => ⟨?_, ?_⟩, fun h hc e he => ?_, fun h hc hm hp ht => ?_⟩
  · exact configures_code h.toConfigures rfl hc (configureUnit_run h.target h.unlocked hi hw hd ho)
  · rw [takeAddress_addr]
  · rw [takeAddress_addr]
  · rw [takeAddress_addr]
  · exact configures_code h.toConfigures rfl hc (configurePace_run h.target h.unlocked hw hn)
  · exact configures_code h.toConfigures rfl hc (configureSuite_run h.target h.unlocked hf ha hb)
  · exact configures_code h.toConfigures rfl hc (configureLock_run h.target)
  · exact configures_code h.toConfigures rfl hc (endPass_ends h.target hi (h.goes hi))
  · exact configures_code h.toConfigures rfl hc (endPass_after h.target hi)
  · refine next_congr ((serveCfg_end hh (beq_iff_eq.2 hc : cfgCode 0x17 r = true) hw hc).trans ?_)
    rw [endPass_stopped hi hf, cfgAfter]
  · exact configures_code h rfl hc (configureGroup_run hl hg hw ho)
  · exact declareGroup_addr _ _ _ _
  · intro p hp
    exact configures_code h rfl hc (configurePoint_run he hp)
  · exact configures_code h.toConfigures rfl hc (configureTwin_run h.target h.unlocked hm hp ht)

end Sys2Proof.Proofs
end

section
/-! Configuration of queues, tasks, ports, the forwarding tables, uplinks, the clock and the Hallway. -/

namespace Sys2Proof.Proofs
open Sys2Proof Sys2Proof.Machine

section
variable {s : State} {c : Nat} {r : CfgReq} {i : Instr} {pick : CfgReq → Bool} {run : CfgReq → State → CfgOut}

/-- A row that picks a request carries it out. -/
theorem configures_as (h : Configures s c r) (he : exec i s = .next (serveCfg c pick run s)) (hp : pick r = true) {o : CfgOut}
    (hr : run r (takeRequest s r) = o) : exec i s = .next (cfgAfter r o) := by
  rw [serveCfg_configures h he hp, hr]

theorem configures_done (h : Configures s c r) (he : exec i s = .next (serveCfg c pick run s)) (hp : pick r = true) {t : State}
    (hr : run r (takeRequest s r) = cfgDone t) : exec i s = .next (configured r t) := configures_as h he hp hr

theorem configures_ends (h : Configures s c r) (he : exec i s = .next (serveCfg c pick run s)) (hp : pick r = true) {e : CfgEnd}
    (hr : run r (takeRequest s r) = .ends e) : exec i s = .next (finishCfg r e) := configures_as h he hp hr

theorem coded_and {code : Nat} {b : Bool} (hc : r.code = code) (hb : b = true) : (cfgCode code r && b) = true := by
  rw [hb, Bool.and_true]
  exact beq_iff_eq.2 hc

end

section
variable {s : State} {r : CfgReq}

/-! ### Queues -/

theorem setUpQueue_run {n : Nat} (hn : queueOwner s (fld (r.word 2) 0 16) = some n)
    (hr : r.suite = 0 ∨ n = r.suite ∧ (queueFields r (queueAt s (fld (r.word 2) 0 16))).fcSel = (queueAt s (fld (r.word 2) 0 16)).fcSel)
    (hf : queueFieldsOk (queueFields r (queueAt s (fld (r.word 2) 0 16))) = true) (hx : fixedQueue (fld (r.word 2) 0 16) = false)
    (hq : (queueAt s (fld (r.word 2) 0 16)).qfault = false) (hs : resetting s n = false)
    (hb : queueBusy s (fld (r.word 2) 0 16) (queueAt s (fld (r.word 2) 0 16)) (queueFields r (queueAt s (fld (r.word 2) 0 16))) = false)
    (hl : linesInUse s n - queueLines (queueAt s (fld (r.word 2) 0 16)) + queueLines (queueFields r (queueAt s (fld (r.word 2) 0 16))) ≤ limitOf s n)
    (hk : (suiteAt s r.suite).locked = false) :
    setUpQueue r s = cfgDone (judgeHigh (setQueue s (fld (r.word 2) 0 16) (fun q => topUp (queueFields r q))) (fld (r.word 2) 0 16)) := by
  have may : (r.suite != 0 && (queueOwner s (fld (r.word 2) 0 16) != some r.suite ||
      (queueFields r (queueAt s (fld (r.word 2) 0 16))).fcSel != (queueAt s (fld (r.word 2) 0 16)).fcSel)) = false := by
    rcases hr with h0 | ⟨h1, h2⟩
    · rw [h0]; rfl
    · rw [hn, h1, h2, bne_self_eq_false, bne_self_eq_false, Bool.or_self, Bool.and_false]
  unfold setUpQueue
  dsimp only
  rw [may, hn, hf, hx, hq]
  show (if (resetting s n || _) = true then _ else _) = _
  rw [hs, hb, issuerLocked, hk]
  exact if_neg (Nat.not_lt.2 hl)

theorem setLimit_run (h0 : r.suite = 0) (hq : fld (r.word 2) 0 16 = 0) (h4 : r.word 4 = 0) (h5 : r.word 5 = 0)
    (hs : resetting s (fld (r.word 3) 0 6) = false)
    (ht : (((List.range 64).filter (· != fld (r.word 3) 0 6)).map (limitOf s)).sum + fld (r.word 3) 8 20 ≤ 524288)
    (hl : linesInUse s (fld (r.word 3) 0 6) ≤ fld (r.word 3) 8 20) (hk : (suiteAt s r.suite).locked = false) :
    setLimit r s = cfgDone { s with larder := { s.larder with
      limits := tset (limitDefault (fld (r.word 3) 0 6)) s.larder.limits (fld (r.word 3) 0 6) (fld (r.word 3) 8 20) } } := by
  have whole : (decide (fld (r.word 2) 0 16 ≠ 0) || decide (r.word 4 ≠ 0) || decide (r.word 5 ≠ 0) ||
      decide (524288 < (((List.range 64).filter (· != fld (r.word 3) 0 6)).map (limitOf s)).sum + fld (r.word 3) 8 20)) = false := by
    rw [hq, h4, h5, decide_eq_false (Nat.not_lt.2 ht)]
    rfl
  have stays : (resetting s (fld (r.word 3) 0 6) || decide (fld (r.word 3) 8 20 < linesInUse s (fld (r.word 3) 0 6))) = false := by
    rw [hs, decide_eq_false (Nat.not_lt.2 hl)]
    rfl
  have suite : (r.suite != 0) = false := by rw [h0]; rfl
  have lock : issuerLocked s r = false := hk
  unfold setLimit
  dsimp only
  rw [suite, whole, stays, lock]
  rfl

/-! ### Tasks -/

theorem onTask_run {p : Part} {run : Nat → CfgOut} (h : resolve s (r.word 0) = some (.unit (.part p))) (hp : p.cls = 4)
    (hk : (suiteAt s r.suite).locked = false) (hr : r.suite = 0 ∨ fld (r.word 2) 5 6 = r.suite)
    (h0 : ctxKey (fld (r.word 2) 5 6) (fld (r.word 2) 0 5) ≠ 0) (hs : resetting s (fld (r.word 2) 5 6) = false)
    (he : (suiteAt s (fld (r.word 2) 5 6)).enabled = true)
    (hm : (taskAt s (ctxKey (fld (r.word 2) 5 6) (fld (r.word 2) 0 5))).mode = .stop ∨
      ((r.word 2).getLsbD 18 = false ∧ (taskAt s (ctxKey (fld (r.word 2) 5 6) (fld (r.word 2) 0 5))).mode = .notLoaded)) :
    onTask r s run = run p.inst := by
  have may : (r.suite != 0 && fld (r.word 2) 5 6 != r.suite) = false := by
    rcases hr with h | h
    · rw [h]; rfl
    · rw [h, bne_self_eq_false, Bool.and_false]
  have at_rest : ((taskAt s (ctxKey (fld (r.word 2) 5 6) (fld (r.word 2) 0 5))).mode != .stop &&
      (bitAt (r.word 2) 18 || (taskAt s (ctxKey (fld (r.word 2) 5 6) (fld (r.word 2) 0 5))).mode != .notLoaded)) = false := by
    rcases hm with h | ⟨hb, h⟩
    · rw [h]; rfl
    · rw [bitAt, hb, h]; rfl
  have lock : issuerLocked s r = false := hk
  refine (cfgUnitOnly_ok h (show (p.cls == 4) = true from beq_iff_eq.2 hp)).trans ?_
  dsimp only
  rw [may, lock, at_rest, hs, he, decide_eq_false h0]
  rfl

theorem loadTask_run {room k : Nat} {b d : TaskDesc} (hb : taskBody r room = b) (hk : ctxKey b.suite b.task = k)
    (hd : withLists s (suiteAt s b.suite) r b = d) (h8 : room ≠ 8) (ho : bodyOk s r (suiteAt s b.suite) b = true)
    (hl : listError s (suiteAt s b.suite) r = none) (he : entriesOk d = true) (hf : bindingFree (unbindTask s k d) k d = true)
    (hs : sharesOk s d = true) (ht : (bindTask (unbindTask s k d) k d).2 = true) (hc : s.boot.coreFail.getLsbD d.core = false)
    (hp : (roomAt s room).fault = false) : loadTask r s room = admitTask r s k d (bindTask (unbindTask s k d) k d).1 := by
  have body : (decide (room = 8) || !bodyOk s r (suiteAt s b.suite) b) = false := by
    rw [decide_eq_false h8, ho]; rfl
  unfold loadTask
  dsimp only
  rw [hb, body, hl, hk, hd, if_neg Bool.false_ne_true]
  dsimp only
  rw [he, hf, hs, ht, hc, hp]
  rfl

theorem admitTask_refused {k a : Nat} {d : TaskDesc} {bound : State} (ha : analyse (codeView s d.suite) d.entry = .refused a)
    (hu : uncorrectableIn s ((suiteAt s d.suite).winBase + a) 4 = none) :
    admitTask r s k d bound = .ends { s, st := stFault .illegal, result := BitVec.ofNat 64 a } := by
  simp only [admitTask, ha, hu]

theorem admitTask_worst {k w : Nat} {d : TaskDesc} {bound : State} (ha : analyse (codeView s d.suite) d.entry = .worst w) :
    admitTask r s k d bound = .ends (if admits s k { d with worst := w }
      then { s := placeTask bound k { d with worst := w } (runsOnLoad s r { d with worst := w }), st := stDone
             result := admissionResult { d with worst := w } (loadSum ({ d with worst := w } :: coreTasks s k d.core)) }
      else { s, st := stRefused .budget
             result := admissionResult { d with worst := w } (loadSum ({ d with worst := w } :: coreTasks s k d.core)) }) := by
  unfold admitTask
  rw [ha]
  dsimp only
  cases admits s k { d with worst := w } <;> rfl

/-! ### Ports, the forwarding tables and uplinks -/

theorem configurePort_run {p : Nat} (h : resolve s (r.word 0) = some (.unit (.part { cls := 1, inst := p }))) (hl : (suiteAt s 0).locked = false)
    (hm : macFieldsOk (portFields r) = true) (hp : powerFieldsOk (portFields r) = true) :
    configurePort r s = cfgDone (applyPort s p (portFields r)) := by
  refine (buildingUnit_ok h rfl hl).trans ?_
  dsimp only
  rw [hm, hp]
  rfl

theorem configureUplink_run {n : Nat} (h : resolve s (r.word 0) = some (.unit (.part { cls := 2, inst := n }))) (hl : (suiteAt s 0).locked = false)
    (hu : uplinkOk n (uplinkFields r) (uplinkPortFields r) = true) :
    configureUplink r s = cfgDone (applyUplink s n (uplinkFields r) (uplinkPortFields r)) := by
  have hn : (unitPort (.part { cls := 2, inst := n })).getD 192 - 192 = n := Nat.add_sub_cancel_left 192 n
  refine (buildingUnit_ok h rfl hl).trans ?_
  dsimp only
  rw [hn, hu]
  rfl

theorem configureFwd_run {clear : Bool} (h : resolve s (r.word 0) = some (.unit (engineUnit 6))) (hl : (suiteAt s 0).locked = false)
    (ho : fwdOp r ≤ 1) (hi : fwdIndexOk (fld (r.word 2) 0 3) (fld (r.word 2) 5 14) = true) (h7 : clear = true → fld (r.word 2) 0 3 ≠ 7)
    (hw : clear = false → fwdInRange s (acceptedTables s) (fld (r.word 2) 0 3) (fld (r.word 2) 5 14) r = true ∧
      fwdForeign s (acceptedTables s) (fld (r.word 2) 0 3) r = false)
    (hb : fwdBusy s (acceptedTables s) clear (fld (r.word 2) 0 3) (fld (r.word 2) 5 14) r = false) :
    configureFwd clear r s = acceptFwd clear (fld (r.word 2) 0 3) (fld (r.word 2) 5 14) r s := by
  have op : decide (1 < fld (r.word 2) 3 2) = false := decide_eq_false (Nat.not_lt.2 ho)
  have table : (clear && fld (r.word 2) 0 3 == 7) = false := by
    cases clear with
    | false => rfl
    | true => exact beq_eq_false_iff_ne.2 (h7 rfl)
  refine (cfgUnitOnly_ok h rfl).trans ?_
  dsimp only
  rw [op, hi, table, hb, buildingCfg_open hl]
  cases clear with
  | true => rfl
  | false => rw [(hw rfl).1, (hw rfl).2]; rfl

theorem acceptFwd_txq {clear : Bool} {table index : Nat} (h : table = 4) :
    acceptFwd clear table index r s = cfgDone (setTxq s index (if clear then 0 else fld (r.word 2) 19 16)) := by rw [h]; rfl

theorem acceptFwd_global {clear : Bool} {table index : Nat} (h : table = 7) :
    acceptFwd clear table index r s = cfgDone (setGlobal s index (r.word 3)) := by rw [h]; rfl

theorem acceptFwd_table {clear : Bool} {table index : Nat} (h : table < 4) :
    acceptFwd clear table index r s = .waits (waiting { s with sw := { s.sw with
      waiting := s.sw.waiting ++ [tableWrite clear table index r] } } r (some s.sw.epoch)) := by
  unfold acceptFwd
  split
  · omega
  · omega
  · rfl

theorem configureFwd_serves {c : Nat} {clear : Bool} {o : CfgOut} (h : ConfiguresUnit s c r (engineUnit 6)) (hc : r.code = 0x08)
    (hop : decide (fwdOp r = 1) = clear) (ho : fwdOp r ≤ 1) (hi : fwdIndexOk (fld (r.word 2) 0 3) (fld (r.word 2) 5 14) = true)
    (h7 : clear = true → fld (r.word 2) 0 3 ≠ 7)
    (hw : clear = false → fwdInRange (takeRequest s r) (acceptedTables (takeRequest s r)) (fld (r.word 2) 0 3) (fld (r.word 2) 5 14) r = true ∧
      fwdForeign (takeRequest s r) (acceptedTables (takeRequest s r)) (fld (r.word 2) 0 3) r = false)
    (hb : fwdBusy (takeRequest s r) (acceptedTables (takeRequest s r)) clear (fld (r.word 2) 0 3) (fld (r.word 2) 5 14) r = false)
    (ha : acceptFwd clear (fld (r.word 2) 0 3) (fld (r.word 2) 5 14) r (takeRequest s r) = o) :
    exec (if clear then .cfgFwdInvalidate c else .cfgFwdWrite c) s = .next (cfgAfter r o) := by
  have hrun := (configureFwd_run h.target h.unlocked ho hi h7 hw hb).trans ha
  cases clear with
  | true => exact configures_as h.toConfigures rfl (coded_and hc (beq_iff_eq.2 (of_decide_eq_true hop))) hrun
  | false => exact configures_as h.toConfigures rfl (coded_and hc (bne_iff_ne.2 (of_decide_eq_false hop))) hrun

/-! ### The clock -/

theorem configureClock_ok {go : CfgOut} (h : resolve s (r.word 0) = some (.unit clockUnit)) (hl : (suiteAt s 0).locked = false)
    (hs : fld (r.word 2) 0 2 = 2 ∨ s.twin.role ≠ .standby) : configureClock r s go = go := by
  have hb : (decide (s.twin.role = .standby) && fld (r.word 2) 0 2 != 2) = false := by
    rw [Bool.and_eq_false_iff]
    exact hs.symm.imp decide_eq_false bne_eq_false_iff_eq.2
  refine (buildingUnit_ok h rfl hl).trans ?_
  rw [hb]
  exact if_neg Bool.false_ne_true

theorem exceeds_eq (s : State) (n : Int) : exceeds s n = decide (s.clock.threshold < n.natAbs) := decide_eq_decide.2 Int.ofNat_lt

theorem stepJump_ok {n : Int} {force : Bool} (h : n.natAbs ≤ s.clock.threshold ∨ force = true) :
    stepJump s n force = (announce s (.step n (decide (s.clock.threshold < n.natAbs))), stDone) := by
  have hb : (decide (s.clock.threshold < n.natAbs) && !force) = false := by
    rw [Bool.and_eq_false_iff]
    exact h.imp (fun h => decide_eq_false (Nat.not_lt.2 h)) (fun h => by rw [h]; rfl)
  rw [stepJump, exceeds_eq, hb, if_neg Bool.false_ne_true]

theorem stepJump_large {n : Int} {force : Bool} (h : s.clock.threshold < n.natAbs) (hf : force = false) :
    stepJump s n force = (refuseJump s n, stRefused .range) := by
  rw [stepJump, exceeds_eq, decide_eq_true h, hf]
  rfl

theorem setJump_unset {t : Time80} {force : Bool} (h : s.clock.isSet = false) :
    setJump s t force = (announce s (.jump t true false), stDone) := by
  simp only [setJump, h, Bool.not_false, if_true]

theorem setJump_ok {t : Time80} {force : Bool} (hs : s.clock.isSet = true)
    (h : (tdiff t (now s)).natAbs ≤ s.clock.threshold ∨ force = true) :
    setJump s t force = (announce s (.jump t false (decide (s.clock.threshold < (tdiff t (now s)).natAbs))), stDone) := by
  have hb : (decide (s.clock.threshold < (tdiff t (now s)).natAbs) && !force) = false := by
    rw [Bool.and_eq_false_iff]
    exact h.imp (fun h => decide_eq_false (Nat.not_lt.2 h)) (fun h => by rw [h]; rfl)
  simp only [setJump, hs, exceeds_eq, hb, Bool.not_true, Bool.false_eq_true, if_false]

theorem setJump_large {t : Time80} {force : Bool} (hs : s.clock.isSet = true) (h : s.clock.threshold < (tdiff t (now s)).natAbs) (hf : force = false) :
    setJump s t force = (refuseJump s (tdiff t (now s)), stRefused .range) := by
  simp only [setJump, hs, exceeds_eq, decide_eq_true h, hf, Bool.not_true, Bool.not_false, Bool.and_self, Bool.false_eq_true, if_false, if_true]

theorem clockSet_run {o : State × Status} (h : resolve s (r.word 0) = some (.unit clockUnit)) (hl : (suiteAt s 0).locked = false)
    (hs : s.twin.role ≠ .standby) (hn : (ofNowForm (r.word 3) (fld (r.word 2) 16 16)).ns < giga)
    (ho : setJump s (ofNowForm (r.word 3) (fld (r.word 2) 16 16)) ((r.word 2).getLsbD 2) = o) : clockSet r s = .ends { s := o.1, st := o.2 } := by
  subst ho
  exact (configureClock_ok h hl (.inr hs)).trans (if_neg (Nat.not_le.2 hn))

theorem clockStep_run {o : State × Status} (h : resolve s (r.word 0) = some (.unit clockUnit)) (hl : (suiteAt s 0).locked = false)
    (hs : s.twin.role ≠ .standby) (ho : stepJump s (sfld (r.word 3) 0 64) ((r.word 2).getLsbD 2) = o) :
    clockStep r s = .ends { s := o.1, st := o.2 } := by
  subst ho
  exact configureClock_ok h hl (.inr hs)

theorem clockThreshold_run (h : resolve s (r.word 0) = some (.unit clockUnit)) (hl : (suiteAt s 0).locked = false) (ho : fld (r.word 2) 0 2 = 2)
    (h1 : 1000 ≤ fld (r.word 3) 0 32) (h2 : fld (r.word 3) 0 32 ≤ 4000000000) :
    clockThreshold r s = cfgDone { s with clock := { s.clock with threshold := fld (r.word 3) 0 32 } } := by
  have hb : (decide (fld (r.word 3) 0 32 < 1000) || decide (4000000000 < fld (r.word 3) 0 32)) = false := by
    rw [decide_eq_false (Nat.not_lt.2 h1), decide_eq_false (Nat.not_lt.2 h2)]
    rfl
  refine (configureClock_ok h hl (.inl ho)).trans ?_
  exact if_neg (Bool.eq_false_iff.1 hb)

theorem clockIncrement_run (h : resolve s (r.word 0) = some (.unit clockUnit)) (hl : (suiteAt s 0).locked = false) (hs : s.twin.role ≠ .standby)
    (hi : incrementOk (fld (r.word 2) 32 32) = true) : clockIncrement r s = cfgDone (announce s (.increment (fld (r.word 2) 32 32))) := by
  refine (configureClock_ok h hl (.inr hs)).trans ?_
  dsimp only
  rw [hi]
  rfl

/-! ### The Hallway -/

theorem configureHall_run {n : Nat} {run : Nat → CfgReq → State → CfgOut} (h : resolve s (r.word 0) = some (.unit (.part { cls := 3, inst := n })))
    (hl : (suiteAt s 0).locked = false) : configureHall run r s = run n r s := buildingUnit_ok h rfl hl

theorem configureHallPort_run {n : Nat} (ho : fld (r.word 2) 0 2 = 0) (hf : hallOk (hallFields r) = true) :
    configureHallPort n r s = if hallRejoins (hallAt s n).cfg (hallFields r) && (attempting s n).isSome then waitCfg s r
      else cfgDone (applyHall s n (hallFields r)) := by
  unfold configureHallPort
  dsimp only
  rw [ho, hf]
  rfl

theorem configureFilter_run {n : Nat}
    (hf : (filterFields r).valid = true → (filterFields r).fmt &&& ~~~ enabledFormats (hallAt s n).cfg = 0)
    (hp : ((filterFields r).valid && (filterFields r).queueAction) = true →
      fixedQueue (filterFields r).queue = false ∧ mayPut s (filterFields r).suite (filterFields r).queue = true)
    (hs : resetting s (filterFields r).suite = false) {f old : HallFilter} {p q : Nat} (ef : filterFields r = f)
    (eold : tget {} (hallAt s n).filters (fld (r.word 2) 2 6) = old) (ep : (if f.valid && f.queueAction then f.queue else 0) = p)
    (eq : (if old.valid && old.queueAction then old.queue else 0) = q) :
    configureFilter n r s =
      let t := setHall s n (fun x => { x with filters := tset {} x.filters (fld (r.word 2) 2 6) f })
      cfgDone (redirect t (hallPart n) q p (hallDirected t n q)) := by
  have put : ((filterFields r).valid && (filterFields r).queueAction && !mayPut s (filterFields r).suite (filterFields r).queue) = false := by
    cases h : (filterFields r).valid && (filterFields r).queueAction with
    | false => rfl
    | true => rw [(hp h).2]; rfl
  have range : (((filterFields r).valid && (filterFields r).fmt &&& ~~~ enabledFormats (hallAt s n).cfg != 0) ||
      ((filterFields r).valid && (filterFields r).queueAction && fixedQueue (filterFields r).queue)) = false := by
    rw [Bool.or_eq_false_iff]
    constructor
    · cases h : (filterFields r).valid with
      | false => rfl
      | true => rw [hf h]; rfl
    · cases h : (filterFields r).valid && (filterFields r).queueAction with
      | false => rfl
      | true => rw [(hp h).1]; rfl
  unfold configureFilter
  dsimp only
  rw [range, put, hs, ef, eold, eq, ep]
  rfl

theorem configureHallSlot_run {n : Nat} {x : HallSlotCfg} (ex : hallSlotFields r = x)
    (hf : x.valid = true → x.fmt &&& ~~~ enabledFormats (hallAt s n).cfg = 0 ∧ fixedQueue x.queue = false ∧
      (suiteAt s x.suite).queueFirst ≤ x.queue ∧ x.queue < (suiteAt s x.suite).queueFirst + (suiteAt s x.suite).queueCount)
    (hs : resetting s x.suite = false) :
    configureHallSlot n r s =
      if (tlook (hallAt s n).offered (fld (r.word 2) 2 4)).isSome && slotQueue (tget {} (hallAt s n).slots (fld (r.word 2) 2 4)) != slotQueue x
      then waitCfg s r else cfgDone (applyHallSlot s n (fld (r.word 2) 2 4) x) := by
  have range : (x.valid && (x.fmt &&& ~~~ enabledFormats (hallAt s n).cfg != 0 || fixedQueue x.queue)) = false := by
    cases h : x.valid with
    | false => rfl
    | true => obtain ⟨h1, h2, -⟩ := hf h; rw [h1, h2]; rfl
  have own : (x.valid && !(decide ((suiteAt s x.suite).queueFirst ≤ x.queue) &&
      decide (x.queue < (suiteAt s x.suite).queueFirst + (suiteAt s x.suite).queueCount))) = false := by
    cases h : x.valid with
    | false => rfl
    | true => obtain ⟨-, -, h3, h4⟩ := hf h; rw [decide_eq_true h3, decide_eq_true h4]; rfl
  unfold configureHallSlot
  dsimp only
  rw [ex, range, own, hs]
  rfl

end

/-- Settles O36: each request reaches its row's function, whose checks the hypotheses settle one after another. -/
theorem queueTaskAndPortConfiguration : Obligations.QueueTaskAndPortConfiguration := by
  intro s c r
  refine ⟨fun h hc => ⟨fun n hb hn hr hf hx hq hs hy hl => ?_, fun hb h0 hq h4 h5 hs ht hl => ?_⟩,
    fun p h hp h8 hc hr h0 hs he hm => ⟨fun hb => ?_, fun hb ho hl hent hf hsh ht hcore hpace => ⟨fun a ha hu => ?_, fun m ha => ?_⟩⟩,
    fun p h hc hm hp => ?_, fun h hc => ?_, fun n h hc hu => ?_,
    fun h hc => ⟨fun ho hs hn => ⟨fun hset => ?_, fun hset hj => ?_, fun hset hj hf => ?_⟩, fun ho hs => ⟨fun hj => ?_, fun hj hf => ?_⟩,
      fun ho h1 h2 => ?_, fun ho hs hi => ?_⟩,
    fun n h hc => ⟨fun ho hf => ?_, fun ho => ?_, fun ho => ?_⟩⟩
  · refine configures_done h.toConfigures rfl (coded_and hc (congrArg (!·) hb)) ?_
    exact (cfgUnitOnly_ok h.target rfl).trans (setUpQueue_run hn hr hf hx hq hs hy hl h.unlocked)
  · refine configures_done h.toConfigures rfl (coded_and hc hb) ?_
    exact (cfgUnitOnly_ok h.target rfl).trans (setLimit_run h0 hq h4 h5 hs ht hl h.unlocked)
  · refine configures_done h.toConfigures rfl (coded_and hc hb) ?_
    exact (onTask_run h.target hp h.unlocked hr h0 hs he hm).trans (if_neg h8)
  · refine configures_ends h.toConfigures rfl (coded_and hc (congrArg (!·) hb)) ?_
    exact (onTask_run h.target hp h.unlocked hr h0 hs he hm).trans
      ((loadTask_run rfl rfl rfl h8 ho hl hent hf hsh ht hcore hpace).trans (admitTask_refused ha hu))
  · refine configures_ends h.toConfigures rfl (coded_and hc (congrArg (!·) hb)) ?_
    exact (onTask_run h.target hp h.unlocked hr h0 hs he hm).trans
      ((loadTask_run rfl rfl rfl h8 ho hl hent hf hsh ht hcore hpace).trans (admitTask_worst ha))
  · exact configures_code h.toConfigures rfl hc (configurePort_run h.target h.unlocked hm hp)
  · intro table index clear row ho hi h7 hw hb
    exact ⟨fun ht => configureFwd_serves h hc rfl ho hi h7 hw hb (o := cfgDone _) (acceptFwd_txq ht),
      fun ht => configureFwd_serves h hc rfl ho hi h7 hw hb (o := cfgDone _) (acceptFwd_global ht),
      fun ht => configureFwd_serves h hc rfl ho hi h7 hw hb (o := .waits _) (acceptFwd_table ht)⟩
  · exact configures_code h.toConfigures rfl hc (configureUplink_run h.target h.unlocked hu)
  · exact configures_as h.toConfigures rfl (coded_and hc (beq_iff_eq.2 ho)) (clockSet_run h.target h.unlocked hs hn (setJump_unset hset))
  · exact configures_as h.toConfigures rfl (coded_and hc (beq_iff_eq.2 ho)) (clockSet_run h.target h.unlocked hs hn (setJump_ok hset hj))
  · exact configures_as h.toConfigures rfl (coded_and hc (beq_iff_eq.2 ho)) (clockSet_run h.target h.unlocked hs hn (setJump_large hset hj hf))
  · exact configures_as h.toConfigures rfl (coded_and hc (beq_iff_eq.2 ho)) (clockStep_run h.target h.unlocked hs (stepJump_ok hj))
  · exact configures_as h.toConfigures rfl (coded_and hc (beq_iff_eq.2 ho)) (clockStep_run h.target h.unlocked hs (stepJump_large hj hf))
  · exact configures_as h.toConfigures rfl (coded_and hc (beq_iff_eq.2 ho)) (clockThreshold_run h.target h.unlocked ho h1 h2)
  · exact configures_as h.toConfigures rfl (coded_and hc (beq_iff_eq.2 ho)) (clockIncrement_run h.target h.unlocked hs hi)
  · have hp : (cfgCode 0x0B r && hallOp r != 1 && hallOp r != 2) = true := by
      rw [hallOp, ho, cfgCode, hc]; rfl
    refine (configures_as h.toConfigures rfl hp ((configureHall_run h.target h.unlocked).trans (configureHallPort_run ho hf))).trans ?_
    split <;> rfl
  · intro f n puts old q t hf hput hs
    exact configures_as h.toConfigures rfl (coded_and hc (beq_iff_eq.2 ho))
      ((configureHall_run h.target h.unlocked).trans (configureFilter_run hf hput hs rfl rfl rfl rfl))
  · intro x n u hf hs
    refine (configures_as h.toConfigures rfl (coded_and hc (beq_iff_eq.2 ho))
      ((configureHall_run h.target h.unlocked).trans (configureHallSlot_run rfl hf hs))).trans ?_
    split <;> rfl

end Sys2Proof.Proofs
end

section
/-! Configuration of inputs, banks, the Meter cupboard, the Hearth, the Cellar, the Attic and the Mantel clock. -/

namespace Sys2Proof.Proofs
open Sys2Proof Sys2Proof.Machine

section
variable {s : State} {r : CfgReq}

/-! ### Inputs and banks -/

theorem configureInput_run (h : resolve s (r.word 0) = some (.unit inputUnit)) (hl : (suiteAt s 0).locked = false)
    (ho : inputOk (fld (r.word 2) 0 3) (inputFields r) = true) {t : State}
    (ht : repin { s with inputs := { s.inputs with blocks := tset {} s.inputs.blocks (fld (r.word 2) 0 3) (inputFields r) } } (fld (r.word 2) 0 3)
      (inputBlock s (fld (r.word 2) 0 3)) (inputFields r) = t) :
    configureInput r s = cfgDone (((rangeFrom (8 * fld (r.word 2) 0 3) 8).filter (fun n => !inputOn t n)).foldl (fun s n => publishInput s n false) t) := by
  subst ht
  refine (buildingUnit_ok h rfl hl).trans ?_
  dsimp only
  rw [ho]
  rfl

theorem configureBank_run {n : Nat} (h : resolve s (r.word 0) = some (.unit (.part { cls := 7, inst := n }))) (hl : (suiteAt s 0).locked = false)
    (hn : n < 6) (ho : bankOk s n (bankFields r) = true)
    (he : (bankAt s n).cfg.enable = false ∨ (bankFields r).enable = true ∨
      (loadedTasks s).any (fun t => t.2.desc.outList.any (fun e => isDo e && (e - 0x40) / 8 == n)) = false) :
    configureBank r s = cfgDone (restandSafe (settleBank (repolice (setBank s n (fun x => { x with
      cfg := bankFields r, retries := 0, state := if x.state = .lockedOut then .opened else x.state })) n) n) n) := by
  have free : ((bankAt s n).cfg.enable && !(bankFields r).enable &&
      (loadedTasks s).any (fun t => t.2.desc.outList.any (fun e => isDo e && (e - 0x40) / 8 == n))) = false := by
    rw [Bool.and_eq_false_iff, Bool.and_eq_false_iff, Bool.not_eq_false']
    exact or_assoc.2 he
  refine (buildingUnit_ok h (decide_eq_true hn) hl).trans ?_
  dsimp only
  rw [ho, free]
  rfl

/-! ### The Meter cupboard -/

theorem configureMeter_run {m : Nat} {run : Nat → CfgReq → State → CfgOut} (hm : m < 8)
    (h : resolve s (r.word 0) = some (.unit (.part { cls := 7, inst := m + 8 }))) (hl : (suiteAt s 0).locked = false) :
    configureMeter run r s = run m r s := by
  have hok : ((7 : Nat) == 7 && decide (8 ≤ m + 8) && decide (m + 8 ≤ 15)) = true := by
    rw [decide_eq_true (Nat.le_add_left 8 m), decide_eq_true (show m + 8 ≤ 15 by omega)]
    rfl
  exact buildingUnit_ok h hok hl

theorem configureCircuit_run {m : Nat} (h0 : fld (r.word 2) 0 2 = 0) (ho : circuitOk m (circuitFields r) = true)
    (hs : m = 0 ∨ (circuitFields r).enable = false ∨ (acceptedCircuit s 0).enable = true) (hb : ownerBusy s (circuitFields r).owner = false)
    (hl : (circuitFields r).owner = (acceptedCircuit s m).owner ∨ circuitListed s m = false) :
    configureCircuit m r s = cfgDone (setCircuit s m (fun x => { x with next := some (circuitFields r), clear := x.clear || (r.word 2).getLsbD 12 })) := by
  have range : (decide (fld (r.word 2) 0 2 = 3) || !circuitOk m (circuitFields r)) = false := by rw [h0, ho]; rfl
  have free : ((m != 0 && (circuitFields r).enable && !(acceptedCircuit s 0).enable) || ownerBusy s (circuitFields r).owner ||
      ((circuitFields r).owner != (acceptedCircuit s m).owner && circuitListed s m)) = false := by
    rw [hb, Bool.or_false, Bool.or_eq_false_iff, Bool.and_eq_false_iff, Bool.and_eq_false_iff, Bool.and_eq_false_iff, Bool.not_eq_false', or_assoc]
    exact ⟨hs.imp bne_eq_false_iff_eq.2 id, hl.imp bne_eq_false_iff_eq.2 id⟩
  unfold configureCircuit
  dsimp only
  rw [range, free]
  rfl

theorem configurePulse_run {m n : Nat} (hn : fld (r.word 2) 2 2 = n) (hs : (pulseFields m r).source ≤ 4) (hw : 2 ≤ (pulseFields m r).widthMs)
    (hw' : (pulseFields m r).widthMs ≤ 250) (hg : 1 ≤ (pulseFields m r).weight) (hg' : (pulseFields m r).weight ≤ 10000000)
    (hb : (bankAt s 5).cfg.enable = true) (hf : safeOn s (44 + n) = false)
    (hl : (loadedTasks s).any (fun t => t.2.desc.outList.contains (0x40 + 44 + n)) = false) :
    configurePulse m r s = cfgDone { s with meter := { s.meter with pulseNext := tput s.meter.pulseNext n (pulseFields m r) } } := by
  have range : (decide (4 < (pulseFields m r).source) || decide ((pulseFields m r).widthMs < 2) || decide (250 < (pulseFields m r).widthMs) ||
      decide ((pulseFields m r).weight < 1) || decide (10000000 < (pulseFields m r).weight) || !(bankAt s 5).cfg.enable || safeOn s (44 + n)) = false := by
    rw [decide_eq_false (Nat.not_lt.2 hs), decide_eq_false (Nat.not_lt.2 hw), decide_eq_false (Nat.not_lt.2 hw'), decide_eq_false (Nat.not_lt.2 hg),
      decide_eq_false (Nat.not_lt.2 hg'), hb, hf]
    rfl
  unfold configurePulse
  dsimp only
  rw [hn, range, hl]
  rfl

theorem configureRegister_run {m n : Nat} (hm : m = 0) (hn : fld (r.word 2) 2 4 = n) (h1 : 1 ≤ (registerFields r).weight)
    (h2 : (registerFields r).weight ≤ 1000000000) (ho : ownerBusy s (registerFields r).owner = false) (hc : inputCounts s n = true) :
    configureRegister m r s = cfgDone { s with meter := { s.meter with regNext := (tput s.meter.regNext n
      (registerFields r, if (r.word 2).getLsbD 13 then some (r.word 4).toNat else (tlook s.meter.regNext n).bind (·.2))) } } := by
  have range : (decide (m ≠ 0) || decide ((registerFields r).weight < 1) || decide (1000000000 < (registerFields r).weight)) = false := by
    rw [hm, decide_eq_false (Nat.not_lt.2 h1), decide_eq_false (Nat.not_lt.2 h2)]
    rfl
  unfold configureRegister
  dsimp only
  rw [hn, range, ho, hc, bitAt]
  cases (r.word 2).getLsbD 13 with
  | true => rfl
  | false =>
    cases tlook s.meter.regNext n with
    | none => rfl
    | some x =>
      obtain ⟨g, v⟩ := x
      cases v <;> rfl

/-! ### The Hearth, the Cellar and the Attic -/

theorem configureSlot_run {change : CfgReq → Slot → Slot} (h : resolve s (r.word 0) = some (.unit (.part hearthPart))) {n : Nat} {old new : Slot}
    (hn : hearthSlot r = n) (ho : slotAt s n = old) (he : change r old = new) (hr : hearthRefusal r s old new = none) :
    configureSlot change r s = cfgDone (directSlot (setSlot s n (fun _ => new)) n old new) := by
  subst hn ho he
  refine (cfgUnitOnly_ok h rfl).trans ?_
  dsimp only
  rw [hr]

theorem configureCellar_run (h : resolve s (r.word 0) = some (.unit (.part cellarPart))) (hl : (suiteAt s 0).locked = false)
    (hm : fld (r.word 2) 0 2 = 0 ∨ fld (r.word 2) 0 2 = 2 ∨ fld (r.word 2) 0 2 = 1 ∧
      ∃ n, liveSlot s (BitVec.ofNat 32 (fld (r.word 2) 32 32)) = some n ∧ isRoot n = false) :
    configureCellar r s = cfgDone { s with cellar := { s.cellar with tamperMode := fld (r.word 2) 0 2
                                                                     tamperParent := BitVec.ofNat 32 (fld (r.word 2) 32 32)
                                                                     pairAuth := BitVec.ofNat 32 (fld (r.word 3) 0 32) } } := by
  refine (buildingUnit_ok h rfl hl).trans ?_
  rcases hm with h0 | h2 | ⟨h1, n, hn, hr⟩
  · simp only [h0]; rfl
  · simp only [h2]; rfl
  · simp only [h1, hn, hr]; rfl

theorem configureAttic_run (h : resolve s (r.word 0) = some (.unit atticUnit)) (hl : (suiteAt s 0).locked = false)
    (h1 : 10 ≤ fld (r.word 2) 16 14) (h2 : fld (r.word 2) 16 14 ≤ 10000) :
    configureAttic r s = cfgDone { s with attic := { s.attic with
      persistSev := fld (r.word 2) 0 3, persistEn := (r.word 2).getLsbD 3, flushMs := fld (r.word 2) 16 14 } } := by
  have hb : (decide (fld (r.word 2) 16 14 < 10) || decide (10000 < fld (r.word 2) 16 14)) = false := by
    rw [decide_eq_false (Nat.not_lt.2 h1), decide_eq_false (Nat.not_lt.2 h2)]; rfl
  refine (buildingUnit_ok h rfl hl).trans ?_
  exact if_neg (Bool.eq_false_iff.1 hb)

theorem configureScrub_run (h : resolve s (r.word 0) = some (.unit atticUnit)) (hl : (suiteAt s 0).locked = false)
    (h1 : 5 ≤ fld (r.word 2) 0 10) (h2 : fld (r.word 2) 0 10 ≤ 1000) :
    configureScrub r s = cfgDone { s with attic := { s.attic with
      scrubInterval := fld (r.word 2) 0 10, scrubStop := (r.word 2).getLsbD 10
      scrubLine := if (r.word 2).getLsbD 11 then 0 else s.attic.scrubLine
      cycleTick := if (r.word 2).getLsbD 11 then s.tick else s.attic.cycleTick } } := by
  have hb : (decide (fld (r.word 2) 0 10 < 5) || decide (1000 < fld (r.word 2) 0 10)) = false := by
    rw [decide_eq_false (Nat.not_lt.2 h1), decide_eq_false (Nat.not_lt.2 h2)]; rfl
  refine (buildingUnit_ok h rfl hl).trans ?_
  exact if_neg (Bool.eq_false_iff.1 hb)

/-! ### The Mantel clock -/

theorem configureMantel_run {run : CfgReq → State → CfgOut} (h : resolve s (r.word 0) = some (.unit mantelUnit)) (hl : (suiteAt s 0).locked = false) :
    configureMantel run r s = run r s := buildingUnit_ok h rfl hl

theorem mantelSetup_run (ho : mantelOp r = 0) (hv : fld (r.word 2) 2 2 < 3) (hr : fld (r.word 2) 4 2 < 3) (ht : fld (r.word 2) 6 2 < 3)
    (hw : fld (r.word 3) 0 23 ≤ 5529600) (h1 : -2083 ≤ sfld (r.word 3) 32 13) (h2 : sfld (r.word 3) 32 13 ≤ 2083) {same : Bool}
    (hs : (fld (r.word 2) 6 2 == s.mantel.trimSrc) = same) {x : Mantel}
    (hx : { s.mantel with chgV := fld (r.word 2) 2 2, chgR := fld (r.word 2) 4 2, trimSrc := fld (r.word 2) 6 2, wakeTicks := fld (r.word 3) 0 23
                          trim := sfld (r.word 3) 32 13, window := if same then s.mantel.window else none
                          trimDone := if same then s.mantel.trimDone else none } = x) :
    mantelSetup r s = cfgDone { s with mantel := if (r.word 2).getLsbD 8 then { x with bakFirst := 0, bakSwitches := 0, bakLatched := false } else x } := by
  have range : (decide (mantelOp r = 3) || decide (fld (r.word 2) 2 2 = 3) || decide (fld (r.word 2) 4 2 = 3) || decide (fld (r.word 2) 6 2 = 3) ||
      decide (5529600 < fld (r.word 3) 0 23) || decide (sfld (r.word 3) 32 13 < -2083) || decide (2083 < sfld (r.word 3) 32 13)) = false := by
    rw [ho, decide_eq_false hv.ne, decide_eq_false hr.ne, decide_eq_false ht.ne, decide_eq_false (Nat.not_lt.2 hw), decide_eq_false (Int.not_lt.2 h1),
      decide_eq_false (Int.not_lt.2 h2)]
    rfl
  subst hs hx
  refine (if_neg (Bool.eq_false_iff.1 range)).trans ?_
  by_cases he : fld (r.word 2) 6 2 = s.mantel.trimSrc
  · simp only [setMantel, he, if_true, beq_self_eq_true, bitAt]
  · simp only [setMantel, he, if_false, beq_eq_false_iff_ne.2 he, Bool.false_eq_true, bitAt, Mantel.abandon]

theorem mantelSetRun_now (h : (r.word 2).getLsbD 2 = false) :
    mantelSetRun r s = cfgDone { s with mantel := { s.mantel with
      halt := false, seconds := fld (r.word 3) 0 48, fraction := 0, oscStop := false, trimAcc := 0, window := none } } := by
  simp only [mantelSetRun, bitAt, h, Bool.not_false, if_true]
  rfl

theorem mantelSetRun_later (h : (r.word 2).getLsbD 2 = true) (hs : s.clock.isSet = true) :
    mantelSetRun r s = .waits (waiting { s with mantel := { s.mantel with
      halt := true, seconds := fld (r.word 3) 0 48, fraction := 0, oscStop := false, trimAcc := 0, window := none
      loadAt := some ((now s).sec + 1), loadIsReload := false } } r none) := by
  simp only [mantelSetRun, bitAt, h, hs, Bool.not_true, Bool.false_eq_true, if_false]
  rfl

theorem coded_and_ne {code n : Nat} {op : CfgReq → Nat} (hc : r.code = code) (ho : op r = 0) (hn : 0 ≠ n) :
    (cfgCode code r && op r != n) = true :=
  coded_and hc (bne_iff_ne.2 (ho ▸ hn))

end

/-- Settles O37: each request reaches its row's function, whose checks the hypotheses settle one after another. -/
theorem utilityAndHouseConfiguration : Obligations.UtilityAndHouseConfiguration := by
  intro s c r
  refine ⟨fun h hc ho => ?_, fun n h hc hn ho he => ?_,
    fun m hm h hc => ⟨fun h0 ho hs hb hl => ?_, fun h1 => ?_, fun h2 h0 => ?_⟩,
    fun h hc => ⟨fun ho hr => ?_, fun ho hr => ?_, fun ho hr => ?_, fun ho hr => ?_⟩, fun h hc => ?_,
    fun h => ⟨fun hc h1 h2 => ?_, fun hc h1 h2 => ?_⟩,
    fun h hc => ⟨fun ho hv hr ht hw h1 h2 => ?_, fun ho => ?_, fun ho hb => ?_, fun ho hb hs => ?_⟩⟩
  · exact configures_done h.toConfigures rfl (beq_iff_eq.2 hc : cfgCode 0x0C r = true) (configureInput_run h.target h.unlocked ho rfl)
  · exact configures_done h.toConfigures rfl (beq_iff_eq.2 hc : cfgCode 0x0D r = true) (configureBank_run h.target h.unlocked hn ho he)
  · refine configures_done h.toConfigures rfl ?_ ((configureMeter_run hm h.target h.unlocked).trans (configureCircuit_run h0 ho hs hb hl))
    rw [coded_and_ne hc h0 (by decide), meterOp, h0]; rfl
  · intro p n hs hw hw' hg hg' hb hf hl
    exact configures_done h.toConfigures rfl (coded_and hc (beq_iff_eq.2 h1))
      ((configureMeter_run hm h.target h.unlocked).trans (configurePulse_run rfl hs hw hw' hg hg' hb hf hl))
  · intro g n kept hw hw' ho hi
    exact configures_done h.toConfigures rfl (coded_and hc (beq_iff_eq.2 h2))
      ((configureMeter_run hm h.target h.unlocked).trans (configureRegister_run h0 rfl hw hw' ho hi))
  · exact configures_done h.toConfigures rfl (coded_and hc (beq_iff_eq.2 ho)) (configureSlot_run h.target rfl rfl rfl hr)
  · exact configures_done h.toConfigures rfl (coded_and hc (beq_iff_eq.2 ho)) (configureSlot_run h.target rfl rfl rfl hr)
  · exact configures_done h.toConfigures rfl (coded_and hc (beq_iff_eq.2 ho)) (configureSlot_run h.target rfl rfl rfl hr)
  · exact configures_done h.toConfigures rfl (coded_and hc (beq_iff_eq.2 ho)) (configureSlot_run h.target rfl rfl rfl hr)
  · intro parent hm
    exact configures_done h.toConfigures rfl (beq_iff_eq.2 hc : cfgCode 0x10 r = true) (configureCellar_run h.target h.unlocked hm)
  · exact configures_done h.toConfigures rfl (beq_iff_eq.2 hc : cfgCode 0x11 r = true) (configureAttic_run h.target h.unlocked h1 h2)
  · exact configures_done h.toConfigures rfl (beq_iff_eq.2 hc : cfgCode 0x12 r = true) (configureScrub_run h.target h.unlocked h1 h2)
  · intro same x
    refine configures_done h.toConfigures rfl ?_ ((configureMantel_run h.target h.unlocked).trans (mantelSetup_run ho hv hr ht hw h1 h2 rfl rfl))
    rw [coded_and_ne hc ho (by decide), mantelOp, ho]; rfl
  · exact configures_done h.toConfigures rfl (coded_and hc (beq_iff_eq.2 ho)) (configureMantel_run h.target h.unlocked)
  · exact configures_done h.toConfigures rfl (coded_and hc (beq_iff_eq.2 ho)) ((configureMantel_run h.target h.unlocked).trans (mantelSetRun_now hb))
  · exact configures_as h.toConfigures rfl (coded_and hc (beq_iff_eq.2 ho)) ((configureMantel_run h.target h.unlocked).trans (mantelSetRun_later hb hs))

end Sys2Proof.Proofs
end

section
/-! The Cellar's key requests: how one is served, and what each operation leaves. -/

namespace Sys2Proof.Proofs
open Sys2Proof Sys2Proof.Machine

/-! ### Buffers -/

theorem bufLen_eq (w : BitVec 64) : bufLen w = w.toNat / 2 ^ 32 := fld_high w

theorem bufAddr_eq (w : BitVec 64) : bufAddr w = w.toNat % 2 ^ 32 := fld_low w 32

/-- What reading a buffer leaves as it was. -/
structure HeardOnly (s t : State) : Prop where
  cellar : t.cellar = s.cellar
  free : t.free = s.free
  suites : t.suites = s.suites
  bytes : ∀ a n, readBytes t.sram a n = readBytes s.sram a n

theorem HeardOnly.trans {s t u : State} (h : HeardOnly s t) (h' : HeardOnly t u) : HeardOnly s u :=
  ⟨h'.cellar.trans h.cellar, h'.free.trans h.free, h'.suites.trans h.suites, fun a n => (h'.bytes a n).trans (h.bytes a n)⟩

theorem heard_corrected (s : State) (a n : Nat) : HeardOnly s (correctErrors s a n) := by
  refine ⟨?_, ?_, suites_corrected s a n, fun b m => readBytes_corrected s a n b m⟩ <;> rw [correctErrors_eq]

theorem heard_leaves (r : KeyReq) (w : BitVec 64) (s : State) : HeardOnly s (heard r w s) := by
  unfold heard
  split
  · exact ⟨rfl, rfl, rfl, fun _ _ => rfl⟩
  · exact heard_corrected s _ _

section
variable {s t : State} (h : HeardOnly s t) (r : KeyReq)
include h

theorem HeardOnly.same_key (n : Nat) : keyAt t n = keyAt s n := by rw [keyAt, h.cellar, keyAt]

theorem HeardOnly.same_suite (n : Nat) : suiteAt t n = suiteAt s n := by rw [suiteAt, h.suites, suiteAt]

theorem HeardOnly.same_buffer (w : BitVec 64) : keyBuffer t r w = keyBuffer s r w := by rw [keyBuffer, h.same_suite, h.bytes, keyBuffer]

theorem HeardOnly.same_secret (k : KeyRef) : refSecret t k = refSecret s k := by
  cases k with
  | slot n => exact congrArg Key.secret (h.same_key n)
  | fixed n => rw [refSecret, refSecret, fixedSecret, fixedSecret, lifecycleRoot, lifecycleRoot, h.cellar]

theorem HeardOnly.outOk {len : Nat} (ho : OutOk s r len) : OutOk t r len := ⟨ho.size, by rw [h.same_suite]; exact ho.rights⟩

end

section
variable {s : State} {r : KeyReq} {w : BitVec 64}

theorem withBuffer_ok {go : List Byte → State → KeyEnd} (h : BufferOk s r w) : withBuffer r w s go = go (keyBuffer s r w) (heard r w s) := by
  unfold withBuffer
  dsimp only
  rw [bufLen_eq, bufAddr_eq, keyBuffer, heard]
  by_cases h0 : w.toNat / 2 ^ 32 = 0
  · rw [if_pos h0, if_pos h0, h0]
    rfl
  · obtain ⟨hr, hu⟩ := h.resolve_left h0
    rw [if_neg h0, if_neg h0, hr, hu]
    rfl

theorem putOut_ok {bs : List Byte} {go : State → KeyEnd} (h : OutOk s r bs.length) : putOut r bs s go = go (outStored s r bs) := by
  unfold putOut
  dsimp only
  rw [bufLen_eq, bufAddr_eq, if_neg (Nat.not_lt.2 h.size), outStored]
  cases bs with
  | nil => rfl
  | cons x xs => rw [h.rights.resolve_left (Nat.succ_ne_zero _)]; rfl

end

/-! ### Service -/

section
variable {s : State} {n op : Nat} {r : KeyReq} {run : KeyReq → State → KeyEnd}

/-- How a request that has its turn ends, before its uses are counted. -/
def keyRun (b : State) (r : KeyReq) (run : KeyReq → State → KeyEnd) : KeyEnd :=
  match keyBarred b with
  | some st => keyStop b st
  | none => if (namedHandles r).any (fun h => (findKey b h).isNone) then keyStop b (stFault .binding) else run r b

theorem serveKey_heads (h : KeyHeads s n op r) {b : State} (hb : keyBegun s n = b) {e : KeyEnd}
    (he : (if countsUse op then countUses (namedSlots b r) (keyRun b r run) else keyRun b r run) = e) :
    serveKey n op run s = completeKey (mirrorChanges b e.s ((b.cellar.keys ++ e.s.cellar.keys).map (·.1)).eraseDups) r e.st e.result := by
  obtain ⟨hh, ho, hf, ht⟩ := h
  have hg : (r.op != op || heldBack s r || !keyTurn s r) = false := by rw [ho, hf, ht, bne_self_eq_false]; rfl
  subst hb he
  unfold serveKey
  rw [hh]
  dsimp only
  rw [hg]
  rfl

section
variable {b t : State} {st : Status} {v : Nat}

theorem keyRun_barred (h : keyBarred b = some st) : keyRun b r run = { s := b, st, result := BitVec.ofNat 64 0 } := by
  rw [keyRun, h]
  rfl

theorem keyRun_stale (h : keyBarred b = none) (hn : ∃ h ∈ namedHandles r, findKey b h = none) :
    keyRun b r run = { s := b, st := stFault .binding, result := BitVec.ofNat 64 0 } := by
  obtain ⟨x, hx, hf⟩ := hn
  have : (namedHandles r).any (fun h => (findKey b h).isNone) = true := List.any_eq_true.2 ⟨x, hx, by rw [hf]; rfl⟩
  rw [keyRun, h]
  exact if_pos this

theorem keyRun_served (h : KeyServed s n op r) : keyRun (keyBegun s n) r run = run r (keyBegun s n) := by
  have : ¬(namedHandles r).any (fun h => (findKey (keyBegun s n) h).isNone) = true := by
    rw [List.any_eq_true]
    rintro ⟨x, hx, hf⟩
    rw [Option.isNone_iff_eq_none] at hf
    have := h.live x hx
    rw [hf] at this
    cases this
  rw [keyRun, h.runs]
  exact if_neg this

theorem serveKey_kept (h : KeyHeads s n op r) (he : keyRun (keyBegun s n) r run = { s := t, st, result := BitVec.ofNat 64 v })
    (hu : countsUse op = false ∨ st ≠ stDone ∧ st ≠ stRefused .check) : serveKey n op run s = keyEnded (keyBegun s n) t r st v := by
  have hc : (if countsUse op then countUses (namedSlots (keyBegun s n) r) (keyRun (keyBegun s n) r run) else keyRun (keyBegun s n) r run) =
      { s := t, st, result := BitVec.ofNat 64 v } := by
    rw [he]
    rcases hu with hu | ⟨hd, hk⟩
    · rw [hu]; rfl
    · have : (decide (st = stDone) || decide (st = stRefused .check)) = false := by rw [decide_eq_false hd, decide_eq_false hk]; rfl
      rw [countUses]
      dsimp only
      rw [this, if_neg Bool.false_ne_true, ite_self]
  rw [serveKey_heads h rfl hc, keyEnded]

theorem serveKey_used (h : KeyHeads s n op r) (he : keyRun (keyBegun s n) r run = { s := t, st, result := BitVec.ofNat 64 v })
    (hu : countsUse op = true) (hst : st = stDone ∨ st = stRefused .check) :
    serveKey n op run s = keyEnded (keyBegun s n) (keyUsed (keyBegun s n) r t) r st v := by
  have hb : (decide (st = stDone) || decide (st = stRefused .check)) = true := by
    rw [Bool.or_eq_true, decide_eq_true_eq, decide_eq_true_eq]
    exact hst
  have hc : (if countsUse op then countUses (namedSlots (keyBegun s n) r) (keyRun (keyBegun s n) r run) else keyRun (keyBegun s n) r run) =
      { s := keyUsed (keyBegun s n) r t, st, result := BitVec.ofNat 64 v } := by
    rw [he, hu, if_pos rfl, countUses]
    dsimp only
    rw [hb]
    rfl
  rw [serveKey_heads h rfl hc, keyEnded]

end

/-- An operation that counts no use is served. -/
theorem served_kept {i : Instr} {t : State} {st : Status} {v : Nat} (h : KeyServed s n op r) (hi : exec i s = .next (serveKey n op run s))
    (hu : countsUse op = false) (he : run r (keyBegun s n) = { s := t, st, result := BitVec.ofNat 64 v }) :
    exec i s = .next (keyEnded (keyBegun s n) t r st v) :=
  hi.trans (next_congr (serveKey_kept h.toKeyHeads ((keyRun_served h).trans he) (.inl hu)))

/-- An operation that counts uses is served and ends with DONE or REFUSED(CHECK). -/
theorem served_used {i : Instr} {t : State} {st : Status} {v : Nat} (h : KeyServed s n op r) (hi : exec i s = .next (serveKey n op run s))
    (hu : countsUse op = true) (hst : st = stDone ∨ st = stRefused .check) (he : run r (keyBegun s n) = { s := t, st, result := BitVec.ofNat 64 v }) :
    exec i s = .next (keyEnded (keyBegun s n) (keyUsed (keyBegun s n) r t) r st v) :=
  hi.trans (next_congr (serveKey_used h.toKeyHeads ((keyRun_served h).trans he) hu hst))

end

/-! ### The keys named -/

section
variable {s : State} {h : BitVec 32} {p : Nat}

theorem onKey_found {k : KeyRef} {go : KeyRef → KeyEnd} (hk : findKey s h = some k) : onKey s h go = go k := by
  rw [onKey, hk]

theorem onParent_slot {go : Nat → KeyEnd} (hk : findKey s h = some (.slot p)) : onParent s h go = go p := onKey_found hk

theorem onTyped_slot {types : List Nat} {go : Nat → KeyEnd} (hk : findKey s h = some (.slot p)) (hp : 64 ≤ p)
    (ht : types.contains (attrType (keyAt s p).attr) = true) : onTyped s h types go = go p := by
  have hr : isRoot p = false := decide_eq_false (Nat.not_lt.2 hp)
  have hb : (!isRoot p && types.contains (attrType (keyAt s p).attr)) = true := by rw [hr, ht]; rfl
  exact (onKey_found hk).trans (if_pos hb)

end

theorem createKey_made {t : State} {p slot : Nat} (h : RoomFor t p slot) (attr : BitVec 16) (secret : List Byte) :
    createKey t p attr secret = { s := placeKey t slot (childKey t p slot attr secret), st := stDone
                                  result := BitVec.ofNat 64 (mkHandle slot (keyAt t p).suite (keyAt t slot).gen).toNat } := by
  have hb : (decide (6 ≤ (keyAt t p).depth) || decide ((suiteAt t (keyAt t p).suite).keyQuota ≤ slotsHeld t (keyAt t p).suite)) = false := by
    rw [decide_eq_false (Nat.not_le.2 h.depth), decide_eq_false (Nat.not_le.2 h.quota)]
    rfl
  unfold createKey
  dsimp only
  rw [h.free]
  exact if_neg (Bool.eq_false_iff.1 hb)

/-! ### Creation -/

section
variable {s : State} {r : KeyReq} {p slot : Nat} (hp : findKey s r.handle = some (.slot p))
include hp

theorem keyGen_made {t : State} (ht : { s with free := s.free + 1 } = t) (ha : attrOk (keyAt s p).suite r.attr [1, 2, 3, 4, 5, 6] = true)
    (h : RoomFor t p slot) : keyGen r s =
      { s := placeKey t slot (childKey t p slot r.attr ((List.range (secretLen (attrType r.attr))).map (Config.randomByte s.free))), st := stDone
        result := BitVec.ofNat 64 (mkHandle slot (keyAt t p).suite (keyAt t slot).gen).toNat } := by
  subst ht
  refine (onParent_slot hp).trans ?_
  rw [ha]
  exact createKey_made h _ _

theorem keyDerive_made {t u : State} (ht : heard r (r.word 4) s = t) (hu : heard r (r.word 5) t = u) (h2 : attrType (keyAt s p).attr = 2)
    (ha : attrOk (keyAt s p).suite r.attr [1, 2] = true) (h4 : (r.word 4).toNat / 2 ^ 32 ≤ 64) (h5 : (r.word 5).toNat / 2 ^ 32 ≤ 48)
    (hb4 : BufferOk s r (r.word 4)) (hb5 : BufferOk t r (r.word 5)) (h : RoomFor u p slot) : keyDerive r s =
      { s := placeKey u slot (childKey u p slot r.attr
          (hkdf (keyAt s p).secret (keyBuffer s r (r.word 5)) (keyBuffer s r (r.word 4)) (secretLen (attrType r.attr)))), st := stDone
        result := BitVec.ofNat 64 (mkHandle slot (keyAt u p).suite (keyAt u slot).gen).toNat } := by
  subst ht hu
  have k4 := heard_leaves r (r.word 4) s
  have k5 := k4.trans (heard_leaves r (r.word 5) _)
  have size : (decide (64 < bufLen (r.word 4)) || decide (48 < bufLen (r.word 5))) = false := by
    rw [bufLen_eq, bufLen_eq, decide_eq_false (Nat.not_lt.2 h4), decide_eq_false (Nat.not_lt.2 h5)]
    rfl
  refine (onParent_slot hp).trans ?_
  rw [if_neg (not_not_intro h2), ha, size, if_neg (by decide), if_neg Bool.false_ne_true, withBuffer_ok hb4, withBuffer_ok hb5, createKey_made h,
    k4.same_buffer, k5.same_key]

section
variable {t : State} (ht : heard r (r.word 2) s = t) (hb : BufferOk s r (r.word 2))
include ht hb

theorem keyAgree_run (h64 : 64 ≤ p) (h46 : attrType (keyAt s p).attr = 4 ∨ attrType (keyAt s p).attr = 6)
    (ha : attrOk (keyAt s p).suite r.attr [1, 2] = true)
    (hl : (r.word 2).toNat / 2 ^ 32 = if attrType (keyAt s p).attr = 4 then 97 else 1088) {o : Option (List Byte)}
    (ho : Config.agree (attrType (keyAt s p).attr) (keyAt s p).secret (keyBuffer s r (r.word 2)) = o) :
    keyAgree r s = match (generalizing := false) o with
      | none => keyStop t (stRefused .check)
      | some shared => createKey t p r.attr
          (if attrType (keyAt s p).attr = 4 ∧ attrType r.attr = 1 then (List.range 32).map (Config.agreedByte shared) else shared) := by
  subst ht ho
  have k := heard_leaves r (r.word 2) s
  have types : [4, 6].contains (attrType (keyAt s p).attr) = true := by rcases h46 with h | h <;> rw [h] <;> rfl
  refine (onTyped_slot hp h64 types).trans ?_
  dsimp only
  rw [ha, bufLen_eq, if_neg (by decide), if_neg (not_not_intro hl), withBuffer_ok hb, k.same_key]
  cases Config.agree (attrType (keyAt s p).attr) (keyAt s p).secret (keyBuffer s r (r.word 2)) with
  | none => rfl
  | some shared => simp only [Bool.and_eq_true, decide_eq_true_eq, takeBytes]

theorem keyImport_public (ha : attrOk (keyAt s p).suite r.attr [1, 2, 3, 4, 5, 6, 7, 8] = true) (h0 : r.handle2 = 0)
    (h78 : attrType r.attr = 7 ∨ attrType r.attr = 8) (hl : (r.word 2).toNat / 2 ^ 32 = secretLen (attrType r.attr)) :
    keyImport r s = createKey t p r.attr (keyBuffer s r (r.word 2)) := by
  subst ht
  have plain : (decide (r.handle2 = 0) && (decide (attrType r.attr = 7) || decide (attrType r.attr = 8))) = true := by
    rw [decide_eq_true h0, Bool.true_and, Bool.or_eq_true, decide_eq_true_eq, decide_eq_true_eq]
    exact h78
  refine (onParent_slot hp).trans ?_
  dsimp only
  rw [ha, plain, if_neg (by decide), if_pos rfl, bufLen_eq, if_neg (not_not_intro hl), withBuffer_ok hb]

theorem keyImport_wrapped {w : Nat} (ha : attrOk (keyAt s p).suite r.attr [1, 2, 3, 4, 5, 6, 7, 8] = true)
    (hn : r.handle2 ≠ 0 ∨ ¬(attrType r.attr = 7 ∨ attrType r.attr = 8)) (hw : Wraps s r p w)
    (hl : (r.word 2).toNat / 2 ^ 32 = 30 + secretLen (attrType r.attr)) {o : Option (List Byte)}
    (ho : gcmOpen (keyAt s w).secret ((keyBuffer s r (r.word 2)).take 12) (wrapAad (keyAt s p).suite (attrType r.attr))
      ((keyBuffer s r (r.word 2)).drop 12) = o) :
    (o = none → keyImport r s = keyStop t (stRefused .check)) ∧
    ∀ text, o = some text → keyImport r s =
      if attrType (BitVec.ofNat 16 (natOf (text.take 2))) ≠ attrType r.attr then keyStop t (stRefused .check)
      else createKey t p r.attr (text.drop 2) := by
  subst ht
  obtain ⟨hkey, h64, htype, hsuite⟩ := hw
  have k := heard_leaves r (r.word 2) s
  have wrapped : (decide (r.handle2 = 0) && (decide (attrType r.attr = 7) || decide (attrType r.attr = 8))) = false := by
    rw [Bool.and_eq_false_iff, Bool.or_eq_false_iff, decide_eq_false_iff_not, decide_eq_false_iff_not, decide_eq_false_iff_not]
    exact hn.imp id not_or.1
  have run : keyImport r s = importWrapped r p w s := by
    refine (onParent_slot hp).trans ?_
    dsimp only
    rw [ha, wrapped, if_neg (by decide), if_neg Bool.false_ne_true, onTyped_slot hkey h64 (by rw [htype]; rfl), if_neg (not_not_intro hsuite)]
  rw [run, importWrapped, bufLen_eq, if_neg (not_not_intro hl), withBuffer_ok hb, k.same_key, k.same_key, ho]
  exact ⟨fun h => by rw [h], fun text h => by rw [h]⟩

end

end

/-- Settles O38: a request that is served runs its operation, and where there is room the child takes its slot. -/
theorem keyCreation : Obligations.KeyCreation := by
  intro s n r p slot b ends made key type hp
  refine ⟨fun h ha hr => ?_, fun h h2 ha h4 h5 hb4 hb5 hr => ?_, fun h h64 h46 ha hl hb => ?_, fun h ha => ⟨fun h0 h78 hl hb hr => ?_, fun w hn hw hl hb => ?_⟩⟩
  · exact served_kept h rfl rfl (keyGen_made hp rfl ha hr)
  · exact served_used h rfl rfl (.inl rfl) (keyDerive_made hp rfl rfl h2 ha h4 h5 hb4 hb5 hr)
  · split
    next he => exact served_used h rfl rfl (.inr rfl) (keyAgree_run hp rfl hb h64 h46 ha hl he)
    next shared he =>
      exact fun hr => served_used h rfl rfl (.inl rfl) ((keyAgree_run hp rfl hb h64 h46 ha hl he).trans (createKey_made hr _ _))
  · exact served_kept h rfl rfl ((keyImport_public hp rfl hb ha h0 h78 hl).trans (createKey_made hr _ _))
  · split
    next he => exact served_kept h rfl rfl ((keyImport_wrapped hp rfl hb ha hn hw hl he).1 rfl)
    next text he =>
      have run := (keyImport_wrapped hp rfl hb ha hn hw hl he).2 text rfl
      split
      next ht => exact fun hr => served_kept h rfl rfl (run.trans ((if_neg (not_not_intro ht)).trans (createKey_made hr _ _)))
      next ht => exact served_kept h rfl rfl (run.trans (if_pos ht))

end Sys2Proof.Proofs
end

section
/-! The Cellar's operations that use a key. -/

namespace Sys2Proof.Proofs
open Sys2Proof Sys2Proof.Machine

theorem gcmSeal_length (key nonce aad text : List Byte) : (gcmSeal key nonce aad text).length = text.length + 16 := by
  simp [gcmSeal, gcmText, gcmTag, takeBytes]

theorem gcmOpen_length {key nonce aad sealed text : List Byte} (h : gcmOpen key nonce aad sealed = some text) : text.length = sealed.length - 16 := by
  simp only [gcmOpen] at h
  split at h
  · cases h
  · cases h
    simp [gcmText]

theorem keyBuffer_length (s : State) (r : KeyReq) (w : BitVec 64) : (keyBuffer s r w).length = w.toNat / 2 ^ 32 := readBytes_length _ _ _

/-- OUT's rights do not depend on the buffers read before. -/
theorem OutOk.heard {s t : State} {r : KeyReq} {len : Nat} (h : OutOk s r len) (k : HeardOnly s t) : OutOk t r len := k.outOk r h

theorem inTooLong_false {r : KeyReq} (h : (r.word 2).toNat / 2 ^ 32 ≤ 65536) : inTooLong r = false := by
  rw [inTooLong, bufLen_eq]
  exact decide_eq_false (Nat.not_lt.2 h)

section
variable {s : State} {r : KeyReq} {p : Nat} (hp : findKey s r.handle = some (.slot p)) (h64 : 64 ≤ p)
include hp h64

section
variable {t u v : State} (ht : heard r (r.word 2) s = t) (hu : heard r (r.word 4) t = u) (hv : heard r (r.word 5) u = v)
  (hl : (r.word 2).toNat / 2 ^ 32 ≤ 65536) (h12 : (r.word 4).toNat / 2 ^ 32 = 12)
  (hb2 : BufferOk s r (r.word 2)) (hb4 : BufferOk t r (r.word 4)) (hb5 : BufferOk u r (r.word 5)) (h1 : attrType (keyAt s p).attr = 1)
include ht hu hv hl h12 hb2 hb4 hb5 h1

theorem keySeal_run (ho : OutOk s r ((r.word 2).toNat / 2 ^ 32 + 16)) {sealed : List Byte}
    (hs : gcmSeal (keyAt s p).secret (keyBuffer s r (r.word 4)) (keyBuffer s r (r.word 5)) (keyBuffer s r (r.word 2)) = sealed) :
    keySeal r s = keyDone (outStored v r sealed) sealed.length := by
  have len : sealed.length = (r.word 2).toNat / 2 ^ 32 + 16 := by rw [← hs, gcmSeal_length, keyBuffer_length]
  subst ht hu hv
  have k2 := heard_leaves r (r.word 2) s
  have k4 := k2.trans (heard_leaves r (r.word 4) _)
  have k5 := k4.trans (heard_leaves r (r.word 5) _)
  have size : (inTooLong r || decide (bufLen (r.word 4) ≠ 12) || decide (bufLen (r.word 3) < bufLen (r.word 2) + 16)) = false := by
    rw [inTooLong_false hl, bufLen_eq, bufLen_eq, bufLen_eq, h12, decide_eq_false (Nat.not_lt.2 ho.size)]
    rfl
  refine (onTyped_slot hp h64 (by rw [h1]; rfl)).trans ?_
  rw [size, if_neg Bool.false_ne_true, withBuffer_ok hb2, withBuffer_ok hb4, withBuffer_ok hb5, k2.same_buffer, k4.same_buffer, k5.same_key, hs]
  exact putOut_ok (k5.outOk r (len ▸ ho))

theorem keyOpen_run (h16 : 16 ≤ (r.word 2).toNat / 2 ^ 32) (ho : OutOk s r ((r.word 2).toNat / 2 ^ 32 - 16)) {o : Option (List Byte)}
    (hs : gcmOpen (keyAt s p).secret (keyBuffer s r (r.word 4)) (keyBuffer s r (r.word 5)) (keyBuffer s r (r.word 2)) = o) :
    keyOpen r s = match (generalizing := false) o with
      | none => keyStop v (stRefused .check)
      | some plain => keyDone (outStored v r plain) plain.length := by
  subst ht hu hv
  have k2 := heard_leaves r (r.word 2) s
  have k4 := k2.trans (heard_leaves r (r.word 4) _)
  have k5 := k4.trans (heard_leaves r (r.word 5) _)
  have size : (inTooLong r || decide (bufLen (r.word 2) < 16) || decide (bufLen (r.word 4) ≠ 12) ||
      decide (bufLen (r.word 3) + 16 < bufLen (r.word 2))) = false := by
    have h3 := ho.size
    rw [inTooLong_false hl, bufLen_eq, bufLen_eq, bufLen_eq, h12, decide_eq_false (Nat.not_lt.2 h16),
      decide_eq_false (show ¬(r.word 3).toNat / 2 ^ 32 + 16 < (r.word 2).toNat / 2 ^ 32 by omega)]
    rfl
  refine (onTyped_slot hp h64 (by rw [h1]; rfl)).trans ?_
  rw [size, if_neg Bool.false_ne_true, withBuffer_ok hb2, withBuffer_ok hb4, withBuffer_ok hb5, k2.same_buffer, k4.same_buffer, k5.same_key, hs]
  cases o with
  | none => rfl
  | some plain =>
    refine putOut_ok (k5.outOk r ?_)
    rw [gcmOpen_length hs, keyBuffer_length]
    exact ho

end

theorem keyVerify_run {t u : State} (ht : heard r (r.word 2) s = t) (hu : heard r (r.word 4) t = u) (hl : (r.word 2).toNat / 2 ^ 32 ≤ 65536)
    (hb2 : BufferOk s r (r.word 2)) (hb4 : BufferOk t r (r.word 4)) {y : Nat} (hy : attrType (keyAt s p).attr = y) (h : y = 3 ∨ y = 5 ∨ y = 7 ∨ y = 8)
    (h4 : (r.word 4).toNat / 2 ^ 32 = signatureLen y) :
    keyVerify r s = { s := u, st := if Config.verifies y (publicOf y (keyAt s p).secret) (keyBuffer s r (r.word 2)) (keyBuffer s r (r.word 4))
                                    then stDone else stRefused .check
                      result := BitVec.ofNat 64 0 } := by
  subst ht hu
  have k2 := heard_leaves r (r.word 2) s
  have k4 := k2.trans (heard_leaves r (r.word 4) _)
  have types : [3, 5, 7, 8].contains (attrType (keyAt s p).attr) = true := by
    rw [hy]
    rcases h with h | h | h | h <;> rw [h] <;> rfl
  have size : (inTooLong r || decide (bufLen (r.word 4) ≠ signatureLen y)) = false := by
    rw [inTooLong_false hl, bufLen_eq, decide_eq_false (not_not_intro h4)]
    rfl
  refine (onTyped_slot hp h64 types).trans ?_
  dsimp only
  rw [hy, size, if_neg Bool.false_ne_true, withBuffer_ok hb2, withBuffer_ok hb4, k2.same_buffer, k4.same_key]
  split <;> rfl

theorem keyExport_wrapped {w y : Nat} (hy : attrType (keyAt s p).attr = y) (hn : r.handle2 ≠ 0 ∨ ¬(3 ≤ y ∧ y ≤ 6))
    (he : attrExport (keyAt s p).attr = true) (hw : Wraps s r p w) {form : List Byte}
    (hf : takeBytes 12 (Config.randomByte s.free) ++ gcmSeal (keyAt s w).secret (takeBytes 12 (Config.randomByte s.free))
      (wrapAad (keyAt s p).suite y) (bytesOf 2 (keyAt s p).attr.toNat ++ (keyAt s p).secret) = form)
    (ho : OutOk s r form.length) :
    keyExport r s = keyDone (outStored { s with free := s.free + 1 } r form) form.length := by
  obtain ⟨hkey, hw64, htype, hsuite⟩ := hw
  have wrapped : (decide (r.handle2 = 0) && decide (3 ≤ y) && decide (y ≤ 6)) = false := by
    rw [Bool.and_assoc, Bool.and_eq_false_iff, decide_eq_false_iff_not, ← Bool.decide_and, decide_eq_false_iff_not]
    exact hn
  have may : (isRoot p || !attrExport (keyAt s p).attr) = false := by
    rw [he, isRoot, decide_eq_false (Nat.not_lt.2 h64)]
    rfl
  refine (onKey_found hp).trans ?_
  subst hy
  refine (if_neg (Bool.eq_false_iff.1 wrapped)).trans ?_
  show exportWrapped r p s = _
  rw [exportWrapped, may, if_neg Bool.false_ne_true, onTyped_slot hkey hw64 (by rw [htype]; rfl)]
  dsimp only
  rw [if_neg (not_not_intro hsuite), randomBytes]
  dsimp only
  rw [hf]
  exact putOut_ok ⟨ho.size, ho.rights⟩

end

section
variable {s : State} {r : KeyReq} {k : KeyRef} (hk : findKey s r.handle = some k)
include hk

theorem keySign_run {t : State} {y : Nat} (hy : refType s k = y) (ht : heard r (r.word 2) s = t) (h : y = 3 ∨ y = 5)
    (hl : (r.word 2).toNat / 2 ^ 32 ≤ 65536) (hb : BufferOk s r (r.word 2)) (ho : OutOk s r (signatureLen y)) {sig : List Byte}
    (hs : takeBytes (signatureLen y) (Config.signByte s.free y (refSecret s k) (keyBuffer s r (r.word 2))) = sig) :
    keySign r s = keyDone (outStored { t with free := s.free + 1 } r sig) sig.length := by
  have len : sig.length = signatureLen y := by rw [← hs, takeBytes, List.length_map, List.length_range]
  subst ht
  have k2 := heard_leaves r (r.word 2) s
  have type : (decide (y ≠ 3) && decide (y ≠ 5)) = false := by rcases h with h | h <;> rw [h] <;> rfl
  have size : (inTooLong r || decide (bufLen (r.word 3) < signatureLen y)) = false := by
    rw [inTooLong_false hl, bufLen_eq, decide_eq_false (Nat.not_lt.2 ho.size)]
    rfl
  refine (onKey_found hk).trans ?_
  dsimp only
  rw [hy, type, size, if_neg Bool.false_ne_true, if_neg Bool.false_ne_true, withBuffer_ok hb, k2.same_secret, k2.free, hs]
  exact putOut_ok ⟨len ▸ ho.size, by rw [len]; exact (k2.outOk r ho).rights⟩

theorem keyExport_public {y : Nat} (hy : refType s k = y) (h0 : r.handle2 = 0) (h3 : 3 ≤ y) (h6 : y ≤ 6) {pub : List Byte}
    (hs : publicOf y (refSecret s k) = pub) (ho : OutOk s r pub.length) : keyExport r s = keyDone (outStored s r pub) pub.length := by
  subst hy
  have plain : (decide (r.handle2 = 0) && decide (3 ≤ refType s k) && decide (refType s k ≤ 6)) = true := by
    rw [decide_eq_true h0, decide_eq_true h3, decide_eq_true h6]; rfl
  refine (onKey_found hk).trans ((if_pos plain).trans ?_)
  rw [exportPublic, hs]
  exact putOut_ok ho

theorem keyInfo_run (ho : OutOk s r 32) : keyInfo r s = keyDone (outStored s r (wordBytes (keyInfoWords s k))) 32 := by
  have len : (wordBytes (keyInfoWords s k)).length = 32 := by cases k <;> rfl
  exact (onKey_found hk).trans (putOut_ok (len.symm ▸ ho))

end

theorem keyDestroy_run {s : State} {r : KeyReq} {p : Nat} (hp : findKey s r.handle = some (.slot p)) :
    keyDestroy r s = keyDone (if p < 64 then createRoot (destroyKeys s (descendants s 6 [p])) p else destroyKeys s [p]) 0 := by
  refine (onKey_found hp).trans ?_
  dsimp only
  by_cases h : p < 64
  · rw [isRoot, decide_eq_true h, if_pos h]; rfl
  · rw [isRoot, decide_eq_false h, if_neg h]; rfl

/-! ### The 11 operations -/

/-- Each row of the table serves its operation's code. -/
theorem keyTable_rows : ∀ x ∈ keyTable, ∃ run, ∀ n s, exec (x.1 n) s = .next (serveKey n x.2 run s) := by
  simp only [keyTable, List.forall_mem_cons]
  exact ⟨⟨_, fun _ _ => rfl⟩, ⟨_, fun _ _ => rfl⟩, ⟨_, fun _ _ => rfl⟩, ⟨_, fun _ _ => rfl⟩, ⟨_, fun _ _ => rfl⟩, ⟨_, fun _ _ => rfl⟩,
    ⟨_, fun _ _ => rfl⟩, ⟨_, fun _ _ => rfl⟩, ⟨_, fun _ _ => rfl⟩, ⟨_, fun _ _ => rfl⟩, ⟨_, fun _ _ => rfl⟩, List.forall_mem_nil _⟩

/-- The status of a Cellar that does not run counts no use. -/
theorem keyBarred_status {s : State} {st : Status} (h : keyBarred s = some st) : st ≠ stDone ∧ st ≠ stRefused .check := by
  simp only [keyBarred] at h
  split at h
  · cases h; decide
  · split at h
    · cases h; decide
    · split at h
      · cases h; decide
      · cases h

/-- Settles O39: a request that has its turn ends with the Cellar's status or BINDING, or runs its operation. -/
theorem keyUse : Obligations.KeyUse := by
  intro s n r b b1 b2 b3 text aux aad used ends
  refine ⟨fun x hx h => ?_, fun p hp h64 => ?_, fun k hk => ?_, fun p hp h => ?_⟩
  · obtain ⟨run, hrun⟩ := keyTable_rows x hx
    exact ⟨fun st hst => (hrun n s).trans (next_congr (serveKey_kept h (keyRun_barred hst) (.inr (keyBarred_status hst)))),
      fun hb hf => (hrun n s).trans (next_congr (serveKey_kept h (keyRun_stale hb hf) (.inr ⟨by decide, by decide⟩)))⟩
  · intro k t
    refine ⟨fun hl h12 hb2 hb4 hb5 h1 => ⟨fun h ho => ?_, fun h h16 ho => ?_⟩, fun h hl hb2 hb4 ht h4 => ?_, fun w h hn he hw => ?_⟩
    · exact served_used h rfl rfl (.inl rfl) (keySeal_run hp h64 rfl rfl rfl hl h12 hb2 hb4 hb5 h1 ho rfl)
    · split
      next he => exact served_used h rfl rfl (.inr rfl) (keyOpen_run hp h64 rfl rfl rfl hl h12 hb2 hb4 hb5 h1 h16 ho he)
      next plain he => exact served_used h rfl rfl (.inl rfl) (keyOpen_run hp h64 rfl rfl rfl hl h12 hb2 hb4 hb5 h1 h16 ho he)
    · refine served_used h rfl rfl ?_ (keyVerify_run hp h64 rfl rfl hl hb2 hb4 rfl ht h4)
      split
      · exact .inl rfl
      · exact .inr rfl
    · intro nonce form ho
      exact served_used h rfl rfl (.inl rfl) (keyExport_wrapped hp h64 rfl hn he hw rfl ho)
  · intro t sig pub
    refine ⟨fun h ht hl hb ho => ?_, fun h h0 h3 h6 ho => ?_, fun h ho => ?_⟩
    · exact served_used h rfl rfl (.inl rfl) (keySign_run hk rfl rfl ht hl hb ho rfl)
    · exact served_used h rfl rfl (.inl rfl) (keyExport_public hk rfl h0 h3 h6 rfl ho)
    · exact served_kept h rfl rfl (keyInfo_run hk ho)
  · exact served_kept h rfl rfl (keyDestroy_run hp)

end Sys2Proof.Proofs
end

section
/-! Events of suites: elections, leases, fences and host sessions. -/

namespace Sys2Proof.Proofs
open Sys2Proof Sys2Proof.Machine

/-! ### Elections -/

/-- The order of claims: by RANK, and by HOST_ID among equals. -/
def Beats (w x : Claim) : Prop := x.rank < w.rank ∨ x.rank = w.rank ∧ w.host ≤ x.host

theorem Beats.rfl {w : Claim} : Beats w w := .inr ⟨Eq.refl _, Nat.le_refl _⟩

theorem Beats.trans {u w x : Claim} (h : Beats u w) (h' : Beats w x) : Beats u x := by
  unfold Beats at *
  omega

theorem Beats.same {u w : Claim} (h : Beats u w) (h' : Beats w u) : u.host = w.host ∧ u.rank = w.rank := by
  unfold Beats at *
  omega

theorem betterClaim_spec (a b : Claim) : (betterClaim a b = a ∨ betterClaim a b = b) ∧ Beats (betterClaim a b) a ∧ Beats (betterClaim a b) b := by
  unfold betterClaim
  split
  next h =>
    simp only [Bool.or_eq_true, decide_eq_true_eq, Bool.and_eq_true, beq_iff_eq] at h
    exact ⟨.inr rfl, by unfold Beats; omega, .rfl⟩
  next h =>
    simp only [Bool.or_eq_true, decide_eq_true_eq, Bool.and_eq_true, beq_iff_eq] at h
    exact ⟨.inl rfl, .rfl, by unfold Beats; omega⟩

theorem foldl_betterClaim (xs : List Claim) (x : Claim) : Wins (x :: xs) (xs.foldl betterClaim x) := by
  induction xs generalizing x with
  | nil => exact ⟨List.mem_singleton_self x, fun y hy => List.mem_singleton.1 hy ▸ Beats.rfl⟩
  | cons y ys ih =>
    obtain ⟨hm, hall⟩ := ih (betterClaim x y)
    obtain ⟨hor, hx, hy⟩ := betterClaim_spec x y
    have hfirst : Beats (ys.foldl betterClaim (betterClaim x y)) (betterClaim x y) := hall _ List.mem_cons_self
    refine ⟨?_, List.forall_mem_cons.2 ⟨hfirst.trans hx, List.forall_mem_cons.2 ⟨hfirst.trans hy, fun z hz => hall z (List.mem_cons_of_mem _ hz)⟩⟩⟩
    rcases List.mem_cons.1 hm with h | h
    · rcases hor with ho | ho <;> rw [List.foldl_cons, h, ho] <;> simp
    · exact List.mem_cons_of_mem _ (List.mem_cons_of_mem _ h)

theorem wins_same {claims : List Claim} {u w : Claim} (hu : Wins claims u) (hw : Wins claims w) : u.host = w.host ∧ u.rank = w.rank :=
  Beats.same (hu.2 w hw.1) (hw.2 u hu.1)

section
variable {s : State} {n : Nat}

theorem closeElection_closes {due : Nat} {x w : Claim} {xs : List Claim} (ho : (suiteAt s n).claimOpen = some due)
    (hc : (suiteAt s n).claims = x :: xs) (hd : due ≤ s.tick) (hw : Wins (suiteAt s n).claims w) :
    closeElection n s = (suiteAt s n).claims.foldl (answerClaim n w.host)
      (becomeOwner (setSuite s n (fun u => { u with claims := [], claimOpen := none })) n w.host w.rank) := by
  obtain ⟨hh, hr⟩ := wins_same (hc ▸ foldl_betterClaim xs x) hw
  unfold closeElection
  dsimp only
  rw [ho, hc]
  dsimp only
  rw [if_neg (Nat.not_lt.2 hd), hh, hr]

theorem closeElection_waits {due : Nat} (ho : (suiteAt s n).claimOpen = some due) (hd : s.tick < due) : closeElection n s = s := by
  unfold closeElection
  dsimp only
  rw [ho]
  cases (suiteAt s n).claims with
  | nil => rfl
  | cons x xs => exact if_pos hd

/-! ### Fences -/

theorem bump_16 (v : Nat) : bump 16 v = min 65535 (v + 1) := Nat.min_comm _ _

theorem liftFence_resetting (h : (suiteAt s n).state = stResetting) :
    let cold : Bool := decide ((suiteAt s n).resetCold = some true)
    let b := if cold then zeroPoints (reloadTenant s n) n else s
    let c := setSuite b n (fun u => { u with state := stDegraded, resetCold := none, suiteResets := min 65535 (u.suiteResets + 1) })
    let d := ((c.larder.queues.filter (fun e => e.2.fenced && queueOwner c e.1 == some n)).map (·.1)).foldl liftQueue c
    let e := (ownedUnits d n).foldl (fun s u => setUnitStat s u (fun x => { x with state := stRun })) d
    liftFence n s = ((suiteTasks b n).map (·.1)).foldl (restartTask cold) e := by
  have hc : ((suiteAt s n).resetCold == some true) = decide ((suiteAt s n).resetCold = some true) :=
    Bool.beq_eq_decide_eq _ _
  unfold liftFence
  dsimp only
  rw [if_neg (not_not_intro h), hc]
  simp only [bump_16]

/-! ### Host sessions -/

theorem openSession_opens {h : SessionOpen} (hm : MayOpen s h) : openSession h s = consumeFor (attachSession { s with sessions := s.sessions ++
      [{ number := h.number, host := h.host, suite := h.suite, rank := h.rank, port := h.port, puts := h.puts, takes := h.takes }] } h) h := by
  obtain ⟨hs, he, ⟨h1, h2⟩, hr, ⟨hp1, hp2⟩, h0, hn⟩ := hm
  have served : (s.boot.phase == .running || (s.boot.phase == .recovery && h.port == 194 && h.rank == 7)) = true := by
    rcases hs with hs | ⟨hs, hp, hr⟩
    · rw [hs]; rfl
    · rw [hs, hp, hr]; rfl
  have free : s.sessions.any (fun x => x.number == h.number) = false := List.any_eq_false.2 (fun x hx => by simpa using hn x hx)
  unfold openSession
  dsimp only
  rw [served, he, free, decide_eq_false (show h.host ≠ 0 by omega), decide_eq_false (Nat.not_lt.2 h2), decide_eq_false (Nat.not_lt.2 hr),
    decide_eq_false (Nat.not_lt.2 hp1), decide_eq_false (Nat.not_lt.2 hp2), decide_eq_false h0]
  rfl

theorem openSession_bars {h : SessionOpen} (hm : ¬MayOpen s h) : openSession h s = s := by
  unfold openSession
  dsimp only
  refine if_pos ?_
  by_contra hb
  apply hm
  rw [Bool.not_eq_true] at hb
  simp only [Bool.or_eq_false_iff, Bool.not_eq_false', decide_eq_false_iff_not, Bool.or_eq_true, Bool.and_eq_true, beq_iff_eq,
    List.any_eq_false, and_assoc] at hb
  obtain ⟨hs, he, h0, h1, hr, hp1, hp2, hn0, hn⟩ := hb
  exact ⟨hs, he, ⟨by omega, by omega⟩, by omega, ⟨by omega, by omega⟩, hn0, hn⟩

theorem closeSession_closes {y : Session} (h : s.sessions.find? (fun x => x.number == n) = some y) :
    closeSession n s = y.takes.foldl (fun s q =>
      if (queueAt s q).consumer = some (.session y.suite y.host n)
        then undeliver (setQueue s q (fun x => { x with consumer := none })) q (.session y.suite y.host n) else s)
      { s with
        sessions := s.sessions.filter (fun x => x.number != n)
        larder := { s.larder with queues := (s.larder.queues.map (fun e =>
          (e.1, if (attachment e.2 (.session y.suite y.host n)).isSome then detach e.2 (.session y.suite y.host n) else e.2))) } } := by
  simp only [closeSession, h]

theorem acknowledge_eq (host q seq : Nat) : acknowledge host n q seq s =
    match (queueAt s q).items.find? (ItemOf host n seq) with
    | some it => ackItem s q it.seq
    | none => s := rfl

end

/-- Settles O48: each event's row, with the winner of an election told by the order of its claims. -/
theorem suiteEvents : Obligations.SuiteEvents := by
  intro s n
  refine ⟨fun due x xs w ho hc hd hw => ?_, fun due ho hd => ?_, fun h ho => ⟨fun hr => ?_, fun hr => ?_⟩, fun h ho => ?_, fun hs => ?_, fun hs => ?_,
    fun h hm => ?_, fun h hm => ?_, fun y hy => ?_, fun host hn => ?_, fun host q seq it hf => ?_, fun host q seq hf => ?_⟩
  · exact next_congr (closeElection_closes ho hc hd hw)
  · exact next_congr (closeElection_waits ho hd)
  · exact next_congr (if_pos (by rw [ho, hr]; rfl))
  · exact next_congr (if_neg (by rw [hr, Bool.and_false]; exact Bool.false_ne_true))
  · refine next_congr ?_
    rw [ho]
    simp only [Option.isSome_some, Bool.true_and, decide_eq_true_eq]
  · exact next_congr (liftFence_resetting hs)
  · exact next_congr (if_pos hs)
  · exact next_congr (openSession_opens hm)
  · exact next_congr (openSession_bars hm)
  · have hh : (s.sessions.find? (fun x => x.number == n)).any (fun x => x.host == y.host) = true := by rw [hy]; exact beq_self_eq_true _
    exact next_congr ((if_pos hh).trans (closeSession_closes hy))
  · have hh : (s.sessions.find? (fun x => x.number == n)).any (fun x => x.host == host) = false := by
      cases hf : s.sessions.find? (fun x => x.number == n) with
      | none => rfl
      | some y => exact beq_eq_false_iff_ne.2 (hn y (List.mem_of_find?_eq_some hf) (beq_iff_eq.1 (List.find?_some hf :)))
    exact next_congr (if_neg (Bool.eq_false_iff.1 hh))
  · exact next_congr ((acknowledge_eq host q seq).trans (by rw [hf]))
  · exact next_congr ((acknowledge_eq host q seq).trans (by rw [hf]))

end Sys2Proof.Proofs
end

section
/-! Events of updates: activations, rechecks, trials and the halves of a pair's change. -/

namespace Sys2Proof.Proofs
open Sys2Proof Sys2Proof.Machine

section
variable {s b : State} {kind n : Nat}

theorem giga_eq : giga = 1000000000 := rfl

theorem ticks_100 : ticksMs 100 = 12500000 := by decide

theorem ticks_10000 : ticksMs 10000 = 1250000000 := by decide

theorem ticks_600000 : ticksMs 600000 = 75000000000 := by decide

theorem activateNow_eq : activateNow b kind n = broughtUp (imageInUse b kind n) kind n := by
  unfold activateNow broughtUp
  dsimp only
  simp only [Bool.and_eq_true, decide_eq_true_eq]
  rfl

/-! ### Judging an activation -/

theorem judgeActivation_power (h : b.mantel.batLow = true ∨ b.boot.pfailLow = true) : judgeActivation b kind n = endActivation b kind n (stRefused .power) :=
  if_pos (Bool.or_eq_true _ _ ▸ h)

section
variable (hp : b.mantel.batLow = false ∧ b.boot.pfailLow = false)
include hp

theorem judgeActivation_moving (h : moving b kind n = true) : judgeActivation b kind n =
    if reached (now b) (taddNs (updateAt b kind n).activateAt ((updateAt b kind n).holdS * 1000000000 : Nat)) = true then endActivation b kind n (stRefused .state)
    else setUpdate b kind n (fun u => { u with phase := .waiting, recheckDue := b.tick + 12500000, lastStatus := stDelayed .pending }) := by
  unfold judgeActivation
  dsimp only
  rw [hp.1, hp.2, h, ticks_100, giga_eq]
  exact (if_neg Bool.false_ne_true).trans (if_pos rfl)

theorem judgeActivation_still (h : moving b kind n = false) : judgeActivation b kind n =
    if oneByOne b kind (updateAt b kind n) (some (stagedImage (updateAt b kind n))) = true then
      setUpdate b kind n (fun u => { u with phase := .scheduled, pairHalf := true, pairTick := b.tick })
    else broughtUp (imageInUse b kind n) kind n := by
  unfold judgeActivation
  dsimp only
  rw [hp.1, hp.2, h, activateNow_eq]
  rfl

end

theorem activation_due (h : ActivationDue s b kind n) : activation kind n s =
    if (updateAt b kind n).pairHalf then (if b.twin.role = .standby then activateNow b kind n else b)
    else if (suiteAt b n).locked then endActivation b kind n (stRefused .lock) else judgeActivation b kind n := by
  obtain ⟨rfl, hp, hd, hc⟩ := h
  have hb : (decide ((updateAt (settleAll s) kind n).phase ≠ .scheduled) ||
      !reached (now (settleAll s)) (updateAt (settleAll s) kind n).activateAt || commitsDue (settleAll s)) = false := by
    rw [hp, hd, hc]; rfl
  exact if_neg (Bool.eq_false_iff.1 hb)

theorem recheck_due (h : RecheckDue s b kind n) : exec (.updateRecheck kind n) s = .next (judgeActivation b kind n) := by
  obtain ⟨rfl, hw, hd⟩ := h
  have hb : (decide ((updateAt b kind n).phase = .waiting) && decide ((updateAt b kind n).recheckDue ≤ b.tick)) = true := by
    rw [hw, decide_eq_true hd]; rfl
  exact next_congr (if_pos hb)

/-- Both rows judge an activation that is due. -/
theorem judged {t : State} (h : judgeActivation b kind n = t) :
    (ActivationDue s b kind n → (updateAt b kind n).pairHalf = false → (suiteAt b n).locked = false → exec (.updateActivation kind n) s = .next t) ∧
    (RecheckDue s b kind n → exec (.updateRecheck kind n) s = .next t) := by
  subst h
  refine ⟨fun hd hf hl => next_congr ((activation_due hd).trans ?_), fun hd => recheck_due hd⟩
  rw [hf, hl]
  rfl

/-! ### Trials -/

theorem trialExpiry_reverts (hp : (updateAt s kind n).phase = .trial) (hr : reached (now s) (updateAt s kind n).trialEnd = true)
    (hh : (decide (s.twin.role = .active) && (updateAt s kind n).pairHalf) = false) : exec (.trialExpiry kind n) s = .next (revert s kind n) := by
  have hb : (decide ((updateAt s kind n).phase = .trial) && reached (now s) (updateAt s kind n).trialEnd &&
      !((updateAt s kind n).pairHalf && s.twin.role == .active)) = true := by
    rw [Bool.and_comm] at hh
    rw [hp, hr, beq_eq_decide, hh]
    rfl
  exact next_congr (if_pos hb)

theorem trialExpiry_passes (h : (updateAt s kind n).phase ≠ .trial ∨ reached (now s) (updateAt s kind n).trialEnd = false ∨
    (decide (s.twin.role = .active) && (updateAt s kind n).pairHalf) = true) : exec (.trialExpiry kind n) s = .next s := by
  have hb : (decide ((updateAt s kind n).phase = .trial) && reached (now s) (updateAt s kind n).trialEnd &&
      !((updateAt s kind n).pairHalf && s.twin.role == .active)) = false := by
    rw [Bool.and_eq_false_iff, Bool.and_eq_false_iff, decide_eq_false_iff_not, Bool.not_eq_false', beq_eq_decide, or_assoc, Bool.and_comm]
    exact h
  exact next_congr (if_neg (Bool.eq_false_iff.1 hb))

/-! ### The halves of a pair's change -/

theorem pairSwitchover_half {since : Nat} (h : halfSince s = some since) : pairSwitchover s =
    if s.twin.inStep = true ∧ 64 ≤ s.twin.inStepCount ∧ since < s.twin.inStepTick ∧ s.twin.inStepTick + 1250000000 ≤ s.tick
      then beginSwitch s else s := by
  simp only [pairSwitchover, h, ticks_10000, Bool.and_eq_true, decide_eq_true_eq, and_assoc]

theorem pairSwitchover_none (h : halfSince s = none) : pairSwitchover s = s := by
  simp only [pairSwitchover, h]

theorem pairUpdateTimeout_half {since : Nat} (h : halfSince s = some since) : exec .pairUpdateTimeout s = .next (
    if s.tick < since + 75000000000 then s
    else if (updateAt s 1 0).pairHalf = true then
      (if (updateAt s 1 0).phase = .scheduled then endActivation s 1 0 (stRefused .state) else s)
    else { s with twin := { s.twin with pairReset := none } }) := by
  show execPairUpdateTimeout s = _
  simp only [execPairUpdateTimeout, h, ticks_600000, abandonHalf, setTwin]
  by_cases hs : s.tick < since + 75000000000
  · rw [if_pos hs, if_neg (Nat.not_le.2 hs)]
  · rw [if_neg hs, if_pos (Nat.not_lt.1 hs)]

theorem pairUpdateTimeout_none (h : halfSince s = none) : exec .pairUpdateTimeout s = .next s := by
  show execPairUpdateTimeout s = _
  simp only [execPairUpdateTimeout, h]

end

/-- Settles O49: an activation is judged in one order at its time and at each recheck. -/
theorem updateEvents : Obligations.UpdateEvents := by
  intro s b kind n
  refine ⟨fun h ho => judged ((judgeActivation_still h.power h.still).trans ?_), fun h ho => judged ((judgeActivation_still h.power h.still).trans ?_),
    fun h => judged (judgeActivation_power h), fun hb hp hm => judged (judgeActivation_moving ⟨hb, hp⟩ hm), fun h hh => ?_, fun h hh hl => ?_,
    ⟨fun hp hr hh => ⟨fun hk => ?_, fun hk ho => ?_, fun hk ho => ?_⟩, fun h => trialExpiry_passes h⟩, fun since hs => ⟨?_, ?_⟩, fun hs => ⟨?_, ?_⟩⟩
  · exact if_neg (Bool.eq_false_iff.1 ho)
  · exact if_pos ho
  · refine next_congr ((activation_due h).trans ((if_pos hh).trans ?_))
    rw [activateNow_eq]
  · refine next_congr ((activation_due h).trans ((if_neg (Bool.eq_false_iff.1 hh)).trans (if_pos hl)))
  · exact (trialExpiry_reverts hp hr hh).trans (next_congr (if_pos hk))
  · exact (trialExpiry_reverts hp hr hh).trans (next_congr ((if_neg hk).trans (if_pos ho)))
  · exact (trialExpiry_reverts hp hr hh).trans (next_congr ((if_neg hk).trans (if_neg (Bool.eq_false_iff.1 ho))))
  · exact next_congr (pairSwitchover_half hs)
  · exact pairUpdateTimeout_half hs
  · exact next_congr (pairSwitchover_none hs)
  · exact pairUpdateTimeout_none hs

end Sys2Proof.Proofs
end

section
/-! Events of the Hallway bus. -/

namespace Sys2Proof.Proofs
open Sys2Proof Sys2Proof.Machine

/-- What a change does to the port that stands there is all that counts. -/
theorem setHall_congr {s : State} {h : Nat} {f g : Hall → Hall} (e : f (hallAt s h) = g (hallAt s h)) : setHall s h f = setHall s h g := by
  have : tmod {} s.halls h f = tmod {} s.halls h g := congrArg (tset ({} : Hall) s.halls h) e
  unfold setHall
  rw [this]

theorem settleErrors_integrated {x : Hall} (h : x.integrated = true) : settleErrors x = { x with busState := errorState x.tec x.recErr } := by
  simp only [settleErrors, h, errorState, Bool.not_true, Bool.false_eq_true, if_false, Bool.or_eq_true, decide_eq_true_eq]

/-- With REFCLK the islands work. -/
theorem clocked_on {s t : State} (h : s.clock.clkFault = false) : clocked s t = t := by rw [clocked, h, if_neg Bool.false_ne_true]

theorem clocked_off {s t : State} (h : s.clock.clkFault = true) : clocked s t = s := if_pos h

section
variable {s : State} {h : Nat}

theorem integrated_of_onBus (hb : onBus s h = true) : (hallAt s h).integrated = true := by
  simp only [onBus, Bool.and_eq_true] at hb
  exact hb.1.1.2

/-! ### Reception -/

/-- REC after a frame received without error (R303). -/
def receivedRec (s : State) (h : Nat) : Nat := if 127 < (hallAt s h).recErr then 119 + fld (Config.freeWord s.free) 0 16 % 9 else (hallAt s h).recErr - 1

/-- The state once a frame has been counted. -/
def frameCounted (s : State) (h : Nat) : State :=
  setHall { s with free := s.free + 1 } h (fun x => { x with
    rxFrames := (x.rxFrames + 1) % 2 ^ 32, recErr := receivedRec s h, busState := errorState x.tec (receivedRec s h) })

theorem hallReceive_counts {fr : HallFrame} (hb : onBus s h = true) (he : (enabledFormats (hallAt s h).cfg).getLsbD fr.format = true) :
    hallReceive h fr s =
      if s.twin.role = .standby then setHall (frameCounted s h) h (fun x => { x with rxStandby := bump 16 x.rxStandby }) else
      match (hallAt (frameCounted s h) h).filters.find? (fun e => filterMatches e.2 fr) with
      | some e => if e.2.queueAction then hallEnter (frameCounted s h) h e.2.queue e.2.suite e.2.prio fr else frameCounted s h
      | none => hallEnter (frameCounted s h) h (hallDefault h (hallAt (frameCounted s h) h).cfg) 0 0 fr := by
  have count : setHall { s with free := s.free + 1 } h (fun x => settleErrors { x with
      rxFrames := (x.rxFrames + 1) % 2 ^ 32
      recErr := if 127 < x.recErr then 119 + fld (Config.freeWord s.free) 0 16 % 9 else x.recErr - 1 }) = frameCounted s h :=
    setHall_congr (settleErrors_integrated (integrated_of_onBus hb))
  unfold hallReceive
  dsimp only
  rw [hb, he, count]
  rfl

theorem hallReceive_passes {fr : HallFrame} (h' : onBus s h = false ∨ (enabledFormats (hallAt s h).cfg).getLsbD fr.format = false) :
    hallReceive h fr s = s := by
  have hb : (!onBus s h || !(enabledFormats (hallAt s h).cfg).getLsbD fr.format) = true := by
    rcases h' with h' | h' <;> rw [h']
    · rfl
    · exact Bool.or_true _
  exact if_pos hb

/-! ### Transmission -/

theorem hallTake_run {slot : Nat} {t b : State} {it : Item} {c : HallSlotCfg} (hs : settleHall s h = b) (hc : tget {} (hallAt b h).slots slot = c)
    (hm : maySend b h = true) (hq : slotQueue c ≠ 0) (ho : tlook (hallAt b h).offered slot = none) (hr : resetting b c.suite = false)
    (hw : hallWaits b h 0 = []) (ht : EngineTakes b (slotQueue c) (hallPart h) t it) :
    (hallRefusal t h c it = none → hallTake h slot s = setHall (setQueue t (slotQueue c) (fun q => { q with
      items := mapWhere (fun y => y.seq == it.seq) (fun y => { y with deliveredTo := some (.engine (hallPart h)) }) q.items })) h
      (fun x => { x with offered := tput x.offered slot (offeredOf it c) })) ∧
    (∀ st, hallRefusal t h c it = some st → hallTake h slot s =
      completeOffered (if st = stRefused .threshold then countThreshold t c.suite else t) h slot (offeredOf it c) st) := by
  obtain ⟨rfl, hh⟩ := ht
  have hb : (!maySend b h || decide (slotQueue c = 0) || (tlook (hallAt b h).offered slot).isSome || resetting b c.suite ||
      !(hallWaits b h 0).isEmpty) = false := by rw [hm, decide_eq_false hq, ho, hr, hw]; rfl
  unfold hallTake
  dsimp only
  rw [hs, hc, hb, hh]
  exact ⟨fun hn => by simp only [hn, Bool.false_eq_true, if_false], fun st hst => by simp only [hst, Bool.false_eq_true, if_false]⟩

/-- One comparison of an arbitration. -/
def beatsSoFar (best : Option (Nat × Offered)) (o : Nat × Offered) : Option (Nat × Offered) :=
  match best with
  | none => some o
  | some b => if arbitrationKey o.2.frame < arbitrationKey b.2.frame then some o else some b

theorem arbitrationWinner_eq (l : List (Nat × Offered)) : arbitrationWinner l = l.foldl beatsSoFar none := rfl

theorem foldl_beats_stays (l : List (Nat × Offered)) (o : Nat × Offered) (h : ∀ x ∈ l, arbitrationKey o.2.frame ≤ arbitrationKey x.2.frame) :
    l.foldl beatsSoFar (some o) = some o := by
  induction l with
  | nil => rfl
  | cons x xs ih =>
    obtain ⟨hx, hxs⟩ := List.forall_mem_cons.1 h
    rw [List.foldl_cons, beatsSoFar, if_neg (Nat.not_lt.2 hx), ih hxs]

theorem foldl_beats_front (l : List (Nat × Offered)) (o : Nat × Offered) (best : Option (Nat × Offered))
    (hb : ∀ b ∈ best, arbitrationKey o.2.frame < arbitrationKey b.2.frame) (h : ∀ x ∈ l, arbitrationKey o.2.frame < arbitrationKey x.2.frame) :
    ∀ b ∈ l.foldl beatsSoFar best, arbitrationKey o.2.frame < arbitrationKey b.2.frame := by
  induction l generalizing best with
  | nil => exact hb
  | cons x xs ih =>
    obtain ⟨hx, hxs⟩ := List.forall_mem_cons.1 h
    refine ih _ (fun b hm => ?_) hxs
    cases best with
    | none =>
      cases hm
      exact hx
    | some a =>
      rw [beatsSoFar] at hm
      split at hm
      · cases hm
        exact hx
      · cases hm
        exact hb _ rfl

theorem arbitrationWinner_wins {l : List (Nat × Offered)} {o : Nat × Offered} (h : WinsBus l o) : arbitrationWinner l = some o := by
  obtain ⟨front, back, rfl, hf, hb⟩ := h
  have first : beatsSoFar (front.foldl beatsSoFar none) o = some o := by
    have hall := foldl_beats_front front o none (fun b hb => by cases hb) hf
    cases hbest : front.foldl beatsSoFar none with
    | none => rfl
    | some b => exact if_pos (hall b hbest)
  rw [arbitrationWinner_eq, List.foldl_append, List.foldl_cons, first]
  exact foldl_beats_stays back o hb

theorem attemptStart_starts {ago : Nat} {o : Nat × Offered} (hm : maySend s h = true) (ha : attempting s h = none) (hw : hallWaits s h 0 = [])
    (ho : WinsBus ((hallAt s h).offered.filter (fun o => o.2.cancel.isNone && !lifetimePassed s h o.2)) o) :
    attemptStart h ago s = setHall s h (fun x => { x with
      offered := tput x.offered o.1 { o.2 with attempting := true, attempts := o.2.attempts + 1, sof := some (sofTime s h ago) } }) := by
  have hb : (!maySend s h || (attempting s h).isSome || !(hallWaits s h 0).isEmpty) = false := by rw [hm, ha, hw]; rfl
  unfold attemptStart
  dsimp only
  rw [hb, arbitrationWinner_wins ho]
  rfl

section
variable {slot : Nat} {o : Offered} (ha : attempting s h = some (slot, o))
include ha

theorem attemptEnd_unplugged {e : AttemptEnd} (hi : (hallAt s h).integrated = false) : attemptEnd h e s = settleHall (endAfterReset s h slot o e) h := by
  simp only [attemptEnd, ha, hi, Bool.not_false, if_true]

variable (hi : (hallAt s h).integrated = true)
include hi

theorem attemptEnd_success : attemptEnd h .success s = settleHall (completeOffered (setHall s h (fun x => { x with
    txFrames := (x.txFrames + 1) % 2 ^ 32, tec := x.tec - 1, busState := errorState (x.tec - 1) x.recErr })) h slot o stDone) h := by
  have count : setHall s h (fun x => settleErrors { x with txFrames := (x.txFrames + 1) % 2 ^ 32, tec := x.tec - 1 }) = setHall s h (fun x => { x with
      txFrames := (x.txFrames + 1) % 2 ^ 32, tec := x.tec - 1, busState := errorState (x.tec - 1) x.recErr }) :=
    setHall_congr (settleErrors_integrated hi)
  unfold attemptEnd
  rw [ha]
  dsimp only
  rw [hi, count]
  rfl

theorem attemptEnd_lost : attemptEnd h .arbitrationLost s =
    settleHall (afterAttempt (setHall s h (fun x => { x with arbLost := min 65535 (x.arbLost + 1) })) h slot o) h := by
  simp only [attemptEnd, ha, hi, Bool.not_true, Bool.false_eq_true, if_false, bump_16]

theorem attemptEnd_error {kind : Nat} {spared : Bool} {dominant : Nat} {p : Offered} {b : State} (hp : { o with errors := o.errors + 1 } = p)
    (hb : setHall s h (fun x => { x with
      errors := min 65535 (x.errors + 1), lastError := kind, tec := min (x.tec + transmitCount x kind spared dominant) 511
      offered := tput x.offered slot p }) = b) :
    attemptEnd h (.error kind spared dominant) s =
      settleHall (if 255 < (hallAt b h).tec then enterBusOff b h else afterAttempt (setHall b h settleErrors) h slot p) h := by
  subst hp hb
  simp only [attemptEnd, ha, hi, Bool.not_true, Bool.false_eq_true, if_false, bump_16]

end

/-! ### Lifetimes, recovery and time -/

theorem lifetimeExpiry_passes {slot : Nat} {o : Offered} (ho : tlook (hallAt s h).offered slot = some o) (ht : (hallAt s h).cfg.trunk = false)
    (h0 : o.lifetimeUs ≠ 0) (hr : reached (now s) (taddUs o.entered o.lifetimeUs) = true) :
    lifetimeExpiry h slot s = withdrawOffered s h slot { o with byLifetime := true } := by
  have hp : lifetimePassed s h o = true := by rw [lifetimePassed, ht, hr, bne_iff_ne.2 h0]; rfl
  simp only [lifetimeExpiry, ho, hp, if_true]

theorem lifetimeExpiry_stays {slot : Nat} {o : Offered} (ho : tlook (hallAt s h).offered slot = some o)
    (hs : (hallAt s h).cfg.trunk = true ∨ o.lifetimeUs = 0 ∨ reached (now s) (taddUs o.entered o.lifetimeUs) = false) : lifetimeExpiry h slot s = s := by
  have hp : lifetimePassed s h o = false := by
    rw [lifetimePassed, Bool.and_eq_false_iff, Bool.and_eq_false_iff, Bool.not_eq_false', bne_eq_false_iff_eq, or_assoc]
    exact hs
  simp only [lifetimeExpiry, ho, hp, Bool.false_eq_true, if_false]

theorem lifetimeExpiry_none {slot : Nat} (ho : tlook (hallAt s h).offered slot = none) : lifetimeExpiry h slot s = s := by
  simp only [lifetimeExpiry, ho]

theorem busOffRecovery_run (hb : (hallAt s h).busState = 2) (ho : hallOn s h = true) : busOffRecovery h s =
    if (hallAt s h).recoverDue + recoveryTicks (hallAt s h).cfg ≤ s.tick then
      raiseEvent (setHall s h (fun x => { x with busState := 0, integrated := true, tec := 0, recErr := 0 })) [0] 2 (hallUnit h) stDone [] else s := by
  unfold busOffRecovery
  dsimp only
  rw [hb, ho]
  by_cases hd : (hallAt s h).recoverDue + recoveryTicks (hallAt s h).cfg ≤ s.tick
  · rw [if_pos hd, decide_eq_false (Nat.not_lt.2 hd)]; rfl
  · rw [if_neg hd, decide_eq_true (Nat.not_le.1 hd)]; rfl

theorem integration_settles (x : Hall) :
    (if ({ x with integrated := true } : Hall).busState = 2 then { x with integrated := true } else settleErrors { x with integrated := true }) =
      { x with integrated := true, busState := if x.busState = 2 then 2 else errorState x.tec x.recErr } := by
  by_cases hb : x.busState = 2
  · rw [if_pos hb, if_pos hb, ← hb]
  · rw [if_neg hb, if_neg hb, settleErrors_integrated rfl]

theorem receiveError_counts {x : Hall} (e : RxError) (h : x.integrated = true) :
    settleErrors { x with errors := bump 16 x.errors, lastError := e.kind, recErr := satN 8 (x.recErr + receiveCount e) } =
      { x with errors := min 65535 (x.errors + 1), lastError := e.kind, recErr := min 255 (x.recErr + receiveCount e)
               busState := errorState x.tec (min 255 (x.recErr + receiveCount e)) } := by
  have sat : satN 8 (x.recErr + receiveCount e) = min 255 (x.recErr + receiveCount e) := Nat.min_comm _ _
  have joined : ({ x with errors := bump 16 x.errors, lastError := e.kind, recErr := satN 8 (x.recErr + receiveCount e) } : Hall).integrated = true := h
  rw [settleErrors_integrated joined, bump_16, sat]

theorem recordPair_records {group : Nat} (h : ∀ p, (tget [] s.hallPairs group).head? = some p → p.tick + 125000 ≤ s.tick) :
    recordPair group s = { s with hallPairs := (tset [] s.hallPairs group
      (({ count := islandCount s, time := now s, tick := s.tick, recorded := true } :: tget [] s.hallPairs group).take 64)) } := by
  unfold recordPair
  dsimp only
  cases hp : tget [] s.hallPairs group with
  | nil => rfl
  | cons p ps =>
    rw [hp] at h
    exact if_neg (Nat.not_lt.2 (h p rfl))

theorem recordPair_waits {group : Nat} {p : HallPair} (hp : (tget [] s.hallPairs group).head? = some p) (ht : s.tick < p.tick + 125000) :
    recordPair group s = s := by
  unfold recordPair
  dsimp only
  rw [hp]
  exact if_pos ht

end

/-- Settles O51: with REFCLK each event runs as its function says; without it the islands stand still. -/
theorem hallwayEvents : Obligations.HallwayEvents := by
  intro s h
  refine ⟨fun hc fr slot e re group n => ?_, fun hc => ⟨fun fr hb he => ?_, fun fr hb => ?_, fun slot t it => ?_, fun ago o hm ha hw ho => ?_,
    fun ago hm => ?_, fun slot o ha => ?_, fun e ha => ?_, fun slot o ho => ⟨fun ht h0 hr => ?_, fun hs => ?_⟩, fun slot ho => ?_, fun hb ho => ?_,
    fun ho ht => ?_, fun e hb => ?_, fun hb => ?_, fun group => ?_⟩⟩
  · simp only [List.forall_mem_cons]
    exact ⟨next_congr (clocked_off hc), next_congr (clocked_off hc), next_congr (clocked_off hc), next_congr (clocked_off hc),
      next_congr (clocked_off hc), next_congr (clocked_off hc), next_congr (clocked_off hc), next_congr (clocked_off hc), next_congr (clocked_off hc),
      next_congr (clocked_off hc), List.forall_mem_nil _⟩
  · refine ⟨receivedRec s h, fun hr => if_neg (Nat.not_lt.2 hr), fun hr => ?_, fun hr => ?_, fun f hr hf => ?_, fun hr hf => ?_⟩
    · rw [receivedRec, if_pos hr]
      omega
    · exact next_congr ((clocked_on hc).trans ((hallReceive_counts hb he).trans (if_pos hr)))
    · refine next_congr ((clocked_on hc).trans ((hallReceive_counts hb he).trans ((if_neg hr).trans ?_)))
      rw [show (hallAt (frameCounted s h) h).filters.find? (fun e => filterMatches e.2 fr) = some f from hf]
      rfl
    · refine next_congr ((clocked_on hc).trans ((hallReceive_counts hb he).trans ((if_neg hr).trans ?_)))
      rw [show (hallAt (frameCounted s h) h).filters.find? (fun e => filterMatches e.2 fr) = none from hf]
      rfl
  · exact next_congr ((clocked_on hc).trans (hallReceive_passes hb))
  · intro b c qn hm hq ho hr hw ht
    obtain ⟨htaken, hrefused⟩ := hallTake_run rfl rfl hm hq ho hr hw ht
    exact ⟨fun hn => next_congr ((clocked_on hc).trans (htaken hn)), fun st hst => next_congr ((clocked_on hc).trans (hrefused st hst))⟩
  · exact next_congr ((clocked_on hc).trans (attemptStart_starts hm ha hw ho))
  · exact next_congr ((clocked_on hc).trans (if_pos (by rw [hm]; rfl)))
  · refine ⟨fun hi => ⟨?_, ?_, fun kind spared dominant => ?_⟩, fun hi => ⟨?_, fun e he => ?_⟩⟩
    · exact next_congr ((clocked_on hc).trans (attemptEnd_success ha hi))
    · exact next_congr ((clocked_on hc).trans (attemptEnd_lost ha hi))
    · exact next_congr ((clocked_on hc).trans (attemptEnd_error ha hi rfl rfl))
    · exact next_congr ((clocked_on hc).trans (attemptEnd_unplugged ha hi))
    · refine next_congr ((clocked_on hc).trans ((attemptEnd_unplugged ha hi).trans ?_))
      rw [endAfterReset, if_neg he]
  · refine next_congr ((clocked_on hc).trans ?_)
    simp only [attemptEnd, ha]
  · exact next_congr ((clocked_on hc).trans (lifetimeExpiry_passes ho ht h0 hr))
  · exact next_congr ((clocked_on hc).trans (lifetimeExpiry_stays ho hs))
  · exact next_congr ((clocked_on hc).trans (lifetimeExpiry_none ho))
  · exact next_congr ((clocked_on hc).trans (busOffRecovery_run hb ho))
  · refine next_congr ((clocked_on hc).trans ?_)
    rw [ho, ht, if_neg (by decide)]
    exact setHall_congr (integration_settles _)
  · refine next_congr ((clocked_on hc).trans ?_)
    rw [hb, if_neg (by decide)]
    exact setHall_congr (receiveError_counts e (integrated_of_onBus hb))
  · refine next_congr ((clocked_on hc).trans ?_)
    rw [hb, Bool.true_and]
  · exact ⟨fun hp => next_congr ((clocked_on hc).trans ((if_pos rfl).trans (recordPair_records hp))),
      fun p hp ht => next_congr ((clocked_on hc).trans ((if_pos rfl).trans (recordPair_waits hp ht))),
      fun n hn => next_congr ((clocked_on hc).trans (if_neg hn))⟩

end Sys2Proof.Proofs
end

section
/-! Mirror deltas of a pair: shipped, applied and confirmed. -/

namespace Sys2Proof.Proofs
open Sys2Proof Sys2Proof.Machine

section
variable {s : State}

theorem ticks_1 : ticksMs 1 = 125000 := by decide

theorem ticksUs_eq (us : Nat) : ticksUs us = 125 * us := Nat.mul_comm us 125

/-! ### Shipping -/

theorem shipDue_eq : shipDue s = if followed s = false then s else
    match s.twin.commitAt with
    | some c => if commitsDue s = true then s else shipWaiting s c
    | none => if s.twin.lastShipTick + 125000 ≤ s.tick then shipWaiting s (now s) else s := by
  unfold shipDue
  rw [ticks_1]
  cases followed s <;> rfl

/-! ### Applying -/

section
variable {d : Delta}

theorem applyDelta_early (h : d.snapshot = false) (hs : s.twin.snapshotSeen = false) : applyDelta d s = s := by
  rw [applyDelta, h, hs]
  rfl

theorem applyDelta_gap (h : d.snapshot = false) (hs : s.twin.snapshotSeen = true) (hf : ¬Follows s d) : applyDelta d s = fallOut s := by
  have gap : (d.dseq % 2 ^ 32 != (s.twin.dseqLast + 1) % 2 ^ 32 || overfills s d) = true := by
    by_contra hb
    rw [Bool.not_eq_true, Bool.or_eq_false_iff, bne_eq_false_iff_eq] at hb
    exact hf hb
  rw [applyDelta, h, hs, gap]
  rfl

/-- A delta that a standby can take: a snapshot's, or the next one after it. -/
def CanApply (s : State) (d : Delta) : Prop := d.snapshot = true ∨ s.twin.snapshotSeen = true ∧ Follows s d

theorem applyDelta_takes (h : CanApply s d) : applyDelta d s =
    if d.prepared then (if knownEntries d then Machine.confirmed d (storePrepared d s) else fallOut s)
    else match applyEntries applyConfig false d.at80 d.entries (if opensSnapshot d s then clearMirrored s else s) with
      | none => fallOut s
      | some u => Machine.confirmed d u := by
  have early : (!d.snapshot && !s.twin.snapshotSeen) = false := by
    rcases h with h | ⟨h, -⟩ <;> rw [h]
    · rfl
    · exact Bool.and_false _
  have gap : (!d.snapshot && (d.dseq % 2 ^ 32 != (s.twin.dseqLast + 1) % 2 ^ 32 || overfills s d)) = false := by
    rcases h with h | ⟨-, hd, ho⟩
    · rw [h]; rfl
    · rw [hd, ho, bne_self_eq_false, Bool.or_false, Bool.and_false]
  rw [applyDelta, early, gap]
  rfl

theorem deltaBase_eq : (if opensSnapshot d s then clearMirrored s else s) = deltaBase s d := by
  simp only [deltaBase, opensSnapshot, Bool.and_eq_true, bne_iff_ne]

theorem applyDelta_prepared (h : CanApply s d) (hp : d.prepared = true) :
    applyDelta d s = if knownEntries d then Machine.confirmed d (storePrepared d s) else fallOut s := (applyDelta_takes h).trans (if_pos hp)

theorem applyDelta_broken (h : CanApply s d) (hp : d.prepared = false)
    (ha : applyEntries applyConfig false d.at80 d.entries (deltaBase s d) = none) : applyDelta d s = fallOut s := by
  rw [applyDelta_takes h, hp, deltaBase_eq, ha]
  rfl

theorem applyDelta_applied {u : State} (h : CanApply s d) (hp : d.prepared = false)
    (ha : applyEntries applyConfig false d.at80 d.entries (deltaBase s d) = some u) : applyDelta d s = Machine.confirmed d u := by
  rw [applyDelta_takes h, hp, deltaBase_eq, ha]
  rfl

end

section
variable {x : DeltaItems}

theorem deltaArrives_lost (h : x.intact = false ∨ landingDown s = true) : deltaArrives x s = s := by
  refine if_pos ?_
  rcases h with h | h <;> rw [h]
  · rfl
  · exact Bool.or_true _

variable (hx : x.intact = true) (hl : landingDown s = false)
include hx hl

theorem deltaArrives_standby {d : Delta} (hr : s.twin.role = .standby) (hd : readDelta x.items = some d) : deltaArrives x s = applyDelta d s := by
  simp only [deltaArrives, hx, hl, hr, hd, Bool.not_true, Bool.or_self, Bool.false_eq_true, if_false]

theorem deltaArrives_unread (hr : s.twin.role = .standby) (hd : readDelta x.items = none) : deltaArrives x s = fallOut s := by
  simp only [deltaArrives, hx, hl, hr, hd, Bool.not_true, Bool.or_self, Bool.false_eq_true, if_false]

theorem deltaArrives_active {d : Delta} (hr : s.twin.role = .active) (hd : readDelta x.items = some d) : deltaArrives x s = takeOutcomes d s := by
  simp only [deltaArrives, hx, hl, hr, hd, Bool.not_true, Bool.or_self, Bool.false_eq_true, if_false]

theorem deltaArrives_active_unread (hr : s.twin.role = .active) (hd : readDelta x.items = none) : deltaArrives x s = s := by
  simp only [deltaArrives, hx, hl, hr, hd, Bool.not_true, Bool.or_self, Bool.false_eq_true, if_false]

theorem deltaArrives_other (hs : s.twin.role ≠ .standby) (ha : s.twin.role ≠ .active) : deltaArrives x s = s := by
  unfold deltaArrives
  rw [hx, hl]
  refine (if_neg (by decide)).trans ?_
  split
  · exact absurd ‹_› hs
  · exact absurd ‹_› hs
  · exact absurd ‹_› ha
  · rfl

end

/-! ### Confirmations -/

theorem confirmationTaken_twin (x : Shipped) : (confirmationTaken s x).twin = { s.twin with
    shipped := s.twin.shipped.filter (fun y => y.dseq != x.dseq)
    dseqLast := x.dseq, confirmMax := max s.twin.confirmMax (min 65535 ((s.tick - x.tick) / 125)) } := by
  unfold confirmationTaken
  dsimp only
  cases x.prepared <;> rfl

theorem confirmationTaken_eq (x : Shipped) : confirmCycle (setTwin s (fun t => { t with
      shipped := t.shipped.filter (fun y => y.dseq != x.dseq)
      dseqLast := x.dseq, confirmMax := max t.confirmMax (satN 16 ((s.tick - x.tick) / 125)) })) x.prepared = confirmationTaken s x := by
  have sat : satN 16 ((s.tick - x.tick) / 125) = min 65535 ((s.tick - x.tick) / 125) := Nat.min_comm _ _
  unfold confirmationTaken
  dsimp only
  rw [sat]
  cases x.prepared with
  | none => rfl
  | some e => simp only [confirmCycle, Bool.and_eq_true, beq_iff_eq]; rfl

section
variable {n : Nat} {x : Shipped} (h : s.twin.shipped.find? (fun y => y.dseq == n) = some x)
include h

theorem confirmDelta_run : confirmDelta n s =
    if (!x.snapshot && decide (ticksUs s.twin.mUs < s.tick - x.tick)) = true then
      (if s.twin.inStep then synchronise (setTwin (confirmationTaken s x) (fun t => { t with mirrorLate := bump 16 t.mirrorLate }))
        else setTwin (confirmationTaken s x) (fun t => { t with mirrorLate := bump 16 t.mirrorLate }))
    else if (s.twin.syncing && (x.snapshot || s.twin.snapshotSeen)) = true then
      setTwin (confirmationTaken s x) (fun t => { t with syncing := false, inStep := true, inStepCount := 0, inStepTick := (confirmationTaken s x).tick })
    else if s.twin.inStep then setTwin (confirmationTaken s x) (fun t => { t with inStepCount := bump 16 t.inStepCount })
    else confirmationTaken s x := by
  obtain rfl : x.dseq = n := beq_iff_eq.1 (List.find?_some h :)
  have same := confirmationTaken_twin (s := s) x
  unfold confirmDelta
  rw [h]
  dsimp only
  rw [confirmationTaken_eq]
  simp only [setTwin, same, loseStep]

end

theorem late_iff (x : Shipped) : (!x.snapshot && decide (ticksUs s.twin.mUs < s.tick - x.tick)) = true ↔ ConfirmedLate s x := by
  rw [Bool.and_eq_true, Bool.not_eq_true', decide_eq_true_eq, ticksUs_eq]
  rfl

theorem confirmDelta_none {n : Nat} (h : ∀ x ∈ s.twin.shipped, x.dseq ≠ n) : confirmDelta n s = s := by
  have : s.twin.shipped.find? (fun y => y.dseq == n) = none := List.find?_eq_none.2 (fun x hx => by simpa using h x hx)
  simp only [confirmDelta, this]

theorem confirmationLate_iff (n : Nat) : s.twin.shipped.any (fun x => x.dseq == n && !x.snapshot && ticksUs s.twin.mUs < s.tick - x.tick) = true ↔
    ∃ x ∈ s.twin.shipped, x.dseq = n ∧ ConfirmedLate s x := by
  rw [List.any_eq_true]
  simp only [Bool.and_assoc, Bool.and_eq_true, beq_iff_eq]
  refine exists_congr (fun x => and_congr_right fun _ => and_congr_right fun _ => ?_)
  rw [← late_iff, Bool.and_eq_true]

/-! ### Prepared cycles -/

theorem preparedDue_due {n k : Nat} {p : Prepared} (hr : s.twin.role = .standby)
    (hp : s.twin.prepared.find? (fun x => x.suite == n && x.task == k && reached (now s) x.commit) = some p) :
    preparedDue n k s = applyPrepared (fun _ _ s => s) s p := by
  simp only [preparedDue, hp, hr, if_true]

theorem preparedDue_passes {n k : Nat}
    (h : s.twin.role ≠ .standby ∨ s.twin.prepared.find? (fun x => x.suite == n && x.task == k && reached (now s) x.commit) = none) :
    preparedDue n k s = s := by
  unfold preparedDue
  rcases h with h | h
  · split
    · exact if_neg h
    · rfl
  · rw [h]

end

/-- Settles O55: a delta is shipped, taken and confirmed by the cases of each event's function. -/
theorem mirrorDeltas : Obligations.MirrorDeltas := by
  intro s
  refine ⟨next_congr shipDue_eq, fun at80 => rfl, fun x d hx hl hr hd => ?_,
    fun x hx hl => ⟨fun hr hd => ?_, fun hr d hd => ?_, fun hr hd => ?_, fun hs ha => ?_⟩, fun x h => next_congr (deltaArrives_lost h), fun n x hx => ?_,
    fun n h => next_congr (confirmDelta_none h), fun n => ⟨fun h hs => ?_, fun h => ?_⟩, fun n k => ⟨fun p hr hp => ?_, fun h => ?_⟩⟩
  · have applies : ∀ u, applyDelta d s = u → exec (.deltaApply x) s = .next u := fun u hu =>
      next_congr ((deltaArrives_standby hx hl hr hd).trans hu)
    refine ⟨fun h h' => applies _ (applyDelta_early h h'), fun h h' hf => applies _ (applyDelta_gap h h' hf),
      fun ht => ⟨fun hp hk => ?_, fun hp hk => ?_, fun hp ha => ?_, fun hp u ha => ?_⟩⟩
    · exact applies _ ((applyDelta_prepared ht hp).trans (if_pos hk))
    · exact applies _ ((applyDelta_prepared ht hp).trans (if_neg (Bool.eq_false_iff.1 hk)))
    · exact applies _ (applyDelta_broken ht hp ha)
    · exact applies _ (applyDelta_applied ht hp ha)
  · exact next_congr (deltaArrives_unread hx hl hr hd)
  · exact next_congr (deltaArrives_active hx hl hr hd)
  · exact next_congr (deltaArrives_active_unread hx hl hr hd)
  · exact next_congr (deltaArrives_other hx hl hs ha)
  · refine ⟨fun hl => next_congr ((confirmDelta_run hx).trans ((if_pos ((late_iff x).2 hl)).trans ?_)),
      fun hl hs hor => next_congr ((confirmDelta_run hx).trans ((if_neg (hl ∘ (late_iff x).1)).trans (if_pos ?_))),
      fun hl hs => next_congr ((confirmDelta_run hx).trans ((if_neg (hl ∘ (late_iff x).1)).trans ((if_neg ?_).trans ?_)))⟩
    · simp only [bump_16]
      rfl
    · rw [hs, Bool.true_and, Bool.or_eq_true]
      exact hor
    · rw [Bool.not_eq_true, Bool.and_eq_false_iff, Bool.or_eq_false_iff]
      exact hs
    · simp only [bump_16]
      rfl
  · exact next_congr (if_pos (by rw [hs, (confirmationLate_iff n).2 h]; rfl))
  · refine next_congr (if_neg ?_)
    rw [Bool.and_eq_true, confirmationLate_iff]
    rintro ⟨hs, x, hx, hn, hl⟩
    rcases h with h | h
    · exact h x hx hn hl
    · rw [h] at hs
      cases hs
  · refine next_congr ((preparedDue_due hr hp).trans ?_)
    rw [applyPrepared]
    split
    next u hu => exact congrArg (Option.getD · _) hu
    next hu => exact congrArg (Option.getD · _) hu
  · exact next_congr (preparedDue_passes h)

end Sys2Proof.Proofs
end

section
/-! Resets, power failure, the start sequence and the test access port. -/

namespace Sys2Proof.Proofs
open Sys2Proof Sys2Proof.Machine

section
variable {s : State}

/-! ### Resets that are asked for -/

theorem requestReset_eq (s : State) (cls : ResetClass) (cause : Nat) : requestReset s cls cause = resetAsked s cls cause := by
  have ranked : ResetClass.rank cls ≤ ResetClass.rank s.boot.lastClass ↔ s.boot.lastClass = .p ∨ s.boot.lastClass = cls ∨ cls = .w := by
    cases cls <;> cases s.boot.lastClass <;> decide
  simp only [requestReset, resetAsked, resetUnderWay, Bool.and_eq_true, Bool.or_eq_true, beq_iff_eq, decide_eq_true_eq, ranked]

theorem powerFail_eq : powerFail s =
    let low := { s with boot := { s.boot with pfailLow := true } }
    let c := saveMeter { low with journal := { s.journal with staging := [], written := s.journal.written ++ s.journal.staging } }
    let d := if c.attic.persistEn = true then copyRecords c ((toCopy c).take 64) [] else c
    if s.boot.phase ≠ .running then low else { d with boot := { d.boot with cleanStop := true } } := rfl

/-! ### The start sequence -/

theorem setUpdate_kept (s : State) (kind n : Nat) (f : Update → Update) : Kept s (setUpdate s kind n f) :=
  ⟨rfl, rfl, rfl, rfl, rfl, rfl, rfl, rfl, rfl, rfl, rfl, rfl, rfl, rfl, rfl⟩

theorem endTrials_kept (s : State) : Kept s (endTrials s) := Kept.foldl (fun t _ => .ite (setUpdate_kept t _ _ _) .rfl) _ _

theorem noteMarginal_boot (s : State) (m : Bool) : (noteMarginal s m).boot = s.boot := by
  unfold noteMarginal
  split
  · exact (raiseEvent_kept _ _ _ _ _ _).boot
  · rfl

theorem foldl_noteMarginal_boot (l : List Bool) (s : State) : (l.foldl noteMarginal s).boot = s.boot := by
  induction l generalizing s with
  | nil => rfl
  | cons m l ih => exact (ih _).trans (noteMarginal_boot s m)

theorem settleFuses_boot (s : State) (rd : FuseReads) : (settleFuses s rd).boot = s.boot := foldl_noteMarginal_boot _ _

/-- The state with the results of the built-in tests, before what they report. -/
def testsNoted (b : BootEnv) (s : State) : State :=
  { s with boot := { s.boot with
    coreFail := b.coreFail, m0Fail := b.m0Fail, m1Fail := b.m1Fail, memFail := s.boot.lastClass != .w && b.memFail || s.boot.memFail
    laneFail := !b.laneFail.isEmpty, linkFail := !b.linkFail.isEmpty } }

theorem outside_kept {s t : State} (h : t = { s with lanesOut := t.lanesOut, links := t.links, rooms := t.rooms }) : Kept s t := by
  rw [h]
  exact ⟨rfl, rfl, rfl, rfl, rfl, rfl, rfl, rfl, rfl, rfl, rfl, rfl, rfl, rfl, rfl⟩

theorem builtInTests_kept (b : BootEnv) (s : State) : Kept (testsNoted b s) (builtInTests b s) := by
  unfold builtInTests
  refine Kept.trans ?_ (Kept.foldl (fun t r => ?_) _ _)
  · refine Kept.trans ?_ (Kept.foldl (fun t l => ?_) _ _)
    · refine Kept.trans ?_ (Kept.foldl (fun t l => ?_) _ _)
      · refine Kept.trans ?_ (.ite (raiseEvent_kept _ _ _ _ _ _) .rfl)
        refine Kept.trans ?_ (.ite (raiseEvent_kept _ _ _ _ _ _) .rfl)
        exact Kept.foldl (fun t k => raiseEvent_kept t _ _ _ _ _) _ _
      · exact (outside_kept rfl).trans (raiseEvent_kept _ _ _ _ _ _)
    · exact ((outside_kept rfl).trans (setUnitStat_kept _ _ _)).trans (raiseEvent_kept _ _ _ _ _ _)
  · exact ((outside_kept rfl).trans (setUnitStat_kept _ _ _)).trans (raiseEvent_kept _ _ _ _ _ _)

theorem builtInTests_memFail (b : BootEnv) (s : State) :
    (builtInTests b s).boot.memFail = (s.boot.lastClass != .w && b.memFail || s.boot.memFail) :=
  congrArg Boot.memFail (builtInTests_kept b s).boot

theorem firmwareSought_memFail (b : BootEnv) (s : State) :
    (firmwareSought b s).boot.memFail = (s.boot.lastClass != .w && b.memFail || s.boot.memFail) := by
  unfold firmwareSought
  dsimp only
  rw [builtInTests_memFail, settleFuses_boot, (endTrials_kept _).boot]
  split <;> rfl

theorem startSequence_run {b : BootEnv} (hp : s.boot.phase = .held) (hh : s.tap.holding = false) (hr : b.refclkOk = true) (hl : s.boot.pfailLow = false) :
    startSequence b s = if (firmwareSought b s).boot.memFail || (b.m0Fail && b.m1Fail) then enterRecovery (firmwareSought b s)
      else match bootFirmware (firmwareSought b s) with
        | none => enterRecovery (firmwareSought b s)
        | some t => startModule t (warmRestart s) := by
  have sat : satN 16 b.bootMs = min 65535 b.bootMs := Nat.min_comm _ _
  unfold startSequence
  dsimp only
  rw [hp, hh, hr, hl, sat]
  rfl

/-- The built-in tests found what keeps the module from starting. -/
def TestsFail (b : BootEnv) (s : State) : Prop :=
  s.boot.memFail = true ∨ (s.boot.lastClass ≠ .w ∧ b.memFail = true) ∨ (b.m0Fail = true ∧ b.m1Fail = true)

theorem testsFail_iff (b : BootEnv) (s : State) : ((firmwareSought b s).boot.memFail || (b.m0Fail && b.m1Fail)) = true ↔ TestsFail b s := by
  rw [firmwareSought_memFail, Bool.or_eq_true, Bool.or_eq_true, Bool.and_eq_true, Bool.and_eq_true, bne_iff_ne]
  rw [or_comm (b := s.boot.memFail = true), or_assoc]
  rfl

theorem startSequence_passes {b : BootEnv} (h : s.boot.phase ≠ .held ∨ s.tap.holding = true ∨ b.refclkOk = false) : startSequence b s = s := by
  refine if_pos ?_
  rw [Bool.or_eq_true, Bool.or_eq_true, decide_eq_true_eq, Bool.not_eq_true', or_assoc]
  exact h

/-! ### The test access port -/

theorem tapRegister_eq (i : TapInstr) : tapRegister s i = (tapWidth s i, tapCapture s i) := by cases i <;> rfl

theorem loadTap_passing {i j : TapInstr} (h : tapActs s i = j) (hj : TapInstr.holds j = false) :
    loadTap s i = if s.tap.holding = true then resetAsked (tapLoaded s s j false) .c 8 else tapLoaded s s j false := by
  unfold loadTap
  dsimp only
  rw [h, hj, tapRegister_eq, if_neg Bool.false_ne_true, requestReset_eq]
  rfl

theorem loadTap_holding {i : TapInstr} (h : tapActs s i = i) (hj : TapInstr.holds i = true) :
    loadTap s i = tapLoaded s (if s.tap.holding = true then s else resetAsked s .c 8) i true := by
  unfold loadTap
  dsimp only
  rw [h, hj, tapRegister_eq, if_pos rfl, requestReset_eq]
  cases s.tap.holding <;> rfl

theorem tapActs_field {i : TapInstr} (hi : TapInstr.holds i = true) (hl : s.cellar.lifecycle = 3) : tapActs s i = .bypass := by
  rw [tapActs, hi, hl]
  rfl

theorem tapActs_other {i : TapInstr} (h : TapInstr.holds i = false ∨ s.cellar.lifecycle ≠ 3) : tapActs s i = i := by
  have hb : (TapInstr.holds i && s.cellar.lifecycle == 3) = false := by
    rw [Bool.and_eq_false_iff, beq_eq_false_iff_ne]
    exact h
  exact if_neg (Bool.eq_false_iff.1 hb)

end

/-- Settles O57: a reset that is asked for, the steps of the start sequence, and one rule for the passing and one for the holding instructions. -/
theorem resetAndStart : Obligations.ResetAndStart := by
  intro s
  refine ⟨next_congr (requestReset_eq s _ _), fun ns => ?_, ?_, ?_, rfl, fun b hp hh hr hl => ⟨fun hb => ?_, fun hb => ?_⟩, fun b hp hh hr hl => ?_,
    fun b h => ?_, ?_, fun capture update => ?_, ?_, ?_⟩
  · exact next_congr (by rw [requestReset_eq])
  · exact next_congr (by rw [requestReset_eq])
  · refine next_congr ?_
    rw [powerFail_eq]
  · exact next_congr ((startSequence_run hp hh hr hl).trans (if_pos ((testsFail_iff b s).2 hb)))
  · have run := (startSequence_run hp hh hr hl).trans (if_neg (hb ∘ (testsFail_iff b s).1))
    split
    next hf => exact next_congr (run.trans (by rw [show bootFirmware (firmwareSought b s) = none from hf]))
    next t hf => exact next_congr (run.trans (by rw [show bootFirmware (firmwareSought b s) = some t from hf]))
  · refine next_congr ?_
    rw [startSequence, hp, hh, hr, hl]
    rfl
  · exact next_congr (startSequence_passes h)
  · simp only [List.forall_mem_cons]
    exact ⟨next_congr (loadTap_passing (tapActs_other (.inl rfl)) rfl), next_congr (loadTap_passing (tapActs_other (.inl rfl)) rfl),
      next_congr (loadTap_passing (tapActs_other (.inl rfl)) rfl), next_congr (loadTap_passing (tapActs_other (.inl rfl)) rfl), List.forall_mem_nil _⟩
  · exact next_congr (loadTap_passing (tapActs_other (.inl rfl)) rfl)
  · have rows : ∀ {i : TapInstr} {x : Instr}, TapInstr.holds i = true → exec x s = .next (loadTap s i) →
        (s.cellar.lifecycle = 3 → exec x s = .next (if s.tap.holding = true then resetAsked (tapLoaded s s .bypass false) .c 8
          else tapLoaded s s .bypass false)) ∧
        (s.cellar.lifecycle ≠ 3 → exec x s = .next (tapLoaded s (if s.tap.holding = true then s else resetAsked s .c 8) i true)) :=
      fun hi hx => ⟨fun hl => hx.trans (next_congr (loadTap_passing (tapActs_field hi hl) rfl)),
        fun hl => hx.trans (next_congr (loadTap_holding (tapActs_other (.inr hl)) hi))⟩
    simp only [List.forall_mem_cons]
    exact ⟨rows rfl rfl, rows rfl rfl, rows rfl rfl, rows rfl rfl, rows rfl rfl, List.forall_mem_nil _⟩
  · refine next_congr ?_
    rw [loadTap_passing (tapActs_other (.inl rfl)) rfl]
    cases s.tap.holding <;> rfl

end Sys2Proof.Proofs
end

section
/-! Events of the house die's fabric. -/

namespace Sys2Proof.Proofs
open Sys2Proof Sys2Proof.Machine

section
variable {s : State}

/-! ### The pace monitor -/

theorem paceUpdate_eq (steps : Nat) (tj : Int) (x : Room) : paceUpdate steps tj x = pacedRoom steps tj x := by
  simp only [paceUpdate, pacedRoom, paceOf, tjCode, satN, bump, Nat.min_comm _ (2 ^ 16 - 1), Bool.decide_or, Bool.decide_and,
    Bool.decide_eq_true, Bool.or_assoc]
  rfl

/-- A condition that rises is one that was not there before. -/
theorem ite_rises {α : Type} (new old : Bool) (x y : α) :
    (if new && !old then x else y) = if new = true ∧ old = false then x else y := by
  cases new <;> cases old <;> rfl

/-! ### Tokens of the die links -/

/-- A token's errors count on a link that is up (R14). -/
theorem tokenError_up {l bits : Nat} (hl : l ≤ 4) (hd : (tget {} s.links l).down = false) (hb : bits ≠ 0) :
    tokenError l bits s =
      if bits = 1 then setDieLink s l (fun x => { x with corrected := x.corrected + 1, failedReplays := 0 })
      else if (tget {} s.links l).failedReplays < 3 then setDieLink s l (fun x => { x with failedReplays := x.failedReplays + 1 })
      else declareDown s l :=
  if_neg (by simp only [dieLinkDown, hd, Bool.or_false, Bool.or_eq_true, decide_eq_true_eq, hb, or_false]; omega)

theorem tokenError_down {l bits : Nat} (hd : (tget {} s.links l).down = true) : tokenError l bits s = s :=
  if_pos (by rw [dieLinkDown, hd, Bool.or_true, Bool.true_or])

/-- A wing's link that goes down takes its ports with it, and the frames on their way over it (R30). -/
theorem wingDown_eq (l : Nat) : wingDown s l =
    (rangeFrom (48 * l) 48).foldl (fun s p => dropLink s p 0) { s with
      links := tmod {} s.links l (fun x => { x with framesLost := x.framesLost + (s.sw.ingress.filter (fun f => f.port / 48 = l)).length })
      sw := { s.sw with ingress := s.sw.ingress.filter (fun f => ¬ f.port / 48 = l) } } := by
  simp only [wingDown, setDieLink, decide_not]

/-! ### Copies of house time -/

theorem alignCopy_up {d : Nat} (hd : d ≤ 4) (hu : (tget {} s.links d).down = false) :
    alignCopy d s =
      if (copyAt s d).stale = true then
        setUnitStat { s with
          copies := tset {} s.copies d { alignedAt := s.tick }
          links := tmod {} s.links d (fun x => { x with failedReplays := 0 }) } (linkUnit d) (fun u => { u with state := 2, fault := false })
      else { s with
          copies := tset {} s.copies d { alignedAt := s.tick }
          links := tmod {} s.links d (fun x => { x with failedReplays := 0 }) } :=
  if_neg (by simp only [dieLinkDown, hu, Bool.or_false, decide_eq_true_eq]; omega)

theorem ticks_4 : ticksMs 4 = 500000 := by decide

theorem loseAlignment_fresh {d : Nat} (hd : d ≤ 4) (hf : (copyAt s d).stale = false) (hr : s.boot.phase = .running) :
    loseAlignment d s = if (copyAt s d).alignedAt + 500000 ≤ s.tick then
      linkFault { s with copies := tmod {} s.copies d (fun x => { x with stale := true }) } d else s := by
  have hb : (decide (4 < d) || (copyAt s d).stale || decide (s.boot.phase ≠ .running) || decide (s.tick < (copyAt s d).alignedAt + ticksMs 4))
      = decide (s.tick < (copyAt s d).alignedAt + 500000) := by
    rw [decide_eq_false (Nat.not_lt.2 hd), hf, hr, ticks_4]
    rfl
  unfold loseAlignment
  rw [hb]
  by_cases h : (copyAt s d).alignedAt + 500000 ≤ s.tick
  · rw [if_pos h, decide_eq_false (Nat.not_lt.2 h), if_neg Bool.false_ne_true]
  · rw [if_neg h, decide_eq_true (Nat.not_le.1 h), if_pos rfl]

/-! ### REFCLK and the Stairwell -/

theorem refclkFails_first (h : s.clock.clkFault = false) : refclkFails s =
    setUnitStat { s with
      clock := { s.clock with clkFault := true }
      mantel := if s.mantel.trimSrc = 1 then { s.mantel with window := none } else s.mantel } clockUnit
      (fun u => { u with state := 7, fault := true, faultCount := bump 16 u.faultCount }) := by
  have trim : abandonTrim (setClock s (fun k => { k with clkFault := true })) 1 = { s with
      clock := { s.clock with clkFault := true }
      mantel := if s.mantel.trimSrc = 1 then { s.mantel with window := none } else s.mantel } := by
    by_cases ht : s.mantel.trimSrc = 1
    · rw [abandonTrim, if_pos (show (setClock s (fun k => { k with clkFault := true })).mantel.trimSrc = 1 from ht), if_pos ht]
      rfl
    · rw [abandonTrim, if_neg (show ¬ (setClock s (fun k => { k with clkFault := true })).mantel.trimSrc = 1 from ht), if_neg ht]
      rfl
  rw [refclkFails, h, if_neg Bool.false_ne_true]
  dsimp only
  rw [trim]
  rfl

/-- A stalled request's lane leaves service, and its requester is told (R30). -/
theorem execStallTimeout_on {station lane : Nat} {who : Requester} (hs : station ≤ 15) (hc : s.clock.clkFault = false) :
    exec (.stallTimeout station lane who) s = .next (abandonRequest
      (if s.lanesOut.contains (station, lane) = true then s else { s with lanesOut := s.lanesOut ++ [(station, lane)] }) who) :=
  next_congr ((clocked_on hc).trans (if_neg (Nat.not_lt.2 hs)))

theorem abandonRequest_cfg {c : Nat} {r : CfgReq} (h : headRequest s c = some r) :
    abandonRequest s (.cfg c) = finishCfg r { s := takeRequest s r, st := stFault .link } := by
  simp only [abandonRequest, h]

theorem abandonRequest_key {n : Nat} {r : KeyReq} (h : s.cellar.reqs.find? (fun x => x.suite == n) = some r) :
    abandonRequest s (.key n) =
      completeKey { s with cellar := { s.cellar with reqs := eraseFirst (fun x => x == r) s.cellar.reqs } } r (stFault .link) 0 := by
  simp only [abandonRequest, h]

theorem abandonRequest_command {q : CmdQueue} {c : Cmd} (h : headCommand s q = some c) :
    abandonRequest s (.command q) = finishCommand c ((resolve s c.target).map targetUnit) { s := takeCommand s c, st := stFault .link } := by
  simp only [abandonRequest, h]

end

/-- Settles O42: each event is the function of its section of the model on a link, copy or room that is in range, and nothing where REFCLK is lost. -/
theorem fabricEvents : Obligations.FabricEvents := by
  intro s
  refine ⟨fun room steps tj hr hc => ?_, fun l bits hl hd => ⟨fun hb => ?_, fun hb hf => ?_, fun hb hf => ?_⟩, fun l bits hd => ?_,
    fun d hd hu hc => ?_, fun d hd hf hr => ?_, fun hc => ?_, fun hc => ⟨?_, fun _ _ _ => ?_, fun _ => ?_, fun _ _ _ => ?_⟩,
    fun station lane hs hc => ⟨?_, fun c => ?_, fun c r h => ?_, fun n r h => ?_, fun q c h => ?_⟩⟩
  · refine next_congr ((clocked_on hc).trans ((if_neg (Nat.not_lt.2 hr)).trans ?_))
    simp only [paceUpdate_eq, ite_rises]
  · exact next_congr ((tokenError_up (bits := bits) hl hd (by omega)).trans (if_pos hb))
  · exact next_congr ((tokenError_up (bits := bits) hl hd (by omega)).trans ((if_neg (Nat.ne_of_gt hb)).trans (if_pos hf)))
  · refine next_congr ((tokenError_up (bits := bits) hl hd (by omega)).trans ((if_neg (Nat.ne_of_gt hb)).trans ((if_neg (Nat.not_lt.2 hf)).trans ?_)))
    simp only [declareDown, wingDown_eq]
    rfl
  · exact next_congr (tokenError_down hd)
  · exact next_congr ((clocked_on hc).trans (alignCopy_up hd hu))
  · exact next_congr (loseAlignment_fresh hd hf hr)
  · exact next_congr (refclkFails_first hc)
  · exact next_congr (if_pos hc)
  · exact next_congr (clocked_off hc)
  · exact next_congr (clocked_off hc)
  · exact next_congr (clocked_off hc)
  · exact execStallTimeout_on hs hc
  · exact execStallTimeout_on hs hc
  · exact (execStallTimeout_on hs hc).trans (next_congr (abandonRequest_cfg h))
  · exact (execStallTimeout_on hs hc).trans (next_congr (abandonRequest_key h))
  · exact (execStallTimeout_on hs hc).trans (next_congr (abandonRequest_command h))

end Sys2Proof.Proofs
end

section
/-! Changes of the house clock, and events of the queues. -/

namespace Sys2Proof.Proofs
open Sys2Proof Sys2Proof.Machine

section
variable {s : State}

/-! ### The announced tick -/

/-- The clock that changes, with the copies that miss the change (R285). -/
def clockBecomes (s : State) (x : HouseClock) : State := strayCopies { s with clock := x } s.clock

theorem changeTick_of {c : ClockChange} {rest : List ClockChange} (hw : s.clock.waiting = c :: rest) :
    changeTick s = if isJump c then abandonTrim (recordJump (clockBecomes s (applyChange { s.clock with waiting := rest } c)) c) 1
      else clockBecomes s (applyChange { s.clock with waiting := rest } c) := by
  unfold changeTick
  rw [hw]
  rfl

theorem changeTick_none (hw : s.clock.waiting = []) : changeTick s = s := by
  unfold changeTick
  rw [hw]

/-- What follows a jump that has taken effect (R284, R384). -/
theorem jump_ends {t : State} {c : ClockChange} {forced : Bool} (h : recordJump t c =
    if forced then raiseEvent t [0] 5 clockUnit stDone [ofInt64 t.clock.lastJump] else t) :
    abandonTrim (recordJump t c) 1 = jumpEnded forced t := by
  rw [h]
  rfl

theorem recordJump_jump {t : State} (dest : Time80) (initial forced : Bool) : recordJump t (.jump dest initial forced) =
    if forced then raiseEvent t [0] 5 clockUnit stDone [ofInt64 t.clock.lastJump] else t := by
  cases forced <;> rfl

theorem recordJump_step {t : State} (offset : Int) (forced : Bool) : recordJump t (.step offset forced) =
    if forced then raiseEvent t [0] 5 clockUnit stDone [ofInt64 t.clock.lastJump] else t := by
  cases forced <;> rfl

/-! ### Items that enter -/

/-- The state in which a source's item is judged: the firmware attaches where it puts for no session (R167). -/
def sourceAttached (s : State) (named : Nat) (src : EngineSrc) : State :=
  match src with
  | .session _ 0 _ => if namedQueue s named src = 0 then s else setQueue s (namedQueue s named src) (fun q => attach q (sourceProducer src))
  | _ => s

/-- An item that cannot enter its queue. -/
def outOfForm (b : State) (qn : Nat) (it : ItemIn) : Bool :=
  qn = 0 || !it.written || it.data.isEmpty || (queueAt b qn).qfault || (queueAt b qn).itemMax < it.data.length

theorem enterFrom_fenced {named : Nat} {src : EngineSrc} {it : ItemIn} (hf : fencedOut s (sourceItem src it).srcSuite = true) :
    enterFrom s named src it = s := if_pos hf

theorem enterFrom_denied {named n h x : Nat} {src : EngineSrc} {it : ItemIn} (hf : fencedOut s (sourceItem src it).srcSuite = false)
    (hs : src = .session n h x) (hd : putDenied s (namedQueue s named src) src = true) : enterFrom s named src it = countThreshold s n := by
  subst hs
  exact (if_neg (Bool.eq_false_iff.1 hf)).trans (if_pos hd)

/-- A source that may put has its item judged. -/
theorem enterFrom_judged {named : Nat} {src : EngineSrc} {it : ItemIn} (hf : fencedOut s (sourceItem src it).srcSuite = false)
    (hd : putDenied s (namedQueue s named src) src = false) :
    enterFrom s named src it =
      if outOfForm (sourceAttached s named src) (namedQueue s named src) it = true then sourceAttached s named src
      else if creditsInHand (queueAt (sourceAttached s named src) (namedQueue s named src)) (sourceProducer src) = 0 then
        match src with
        | .engine _ => setQueue (sourceAttached s named src) (namedQueue s named src) (fun q => { q with noCreditDrops := bump 16 q.noCreditDrops })
        | .session _ _ _ => markWaiting (sourceAttached s named src) (namedQueue s named src) (sourceProducer src)
      else spendAndEnter (sourceAttached s named src) (namedQueue s named src) (sourceItem src it) := by
  refine (if_neg (Bool.eq_false_iff.1 hf)).trans ((if_neg (Bool.eq_false_iff.1 hd)).trans ?_)
  cases src <;> rfl

theorem outOfForm_iff {b : State} {qn : Nat} {it : ItemIn} : outOfForm b qn it = true ↔
    qn = 0 ∨ it.written = false ∨ it.data = [] ∨ (queueAt b qn).qfault = true ∨ (queueAt b qn).itemMax < it.data.length := by
  simp only [outOfForm, Bool.or_eq_true, decide_eq_true_eq, Bool.not_eq_true', List.isEmpty_iff, or_assoc]

/-- An item enters a queue that is not in QFAULT (R185, R187). -/
theorem enterItem_sound {qn : Nat} {it : Item} (hq : (queueAt s qn).qfault = false) :
    enterItem s qn it = if (queueAt s qn).fenced then setQueue s qn (fun q => { q with held := q.held ++ [it] })
      else judgeLater (mirrorEntry (setQueue s qn (fun q => { q with
        entries := q.entries + 1
        items := q.items ++ [{ it with seq := (queueAt s qn).entries, entered := now s, deliveredTo := handedTo (queueAt s qn) }] })) qn
        { it with seq := (queueAt s qn).entries, entered := now s, deliveredTo := handedTo (queueAt s qn) }) qn :=
  if_neg (Bool.eq_false_iff.1 hq)

/-- The item of a source that holds a credit spends it and enters (R185). -/
theorem spendAndEnter_sound {qn : Nat} {src : EngineSrc} {it : ItemIn} {t : Time80} (ht : now s = t)
    (he : (queueAt (setQueue s qn (fun q => spendCredit q (sourceProducer src))) qn).qfault = false) :
    let e := setQueue s qn (fun q => spendCredit q (sourceProducer src))
    let x := { sourceItem src it with credit := creditOf (queueAt s qn) (sourceProducer src) }
    let y := { x with seq := (queueAt e qn).entries, entered := t, deliveredTo := handedTo (queueAt e qn) }
    spendAndEnter s qn (sourceItem src it) =
      if (queueAt e qn).fenced then setQueue e qn (fun q => { q with held := q.held ++ [x] })
      else judgeLater (mirrorEntry (setQueue e qn (fun q => { q with entries := q.entries + 1, items := q.items ++ [y] })) qn y) qn := by
  subst ht
  exact enterItem_sound he

/-- Attaching to a queue takes no time. -/
theorem now_sourceAttached (named : Nat) (src : EngineSrc) : now (sourceAttached s named src) = now s := by
  unfold sourceAttached
  split
  · split <;> rfl
  · rfl

/-! ### Errors and withdraw frames -/

theorem controlError_sound {qn : Nat} (hq : (queueAt s qn).qfault = false) (hd : (queueAt s qn).depth ≠ 0) :
    controlError s qn = raiseEvent
      (setUnitStat (setQueue s qn (fun q => { q with qfault := true })) (.part larderPart) (fun u => { u with fault := true }))
      [(queueOwner (setUnitStat (setQueue s qn (fun q => { q with qfault := true })) (.part larderPart) (fun u => { u with fault := true })) qn).getD 0]
      6 (.part larderPart) (stFault .error) [] :=
  if_neg (by rw [hq, decide_eq_false hd]; exact Bool.false_ne_true)

/-- The outcome of a value frame whose withdraw frame has left with the state at `b` (R143). -/
def withdrawOutcome (b : State) (p : Nat) (tc : Time80) : Status :=
  if 0 ≤ tdiff (taddNs tc (-210000)) (portTime b p) then stWithdrawn else { cls := .done, reason := .guard }

theorem withdrawSent_of {p c n : Nat} {tc : Time80} {f : EgFrame} (hp : inProgress s p = some f) (hw : f.cls = .withdraw)
    (hc : f.cyc = some (c, n, tc)) :
    withdrawSent p s = settleCancelled (setTask (frameSent (countPort s p true 15 1) p f) c (fun t => { t with
      cancelled := t.cancelled.map (fun x => { x with
        frames := mapWhere (fun y => y.port == p && y.id == f.id && y.outcome.isNone)
          (fun y => { y with outcome := some (withdrawOutcome (frameSent (countPort s p true 15 1) p f) p tc) }) x.frames }) })) c := by
  unfold withdrawSent
  rw [hp]
  dsimp only
  rw [if_neg (not_not.2 hw), hc]
  rfl

end

/-- Settles O43: each change and each item as its section of the model judges it. -/
theorem clockAndQueueEvents : Obligations.ClockAndQueueEvents := by
  intro s
  refine ⟨fun h => ?_, fun rest hk => ⟨fun dest forced hw => ?_, fun dest hw => ?_, fun offset forced hw => ?_, fun inc hw => ?_,
    fun inc n hw => ?_⟩, rfl, fun named src it => ⟨fun hf => ?_, fun hf n h x hs hd => ?_, fun hf hd => ⟨fun ho => ?_, fun hq hw hn hqf hm => ?_⟩⟩,
    fun qn => ⟨fun hq hd => ?_, fun place => ⟨?_, ?_⟩, fun place word => ?_⟩, fun p f c n tc hk hp hw hc => ?_⟩
  · rcases h with h | h
    · refine next_congr ?_
      rw [clocked, changeTick_none h, ite_self]
    · exact next_congr (clocked_off h)
  · exact next_congr ((clocked_on hk).trans ((changeTick_of hw).trans (jump_ends (recordJump_jump dest false forced))))
  · exact next_congr ((clocked_on hk).trans ((changeTick_of hw).trans (jump_ends (recordJump_jump dest true false))))
  · exact next_congr ((clocked_on hk).trans ((changeTick_of hw).trans (jump_ends (recordJump_step offset forced))))
  · exact next_congr ((clocked_on hk).trans (changeTick_of hw))
  · exact next_congr ((clocked_on hk).trans (changeTick_of hw))
  · exact next_congr (enterFrom_fenced hf)
  · exact next_congr (enterFrom_denied hf hs hd)
  · exact next_congr ((enterFrom_judged hf hd).trans (if_pos (outOfForm_iff.2 ho)))
  · have judged := (enterFrom_judged (it := it) hf hd).trans (if_neg (fun ho => by
      rcases outOfForm_iff.1 ho with h | h | h | h | h
      · exact hq h
      · exact Bool.false_ne_true (h.symm.trans hw)
      · exact hn h
      · exact Bool.false_ne_true (hqf.symm.trans h)
      · exact absurd hm (Nat.not_le.2 h)))
    refine ⟨fun hc => ⟨fun p hs => ?_, fun n h x hs => ?_⟩, fun hc => fun he => ?_⟩
    · exact next_congr (judged.trans ((if_pos hc).trans (by subst hs; rfl)))
    · exact next_congr (judged.trans ((if_pos hc).trans (by subst hs; rfl)))
    · exact next_congr (judged.trans ((if_neg (Nat.ne_of_gt hc)).trans
        (spendAndEnter_sound (now_sourceAttached named src) he)))
  · exact next_congr (controlError_sound hq hd)
  · rfl
  · rfl
  · rfl
  · exact next_congr ((clocked_on hk).trans (withdrawSent_of hp hw hc))

end Sys2Proof.Proofs
end

section
/-! Events of the ports: frames received and sent, PAUSE, links and LPI. -/

namespace Sys2Proof.Proofs
open Sys2Proof Sys2Proof.Machine

section
variable {s : State} {p : Nat}

/-! ### Receiving -/

/-- A frame within the lengths of its port, with a good FCS (R247). -/
def goodFrame (s : State) (p : Nat) (r : MacRx) : Bool := r.fcsOk && decide (64 ≤ r.len) && decide (r.len ≤ (portAt s p).cfg.maxFrame)

theorem goodFrame_iff {r : MacRx} : goodFrame s p r = true ↔ r.fcsOk = true ∧ 64 ≤ r.len ∧ r.len ≤ (portAt s p).cfg.maxFrame := by
  simp only [goodFrame, Bool.and_eq_true, decide_eq_true_eq, and_assoc]

/-- A frame is taken as an answer to the quiet proposal (R263). -/
def takenAsAnswer (s : State) (p : Nat) (r : MacRx) : Bool :=
  goodFrame s p r && r.pause.isNone && quietAnswerFrame (countPort s p false 19 r.symbolErrors) p r.frame

/-- What follows the taking of a frame on a port whose link is up. -/
def frameJudged (t : State) (p : Nat) (r : MacRx) (good answer : Bool) (maxFrame : Nat) : State :=
  if good then
    match r.pause with
    | some q => honourPause (goodFrameCounted t p r) p q
    | none => if answer then quietAnswer p (fld (wordAt r.frame.payload 0) 32 32) (fld (wordAt r.frame.payload 0) 0 8 == 5) (goodFrameCounted t p r)
        else handOn (goodFrameCounted t p r) p r
  else countPort t p false (badCounter r.len maxFrame r.fcsOk) 1

theorem receive_judged {r : MacRx} (hl : (portAt s p).link = 2) :
    receive p r s = frameJudged (frameTaken s p r (takenAsAnswer s p r)) p r (goodFrame s p r) (takenAsAnswer s p r) (portAt s p).cfg.maxFrame := by
  refine (if_neg (not_not.2 hl)).trans ?_
  unfold frameJudged
  cases hp : r.pause <;> simp only [takenAsAnswer, goodFrame, frameTaken, goodFrameCounted, hp, Option.isNone, Option.isSome]

theorem receive_bad {r : MacRx} (hl : (portAt s p).link = 2)
    (hg : ¬ (r.fcsOk = true ∧ 64 ≤ r.len ∧ r.len ≤ (portAt s p).cfg.maxFrame)) :
    receive p r s = countPort (frameTaken s p r false) p false (badFrameCounter r.len (portAt s p).cfg.maxFrame r.fcsOk) 1 := by
  have hb : goodFrame s p r = false := Bool.eq_false_iff.2 (mt goodFrame_iff.1 hg)
  have ha : takenAsAnswer s p r = false := by rw [takenAsAnswer, hb]; rfl
  rw [receive_judged hl, ha, hb]
  rfl

/-- A good frame is an answer only where it is no PAUSE frame. -/
theorem takenAsAnswer_good {r : MacRx} (hg : r.fcsOk = true ∧ 64 ≤ r.len ∧ r.len ≤ (portAt s p).cfg.maxFrame) :
    takenAsAnswer s p r = true ↔ Answers (countPort s p false 19 r.symbolErrors) p r := by
  simp only [takenAsAnswer, goodFrame_iff.2 hg, Bool.true_and, Bool.and_eq_true, Option.isNone_iff_eq_none, Answers]

theorem receive_pause {r : MacRx} (hl : (portAt s p).link = 2) (hg : r.fcsOk = true ∧ 64 ≤ r.len ∧ r.len ≤ (portAt s p).cfg.maxFrame)
    {q : Nat} (hq : r.pause = some q) :
    receive p r s = honourPause (goodFrameCounted (frameTaken s p r false) p r) p q := by
  have ha : takenAsAnswer s p r = false :=
    Bool.eq_false_iff.2 (fun h => Option.some_ne_none q (hq.symm.trans ((takenAsAnswer_good hg).1 h).1))
  rw [receive_judged hl, ha, goodFrame_iff.2 hg]
  simp only [frameJudged, hq, if_true]

theorem receive_answer {r : MacRx} (hl : (portAt s p).link = 2) (hg : r.fcsOk = true ∧ 64 ≤ r.len ∧ r.len ≤ (portAt s p).cfg.maxFrame)
    (ha : Answers (countPort s p false 19 r.symbolErrors) p r) :
    receive p r s = quietAnswer p (fld (wordAt r.frame.payload 0) 32 32) (fld (wordAt r.frame.payload 0) 0 8 == 5)
      (goodFrameCounted (frameTaken s p r true) p r) := by
  rw [receive_judged hl, (takenAsAnswer_good hg).2 ha, goodFrame_iff.2 hg]
  simp only [frameJudged, ha.1, if_true]

theorem receive_handsOn {r : MacRx} (hl : (portAt s p).link = 2) (hg : r.fcsOk = true ∧ 64 ≤ r.len ∧ r.len ≤ (portAt s p).cfg.maxFrame)
    (hq : r.pause = none) (ha : ¬ Answers (countPort s p false 19 r.symbolErrors) p r) :
    receive p r s = handOn (goodFrameCounted (frameTaken s p r false) p r) p r := by
  rw [receive_judged hl, Bool.eq_false_iff.2 (mt (takenAsAnswer_good hg).1 ha), goodFrame_iff.2 hg]
  simp only [frameJudged, hq, if_true, Bool.false_eq_true, if_false]

/-! ### Sending -/

theorem egressSent_other {f : EgFrame} (hf : inProgress s p = some f) (hc : f.cls = .other) : egressSent p s = frameSent s p f := by
  unfold egressSent
  rw [hf]
  dsimp only
  rw [hc]

theorem egressSent_timed {f : EgFrame} (hf : inProgress s p = some f) (hc : f.cls = .timed) :
    egressSent p s = frameSent (countAll s p true (if isLate s p f = true then [(14, 1), (16, 1)] else [(14, 1)])) p f := by
  unfold egressSent
  rw [hf]
  dsimp only
  rw [hc]

/-! ### Links -/

theorem linkChange_field {l : LinkChange} (hp : p < 192) (hu : l.up = true) (hm : (portAt s p).cfg.mode ≠ 0) (hl : (portAt s p).link ≠ 2)
    (hh : portHeldDown s p = false) :
    linkChange p l s = setPort s p (fun x => startNext { x with
      link := 2, level2v4 := linkLevel x.cfg l.level2v4, isMaster := linkMaster x.cfg l.master l.seed, eeeOn := l.eee && x.cfg.eee }) := by
  refine (if_neg (by omega)).trans ((if_pos hp).trans ((if_neg (by rw [hu]; exact Bool.false_ne_true)).trans (if_neg ?_)))
  rw [decide_eq_false hm, decide_eq_false hl, hh]
  exact Bool.false_ne_true

theorem linkChange_fieldDown {l : LinkChange} (hp : p < 192) (hu : l.up = false) : linkChange p l s = dropLink s p 0 :=
  (if_neg (by omega)).trans ((if_pos hp).trans (if_pos (by rw [hu]; rfl)))

/-- What a link that has come up takes over in the uplink (R271, R275). -/
def uplinkLinked (p rate : Nat) (l : LinkChange) (u : Uplink) : Uplink :=
  { u with
    rate, fec := resolvedFec u.cfg rate l.lpFec, lpAdv := if u.cfg.mode = 1 ∧ p ≠ 194 then l.lpAdv else 0, lpFec := l.lpFec, lowRun := 0
    gov := if u.gov = 3 then 3 else if u.cfg.govEn = true ∧ p ≠ 194 then 1 else 0 }

/-- A link of an uplink that may come up (R278). -/
theorem linkChange_uplink {l : LinkChange} (h1 : 192 ≤ p) (h2 : p < 195) (hu : l.up = true) :
    linkChange p l s =
      if (tget {} s.uplinks (p - 192)).gov = 2 then s
      else if (decide ((tget {} s.uplinks (p - 192)).cfg.mode = 0) || decide ((portAt s p).link = 2) || portHeldDown s p) = true then s
      else match linkRate (p - 192) (tget {} s.uplinks (p - 192)).cfg l with
        | none => s
        | some rate => { setPort (launchMissed s (p - 192)) p (fun x => { x with link := 2 }) with
          uplinks := tmod {} (setPort (launchMissed s (p - 192)) p (fun x => { x with link := 2 })).uplinks (p - 192) (uplinkLinked p rate l) } := by
  unfold linkChange
  dsimp only
  rw [if_neg (by omega), if_neg (by omega), hu]
  simp only [Bool.not_true, Bool.false_eq_true, if_false, Bool.and_eq_true, bne_iff_ne, decide_eq_true_eq]
  cases linkRate (p - 192) (tget {} s.uplinks (p - 192)).cfg l <;> rfl

theorem linkChange_uplinkUp {l : LinkChange} {rate : Nat} (h1 : 192 ≤ p) (h2 : p < 195) (hu : l.up = true)
    (hm : (tget {} s.uplinks (p - 192)).cfg.mode ≠ 0) (hg : (tget {} s.uplinks (p - 192)).gov ≠ 2) (hl : (portAt s p).link ≠ 2)
    (hh : portHeldDown s p = false) (hr : linkRate (p - 192) (tget {} s.uplinks (p - 192)).cfg l = some rate) :
    linkChange p l s = { setPort (launchMissed s (p - 192)) p (fun x => { x with link := 2 }) with
      uplinks := tmod {} (setPort (launchMissed s (p - 192)) p (fun x => { x with link := 2 })).uplinks (p - 192) (uplinkLinked p rate l) } := by
  have hb : (decide ((tget {} s.uplinks (p - 192)).cfg.mode = 0) || decide ((portAt s p).link = 2) || portHeldDown s p) = false := by
    rw [decide_eq_false hm, decide_eq_false hl, hh]
    rfl
  rw [linkChange_uplink h1 h2 hu, if_neg hg, hb, if_neg Bool.false_ne_true, hr]

theorem linkChange_noRate {l : LinkChange} (h1 : 192 ≤ p) (h2 : p < 195) (hu : l.up = true)
    (hr : linkRate (p - 192) (tget {} s.uplinks (p - 192)).cfg l = none) : linkChange p l s = s := by
  rw [linkChange_uplink h1 h2 hu, hr, ite_self, ite_self]

theorem linkChange_uplinkDown {l : LinkChange} (h1 : 192 ≤ p) (h2 : p < 195) (hu : l.up = false)
    (hg : (tget {} s.uplinks (p - 192)).gov ≠ 2) :
    linkChange p l s = { dropLink s p 0 with uplinks := tmod {} (dropLink s p 0).uplinks (p - 192) (fun u => { u with
      rate := 0, fec := 0, lpAdv := 0, lowRun := 0, gov := if u.gov = 3 then 3 else 0 }) } :=
  (if_neg (by omega)).trans ((if_neg (by omega)).trans ((if_neg hg).trans (if_pos (by rw [hu]; rfl))))

/-! ### Half-range items -/

theorem ticks_10 : ticksMs 10 = 1250000 := by decide

theorem halfItem_due (hp : (portAt s p).halfPending = true) (hq : (portAt s p).cfg.statsQueue ≠ 0) (hd : (portAt s p).halfDue ≤ s.tick) :
    halfItem p s = (putItem (setPort s p (fun x => { x with halfPending := false, halfDue := s.tick + 1250000 })) (portAt s p).cfg.statsQueue
      (.engine switchPart) 0 0 0 false
      (wordBytes [pack [(0, 8, p), (32, 32, (now (setPort s p (fun x => { x with halfPending := false, halfDue := s.tick + 1250000 }))).sec)],
        pack [(0, 32, (portAt s p).halfRx.toNat), (32, 32, (portAt s p).halfTx.toNat)]])).1 := by
  have hb : (!(portAt s p).halfPending || decide ((portAt s p).cfg.statsQueue = 0) || decide (s.tick < (portAt s p).halfDue)) = false := by
    rw [hp, decide_eq_false hq, decide_eq_false (Nat.not_lt.2 hd)]
    rfl
  unfold halfItem
  dsimp only
  rw [hb, if_neg Bool.false_ne_true, ticks_10]

theorem halfItem_none (hp : (portAt s p).halfPending = false) : halfItem p s = s :=
  if_pos (by rw [hp]; rfl)

end

/-- Settles O44: each event by the state of its port. -/
theorem macEvents : Obligations.MacEvents := by
  intro s p
  refine ⟨fun hc r l => ?_, fun hc => ⟨fun r hl => ⟨fun hg => ?_, fun hg q hq => ?_, fun hg ha => ?_, fun hg hq ha => ?_⟩, fun hl r => ?_,
    fun t ht => ?_, fun hp hd => ?_, fun hp => ?_, fun f hf => ⟨fun ho => ?_, fun ho => ?_⟩, fun l hp hu hm hl hh => ?_,
    fun h1 h2 => ⟨fun l rate hu hm hg hl hh hr => ?_, fun l hu hr => ?_, fun l hu hg => ?_⟩, fun l hp hu => ?_, fun hp hq hd => ?_, fun hp => ?_,
    fun hp hl he hi hn => ?_, fun hl => ?_⟩⟩
  · simp only [List.forall_mem_cons]
    exact ⟨next_congr (clocked_off hc), next_congr (clocked_off hc), next_congr (clocked_off hc), next_congr (clocked_off hc),
      next_congr (clocked_off hc), next_congr (clocked_off hc), next_congr (clocked_off hc), next_congr (clocked_off hc), List.forall_mem_nil _⟩
  · exact next_congr ((clocked_on hc).trans (receive_bad hl hg))
  · exact next_congr ((clocked_on hc).trans (receive_pause hl hg hq))
  · exact next_congr ((clocked_on hc).trans (receive_answer hl hg ha))
  · exact next_congr ((clocked_on hc).trans (receive_handsOn hl hg hq ha))
  · exact next_congr ((clocked_on hc).trans (if_pos hl))
  · refine next_congr ((clocked_on hc).trans ?_)
    rw [show (portAt s p).pausedUntil = some t from ht]
  · refine next_congr ((clocked_on hc).trans (if_pos ?_))
    rw [show (portAt s p).pausing = true from hp, decide_eq_true (show (portAt s p).pauseDue ≤ s.tick from hd)]
    rfl
  · refine next_congr ((clocked_on hc).trans (if_neg ?_))
    rw [show (portAt s p).pausing = false from hp]
    exact Bool.false_ne_true
  · exact next_congr ((clocked_on hc).trans (egressSent_other hf ho))
  · exact next_congr ((clocked_on hc).trans (egressSent_timed hf ho))
  · exact next_congr ((clocked_on hc).trans (linkChange_field hp hu hm hl hh))
  · exact next_congr ((clocked_on hc).trans (linkChange_uplinkUp h1 h2 hu hm hg hl hh hr))
  · exact next_congr ((clocked_on hc).trans (linkChange_noRate h1 h2 hu hr))
  · exact next_congr ((clocked_on hc).trans (linkChange_uplinkDown h1 h2 hu hg))
  · exact next_congr ((clocked_on hc).trans (linkChange_fieldDown hp hu))
  · exact next_congr ((clocked_on hc).trans (halfItem_due hp hq hd))
  · exact next_congr ((clocked_on hc).trans (halfItem_none hp))
  · refine next_congr ((clocked_on hc).trans (if_pos ?_))
    rw [decide_eq_true hp, show (portAt s p).link = 2 from hl, show (portAt s p).eeeOn = true from he, show (portAt s p).lpi = false from hi,
      show (portAt s p).egress = [] from hn]
    rfl
  · exact next_congr ((clocked_on hc).trans (if_neg (not_not.2 hl)))

end Sys2Proof.Proofs
end

section
/-! The endpoint power engine of a port. -/

namespace Sys2Proof.Proofs
open Sys2Proof Sys2Proof.Machine

section
variable {s : State} {p : Nat}

theorem ticks_500 : ticksMs 500 = 62500000 := by decide

theorem ticks_2000 : ticksMs 2000 = 250000000 := by decide

/-- A class of the rail within CLASS_MAX waits for the budget; another is refused (R266). -/
theorem classKnown_eq (cls : Nat) : classKnown s p cls =
    if 10 ≤ cls ∧ cls ≤ (portAt s p).cfg.classMax ∧ railOk (portAt s p).cfg.rail cls = true then
      serveRail (setPort s p (fun x => { x with pse := .waitBudget, pseClass := cls, granted := false, denied := false })) (portAt s p).cfg.rail
    else setPort s p (fun x => { x with pse := .noPd, pseStatus := stRefused .range, pseDue := s.tick + 250000000 }) := by
  have hb : (decide (cls < 10) || decide ((portAt s p).cfg.classMax < cls) || !railOk (portAt s p).cfg.rail cls) = true ↔
      ¬ (10 ≤ cls ∧ cls ≤ (portAt s p).cfg.classMax ∧ railOk (portAt s p).cfg.rail cls = true) := by
    simp only [Bool.or_eq_true, decide_eq_true_eq, Bool.not_eq_true', ← Bool.not_eq_true, ← Nat.not_le, ← not_and_or, and_assoc]
  unfold classKnown
  dsimp only
  by_cases h : 10 ≤ cls ∧ cls ≤ (portAt s p).cfg.classMax ∧ railOk (portAt s p).cfg.rail cls = true
  · rw [if_neg (mt hb.1 (not_not.2 h)), if_pos h]
  · rw [if_pos (hb.2 h), if_neg h, ticks_2000]

/-- Detection ends on a port that detects and whose wing is in touch. -/
theorem detection_ends {valid : Bool} (hd : (portAt s p).pse = .detecting) (hh : powerHeld s p = false) :
    detection p valid s =
      if !valid then countPort (setPort s p (fun x => { x with pse := .noPd, pseDue := s.tick + ticksMs 500 })) p true 26 1
      else if (portAt s p).cfg.pseMode = 2 then classKnown s p (portAt s p).cfg.classFixed
      else setPort s p (fun x => { x with pse := .classifying }) :=
  if_neg (by rw [hd, hh]; exact Bool.false_ne_true)

theorem detection_waits {valid : Bool} (h : (portAt s p).pse ≠ .detecting ∨ powerHeld s p = true) : detection p valid s = s :=
  if_pos (by
    rcases h with h | h
    · rw [decide_eq_true h]
      rfl
    · rw [h, Bool.or_true])

theorem overload_powered (hp : (portAt s p).pse = .powered) (hh : powerHeld s p = false) :
    overload p s = removePower (setPort (raiseEvent (countPort s p true 25 1) [0] 3 (portUnit p) stDone []) p (fun x => { x with
      pseDue := (raiseEvent (countPort s p true 25 1) [0] 3 (portUnit p) stDone []).tick + 250000000 })) p .backoff := by
  rw [← ticks_2000]
  exact if_neg (by rw [hp, hh]; exact Bool.false_ne_true)

theorem overload_held (hh : powerHeld s p = true) : overload p s = s :=
  if_pos (by rw [hh, Bool.or_true])

end

/-- Settles O45: each event by the state of the port's power engine. -/
theorem endpointPower : Obligations.EndpointPower := by
  intro s p
  refine ⟨fun hc v cls => ?_, fun hc => ⟨fun hd hh => ⟨?_, ?_⟩, fun v h => ?_, fun hn hd => ?_, fun hn hd => ?_, fun cls hcl hh => ?_, fun hp => ?_,
    fun hp hh => ⟨?_, ?_⟩, fun hp hh => ⟨?_, ?_⟩, fun hb hd => ?_⟩⟩
  · simp only [List.forall_mem_cons]
    exact ⟨next_congr (clocked_off hc), next_congr (clocked_off hc), next_congr (clocked_off hc), next_congr (clocked_off hc),
      next_congr (clocked_off hc), next_congr (clocked_off hc), next_congr (clocked_off hc), List.forall_mem_nil _⟩
  · refine next_congr ((clocked_on hc).trans ((detection_ends hd hh).trans ?_))
    rw [ticks_500]
    exact if_pos rfl
  · refine next_congr ((clocked_on hc).trans ((detection_ends hd hh).trans ?_))
    rw [classKnown_eq]
    rfl
  · exact next_congr ((clocked_on hc).trans (detection_waits h))
  · refine next_congr ((clocked_on hc).trans (if_pos ?_))
    rw [show (portAt s p).pse = .noPd from hn, decide_eq_true (show (portAt s p).pseDue ≤ s.tick from hd)]
    rfl
  · refine next_congr ((clocked_on hc).trans (if_neg ?_))
    rw [decide_eq_false (show ¬ (portAt s p).pseDue ≤ s.tick from Nat.not_le.2 hd), Bool.and_false]
    exact Bool.false_ne_true
  · refine next_congr ((clocked_on hc).trans ((if_pos ?_).trans (classKnown_eq cls)))
    rw [show (portAt s p).pse = .classifying from hcl, hh]
    rfl
  · exact next_congr ((clocked_on hc).trans (if_pos hp))
  · refine next_congr ((clocked_on hc).trans (if_pos ?_))
    rw [show (portAt s p).pse = .powered from hp, hh]
    rfl
  · exact next_congr ((clocked_on hc).trans (overload_powered hp hh))
  · refine next_congr ((clocked_on hc).trans (if_neg ?_))
    rw [hh, Bool.not_true, Bool.and_false]
    exact Bool.false_ne_true
  · exact next_congr ((clocked_on hc).trans (overload_held hh))
  · refine next_congr ((clocked_on hc).trans (if_pos ?_))
    rw [show (portAt s p).pse = .backoff from hb, decide_eq_true (show (portAt s p).pseDue ≤ s.tick from hd)]
    rfl

end Sys2Proof.Proofs
end

section
/-! Events of the port switch. -/

namespace Sys2Proof.Proofs
open Sys2Proof Sys2Proof.Machine

section
variable {s : State}

/-! ### Ingress -/

theorem switchIngress_cons {f : RxFrame} {rest : List RxFrame} (h : s.sw.ingress = f :: rest) :
    switchIngress s = handleFrame { s with sw := { s.sw with ingress := rest } } f := by
  unfold switchIngress
  rw [h]

theorem switchIngress_nil (h : s.sw.ingress = []) : switchIngress s = s := by
  unfold switchIngress
  rw [h]

theorem handleFrame_unclassified {f : RxFrame} (h : classify s f (vlanAt s f.port f.frame) = none) :
    handleFrame s f = forwardFrame s f (vlanAt s f.port f.frame) := by
  unfold handleFrame
  dsimp only
  rw [h]

/-- What the entry that a frame matches does with it. -/
theorem handleFrame_classified {f : RxFrame} {e : ClassEntry} (h : classify s f (vlanAt s f.port f.frame) = some e) :
    (e.action = .drop → handleFrame s f = countPort s f.port false 22 1) ∧
    (e.action = .queue → handleFrame s f = queueFrame s e.queue e.suite e.prio f (vlanAt s f.port f.frame)) ∧
    (e.action = .points → handleFrame s f = ingressPoints s e f) ∧
    (e.action = .forward → handleFrame s f = forwardFrame s f (vlanAt s f.port f.frame)) := by
  unfold handleFrame
  dsimp only
  rw [h]
  refine ⟨?_, ?_, ?_, ?_⟩ <;>
  · intro ha
    simp only [ha]

/-! ### Epochs -/

/-- The queues that a table write has the switch leave and take up. -/
theorem writeQueues_eq (w : TableWrite) (o : Option ClassEntry) :
    (match o with | some e => if w.table == 2 && e.action == .queue then e.queue else 0 | none => 0) = if w.table = 2 then classQueue o else 0 := by
  cases o with
  | none => exact (ite_self 0).symm
  | some e =>
    by_cases hw : w.table = 2
    · simp only [hw, classQueue, beq_self_eq_true, Bool.true_and, beq_iff_eq, if_true]
    · simp only [hw, beq_false_of_ne hw, Bool.false_and, Bool.false_eq_true, if_false]

theorem classQueue_eq (o : Option ClassEntry) :
    (match o with | some e => if e.action == .queue then e.queue else 0 | none => 0) = classQueue o := by
  cases o with
  | none => rfl
  | some e => simp only [classQueue, beq_iff_eq]

/-- The state in which a waiting write has become the table of a new epoch (R258). -/
def epochInstalled (s : State) (w : TableWrite) (rest : List TableWrite) : State :=
  { s with sw := { installTables s.sw w with waiting := rest, epoch := ((installTables s.sw w).epoch + 1) % 2 ^ 32, draining := true } }

theorem installNext_cons {w : TableWrite} {rest : List TableWrite} (hw : s.sw.waiting = w :: rest) (hd : s.sw.draining = false) :
    let c := directSwitch (epochInstalled s w rest) (if w.table = 2 then classQueue (tlook s.sw.classes w.index) else 0) (classQueue w.cls)
    installNext s = if w.nofence = true then endWaiting w.req { cls := .done, reason := .unfenced } c
      else { c with sw := { c.sw with drainReqs := c.sw.drainReqs ++ [w.req] } } := by
  unfold installNext
  rw [hw]
  dsimp only
  rw [hd, if_neg Bool.false_ne_true, ← writeQueues_eq w (tlook s.sw.classes w.index), ← classQueue_eq w.cls]
  cases tlook s.sw.classes w.index <;> cases w.cls <;> rfl

theorem installNext_drains (hd : s.sw.draining = true) : installNext s = s := by
  unfold installNext
  split
  · rfl
  · exact if_pos hd

theorem epochOver_drains (hd : s.sw.draining = true) : epochOver s =
    s.sw.drainReqs.foldl (fun s r => endWaiting r stDone s) { s with sw := { s.sw with draining := false, drainReqs := [] } } :=
  if_neg (by rw [hd]; exact Bool.false_ne_true)

theorem epochOver_idle (hd : s.sw.draining = false) : epochOver s = s := if_pos (by rw [hd]; rfl)

/-! ### Transmit items -/

/-- The completion of the item that the switch takes from a suite's transmit queue. -/
theorem transmit_takes {n : Nat} {b : State} {it : Item} (hq : tget 0 s.sw.txq n ≠ 0) (hr : resetting s n = false)
    (ht : EngineTakes s (tget 0 s.sw.txq n) switchPart b it) {t : State} {st : Status} {ports : List Nat}
    (hf : transmitFrame b n (fld (wordAt it.data 0) 0 10) (it.data.drop 8) = (t, st, ports)) :
    transmit n s = sendCompletion (ackItem t (tget 0 s.sw.txq n) it.seq) (fld (wordAt it.data 0) 10 16) none (switchCompletion it st ports) := by
  obtain ⟨rfl, hhead⟩ := ht
  have hb : (decide (tget 0 s.sw.txq n = 0) || resetting s n) = false := by rw [decide_eq_false hq, hr]; rfl
  unfold transmit
  dsimp only
  rw [hb, if_neg Bool.false_ne_true, hhead]
  dsimp only
  rw [hf]
  rfl

section
variable {n dest : Nat} {bs : List Byte}

/-- A DEST that names no port, no group and not the FWD table. -/
theorem dest_named (hd : dest < 195 ∨ (256 ≤ dest ∧ dest ≤ 512)) : ((decide (195 ≤ dest) && decide (dest ≤ 255)) || decide (513 ≤ dest)) = false := by
  simp only [Bool.or_eq_false_iff, Bool.and_eq_false_iff, decide_eq_false_iff_not]
  omega

theorem transmitFrame_unnamed (hd : ¬ (dest < 195 ∨ (256 ≤ dest ∧ dest ≤ 512))) : transmitFrame s n dest bs = (s, stRefused .range, []) :=
  if_pos (by simp only [Bool.or_eq_true, Bool.and_eq_true, decide_eq_true_eq]; omega)

theorem transmitFrame_foreign (hd : dest < 195 ∨ (256 ≤ dest ∧ dest ≤ 512))
    (hv : vlanForeign s n (frameOf bs) (transmitPorts s dest (frameOf bs)) = true) :
    transmitFrame s n dest bs = (countThreshold s n, stRefused .threshold, []) :=
  (if_neg (Bool.eq_false_iff.1 (dest_named hd))).trans (if_pos hv)

theorem transmitFrame_long (hd : dest < 195 ∨ (256 ≤ dest ∧ dest ≤ 512))
    (hv : vlanForeign s n (frameOf bs) (transmitPorts s dest (frameOf bs)) = false) (hl : 1532 < bs.length) :
    transmitFrame s n dest bs = (s, stRefused .size, []) :=
  (if_neg (Bool.eq_false_iff.1 (dest_named hd))).trans ((if_neg (Bool.eq_false_iff.1 hv)).trans (if_pos hl))

/-- A frame that its VLAN and its size let through goes to a known destination (R261). -/
theorem transmitFrame_sized (hd : dest < 195 ∨ (256 ≤ dest ∧ dest ≤ 512))
    (hv : vlanForeign s n (frameOf bs) (transmitPorts s dest (frameOf bs)) = false) (hl : bs.length ≤ 1532) :
    transmitFrame s n dest bs =
      if (decide (256 ≤ dest) && decide (dest ≤ 511) && !destKnown s.sw dest) = true then (s, stRefused .range, []) else
      ((sendCopies s n (frameOf bs) ((transmitPorts s dest (frameOf bs)).map (fun p => (p, vlanAt s p (frameOf bs))))).1,
        copiesStatus (transmitPorts s dest (frameOf bs)).length
          (sendCopies s n (frameOf bs) ((transmitPorts s dest (frameOf bs)).map (fun p => (p, vlanAt s p (frameOf bs))))).2.length,
        (sendCopies s n (frameOf bs) ((transmitPorts s dest (frameOf bs)).map (fun p => (p, vlanAt s p (frameOf bs))))).2) :=
  (if_neg (Bool.eq_false_iff.1 (dest_named hd))).trans ((if_neg (Bool.eq_false_iff.1 hv)).trans (if_neg (Nat.not_lt.2 hl)))

end

/-! ### The quiet floor -/

theorem quietAnswer_takes {x : Quiet} {port : Nat} {agree : Bool} (hq : s.sw.quiet = .proposing) (hx : s.sw.transaction = some x)
    (hp : port ∈ x.ports) (ht : tdiff (now s) x.tq ≤ 0) :
    quietAnswer port x.number agree s = { s with sw := { s.sw with transaction := some (if agree then { x with agreed := sinsert port x.agreed }
      else { x with ports := x.ports.filter (· != port), agreed := x.agreed.filter (· != port) }) } } := by
  have htakes : takesAnswer s port x.number = true := by
    simp only [takesAnswer, hx, hq, List.contains_iff_mem.2 hp, decide_eq_false (not_lt.2 ht), beq_self_eq_true, Bool.not_false, Bool.and_self]
  rw [quietAnswer, htakes, if_neg (by exact Bool.false_ne_true), hx]
  rfl

theorem quietEntry_enters {x : Quiet} (hx : s.sw.transaction = some x) (ht : reached (now s) x.tq = true) {p : Nat} {rest : List Nat}
    (hl : (if s.sw.quiet = .entering then x.ports else x.agreed) = p :: rest) {b : State}
    (hb : (if (portAt s p).link = 2 ∧ (portAt s p).eeeOn = true ∧ (portAt s p).lpi = false then enterLpi s p else s) = b) :
    quietEntry s = { b with sw := { b.sw with quiet := .entering, transaction := some { x with ports := rest, entered := b.tick } } } := by
  have hc : ((decide ((portAt s p).link = 2) && (portAt s p).eeeOn && !(portAt s p).lpi) = true) =
      ((portAt s p).link = 2 ∧ (portAt s p).eeeOn = true ∧ (portAt s p).lpi = false) := by
    simp only [Bool.and_eq_true, decide_eq_true_eq, Bool.not_eq_true', and_assoc]
  unfold quietEntry
  rw [hx]
  dsimp only
  rw [ht, if_neg (by exact Bool.false_ne_true), hl]
  simp only [hc, hb]

theorem quietEntry_completes {x : Quiet} (hx : s.sw.transaction = some x) (ht : reached (now s) x.tq = true)
    (hl : (if s.sw.quiet = .entering then x.ports else x.agreed) = []) (he : ¬ (s.sw.quiet = .entering ∧ s.tick = x.entered)) :
    quietEntry s = quietComplete x s := by
  unfold quietEntry
  rw [hx]
  dsimp only
  rw [ht, if_neg (by exact Bool.false_ne_true), hl]
  exact if_neg (by rwa [Bool.and_eq_true, decide_eq_true_eq, decide_eq_true_eq])

end

/-- Settles O46: each event by the frame, the write, the item or the transaction that is next. -/
theorem switchEvents : Obligations.SwitchEvents := by
  intro s
  refine ⟨fun hc n p cycle agree => ?_, fun f rest hc hi => ⟨fun h => ?_, fun e h => ?_⟩, fun hi => ?_, fun w rest hw hd => ?_, fun hd => ?_,
    fun hd => ?_, fun hd => ?_, fun n b it hc hq hr ht => ⟨fun hn => ?_, fun hn hv => ?_, fun hn hv hl => ?_, fun hn hv hl h1 h2 hk => ?_,
      fun hn hv hl hk => ?_⟩, fun x port hc hq hx hp ht => ⟨?_, ?_⟩, fun x hc hx ht => ⟨fun p rest hl => ?_, fun hl he => ?_⟩⟩
  · simp only [List.forall_mem_cons]
    exact ⟨next_congr (clocked_off hc), next_congr (clocked_off hc), next_congr (clocked_off hc), next_congr (clocked_off hc), List.forall_mem_nil _⟩
  · exact next_congr ((clocked_on hc).trans ((switchIngress_cons hi).trans (handleFrame_unclassified h)))
  · have handled : exec .portSwitchIngress s = .next (handleFrame { s with sw := { s.sw with ingress := rest } } f) :=
      next_congr ((clocked_on hc).trans (switchIngress_cons hi))
    obtain ⟨hdrop, hqueue, hpoints, hforward⟩ := handleFrame_classified h
    exact ⟨fun ha => handled.trans (next_congr (hdrop ha)), fun ha => handled.trans (next_congr (hqueue ha)),
      fun ha => handled.trans (next_congr (hpoints ha)), fun ha => handled.trans (next_congr (hforward ha))⟩
  · refine next_congr ?_
    rw [clocked, switchIngress_nil hi, ite_self]
  · exact next_congr (installNext_cons hw hd)
  · exact next_congr (installNext_drains hd)
  · exact next_congr (epochOver_drains hd)
  · exact next_congr (epochOver_idle hd)
  · exact next_congr ((clocked_on hc).trans (transmit_takes hq hr ht (transmitFrame_unnamed hn)))
  · exact next_congr ((clocked_on hc).trans (transmit_takes hq hr ht (transmitFrame_foreign hn hv)))
  · exact next_congr ((clocked_on hc).trans (transmit_takes hq hr ht (transmitFrame_long hn hv hl)))
  · refine next_congr ((clocked_on hc).trans (transmit_takes hq hr ht ((transmitFrame_sized hn hv hl).trans (if_pos ?_))))
    rw [decide_eq_true h1, decide_eq_true h2, hk]
    rfl
  · refine next_congr ((clocked_on hc).trans (transmit_takes hq hr ht ((transmitFrame_sized hn hv hl).trans (if_neg ?_))))
    simp only [Bool.and_eq_true, decide_eq_true_eq, Bool.not_eq_true', not_and, and_imp]
    exact fun h1 h2 h3 => Bool.false_ne_true (h3.symm.trans (hk h1 h2))
  · exact next_congr ((clocked_on hc).trans (quietAnswer_takes hq hx hp ht))
  · exact next_congr ((clocked_on hc).trans (quietAnswer_takes hq hx hp ht))
  · exact next_congr ((clocked_on hc).trans (quietEntry_enters hx ht hl rfl))
  · exact next_congr ((clocked_on hc).trans (quietEntry_completes hx ht hl he))

end Sys2Proof.Proofs
end

section
/-! Events of the uplinks: egress, the rate governor and timed launch. -/

namespace Sys2Proof.Proofs
open Sys2Proof Sys2Proof.Machine

section
variable {s : State} {p : Nat}

/-! ### Egress -/

theorem countSent_kept (s : State) (p : Nat) (f : Frame) : Kept s (countSent s p f) :=
  Kept.foldl (f := fun s (e : Nat × Nat) => countPort s p true e.1 e.2) (fun s e => countPort_kept s p true e.1 e.2) _ s

theorem uplinkEgress_sends {b : State} {it : Item} (h1 : 192 ≤ p) (h2 : p ≤ 194) (hq : (uplinkAt s (p - 192)).cfg.egressQueue ≠ 0)
    (hl : (portAt s p).link = 2) (hp : (portAt s p).pausedUntil = none)
    (ht : EngineTakes s (uplinkAt s (p - 192)).cfg.egressQueue (uplinkPart (p - 192)) b it)
    (hb : launchBlocks s (p - 192) it.data.length = false) :
    uplinkEgress p s = ackItem (setPort (countSent b p (frameOf it.data)) p (fun x => { x with lastFrameTick := some s.tick }))
      (uplinkAt s (p - 192)).cfg.egressQueue it.seq := by
  obtain ⟨rfl, hhead⟩ := ht
  have hc : (decide (p < 192) || decide (194 < p) || decide ((uplinkAt s (p - 192)).cfg.egressQueue = 0) || decide ((portAt s p).link ≠ 2) ||
      (portAt s p).pausedUntil.isSome) = false := by
    rw [decide_eq_false (Nat.not_lt.2 h1), decide_eq_false (Nat.not_lt.2 h2), decide_eq_false hq, hl, hp]
    rfl
  unfold uplinkEgress
  dsimp only
  rw [hc, if_neg Bool.false_ne_true, hhead]
  exact if_neg (Bool.eq_false_iff.1 hb)

theorem uplinkEgress_down (hl : (portAt s p).link ≠ 2) : uplinkEgress p s = s :=
  if_pos (by rw [decide_eq_true hl, Bool.or_true, Bool.true_or])

/-! ### The rate governor -/

theorem ticks_40 : ticksMs 40 = 5000000 := by decide

section
variable (h1 : 192 ≤ p) (h2 : p ≤ 193)
include h1 h2

/-- UL0 and UL1 have a governor (R279). -/
theorem has_governor : (decide (p < 192) || decide (193 < p)) = false := by
  rw [decide_eq_false (Nat.not_lt.2 h1), decide_eq_false (Nat.not_lt.2 h2)]
  rfl

theorem governorWindow_early {short : Bool}
    (ht : s.tick - (if short then (uplinkAt s (p - 192)).shortTick else (uplinkAt s (p - 192)).windowTick) < ticksMs (if short then 1 else 100)) :
    governorWindow p short s = s :=
  (if_neg (Bool.eq_false_iff.1 (has_governor h1 h2))).trans (if_pos ht)

/-- A short window that has ended: the governor steps up where it governs and the window was busy (R279). -/
theorem governorWindow_short (ht : 125000 ≤ s.tick - (uplinkAt s (p - 192)).shortTick) :
    governorWindow p true s =
      if ((decide ((uplinkAt s (p - 192)).gov ≠ 1)) || decide ((portAt s p).link ≠ 2)) = true then
        setUplink s (p - 192) (fun u => { u with shortOctets := (tget 0 (portAt s p).rx 0, tget 0 (portAt s p).tx 0), shortTick := s.tick })
      else match (allowedRates (uplinkAt s (p - 192))).getLast? with
      | some top =>
        if (decide ((uplinkAt s (p - 192)).rate < top) && decide (60 * rateBps (uplinkAt s (p - 192)).rate * (s.tick - (uplinkAt s (p - 192)).shortTick) <
            100 * (giga * octetsSince s p (uplinkAt s (p - 192)).shortOctets))) = true then
          beginStep (setUplink s (p - 192) (fun u => { u with
            shortOctets := (tget 0 (portAt s p).rx 0, tget 0 (portAt s p).tx 0), shortTick := s.tick })) (p - 192) top true
        else setUplink s (p - 192) (fun u => { u with shortOctets := (tget 0 (portAt s p).rx 0, tget 0 (portAt s p).tx 0), shortTick := s.tick })
      | none => setUplink s (p - 192) (fun u => { u with shortOctets := (tget 0 (portAt s p).rx 0, tget 0 (portAt s p).tx 0), shortTick := s.tick }) := by
  refine (if_neg (Bool.eq_false_iff.1 (has_governor h1 h2))).trans ((if_neg ?_).trans ?_)
  · simp only [if_true, ticks_1]
    omega
  · cases h : (allowedRates (uplinkAt s (p - 192))).getLast? <;> simp only [if_true, h]

/-- A long window that has ended: the governor counts quiet ones, and steps down after 600 (R279). -/
theorem governorWindow_long (ht : 12500000 ≤ s.tick - (uplinkAt s (p - 192)).windowTick) :
    governorWindow p false s =
      if ((decide ((uplinkAt s (p - 192)).gov ≠ 1)) || decide ((portAt s p).link ≠ 2)) = true then
        setUplink s (p - 192) (fun u => { u with windowOctets := (tget 0 (portAt s p).rx 0, tget 0 (portAt s p).tx 0), windowTick := s.tick })
      else match ((allowedRates (uplinkAt s (p - 192))).filter (· < (uplinkAt s (p - 192)).rate)).getLast? with
      | some below =>
        if 100 * (giga * octetsSince s p (uplinkAt s (p - 192)).windowOctets) < 4 * rateBps below * (s.tick - (uplinkAt s (p - 192)).windowTick) then
          if (uplinkAt s (p - 192)).lowRun + 1 = 600 then
            beginStep (setUplink s (p - 192) (fun u => { u with
              windowOctets := (tget 0 (portAt s p).rx 0, tget 0 (portAt s p).tx 0), windowTick := s.tick })) (p - 192) below false
          else setUplink (setUplink s (p - 192) (fun u => { u with
            windowOctets := (tget 0 (portAt s p).rx 0, tget 0 (portAt s p).tx 0), windowTick := s.tick })) (p - 192) (fun u => { u with lowRun := u.lowRun + 1 })
        else setUplink (setUplink s (p - 192) (fun u => { u with
          windowOctets := (tget 0 (portAt s p).rx 0, tget 0 (portAt s p).tx 0), windowTick := s.tick })) (p - 192) (fun u => { u with lowRun := 0 })
      | none => setUplink (setUplink s (p - 192) (fun u => { u with
          windowOctets := (tget 0 (portAt s p).rx 0, tget 0 (portAt s p).tx 0), windowTick := s.tick })) (p - 192) (fun u => { u with lowRun := 0 }) := by
  refine (if_neg (Bool.eq_false_iff.1 (has_governor h1 h2))).trans ((if_neg ?_).trans ?_)
  · simp only [Bool.false_eq_true, if_false, ticks_100]
    omega
  · cases h : ((allowedRates (uplinkAt s (p - 192))).filter (· < (uplinkAt s (p - 192)).rate)).getLast? <;>
      simp only [Bool.false_eq_true, if_false, h]

theorem stepDone_inTime (hg : (uplinkAt s (p - 192)).gov = 2) (ht : s.tick ≤ (uplinkAt s (p - 192)).stepTick + 5000000) :
    let b := setPort (launchMissed s (p - 192)) p (fun x => { x with link := 2 })
    stepDone p s = setUplink b (p - 192) (fun v => { v with
      gov := if v.cfg.govEn = true then 1 else 0, rate := v.stepTo, fec := resolvedFec v.cfg v.stepTo v.lpFec, lowRun := 0
      lastStepUs := min 65535 ((b.tick - v.stepTick) / 125)
      govDowns := if v.stepUp = true then v.govDowns else min 65535 (v.govDowns + 1)
      govUps := if v.stepUp = true then min 65535 (v.govUps + 1) else v.govUps }) := by
  have hc : (decide (p < 192) || decide (193 < p) || decide ((uplinkAt s (p - 192)).gov ≠ 2) ||
      decide ((uplinkAt s (p - 192)).stepTick + ticksMs 40 < s.tick)) = false := by
    rw [has_governor h1 h2, hg, ticks_40, decide_eq_false (Nat.not_lt.2 ht)]
    rfl
  unfold stepDone
  dsimp only
  rw [hc, if_neg Bool.false_ne_true]
  simp only [bump_16, satN, Nat.min_comm _ (2 ^ 16 - 1)]
  rfl

theorem stepAbandoned_late (hg : (uplinkAt s (p - 192)).gov = 2) (ht : (uplinkAt s (p - 192)).stepTick + 5000000 ≤ s.tick) :
    let b := raiseEvent s [0] 3 (uplinkUnit (p - 192)) stDone []
    stepAbandoned p s = setUplink b (p - 192) (fun u => { u with
      gov := 3, lpAdv := 0, govAbandons := min 65535 (u.govAbandons + 1), resumeDue := b.tick + 75000000000 }) := by
  have hc : (decide (p < 192) || decide (193 < p) || decide ((uplinkAt s (p - 192)).gov ≠ 2) ||
      decide (s.tick < (uplinkAt s (p - 192)).stepTick + ticksMs 40)) = false := by
    rw [has_governor h1 h2, hg, ticks_40, decide_eq_false (Nat.not_lt.2 ht)]
    rfl
  unfold stepAbandoned
  dsimp only
  rw [hc, if_neg Bool.false_ne_true]
  simp only [bump_16, ticks_600000]

theorem governorResume_eq (hg : (uplinkAt s (p - 192)).gov = 3) :
    governorResume p s = if s.tick < (uplinkAt s (p - 192)).resumeDue then s
      else setUplink s (p - 192) (fun u => { u with lowRun := 0, gov := govNow s (p - 192) { u with gov := 0 } }) := by
  have hc : (decide (p < 192) || decide (193 < p) || decide ((uplinkAt s (p - 192)).gov ≠ 3) ||
      decide (s.tick < (uplinkAt s (p - 192)).resumeDue)) = decide (s.tick < (uplinkAt s (p - 192)).resumeDue) := by
    rw [has_governor h1 h2, hg]
    rfl
  unfold governorResume
  dsimp only
  rw [hc]
  by_cases h : s.tick < (uplinkAt s (p - 192)).resumeDue
  · rw [decide_eq_true h, if_pos rfl, if_pos h]
  · rw [decide_eq_false h, if_neg Bool.false_ne_true, if_neg h]

end

/-! ### Timed launch -/

/-- The launch item at the head of the queue (R287, R288). -/
theorem launchItem_takes {b : State} {it : Item} (h1 : 192 ≤ p) (h2 : p ≤ 194) (hq : (uplinkAt s (p - 192)).cfg.launchQueue ≠ 0)
    (hl : (uplinkAt s (p - 192)).launch = none) (ht : EngineTakes s (uplinkAt s (p - 192)).cfg.launchQueue switchPart b it) :
    (fencedOut b (launchOf it).suite = true → launchItem p s = completeLaunch b (p - 192) (launchOf it) stResetDiscarded 0 [0, 0]) ∧
    (fencedOut b (launchOf it).suite = false →
      (launchRefusal b p (launchOf it) = none → launchItem p s =
        setUplink (setQueue b (uplinkAt s (p - 192)).cfg.launchQueue (fun q => { q with
          items := mapWhere (fun y => y.seq == it.seq) (fun y => { y with deliveredTo := some (.engine switchPart) }) q.items })) (p - 192)
          (fun u => { u with launch := some (launchOf it) })) ∧
      (∀ st, launchRefusal b p (launchOf it) = some st → launchItem p s =
        completeLaunch (if st = stRefused .threshold then countThreshold b (launchOf it).suite else b) (p - 192) (launchOf it) st 0 [0, 0])) := by
  obtain ⟨rfl, hhead⟩ := ht
  have hc : (decide (p < 192) || decide (194 < p) || decide ((uplinkAt s (p - 192)).cfg.launchQueue = 0) ||
      (uplinkAt s (p - 192)).launch.isSome) = false := by
    rw [decide_eq_false (Nat.not_lt.2 h1), decide_eq_false (Nat.not_lt.2 h2), decide_eq_false hq, hl]
    rfl
  unfold launchItem
  dsimp only
  rw [hc, if_neg Bool.false_ne_true, hhead]
  refine ⟨fun hf => if_pos hf, fun hf => ⟨fun hr => (if_neg (Bool.eq_false_iff.1 hf)).trans ?_, fun st hr => (if_neg (Bool.eq_false_iff.1 hf)).trans ?_⟩⟩
  · rw [hr]
  · rw [hr]

/-- A launch whose time has come (R288). -/
theorem launchSend_due {l : Launch} {error : Int} (h1 : 192 ≤ p) (h2 : p ≤ 194) (hl : (uplinkAt s (p - 192)).launch = some l)
    (hd : l.now = true ∨ reached (now s) l.at80 = true) :
    launchSend p error s =
      if (portAt s p).link ≠ 2 then completeLaunch s (p - 192) l (stRefused .link) 0 [0, 0]
      else if (portAt s p).pausedUntil.isSome then s
      else completeLaunch (setPort
          (countSent (if l.now then s else countAll s p true ([(14, 1), (15, 1)] ++ (if l.delayed then [(16, 1)] else []))) p (frameOf l.frame)) p
          (fun x => { x with lastFrameTick := (some
            (countSent (if l.now then s else countAll s p true ([(14, 1), (15, 1)] ++ (if l.delayed then [(16, 1)] else []))) p (frameOf l.frame)).tick) }))
          (p - 192) l stDone (if l.now then 0 else ofInt64 (tdiff (launchTime s p error) l.at80))
          [nowForm (launchTime s p error), pack [(0, 16, secHi (launchTime s p error))]] := by
  have hc : (decide (p < 192) || decide (194 < p)) = false := by
    rw [decide_eq_false (Nat.not_lt.2 h1), decide_eq_false (Nat.not_lt.2 h2)]
    rfl
  have hw : (!l.now && !reached (now s) l.at80) = false := by
    rcases hd with h | h <;> rw [h]
    · rfl
    · exact Bool.and_false _
  unfold launchSend
  dsimp only
  rw [hc, if_neg Bool.false_ne_true, hl]
  dsimp only
  rw [hw, if_neg Bool.false_ne_true, show taddNs (stampOf s p error) ((uplinkAt s (p - 192)).cfg.txAdjPs / 1000) = launchTime s p error from rfl,
    (countSent_kept _ p _).tick]

/-- The counters of a launch are those of a frame, with TX_WITHDRAW and, where a PAUSE delayed it, TX_LATE. -/
theorem launchCounters (delayed : Bool) : ([(14, 1), (15, 1)] ++ (if delayed then [(16, 1)] else []) : List (Nat × Nat)) =
    if delayed = true then [(14, 1), (15, 1), (16, 1)] else [(14, 1), (15, 1)] := by
  cases delayed <;> rfl

end

/-- Settles O47: each event by its window, its step or its launch. -/
theorem uplinkEvents : Obligations.UplinkEvents := by
  intro s p
  have governs : ((uplinkAt s (p - 192)).gov = 1 ∧ (portAt s p).link = 2) ↔
      (decide ((uplinkAt s (p - 192)).gov ≠ 1) || decide ((portAt s p).link ≠ 2)) = false := by
    simp only [Bool.or_eq_false_iff, decide_eq_false_iff_not, not_not]
  refine ⟨fun hc short error => ?_, fun hc => ⟨fun b it h1 h2 hq hl hp ht hb => ?_, fun hl => ?_,
    fun h1 h2 => ⟨fun ht => ?_, fun ht => ?_, fun ht hn => ?_, fun ht hn => ?_, fun ht hg top htop => ?_, fun ht hg => ⟨fun hn => ?_, fun below hbelow => ?_⟩⟩,
    fun h1 h2 hg => ⟨fun ht => ?_, fun ht => ?_⟩, fun h1 h2 hg ht => ?_, fun h1 h2 hg ht => ?_,
    fun b it h1 h2 hq hl ht => ⟨fun hf => ?_, fun hf hr => ?_, fun hf st hr => ?_⟩, fun l error h1 h2 hl hd => ⟨fun hx => ?_, fun hx hp => ?_⟩⟩⟩
  · simp only [List.forall_mem_cons]
    exact ⟨next_congr (clocked_off hc), next_congr (clocked_off hc), next_congr (clocked_off hc), next_congr (clocked_off hc),
      next_congr (clocked_off hc), next_congr (clocked_off hc), next_congr (clocked_off hc), List.forall_mem_nil _⟩
  · exact next_congr ((clocked_on hc).trans (uplinkEgress_sends h1 h2 hq hl hp ht hb))
  · exact next_congr ((clocked_on hc).trans (uplinkEgress_down hl))
  · refine next_congr ((clocked_on hc).trans (governorWindow_early h1 h2 ?_))
    rw [if_pos rfl, if_pos rfl, ticks_1]
    exact ht
  · refine next_congr ((clocked_on hc).trans (governorWindow_early h1 h2 ?_))
    rw [if_neg Bool.false_ne_true, if_neg Bool.false_ne_true, ticks_100]
    exact ht
  · refine next_congr ((clocked_on hc).trans ((governorWindow_short h1 h2 ht).trans ?_))
    rcases hn with hn | hn
    · exact if_pos (Bool.not_eq_false _ ▸ mt governs.2 hn)
    · rw [hn]
      exact ite_self _
  · refine next_congr ((clocked_on hc).trans ((governorWindow_long h1 h2 ht).trans ?_))
    exact if_pos (Bool.not_eq_false _ ▸ mt governs.2 hn)
  · refine next_congr ((clocked_on hc).trans ((governorWindow_short h1 h2 ht).trans ((if_neg (Bool.eq_false_iff.1 (governs.1 hg))).trans ?_)))
    rw [show (allowedRates (uplinkAt s (p - 192))).getLast? = some top from htop]
    simp only [Bool.and_eq_true, decide_eq_true_eq]
    rw [giga_eq]
  · refine next_congr ((clocked_on hc).trans ((governorWindow_long h1 h2 ht).trans ((if_neg (Bool.eq_false_iff.1 (governs.1 hg))).trans ?_)))
    rw [show ((allowedRates (uplinkAt s (p - 192))).filter (· < (uplinkAt s (p - 192)).rate)).getLast? = none from hn]
  · refine next_congr ((clocked_on hc).trans ((governorWindow_long h1 h2 ht).trans ((if_neg (Bool.eq_false_iff.1 (governs.1 hg))).trans ?_)))
    rw [show ((allowedRates (uplinkAt s (p - 192))).filter (· < (uplinkAt s (p - 192)).rate)).getLast? = some below from hbelow]
    simp only [giga_eq, show ∀ n : Nat, (n + 1 = 600) = (n = 599) from fun n => propext (by omega)]
  · exact next_congr ((clocked_on hc).trans (stepDone_inTime h1 h2 hg ht))
  · exact next_congr ((clocked_on hc).trans (stepAbandoned_late h1 h2 hg ht))
  · exact next_congr ((clocked_on hc).trans ((governorResume_eq h1 h2 hg).trans (if_neg (Nat.not_lt.2 ht))))
  · exact next_congr ((clocked_on hc).trans ((governorResume_eq h1 h2 hg).trans (if_pos ht)))
  · exact next_congr ((clocked_on hc).trans ((launchItem_takes h1 h2 hq hl ht).1 hf))
  · exact next_congr ((clocked_on hc).trans (((launchItem_takes h1 h2 hq hl ht).2 hf).1 hr))
  · exact next_congr ((clocked_on hc).trans (((launchItem_takes h1 h2 hq hl ht).2 hf).2 st hr))
  · exact next_congr ((clocked_on hc).trans ((launchSend_due h1 h2 hl hd).trans (if_pos hx)))
  · refine next_congr ((clocked_on hc).trans ((launchSend_due h1 h2 hl hd).trans ((if_neg (not_not.2 hx)).trans ?_)))
    rw [show (portAt s p).pausedUntil = none from hp, launchCounters]
    rfl

end Sys2Proof.Proofs
end

section
/-! The events of a task's cycle: its start, its acceptance and its commit. -/

namespace Sys2Proof.Proofs
open Sys2Proof Sys2Proof.Machine

section
variable {s : State} {c : Nat}

/-! ### Cycle start -/

/-- The task whose cycle begins at `start`, with its inputs frozen as `snap` (R132). -/
def begunTask (d : TaskDesc) (snap : Table PointVal) (start : Time80) (t : Task) : Task :=
  { t with
    ctx := { t.ctx with
      w := Vector.replicate 32 0, a := Vector.replicate 4 0, pc := BitVec.ofNat 32 d.entry, calls := [], loops := [], flags := 0
      cycle := (t.ctx.cycle + 1) % 2 ^ 64, tsnap := start, tcommit := taddUs start d.commitOffset, steps := 0, packet := none }
    snapshot := snap
    lastStart := some start
    nextStart := some (taddUs start d.period)
    brkArm := (t.brkArmNext.map (·.1)).getD t.brkArm
    brkHoldMap := (t.brkArmNext.map (·.2)).getD t.brkHoldMap
    brkArmNext := none
    brkHold := false
    cycle := some { number := (t.ctx.cycle + 1) % 2 ^ 64, start, commit := taddUs start d.commitOffset } }

/-- A cycle begins with what is prepared for it (R132). -/
theorem beginCycle_eq (start : Time80) :
    beginCycle s c start = setTask (cyclePrepared s c) c (begunTask (taskAt (cyclePrepared s c) c).desc
      ((taskAt (cyclePrepared s c) c).desc.inList.foldl (fun acc n => tset { v := 0 } acc n (imageValue (cyclePrepared s c) n)) []) start) := by
  unfold beginCycle cyclePrepared
  dsimp only
  generalize (List.range 8).foldl (fun s b => deliver s c b) (sendOutcomes (applyAllOnline (settleAll s) c) c) = b
  refine congrArg (setTask b c) (funext fun t => ?_)
  unfold startCtx begunTask
  cases t.brkArmNext <;> rfl

theorem cycleStart_onGrid {start : Time80} (hm : mayStart s c = true) (hn : (taskAt s c).nextStart = some start)
    (hr : reached (now s) start = true) (hu : wholeUs (now s) = wholeUs start) : cycleStart s c = beginCycle s c start := by
  unfold cycleStart
  rw [hm, if_neg (by exact Bool.false_ne_true), hn]
  dsimp only
  rw [hr, if_neg (by exact Bool.false_ne_true), if_pos hu]

/-! ### Acceptance -/

theorem collect_takes {i : Nat} {y : Cycle} (h : TokenNext s i c y) :
    collect s = endCollectorCycle (acceptCycle { s with collector := { collectorNow s with index := i + 1 } } c y) := by
  unfold collect
  dsimp only
  rw [show nextToken s (if (nextToken s s.collector.n s.collector.index).isNone then
      { s.collector with n := (if s.collector.index = 0 then s.collector.n else (s.collector.n + 1) % 2 ^ 32), index := 0 } else s.collector).n
    (if (nextToken s s.collector.n s.collector.index).isNone then
      { s.collector with n := (if s.collector.index = 0 then s.collector.n else (s.collector.n + 1) % 2 ^ 32), index := 0 } else s.collector).index =
      some (i, c) from h.token]
  dsimp only
  rw [h.cycle]
  rfl

theorem collect_idle (h : nextToken s (collectorNow s).n (collectorNow s).index = none) : collect s = s := by
  unfold collect
  dsimp only
  rw [show nextToken s (if (nextToken s s.collector.n s.collector.index).isNone then
      { s.collector with n := (if s.collector.index = 0 then s.collector.n else (s.collector.n + 1) % 2 ^ 32), index := 0 } else s.collector).n
    (if (nextToken s s.collector.n s.collector.index).isNone then
      { s.collector with n := (if s.collector.index = 0 then s.collector.n else (s.collector.n + 1) % 2 ^ 32), index := 0 } else s.collector).index =
      none from h]

theorem inTime_iff {y : Cycle} : inTime s y = true ↔ ¬ TokenLate s y := by
  rw [inTime, decide_eq_true_eq, TokenLate, not_lt]

theorem acceptCycle_inTime {i : Nat} {y : Cycle} (h : ¬ TokenLate s y) :
    acceptCycle { s with collector := { collectorNow s with index := i + 1 } } c y =
      awaitCommit (missNoted (tokenTaken s i c y y.commit) c y) c y y.commit := by
  have ht : inTime { s with collector := { collectorNow s with index := i + 1 } } y = true := inTime_iff.2 h
  unfold acceptCycle
  dsimp only
  rw [ht, if_pos rfl, recordedCommit, ht, if_neg (by exact Bool.false_ne_true)]
  rfl

theorem acceptCycle_late {i : Nat} {y : Cycle} (h : TokenLate s y) :
    acceptCycle { s with collector := { collectorNow s with index := i + 1 } } c y =
      settleOverrun (tokenTaken s i c y (if (taskAt s c).desc.overrun = .stretch then
        taddUs y.commit (stretchPeriods s (taskAt s c).desc y * (taskAt s c).desc.period) else y.commit)) c y (taskAt s c).desc.overrun := by
  have ht : inTime { s with collector := { collectorNow s with index := i + 1 } } y = false :=
    Bool.eq_false_iff.2 (fun hi => inTime_iff.1 hi h)
  unfold acceptCycle
  dsimp only
  rw [ht, if_neg Bool.false_ne_true, recordedCommit, ht]
  simp only [Bool.not_false, Bool.true_and, beq_iff_eq]
  rfl

/-! ### What a commit leaves of the tasks -/

theorem foldl_tasks {α : Type} {f : State → α → State} (h : ∀ s a, (f s a).tasks = s.tasks) (l : List α) (s : State) :
    (l.foldl f s).tasks = s.tasks := by
  induction l generalizing s with
  | nil => rfl
  | cons a l ih => exact (ih _).trans (h s a)

theorem driveSafe_kept (s : State) (n : Nat) : Kept s (driveSafe s n) :=
  (Kept.ite ((conduct_kept s n true).trans (setOutput_kept _ n _)) (turnOff_kept s n)).trans (setOutput_kept _ n _)

theorem stopSafe_tasks (s : State) (c : Nat) : (stopSafe s c).tasks = s.tasks :=
  foldl_tasks (fun s n => (driveSafe_kept s n).tasks) _ _

theorem openInstant_tasks (s : State) (t : Time80) : (openInstant s t).tasks = s.tasks := by
  unfold openInstant
  split
  · rfl
  · split
    · split <;> rfl
    · rfl

theorem breakJournal_tasks (s : State) : (breakJournal s).tasks = s.tasks := by
  unfold breakJournal
  split
  · rfl
  · exact (raiseEvent_kept _ _ _ _ _ _).tasks

theorem cutRecord_tasks (s : State) (r : JournalRec) : (cutRecord s r).tasks = s.tasks := by
  unfold cutRecord
  split
  · rfl
  · split
    · exact breakJournal_tasks s
    · rfl

theorem journalPoints_tasks (s : State) (c : Nat) (y : Cycle) (vals : List (Nat × PointVal)) : (journalPoints s c y vals).tasks = s.tasks := by
  unfold journalPoints
  dsimp only
  split
  · rfl
  · split
    · rfl
    · exact cutRecord_tasks s _

theorem commitPoints_tasks (s : State) (c : Nat) (y : Cycle) (vals : List (Nat × PointVal)) : (commitPoints s c y vals).tasks = s.tasks :=
  (journalPoints_tasks _ c y vals).trans (foldl_tasks (f := fun s (v : Nat × PointVal) => setPoint s v.1 v.2) (fun _ _ => rfl) vals s)

theorem enterCommitted_tasks (s : State) (qn : Nat) (it : Item) : (enterCommitted s qn it).tasks = s.tasks := by
  unfold enterCommitted
  dsimp only
  split
  · exact (enterItem_kept s qn it).tasks
  · exact (foldl_tasks (fun s x => (mirrorEntry_kept s qn x).tasks) _ _).trans (enterItem_kept _ qn it).tasks

theorem commitQueues_tasks (s : State) (c : Nat) (g : Staged) : (commitQueues s c g).tasks = s.tasks := by
  unfold commitQueues
  dsimp only
  rw [foldl_tasks (f := fun s (a : Nat × Nat) => ackItem s a.1 a.2) (fun s a => (ackItem_kept s a.1 a.2).tasks),
    foldl_tasks (f := fun s p => enterCommitted s p.queue (packetItem c p)) (fun s p => enterCommitted_tasks s p.queue _)]

theorem taskAt_of_tasks {s t : State} (h : t.tasks = s.tasks) (c : Nat) : taskAt t c = taskAt s c := by
  rw [taskAt, h, taskAt]

/-! ### Commit -/

/-- The state in which a commit's CYCLE and POINTS have gone into the mirror delta (R135, R231). -/
def commitOpened (s : State) (c : Nat) (y : Cycle) : State :=
  if (taskAt s c).desc.cam then openInstant (stopSafe s c) y.commit
  else (commitEntries (openInstant (stopSafe s c) y.commit) c y).foldl mirror (openInstant (stopSafe s c) y.commit)

theorem opened_tasks (s : State) (c : Nat) (t : Time80) : (openInstant (stopSafe s c) t).tasks = s.tasks :=
  (openInstant_tasks _ t).trans (stopSafe_tasks s c)

theorem commitOpened_tasks (s : State) (c : Nat) (y : Cycle) : (commitOpened s c y).tasks = s.tasks := by
  unfold commitOpened
  split
  · exact opened_tasks s c _
  · exact (foldl_tasks (fun s e => (mirror_kept s e).tasks) _ _).trans (opened_tasks s c _)

/-- A cycle commits: what its task was configured for stays through its effects (R135). -/
theorem commitCycle_eq (y : Cycle) :
    let b := commitOpened s c y
    let e := commitQueues (commitPoints b c y (stagedValues s y.staged)) c y.staged
    let e := mirrorSlots (if (taskAt s c).desc.cam then { e with twin := { e.twin with waiting := b.twin.waiting } } else e) c
    let e := setTask e c (fun t => { t with cycle := none, lastStatus := stDone, committed := true })
    commitCycle s c y = switchLatches (afterCycle (suiteCommitted e (ctxSuite c)) c) := by
  have first : (taskAt (openInstant (stopSafe s c) y.commit) c).desc.cam = (taskAt s c).desc.cam := by
    rw [taskAt_of_tasks (opened_tasks s c y.commit)]
  have last : (taskAt (commitQueues (commitPoints (commitOpened s c y) c y (stagedValues s y.staged)) c y.staged) c).desc.cam = (taskAt s c).desc.cam := by
    rw [taskAt_of_tasks ((commitQueues_tasks _ c _).trans ((commitPoints_tasks _ c y _).trans (commitOpened_tasks s c y)))]
  unfold commitCycle
  dsimp only
  rw [first, ← commitOpened, last]

/-- Only a commit that is due, first and confirmed takes place (R135, R138). -/
theorem commitDue_due {y : Cycle} (h : CommitDue (commitsJudged s) c y) :
    commitDue s c = if ((taskAt (commitsJudged s) c).desc.cam && !y.confirmed) = true then missingConfirmation (commitsJudged s) c y
      else commitCycle (commitsJudged s) c y := by
  have hc : ((commitsJudged s).clock.clkFault || y.phase != .accepted || !reached (now (commitsJudged s)) y.commit ||
      earlierCommit (commitsJudged s) c y) = false := by
    rw [h.clock, h.accepted, h.due, h.first]
    rfl
  unfold commitDue
  rw [show switchLatches (settleAll s) = commitsJudged s from rfl]
  dsimp only
  rw [h.cycle]
  dsimp only
  rw [hc, if_neg Bool.false_ne_true]

theorem missingConfirmation_eq (y : Cycle) :
    missingConfirmation s c y = if (taskAt s c).desc.overrun = .fault then faultOverrun s c y else skipOverrun s c y := by
  unfold missingConfirmation
  cases h : (taskAt s c).desc.overrun <;> rfl

theorem commitDue_none (h : (taskAt (commitsJudged s) c).cycle = none) : commitDue s c = commitsJudged s := by
  unfold commitDue
  rw [show switchLatches (settleAll s) = commitsJudged s from rfl]
  dsimp only
  rw [h]

end

/-- Settles O40: the cycle starts on its grid, is accepted or late, and commits or misses its confirmation. -/
theorem cycleEvents : Obligations.CycleEvents := by
  intro s c
  refine ⟨fun start hm hn hr hu => ?_, fun hm => ?_, fun i y h => ⟨fun hl => ?_, fun hl => ?_⟩, fun h => ?_, fun y h => ⟨fun hd => ?_, fun hd hy => ?_⟩,
    fun h => ?_⟩
  · exact next_congr ((cycleStart_onGrid hm hn hr hu).trans (beginCycle_eq start))
  · exact next_congr (if_pos (by rw [hm]; rfl))
  · exact next_congr ((collect_takes h).trans (congrArg endCollectorCycle (acceptCycle_inTime hl)))
  · refine next_congr ((collect_takes h).trans (congrArg endCollectorCycle ((acceptCycle_late hl).trans ?_)))
    cases ho : (taskAt s c).desc.overrun <;> rfl
  · exact next_congr (collect_idle h)
  · refine next_congr ((commitDue_due h).trans ((if_neg ?_).trans (commitCycle_eq y)))
    rcases hd with hd | hd
    · rw [show (taskAt (commitsJudged s) c).desc.cam = false from hd]
      exact Bool.false_ne_true
    · rw [hd, Bool.not_true, Bool.and_false]
      exact Bool.false_ne_true
  · refine next_congr ((commitDue_due h).trans ((if_pos ?_).trans (missingConfirmation_eq y)))
    rw [show (taskAt (commitsJudged s) c).desc.cam = true from hd, hy]
    rfl
  · exact next_congr (commitDue_none h)

end Sys2Proof.Proofs
end

section
/-! The events of a task's mode: transitions, HOLD, STOP and online changes; the foundation's end, the journal and reservations. -/

namespace Sys2Proof.Proofs
open Sys2Proof Sys2Proof.Machine

section
variable {s : State} {c : Nat}

/-! ### Modes -/

theorem modeTransition_due {p : PendingMode} (h : TransitionDue s c p) :
    modeTransition s c = if p.step then
        mirrorMode (setTask s c (fun t => { t with mode := .hold, pending := none, stepping := true, holdUntil := none, nextStart := some p.at80 })) c
      else enterRun s c p.at80 := by
  have hsuite : (ctxSuite c == 0 || s.seq.passDone) = true := by
    rw [Bool.or_eq_true, beq_iff_eq]
    exact h.pass
  have hc : (!reached (now s) p.at80 || (taskAt s c).cycle.isSome || resetting s (ctxSuite c) || !(ctxSuite c == 0 || s.seq.passDone)) = false := by
    rw [h.due, h.idle, h.suite, hsuite]
    rfl
  unfold modeTransition
  dsimp only
  rw [h.pending]
  dsimp only
  rw [hc, if_neg Bool.false_ne_true]

theorem modeTransition_none (h : (taskAt s c).pending = none) : modeTransition s c = s := by
  unfold modeTransition
  dsimp only
  rw [h]

/-- A held task's outputs are released again where its grid commit time has come and no cycle of its own commits (R149). -/
theorem holdRerelease_due (hm : (taskAt s c).mode = .hold) (hn : commitsNow s (taskAt s c) = false) (hr : runsTasks s = true)
    (hc : s.clock.clkFault = false)
    (hg : gridUs (taskAt s c).desc.period ((taskAt s c).desc.phase + (taskAt s c).desc.commitOffset) (wholeUs (now s)) = wholeUs (now s))
    (hd : (taskAt s c).rereleased ≠ some (ofUs (wholeUs (now s)))) :
    let b := setTask s c (fun t => { t with rereleased := some (ofUs (wholeUs (now s))) })
    let vals := ((taskOutputs (taskAt s c).desc).filter (fun n => (outputAt s n).touched)).map (fun n => (n, (outputAt s n).committed))
    holdRerelease s c = switchLatches (if utilDown b then b else { b with
      latches := b.latches ++ [{ ctx := c, cyc := 0, at80 := ofUs (wholeUs (now s)), vals, committed := true }] }) := by
  have hb : ((taskAt s c).mode != .hold || commitsNow s (taskAt s c) ||
      gridUs (taskAt s c).desc.period ((taskAt s c).desc.phase + (taskAt s c).desc.commitOffset) (wholeUs (now s)) != wholeUs (now s) ||
      (taskAt s c).rereleased == some (ofUs (wholeUs (now s))) || !runsTasks s || s.clock.clkFault) = false := by
    rw [hm, hn, hr, hc, hg, beq_eq_false_iff_ne.2 hd, bne_self_eq_false, bne_self_eq_false]
    rfl
  unfold holdRerelease
  dsimp only
  rw [hb, if_neg Bool.false_ne_true]

theorem holdMaxTimeout_eq {due : Nat} (hm : (taskAt s c).mode = .hold) (hs : (taskAt s c).stepping = false)
    (hd : (taskAt s c).holdUntil = some due) : holdMaxTimeout s c = if due ≤ s.tick then enterStop s c .hold stDone else s := by
  unfold holdMaxTimeout
  dsimp only
  rw [hd]
  dsimp only
  rw [hm, hs]
  simp only [decide_true, Bool.not_false, Bool.true_and, decide_eq_true_eq]

theorem betweenCycles_idle (h : (taskAt s c).cycle = none ∨ ∃ y, (taskAt s c).cycle = some y ∧ y.phase ≠ .executing) :
    betweenCycles (taskAt s c) = true := by
  unfold betweenCycles
  rcases h with h | ⟨y, h, hp⟩
  · rw [h]
  · rw [h]
    exact bne_iff_ne.2 hp

theorem betweenCycles_executing {y : Cycle} (h : (taskAt s c).cycle = some y) (hp : y.phase = .executing) : betweenCycles (taskAt s c) = false := by
  unfold betweenCycles
  rw [h]
  exact bne_eq_false_iff_eq.2 hp

/-! ### The foundation program, the journal and reservations -/

/-- The foundation program is abandoned with its pass failed (R127). -/
theorem endFoundation_bad :
    endFoundation s true = raiseEvent { dropPacket s 0 with
      foundation := { s.foundation with running := false }
      seq := { (dropPacket s 0).seq with passFailed := (dropPacket s 0).seq.passFailed.or (some 0) } } [0] 6 (roomUnit 8) (stFault .state) [] := by
  have hp : (if (true && (dropPacket s 0).seq.passFailed.isNone) = true then some 0 else (dropPacket s 0).seq.passFailed) =
      (dropPacket s 0).seq.passFailed.or (some 0) := by
    cases (dropPacket s 0).seq.passFailed <;> rfl
  rw [← hp]
  rfl

theorem foundationTicks_eq : foundationTicks = 75000000000 := by decide

theorem foundationTimeout_running (h : s.foundation.running = true) :
    exec .foundationTimeout s = .next (if s.foundation.startedTick + 75000000000 ≤ s.tick then endFoundation s true else s) := by
  have hb : (s.foundation.running && decide (s.foundation.startedTick + foundationTicks ≤ s.tick)) =
      decide (s.foundation.startedTick + 75000000000 ≤ s.tick) := by
    rw [h, foundationTicks_eq, Bool.true_and]
  refine next_congr ?_
  rw [hb]
  exact ite_congr decide_eq_true_eq (fun _ => rfl) (fun _ => rfl)

theorem journalWrite_record {r : JournalRec} {rest : List JournalRec} (h : s.journal.rebuilding = false ∨ s.boot.warm = true)
    (hr : s.journal.staging = r :: rest) :
    journalWrite s = { s with journal := { s.journal with staging := rest, written := s.journal.written ++ [r] } } := by
  have hb : (s.journal.rebuilding && !s.boot.warm) = false := by
    rcases h with h | h <;> rw [h]
    · rfl
    · exact Bool.and_false _
  unfold journalWrite
  rw [hb, if_neg Bool.false_ne_true, hr]

theorem journalWrite_checkpoint (h : s.journal.rebuilding = true) (hw : s.boot.warm = false) :
    journalWrite s = { s with journal := { s.journal with
      checkpoint := checkpointImage s, written := [], staging := [], broken := false, rebuilding := false } } :=
  if_pos (by rw [h, hw]; rfl)

/-- A reservation lapses where it is the task's and its end has come (R96). -/
theorem lapse_eq (t : Time80) (a : Attach) :
    (match a.who, a.reservedUntil with
      | .task k _, some x => if k = c && reached t x then { a with reservedUntil := none } else a
      | _, _ => a) = lapse t c a := by
  unfold lapse
  cases a.who with
  | task k b =>
    cases a.reservedUntil with
    | none => simp only [Bool.false_eq_true, and_false, if_false]
    | some x => simp only [Bool.and_eq_true, decide_eq_true_eq]
  | session n h k => simp only [Bool.false_eq_true, false_and, if_false]
  | engine p => simp only [Bool.false_eq_true, false_and, if_false]
  | reply => simp only [Bool.false_eq_true, false_and, if_false]

theorem releaseReservation_eq : releaseReservation s c = { s with larder := { s.larder with
    queues := s.larder.queues.map (fun e => (e.1, { e.2 with attached := e.2.attached.map (lapse (now s) c) })) } } := by
  rw [← funext (lapse_eq (c := c) (now s))]
  rfl

end

/-- Settles O41: each event by the mode, the cycle or the record that it is about. -/
theorem taskModeEvents : Obligations.TaskModeEvents := by
  intro s c
  refine ⟨fun p h => ⟨fun hs => ?_, fun hs => ?_⟩, fun h => ?_, fun hm hn hr hc hg hd => ?_, rfl, fun due hm hs hd => ?_, fun h => ?_,
    fun y hy hp => ?_, fun h => ?_, fun r rest h hr => ?_, fun h hw => ?_, ?_⟩
  · exact next_congr ((modeTransition_due h).trans (if_pos hs))
  · exact next_congr ((modeTransition_due h).trans (if_neg (Bool.eq_false_iff.1 hs)))
  · exact next_congr (modeTransition_none h)
  · exact next_congr (holdRerelease_due hm hn hr hc hg hd)
  · exact next_congr (holdMaxTimeout_eq hm hs hd)
  · exact next_congr (if_pos (betweenCycles_idle h))
  · exact next_congr (if_neg (Bool.eq_false_iff.1 (betweenCycles_executing hy hp)))
  · rw [foundationTimeout_running h, endFoundation_bad]
  · exact next_congr (journalWrite_record h hr)
  · exact next_congr (journalWrite_checkpoint h hw)
  · exact next_congr releaseReservation_eq

end Sys2Proof.Proofs
end

section
/-! Events of the units: register writes, point reads, group answers and the end of a loopback test. -/

namespace Sys2Proof.Proofs
open Sys2Proof Sys2Proof.Machine

section
variable {s : State}

/-! ### Register writes -/

theorem clearHalf_eq (p : Nat) (v : BitVec 64) : clearHalf s p v = setPort s p (fun x => { x with
    halfRx := x.halfRx &&& ~~~ v.setWidth 32, halfTx := x.halfTx &&& ~~~ (v >>> 32).setWidth 32 }) := by
  have low : BitVec.ofNat 32 (fld v 0 32) = v.setWidth 32 :=
    BitVec.eq_of_toNat_eq (by rw [fld_low, BitVec.toNat_ofNat, BitVec.toNat_setWidth, Nat.mod_mod])
  have high : BitVec.ofNat 32 (fld v 32 32) = (v >>> 32).setWidth 32 :=
    BitVec.eq_of_toNat_eq (by rw [fld_high, BitVec.toNat_ofNat, BitVec.toNat_setWidth, BitVec.toNat_ushiftRight, Nat.shiftRight_eq_div_pow])
  rw [clearHalf, low, high]

theorem writeRegister_port {p : Nat} (v : BitVec 64) (hp : p < 192) :
    writeRegister (.status (.part { cls := 1, inst := p }) 2) v s = clearHalf s p v :=
  if_pos (by rw [decide_eq_true hp]; rfl)

theorem writeRegister_uplink {i : Nat} (v : BitVec 64) (hi : i < 3) :
    writeRegister (.status (.part { cls := 2, inst := i }) 2) v s = clearHalf s (192 + i) v := by
  simp [writeRegister, hi]

theorem writeRegister_readOnly {u : UnitId} {word : Nat} {v : BitVec 64}
    (h : ∀ p, u = .part p → p.cls ≠ 1 ∧ p.cls ≠ 2 ∧ p.cls ≠ 5 ∧ p.cls ≠ 7) : writeRegister (.status u word) v s = s := by
  cases u with
  | part p =>
    obtain ⟨h1, h2, h5, h7⟩ := h p rfl
    simp only [writeRegister, h1, h2, h5, h7, decide_false, Bool.false_and, Bool.false_eq_true, if_false]
  | module => rfl
  | pair => rfl
  | group l => rfl

/-! ### Point reads -/

section
variable {host suite tag rq : Nat} {target : BitVec 64}

theorem pointRead_nowhere (h : resolve s target = none) :
    pointRead host suite target tag rq s = answerRead (settleAll s) suite target tag rq none (stRefused .address, []) := by
  unfold pointRead
  dsimp only
  rw [h]
  rfl

theorem pointRead_forwards {e : Nat} (h : resolve s target = some (.point e true)) (ha : activeElsewhere s = true) (hf : s.twin.failed = false) :
    pointRead host suite target tag rq s = { s with twin := { s.twin with forwarded := s.twin.forwarded ++ [{
      prio := 0, ptag := false, srcSuite := suite, hostId := host, seq := 0, entered := now s, producer := .session suite host 0
      data := wordBytes [target, pack [(16, 16, tag), (32, 16, rq)]] }] } } := by
  unfold pointRead
  dsimp only
  rw [h]
  exact if_pos (by rw [ha, hf]; rfl)

/-- A target through the pair. -/
def throughPair : Target → Bool
  | .point _ via => via
  | .unit _ => false

/-- A read that this member answers itself (R47, R50). -/
theorem pointRead_here {t : Target} (h : resolve s target = some t) (hv : ∀ e, t = .point e true → activeElsewhere s = false ∨ s.twin.failed = true) :
    (∀ r, findRecord s (targetUnit t) tag rq = some r → pointRead host suite target tag rq s =
      sendCompletion (noteStatus s r.unit r.status) rq none
        { st := r.status, fn := r.code.getD Config.pointReadFn.toNat, tag, suite, payload := r.payload }) ∧
    (findRecord s (targetUnit t) tag rq = none → pointRead host suite target tag rq s =
      answerRead (settleAll s) suite target tag rq (some t) (pointAnswer (settleAll s) suite (some t))) := by
  have here : (throughPair t && activeElsewhere s && !s.twin.failed) = false := by
    cases t with
    | unit u => rfl
    | point e v =>
      cases v with
      | false => rfl
      | true => rcases hv e rfl with h | h <;> simp only [h, Bool.and_false, Bool.not_true, Bool.false_and]
  have judged : pointRead host suite target tag rq s =
      match findRecord s (targetUnit t) tag rq with
      | some r => sendCompletion (noteStatus s r.unit r.status) rq none
          { st := r.status, fn := r.code.getD Config.pointReadFn.toNat, tag, suite, payload := r.payload }
      | none => answerRead (settleAll s) suite target tag rq (some t) (pointAnswer (settleAll s) suite (some t)) := by
    unfold pointRead
    dsimp only
    rw [h]
    refine (if_neg ?_).trans rfl
    cases t <;> exact Bool.eq_false_iff.1 here
  refine ⟨fun r hr => ?_, fun hr => ?_⟩
  · rw [judged, hr]
  · rw [judged, hr]

theorem answerRead_other {t : Option Target} {st : Status} {words : List (BitVec 64)} (h : st ≠ stRefused .threshold) :
    answerRead s suite target tag rq t (st, words) =
      sendCompletion (noteReply s (t.map targetUnit) target tag rq Config.pointReadFn.toNat st words) rq none
        { st, fn := Config.pointReadFn.toNat, tag, suite, payload := words } := by
  unfold answerRead
  dsimp only
  rw [if_neg h]

theorem answerRead_threshold {t : Option Target} {words : List (BitVec 64)} :
    answerRead s suite target tag rq t (stRefused .threshold, words) =
      sendCompletion (noteReply (countThreshold s suite) (t.map targetUnit) target tag rq Config.pointReadFn.toNat (stRefused .threshold) words) rq none
        { st := stRefused .threshold, fn := Config.pointReadFn.toNat, tag, suite, payload := words } := by
  unfold answerRead
  dsimp only
  rw [if_pos rfl]

end

/-! ### Group answers -/

theorem answerGroup_eq (g : GroupCmd) (late : Bool) : answerGroup s g late = groupTold s g (if late then .timeout else .none) := by
  by_cases h : g.members.all (fun n => g.answers.any (fun a => a.1 == n && a.2.cls == .done)) = true
  · have hs : g.members.all (served g) = true := h
    simp only [answerGroup, groupAnswer, groupTold, h, hs, if_true]
  · have hs : ¬ g.members.all (served g) = true := h
    simp only [answerGroup, groupAnswer, groupTold, if_neg h, if_neg hs]

theorem addAnswer_eq (g : GroupCmd) (member : Nat) (st : Status) : addAnswer s g member st = answerJoins s g member st := by
  unfold addAnswer answerJoins
  dsimp only
  rw [answerGroup_eq]
  rfl

theorem memberReply_none {l tag member : Nat} {st : Status} {same : Bool} (h : awaited s l tag member = none) : memberReply l tag member st same s = s := by
  unfold memberReply
  rw [show s.groupCmds.find? _ = none from h]

/-- An answer that the group command awaits: that of the module's own member stands among the answers on their way (R52). -/
theorem memberReply_awaited {l tag member : Nat} {st : Status} {same : Bool} {g : GroupCmd} (h : awaited s l tag member = some g) :
    (member ≠ ownMember s l → memberReply l tag member st same s =
      addAnswer (judgeMember s l member same) g member (if same then st else stRefused .address)) ∧
    (∀ o, member = ownMember s l → s.groupOut.find? (fun o => o.1 == tag && o.2.1 == g.replyQueue) = some o →
      memberReply l tag member st same s = addAnswer { s with groupOut := eraseFirst (· == o) s.groupOut } g member o.2.2) := by
  unfold memberReply
  rw [show s.groupCmds.find? _ = some g from h]
  refine ⟨fun hm => if_neg hm, fun o hm ho => (if_pos hm).trans ?_⟩
  rw [ho]

theorem ticks_50 : ticksMs 50 = 6250000 := by decide

theorem groupMemberTimeout_eq (l tag : Nat) : exec (.groupMemberTimeout ⟨l, tag⟩) s =
    .next (match s.groupCmds.find? (fun g => g.level == l && g.tag == tag && decide (g.sinceTick + 6250000 ≤ s.tick)) with
      | some g => groupTold s g .timeout
      | none => s) := by
  refine next_congr ?_
  rw [ticks_50]
  cases s.groupCmds.find? (fun g => g.level == l && g.tag == tag && decide (g.sinceTick + 6250000 ≤ s.tick)) with
  | none => rfl
  | some g => exact answerGroup_eq g true

/-! ### The end of a loopback test -/

theorem ticks_seconds (n : Nat) : ticksMs (1000 * n) = 125000000 * n := by
  rw [ticksMs]
  omega

theorem loopEnd_of {u : UnitId} {t : LoopTest} {r : LoopResult} (h : tlook s.tests (unitKey u) = some t) :
    loopEnd u r s = if t.depth = 4 ∧ s.tick < t.startTick + 125000000 * t.durationS then s
      else retrainUnit (finishTest s u t (if t.depth = 4 ∨ (r.received = r.sent ∧ r.bad = 0) then stDone else stFault .check) (loopWords r)) u := by
  unfold loopEnd
  rw [h]
  simp only [ticks_seconds, loopStatus, Bool.and_eq_true, Bool.or_eq_true, decide_eq_true_eq]

end

/-- Settles O50: each event by its register, its target, its group command or its test. -/
theorem unitEvents : Obligations.UnitEvents := by
  intro s
  refine ⟨fun u => rfl, fun n v hn => next_congr (if_pos hn), fun p v hp => next_congr ((writeRegister_port v hp).trans (clearHalf_eq p v)),
    fun i v hi => next_congr ((writeRegister_uplink v hi).trans (clearHalf_eq _ v)), fun v => rfl, fun v => rfl,
    fun u word v h => next_congr (writeRegister_readOnly h),
    fun host suite target tag rq => ⟨fun h => ?_, fun e h ha hf => ?_, fun t h hv => ⟨fun r hr => ?_, fun hr => ⟨fun v ht => ?_, fun e via ht =>
      ⟨fun hm => ?_, fun hm => ?_⟩⟩⟩⟩,
    fun l tag member st same => ⟨fun h => ?_, fun g h => ⟨fun hm => ?_, fun hm o ho => ?_⟩⟩, fun l tag g h => ?_, fun l tag h => ?_,
    fun u t r h hd ht => ?_, fun u t r h hd => ?_⟩
  · exact next_congr ((pointRead_nowhere h).trans (answerRead_other (by decide)))
  · exact next_congr (pointRead_forwards h ha hf)
  · exact next_congr ((pointRead_here h hv).1 r hr)
  · subst ht
    exact next_congr (((pointRead_here h hv).2 hr).trans (answerRead_other (by decide)))
  · subst ht
    refine next_congr (((pointRead_here h hv).2 hr).trans ?_)
    rw [pointAnswer, if_pos hm]
    exact answerRead_other (by decide)
  · subst ht
    refine next_congr (((pointRead_here h hv).2 hr).trans ?_)
    rw [pointAnswer, if_neg (Bool.eq_false_iff.1 hm)]
    exact answerRead_threshold
  · exact next_congr (memberReply_none h)
  · exact next_congr (((memberReply_awaited h).1 hm).trans (addAnswer_eq g member _))
  · exact next_congr (((memberReply_awaited h).2 o hm ho).trans (addAnswer_eq g member _))
  · rw [groupMemberTimeout_eq, h]
  · rw [groupMemberTimeout_eq, List.find?_eq_none.2 (fun g hg => ?_)]
    rw [decide_eq_false (Nat.not_le.2 (h g hg)), Bool.and_false]
    exact Bool.false_ne_true
  · exact next_congr ((loopEnd_of h).trans (if_pos ⟨hd, ht⟩))
  · refine next_congr ((loopEnd_of h).trans (if_neg (fun hn => ?_)))
    rcases hd with hd | hd
    · exact hd hn.1
    · exact Nat.not_lt.2 hd hn.2

end Sys2Proof.Proofs
end

section
/-! Events of the inputs and of the output banks. -/

namespace Sys2Proof.Proofs
open Sys2Proof Sys2Proof.Machine

theorem bump_8 (v : Nat) : bump 8 v = min 255 (v + 1) := Nat.min_comm _ _

theorem ticksMs_eq (ms : Nat) : ticksMs ms = 125000 * ms := Nat.mul_comm ms 125000

theorem ticks_1000 : ticksMs 1000 = 125000000 := by decide

section
variable {s : State}

/-! ### Inputs -/

/-- The state in which a filtered edge of input `n` has been counted (R311). -/
def edgeCounted (s : State) (n : Nat) (level : Bool) : State :=
  if level = true ∧ n < 16 ∧ (inputBlock s (n / 8)).countEn.getLsbD (n % 8) = true then
    { s with inputs := { s.inputs with counts := tset 0 s.inputs.counts n ((tget 0 s.inputs.counts n + 1) % 2 ^ 32) } }
  else s

theorem inputChange_eq {n : Nat} (level : Bool) (hn : n ≤ 63) :
    inputChange n level s = if s.boot.vfield = true ∧ inputOn s n = true ∧ s.inputs.state.getLsbD n ≠ level then
        (if utilDown (edgeCounted s n level) = true then
          { edgeCounted s n level with inputs := { (edgeCounted s n level).inputs with state := setBit64 (edgeCounted s n level).inputs.state n level } }
        else wakeFloor (publishInput (edgeCounted s n level) n level))
      else s := by
  have hc : (level && decide (n < 16) && (inputBlock s (n / 8)).countEn.getLsbD (n % 8)) = true ↔
      (level = true ∧ n < 16 ∧ (inputBlock s (n / 8)).countEn.getLsbD (n % 8) = true) := by
    simp only [Bool.and_eq_true, decide_eq_true_eq, and_assoc]
  have hb : (decide (63 < n) || !s.boot.vfield || !inputOn s n || s.inputs.state.getLsbD n == level) = true ↔
      ¬ (s.boot.vfield = true ∧ inputOn s n = true ∧ s.inputs.state.getLsbD n ≠ level) := by
    simp only [Nat.not_lt.2 hn, decide_false, Bool.false_or, Bool.or_eq_true, Bool.not_eq_true', ← Bool.not_eq_true, beq_iff_eq, ne_eq,
      or_assoc, not_and_or, not_not]
  unfold inputChange
  dsimp only
  by_cases h : s.boot.vfield = true ∧ inputOn s n = true ∧ s.inputs.state.getLsbD n ≠ level
  · rw [if_neg (mt hb.1 (not_not.2 h)), if_pos h]
    simp only [hc]
    rfl
  · rw [if_pos (hb.2 h), if_neg h]

theorem inputPin_eq {n mv : Nat} (hn : n ≤ 63) :
    let p := setPin s n (fun p => p.drive (inputBlock s (n / 8)).type3 mv s.tick)
    let level := (pinAt p n).raw != (inputBlock p (n / 8)).invert.getLsbD (n % 8)
    inputPin n mv s = if (inputBlock p (n / 8)).filterUs ≤ p.tick / 125 - (pinAt p n).since / 125 then inputChange n level p else p := by
  refine (if_neg (Nat.not_lt.2 hn)).trans ?_
  unfold filteredLevel samplesAfter
  dsimp only
  split <;> rename_i h
  · split at h
    · rename_i hf
      rw [if_pos hf, ← Option.some.inj h]
    · exact nomatch h
  · split at h
    · exact nomatch h
    · rename_i hf
      rw [if_neg hf]

/-- A self-test is due once TEST_PERIOD has passed since the last (R313). -/
theorem testDue_iff {n : Nat} : testDue s n = true ↔ (inputBlock s (n / 8)).testPeriod ≠ 0 ∧
    ∀ t, tlook s.inputs.tested n = some t → t + 125000 * (1000 * (inputBlock s (n / 8)).testPeriod) ≤ s.tick := by
  unfold testDue
  dsimp only
  rw [Bool.and_eq_true, bne_iff_ne]
  refine and_congr_right (fun _ => ?_)
  cases h : tlook s.inputs.tested n with
  | none => simp only [reduceCtorEq, false_implies, implies_true]
  | some t => simp only [decide_eq_true_eq, ticksMs_eq, Option.some.injEq, forall_eq']

theorem inputTest_eq {n : Nat} {pass : Bool} : inputTest n pass s =
    if n ≤ 63 ∧ s.boot.vfield = true ∧ inputOn s n = true ∧ testDue s n = true then
      (if pass then { s with inputs := { s.inputs with testFail := setBit64 s.inputs.testFail n (!pass), tested := tput s.inputs.tested n s.tick } }
      else raiseEvent { s with inputs := { s.inputs with testFail := setBit64 s.inputs.testFail n (!pass), tested := tput s.inputs.tested n s.tick } }
        [(pointCfg { s with inputs := { s.inputs with testFail := setBit64 s.inputs.testFail n (!pass), tested := tput s.inputs.tested n s.tick } } n).owner, 0]
        4 inputUnit stDone [])
    else s := by
  have hb : (decide (63 < n) || !s.boot.vfield || !inputOn s n || !testDue s n) = true ↔
      ¬ (n ≤ 63 ∧ s.boot.vfield = true ∧ inputOn s n = true ∧ testDue s n = true) := by
    simp only [Bool.or_eq_true, decide_eq_true_eq, Bool.not_eq_true', ← Bool.not_eq_true, or_assoc, not_and_or, Nat.not_le]
  unfold inputTest
  by_cases h : n ≤ 63 ∧ s.boot.vfield = true ∧ inputOn s n = true ∧ testDue s n = true
  · rw [if_neg (mt hb.1 (not_not.2 h)), if_pos h]
  · rw [if_pos (hb.2 h), if_neg h]

/-- VFIELD returns, and the samples of every input begin anew (R309, R404). -/
theorem vfieldReturn_lost (h : s.boot.vfield = false) :
    (if s.boot.vfield then s else settleBanks (resample { s with boot := { s.boot with vfield := true } } (List.range 64))) =
      settleBanks ((List.range 64).foldl (fun b n => setPin b n (fun p => { p with since := b.tick, prior := b.tick }))
        { s with boot := { s.boot with vfield := true } }) := by
  rw [h, if_neg Bool.false_ne_true, resample]

/-! ### Banks -/

theorem serialiseTurnOn_cons {b n : Nat} {rest : List Nat} (h : pendingOutputs s b = n :: rest) :
    serialiseTurnOn b s = if (∀ m ∈ bankOutputs b, isPulseOut s m = true ∨ (outputAt s m).conducting = false) ∧ inDeadTime s b = false ∧
      bankClosed s b = true then turnOn s n else s := by
  have hb : ((bankOutputs b).any (fun m => !isPulseOut s m && (outputAt s m).conducting) || inDeadTime s b || !bankClosed s b) = true ↔
      ¬ ((∀ m ∈ bankOutputs b, isPulseOut s m = true ∨ (outputAt s m).conducting = false) ∧ inDeadTime s b = false ∧ bankClosed s b = true) := by
    simp only [Bool.or_eq_true, List.any_eq_true, Bool.and_eq_true, Bool.not_eq_true', ← Bool.not_eq_true, not_and_or, not_forall, not_or, not_not,
      or_assoc, exists_prop]
  unfold serialiseTurnOn
  rw [h]
  dsimp only
  by_cases hi : (∀ m ∈ bankOutputs b, isPulseOut s m = true ∨ (outputAt s m).conducting = false) ∧ inDeadTime s b = false ∧ bankClosed s b = true
  · rw [if_neg (mt hb.1 (not_not.2 hi)), if_pos hi]
  · rw [if_pos (hb.2 hi), if_neg hi]

theorem serialiseTurnOn_nil {b : Nat} (h : pendingOutputs s b = []) : serialiseTurnOn b s = s := by
  unfold serialiseTurnOn
  rw [h]

theorem turnOff_eq (n : Nat) : turnOff s n = outputOff s n := by
  unfold turnOff outputOff
  simp only [Bool.and_eq_true, Bool.not_eq_true']

theorem bankRetry_eq (b : Nat) : bankRetry b s = if (bankAt s b).state = .tripped ∧ (bankAt s b).retryDue ≤ s.tick then
    settleBank (setBank s b (fun x => { x with state := .opened })) b else s := by
  have hb : (decide ((bankAt s b).state ≠ .tripped) || decide (s.tick < (bankAt s b).retryDue)) = true ↔
      ¬ ((bankAt s b).state = .tripped ∧ (bankAt s b).retryDue ≤ s.tick) := by
    simp only [Bool.or_eq_true, decide_eq_true_eq, not_and_or, Nat.not_le, ne_eq]
  unfold bankRetry
  dsimp only
  by_cases h : (bankAt s b).state = .tripped ∧ (bankAt s b).retryDue ≤ s.tick
  · rw [if_neg (mt hb.1 (not_not.2 h)), if_pos h]
  · rw [if_pos (hb.2 h), if_neg h]

theorem openBank_eq (b : Nat) (st : BankState) : openBank s b st = (bankOutputs b).foldl outputOff (setBank s b (fun x => { x with state := st })) := by
  rw [openBank, show turnOff = outputOff from funext fun _ => funext fun n => turnOff_eq n]

theorem bankTrip_closed {b : Nat} (hb : b ≤ 5) (hc : (bankAt s b).state = .closed) :
    let c := (bankOutputs b).foldl (fun s n =>
      if (outputAt s n).touched = true ∧ (outputAt s n).committed = true then setOutput s n (fun o => { o with status := stRefused .power }) else s)
      (trippedBank s b)
    bankTrip b s = raiseEvent c (0 :: bankOwners c b) 4 (utilUnit b) (stRefused .power) [] := by
  refine (if_neg ?_).trans ?_
  · rw [decide_eq_false (Nat.not_lt.2 hb), hc]
    exact Bool.false_ne_true
  · simp only [openBank_eq, bump_8, ticksMs_eq, trippedBank, Bool.and_eq_true]
    rfl

theorem outputShutdown_eq (n : Nat) : outputShutdown n s = if (outputAt s n).conducting = true then
    setOutput (outputOff s n) n (fun o => { o with overload := true, status := stRefused .power }) else s := by
  unfold outputShutdown
  rw [turnOff_eq]
  cases (outputAt s n).conducting <;> rfl

theorem shutterTimeout_eq (n : Nat) :
    let c := (bankAt s (n / 8)).cfg
    let due := (outputAt s n).live = true ∧ isPulseOut s n = false ∧ runsTasks s = true ∧ c.shutterMs ≠ 0 ∧
      (outputAt s n).releasedTick + 125000 * c.shutterMs ≤ s.tick
    let b := setBank (setOutput (driveSafe s n) n (fun o => { o with shutterSafe := true })) (n / 8)
      (fun x => { x with shutterTrips := min 255 (x.shutterTrips + 1) })
    shutterTimeout n s = if due then raiseEvent b [(pointCfg b (0x40 + n)).owner, 0] 5 (engineUnit 5) stDone [] else s := by
  intro c due b
  have hb : (!(outputAt s n).live || isPulseOut s n || !runsTasks s || decide (c.shutterMs = 0) ||
      decide (s.tick < (outputAt s n).releasedTick + ticksMs c.shutterMs)) = true ↔ ¬ due := by
    simp only [due, Bool.or_eq_true, Bool.not_eq_true', ← Bool.not_eq_true, decide_eq_true_eq, ticksMs_eq, not_and_or, Nat.not_le, ne_eq, not_not, or_assoc]
  unfold shutterTimeout
  dsimp only
  by_cases h : due
  · rw [if_neg (mt hb.1 (not_not.2 h)), if_pos h]
    simp only [bump_8]
    rfl
  · rw [if_pos (hb.2 h), if_neg h]

/-! ### Sense flags -/

theorem ticksUs_100 : ticksUs 100 = 12500 := by decide

theorem flagMayRise_iff {n : Nat} {isOpen : Bool} : flagMayRise s n isOpen = true ↔ SenseRises s n isOpen := by
  unfold flagMayRise SenseRises
  dsimp only
  cases isOpen with
  | true => simp only [if_true, Bool.and_eq_true, beq_iff_eq, Bool.not_eq_true', decide_eq_true_eq, ticks_10, and_assoc]
  | false =>
    cases h : (outputAt s n).switched with
    | none => simp only [Bool.false_eq_true, if_false, reduceCtorEq, false_and, exists_false]
    | some t => simp only [Bool.false_eq_true, if_false, decide_eq_true_eq, Option.some.injEq, exists_eq_left', ticksUs_100]

/-- A flag that changes as its times allow (R321). -/
theorem senseFlag_changes {n : Nat} {isOpen rise : Bool} (hn : n ≤ 47)
    (hw : (if isOpen then (outputAt s n).openLoad else (outputAt s n).stuck) = !rise) :
    senseFlag n isOpen rise s =
      if (if rise then flagMayRise s n isOpen else flagMayClear s n isOpen) = true then
        let b := setOutput s n (fun o => if isOpen then { o with openLoad := rise, openSince := s.tick } else { o with stuck := rise, stuckSince := s.tick })
        if rise then raiseEvent b [(pointCfg b (0x40 + n)).owner] 3 (utilUnit (n / 8)) stDone [] else b
      else s := by
  unfold senseFlag
  dsimp only
  rw [hw, decide_eq_false (Nat.not_lt.2 hn)]
  cases rise with
  | true => cases flagMayRise s n isOpen <;> rfl
  | false => cases flagMayClear s n isOpen <;> rfl

theorem senseFlag_stays {n : Nat} {isOpen rise : Bool}
    (h : 47 < n ∨ (if isOpen = true then (outputAt s n).openLoad else (outputAt s n).stuck) = rise ∨ (rise = true ∧ ¬ SenseRises s n isOpen)) :
    senseFlag n isOpen rise s = s := by
  refine if_pos ?_
  rcases h with h | h | ⟨rfl, h⟩
  · rw [decide_eq_true h, Bool.true_or, Bool.true_or]
  · rw [h, beq_self_eq_true, Bool.or_true, Bool.true_or]
  · rw [if_pos rfl, Bool.eq_false_iff.2 (mt flagMayRise_iff.1 h), Bool.not_false, Bool.or_true]

end

/-- Settles O52: each event by the input, the bank or the output that it is about. -/
theorem inputOutputEvents : Obligations.InputOutputEvents := by
  intro s
  refine ⟨fun hc n mv b pass isOpen rise => ⟨next_congr (clocked_off hc), next_congr (clocked_off hc), next_congr (clocked_off hc),
      next_congr (clocked_off hc), next_congr (clocked_off hc), next_congr (clocked_off hc)⟩,
    fun hc => ⟨fun n mv hn => ?_, fun n mv hn => ?_, fun n pass hn hv ho hp ht => ?_, fun n pass h => ?_, fun b n rest h => ⟨fun hi => ?_, fun hi => ?_⟩,
      fun b h => ?_, fun b => ?_, fun b => ?_, fun n hn => ⟨fun hs hr => ?_, fun hs hr => ?_, fun hs => ?_, fun hs => ?_⟩, fun n isOpen rise h => ?_⟩,
    fun b hb hcl => next_congr (bankTrip_closed hb hcl), fun b h => ?_, fun n => next_congr (outputShutdown_eq n),
    fun n => next_congr (shutterTimeout_eq n), fun hv => ⟨next_congr (if_pos hv), next_congr (if_pos hv)⟩,
    fun hv => ⟨next_congr (if_neg (Bool.eq_false_iff.1 hv)), next_congr (vfieldReturn_lost hv)⟩⟩
  · intro p held level counts c
    refine next_congr ((clocked_on hc).trans ((inputPin_eq hn).trans ?_))
    by_cases hh : held
    · refine (if_pos hh).trans ((inputChange_eq level hn).trans ?_)
      exact if_congr (and_iff_right hh).symm rfl rfl
    · exact (if_neg hh).trans (if_neg (fun h => hh h.1)).symm
  · exact next_congr ((clocked_on hc).trans (if_pos hn))
  · exact next_congr ((clocked_on hc).trans (inputTest_eq.trans (if_pos ⟨hn, hv, ho, testDue_iff.2 ⟨hp, ht⟩⟩)))
  · refine next_congr ((clocked_on hc).trans (inputTest_eq.trans (if_neg ?_)))
    rintro ⟨hn, hv, ho, hd⟩
    obtain ⟨hp, ht⟩ := testDue_iff.1 hd
    rcases h with h | h | h | h | ⟨t, h, hlt⟩
    · exact Nat.not_lt.2 hn h
    · exact Bool.false_ne_true (h.symm.trans hv)
    · exact Bool.false_ne_true (h.symm.trans ho)
    · exact hp h
    · exact Nat.not_le.2 hlt (ht t h)
  · exact next_congr ((clocked_on hc).trans ((serialiseTurnOn_cons h).trans (if_pos hi)))
  · exact next_congr ((clocked_on hc).trans ((serialiseTurnOn_cons h).trans (if_neg hi)))
  · exact next_congr ((clocked_on hc).trans (serialiseTurnOn_nil h))
  · exact next_congr ((clocked_on hc).trans (bankRetry_eq b))
  · refine next_congr ((clocked_on hc).trans ?_)
    simp only [ticks_1000, Bool.and_eq_true, decide_eq_true_eq]
  · refine next_congr ((clocked_on hc).trans ((senseFlag_changes (isOpen := false) (rise := true) hn hs).trans ((if_pos ((if_pos rfl).trans (flagMayRise_iff.2 hr))).trans ?_)))
    simp only [Bool.false_eq_true, if_false, if_true]
  · refine next_congr ((clocked_on hc).trans ((senseFlag_changes (isOpen := true) (rise := true) hn hs).trans ((if_pos ((if_pos rfl).trans (flagMayRise_iff.2 hr))).trans ?_)))
    simp only [if_true]
  · refine next_congr ((clocked_on hc).trans ((senseFlag_changes (isOpen := false) (rise := false) hn hs).trans ?_))
    simp only [Bool.false_eq_true, if_false, flagMayClear, ticks_10, decide_eq_true_eq]
  · refine next_congr ((clocked_on hc).trans ((senseFlag_changes (isOpen := true) (rise := false) hn hs).trans ?_))
    simp only [Bool.false_eq_true, if_false, if_true, flagMayClear, ticks_10, decide_eq_true_eq]
  · exact next_congr ((clocked_on hc).trans (senseFlag_stays h))
  · refine next_congr (if_pos ?_)
    rcases h with h | h
    · rw [decide_eq_true h]
      rfl
    · rw [decide_eq_true h, Bool.or_true]

end Sys2Proof.Proofs
end

section
/-! Events of the Hearth's slots, of the metering windows and of the pulse outputs. -/

namespace Sys2Proof.Proofs
open Sys2Proof Sys2Proof.Machine

section
variable {s : State}

/-! ### The sample accepted first -/

/-- Sample `p` of slot `n` comes before sample `q` of slot `m` (R213). -/
def Precedes (n : Nat) (p : Sample) (m : Nat) (q : Sample) : Prop := p.order < q.order ∨ (p.order = q.order ∧ n < m)

/-- The best sample so far, of which `(n, p)` will be the first. -/
def NotBefore (n : Nat) (p : Sample) (best : Option (Nat × Sample)) : Prop := ∀ b, best = some b → b = (n, p) ∨ Precedes n p b.1 b.2

theorem earlierSample_first {n : Nat} {p : Sample} {best : Option (Nat × Sample)} {e : Nat × Slot} (hb : NotBefore n p best)
    (he : e.1 = n) (hp : e.2.pending = some p) : earlierSample best e = some (n, p) := by
  unfold earlierSample
  rw [hp, ← he]
  cases best with
  | none => rfl
  | some b =>
    rcases hb b rfl with rfl | h
    · dsimp only
      rw [he, ite_self]
    · refine if_pos ?_
      rw [Bool.or_eq_true, Bool.and_eq_true, decide_eq_true_eq, decide_eq_true_eq, beq_iff_eq, he]
      exact h

theorem earlierSample_keeps {n : Nat} {p : Sample} {e : Nat × Slot}
    (he : ∀ q, e.2.pending = some q → (e.1 = n ∧ q = p) ∨ Precedes n p e.1 q) : earlierSample (some (n, p)) e = some (n, p) := by
  unfold earlierSample
  cases hq : e.2.pending with
  | none => rfl
  | some q =>
    rcases he q hq with ⟨hn, rfl⟩ | h
    · dsimp only
      rw [hn, ite_self]
    · refine if_neg ?_
      dsimp only
      rw [Bool.or_eq_true, Bool.and_eq_true, decide_eq_true_eq, decide_eq_true_eq, beq_iff_eq]
      simp only [Precedes] at h
      omega

theorem notBefore_earlierSample {n : Nat} {p : Sample} {best : Option (Nat × Sample)} {e : Nat × Slot} (hb : NotBefore n p best)
    (he : ∀ q, e.2.pending = some q → (e.1 = n ∧ q = p) ∨ Precedes n p e.1 q) : NotBefore n p (earlierSample best e) := by
  unfold earlierSample
  cases hq : e.2.pending with
  | none => exact hb
  | some q =>
    have own : NotBefore n p (some (e.1, q)) := by
      rintro b ⟨⟩
      rcases he q hq with ⟨hn, hp⟩ | h
      · exact .inl (Prod.ext hn hp)
      · exact .inr h
    cases best with
    | none => exact own
    | some b =>
      dsimp only
      split
      · exact own
      · exact hb

/-- The fold keeps the first sample once it has met it. -/
theorem foldl_earlierSample {n : Nat} {p : Sample} (l : List (Nat × Slot)) (best : Option (Nat × Sample))
    (hl : ∀ e ∈ l, ∀ q, e.2.pending = some q → (e.1 = n ∧ q = p) ∨ Precedes n p e.1 q) (hb : NotBefore n p best)
    (hex : best = some (n, p) ∨ ∃ x, (n, x) ∈ l ∧ x.pending = some p) : l.foldl earlierSample best = some (n, p) := by
  induction l generalizing best with
  | nil =>
    rcases hex with h | ⟨x, hx, -⟩
    · exact h
    · exact absurd hx List.not_mem_nil
  | cons e l ih =>
    obtain ⟨he, hl⟩ := List.forall_mem_cons.1 hl
    refine ih _ hl (notBefore_earlierSample hb he) ?_
    rcases hex with rfl | ⟨x, hx, hp⟩
    · exact .inl (earlierSample_keeps he)
    · rcases List.mem_cons.1 hx with h | h
      · exact .inl (earlierSample_first hb (by rw [← h]) (by rw [← h]; exact hp))
      · exact .inr ⟨x, h, hp⟩

theorem nextSample_first {n : Nat} {p : Sample} (h : FirstSample s n p) : nextSample s = some (n, p) :=
  (if_neg h.role).trans (foldl_earlierSample _ none h.first (fun _ hb => absurd hb (by exact nofun)) (.inr h.sample))

theorem nextSample_none (h : s.twin.role = .standby ∨ ∀ e ∈ s.hearth.slots, e.2.pending = none) : nextSample s = none := by
  rcases h with h | h
  · exact if_pos h
  · have hfold : ∀ l : List (Nat × Slot), (∀ e ∈ l, e.2.pending = none) → l.foldl earlierSample none = none := by
      intro l hl
      induction l with
      | nil => rfl
      | cons e l ih =>
        obtain ⟨he, hl⟩ := List.forall_mem_cons.1 hl
        rw [List.foldl_cons, show earlierSample none e = none by unfold earlierSample; rw [he]]
        exact ih hl
    rw [nextSample, hfold _ h, ite_self]

/-! ### TIMER slots -/

/-- A TIMER slot triggers at each instant of its period (R212). -/
theorem timer_instant {us period phase : Nat} (h0 : period ≠ 0) (hp : phase < period) :
    (us + period - phase % period) % period = 0 ↔ us % period = phase := by
  rw [Nat.mod_eq_of_lt hp]
  have hr := Nat.mod_lt us (Nat.pos_of_ne_zero h0)
  have hd := Nat.div_add_mod us period
  have hm : (us + period - phase) % period = (us % period + period - phase) % period := by
    conv_lhs => rw [← hd]
    rw [show period * (us / period) + us % period + period - phase = (us % period + period - phase) + period * (us / period) by omega,
      Nat.add_mul_mod_self_left]
  rw [hm]
  by_cases h : phase ≤ us % period
  · rw [show us % period + period - phase = (us % period - phase) + period by omega, Nat.add_mod_right, Nat.mod_eq_of_lt (by omega)]
    omega
  · rw [Nat.mod_eq_of_lt (by omega)]
    omega

theorem timerTrigger_eq (n : Nat) :
    let b := settleAll s
    let x := slotAt b n
    let us := wholeUs (now b)
    let due := x.inUse = true ∧ x.timer = true ∧ x.timerPeriod ≠ 0 ∧ us % x.timerPeriod = x.timerPhase ∧ x.lastTrigger ≠ some us ∧
      commitsDue b = false ∧ resetting b x.suite = false ∧ b.twin.role ≠ .standby
    (x.timerPeriod ≠ 0 → x.timerPhase < x.timerPeriod) →
    timerTrigger s n = if due then
      (acceptSample (setSlot b n (fun x => { x with lastTrigger := some us })) n (signed 16 (pointVal b x.srcPoint).v.toNat)).s else b := by
  intro b x us due hp
  have hb : (x.inUse && x.timer && x.timerPeriod != 0 && (us + x.timerPeriod - x.timerPhase % x.timerPeriod) % x.timerPeriod == 0 &&
      x.lastTrigger != some us && !commitsDue b && !resetting b x.suite && b.twin.role != .standby) = true ↔ due := by
    simp only [due, Bool.and_eq_true, bne_iff_ne, beq_iff_eq, Bool.not_eq_true', and_assoc]
    refine and_congr_right fun _ => and_congr_right fun _ => and_congr_right fun h0 => ?_
    rw [timer_instant h0 (hp h0)]
  unfold timerTrigger
  dsimp only
  by_cases h : due
  · rw [if_pos (hb.2 h), if_pos h]
  · rw [if_neg (mt hb.1 h), if_neg h]

/-! ### Metering windows -/

/-- A window judges the trim by its frequency (R328, R384). -/
theorem trim_judged (w : MeterWindow) (c : CircuitCfg) :
    (!phasePresent w c 0 || !mainsRate (windowFreq w c)) = true ↔
      (phasePresent w c 0 = false ∨ (windowFreq w c).1 < 45 * ((windowFreq w c).2 : Int) ∨ 65 * ((windowFreq w c).2 : Int) < (windowFreq w c).1) := by
  simp only [mainsRate, Bool.or_eq_true, Bool.not_eq_true', Bool.and_eq_false_iff, decide_eq_false_iff_not, not_le]

theorem windowEnd_eq (w : MeterWindow) :
    let c0 := (circuitAt s 0).cfg
    let freq := windowFreq w c0
    let outside := phasePresent w c0 0 = false ∨ freq.1 < 45 * (freq.2 : Int) ∨ 65 * (freq.2 : Int) < freq.1
    let b := if outside then abandonTrim s 2 else trimMains s c0.hz60 (if c0.hz60 = true then 12 else 10)
    let b := (List.range 8).foldl (fun s m =>
      if (circuitAt s m).cfg.enable = false then s
      else if carriedHere s (circuitAt s m).cfg = true then measureCircuit s m w else missCircuit s m) b
    let b := (List.range 8).foldl takeCircuit (answerReads (writeRegisters b))
    windowEnd w s = if windowEnds w c0 = true then writeRegisters (takeRegisters (takePulses b)) else s := by
  unfold windowEnd
  simp only [trim_judged, windowCycles, Bool.not_eq_true']
  cases windowEnds w (circuitAt s 0).cfg <;> rfl

theorem quantitiesArrive_eq (m : Nat) (vals : List PointVal) : quantitiesArrive m vals s =
    if m ≤ 7 ∧ (circuitAt s m).cfg.enable = true ∧ carriedHere s (circuitAt s m).cfg = false ∧ s.twin.role = .active then
      setCircuit (((vals.take 46).mapIdx (fun o v => (o, v))).foldl (fun s e => setPoint s (quantity m e.1) e.2) s) m
        (fun x => { x with stale := false, missed := 0 })
    else s := by
  have hb : (decide (7 < m) || !(circuitAt s m).cfg.enable || carriedHere s (circuitAt s m).cfg || decide (s.twin.role ≠ .active)) = true ↔
      ¬ (m ≤ 7 ∧ (circuitAt s m).cfg.enable = true ∧ carriedHere s (circuitAt s m).cfg = false ∧ s.twin.role = .active) := by
    simp only [Bool.or_eq_true, decide_eq_true_eq, Bool.not_eq_true', ← Bool.not_eq_true, or_assoc, not_and_or, Nat.not_le, not_not, ne_eq]
  unfold quantitiesArrive
  dsimp only
  by_cases h : m ≤ 7 ∧ (circuitAt s m).cfg.enable = true ∧ carriedHere s (circuitAt s m).cfg = false ∧ s.twin.role = .active
  · rw [if_neg (mt hb.1 (not_not.2 h)), if_pos h]
  · rw [if_pos (hb.2 h), if_neg h]

theorem meterFlashWrite_eq :
    (if s.boot.phase ≠ .running || s.tick < s.meter.flashDue then s
      else { saveMeter s with meter := { (saveMeter s).meter with flashDue := (saveMeter s).tick + ticksMs 10000 } }) =
    if s.boot.phase = .running ∧ s.meter.flashDue ≤ s.tick then
      { saveMeter s with meter := { (saveMeter s).meter with flashDue := (saveMeter s).tick + 1250000000 } } else s := by
  have hb : (decide (s.boot.phase ≠ .running) || decide (s.tick < s.meter.flashDue)) = true ↔ ¬ (s.boot.phase = .running ∧ s.meter.flashDue ≤ s.tick) := by
    simp only [Bool.or_eq_true, decide_eq_true_eq, not_and_or, Nat.not_le, ne_eq]
  rw [ticks_10000]
  by_cases h : s.boot.phase = .running ∧ s.meter.flashDue ≤ s.tick
  · rw [if_neg (mt hb.1 (not_not.2 h)), if_pos h]
  · rw [if_pos (hb.2 h), if_neg h]

/-! ### Pulses -/

theorem setPulse_congr {k : Nat} {f g : PulseOut → PulseOut} (h : f (pulseAt s k) = g (pulseAt s k)) : setPulse s k f = setPulse s k g := by
  have : tmod {} s.meter.pulses k f = tmod {} s.meter.pulses k g := congrArg (tset ({} : PulseOut) s.meter.pulses k) h
  unfold setPulse
  rw [this]

theorem pulseWidth_eq (p : PulseOut) (d : Nat) : pulseWidth p d = match p.lastDue with
    | none => 125000 * p.widthMs
    | some l => min (125000 * p.widthMs) (max 125000 ((d - l) / 2)) := by
  unfold pulseWidth
  rw [ticks_1, ticksMs_eq] <;> cases p.lastDue <;> rfl

theorem pulseStart_cons {k d : Nat} {rest : List Nat} (h : (pulseAt s k).due = d :: rest) :
    pulseStart k s = if k ≤ 3 ∧ (pulseAt s k).enable = true ∧ (pulseAt s k).active = false ∧ (pulseAt s k).inGap = false ∧ d ≤ s.tick ∧
        runsTasks s = true ∧ bankClosed s 5 = true then
      setPulse (conduct s (44 + k) true) k (fun p => { p with
        due := rest, lastDue := some d, active := true, width := pulseWidth (pulseAt s k) d
        endTick := (conduct s (44 + k) true).tick + pulseWidth (pulseAt s k) d })
    else s := by
  have hb : (decide (3 < k) || !(pulseAt s k).enable || (pulseAt s k).active || (pulseAt s k).inGap || decide (s.tick < d) || !runsTasks s ||
      !bankClosed s 5) = true ↔ ¬ (k ≤ 3 ∧ (pulseAt s k).enable = true ∧ (pulseAt s k).active = false ∧ (pulseAt s k).inGap = false ∧ d ≤ s.tick ∧
        runsTasks s = true ∧ bankClosed s 5 = true) := by
    simp only [Bool.or_eq_true, decide_eq_true_eq, Bool.not_eq_true', ← Bool.not_eq_true, or_assoc, not_and_or, Nat.not_le, not_not]
  unfold pulseStart
  dsimp only
  rw [h]
  dsimp only
  by_cases hbegin : k ≤ 3 ∧ (pulseAt s k).enable = true ∧ (pulseAt s k).active = false ∧ (pulseAt s k).inGap = false ∧ d ≤ s.tick ∧
        runsTasks s = true ∧ bankClosed s 5 = true
  · rw [if_neg (mt hb.1 (not_not.2 hbegin)), if_pos hbegin]
  · rw [if_pos (hb.2 hbegin), if_neg hbegin]

theorem pulseStart_nil {k : Nat} (h : (pulseAt s k).due = []) : pulseStart k s = s := by
  unfold pulseStart
  dsimp only
  rw [h]

/-- A pulse ends with a gap of its own width (R333). -/
theorem pulseEnd_eq (k : Nat) :
    let p := pulseAt s k
    let b := conduct s (44 + k) false
    pulseEnd k s = if s.tick < p.endTick then s
      else if p.active = true then setPulse b k (fun q => { q with active := false, inGap := true, endTick := b.tick + p.width })
      else if p.inGap = true then setPulse s k (fun p => { p with inGap := false })
      else s := by
  intro p b
  have same : setPulse b k (fun q => { q with active := false, inGap := true, endTick := s.tick + q.width }) =
      setPulse b k (fun q => { q with active := false, inGap := true, endTick := b.tick + p.width }) := setPulse_congr rfl
  rw [← same]
  rfl

end

/-- Settles O53: each event by its sample, its slot, its window or its pulse. -/
theorem hearthAndMeterEvents : Obligations.HearthAndMeterEvents := by
  intro s
  refine ⟨fun n p h => ?_, fun h => ?_, fun n hp => next_congr (timerTrigger_eq n hp), fun hc w m vals k => ⟨next_congr (clocked_off hc),
    next_congr (clocked_off hc), next_congr (clocked_off hc), next_congr (clocked_off hc)⟩,
    fun hc => ⟨fun w => next_congr ((clocked_on hc).trans (windowEnd_eq w)), fun m vals => next_congr ((clocked_on hc).trans (quantitiesArrive_eq m vals)),
      next_congr ((clocked_on hc).trans meterFlashWrite_eq), fun k d rest h => ?_, fun k h => next_congr ((clocked_on hc).trans (pulseStart_nil h))⟩,
    fun k => next_congr (pulseEnd_eq k)⟩
  · refine next_congr ?_
    rw [nextSample_first h]
    dsimp only
    rw [evaluateSlot]
    simp only [bump_16]
  · refine next_congr ?_
    rw [nextSample_none h]
  · refine next_congr ((clocked_on hc).trans ((pulseStart_cons h).trans ?_))
    rw [pulseWidth_eq] <;> rfl

end Sys2Proof.Proofs
end

section
/-! Events of the pair: heartbeats, paths, meeting, the clock, lanes, reclaim and switchover. -/

namespace Sys2Proof.Proofs
open Sys2Proof Sys2Proof.Machine

section
variable {s : State} {hb : Heartbeat}

/-! ### Heartbeats -/

theorem beginSwitch_eq : beginSwitch s = if s.twin.tsw = none then { s with twin := { s.twin with tsw := some (switchTime s), tx := none } } else s := by
  unfold beginSwitch
  cases s.twin.tsw <;> rfl

theorem ticksUs_50 : ticksUs 50 = 6250 := by decide

theorem sendHeartbeat_eq :
    let t := s.twin
    let b := { s with twin := { t with hbSentTick := s.tick, strobeWord := strobeWord s, token := some (heartbeatToken s), wasHealthy := healthy s } }
    sendHeartbeat s = if t.role = .none ∨ s.addr.paired = false ∨ s.tick < t.hbSentTick + 6250 then s
      else if t.role = .active ∧ t.inStep = true ∧ t.wasHealthy = true ∧ healthy s = false then beginSwitch b else b := by
  unfold sendHeartbeat
  simp only [ticksUs_50, Bool.or_eq_true, Bool.and_eq_true, decide_eq_true_eq, Bool.not_eq_true', or_assoc, and_assoc]
  rfl

/-- A heartbeat is heard where the model takes it (R224, R225). -/
theorem heard_iff : Heard s hb ↔
    (decide (s.twin.role = .none) || !hb.crcOk || (!hb.strobe && landingDown s) || (hb.strobe && testing s (linkUnit 6))) = false := by
  simp only [Bool.or_eq_false_iff, decide_eq_false_iff_not, Bool.not_eq_false']
  constructor
  · rintro ⟨hr, hc, hp⟩
    refine ⟨⟨⟨hr, hc⟩, ?_⟩, ?_⟩ <;> rcases hp with ⟨h1, h2⟩ | ⟨h1, h2⟩ <;> rw [h1]
    · exact h2
    · rfl
    · rfl
    · exact h2
  · rintro ⟨⟨⟨hr, hc⟩, hl⟩, ht⟩
    refine ⟨hr, hc, ?_⟩
    cases hs : hb.strobe with
    | false => exact .inl ⟨rfl, by rw [hs] at hl; exact hl⟩
    | true => exact .inr ⟨rfl, by rw [hs] at ht; exact ht⟩

theorem kept_eq : setTwin (setPath s hb.strobe { alive := true, lastTick := s.tick }) (fun t => { t with
    partnerRole := hb.role % 8, partnerInStep := hb.inStep, partnerHealthy := hb.healthy, failed := false
    laneFails := if hb.strobe then t.laneFails else [], partnerDseq := if hb.strobe then t.partnerDseq else hb.dseq % 2 ^ 32
    epoch := if t.role != .active && hb.role == 2 && !hb.strobe then hb.epoch % 2 ^ 32 else t.epoch }) = heartbeatKept s hb := by
  unfold heartbeatKept setTwin setPath setTwin
  simp only [Bool.and_eq_true, bne_iff_ne, beq_iff_eq, Bool.not_eq_true', and_assoc]

/-- A heartbeat that is heard (R224 to R226, R234, R240). -/
theorem hearPartner_heard (h : Heard s hb) :
    hearPartner hb s =
      if (decide ((heartbeatKept s hb).twin.role = .active) && decide (hb.role = 2) && stepsDown (heartbeatKept s hb) hb) = true then
        setTwin (stepDown (heartbeatKept s hb)) (fun t => { t with epoch := if hb.strobe then t.epoch else hb.epoch % 2 ^ 32 })
      else if needsSnapshot (heartbeatKept s hb) hb = true then synchronise (heartbeatKept s hb)
      else learnSwitch hb (heartbeatKept s hb) := by
  unfold hearPartner
  rw [heard_iff.1 h, if_neg Bool.false_ne_true]
  dsimp only
  rw [kept_eq]

theorem hearPartner_lost (h : ¬ Heard s hb) : hearPartner hb s = s :=
  if_pos (by rwa [heard_iff, Bool.not_eq_false] at h)

/-- What a heartbeat keeps is not what decides about a snapshot. -/
theorem heartbeatKept_twin : (heartbeatKept s hb).twin.role = s.twin.role ∧ (heartbeatKept s hb).twin.transferKey = s.twin.transferKey ∧
    (heartbeatKept s hb).twin.tsw = s.twin.tsw ∧ (heartbeatKept s hb).twin.syncing = s.twin.syncing ∧
    (heartbeatKept s hb).twin.syncTick = s.twin.syncTick := by
  unfold heartbeatKept
  cases hb.strobe <;> exact ⟨rfl, rfl, rfl, rfl, rfl⟩

theorem syncTicks_eq : syncTicks = 37500000 := by decide

theorem needsSnapshot_iff : needsSnapshot (heartbeatKept s hb) hb = true ↔ AsksSnapshot s hb := by
  obtain ⟨hr, hk, hw, hs, ht⟩ := heartbeatKept_twin (s := s) (hb := hb)
  simp only [needsSnapshot, hr, hk, hw, hs, ht, syncTicks_eq, Bool.and_eq_true, Bool.or_eq_true, beq_iff_eq, Bool.not_eq_true', decide_eq_true_eq,
    Option.isNone_iff_eq_none, and_assoc]
  exact ⟨fun ⟨h1, h2, h3, h4, h5, h6, h7⟩ => ⟨h1, h2, ⟨h3, h4⟩, h5, h6, h7⟩, fun ⟨h1, h2, ⟨h3, h4⟩, h5, h6, h7⟩ => ⟨h1, h2, h3, h4, h5, h6, h7⟩⟩

theorem learnSwitch_eq : learnSwitch hb s = toldSwitch s hb := by
  have hc : (s.twin.role != .standby || s.twin.tsw.isSome || hb.strobe || hb.role != 2 || hb.tsw.isNone) = true ↔
      ¬ (s.twin.role = .standby ∧ s.twin.tsw = none ∧ hb.strobe = false ∧ hb.role = 2 ∧ hb.tsw ≠ none) := by
    simp only [Bool.or_eq_true, bne_iff_ne, Option.isSome_iff_ne_none, Option.isNone_iff_eq_none, not_and_or, or_assoc, not_not,
      Bool.not_eq_false, ne_eq]
  unfold learnSwitch toldSwitch
  by_cases h : s.twin.role = .standby ∧ s.twin.tsw = none ∧ hb.strobe = false ∧ hb.role = 2 ∧ hb.tsw ≠ none
  · rw [if_neg (mt hc.1 (not_not.2 h)), if_pos h]
    rfl
  · rw [if_pos (hc.2 h), if_neg h]

theorem hearPartner_stepsDown (h : Heard s hb) (hr : s.twin.role = .active) (h2 : hb.role = 2) (hd : stepsDown (heartbeatKept s hb) hb = true) :
    hearPartner hb s = setTwin (stepDown (heartbeatKept s hb)) (fun t => { t with epoch := if hb.strobe then t.epoch else hb.epoch % 2 ^ 32 }) :=
  (hearPartner_heard h).trans (if_pos (by rw [heartbeatKept_twin.1, hr, h2, hd]; rfl))

theorem hearPartner_stands (h : Heard s hb) (hn : s.twin.role ≠ .active ∨ hb.role ≠ 2 ∨ stepsDown (heartbeatKept s hb) hb = false) :
    hearPartner hb s = if needsSnapshot (heartbeatKept s hb) hb = true then synchronise (heartbeatKept s hb) else learnSwitch hb (heartbeatKept s hb) := by
  refine (hearPartner_heard h).trans (if_neg ?_)
  rw [heartbeatKept_twin.1, Bool.and_eq_true, Bool.and_eq_true, decide_eq_true_eq, decide_eq_true_eq]
  rintro ⟨⟨hr, h2⟩, hd⟩
  rcases hn with hn | hn | hn
  · exact hn hr
  · exact hn h2
  · exact Bool.false_ne_true (hn.symm.trans hd)

/-! ### Paths, meeting and seeking -/

theorem killPath_eq (strobe : Bool) :
    let t := s.twin
    let p := if strobe = true then t.strobe else t.landing
    let other := if strobe = true then t.landing else t.strobe
    let b := { s with twin := if strobe = true then { t with strobe := { p with alive := false } } else { t with landing := { p with alive := false } } }
    killPath strobe s = if p.alive = false ∨ s.tick < p.lastTick + deadTicks s then s
      else if other.alive = true then raiseEvent b [0] 5 landingUnit stDone [] else partnerFailed b := by
  unfold killPath
  simp only [Bool.or_eq_true, Bool.not_eq_true', decide_eq_true_eq]
  cases strobe <;> rfl

theorem partnersAgree_iff {p : PartnerInfo} : Machine.partnerOk s p = true ↔ PartnerAgrees s p := by
  simp only [Machine.partnerOk, Bool.and_eq_true, Bool.or_eq_true, beq_iff_eq]
  exact ⟨fun ⟨⟨⟨h1, h2⟩, h3⟩, h4⟩ => ⟨h1, h2, h3, h4⟩, fun ⟨h1, h2, h3, h4⟩ => ⟨⟨⟨h1, h2⟩, h3⟩, h4⟩⟩

theorem followPartner_eq : followPartner s = followerState s := by
  unfold followPartner followerState setTwin
  simp only [bump_16]

theorem decideRoles_eq : decideRoles s = rolesDecided s := by
  unfold decideRoles rolesDecided soleActive
  rw [followPartner_eq]

theorem differ_eq : differ s = differenceNoted s := rfl

theorem meetPartner_eq (p : PartnerInfo) : meetPartner p s = metPartner s p (Machine.partnerOk s p) := by
  unfold meetPartner metPartner
  cases s.twin.role with
  | seeking => simp only [differ_eq, followPartner_eq, decideRoles_eq, Bool.not_eq_true']; rfl
  | active => simp only [differ_eq]; rfl
  | standby => simp only [differ_eq, decideRoles_eq, Bool.or_eq_true, decide_eq_true_eq]; rfl
  | none => rfl
  | updating => rfl

/-- Where the Landing link is up, partners that meet compare (R222). -/
theorem partnerMet_up {p : PartnerInfo} {agrees : Bool} (hl : landingDown s = false)
    (ha : Machine.partnerOk { s with twin := { s.twin with metSerial := p.serial } } p = agrees) :
    exec (.partnerMet p) s = .next (settleEpochs s (metPartner { s with twin := { s.twin with metSerial := p.serial } } p agrees)) := by
  subst ha
  exact next_congr ((if_neg (Bool.eq_false_iff.1 hl)).trans (congrArg (settleEpochs s) (meetPartner_eq p)))

theorem seekAlone_eq : seekAlone s =
    if s.twin.role = .seeking ∧ max s.twin.seekTick (max s.twin.landing.lastTick s.twin.strobe.lastTick) + 250000000 ≤ s.tick then soleActive s else s := by
  unfold seekAlone
  simp only [ticks_2000, Bool.and_eq_true, decide_eq_true_eq]
  rfl

/-! ### The clock and the lanes -/

/-- The last exchange of timestamps was less than a millisecond ago (R227). -/
def exchangedNow (s : State) : Bool := match s.twin.exchange with
  | some (_, tick) => decide (s.tick < tick + ticksMs 1)
  | none => false

theorem exchangedNow_iff : exchangedNow s = false ↔ ∀ x, s.twin.exchange = some x → x.2 + 125000 ≤ s.tick := by
  rw [exchangedNow, ticks_1]
  cases s.twin.exchange with
  | none => simp only [reduceCtorEq, false_implies, implies_true]
  | some x => simp only [decide_eq_false_iff_not, not_lt, Option.some.injEq, forall_eq']

theorem followClock_eq (t : Time80) : followClock t s = if (s.twin.role != .standby || landingDown s || exchangedNow s) = true then s else { s with
    free := s.free + 1
    clock := { s.clock with time := taddNs t (((Config.freeWord s.free).toNat % 21 : Int) - 10), isSet := true, increment := disciplined s t }
    twin := { s.twin with exchange := some (t, s.tick) } } := rfl

theorem followClock_takes {t : Time80} (hr : s.twin.role = .standby) (hl : landingDown s = false)
    (hx : ∀ x, s.twin.exchange = some x → x.2 + 125000 ≤ s.tick) :
    followClock t s = { s with
      free := s.free + 1
      clock := { s.clock with time := taddNs t (((Config.freeWord s.free).toNat % 21 : Int) - 10), isSet := true, increment := disciplined s t }
      twin := { s.twin with exchange := some (t, s.tick) } } := by
  refine (followClock_eq t).trans (if_neg ?_)
  rw [exchangedNow_iff.2 hx, hr, hl]
  exact Bool.false_ne_true

theorem followClock_waits {t : Time80}
    (h : ¬ (s.twin.role = .standby ∧ landingDown s = false ∧ ∀ x, s.twin.exchange = some x → x.2 + 125000 ≤ s.tick)) : followClock t s = s := by
  refine (followClock_eq t).trans (if_pos ?_)
  simp only [not_and_or, ← exchangedNow_iff, Bool.not_eq_false] at h
  rcases h with h | h | h
  · rw [bne_iff_ne.2 h, Bool.true_or, Bool.true_or]
  · rw [h, Bool.or_true, Bool.true_or]
  · rw [h, Bool.or_true]

theorem laneError_eq (lane : Nat) : laneError lane s =
    if 4 ≤ lane ∨ s.twin.lanesUp.getLsbD lane = false then s
    else if tget 0 s.twin.laneFails lane < 3 then
      { s with twin := { s.twin with laneFails := tset 0 s.twin.laneFails lane (tget 0 s.twin.laneFails lane + 1) } }
    else laneLost s lane := by
  unfold laneError laneLost setTwin
  simp only [Bool.or_eq_true, decide_eq_true_eq, Bool.not_eq_true', bump_16, Nat.succ_le_iff, show ∀ n : Nat, (n + 1 ≤ 3) = (n < 3) from fun _ => rfl,
    ← Bool.not_eq_true, ite_not]

/-! ### Switchover -/

theorem switchInstant_due {tsw : Time80} (h : s.twin.tsw = some tsw) (hx : s.twin.tx = none) :
    switchInstant s = if reached (now s) tsw then { s with twin := { s.twin with tx := some (handoverTime s tsw) } } else s := by
  unfold switchInstant
  rw [h, hx]
  rfl

theorem switchInstant_not (h : s.twin.tsw = none ∨ s.twin.tx.isSome = true) : switchInstant s = s := by
  unfold switchInstant
  cases ht : s.twin.tsw with
  | none => rfl
  | some t =>
    cases hx : s.twin.tx with
    | none =>
      rw [ht, hx] at h
      rcases h with h | h
      · exact nomatch h
      · exact nomatch h
    | some x => rfl

theorem switchHandover_due {tsw tx : Time80} (h : s.twin.tsw = some tsw) (hx : s.twin.tx = some tx) :
    switchHandover s = if reached (now s) tx then exchangeRoles tsw tx s else s := by
  unfold switchHandover
  rw [h, hx]

theorem switchHandover_not (h : s.twin.tsw = none ∨ s.twin.tx = none) : switchHandover s = s := by
  unfold switchHandover
  rcases h with h | h
  · rw [h]
  · rw [h]
    cases s.twin.tsw <;> rfl

end

/-- Settles O54: each event by the roles, the paths and the instants of the pair. -/
theorem pairRoles : Obligations.PairRoles := by
  intro s
  refine ⟨next_congr sendHeartbeat_eq, fun hb h => ⟨fun hr h2 hd => next_congr (hearPartner_stepsDown h hr h2 hd), fun ha => ?_, fun hn ha => ?_⟩,
    fun hb h => next_congr (hearPartner_lost h), fun strobe => next_congr (killPath_eq strobe),
    fun p => ⟨fun hl => next_congr (if_pos hl), fun hl ha => partnerMet_up hl (partnersAgree_iff.2 ha),
      fun hl ha => partnerMet_up hl (Bool.eq_false_iff.2 (mt partnersAgree_iff.1 ha))⟩, next_congr seekAlone_eq,
    fun t => ⟨fun ⟨hr, hl, hx⟩ => ?_, fun hn => next_congr (followClock_waits hn)⟩, fun lane => next_congr (laneError_eq lane), ?_,
    fun tsw h hx => next_congr (switchInstant_due h hx), fun h => next_congr (switchInstant_not h), fun tsw tx h hx => next_congr (switchHandover_due h hx),
    fun h => next_congr (switchHandover_not h)⟩
  · have h2 : hb.role ≠ 2 := by
      rw [ha.partner.1]
      decide
    exact next_congr ((hearPartner_stands h (.inr (.inl h2))).trans (if_pos (needsSnapshot_iff.2 ha)))
  · exact next_congr ((hearPartner_stands h hn).trans ((if_neg (mt needsSnapshot_iff.1 ha)).trans learnSwitch_eq))
  · exact ⟨_, by omega, by omega, next_congr (followClock_takes hr hl hx)⟩
  · refine next_congr ?_
    rw [beginSwitch_eq]
    cases reclaimDue s with
    | true => simp only [if_true, true_and]
    | false => simp only [Bool.false_eq_true, if_false, false_and]

end Sys2Proof.Proofs
end

section
/-! Events of the Attic and of the always-on domain. -/

namespace Sys2Proof.Proofs
open Sys2Proof Sys2Proof.Machine

section
variable {s : State}

/-! ### The Attic -/

theorem nextEvent_flight {e : Event} (h : firstWorst s.attic.flight = some e)
    (hf : ∀ f, firstWorst s.attic.taskEvents = some f → f.sev ≤ e.sev) : nextEvent s = some (e, false) := by
  unfold nextEvent
  rw [h]
  cases ht : firstWorst s.attic.taskEvents with
  | none => rfl
  | some f => exact if_neg (Nat.not_lt.2 (hf f ht))

theorem nextEvent_task {e : Event} (h : firstWorst s.attic.taskEvents = some e)
    (hf : ∀ f, firstWorst s.attic.flight = some f → f.sev < e.sev) : nextEvent s = some (e, true) := by
  unfold nextEvent
  rw [h]
  cases ht : firstWorst s.attic.flight with
  | none => rfl
  | some f => exact if_pos (hf f ht)

theorem takeEvent_flight {e : Event} (h : nextEvent s = some (e, false)) :
    takeEvent s = tellLost (writeRecord { s with attic := { s.attic with flight := eraseFirst (· == e) s.attic.flight } } e) := by
  unfold takeEvent
  rw [h]

/-- A task's event returns its credit (R115). -/
theorem taskEventTaken_eq (e : Event) {b : State} (hb : { s with attic := { s.attic with taskEvents := eraseFirst (· == e) s.attic.taskEvents } } = b) :
    (match e.ctx with | some c => setCtx b c (fun x => { x with eventCredits := min 8 (x.eventCredits + 1) }) | none => b) = taskEventTaken s e := by
  subst hb
  unfold taskEventTaken
  cases e.ctx <;> rfl

theorem takeEvent_task {e : Event} (h : nextEvent s = some (e, true)) : takeEvent s = writeRecord (taskEventTaken s e) e := by
  unfold takeEvent
  rw [h]
  exact congrArg (fun b => writeRecord b e) (taskEventTaken_eq e rfl)

theorem takeEvent_none (hf : s.attic.flight = []) (ht : s.attic.taskEvents = []) : takeEvent s = s := by
  have h : nextEvent s = none := by
    unfold nextEvent
    rw [hf, ht]
    rfl
  unfold takeEvent
  rw [h]

theorem scrub_eq (found : List Upset) :
    let b := { s with attic := { s.attic with scrubDue := s.tick + 125 * s.attic.scrubInterval } }
    scrub s found = if s.attic.scrubStop = true ∨ s.tick < s.attic.scrubDue then s
      else nextLine (if s.attic.scrubLine < 2621440 then scrubSram b s.attic.scrubLine found
        else scrubRing b (s.attic.scrubLine - 2621440) found) := by
  unfold scrub
  simp only [Bool.or_eq_true, decide_eq_true_eq, ticksUs_eq, sramLines]

/-! ### Supply and crystal -/

theorem backupSwitch_same {on : Bool} (h : s.mantel.onBackup = on) : backupSwitch on s = s :=
  if_pos (by rw [h]; exact beq_self_eq_true on)

theorem backupSwitch_on (h : s.mantel.onBackup = false) : backupSwitch true s = withMantel s { s.mantel with
    onBackup := true, bakFirst := if s.mantel.bakLatched = true then s.mantel.bakFirst else s.mantel.seconds % 2 ^ 32, bakLatched := true
    bakSwitches := min 65535 (s.mantel.bakSwitches + 1), backupReported := false, window := none } := by
  unfold backupSwitch
  rw [h, ← bump_16]
  rfl

theorem backupSwitch_off (h : s.mantel.onBackup = true) : backupSwitch false s = withMantel s { s.mantel with onBackup := false } := by
  unfold backupSwitch
  rw [h]
  rfl

theorem vbakMeasure_eq (mv : Nat) : exec (.vbakMeasure mv) s = .next (if s.mantel.onBackup = true ∨ s.tick < s.mantel.vbakDue then s
    else withMantel s { s.mantel with
      vbakDue := s.tick + 125000000, batLow := if mv < 2300 then true else if 2400 ≤ mv then false else s.mantel.batLow }) := by
  refine next_congr ?_
  simp only [Bool.or_eq_true, decide_eq_true_eq, ticks_1000]
  rfl

theorem oscStopped_eq (lost : Bool) : oscStopped lost s =
    if s.mantel.onBackup = true ∧ lost = true then withMantel s (lostDomain s.mantel)
    else if s.tick < s.mantel.lastEdge + 500000 then s
    else if s.mantel.oscStop = false ∧ s.mantel.onBackup = false then
      raiseEvent (withMantel s { s.mantel with oscStop := true }) [0] 4 mantelUnit stDone []
    else withMantel s { s.mantel with oscStop := true } := by
  unfold oscStopped
  simp only [Bool.and_eq_true, Bool.not_eq_true', ticks_4]
  rfl

/-! ### SET_RUN and the trim -/

theorem setRunRelease_of {t : Nat} (h : s.mantel.loadAt = some t) : setRunRelease s =
    if !reached (now s) { sec := t, ns := 0 } then s
    else if s.mantel.loadIsReload then
      withMantel s { mantelLoaded s.mantel t s.mantel.halt with
        loadAt := none, loadIsReload := false, phaseSteps := min 65535 (s.mantel.phaseSteps + 1) }
    else (runWaits (withMantel s { s.mantel with loadAt := none })).foldl (fun s r =>
      endWaiting r stDone (withMantel s (mantelLoaded s.mantel ((r.word 3).toNat % 2 ^ 48) false))) (withMantel s { s.mantel with loadAt := none }) := by
  unfold setRunRelease
  rw [h]
  simp only [← bump_16, ← fld_low]
  rfl

theorem setRunRelease_none (h : s.mantel.loadAt = none) : setRunRelease s = s := by
  unfold setRunRelease
  rw [h]

/-- The Mantel clock after a trim window that counted `n` ticks (R384). -/
def windowTrimmed (m : Mantel) (n : Nat) : Mantel :=
  { m with
    trimDone := none, trim := max (-2083) (min 2083 (m.trim - roundDiv (((n : Int) - 33554432) * 100000000) 402653184))
    windows := min 65535 (m.windows + 1) }

theorem trimWindowEnd_of {n : Nat} (h : s.mantel.trimDone = some n) :
    trimWindowEnd s = if s.mantel.trimSrc = 1 ∧ 500000000000 < (phaseError (withMantel s (windowTrimmed s.mantel n))).natAbs ∧ s.mantel.loadAt = none then
        withMantel s { windowTrimmed s.mantel n with loadAt := some ((now s).sec + 1), loadIsReload := true }
      else withMantel s (windowTrimmed s.mantel n) := by
  have trimmed : setMantel s (fun m => { m with trimDone := none, trim := nextTrim m.trim n, windows := bump 16 m.windows }) =
      withMantel s (windowTrimmed s.mantel n) := by
    simp only [bump_16]
    rfl
  unfold trimWindowEnd
  rw [h]
  dsimp only
  rw [trimmed]
  simp only [Bool.and_eq_true, decide_eq_true_eq, Option.isNone_iff_eq_none, and_assoc]
  rfl

/-! ### Wake and tamper -/

theorem mantelWake_eq :
    let k := s.mantel.seconds * 64 + s.mantel.fraction / 512
    mantelWake s = if s.mantel.wakeTicks ≠ 0 ∧ s.mantel.halt = false ∧ k % s.mantel.wakeTicks = 0 ∧ k ∉ s.mantel.wakes then
      withMantel s { s.mantel with
        mwakeN := false, wakeEnd := s.tick + 1953125, wakeCount := (s.mantel.wakeCount + 1) % 65536
        wakes := k :: s.mantel.wakes.filter (fun w => k < w) }
      else s := by
  intro k
  have hb : (decide (s.mantel.wakeTicks = 0) || s.mantel.halt || decide (k % s.mantel.wakeTicks ≠ 0) || s.mantel.wakes.contains k) = true ↔
      ¬ (s.mantel.wakeTicks ≠ 0 ∧ s.mantel.halt = false ∧ k % s.mantel.wakeTicks = 0 ∧ k ∉ s.mantel.wakes) := by
    simp only [Bool.or_eq_true, decide_eq_true_eq, List.contains_iff_mem, not_and_or, not_not, Bool.not_eq_false, or_assoc, ne_eq]
  unfold mantelWake
  dsimp only
  by_cases h : s.mantel.wakeTicks ≠ 0 ∧ s.mantel.halt = false ∧ k % s.mantel.wakeTicks = 0 ∧ k ∉ s.mantel.wakes
  · rw [if_pos h]
    exact if_neg (mt hb.1 (not_not.2 h))
  · rw [if_neg h]
    exact if_pos (hb.2 h)

theorem mwakeNRelease_eq : exec .mwakeNRelease s =
    .next (if s.mantel.mwakeN = false ∧ s.mantel.wakeEnd ≤ s.tick then withMantel s { s.mantel with mwakeN := true } else s) := by
  refine next_congr ?_
  simp only [Bool.and_eq_true, Bool.not_eq_true', decide_eq_true_eq]
  rfl

theorem tamper_eq :
    let b := withMantel s { s.mantel with tamperLatched := true, tamperSec := s.mantel.seconds % 2 ^ 32 }
    exec .tamper s = .next (if s.mantel.tamperLatched = true then s
      else if s.boot.phase = .running then mirrorChanges s (actOnTamper b) (s.cellar.keys.map (·.1)) else b) := rfl

end

/-- Settles O56: each event by the records, the supply, the count or the pin that it is about. -/
theorem atticAndMantelEvents : Obligations.AtticAndMantelEvents := by
  intro s
  refine ⟨fun e h hf => next_congr (takeEvent_flight (nextEvent_flight h hf)), fun e h hf => next_congr (takeEvent_task (nextEvent_task h hf)),
    fun hf ht => next_congr (takeEvent_none hf ht), fun fails => ?_, fun found => next_congr (scrub_eq found),
    fun h => ⟨next_congr (backupSwitch_same h), next_congr (backupSwitch_on h)⟩,
    fun h => ⟨next_congr (backupSwitch_same h), next_congr (backupSwitch_off h)⟩, fun mv => vbakMeasure_eq mv, ⟨Config.vbakCollapsed s.free, ?_⟩,
    fun t h => ⟨fun hn => ?_, fun hr hl => ?_, fun hr hl => ?_⟩, fun h => next_congr (setRunRelease_none h), fun n h => ?_, fun n h => ?_,
    next_congr mantelWake_eq, mwakeNRelease_eq, tamper_eq⟩
  · refine next_congr ?_
    rw [ticksMs_eq]
  · exact next_congr (oscStopped_eq _)
  · refine next_congr ((setRunRelease_of h).trans (if_pos ?_))
    rw [Bool.eq_false_iff.2 hn]
    rfl
  · refine next_congr ((setRunRelease_of h).trans ((if_neg ?_).trans (if_pos hl)))
    rw [hr]
    exact Bool.false_ne_true
  · refine next_congr ((setRunRelease_of h).trans ((if_neg ?_).trans (if_neg (Bool.eq_false_iff.1 hl))))
    rw [hr]
    exact Bool.false_ne_true
  · exact next_congr ((if_pos h).trans (trimWindowEnd_of h))
  · exact next_congr (if_neg h)

end Sys2Proof.Proofs
end

section
/-! Proofs about the faults of fetching and of the step ceiling (R60, R64, R66, R87 to R89). -/

namespace Sys2Proof.Proofs
open Sys2Proof Sys2Proof.Machine

/-! ### An instruction that faults before it acts -/

section
variable {s : State} {k c : Nat} {w : BitVec 32} (act : Env → State → Ctx → Did)

/-- R127: with no context ready, nothing issues. -/
theorem runInsn_idle (h : readyOn s k = none) : runInsn k w act s = s := by
  unfold runInsn
  rw [h]

/-- R60: a fetch that the window does not allow. -/
theorem runInsn_outside (h : readyOn s k = some c)
    (hwin : windowAllows (suiteAt s (ctxSuite c)) .fetch (contextAt s c).pc.toNat 4 = false) :
    runInsn k w act s = takeFault s c k .bounds .none ((contextAt s c).pc.setWidth 64) 0 := by
  have hf : fetchFault s (suiteAt s (ctxSuite c)) (taskAt s c).ctx.pc =
      some (.fault .bounds .none (BitVec.ofNat 64 (taskAt s c).ctx.pc.toNat)) := by
    simp only [contextAt] at hwin
    simp [fetchFault, hwin]
  unfold runInsn
  simp only [h, issueEnv, hf, BitVec.ofNat_toNat]
  rfl

/-- R64: a fetch that meets an uncorrectable error. -/
theorem runInsn_fetchError (h : readyOn s k = some c) {b : Nat}
    (hwin : windowAllows (suiteAt s (ctxSuite c)) .fetch (contextAt s c).pc.toNat 4 = true)
    (hbad : uncorrectableIn s ((suiteAt s (ctxSuite c)).winBase + (contextAt s c).pc.toNat) 4 = some b) :
    runInsn k w act s = meetError (takeFault s c k .memory .none ((contextAt s c).pc.setWidth 64) 0) b 2 := by
  have hf : fetchFault s (suiteAt s (ctxSuite c)) (taskAt s c).ctx.pc =
      some (.memory (BitVec.ofNat 64 (taskAt s c).ctx.pc.toNat) b) := by
    simp only [contextAt] at hwin hbad
    simp [fetchFault, hwin, hbad]
  unfold runInsn
  simp only [h, issueEnv, hf, BitVec.ofNat_toNat]
  rfl

/-- The fetch of an instruction meets no fault. -/
theorem fetchFault_none
    (hwin : windowAllows (suiteAt s (ctxSuite c)) .fetch (contextAt s c).pc.toNat 4 = true)
    (hclean : uncorrectableIn s ((suiteAt s (ctxSuite c)).winBase + (contextAt s c).pc.toNat) 4 = none) :
    fetchFault s (suiteAt s (ctxSuite c)) (taskAt s c).ctx.pc = none := by
  simp only [contextAt] at hwin hclean
  simp [fetchFault, hwin, hclean]

theorem wordAtPc_corrected (a n : Nat) : wordAtPc (correctErrors s a n) c = wordAtPc s c := by
  simp only [wordAtPc, readBytes_corrected, taskAt, suiteAt, correctErrors_tasks, suites_corrected]

/-- R66: what stands at the pc is no instruction. -/
theorem runInsn_unlisted (h : readyOn s k = some c)
    (hwin : windowAllows (suiteAt s (ctxSuite c)) .fetch (contextAt s c).pc.toNat 4 = true)
    (hclean : uncorrectableIn s ((suiteAt s (ctxSuite c)).winBase + (contextAt s c).pc.toNat) 4 = none)
    (hill : fetchIllegal s k c = true) :
    runInsn k w act s = faulted s k c (wordAtPc s c) .illegal 0 := by
  unfold runInsn
  simp only [h, issueEnv, fetchFault_none hwin hclean, fetchIllegal_corrected, hill, wordAtPc_corrected]
  rfl

/-- R87: the instruction would take the context past its step ceiling. -/
theorem runInsn_steps (h : Fetches s k c) {info : WordInfo} (hw : readWord (isMgmt k) w = some info)
    (hover : overBudget s k c info.cost = true) : runInsn k w act s = faulted s k c w .steps 0 := by
  have hb : overBudget (correctErrors s ((suiteAt s (ctxSuite c)).winBase + (taskAt s c).ctx.pc.toNat) 4) k c info.cost = true := by
    rw [← hover]; simp only [overBudget, taskAt, correctErrors_tasks]; rfl
  unfold runInsn
  simp only [h.turn, issueEnv, fetchFault_none h.fetch h.clean, fetchIllegal_corrected, h.listed, hw, hb]
  rfl

end

theorem atBodyEnd_eq (x : Ctx) : atBodyEnd x = (currentLoop x).any (fun l => decide (l.last = x.pc)) := by
  unfold atBodyEnd
  cases currentLoop x with
  | none => rfl
  | some l => exact beq_eq_decide l.last x.pc

/-- R87: only a scan core has a step ceiling. -/
theorem overBudget_iff (s : State) (k c cost : Nat) :
    overBudget s k c cost = true ↔ k < 32 ∧ (taskAt s c).desc.worst < (contextAt s c).steps + cost +
      (if (currentLoop (contextAt s c)).any (fun l => decide (l.last = (contextAt s c).pc)) then 1 else 0) := by
  simp only [overBudget, isMgmt, charge, atBodyEnd_eq, contextAt, Bool.and_eq_true, Bool.not_eq_true', decide_eq_true_eq,
    decide_eq_false_iff_not, not_le, Nat.add_assoc]
  rfl

end Sys2Proof.Proofs
end

section
/-! Proofs about what a step sets aside: events, deltas, frames and replies leave the tasks, the SRAM, the points and the clock, drop no
record in flight and leave the state of each suite (R90, R136, R193, R223, R293, R375). -/

namespace Sys2Proof.Proofs
open Sys2Proof Sys2Proof.Machine

/-- The state `t` is `s` but for queues, ports, units, deltas and records: records in flight stay. -/
structure Aside (s t : State) : Prop where
  tasks : t.tasks = s.tasks
  sram : t.sram = s.sram
  points : t.points = s.points
  clock : t.clock = s.clock
  flight : ∀ e ∈ s.attic.flight, e ∈ t.attic.flight
  suites : ∀ n, (suiteAt t n).state = (suiteAt s n).state

namespace Aside

theorem rfl {s : State} : Aside s s := ⟨.refl _, .refl _, .refl _, .refl _, fun _ h => h, fun _ => .refl _⟩

theorem trans {s t u : State} (h : Aside s t) (k : Aside t u) : Aside s u :=
  ⟨k.tasks.trans h.tasks, k.sram.trans h.sram, k.points.trans h.points, k.clock.trans h.clock, fun e he => k.flight e (h.flight e he),
    fun n => (k.suites n).trans (h.suites n)⟩

/-- Nothing that the relation speaks of has changed. -/
theorem of_eq {s t : State} (ht : t.tasks = s.tasks) (hm : t.sram = s.sram) (hp : t.points = s.points) (hc : t.clock = s.clock)
    (ha : t.attic = s.attic) (hs : t.suites = s.suites) : Aside s t :=
  ⟨ht, hm, hp, hc, by rw [ha]; exact fun _ h => h, fun n => by rw [suiteAt, hs, suiteAt]⟩

theorem ite {p : Prop} [Decidable p] {s a b : State} (ha : Aside s a) (hb : Aside s b) : Aside s (if p then a else b) := by
  split
  · exact ha
  · exact hb

theorem foldl {α : Type} {f : State → α → State} (h : ∀ s a, Aside s (f s a)) (l : List α) (s : State) : Aside s (l.foldl f s) := by
  induction l generalizing s with
  | nil => exact rfl
  | cons a l ih => exact (h s a).trans (ih _)

theorem foldl_fst {α β : Type} {f : State × β → α → State × β} (h : ∀ r a, Aside r.1 (f r a).1) (l : List α) (r : State × β) :
    Aside r.1 (l.foldl f r).1 := by
  induction l generalizing r with
  | nil => exact rfl
  | cons a l ih => exact (h r a).trans (ih _)

end Aside

/-! ### Events and deltas -/

theorem setQueue_aside (s : State) (q : Nat) (f : Queue → Queue) : Aside s (setQueue s q f) := .of_eq rfl rfl rfl rfl rfl rfl

theorem setUnitStat_aside (s : State) (u : UnitId) (f : UnitStat → UnitStat) : Aside s (setUnitStat s u f) :=
  .of_eq rfl rfl rfl rfl rfl rfl

theorem setPort_aside (s : State) (p : Nat) (f : Port → Port) : Aside s (setPort s p f) := .of_eq rfl rfl rfl rfl rfl rfl

theorem countPort_aside (s : State) (p : Nat) (tx : Bool) (k n : Nat) : Aside s (countPort s p tx k n) := setPort_aside s p _

theorem setPoint_aside (s : State) (e : Nat) (v : PointVal) : Aside s (setPoint s e v) := .of_eq rfl rfl rfl rfl rfl rfl

theorem mirror_aside (s : State) (e : DeltaEntry) : Aside s (mirror s e) := .ite (.of_eq rfl rfl rfl rfl rfl rfl) .rfl

theorem shipDelta_aside (s : State) (p q : Bool) (t : Time80) (l : List DeltaEntry) (who : Option (Nat × Nat × Nat)) :
    Aside s (shipDelta s p q t l who) := .of_eq rfl rfl rfl rfl rfl rfl

/-- R375: a record that finds a place goes behind those in flight, and one that does not is only counted. -/
theorem postEvent_aside (s : State) (e : Event) : Aside s (postEvent s e) :=
  .ite ⟨rfl, rfl, rfl, rfl, fun _ h => List.mem_append_left _ h, fun _ => rfl⟩ ⟨rfl, rfl, rfl, rfl, fun _ h => h, fun _ => rfl⟩

theorem raiseEvent_aside (s : State) (suites : List Nat) (sev : Nat) (u : UnitId) (st : Status) (payload : List (BitVec 64)) :
    Aside s (raiseEvent s suites sev u st payload) :=
  (setUnitStat_aside s u _).trans (Aside.foldl (fun t _ => postEvent_aside t _) _ _)

/-- A counter of a suite that goes up: the suite's state stays. -/
theorem setSuite_aside {s : State} {n : Nat} {f : Suite → Suite} (hne : f (suiteAt s n) ≠ suiteDefault n)
    (hst : (f (suiteAt s n)).state = (suiteAt s n).state) : Aside s (setSuite s n f) := by
  refine ⟨rfl, rfl, rfl, rfl, fun _ h => h, fun m => ?_⟩
  by_cases hm : m = n
  · rw [hm, suiteAt_setSuite_ne_default hne, hst]
  · rw [suiteAt_setSuite_of_ne hne hm]

theorem bump_16_pos (n : Nat) : bump 16 n ≠ 0 := by
  rw [bump_16]; omega

theorem countThreshold_aside (s : State) (n : Nat) : Aside s (countThreshold s n) :=
  setSuite_aside (fun h => bump_16_pos _ (congrArg Suite.thresholdFaults h)) rfl

theorem breakJournal_aside (s : State) : Aside s (breakJournal s) :=
  have h : Aside s { s with journal := { s.journal with broken := true, rebuilding := true } } := .of_eq rfl rfl rfl rfl rfl rfl
  .ite .rfl (h.trans (raiseEvent_aside _ _ _ _ _ _))

theorem cutRecord_aside (s : State) (r : JournalRec) : Aside s (cutRecord s r) :=
  .ite .rfl (.ite (breakJournal_aside s) (.of_eq rfl rfl rfl rfl rfl rfl))

theorem mirrorCycle_aside (s : State) (c number : Nat) (st : Status) (lines : List (Nat × List Byte)) :
    Aside s (mirrorCycle s c number st lines) := mirror_aside s _

theorem takeLines_aside (s : State) (c : Nat) : Aside s (takeLines s c).1 := .of_eq rfl rfl rfl rfl rfl rfl

/-! ### Replies -/

theorem enterItem_aside (s : State) (q : Nat) (it : Item) : Aside s (enterItem s q it) :=
  .ite .rfl (.ite (setQueue_aside s q _) (((setQueue_aside s q _).trans (.ite (mirror_aside _ _) .rfl)).trans (setQueue_aside _ q _)))

theorem spendAndEnter_aside (s : State) (q : Nat) (it : Item) : Aside s (spendAndEnter s q it) :=
  (setQueue_aside s q _).trans (enterItem_aside _ q _)

theorem putItem_aside (s : State) (q : Nat) (who : Producer) (suite host prio : Nat) (ptag : Bool) (data : List Byte) :
    Aside s (putItem s q who suite host prio ptag data).1 := by
  unfold putItem
  dsimp only
  split
  · exact .rfl
  · split
    · exact .rfl
    · split
      · cases who with
        | engine _ => exact setQueue_aside s q _
        | _ => exact .rfl
      · exact spendAndEnter_aside s q _

theorem enterCompletion_aside (s : State) (q : Nat) (ctx : Option Nat) (suite : Nat) (data : List Byte) :
    Aside s (enterCompletion s q ctx suite data) := by
  unfold enterCompletion
  split
  · exact .ite .rfl (.ite (enterItem_aside s q _) (spendAndEnter_aside s q _))
  · exact .rfl
  · exact (setQueue_aside s q _).trans (putItem_aside _ q _ _ _ _ _ _)

theorem reportBroken_aside (s : State) (ctx : Option Nat) (c : Completion) : Aside s (reportBroken s ctx c).1 := by
  unfold reportBroken
  split
  · exact .of_eq rfl rfl rfl rfl rfl rfl
  · exact .rfl

theorem sendCompletion_aside (s : State) (q : Nat) (ctx : Option Nat) (c : Completion) : Aside s (sendCompletion s q ctx c) :=
  .ite .rfl ((reportBroken_aside s ctx c).trans (.ite
    (setSuite_aside (fun h => bump_16_pos _ (congrArg Suite.droppedReplies h)) rfl) (enterCompletion_aside _ _ _ _ _)))

theorem recordReply_aside (s : State) (u : UnitId) (target : BitVec 64) (tag rq code : Nat) (st : Status) (payload : List (BitVec 64)) :
    Aside s (recordReply s u target tag rq code st payload) :=
  have h : Aside s (keepRecord s { unit := u, target, tag, replyQueue := rq, atTick := s.tick, status := st, payload, code := some code }) :=
    .of_eq rfl rfl rfl rfl rfl rfl
  .ite (h.trans (mirror_aside _ _)) h

/-! ### Frames that a withdrawal sends -/

theorem wakePort_aside (s : State) (p : Nat) : Aside s (wakePort s p) :=
  .ite .rfl ((((setPort_aside s p _).trans (countPort_aside _ p _ _ _)).trans (setUnitStat_aside _ _ _)).trans (setPort_aside _ p _))

theorem wakeFloor_aside (s : State) : Aside s (wakeFloor s) := by
  have hsw : ∀ w, Aside s { s with sw := w } := fun w => .of_eq rfl rfl rfl rfl rfl rfl
  unfold wakeFloor
  split
  · exact .rfl
  · exact (hsw _).trans (Aside.foldl wakePort_aside _ _)
  · have hlow := (hsw { s.sw with quiet := .awake, transaction := none, quietAborts := bump 16 s.sw.quietAborts }).trans
      (raiseEvent_aside _ [0] 2 (.part switchPart) { cls := .withdrawn, reason := .wake } [BitVec.ofNat 64 (lpiPorts s).length])
    refine Aside.trans ?_ (Aside.foldl wakePort_aside _ _)
    dsimp only
    split
    · exact ((hlow.trans (setUnitStat_aside _ _ _)).trans (recordReply_aside _ _ _ _ _ _ _ _)).trans (sendCompletion_aside _ _ _ _)
    · exact hlow

theorem enterEgress_aside (s : State) (p : Nat) (f : EgFrame) : Aside s (enterEgress s p f).1 := by
  unfold enterEgress
  dsimp only
  generalize (if f.cls = .withdraw then displace (frameLen f.frame) (portAt s p).egress (portAt s p).egress.length
    else ((portAt s p).egress, 0)) = d
  have hroom : Aside s (if d.2 = 0 then s else countPort (setPort s p (fun x => { x with egress := d.1 })) p true 29 d.2) :=
    .ite .rfl ((setPort_aside s p _).trans (countPort_aside _ p _ _ _))
  generalize (if d.2 = 0 then s else countPort (setPort s p (fun x => { x with egress := d.1 })) p true 29 d.2) = r at hroom ⊢
  split
  · exact countPort_aside s p _ _ _
  · split
    · have hwake : ∀ t, Aside t (if quietPort t p then wakeFloor t else wakePort t p) := fun t =>
        .ite (wakeFloor_aside t) (wakePort_aside t p)
      exact Aside.trans ((hroom.trans (setPort_aside _ p (fun x => { x with egress := x.egress ++ [f] }))).trans (hwake _)) (setPort_aside _ p startNext)
    · exact hroom

theorem withdrawFrames_aside (s : State) (c cyc : Nat) (tc : Time80) (frames : List CycleFrame) :
    Aside s (withdrawFrames s c cyc tc frames).1 := by
  refine Aside.foldl_fst (fun r f => ?_) frames (s, [])
  dsimp only
  split
  · exact .rfl
  · split
    · exact setPort_aside r.1 _ _
    · exact enterEgress_aside r.1 _ _

end Sys2Proof.Proofs
end

section
/-! Proofs about the fault of a task (R88 to R90, R110, R136, R293): the task's cycle is cancelled, and no other task changes. -/

namespace Sys2Proof.Proofs
open Sys2Proof Sys2Proof.Machine

/-! ### What a fault leaves of its task -/

/-- A task but for the outcomes of its cancelled cycles, which a fault may settle. -/
def bare (τ : Task) : Task := { τ with cancelled := [], outcomes := [], lastStatus := { cls := .done, reason := .none } }

/-- The task's fault registers hold a fault. -/
def Marked (τ : Task) : Prop := τ.ctx.fd ≠ ({} : Task).ctx.fd

theorem Marked.ne_default {τ : Task} (h : Marked τ) : τ ≠ {} := fun he => h (congrArg (fun t => t.ctx.fd) he)

theorem Marked.of_bare {τ υ : Task} (h : Marked τ) (he : bare υ = bare τ) : Marked υ := by
  have hfd : υ.ctx.fd = τ.ctx.fd := congrArg (fun t => t.ctx.fd) he
  rwa [Marked, hfd]

/-- The state `t` is `s` but for what a step sets aside and for task `c`, which is `τ` but for its outcomes. -/
structure Leaves (c : Nat) (s t : State) (τ : Task) : Prop where
  sram : t.sram = s.sram
  points : t.points = s.points
  clock : t.clock = s.clock
  flight : ∀ e ∈ s.attic.flight, e ∈ t.attic.flight
  suites : ∀ n, (suiteAt t n).state = (suiteAt s n).state
  others : ∀ d, d ≠ c → taskAt t d = taskAt s d
  task : bare (taskAt t c) = bare τ

namespace Leaves
variable {c : Nat} {s t u : State} {τ : Task}

theorem start (h : bare (taskAt s c) = bare τ) : Leaves c s s τ :=
  ⟨.refl _, .refl _, .refl _, fun _ h => h, fun _ => .refl _, fun _ _ => .refl _, h⟩

theorem aside (h : Leaves c s t τ) (k : Aside t u) : Leaves c s u τ :=
  ⟨k.sram.trans h.sram, k.points.trans h.points, k.clock.trans h.clock, fun e he => k.flight e (h.flight e he),
    fun n => (k.suites n).trans (h.suites n), fun d hd => (taskAt_of_tasks k.tasks d).trans (h.others d hd), by rw [taskAt_of_tasks k.tasks, h.task]⟩

/-- A write to the task that does not look at its outcomes. -/
theorem setTask {f : Task → Task} (h : Leaves c s t τ) (hf : ∀ υ, bare (f υ) = bare (f (bare υ))) (hm : Marked (f τ)) :
    Leaves c s (setTask t c f) (f τ) := by
  have hbare : bare (f (taskAt t c)) = bare (f τ) := by rw [hf, h.task, ← hf]
  obtain ⟨-, hself, hother⟩ := setTask_onlyTask (hm.of_bare hbare).ne_default
  exact ⟨h.sram, h.points, h.clock, h.flight, h.suites, fun d hd => (hother d hd).trans (h.others d hd), by rw [hself, hbare]⟩

/-- A write to the outcomes of the task. -/
theorem outcomes {f : Task → Task} (h : Leaves c s t τ) (hf : ∀ υ, bare (f υ) = bare υ) (hm : Marked τ) :
    Leaves c s (Machine.setTask t c f) τ := by
  have hbare : bare (f (taskAt t c)) = bare τ := (hf _).trans h.task
  obtain ⟨-, hself, hother⟩ := setTask_onlyTask (hm.of_bare hbare).ne_default
  exact ⟨h.sram, h.points, h.clock, h.flight, h.suites, fun d hd => (hother d hd).trans (h.others d hd), by rw [hself, hbare]⟩

theorem foldl {α : Type} {f : State → α → State} (hf : ∀ t a, Leaves c s t τ → Leaves c s (f t a) τ) (l : List α) (h : Leaves c s t τ) :
    Leaves c s (l.foldl f t) τ := by
  induction l generalizing t with
  | nil => exact h
  | cons a l ih => exact ih (hf t a h)

end Leaves

/-! ### A cancelled cycle -/

section
variable {c : Nat} {s t : State} {τ : Task}

theorem outcomeEvent_aside (s : State) (c : Nat) (o : Outcome) : Aside s (outcomeEvent s c o) := raiseEvent_aside _ _ _ _ _ _

theorem tellWinner_aside (s : State) (c : Nat) (o : Outcome) : Aside s (tellWinner s c o) :=
  .ite (shipDelta_aside _ _ _ _ _ _) (outcomeEvent_aside s c o)

theorem Leaves.tellCycleOutcome (h : Leaves c s t τ) (hm : Marked τ) (o : Outcome) : Leaves c s (tellCycleOutcome t c o) τ := by
  unfold Machine.tellCycleOutcome
  split
  · exact h.outcomes (fun _ => rfl) hm
  · exact h.aside (outcomeEvent_aside t c o)

theorem Leaves.makeOutcome (h : Leaves c s t τ) (hm : Marked τ) (number : Nat) (frames : List CycleFrame) (override : Option Status) :
    Leaves c s (makeOutcome t c number frames override) τ := by
  have hlast : Leaves c s (Machine.setTask t c (fun t => { t with lastStatus := override.getD (outcomeStatus frames) })) τ :=
    h.outcomes (fun _ => rfl) hm
  unfold Machine.makeOutcome
  dsimp only
  split
  · exact hlast.aside (tellWinner_aside _ c _)
  · exact (hlast.aside (.ite (mirror_aside _ _) .rfl)).tellCycleOutcome hm _

theorem Leaves.settleCancelled (h : Leaves c s t τ) (hm : Marked τ) : Leaves c s (settleCancelled t c) τ := by
  unfold Machine.settleCancelled
  refine Leaves.foldl (fun r x hr => ?_) _ (h.outcomes (fun _ => rfl) hm)
  exact (hr.aside (Aside.foldl (fun r (v : Nat × PointVal) => setPoint_aside r v.1 v.2) _ _)).makeOutcome hm _ _ _

/-- R136: what is cancelled of the cycle of a task leaves the task without a cycle. -/
theorem Leaves.cancelCycle (h : Leaves c s t τ) (hm : Marked τ) (y : Cycle) (override : Option Status) :
    Leaves c s (cancelCycle t c y override) { τ with cycle := none } := by
  have hm' : Marked { τ with cycle := none } := hm
  have hcredit := h.aside (Aside.foldl (fun r (p : Released) =>
    setQueue_aside r p.queue (fun q => returnCredit q p.credit (reservationEnd r (.task c p.binding)))) y.staged.packets t)
  have hlatches : ∀ r : State, Aside r { r with latches := r.latches.filter (fun l => !(l.ctx == c && l.cyc == y.number)) } := fun r =>
    .of_eq rfl rfl rfl rfl rfl rfl
  have hfree := (hcredit.setTask (f := fun t => { t with cycle := none }) (fun _ => rfl) hm').aside (hlatches _)
  unfold Machine.cancelCycle
  dsimp only
  refine Leaves.settleCancelled (.aside ?_ (.ite (mirror_aside _ _) .rfl)) hm'
  exact ((hfree.aside (.ite .rfl (mirrorCycle_aside _ _ _ _ _))).aside (withdrawFrames_aside _ _ _ _ _)).outcomes (fun _ => rfl) hm'

/-- R110: an open packet is gone. -/
theorem Leaves.dropPacket (h : Leaves c s t τ) (hm : Marked τ) :
    Leaves c s (dropPacket t c) { τ with ctx := { τ.ctx with packet := none } } := by
  have hctx : (taskAt t c).ctx = τ.ctx := (congrArg Task.ctx h.task :)
  unfold Machine.dropPacket
  rw [hctx]
  split
  · next hnone =>
    have he : { τ with ctx := { τ.ctx with packet := none } } = τ := by rw [← hnone]
    rwa [he]
  · exact (h.setTask (f := fun t => { t with ctx := { t.ctx with packet := none } }) (fun _ => rfl) hm).aside (setQueue_aside _ _ _)

/-! ### A task's fault -/

/-- R90: the task once it has faulted, but for its status: the packet and the cycle are gone, and the faults are counted. -/
def afterFault (τ : Task) : Task := { τ with
  ctx := { τ.ctx with packet := none }, consecFaults := min 31 (τ.consecFaults + 1), faults := bump 16 τ.faults,
  maxSteps := max τ.maxSteps τ.ctx.steps, cycle := none }

/-- The task has no mode change waiting, and one more fault does not reach its limit (R134, R138). -/
structure StaysInMode (τ : Task) : Prop where
  limit : τ.consecFaults + 1 < τ.desc.faultLimit
  noStop : τ.stopPending = none
  noHold : τ.brkHold = false
  noStep : τ.stepping = false

theorem afterCycle_stays {r : State} (hr : bare (taskAt r c) = bare (afterFault τ)) (hτ : StaysInMode τ) : afterCycle r c = r := by
  have hcycle : (taskAt r c).cycle = none := (congrArg Task.cycle hr :)
  have hstop : (taskAt r c).stopPending = none := (congrArg Task.stopPending hr :).trans hτ.noStop
  have hhold : (taskAt r c).brkHold = false := (congrArg Task.brkHold hr :).trans hτ.noHold
  have hstep : (taskAt r c).stepping = false := (congrArg Task.stepping hr :).trans hτ.noStep
  unfold afterCycle
  simp only [hcycle, hstop, hhold, hstep, Option.isSome_none, Bool.false_eq_true, if_false, Bool.or_self]

theorem below_limit {r : State} (hr : bare (taskAt r c) = bare (afterFault τ)) (hτ : StaysInMode τ) :
    ¬ (taskAt r c).desc.faultLimit ≤ (taskAt r c).consecFaults := by
  have hlimit : (taskAt r c).desc.faultLimit = τ.desc.faultLimit := (congrArg (fun t => t.desc.faultLimit) hr :)
  have hcount : (taskAt r c).consecFaults = min 31 (τ.consecFaults + 1) := (congrArg Task.consecFaults hr :)
  have hlow := hτ.limit
  rw [hlimit, hcount]
  omega

theorem faultCycle_leaves {y : Cycle} {st : Status} (h : Leaves c s t τ) (hm : Marked τ) (hy : τ.cycle = some y)
    (hreset : resetting s (ctxSuite c) = false) (hτ : StaysInMode τ) :
    Leaves c s (faultCycle t c st) (afterFault τ) ∧ (taskAt (faultCycle t c st) c).lastStatus = st := by
  have hcycle : (taskAt t c).cycle = some y := (congrArg Task.cycle h.task :).trans hy
  have hdrop := h.dropPacket hm
  unfold faultCycle
  rw [hcycle]
  dsimp only
  generalize hr : setTask (cutRecord (mirrorCycle (takeLines (dropPacket t c) c).1 c y.number st (takeLines (dropPacket t c) c).2)
    { suite := ctxSuite c, task := ctxTask c, cyc := y.number, commit := y.commit, lines := (takeLines (dropPacket t c) c).2, points := [] }) c
    (fun t => { t with consecFaults := min 31 (t.consecFaults + 1), faults := bump 16 t.faults, maxSteps := max t.maxSteps t.ctx.steps }) = r
  have hcounted : Leaves c s r { τ with
      ctx := { τ.ctx with packet := none }, consecFaults := min 31 (τ.consecFaults + 1), faults := bump 16 τ.faults,
      maxSteps := max τ.maxSteps τ.ctx.steps } := by
    rw [← hr]
    exact (((hdrop.aside (takeLines_aside _ c)).aside (mirrorCycle_aside _ c _ _ _)).aside (cutRecord_aside _ _)).setTask
      (f := fun t => { t with consecFaults := min 31 (t.consecFaults + 1), faults := bump 16 t.faults, maxSteps := max t.maxSteps t.ctx.steps })
      (fun _ => rfl) hm
  have hcancel : Leaves c s (cancelCycle r c y none) (afterFault τ) := hcounted.cancelCycle hm y none
  have hend := hcancel.outcomes (f := fun t => { t with lastStatus := st }) (fun _ => rfl) hm
  have hlast : (taskAt (setTask (cancelCycle r c y none) c (fun t => { t with lastStatus := st })) c).lastStatus = st := by
    have hne : Marked { taskAt (cancelCycle r c y none) c with lastStatus := st } :=
      Marked.of_bare (τ := afterFault τ) hm hcancel.task
    obtain ⟨-, hself, -⟩ := setTask_onlyTask (g := fun t => { t with lastStatus := st }) hne.ne_default
    rw [hself]
  generalize setTask (cancelCycle r c y none) c (fun t => { t with lastStatus := st }) = z at hend hlast ⊢
  have hno : resetting z (ctxSuite c) = false := by rw [resetting, hend.suites, ← resetting, hreset]
  rw [hno, if_neg Bool.false_ne_true, if_neg (below_limit hend.task hτ), afterCycle_stays hend.task hτ]
  exact ⟨hend, hlast⟩

end

/-! ### The fault descriptor -/

theorem classNo_lt (cls : FClass) : cls.ctorIdx + 1 < 2 ^ 4 := by cases cls <;> decide

/-- R88: the first word: the status, the class, the suite, the task and the pc. -/
theorem faultHead_eq (st : Status) (cls : FClass) (pc : BitVec 32) {a b : Nat} (ha : a < 2 ^ 6) (hb : b < 2 ^ 5) :
    pack [(0, 8, Machine.Status.byte st), (8, 4, cls.ctorIdx + 1), (16, 6, a), (22, 5, b), (32, 32, pc.toNat)] =
      BitVec.ofNat 64 (Machine.Status.byte st + (cls.ctorIdx + 1) * 2 ^ 8 + a * 2 ^ 16 + b * 2 ^ 22 + pc.toNat * 2 ^ 32) := by
  have hstatus : Machine.Status.byte st < 2 ^ 8 := byte_lt st
  have hpc : pc.toNat < 2 ^ 32 := pc.isLt
  rw [pack, List.foldl, List.foldl, List.foldl, List.foldl, List.foldl, List.foldl, Nat.mod_eq_of_lt hstatus,
    Nat.mod_eq_of_lt (classNo_lt cls), Nat.mod_eq_of_lt ha, Nat.mod_eq_of_lt hb, Nat.mod_eq_of_lt hpc, Nat.zero_add, Nat.pow_zero, Nat.mul_one]

/-- R88: the third word: the instruction, the core and the steps. -/
theorem faultSteps_eq (insn : BitVec 32) {core steps : Nat} (hcore : core < 2 ^ 6) (hsteps : steps < 2 ^ 24) :
    pack [(0, 32, insn.toNat), (32, 6, core), (40, 24, steps)] = BitVec.ofNat 64 (insn.toNat + core * 2 ^ 32 + steps * 2 ^ 40) := by
  have hinsn : insn.toNat < 2 ^ 32 := insn.isLt
  rw [pack, List.foldl, List.foldl, List.foldl, List.foldl, Nat.mod_eq_of_lt hinsn, Nat.mod_eq_of_lt hcore, Nat.mod_eq_of_lt hsteps,
    Nat.zero_add, Nat.pow_zero, Nat.mul_one]

theorem satN_24 (n : Nat) : satN 24 n = min n (2 ^ 24 - 1) := rfl

theorem vector_congr {α : Type} {a a' b c c' d d' : α} (ha : a = a') (hc : c = c') (hd : d = d') :
    (#v[a, b, c, d] : Vector α 4) = #v[a', b, c', d'] := by
  rw [ha, hc, hd]

/-- R90: the words of the fault descriptor, each field at its place. -/
theorem faultWords_eq (s : State) {c core : Nat} (x : Ctx) (cls : FClass) (st : Status) (addr : BitVec 64) (insn : BitVec 32)
    (hc : c < 2048) (hcore : core < 64) (ht : TimeOk (now s)) :
    faultWords s c core x cls st addr insn = #v[
      BitVec.ofNat 64 (Machine.Status.byte st + (cls.ctorIdx + 1) * 2 ^ 8 + c / 32 * 2 ^ 16 + c % 32 * 2 ^ 22 + x.pc.toNat * 2 ^ 32), addr,
      BitVec.ofNat 64 (insn.toNat + core * 2 ^ 32 + min x.steps (2 ^ 24 - 1) * 2 ^ 40),
      BitVec.ofNat 64 ((now s).ns + (now s).sec % 2 ^ 32 * 2 ^ 32)] := by
  have hsuite : c / 32 < 2 ^ 6 := by omega
  have htask : c % 32 < 2 ^ 5 := by omega
  have hsuiteNo : ctxSuite c = c / 32 := if_pos hc
  have htaskNo : ctxTask c = c % 32 := if_pos hc
  have hcore' : core < 2 ^ 6 := hcore
  have hsteps : min x.steps (2 ^ 24 - 1) < 2 ^ 24 := by omega
  refine vector_congr ?_ ?_ (nowForm_eq ht)
  · rw [hsuiteNo, htaskNo]
    exact faultHead_eq st cls x.pc hsuite htask
  · rw [satN_24]
    exact faultSteps_eq insn hcore' hsteps

/-! ### The event of a fault -/

/-- R375: an event that finds a place is in flight. -/
theorem raiseEvent_posts {s : State} {n sev : Nat} {u : UnitId} {st : Status} {payload : List (BitVec 64)} (hroom : inFlight s sev < 256) :
    ∃ e ∈ (raiseEvent s [n] sev u st payload).attic.flight,
      e.sev = sev ∧ e.suite = n ∧ e.code % 256 = Machine.Status.byte st ∧ e.time = now s := by
  have hroom' : inFlight (noteSeverity s u sev st) sev < 256 := hroom
  have hone : raiseEvent s [n] sev u st payload = postEvent (noteSeverity s u sev st)
      { suite := n, sev := sev, code := unitKind u * 256 + Machine.Status.byte st, time := now (noteSeverity s u sev st),
        source := unitAddr (noteSeverity s u sev st) u, payload := payload } := rfl
  rw [hone, postEvent, if_pos hroom']
  exact ⟨_, List.mem_append_right _ List.mem_cons_self, rfl, rfl, by
    rw [Nat.mul_comm, Nat.mul_add_mod]; exact Nat.mod_eq_of_lt (byte_lt st), rfl⟩

/-! ### The fault -/

/-- R90: the registers of a context that has faulted. -/
def withFault (s : State) (c core : Nat) (cls : FClass) (dev : Reason) (addr : BitVec 64) (insn : BitVec 32) (τ : Task) : Task :=
  { τ with ctx := { τ.ctx with fd := faultWords s c core (contextAt s c) cls (stFault (cls.reason dev)) addr insn } }

/-- R88, R90: a fault of a task: its descriptor is written, a window violation counts, the event is sent, and its cycle is cancelled. -/
theorem takeFault_task {s : State} {c core : Nat} {cls : FClass} {dev : Reason} {addr : BitVec 64} {insn : BitVec 32}
    (h1 : 1 ≤ c) (hc : c < 2048) : takeFault s c core cls dev addr insn =
      faultCycle (raiseEvent (if cls = .bounds then countThreshold (setTask s c (withFault s c core cls dev addr insn)) (ctxSuite c)
        else setTask s c (withFault s c core cls dev addr insn)) [ctxSuite c] 4 (roomUnit (core / 4)) (stFault (cls.reason dev)) [])
        c (stFault (cls.reason dev)) := by
  have hf : isFoundation c = false := beq_false_of_ne (by omega)
  unfold takeFault
  simp only [hf, if_pos hc]
  rfl

/-- R88: the class of a fault is not 0, so the first word of the descriptor is not. -/
theorem faultHead_ne_zero (st : Status) (cls : FClass) (pc : BitVec 32) (a b : Nat) :
    BitVec.ofNat 64 (Machine.Status.byte st + (cls.ctorIdx + 1) * 2 ^ 8 + a * 2 ^ 16 + b * 2 ^ 22 + pc.toNat * 2 ^ 32) ≠ 0#64 := by
  intro h
  have hstatus := byte_lt st
  have hcls := classNo_lt cls
  have hpc := pc.isLt
  have hz := congrArg BitVec.toNat h
  rw [BitVec.toNat_ofNat, BitVec.toNat_ofNat] at hz
  omega

theorem withFault_marked {s : State} {c core : Nat} {cls : FClass} {dev : Reason} {addr : BitVec 64} {insn : BitVec 32} {τ : Task}
    (hc : c < 2048) (hcore : core < 64) (ht : TimeOk (now s)) : Marked (withFault s c core cls dev addr insn τ) := by
  intro h
  have hhead := congrArg (fun v : Vector (BitVec 64) 4 => v[0])
    ((faultWords_eq s (contextAt s c) cls (stFault (cls.reason dev)) addr insn hc hcore ht).symm.trans h)
  exact faultHead_ne_zero (stFault (cls.reason dev)) cls (contextAt s c).pc (c / 32) (c % 32) hhead

/-- R88 to R90: what the fault of a task leaves. -/
theorem takeFault_leaves {s : State} {c core : Nat} {cls : FClass} {dev : Reason} {addr : BitVec 64} {insn : BitVec 32} {y : Cycle}
    (h1 : 1 ≤ c) (hc : c < 2048) (hcore : core < 64) (ht : TimeOk (now s)) (hy : (taskAt s c).cycle = some y)
    (hreset : resetting s (ctxSuite c) = false) (hτ : StaysInMode (taskAt s c)) :
    Leaves c s (takeFault s c core cls dev addr insn) (afterFault (withFault s c core cls dev addr insn (taskAt s c))) ∧
    (taskAt (takeFault s c core cls dev addr insn) c).lastStatus = stFault (cls.reason dev) ∧
    (inFlight s 4 < 256 → ∃ e ∈ (takeFault s c core cls dev addr insn).attic.flight,
      e.sev = 4 ∧ e.suite = ctxSuite c ∧ e.code % 256 = Machine.Status.byte (stFault (cls.reason dev)) ∧ e.time = now s) := by
  have hm : Marked (withFault s c core cls dev addr insn (taskAt s c)) := withFault_marked hc hcore ht
  have hτ' : StaysInMode (withFault s c core cls dev addr insn (taskAt s c)) := ⟨hτ.limit, hτ.noStop, hτ.noHold, hτ.noStep⟩
  have hfd : Leaves c s (setTask s c (withFault s c core cls dev addr insn)) (withFault s c core cls dev addr insn (taskAt s c)) :=
    (Leaves.start rfl).setTask (fun _ => rfl) hm
  have hcount := hfd.aside (.ite (p := cls = .bounds) (countThreshold_aside _ (ctxSuite c)) .rfl)
  have hroom : inFlight (if cls = .bounds then countThreshold (setTask s c (withFault s c core cls dev addr insn)) (ctxSuite c)
      else setTask s c (withFault s c core cls dev addr insn)) 4 = inFlight s 4 := by split <;> rfl
  rw [takeFault_task h1 hc]
  generalize (if cls = .bounds then countThreshold (setTask s c (withFault s c core cls dev addr insn)) (ctxSuite c)
      else setTask s c (withFault s c core cls dev addr insn)) = r at hcount hroom ⊢
  have hevent := hcount.aside (raiseEvent_aside r [ctxSuite c] 4 (roomUnit (core / 4)) (stFault (cls.reason dev)) [])
  obtain ⟨hend, hlast⟩ := faultCycle_leaves (st := stFault (cls.reason dev)) hevent hm hy hreset hτ'
  refine ⟨hend, hlast, fun hfree => ?_⟩
  obtain ⟨e, he, hsev, hsuite, hcode, htime⟩ := raiseEvent_posts (n := ctxSuite c) (u := roomUnit (core / 4))
    (st := stFault (cls.reason dev)) (payload := []) (hroom.trans_lt hfree)
  have hreset' : resetting (raiseEvent r [ctxSuite c] 4 (roomUnit (core / 4)) (stFault (cls.reason dev)) []) (ctxSuite c) = false := by
    rw [resetting, hevent.suites, ← resetting, hreset]
  obtain ⟨hlater, -⟩ := faultCycle_leaves (st := stFault (cls.reason dev)) (Leaves.start hevent.task) hm hy hreset' hτ'
  exact ⟨e, hlater.flight e he, hsev, hsuite, hcode, htime.trans (congrArg HouseClock.time hcount.clock)⟩

/-- Settles O27: the fetch and the ceiling stop an instruction before it acts, and the fault of a task runs through its cycle's end. -/
theorem faultsAreTaken : Obligations.FaultsAreTaken := by
  refine ⟨fun i s k w hk hw => ?_, fun s c core cls dev addr insn y h1 hc hcore ht hy hreset hlimit hnarrow hstop hhold hstep => ?_⟩
  · obtain ⟨act, hexec⟩ := exec_runsInsn i k w hk hw
    rw [hexec s]
    exact ⟨fun h => next_congr (runInsn_idle act h), fun c h => ⟨fun hwin => next_congr (runInsn_outside act h hwin),
      fun hwin b hbad => next_congr (runInsn_fetchError act h hwin hbad),
      fun hwin hclean hill => next_congr (runInsn_unlisted act h hwin hclean hill)⟩,
      fun c info h hread hover => next_congr (runInsn_steps act h hread hover), overBudget_iff s k⟩
  · obtain ⟨hend, hlast, hevent⟩ := takeFault_leaves (cls := cls) (dev := dev) (addr := addr) (insn := insn) h1 hc hcore ht hy hreset
      ⟨hlimit, hstop, hhold, hstep⟩
    have hwords := faultWords_eq s (contextAt s c) cls (stFault (cls.reason dev)) addr insn hc hcore ht
    refine ⟨?_, (congrArg Task.cycle hend.task :), hlast, ?_, ?_, (congrArg Task.mode hend.task :), hend.sram, hend.points, hend.others, hevent⟩
    · exact (congrArg Task.ctx hend.task :).trans (congrArg (fun fd => { contextAt s c with packet := none, fd }) hwords)
    · have hcount : min 31 ((taskAt s c).consecFaults + 1) = (taskAt s c).consecFaults + 1 := by omega
      exact (congrArg Task.consecFaults hend.task :).trans hcount
    · exact (congrArg Task.faults hend.task :)

end Sys2Proof.Proofs
end
